-- ==== Sys2Proof/Word.lean ====
section
/-!
DEFINITION. Sys2Proof/Word.lean: the word and byte types of the GV7128. A register is one 32-bit word (R509),
a Porow instruction one 64-bit word (R97).
-/

namespace Sys2Proof

/-- One register word (R509). -/
abbrev Word := BitVec 32

/-- One byte of a memory, a packet or a message. -/
abbrev Byte := BitVec 8

/-- One instruction word (R97). -/
abbrev IWord := BitVec 64

end Sys2Proof
end

