-- ==== Sys2Proof/Syntax.lean ====
section
/-!
DEFINITION. Sys2Proof/Syntax.lean: the commands the device takes. One constructor of `Instr` for each row of the
table of operations, with what the row's step is about: the sequencer and its decoded operands, the quadrant, the
word written to a register, the fields of a packet that arrived, what was measured on a pin.
-/

namespace Sys2Proof

/-- A sequencer: 0 to 3 are SQ0 to SQ3, 4 is SQS (R64). -/
abbrev SeqId := Fin 5
/-- A quadrant (R11). -/
abbrev QuadId := Fin 4
/-- A general register g0 to g15 (R64). -/
abbrev GReg := Fin 16
/-- A time register t0 to t3 (R64). -/
abbrev TReg := Fin 4
/-- A word address field WADDR of format R: byte address bits [25:2] (R97). -/
abbrev WAddr := BitVec 24

/-- Condition codes (R99). -/
inductive Cond where | eq | ne | lt | ge | ltu | geu
deriving DecidableEq, Repr

/-- Where WAIT.L, ARM.L and TLINE take the line offset n from: the field N (NREG = 0) or a register (NREG = 1, R97). -/
inductive LineOff where | imm (n : BitVec 16) | reg (g : GReg)
deriving DecidableEq, Repr

/-- The parts that TGET and TPUT select (R109). -/
inductive TPart where | secLo | secHi | ns
deriving DecidableEq, Repr

/-- The DEST values of EVENT (R113). -/
inductive EvDest where | host | pin | both
deriving DecidableEq, Repr

/-- A decoded Porow instruction (R97, R98). -/
inductive POp where
  | add (d a b : GReg) | sub (d a b : GReg) | and (d a b : GReg) | or (d a b : GReg) | xor (d a b : GReg)
  | shl (d a b : GReg) | shr (d a b : GReg) | sar (d a b : GReg) | mul (d a b : GReg) | mov (d a : GReg)
  | addi (d a : GReg) (imm : Word) | andi (d a : GReg) (imm : Word) | ori (d a : GReg) (imm : Word)
  | xori (d a : GReg) (imm : Word) | shli (d a : GReg) (sh : Fin 32) | shri (d a : GReg) (sh : Fin 32)
  | sari (d a : GReg) (sh : Fin 32) | li (d : GReg) (imm : Word)
  | cmp (c : Cond) (a b : GReg) | cmpi (c : Cond) (a : GReg) (imm : Word)
  | br (target : BitVec 15) | brP (target : BitVec 15) | brNp (target : BitVec 15) | call (target : BitVec 15) | ret
  | ld (d a : GReg) (off : BitVec 16) | st (d a : GReg) (off : BitVec 16)
  | rd (g : GReg) (w : WAddr) | wr (w : WAddr) (g : GReg) | wri (w : WAddr) (imm : Word)
  | rmw (w : WAddr) (m g : GReg) | rdIndirect (d a : GReg) | wrIndirect (a d : GReg)
  | trd (t : TReg) (w : WAddr) | twr (w : WAddr) (t : TReg)
  | pop (d : GReg) | popQ (g : GReg) (w : WAddr) | push (w : WAddr) (g : GReg) | droppkt (w : WAddr)
  | tmov (d a : TReg) | tadd (d a : TReg) (g : GReg) | taddi (d a : TReg) (imm : Word)
  | tadds (d a : TReg) (imm : Word) | tsub (g : GReg) (a b : TReg) | tcmp (c : Cond) (a b : TReg)
  | tget (g : GReg) (a : TReg) (p : TPart) | tput (d : TReg) (g : GReg) (p : TPart)
  | tline (d : TReg) (g1 g2 : GReg) (n : LineOff)
  | tld (d : TReg) (g : GReg) (off : BitVec 16) | tst (a : TReg) (g : GReg) (off : BitVec 16)
  | waitT (t : TReg) | waitL (k : GReg) (n : LineOff) | waitE | fence (k m : GReg) (t : TReg)
  | armT (t : TReg) (a : Fin 8) | armL (k : GReg) (n : LineOff) (a : Fin 8) | disarm (a : Fin 8)
  | commit (mask : BitVec 4) | event (data : Bool) (dest : EvDest) (g : GReg) (code : Byte) | halt | nop
deriving DecidableEq, Repr

/-- Who makes a register access (R65); the board port writes with the reach of SQS (R538), the root of trust
applies the parameter image (R521). -/
inductive Master where | sq (n : QuadId) | sqs | host | board | rot
deriving DecidableEq, Repr

/-- A network port: 0 is A, 1 is B. -/
abbrev PortId := Fin 2

/-- How a Rekin or PTP frame is carried (R152): EtherType 0x88B5, UDP over IPv4 or IPv6 with its addresses and
ports, and whether it is a fragment or has IPv6 extension headers, or another EtherType. -/
inductive Encap where
  | raw
  | udp4 (src dst : BitVec 32) (sport dport : BitVec 16) (frag : Bool)
  | udp6 (src dst : BitVec 128) (sport dport : BitVec 16) (frag : Bool)
  | other (etherType : BitVec 16)
deriving DecidableEq, Repr

/-- A frame as a port's MAC receives it: its length through the FCS, whether the FCS holds, the number of
802.1Q tags, and the addresses (R295, R297). -/
structure NetFrame where
  port   : PortId
  len    : Nat
  fcsOk  : Bool
  tags   : Nat
  src    : BitVec 48
  dst    : BitVec 48
  encap  : Encap
deriving DecidableEq, Repr

/-- A PTP message that reaches a port: its frame, and what it carries for the filters of R34, R35 and R39. -/
structure PtpHdr where
  frame     : NetFrame
  domain    : Byte
  clockId   : BitVec 64    -- sourcePortIdentity
  portNum   : BitVec 16
  seq       : BitVec 16
  corrField : BitVec 64    -- correctionField, signed, in units of 2^-16 ns
  cksum     : BitVec 16    -- the checksum of the UDP datagram, 0 for none
  auth      : Option (Word × BitVec 256) -- the keyID of its AUTHENTICATION TLV, and a key under which the TLV is valid (R39)
deriving DecidableEq, Repr

/-- What a frame that only passes through a port is to the transparent clock (R37, R301): no PTP event message, or one
with its correctionField and UDP checksum, and the variable part of its receive latency. -/
inductive PtpEvent where
  | no
  | event (corrField : BitVec 64) (cksum : BitVec 16) (varLat : Nat)
deriving DecidableEq, Repr

/-- What a DRAM read meets on its way: nothing, an error on the link (R397), or an error of the stored word
(R398, R399). -/
inductive DramErr where | ok | linkCorr | linkUncorr | corr | uncorr
deriving DecidableEq, Repr

/-- The 28-byte header of a Rekin packet (R153). -/
structure RknHdr where
  ver     : BitVec 4
  typ     : BitVec 4
  flags   : Byte
  flow    : BitVec 16
  seq     : BitVec 48
  frame   : BitVec 32
  surface : Byte
  res1    : Byte
  x       : BitVec 16
  y       : BitVec 16
  w       : BitVec 16
  h       : BitVec 16
  len     : BitVec 16
  res2    : BitVec 16
deriving DecidableEq, Repr

/-- A Rekin packet as it arrives: its frame, and the bytes that the encapsulation delivers: the UDP payload, or
everything between EtherType 0x88B5 and the FCS, padding included (R152, R153). `perr`: the context of its flow reads
with a parity error (R477). -/
structure RknPkt where
  frame : NetFrame
  data  : List Byte
  perr  : Bool := false
deriving DecidableEq, Repr

/-- A Rekin packet whose tag has verified: its frame, its header and its payload in the clear (R155). -/
structure RknMsg where
  frame : NetFrame
  hdr   : RknHdr
  body  : List Byte
deriving DecidableEq, Repr

/-- A neighbour port: 0 N, 1 E, 2 S, 3 W. -/
abbrev NbrId := Fin 4

/-- A neighbour frame as received (R312): the bytes between START and TERM, the CRC-32C that TERM carries, whether a
control block of another type came between them (R269). -/
structure NbrRaw where
  data  : List Byte
  crc   : BitVec 32
  other : Bool := false
deriving DecidableEq, Repr

/-- What the header ECC of a CSI-2 packet finds: no error, one bit that it corrects, or more (R363). -/
inductive CsiEcc where | ok | corrected | bad
deriving DecidableEq, Repr

/-- A CSI-2 long packet: its header's ECC, virtual channel and data type, whether its CRC holds, and its pixel codes
as received (R362, R363). -/
structure CsiLine where
  ecc    : CsiEcc
  vc     : Fin 16
  dt     : BitVec 6
  crcOk  : Bool
  pixels : List (BitVec 12)
deriving DecidableEq, Repr

/-- What manufacture writes into a device (R416, R427): DEVICE_ID, the device-unique key, VENDOR_HASH, the private identity
key, the device certificate, pieces of the boot flash by offset, and the rows (slice, row) that the repair fuses replace
(R473). -/
structure Factory where
  deviceId   : BitVec 64
  uniqueKey  : BitVec 256
  vendorHash : BitVec 384
  idKey      : BitVec 384
  cert       : List Byte
  flash      : List (Nat × List Byte)
  repairs    : List (Nat × Nat) := []
deriving DecidableEq, Repr

/-- What a boot meets: the results of logic BIST and of the fuse load (R465, R466), the rows (slice, row) in which memory
BIST newly fails (R472), whether each firmware slot, OTP, the parameter image and the identity region read (R420, R427,
R520); on a device whose OTP is unwritten, what manufacture writes first. -/
structure BootIn where
  logicOk    : Bool := true
  fuseOk     : Bool := true
  rows       : List (Nat × Nat) := []
  slot0Reads : Bool := true
  slot1Reads : Bool := true
  otpOk      : Bool := true
  imageReads : Bool := true
  identityOk : Bool := true
  factory    : Option Factory := none
deriving DecidableEq, Repr

/-- What MR4 of a DRAM channel reports (R393): its refresh-rate field, the requirement that it stands for as a code, and
whether 4x refresh no longer suffices. -/
structure Mr4 where
  rate : BitVec 3
  need : Fin 3
  high : Bool
deriving DecidableEq, Repr

/-- What a thermal sample slot finds in the quadrants: the tap lengths (R404), and MR4 of both channels (R393). -/
structure SlotSample where
  taps : List (BitVec 16)
  mr4  : List (Mr4 × Mr4)
deriving DecidableEq, Repr

/-- What a thermal round has measured: each sensor's reading in signed 12.4 °C, none where it is out of range or too
slow (R448, R451), and the speed-monitor margin (R460). -/
structure ThmRound where
  sensors : List (Option (BitVec 16))
  margin  : BitVec 8
deriving DecidableEq, Repr

/-- The commands and steps of the device: one constructor for every row of the table of operations. -/
inductive Instr where
  /-- WALL_TIME_TICK (R28): Each core cycle the wall-time unit adds its increment, servo-adjusted and clamped to WT_FREQ_LIMIT, to the wall-time counter. -/
  | wallTimeTick
  /-- SNAP (R30): A write of 1 to WT_CTRL.SNAP starts a copy of the wall-time counter into the snapshot registers. -/
  | snap
  /-- SNAPSHOT_READY (R30): Four core cycles after SNAP, the snapshot is written as one value and VALID is set. -/
  | snapshotReady
  /-- SYNC (R40): A Sync message of a tracked domain is time-stamped, filtered and used as an offset sample by the slot's servo. -/
  | sync (h : PtpHdr) (twoStep : Bool) (origin : Int) (varLat : Nat)
  /-- FOLLOW_UP (R35): A Follow_Up message completes the two-step Sync measurement of its slot. -/
  | followUp (h : PtpHdr) (origin : Int)
  /-- DELAY_RESP (R35): A Delay_Resp message gives the slot its end-to-end path delay measurement. -/
  | delayResp (h : PtpHdr) (ours : Bool) (receipt : Int)
  /-- PDELAY_REQ (R36): A Pdelay_Req from the link partner is answered by the device. -/
  | pdelayReq (h : PtpHdr) (varLat : Nat)
  /-- PDELAY_RESP (R35): A Pdelay_Resp message gives the slot a peer-delay measurement. -/
  | pdelayResp (h : PtpHdr) (ours : Bool) (twoStep : Bool) (t2 : Int) (varLat : Nat)
  /-- PDELAY_RESP_FOLLOW_UP (R35): A Pdelay_Resp_Follow_Up message completes a two-step peer-delay measurement. -/
  | pdelayRespFollowUp (h : PtpHdr) (ours : Bool) (t3 : Int)
  /-- ANNOUNCE (R35): An Announce, Signaling or Management PTP message is placed in a receive buffer and passed to the SQS event queue. -/
  | announce (h : PtpHdr) (body : List Byte)
  /-- SLOT_TIMEOUT (R42): A slot receives no valid Sync for SYNC_TIMEOUT Sync intervals and times out. -/
  | slotTimeout (d : Fin 2)
  /-- ACTIVE_DOM (R50): A write to WT_CTRL.ACTIVE_DOM requests a switch to the standby slot, performed if R46 holds and otherwise refused with DSW_REFUSED. -/
  | activeDom (d : Fin 2)
  /-- SERVO_EN (R43): A write of WT_CTRL.SERVO_EN moves the Leash to UNLEASHED when 0, or allows ACQUIRING when 1. -/
  | servoEn (en : Bool)
  /-- HOLDOVER_EXPIRED (R43): Holdover time reaches HO_LIMIT_S and the Leash state becomes EXPIRED. -/
  | holdoverExpired
  /-- DSW_SLEW_START (R48): Wall time reaches WT_DSW_SLEW_AT and D_held begins to slew toward WT_DSW_TARGET. -/
  | dswSlewStart
  /-- DSW_SLEW_END (R48): D_held reaches WT_DSW_TARGET and the slew ends. -/
  | dswSlewEnd
  /-- CADENCE_WRITE (R79): A write to CAD_EPOCH_HI, CAD_EPOCH_LO, CAD_P, CAD_Q or SCAN_VTIMING is applied or discarded under its lock, and pending line waits and alarms are re-evaluated. -/
  | cadenceWrite (r : Fin 5) (v : Word)
  /-- EVT_ARM (R559): A write of ARM = 1 to WT_EVTs_CTRL while unarmed arms the timed-event slot with its current target. -/
  | evtArm (e : Fin 32) (v : Word)
  /-- EVT_DISARM (R559): A write of ARM = 0 to WT_EVTs_CTRL disarms the timed-event slot. -/
  | evtDisarm (e : Fin 32) (v : Word)
  /-- EVENT_FIRE (R57): Wall time reaches a slot's target and the slot performs its action on its target, repeating by its period or disarming. -/
  | eventFire (e : Fin 32)
  /-- PULSE_END (R57): WIDTH after a pulse action, the pulse target is driven low. -/
  | pulseEnd (e : Fin 32)
  /-- CAPTURE (R61): An enabled edge on a capture source is time-stamped and pushed into the capture FIFO, or counted as overflow. -/
  | capture (src : Fin 22) (rising : Bool)
  /-- CAP_POP (R62): A read of WT_CAP_W3 pops the head entry of the capture FIFO, or sets UNDERRUN when empty. -/
  | capPop
  /-- LATCH (R20): At L(k−1, V_active) each quadrant takes the latch for frame k: shadows go live, planes flip, band and map bank are chosen. -/
  | latch (k : Int) (bad : List Nat)
  /-- LINE_START (R244): At L(k, n) the scan engine begins line n's transmit slot and the row timing pins run for the row slot. -/
  | lineStart (k : Int) (m : Nat)
  /-- TE_EDGE (R248): A rising edge on PNL_TE[n] in the search window is stamped and compared with the expected time, flagging a mismatch beyond TOL. -/
  | teEdge (n : QuadId)
  /-- TE_MISSING (R248): The tearing-effect search window closes with no edge, so MISSING counts and SCAN_TE is pushed. -/
  | teMissing (n : QuadId)
  /-- SCAN_STOP (R242): A write of 1 to Qn_SCAN_CTRL.STOP moves a RUNNING quadrant to STOPPING. -/
  | scanStop (n : QuadId) (v : Word)
  /-- ADD (R98): ADD writes gA + gB to gD. -/
  | add (q : SeqId) (d a b : GReg)
  /-- SUB (R98): SUB writes gA − gB to gD. -/
  | sub (q : SeqId) (d a b : GReg)
  /-- AND (R98): AND writes the bitwise AND of gA and gB to gD. -/
  | and (q : SeqId) (d a b : GReg)
  /-- OR (R98): OR writes the bitwise OR of gA and gB to gD. -/
  | or (q : SeqId) (d a b : GReg)
  /-- XOR (R98): XOR writes the bitwise XOR of gA and gB to gD. -/
  | xor (q : SeqId) (d a b : GReg)
  /-- SHL (R98): SHL shifts gA left by gB[4:0] into gD. -/
  | shl (q : SeqId) (d a b : GReg)
  /-- SHR (R98): SHR shifts gA logically right by gB[4:0] into gD. -/
  | shr (q : SeqId) (d a b : GReg)
  /-- SAR (R98): SAR shifts gA arithmetically right by gB[4:0] into gD. -/
  | sar (q : SeqId) (d a b : GReg)
  /-- MUL (R98): MUL writes the low 32 bits of gA × gB to gD. -/
  | mul (q : SeqId) (d a b : GReg)
  /-- MOV (R98): MOV copies gA to gD. -/
  | mov (q : SeqId) (d a : GReg)
  /-- ADDI (R99): ADDI writes gA + IMM to gD. -/
  | addi (q : SeqId) (d a : GReg) (imm : Word)
  /-- ANDI (R99): ANDI writes gA AND IMM to gD. -/
  | andi (q : SeqId) (d a : GReg) (imm : Word)
  /-- ORI (R99): ORI writes gA OR IMM to gD. -/
  | ori (q : SeqId) (d a : GReg) (imm : Word)
  /-- XORI (R99): XORI writes gA XOR IMM to gD. -/
  | xori (q : SeqId) (d a : GReg) (imm : Word)
  /-- SHLI (R98): SHLI shifts gA left by IMM into gD. -/
  | shli (q : SeqId) (d a : GReg) (sh : Fin 32)
  /-- SHRI (R98): SHRI shifts gA logically right by IMM into gD. -/
  | shri (q : SeqId) (d a : GReg) (sh : Fin 32)
  /-- SARI (R98): SARI shifts gA arithmetically right by IMM into gD. -/
  | sari (q : SeqId) (d a : GReg) (sh : Fin 32)
  /-- LI (R99): LI writes IMM to gD. -/
  | li (q : SeqId) (d : GReg) (imm : Word)
  /-- CMP (R99): CMP sets P to the comparison of gA and gB under the condition code. -/
  | cmp (q : SeqId) (c : Cond) (a b : GReg)
  /-- CMPI (R99): CMPI sets P to the comparison of gA and IMM under the condition code. -/
  | cmpi (q : SeqId) (c : Cond) (a : GReg) (imm : Word)
  /-- BR (R98): BR sets the PC to TARGET. -/
  | br (q : SeqId) (target : BitVec 15)
  /-- BR_P (R100): BR.P branches to TARGET when P = 1. -/
  | brP (q : SeqId) (target : BitVec 15)
  /-- BR_NP (R100): BR.NP branches to TARGET when P = 0. -/
  | brNp (q : SeqId) (target : BitVec 15)
  /-- CALL (R100): CALL pushes the next address on the return stack and branches to TARGET. -/
  | call (q : SeqId) (target : BitVec 15)
  /-- RET (R100): RET pops the return stack into the PC. -/
  | ret (q : SeqId)
  /-- LD (R101): LD loads one 32-bit word from data memory into gD. -/
  | ld (q : SeqId) (d a : GReg) (off : BitVec 16) (bad : Bool)
  /-- ST (R101): ST stores gD to one 32-bit word of data memory. -/
  | st (q : SeqId) (d a : GReg) (off : BitVec 16)
  /-- RD (R102): RD issues a register read at an absolute address and stalls until its data returns. -/
  | rd (q : SeqId) (g : GReg) (w : WAddr)
  /-- WR (R67): WR posts a write of gG to a register address, or performs a GO write under R105. -/
  | wr (q : SeqId) (w : WAddr) (g : GReg)
  /-- WRI (R67): WRI posts a write of IMM to a register address. -/
  | wri (q : SeqId) (w : WAddr) (imm : Word)
  /-- RMW (R107): RMW indivisibly reads a register, merges gG under mask gM and writes the result. -/
  | rmw (q : SeqId) (w : WAddr) (m g : GReg)
  /-- RD_INDIRECT (R104): RD [gA] reads the register whose address is in gA. -/
  | rdIndirect (q : SeqId) (d a : GReg)
  /-- WR_INDIRECT (R104): WR [gA] posts a write of gD to the register whose address is in gA. -/
  | wrIndirect (q : SeqId) (a d : GReg)
  /-- TRD (R106): TRD reads three registers as seconds and nanoseconds into a time register without interleaved writes. -/
  | trd (q : SeqId) (t : TReg) (w : WAddr)
  /-- TWR (R106): TWR writes a time register to three registers without interleaved writes. -/
  | twr (q : SeqId) (w : WAddr) (t : TReg)
  /-- POP (R82): POP moves the event-queue head into four general registers and sets P, or underruns when empty. -/
  | pop (q : SeqId) (d : GReg)
  /-- POP_Q (R108): POP.Q reads one word from a FIFO pop window into gG and sets P by emptiness. -/
  | popQ (q : SeqId) (g : GReg) (w : WAddr)
  /-- PUSH (R108): PUSH writes gG to a FIFO push window without checking credit. -/
  | push (q : SeqId) (w : WAddr) (g : GReg)
  /-- DROPPKT (R108): DROPPKT writes 1 to an address, discarding the rest of the head packet at a drop window. -/
  | droppkt (q : SeqId) (w : WAddr)
  /-- TMOV (R98): TMOV copies tA to tD. -/
  | tmov (q : SeqId) (d a : TReg)
  /-- TADD (R109): TADD adds gG1 signed nanoseconds to tA into tD. -/
  | tadd (q : SeqId) (d a : TReg) (g : GReg)
  /-- TADDI (R109): TADDI adds IMM signed nanoseconds to tA into tD. -/
  | taddi (q : SeqId) (d a : TReg) (imm : Word)
  /-- TADDS (R109): TADDS adds IMM signed seconds to tA into tD. -/
  | tadds (q : SeqId) (d a : TReg) (imm : Word)
  /-- TSUB (R109): TSUB writes tA − tB in saturated nanoseconds to gG1. -/
  | tsub (q : SeqId) (g : GReg) (a b : TReg)
  /-- TCMP (R99): TCMP sets P by comparing tA and tB as points in time. -/
  | tcmp (q : SeqId) (c : Cond) (a b : TReg)
  /-- TGET (R109): TGET copies a selected part of tA into gG1. -/
  | tget (q : SeqId) (g : GReg) (a : TReg) (p : TPart)
  /-- TPUT (R109): TPUT writes gG1 into a selected part of tD, normalising nanoseconds. -/
  | tput (q : SeqId) (d : TReg) (g : GReg) (p : TPart)
  /-- TLINE (R110): TLINE computes L(k, n) from the cadence into tD and its fraction into gG1, or a no-cadence marker. -/
  | tline (q : SeqId) (d : TReg) (g1 g2 : GReg) (n : LineOff)
  /-- TLD (R101): TLD loads a time value from three data-memory words into tD. -/
  | tld (q : SeqId) (d : TReg) (g : GReg) (off : BitVec 16) (bad : Option (Fin 3))
  /-- TST (R101): TST stores tA as three words to data memory. -/
  | tst (q : SeqId) (a : TReg) (g : GReg) (off : BitVec 16)
  /-- WAIT_T (R76): WAIT.T blocks until wall time reaches tN, continuing at once with P = 1 when already past. -/
  | waitT (q : SeqId) (t : TReg)
  /-- WAIT_L (R77): WAIT.L blocks until L(k, n), resolving k from gK, or stays unresolved while no valid cadence exists. -/
  | waitL (q : SeqId) (k : GReg) (n : LineOff)
  /-- WAIT_E (R79): WAIT.E blocks until the sequencer's event queue is non-empty. -/
  | waitE (q : SeqId)
  /-- FENCE (R86): FENCE blocks until the fences for frame k cover mask gM or wall time reaches tN. -/
  | fence (q : SeqId) (k m : GReg) (t : TReg)
  /-- WAIT_RESUME (R76): A blocked WAIT.T, WAIT.L or WAIT.E reaches its condition and the sequencer resumes with P set as given. -/
  | waitResume (q : SeqId)
  /-- FENCE_RESUME (R86): A blocked FENCE ends by coverage with P = 1 or by timeout with P = 0. -/
  | fenceResume (q : SeqId)
  /-- ARM_T (R80): ARM.T arms alarm slot a for the wall time in tN. -/
  | armT (q : SeqId) (t : TReg) (a : Fin 8)
  /-- ARM_L (R80): ARM.L arms alarm slot a for L(k, n). -/
  | armL (q : SeqId) (k : GReg) (n : LineOff) (a : Fin 8)
  /-- DISARM (R80): DISARM disarms alarm slot a. -/
  | disarm (q : SeqId) (a : Fin 8)
  /-- ALARM (R80): An alarm reaches its target, pushes an ALARM event and disarms. -/
  | alarm (q : SeqId) (a : Fin 8)
  /-- COMMIT (R85): COMMIT marks pending shadow values of the selected quadrants for the next latch, setting PENDING. -/
  | commit (q : SeqId) (mask : BitVec 4)
  /-- EVENT (R113): EVENT sends a host EVENT message with frame and F(k), asserts EVT_N, or both. -/
  | event (q : SeqId) (data : Bool) (dest : EvDest) (g : GReg) (code : Byte)
  /-- HALT (R114): HALT enters HALTED when it completes, leaving armed alarms armed. -/
  | halt (q : SeqId)
  /-- NOP (R98): NOP does nothing for one cycle. -/
  | nop (q : SeqId)
  /-- READ_RETURN (R102): Read data returns to a stalled sequencer, which resumes. -/
  | readReturn (q : SeqId)
  /-- POSTED_WRITE_DRAIN (R102): A posted write takes effect at its register at its drain time and frees its buffer entry. -/
  | postedWriteDrain (q : SeqId) (n : Fin 8)
  /-- GO_WRITE_COMPLETE (R105): A stalled GO write finds its engine idle, takes effect and releases the sequencer. -/
  | goWriteComplete (q : SeqId)
  /-- WDOG (R74): A GO-write stall lasts SEQs_WDOG.LIMIT_US and a WDOG event is pushed to SQS. -/
  | wdog (q : SeqId)
  /-- START (R87): A write of SEQs_CTRL.START to a READY sequencer begins execution at its entry address. -/
  | start (q : SeqId) (v : Word)
  /-- SEQ_HALT (R87): A write of SEQs_CTRL.HALT halts the sequencer at the next instruction boundary, abandoning waits. -/
  | seqHalt (q : SeqId) (v : Word)
  /-- POST (R84): A write to SEQs_POST pushes a POSTED entry into the addressed sequencer's event queue. -/
  | post (m : Master) (q : SeqId) (v : Word)
  /-- WHISTLE_WRITE (R70): A write through the Whistle alias takes effect in every quadrant selected by WHISTLE_MASK in one core cycle. -/
  | whistleWrite (m : Master) (off : BitVec 22) (v : Word)
  /-- BUNDLE_LOAD_DONE (R88): The bundle loader finishes writing a verified bundle's segments and the loaded sequencers enter READY. -/
  | bundleLoadDone
  /-- IMEM_RETRY (R477): An instruction fetch with a parity error stalls, the word is restored from the retained copy and the fetch is repeated. -/
  | imemRetry (q : SeqId) (again : Bool)
  /-- FIFO_POP (R126): A read of a FIFO pop window returns and removes the head, or sets UNDERRUN when empty. -/
  | fifoPop (m : Master) (a : BitVec 26)
  /-- DROP_WINDOW_WRITE (R129): A write of 1 to a packet FIFO's drop window discards the rest of the head packet. -/
  | dropWindowWrite (m : Master) (a : BitVec 26)
  /-- GEO_WINDOW_LOW_WRITE (R142): A low-word write to the geometry table window is held in the writer's holding register. -/
  | geoWindowLowWrite (m : Master) (x : Fin 262144) (v : Word)
  /-- GEO_WINDOW_HIGH_WRITE (R142): A high-word write places both words of the record in the geometry table in one core cycle. -/
  | geoWindowHighWrite (m : Master) (x : Fin 262144) (v : Word)
  /-- GEO_LOAD (R145): A write of GEO_LOAD_GO starts copying geometry records from DRAM, or refuses an oversize load with LOAD_BAD. -/
  | geoLoad (v : Word)
  /-- GEO_LOAD_DONE (R146): The geometry load completes and LOAD_VALID and GEO_LOAD_FRAME are set if the frame is known. -/
  | geoLoadDone
  /-- PATCH (R173): A Rekin PATCH packet passes header and sequence handling, is authenticated and checked against its target, and is dispatched or discarded. -/
  | patch (p : RknPkt)
  /-- FENCE_PACKET (R178): A Rekin FENCE packet is accepted in sequence for frame m and plane mask M. -/
  | fencePacket (p : RknPkt)
  /-- FENCE_COMPLETE (R179): A fence completes after its flow's earlier packets and counts toward each allowed plane's FENCE_NEED, making it PENDING or stale. -/
  | fenceComplete (f : BitVec 16)
  /-- GAP_EXPIRY (R161): A flow's gap timer expires and missing sequence numbers are given up by MODE, possibly making the flow BROKEN. -/
  | gapExpiry (f : BitVec 16)
  /-- FLOW_STATE_WRITE (R158): A write to a flow context's STATE opens, disables or reactivates the flow, discarding held packets as given. -/
  | flowStateWrite (m : Master) (f : BitVec 16) (v : Word)
  /-- ARENA_BASE_WRITE (R158): A write to RKN_ARENA_BASEn empties the history of every flow whose window lies in quadrant n. -/
  | arenaBaseWrite (n : QuadId) (v : Word)
  /-- HISTORY_WINDOW_SWITCH (R166): An inflater writes back the resident history window and loads the next flow's window, then starts decoding. -/
  | historyWindowSwitch (x : Fin 4)
  /-- PATCH_COMPLETE (R176): An inflater finishes decoding a payload and writing its rectangle, releasing overlapping patches queued behind it. -/
  | patchComplete (x : Fin 4)
  /-- SYN_GO (R199): A write of frame k to Qn_SYN_GO starts synthesis of frame k, or completes at once with GO_BAD. -/
  | synGo (n : QuadId) (v : Word)
  /-- SYN_LINE_START (R22): The synthesiser starts line n once L(k, n − RUNAHEAD) is reached and the previous line's work allows. -/
  | synLineStart (n : QuadId) (perr fails corr lut : List Nat) (stall : Nat)
  /-- SYN_LINE_COMPLETE (R193): The last ray of a line completes and the line is handed to composition. -/
  | synLineComplete (n : QuadId)
  /-- COMPOSE_LINE (R201): Composition of a line starts when its map units and overlay rows are buffered and writes drive codes to staging. -/
  | composeLine (n : QuadId) (lut : List Nat) (bad corr : List (Nat × Bool))
  /-- OVERLAY_ROW_READ (R212): The overlay reader reads the source rows a hogel row needs into the overlay line buffer. -/
  | overlayRowRead (n : QuadId) (o : Fin 2)
  /-- MAP_STREAM_FETCH (R228): The map streamer reads the next header or slice into the map stream buffer as credits allow, setting STREAM_DONE after the last. -/
  | mapStreamFetch (n : QuadId)
  /-- LUT_WRITE (R206): A write to a LUT bank is applied, or discarded with LUT_STALE when the bank is live or about to be. -/
  | lutWrite (n : QuadId) (x : Fin 19) (b : Fin 2) (ch : Fin 3) (y : Fin 2048) (v : Word)
  /-- MUZZLE_FORCE (R259): A write of MUZZLE_CTRL.FORCE sets or clears the software Muzzle source. -/
  | muzzleForce (v : Word)
  /-- MUZZLE_PIN_SENSE (R259): PNL_MUZZLE_N changes level with no internal source driving it, reported as SRC_EXT. -/
  | muzzlePinSense (low : Bool)
  /-- TPL_START (R279): A write of TPLg_CTRL.START begins bring-up of an IDLE or FAILED group in DETECT. -/
  | tplStart (x : Fin 16) (v : Word)
  /-- TPL_STOP (R563): A write of TPLg_CTRL.STOP unpowers the group to IDLE, or is discarded with STALE_WRITE while the quadrant scans. -/
  | tplStop (x : Fin 16) (v : Word)
  /-- TPL_DETECT_DONE (R562): Ten microseconds after DETECT entry the group judges termination, remaps an excluded pair, or fails. -/
  | tplDetectDone (x : Fin 16) (det : Byte)
  /-- BACK_CHANNEL_LOCK (R279): The back channel becomes comma-locked and the group advances from TRAIN. -/
  | backChannelLock (x : Fin 16)
  /-- TPL_STAGE_TIMEOUT (R279): A bring-up stage times out and the group enters FAILED with TRAIN_FAIL. -/
  | tplStageTimeout (x : Fin 16)
  /-- STATUS (R277): A CDIC STATUS message reports frame, temperature, lock, flags and error counts, advancing bring-up stages where due. -/
  | status (x : Fin 16) (msg : List (BitVec 10)) (recovered : Bool)
  /-- CAPS (R280): CAPS from every CDIC lets the group choose version and rate, retraining at target or failing. -/
  | caps (x : Fin 16) (msg : List (BitVec 10)) (nc : Nat)
  /-- LANE_FAIL (R285): A LANE_FAIL for a pair starts an autonomous lane swap onto the free pair, or loses the lane or marks the free pair BAD. -/
  | laneFail (x : Fin 16) (msg : List (BitVec 10))
  /-- SWAP_ALIGN_END (R285): After 6.0 µs of ALIGN on the free pair the device sends SWAP for the next line and moves the lane. -/
  | swapAlignEnd (x : Fin 16)
  /-- ROTATION_STEP (R284): With ROT_EN and a free pair the device begins a rotation step moving the next pair's lane onto the free pair. -/
  | rotationStep (x : Fin 16)
  /-- DWELL_END (R284): At the end of the PRBS31 dwell the pair's error total is recorded and the pair is marked BAD if above PRBS_LIMIT. -/
  | dwellEnd (x : Fin 16)
  /-- TPL_LINK_DOWN (R279): An ACTIVE group's back channel is silent for 20 µs or CDIC 0 reports clock loss, and it fails with LINK_DOWN. -/
  | tplLinkDown (x : Fin 16)
  /-- STAY_CDIC_ACK (R289): Every CDIC reports STAY = 1 or 1 ms passes, and the pairs are unpowered and groups placed in IDLE. -/
  | stayCdicAck
  /-- PORT_LINK_CHANGE (R293): A port's up state changes, UP is updated and NET_LINK is pushed. -/
  | portLinkChange (p : PortId) (lock : BitVec 4) (align fec hiBer : Bool)
  /-- MAC_CONTROL_FRAME (R296): A received MAC control frame is dropped without action and counted. -/
  | macControlFrame (f : NetFrame)
  /-- ARP_REQUEST (R298): An ARP request or neighbour solicitation for an own address is answered by the hardware responder. -/
  | arpRequest (f : NetFrame) (v6 : Bool) (target : BitVec 128)
  /-- TRANSIT_FRAME (R301): A transit, broadcast or multicast frame in CHAIN is forwarded to the other port or dropped and counted. -/
  | transitFrame (f : NetFrame) (e : PtpEvent)
  /-- MGMT_READ (R305): A management READ reads COUNT words within reach and authority and replies with their values. -/
  | mgmtRead (p : RknPkt)
  /-- MGMT_WRITE (R305): A management WRITE writes COUNT words in order, stopping at a busy GO register, and replies with DONE. -/
  | mgmtWrite (p : RknPkt)
  /-- MGMT_RMW (R305): A management RMW reads, merges and writes one register indivisibly. -/
  | mgmtRmw (p : RknPkt)
  /-- PROGRAM_MESSAGE (R308): A program message is placed in a receive buffer and pushed to SQS as a MGMT event, or answered NO_BUFFER. -/
  | programMessage (p : RknPkt)
  /-- MRX_FREE (R308): A write of b to NET_MRX_FREE frees receive buffer b. -/
  | mrxFree (v : Word)
  /-- MREPLY (R308): A write to NET_MREPLY sends a reply to a program message and frees its buffer. -/
  | mreply (v : Word)
  /-- NBR_START (R316): A write of NBR_q_CTRL.START begins bring-up of a neighbour port. -/
  | nbrStart (p : NbrId)
  /-- NBR_STOP (R316): A write of NBR_q_CTRL.STOP unpowers the neighbour port to IDLE. -/
  | nbrStop (p : NbrId)
  /-- NBR_STAGE_TIMEOUT (R316): A neighbour bring-up stage times out and the port enters FAILED. -/
  | nbrStageTimeout (p : NbrId)
  /-- NBR_CAPS (R317): A received CAPS block sets the port rate and peer ID, or updates LANES_OK on an ACTIVE port. -/
  | nbrCaps (p : NbrId) (b : List Byte)
  /-- CREDIT (R315): A received CREDIT block returns transmit credits to the port. -/
  | credit (p : NbrId) (b : List Byte)
  /-- SLEEP (R324): A received SLEEP block puts the port's receive direction to sleep. -/
  | sleep (p : NbrId)
  /-- SLEEP_IDLE_TIMEOUT (R324): A transmitter idle for IDLE_US sends SLEEP and enters electrical idle. -/
  | sleepIdleTimeout (p : NbrId)
  /-- NBR_LANE_LOCK_LOSS (R311): A neighbour lane loses lock, leaving the port DEGRADED on one lane or down when both are lost. -/
  | nbrLaneLockLoss (p : NbrId) (lane : Fin 2)
  /-- STRIP (R320): A received STRIP frame is written to the plane's back bank or dropped with WIN_BAD. -/
  | strip (p : NbrId) (r : NbrRaw)
  /-- NBR_FENCE_FRAME (R312): A neighbour FENCE frame arrives naming a plane, frame and strip count. -/
  | nbrFenceFrame (p : NbrId) (r : NbrRaw)
  /-- NBR_FENCE_COMPLETE (R321): A neighbour fence completes after earlier frames and counts toward FENCE_NEED, flagging STRIP_LOSS on a count mismatch. -/
  | nbrFenceComplete (p : NbrId)
  /-- METRIC (R323): A received METRIC frame is stamped and SKEW and DELAY are computed, flagging skew beyond SKEW_LIMIT. -/
  | metric (p : NbrId) (r : NbrRaw)
  /-- DFL_JOB_PUSH (R329): A write to DFL_JOB_PUSH stages one descriptor word, entering the job into the queue at the eighth word. -/
  | dflJobPush (m : Master) (v : Word)
  /-- JOB_START (R346): A queued job starts on its unit once a completion entry is free, or completes at once with DESC_BAD. -/
  | jobStart (u : Fin 5)
  /-- JOB_COMPLETE (R346): A DEFLATE job completes, places its completion entry and pushes DFL_DONE when NOTIFY is set. -/
  | jobComplete (u : Fin 5)
  /-- CPL_POP (R346): A read of DFL_CPL_W3 pops the head of the completion FIFO. -/
  | cplPop
  /-- BLT_GO (R351): A write to BLT_GO samples the parameters and starts a block operation, or completes at once with PARAM_BAD. -/
  | bltGo (n : QuadId) (v : Word)
  /-- BLT_ROW_WRITTEN (R356): A row of a block operation is written, pushing BLT_WMARK at the watermark row and BLT_DONE after the last row. -/
  | bltRowWritten (n : QuadId)
  /-- CSI_FRAME_START (R366): A CSI-2 Frame Start samples its context and admits or drops the frame by configuration and declared rate. -/
  | csiFrameStart (p : Fin 2) (ecc : CsiEcc) (vc : Fin 16) (number : BitVec 16)
  /-- CSI_LINE (R367): A CSI-2 long packet line enters the context's line buffers, or drops its frame when no credit is free. -/
  | csiLine (p : Fin 2) (l : CsiLine) (rows : Nat) (tone : List Nat)
  /-- CSI_FRAME_END (R368): A CSI-2 Frame End ends the frame, padding or trimming its shape. -/
  | csiFrameEnd (p : Fin 2) (ecc : CsiEcc) (vc : Fin 16) (number : BitVec 16)
  /-- CAM_FRAME (R379): Every enabled output and the record of a frame are accepted, SEQ advances and CAM_FRAME is pushed. -/
  | camFrame (c : Fin 4) (tone : List Nat)
  /-- DRAM_INIT (R386): A write of INIT in OFF runs the power-up sequence, queued mode writes and optional zeroing. -/
  | dramInit (n : QuadId) (v : Word)
  /-- DRAM_INIT_DONE (R386): Initialisation finishes and the controller enters READY. -/
  | dramInitDone (n : QuadId)
  /-- RESUME (R387): A write of RESUME in SELF_REFRESH starts leaving self-refresh. -/
  | resume (n : QuadId) (v : Word)
  /-- RESUME_DONE (R387): Twenty microseconds after RESUME the controller enters READY with contents intact. -/
  | resumeDone (n : QuadId)
  /-- SELF_REFRESH_ENTRY (R387): The controller performs its held writes, places both channels in self-refresh and enters SELF_REFRESH. -/
  | selfRefreshEntry (n : QuadId)
  /-- DRAM_READ_REQUEST (R389): A read is taken into the read queue, forwarded, waited or sent to the devices. -/
  | dramReadRequest (n : QuadId) (a : BitVec 32) (err : DramErr)
  /-- DRAM_WRITE_REQUEST (R388): A write is accepted into the write queue and completes for its requester. -/
  | dramWriteRequest (n : QuadId) (by_ : Nat) (a : BitVec 32) (en : BitVec 64) (data : BitVec 512)
  /-- REFRESH_SLOT (R392): At a line slot the refresh accumulator is advanced, queued mode-register accesses performed and refresh units issued. -/
  | refreshSlot (n : QuadId) (mrr : Byte)
  /-- REF_UNALIGNED (R394): The accumulator reaches 4·TREFI_NS between slots and a refresh unit is issued at once. -/
  | refUnaligned (n : QuadId)
  /-- MRW (R396): A write to Qn_DRAM_MRW queues a mode-register write, discarding MR4 writes. -/
  | mrw (n : QuadId) (v : Word)
  /-- MRR_REQ (R396): A write to Qn_DRAM_MRR_REQ requests a mode-register read at the next slot. -/
  | mrrReq (n : QuadId) (v : Word)
  /-- CAL_GO (R407): A write to Qn_CAL_GO starts an 80 µs DRAM delay or reference sweep, or is refused. -/
  | calGo (n : QuadId) (v : Word)
  /-- SWEEP_DONE (R407): The 80 µs sweep ends, settings are restored, results written and CAL_DRAM pushed. -/
  | sweepDone (n : QuadId) (errs : List (List Nat)) (now : List Nat)
  /-- HOLD (R406): A write of HOLD = 1 requests a calibration hold, refused under the start checks. -/
  | hold (n : QuadId) (v : Word)
  /-- HOLD_ACTIVE (R406): Issued transfers complete and the hold opens with HOLD_ACTIVE and CAL_DRAM. -/
  | holdActive (n : QuadId)
  /-- HOLD_RELEASE (R406): A write of HOLD = 0 ends the calibration hold. -/
  | holdRelease (n : QuadId) (v : Word)
  /-- HOLD_EXPIRED (R406): A hold expires 10 µs after HOLD_ACTIVE rose, clearing HOLD and setting HOLD_EXPIRED. -/
  | holdExpired (n : QuadId)
  /-- CAL_RX_GO (R412): A write to CAL_RX_GO starts a receiver scan of a lane, or refuses it. -/
  | calRxGo (v : Word)
  /-- NBR_SCAN_START (R414): Twenty microseconds after the neighbour CAPS that drops the lane, its receiver scan begins. -/
  | nbrScanStart
  /-- RX_SCAN_DONE (R412): The 40 µs receiver scan ends and its results are written. -/
  | rxScanDone (phase thr : List Nat)
  /-- XFER (R436): An XFER fragment is added to its transfer, completing, restarting or discarding it. -/
  | xfer (p : RknPkt)
  /-- XFER_TIMEOUT (R436): A transfer sees no fragment for more than 1 s and is discarded. -/
  | xferTimeout (x : Fin 256) (id : BitVec 16)
  /-- SUBMIT (R418): SUBMIT passes an assembled or DRAM object to the RoT for verification and action by kind. -/
  | submit (p : RknPkt)
  /-- SESSION_REQUEST (R431): A verified session request opens a keyed session and is answered with the signed acceptance. -/
  | sessionRequest
  /-- BUNDLE_SUBMIT (R426): A verified Porow bundle is checked, loaded and measured. -/
  | bundleSubmit
  /-- UNLOCK (R445): An UNLOCK token naming the current challenge opens board-port and JTAG scopes. -/
  | unlock
  /-- SVN_RAISE (R446): An SVN_RAISE token burns a security version counter up to ARG1. -/
  | svnRaise
  /-- OWNER_ROTATE (R446): An OWNER_ROTATE token writes a new owner slot and retires the signer's slot. -/
  | ownerRotate
  /-- ATTEST_REQ (R438): ATTEST_REQ produces a dual-signed attestation report, opening a bottom tree if needed. -/
  | attestReq (p : RknPkt) (weak : Nat)
  /-- CHALLENGE (R445): CHALLENGE issues a fresh 16-byte nonce that voids the previous one. -/
  | challenge (p : RknPkt)
  /-- KEY_UPDATE (R432): KEY_UPDATE ratchets the session into new keys under the other phase. -/
  | keyUpdate (p : RknPkt)
  /-- KEY_PHASE_ERASE (R432): One second after the first packet under the new phase the old keys are erased. -/
  | keyPhaseErase (x : Fin 256)
  /-- KEY_INSTALL (R433): KEY_INSTALL places a PTP HMAC key or a neighbour direction key. -/
  | keyInstall (p : RknPkt)
  /-- RX_KEY_EXPIRY (R433): A replaced neighbour receive key stops being valid 1 s after its replacement. -/
  | rxKeyExpiry (p : NbrId)
  /-- SESSION_CLOSE (R434): SESSION_CLOSE erases the session's keys. -/
  | sessionClose (p : RknPkt)
  /-- FLASH_WRITE (R435): FLASH_WRITE copies DRAM data into a boot flash region, verifying objects for regions 0, 1 and 3. -/
  | flashWrite (p : RknPkt) (flashOk : Bool)
  /-- BRD_STATUS (R537): The board port STATUS command returns BRD_STATUS and optionally clears LATCH. -/
  | brdStatus (args : List Byte)
  /-- BRD_TEMP (R537): The board port TEMP command returns thermal readings. -/
  | brdTemp (args : List Byte)
  /-- BRD_RESET (R537): The board port RESET command starts a system-scope reset when BRD_CS_N rises. -/
  | brdReset (args : List Byte) (b : BootIn)
  /-- BRD_CHALLENGE (R445): The board port CHALLENGE command returns a fresh nonce. -/
  | brdChallenge (args : List Byte)
  /-- TOKEN_LOAD (R537): TOKEN_LOAD writes bytes into the RoT token window. -/
  | tokenLoad (args : List Byte)
  /-- TOKEN_SUBMIT (R537): TOKEN_SUBMIT verifies the token window's first LEN bytes as a token and returns RESULT. -/
  | tokenSubmit (args : List Byte)
  /-- PROVISION (R447): PROVISION writes owner slot 0 while no owner slot is written. -/
  | provision (args : List Byte)
  /-- REG_READ (R538): The board port REG_READ reads a register with SQS reach while READ scope is open. -/
  | regRead (args : List Byte)
  /-- REG_WRITE (R538): The board port REG_WRITE writes a register with SQS reach while WRITE scope is open. -/
  | regWrite (args : List Byte)
  /-- THERMAL_ROUND (R449): At a round slot or target-18 request all enabled sensors start converting. -/
  | thermalRound (smp : SlotSample)
  /-- THERMAL_ROUND_END (R453): A round's readings replace the previous ones and TMAX drives levels, throttle, AVS and reference loops. -/
  | thermalRoundEnd (r : ThmRound)
  /-- RELEASE (R454): A write of THM_CTRL.RELEASE clears the thermal source when shutdown is not entered. -/
  | release (v : Word)
  /-- VCO_STEP (R459): A PLL re-centres its VCO band two line periods after a latch or at a round end. -/
  | vcoStep (pll : Fin 4)
  /-- BIST_SLOT (R468): At a BIST slot the controller begins testing the next slice by copying it to a save buffer. -/
  | bistSlot
  /-- SLICE_TEST_DONE (R469): A slice test finishes March C−, repairs failing rows, and copies the slice back. -/
  | sliceTestDone (fails : List (Nat × Nat))
  /-- OVERRUN (R470): A slice test not completed 8 µs after its slot is abandoned and retried. -/
  | overrun
  /-- ENTER (R479): A write of KNL_CTRL.ENTER makes the SOFTWARE Kennel reason active. -/
  | enter (v : Word)
  /-- EXIT (R481): A write of KNL_CTRL.EXIT clears the reasons it may, leaving Kennel when none remain. -/
  | exit (v : Word)
  /-- KENNEL_RELOAD_DONE (R481): After leaving Kennel the quadrant sequencer segments are reloaded, EVT_N released and KNL CODE 0 pushed. -/
  | kennelReloadDone
  /-- POWER_ON_RESET (R496): PORST_N low resets everything but OTP; its release runs BIST and the boot sequence. -/
  | powerOnReset (b : BootIn)
  /-- SYSTEM_RESET (R496): SYSRST_N low resets everything outside the always-on domain, then boots. -/
  | systemReset (b : BootIn)
  /-- WARM (R496): A write of PWR_CTRL.WARM stops scan, self-refreshes DRAM and performs a warm reset. -/
  | warm (v : Word)
  /-- REFCLK_LOSS (R495): A reference clock shows no edges for 2 µs and is declared lost with its effects. -/
  | refclkLoss (c : Fin 3)
  /-- REFCLK_RETURN (R495): REFCLK_SYS returns and the clock reset ends 1 ms later. -/
  | refclkReturn (b : BootIn)
  /-- STAY (R501): A write of PWR_CTRL.STAY starts Stay entry. -/
  | stay (v : Word)
  /-- STAY_ENTERED (R501): Stay entry completes, rail permissions are dropped and STATE becomes STAY. -/
  | stayEntered
  /-- WAKE (R503): An authorised write of PWR_CTRL.WAKE starts leaving Stay. -/
  | wake (v : Word)
  /-- WAKE_TIME (R503): Wall time reaches PWR_WAKE time while WAKE_EN = 1 and Stay exit starts. -/
  | wakeTime
  /-- PWR_OK (R504): PWR_OK rises after wake and SRAM initialisation, register reset and reload proceed. -/
  | pwrOk (rows : List (Nat × Nat))
  /-- CTX_RESTORE_DONE (R505): The flow-context copy is verified and restored, or flows come up DISABLED with CTX_LOST. -/
  | ctxRestoreDone
  /-- PWR_PNL_WRITE (R493): A write to PWR_PNL sets panel supply enables, keeping EN bits of scanning quadrants. -/
  | pwrPnlWrite (v : Word) (pg : BitVec 4)
  /-- PG_TIMEOUT (R493): PNL_PG[n] is not high within PG_TIMEOUT_MS of its enable and PG_TIMEOUT is set. -/
  | pgTimeout (n : QuadId)
  /-- PG_LOST (R493): PNL_PG[n] falls while its enable is 1 and PG_LOST is set. -/
  | pgLost (n : QuadId)
  /-- UNMAPPED_ACCESS (R510): An access to an unmapped address reads 0, discards writes and records the address. -/
  | unmappedAccess (m : Master) (a : BitVec 26) (write : Bool) (v : Word)
  /-- REGISTER_WRITE (R515): A write to a register without a row of its own is applied under its access type and lock class. -/
  | registerWrite (m : Master) (a : BitVec 26) (v : Word)
  /-- PEER_RECEIVERS_DETECTED (R316): In DETECT a neighbour port finds the peer's receivers terminated on both lanes, or on one lane with DEGRADED, and advances to TRAIN. -/
  | peerReceiversDetected (p : NbrId) (lanes : BitVec 2)
  /-- NBR_RECEIVER_LOCK (R316): A neighbour receiver gains signal, clock recovery or block lock and deskew on its lanes, including relock after the peer wakes, advancing the port through TRAIN, BIT_LOCK and SYMBOL_LOCK. -/
  | nbrReceiverLock (p : NbrId) (lanes : BitVec 2) (refBad : Bool)
  /-- APRON_STRIP_SEND_END (R318): The neighbour transmitter finishes sending a plane's STRIP frames and its FENCE frame for frame m, ending the send. -/
  | apronStripSendEnd (p : NbrId)
deriving DecidableEq, Repr

end Sys2Proof
end

