-- ==== Sys2Proof/Decode.lean ====
section
/-!
DEFINITION. Sys2Proof/Decode.lean: the words of the table of operations, of which no row gives any bits, and the
64-bit words of Porow instructions (R94 to R98, R108 to R113), which the sequencers fetch from instruction memory:
their encoder and their decoder, which refuses every word with an undefined opcode, a non-zero reserved or unused
field, an undefined condition code or an operand outside its range (R95, R96).
-/

namespace Sys2Proof

/-- The command a word spells by the table's bits: no row of the table gives any, so none. -/
def decodeTableWord (_nbits _w : Nat) : Option Instr := none

/-- The `w`-bit field at bit `lo` of the number `x`. -/
def bitsOf (x lo w : Nat) : Nat := x / 2 ^ lo % 2 ^ w

/-- A condition's code (R99). -/
def Cond.code : Cond → Nat
  | .eq => 0 | .ne => 1 | .lt => 2 | .ge => 3 | .ltu => 4 | .geu => 5

/-- The condition a code names (R99); codes 6 to 15 are undefined. -/
def condOf : Nat → Option Cond
  | 0 => some .eq | 1 => some .ne | 2 => some .lt | 3 => some .ge | 4 => some .ltu | 5 => some .geu | _ => none

/-- The part numbers of TGET and TPUT (R109). -/
def TPart.code : TPart → Nat
  | .secLo => 0 | .secHi => 1 | .ns => 2

/-- The part a number names (R109). -/
def partOf : Nat → Option TPart
  | 0 => some .secLo | 1 => some .secHi | 2 => some .ns | _ => none

/-- The DEST values of EVENT (R113). -/
def EvDest.code : EvDest → Nat
  | .host => 1 | .pin => 2 | .both => 3

/-- The destination a DEST value names (R113). -/
def destOf : Nat → Option EvDest
  | 1 => some .host | 2 => some .pin | 3 => some .both | _ => none

/-- Format A (R97): OP, D, A, B, COND, DEST and IMM. -/
def fmtA (op d a b cond dest imm : Nat) : Nat :=
  op * 2 ^ 56 + d * 2 ^ 52 + a * 2 ^ 48 + b * 2 ^ 44 + cond * 2 ^ 36 + dest * 2 ^ 32 + imm

/-- Format R with registers (R97): OP, WADDR, T, M and G. -/
def fmtR (op waddr t m g : Nat) : Nat := op * 2 ^ 56 + waddr * 2 ^ 32 + t * 2 ^ 8 + m * 2 ^ 4 + g

/-- Format W (R97): OP, K, M, T, SLOT, MASK, NREG and N. -/
def fmtW (op k m t slot mask nreg n : Nat) : Nat :=
  op * 2 ^ 56 + k * 2 ^ 52 + m * 2 ^ 48 + t * 2 ^ 46 + slot * 2 ^ 40 + mask * 2 ^ 32 + nreg * 2 ^ 16 + n

/-- Format T (R97): OP, TD, TA, TB, G1, G2, COND and IMM. -/
def fmtT (op td ta tb g1 g2 cond imm : Nat) : Nat :=
  op * 2 ^ 56 + td * 2 ^ 54 + ta * 2 ^ 52 + tb * 2 ^ 50 + g1 * 2 ^ 44 + g2 * 2 ^ 40 + cond * 2 ^ 36 + imm

/-- WAIT.L and ARM.L (R97, R111): the register of NREG = 1 is named in M, and N is then 0. -/
def fmtLine (op k slot : Nat) : LineOff → Nat
  | .imm n => fmtW op k 0 0 slot 0 0 n.toNat
  | .reg g => fmtW op k g.val 0 slot 0 1 0

/-- TLINE (R97): the register of NREG = 1 is named in the COND field as NR. -/
def fmtTline (td g1 g2 : Nat) : LineOff → Nat
  | .imm n => fmtT 0x78 td 0 0 g1 g2 0 n.toNat
  | .reg g => fmtT 0x78 td 0 0 g1 g2 g.val (2 ^ 16)

/-- The number of an instruction's 64-bit word, every reserved and unused field 0 (R96, R97, R98). -/
def porowNat : POp → Nat
  | .add d a b => fmtA 0x01 d a b 0 0 0
  | .sub d a b => fmtA 0x02 d a b 0 0 0
  | .and d a b => fmtA 0x03 d a b 0 0 0
  | .or d a b => fmtA 0x04 d a b 0 0 0
  | .xor d a b => fmtA 0x05 d a b 0 0 0
  | .shl d a b => fmtA 0x06 d a b 0 0 0
  | .shr d a b => fmtA 0x07 d a b 0 0 0
  | .sar d a b => fmtA 0x08 d a b 0 0 0
  | .mul d a b => fmtA 0x09 d a b 0 0 0
  | .mov d a => fmtA 0x0A d a 0 0 0 0
  | .addi d a i => fmtA 0x11 d a 0 0 0 i.toNat
  | .andi d a i => fmtA 0x13 d a 0 0 0 i.toNat
  | .ori d a i => fmtA 0x14 d a 0 0 0 i.toNat
  | .xori d a i => fmtA 0x15 d a 0 0 0 i.toNat
  | .shli d a sh => fmtA 0x16 d a 0 0 0 sh
  | .shri d a sh => fmtA 0x17 d a 0 0 0 sh
  | .sari d a sh => fmtA 0x18 d a 0 0 0 sh
  | .li d i => fmtA 0x1A d 0 0 0 0 i.toNat
  | .cmp c a b => fmtA 0x20 0 a b c.code 0 0
  | .cmpi c a i => fmtA 0x21 0 a 0 c.code 0 i.toNat
  | .br t => 0x30 * 2 ^ 56 + t.toNat
  | .brP t => 0x31 * 2 ^ 56 + t.toNat
  | .brNp t => 0x32 * 2 ^ 56 + t.toNat
  | .call t => 0x33 * 2 ^ 56 + t.toNat
  | .ret => 0x34 * 2 ^ 56
  | .ld d a o => fmtA 0x40 d a 0 0 0 o.toNat
  | .st d a o => fmtA 0x41 d a 0 0 0 o.toNat
  | .rd g w => fmtR 0x50 w.toNat 0 0 g
  | .wr w g => fmtR 0x51 w.toNat 0 0 g
  | .wri w i => 0x52 * 2 ^ 56 + w.toNat * 2 ^ 32 + i.toNat
  | .rmw w m g => fmtR 0x53 w.toNat 0 m g
  | .rdIndirect d a => fmtA 0x54 d a 0 0 0 0
  | .wrIndirect a d => fmtA 0x55 d a 0 0 0 0
  | .trd t w => fmtR 0x56 w.toNat t 0 0
  | .twr w t => fmtR 0x57 w.toNat t 0 0
  | .pop d => fmtA 0x60 d 0 0 0 0 0
  | .popQ g w => fmtR 0x61 w.toNat 0 0 g
  | .push w g => fmtR 0x62 w.toNat 0 0 g
  | .droppkt w => fmtR 0x63 w.toNat 0 0 0
  | .tmov d a => fmtT 0x70 d a 0 0 0 0 0
  | .tadd d a g => fmtT 0x71 d a 0 g 0 0 0
  | .taddi d a i => fmtT 0x72 d a 0 0 0 0 i.toNat
  | .tadds d a i => fmtT 0x73 d a 0 0 0 0 i.toNat
  | .tsub g a b => fmtT 0x74 0 a b g 0 0 0
  | .tcmp c a b => fmtT 0x75 0 a b 0 0 c.code 0
  | .tget g a p => fmtT 0x76 0 a 0 g 0 0 p.code
  | .tput d g p => fmtT 0x77 d 0 0 g 0 0 p.code
  | .tline d g1 g2 n => fmtTline d g1 g2 n
  | .tld d g o => fmtT 0x79 d 0 0 g 0 0 o.toNat
  | .tst a g o => fmtT 0x7A 0 a 0 g 0 0 o.toNat
  | .waitT t => fmtW 0x80 0 0 t 0 0 0 0
  | .waitL k n => fmtLine 0x81 k 0 n
  | .waitE => fmtW 0x82 0 0 0 0 0 0 0
  | .fence k m t => fmtW 0x83 k m t 0 0 0 0
  | .armT t a => fmtW 0x84 0 0 t a 0 0 0
  | .armL k n a => fmtLine 0x85 k a n
  | .disarm a => fmtW 0x86 0 0 0 a 0 0 0
  | .commit m => fmtW 0x90 0 0 0 0 m.toNat 0 0
  | .event data dest g code => fmtA 0x91 g 0 0 0 dest.code (code.toNat + if data then 256 else 0)
  | .halt => 0x92 * 2 ^ 56
  | .nop => 0x9F * 2 ^ 56

/-- An instruction's word. -/
def encodePorow (i : POp) : IWord := BitVec.ofNat 64 (porowNat i)

/-- A 4-bit field as a general register. -/
def regOf (x lo : Nat) : GReg := ⟨x / 2 ^ lo % 16, Nat.mod_lt _ (by decide)⟩

/-- A 2-bit field as a time register. -/
def tregOf (x lo : Nat) : TReg := ⟨x / 2 ^ lo % 4, Nat.mod_lt _ (by decide)⟩

/-- The line offset of format W (R97). -/
def lineOffW (x : Nat) : LineOff := if bitsOf x 16 1 = 1 then .reg (regOf x 48) else .imm (BitVec.ofNat 16 x)

/-- The line offset of TLINE (R97). -/
def lineOffT (x : Nat) : LineOff := if bitsOf x 16 1 = 1 then .reg (regOf x 36) else .imm (BitVec.ofNat 16 x)

/-- The instruction that the opcode and the fields of a word name, its reserved and unused fields not looked at. -/
def porowFields (x : Nat) : Option POp :=
  let d := regOf x 52
  let a := regOf x 48
  let b := regOf x 44
  let g := regOf x 0
  let imm := BitVec.ofNat 32 x
  let off := BitVec.ofNat 16 x
  let sh : Fin 32 := ⟨x % 32, Nat.mod_lt _ (by decide)⟩
  let w := BitVec.ofNat 24 (x / 2 ^ 32)
  let target := BitVec.ofNat 15 x
  let td := tregOf x 54
  let ta := tregOf x 52
  let tb := tregOf x 50
  let g1 := regOf x 44
  let tw := tregOf x 46
  let tr := tregOf x 8
  let slot : Fin 8 := ⟨x / 2 ^ 40 % 8, Nat.mod_lt _ (by decide)⟩
  match bitsOf x 56 8 with
  | 0x01 => some (.add d a b)
  | 0x02 => some (.sub d a b)
  | 0x03 => some (.and d a b)
  | 0x04 => some (.or d a b)
  | 0x05 => some (.xor d a b)
  | 0x06 => some (.shl d a b)
  | 0x07 => some (.shr d a b)
  | 0x08 => some (.sar d a b)
  | 0x09 => some (.mul d a b)
  | 0x0A => some (.mov d a)
  | 0x11 => some (.addi d a imm)
  | 0x13 => some (.andi d a imm)
  | 0x14 => some (.ori d a imm)
  | 0x15 => some (.xori d a imm)
  | 0x16 => some (.shli d a sh)
  | 0x17 => some (.shri d a sh)
  | 0x18 => some (.sari d a sh)
  | 0x1A => some (.li d imm)
  | 0x20 => (condOf (bitsOf x 36 4)).map (fun c => .cmp c a b)
  | 0x21 => (condOf (bitsOf x 36 4)).map (fun c => .cmpi c a imm)
  | 0x30 => some (.br target)
  | 0x31 => some (.brP target)
  | 0x32 => some (.brNp target)
  | 0x33 => some (.call target)
  | 0x34 => some .ret
  | 0x40 => some (.ld d a off)
  | 0x41 => some (.st d a off)
  | 0x50 => some (.rd g w)
  | 0x51 => some (.wr w g)
  | 0x52 => some (.wri w imm)
  | 0x53 => some (.rmw w (regOf x 4) g)
  | 0x54 => some (.rdIndirect d a)
  | 0x55 => some (.wrIndirect a d)
  | 0x56 => some (.trd tr w)
  | 0x57 => some (.twr w tr)
  | 0x60 => if d.val % 4 = 0 then some (.pop d) else none
  | 0x61 => some (.popQ g w)
  | 0x62 => some (.push w g)
  | 0x63 => some (.droppkt w)
  | 0x70 => some (.tmov td ta)
  | 0x71 => some (.tadd td ta g1)
  | 0x72 => some (.taddi td ta imm)
  | 0x73 => some (.tadds td ta imm)
  | 0x74 => some (.tsub g1 ta tb)
  | 0x75 =>
    match condOf (bitsOf x 36 4) with
    | some .ltu => none
    | some .geu => none
    | some c => some (.tcmp c ta tb)
    | none => none
  | 0x76 => (partOf (bitsOf x 0 32)).map (fun p => .tget g1 ta p)
  | 0x77 => (partOf (bitsOf x 0 32)).map (fun p => .tput td g1 p)
  | 0x78 => some (.tline td g1 (regOf x 40) (lineOffT x))
  | 0x79 => some (.tld td g1 off)
  | 0x7A => some (.tst ta g1 off)
  | 0x80 => some (.waitT tw)
  | 0x81 => some (.waitL d (lineOffW x))
  | 0x82 => some .waitE
  | 0x83 => some (.fence d a tw)
  | 0x84 => some (.armT tw slot)
  | 0x85 => some (.armL d (lineOffW x) slot)
  | 0x86 => some (.disarm slot)
  | 0x90 => some (.commit (BitVec.ofNat 4 (x / 2 ^ 32)))
  | 0x91 => (destOf (bitsOf x 32 4)).map (fun t => .event (bitsOf x 8 1 == 1) t d (BitVec.ofNat 8 x))
  | 0x92 => some .halt
  | 0x9F => some .nop
  | _ => none

/-- The instruction a word holds: none for an undefined opcode (R95), and none where a reserved or unused field is
not 0, a condition code is undefined or an operand is outside its range (R96): only the word that the encoder
gives an instruction is that instruction. DESIGN CHOICE, log 24. -/
def decodePorow (w : IWord) : Option POp :=
  match porowFields w.toNat with
  | some i => if encodePorow i = w then some i else none
  | none => none

end Sys2Proof
end

