-- ==== Sys2Proof/Config.lean ====
section
/-!
DEFINITION. Sys2Proof/Config.lean: the values the spec leaves open, as constants without a body: nothing can
evaluate one, so a statement about it holds whatever it is. A function of the state's counter `free` gives a new
value each time it is drawn.
-/

namespace Sys2Proof.Config

/-- A free value of any width, drawn under the counter `State.free`. DESIGN CHOICE, log 4. -/
opaque freeNat : Nat → Nat

/-- The deflater's hash of three bytes, the first in bits [7:0]: R336 does not give it. DESIGN CHOICE, log 63. -/
opaque hash3 : Nat → Nat

/-- The bits of a block's dynamic header, of its code lengths: R337 does not fix the codes that the deflater gives a block
of data, at a level, after what came before it. DESIGN CHOICE, log 63. -/
opaque dynHeader : Nat → List Byte → List Byte → List Bool

/-- The secret of chain `i` of leaf `q` of a tree with a seed: R439 does not give the derivation.
DESIGN CHOICE, log 149. -/
opaque otsSecret : Nat → Nat → Nat → Nat

/-- The identifier and the seed of the top tree, and the key of the node cache's MACs, of the device-unique key: R439 and
R442 do not give the derivations. DESIGN CHOICE, log 149. -/
opaque topId : Nat → Nat
opaque topSeed : Nat → Nat
opaque nodeKey : Nat → Nat

/-- The length of the TAP's instruction register above the two bits IEEE 1149.1 requires, what it captures there, and the
codes of its instructions but BYPASS, the first bit shifted in first: R539 gives none of them.
DESIGN CHOICE, log 200. -/
opaque tapMore : Nat
opaque tapCapture : List Bool
opaque tapCode : Nat → List Bool

end Sys2Proof.Config
end

