-- ==== Sys2Proof/Machine/Bits.lean ====
section
/-!
DEFINITION. Sys2Proof/Machine/Bits.lean: bit fields, sign extension, byte order and saturation, the rows of the
register table and the named fields of its registers, and the sparse stores that hold registers and memories.
-/

namespace Sys2Proof.Machine

/-- The `w`-bit field of `x` whose lowest bit is `lo`. -/
def field (x : Word) (lo w : Nat) : Nat := x.toNat / 2 ^ lo % 2 ^ w

/-- `x` with its `w`-bit field at `lo` holding `v` modulo `2 ^ w`. -/
def withField (x : Word) (lo w v : Nat) : Word :=
  BitVec.ofNat 32 (x.toNat / 2 ^ (lo + w) * 2 ^ (lo + w) + v % 2 ^ w * 2 ^ lo + x.toNat % 2 ^ lo)

/-- The `w`-bit value `v` read as a signed number in two's complement. -/
def signed (w v : Nat) : Int :=
  let u := v % 2 ^ w
  if u < 2 ^ (w - 1) then (u : Int) else (u : Int) - 2 ^ w

/-- The `w`-bit two's-complement code of `i`, modulo `2 ^ w`. -/
def unsigned (w : Nat) (i : Int) : Nat := (i % (2 ^ w : Int)).toNat

/-- `i` held to the range `lo` to `hi`. -/
def clampInt (lo hi i : Int) : Int := if i < lo then lo else if hi < i then hi else i

/-- The word of four bytes, least significant byte first (R7). -/
def wordOfBytes (b0 b1 b2 b3 : Byte) : Word := b3 ++ b2 ++ b1 ++ b0

/-- Byte `i` of a word, byte 0 the least significant (R7). -/
def byteOfWord (w : Word) (i : Nat) : Byte := BitVec.ofNat 8 (w.toNat / 256 ^ i)

/-- The number of a list of bytes, least significant byte first (R7). -/
def leNat : List Byte → Nat
  | [] => 0
  | b :: t => b.toNat + 256 * leNat t

/-- The number of a list of bytes, most significant byte first (R6). -/
def beNat (l : List Byte) : Nat := l.foldl (fun a b => a * 256 + b.toNat) 0

/-- `n` bytes of `v`, least significant byte first (R7). -/
def leBytes : Nat → Nat → List Byte
  | 0, _ => []
  | n + 1, v => BitVec.ofNat 8 v :: leBytes n (v / 256)

/-- `n` bytes of `v`, most significant byte first (R6). -/
def beBytes (n v : Nat) : List Byte := (leBytes n v).reverse

/-- The `n` bytes at offset `i`. -/
def bytesAt (b : List Byte) (i n : Nat) : List Byte := (b.drop i).take n

/-- The `n`-byte field at offset `i`, most significant byte first (R6). -/
def beAt (b : List Byte) (i n : Nat) : Nat := beNat (bytesAt b i n)

/-- `x` and one more, held at the greatest number of `w` bits (R127 and the saturating counters). -/
def satInc (w x : Nat) : Nat := if x + 1 < 2 ^ w then x + 1 else 2 ^ w - 1

/-- Whether bit `i` of `x` is 1. -/
def bit (x i : Nat) : Bool := x / 2 ^ i % 2 = 1

/-- `x` with bit `i` set. -/
def withBit (x i : Nat) : Nat := if bit x i then x else x + 2 ^ i

/-- 1 for true and 0 for false. -/
def b2n (b : Bool) : Nat := if b then 1 else 0

/-- `a` divided by `b`, rounded up. -/
def ceilDiv (a b : Nat) : Nat := (a + b - 1) / b

/-- The lock classes of R515; `nbr` and `link` are the table's Link class for neighbour ports and panel groups. -/
inductive LockClass where
  | none | timing | flow | arena | plane | mapBank | link | nbr | netPort | camPort | memory | scanLane | armed | loop
deriving DecidableEq, Repr

/-- One row of the register index tables: a base address, the index ranges (count and stride) from the widest
stride down, the reset value, the masks of R9's access types, the fields that a write of 0 clears, and
whether it holds a write-only or popping field (R69, R107). -/
structure RegRow where
  base  : Nat
  dims  : List (Nat × Nat) := []
  reset : Nat := 0
  rw    : Nat := 0
  w1c   : Nat := 0
  rwl   : Nat := 0
  lock  : LockClass := .none
  rws   : Nat := 0
  ctr   : List (Nat × Nat) := []
  wo    : Bool := false
deriving DecidableEq, Repr

/-- A field of a register: its register's address, its lowest bit and its width. -/
structure Fld where
  addr : Nat
  lo   : Nat
  w    : Nat
deriving DecidableEq, Repr

/-- Whether byte offset `off` names one register of the index ranges `dims`. -/
def inDims : List (Nat × Nat) → Nat → Bool
  | [], off => off == 0
  | (c, st) :: t, off => decide (off / st < c) && inDims t (off % st)

/-- Whether address `a` is one of the registers of row `r`. -/
def RegRow.covers (r : RegRow) (a : Nat) : Bool := decide (r.base ≤ a) && inDims r.dims (a - r.base)

/-- A sparse store: (key, value) pairs in rising order of key; a key not listed holds the store's default. -/
abbrev Sparse (α : Type) := List (Nat × α)

/-- The value at key `k`, `d k` where no entry names it. -/
def sparseGet {α : Type} (d : Nat → α) : Sparse α → Nat → α
  | [], k => d k
  | (k', v) :: t, k => if k' = k then v else sparseGet d t k

/-- The store with key `k` holding `v`: one entry in order, and none where `v` is the default. -/
def sparseSet {α : Type} [DecidableEq α] (d : Nat → α) : Sparse α → Nat → α → Sparse α
  | [], k, v => if v = d k then [] else [(k, v)]
  | (k', v') :: t, k, v =>
    if k' < k then (k', v') :: sparseSet d t k v
    else
      let rest := ((k', v') :: t).filter (fun e => e.1 ≠ k)
      if v = d k then rest else (k, v) :: rest

/-- The canonical form of a store: keys strictly rising, and no entry equal to the default. -/
def sparseWf {α : Type} [DecidableEq α] (d : Nat → α) : Sparse α → Bool
  | [] => true
  | [(k, v)] => decide (v ≠ d k)
  | (k, v) :: (k', v') :: t => decide (v ≠ d k) && decide (k < k') && sparseWf d ((k', v') :: t)

end Sys2Proof.Machine
end

