-- ==== Sys2Proof/Machine/RegMap.lean ====
section
/-!
DEFINITION. Sys2Proof/Machine/RegMap.lean: the names of the register space. `A.<REGISTER>` is a register's
byte address (R509; the register index tables of the chapters), its indices in the order of its name, the
quadrant `n` first; `F.<REGISTER>_<FIELD>` is one field of it: the address, its lowest bit and its width, from
the field tables.
-/

namespace Sys2Proof.Machine

abbrev A.WT_CTRL : Nat := 0x10000
abbrev A.WT_STATUS : Nat := 0x10004
abbrev A.WT_FLAGS : Nat := 0x10008
abbrev A.WT_SNAP_SEC_HI : Nat := 0x10010
abbrev A.WT_SNAP_SEC_LO : Nat := 0x10014
abbrev A.WT_SNAP_NS : Nat := 0x10018
abbrev A.WT_SNAP_FRAC : Nat := 0x1001c
abbrev A.WT_SERVO_CFG : Nat := 0x10020
abbrev A.WT_FREQ_LIMIT : Nat := 0x10024
abbrev A.WT_FREQ_ADJ : Nat := 0x10028
abbrev A.WT_LOCK_CFG : Nat := 0x1002c
abbrev A.WT_HO_CFG : Nat := 0x10030
abbrev A.WT_HO_T0 : Nat := 0x10034
abbrev A.WT_HO_C (i : Nat) : Nat := 0x10038 + 0x4 * i
abbrev A.WT_HO_ELAPSED : Nat := 0x10048
abbrev A.WT_DOM_CFG (d : Nat) : Nat := 0x10100 + 0x40 * d
abbrev A.WT_DOM_MASTER_ID0 (d : Nat) : Nat := 0x10104 + 0x40 * d
abbrev A.WT_DOM_MASTER_ID1 (d : Nat) : Nat := 0x10108 + 0x40 * d
abbrev A.WT_DOM_MASTER_PORT (d : Nat) : Nat := 0x1010c + 0x40 * d
abbrev A.WT_DOM_STATUS (d : Nat) : Nat := 0x10110 + 0x40 * d
abbrev A.WT_DOM_OFFSET (d : Nat) : Nat := 0x10114 + 0x40 * d
abbrev A.WT_DOM_MPD (d : Nat) : Nat := 0x10118 + 0x40 * d
abbrev A.WT_DOM_ASYM (d : Nat) : Nat := 0x1011c + 0x40 * d
abbrev A.WT_DSW_OFFSET : Nat := 0x10180
abbrev A.WT_DSW_HELD : Nat := 0x10184
abbrev A.WT_DSW_CFG : Nat := 0x10188
abbrev A.WT_DSW_SLEW_RATE : Nat := 0x1018c
abbrev A.WT_DSW_TARGET : Nat := 0x10190
abbrev A.WT_DSW_SLEW_AT_SEC_HI : Nat := 0x10194
abbrev A.WT_DSW_SLEW_AT_SEC_LO : Nat := 0x10198
abbrev A.WT_DSW_SLEW_AT_NS : Nat := 0x1019c
abbrev A.WT_PORT_TRIM (p : Nat) : Nat := 0x10200 + 0x8 * p
abbrev A.CAD_EPOCH_HI : Nat := 0x10300
abbrev A.CAD_EPOCH_LO : Nat := 0x10304
abbrev A.CAD_P : Nat := 0x10308
abbrev A.CAD_Q : Nat := 0x1030c
abbrev A.CAD_FRAME_LO : Nat := 0x10310
abbrev A.CAD_FRAME_HI : Nat := 0x10314
abbrev A.WT_EVT_SEC_HI (s : Nat) : Nat := 0x11000 + 0x20 * s
abbrev A.WT_EVT_SEC_LO (s : Nat) : Nat := 0x11004 + 0x20 * s
abbrev A.WT_EVT_NS (s : Nat) : Nat := 0x11008 + 0x20 * s
abbrev A.WT_EVT_FRAC (s : Nat) : Nat := 0x1100c + 0x20 * s
abbrev A.WT_EVT_CTRL (s : Nat) : Nat := 0x11010 + 0x20 * s
abbrev A.WT_EVT_WIDTH (s : Nat) : Nat := 0x11014 + 0x20 * s
abbrev A.WT_EVT_PERIOD_NS (s : Nat) : Nat := 0x11018 + 0x20 * s
abbrev A.WT_EVT_PERIOD_FRAC (s : Nat) : Nat := 0x1101c + 0x20 * s
abbrev A.WT_CAP_W0 : Nat := 0x12000
abbrev A.WT_CAP_W1 : Nat := 0x12004
abbrev A.WT_CAP_W2 : Nat := 0x12008
abbrev A.WT_CAP_W3 : Nat := 0x1200c
abbrev A.WT_CAP_STATUS : Nat := 0x12010
abbrev A.WT_CAP_CFG (c : Nat) : Nat := 0x12100 + 0x4 * c
abbrev A.SEQ_CTRL (s : Nat) : Nat := 0x20000 + 0x100 * s
abbrev A.SEQ_STATUS (s : Nat) : Nat := 0x20004 + 0x100 * s
abbrev A.SEQ_PC (s : Nat) : Nat := 0x20008 + 0x100 * s
abbrev A.SEQ_FAULT (s : Nat) : Nat := 0x2000c + 0x100 * s
abbrev A.SEQ_EVQ_STATUS (s : Nat) : Nat := 0x20010 + 0x100 * s
abbrev A.SEQ_POST (s : Nat) : Nat := 0x20014 + 0x100 * s
abbrev A.SEQ_WDOG (s : Nat) : Nat := 0x20018 + 0x100 * s
abbrev A.SEQ_ENTRY (s : Nat) : Nat := 0x2001c + 0x100 * s
abbrev A.WHISTLE_MASK : Nat := 0x20800
abbrev A.CRD_NET_DROP_A : Nat := 0x30000
abbrev A.CRD_NET_DROP_B : Nat := 0x30004
abbrev A.CRD_CAM_DROP : Nat := 0x30008
abbrev A.CRD_LEAD (n : Nat) : Nat := 0x1005000 + 0x400000 * n
abbrev A.CRD_LEAD_FRAME (n : Nat) : Nat := 0x1005004 + 0x400000 * n
abbrev A.CRD_LEAD_WARN (n : Nat) : Nat := 0x1005008 + 0x400000 * n
abbrev A.GEO_PANEL : Nat := 0x60000
abbrev A.GEO_STATUS : Nat := 0x60004
abbrev A.GEO_DIRS : Nat := 0x60008
abbrev A.GEO_LOAD_SRC : Nat := 0x60010
abbrev A.GEO_LOAD_CFG : Nat := 0x60014
abbrev A.GEO_LOAD_COUNT : Nat := 0x60018
abbrev A.GEO_LOAD_GO : Nat := 0x6001c
abbrev A.GEO_LOAD_FRAME : Nat := 0x60020
abbrev A.GEO_PERR_INDEX : Nat := 0x60024
abbrev A.GEO_TANU (u : Nat) : Nat := 0x60400 + 0x4 * u
abbrev A.GEO_TANV (v : Nat) : Nat := 0x60600 + 0x4 * v
abbrev A.GEO_RATIO (n p : Nat) : Nat := 0x1006000 + 0x400000 * n + 0x8 * p
abbrev A.GEO_APRON (n p : Nat) : Nat := 0x1006004 + 0x400000 * n + 0x8 * p
abbrev A.GEO_FLAGS (n : Nat) : Nat := 0x1006080 + 0x400000 * n
abbrev A.RKN_CFG : Nat := 0x70000
abbrev A.RKN_STATUS : Nat := 0x70004
abbrev A.RKN_CNT_AUTH : Nat := 0x70008
abbrev A.RKN_CNT_DUP : Nat := 0x7000c
abbrev A.RKN_CNT_BADHDR : Nat := 0x70010
abbrev A.RKN_CNT_NOFLOW : Nat := 0x70014
abbrev A.RKN_CNT_PATCH_BAD : Nat := 0x70018
abbrev A.RKN_FENCE_STALE : Nat := 0x7001c
abbrev A.RKN_LAST_ERR : Nat := 0x70020
abbrev A.RKN_ARENA_BASE (n : Nat) : Nat := 0x70100 + 0x4 * n
abbrev A.RKN_SURF_BASE (d : Nat) : Nat := 0x70200 + 0x10 * d
abbrev A.RKN_SURF_FMT (d : Nat) : Nat := 0x70204 + 0x10 * d
abbrev A.RKN_SURF_SIZE (d : Nat) : Nat := 0x70208 + 0x10 * d
abbrev A.SST_PLANE_CTRL (p : Nat) : Nat := 0x80000 + 0x20 * p
abbrev A.SST_PLANE_BANK0 (p : Nat) : Nat := 0x80004 + 0x20 * p
abbrev A.SST_PLANE_BANK1 (p : Nat) : Nat := 0x80008 + 0x20 * p
abbrev A.SST_PLANE_STATUS (p : Nat) : Nat := 0x8000c + 0x20 * p
abbrev A.SST_PLANE_FENCE (p : Nat) : Nat := 0x80010 + 0x20 * p
abbrev A.SST_PLANE_FLIP_FRAME (p : Nat) : Nat := 0x80014 + 0x20 * p
abbrev A.FLOW_W0 (f : Nat) : Nat := 0x600000 + 0x20 * f
abbrev A.FLOW_SURF_MASK (f : Nat) : Nat := 0x600004 + 0x20 * f
abbrev A.FLOW_NEXT_SEQ_LO (f : Nat) : Nat := 0x600008 + 0x20 * f
abbrev A.FLOW_NEXT_SEQ_HI (f : Nat) : Nat := 0x60000c + 0x20 * f
abbrev A.FLOW_HIST_LEN (f : Nat) : Nat := 0x600010 + 0x20 * f
abbrev A.FLOW_ACCEPTED (f : Nat) : Nat := 0x600014 + 0x20 * f
abbrev A.FLOW_ERRS (f : Nat) : Nat := 0x600018 + 0x20 * f
abbrev A.FLOW_LAST_FRAME (f : Nat) : Nat := 0x60001c + 0x20 * f
abbrev A.SYN_THERM_CAP : Nat := 0x90000
abbrev A.SYN_GO (n : Nat) : Nat := 0x1007000 + 0x400000 * n
abbrev A.SYN_CFG (n : Nat) : Nat := 0x1007004 + 0x400000 * n
abbrev A.SYN_ORDER0 (n : Nat) : Nat := 0x1007008 + 0x400000 * n
abbrev A.SYN_ORDER1 (n : Nat) : Nat := 0x100700c + 0x400000 * n
abbrev A.SYN_STATUS (n : Nat) : Nat := 0x1007010 + 0x400000 * n
abbrev A.SYN_FRAME (n : Nat) : Nat := 0x1007014 + 0x400000 * n
abbrev A.SYN_SAMPLES_LO (n : Nat) : Nat := 0x1007018 + 0x400000 * n
abbrev A.SYN_SAMPLES_HI (n : Nat) : Nat := 0x100701c + 0x400000 * n
abbrev A.SYN_XSTALL (n : Nat) : Nat := 0x1007020 + 0x400000 * n
abbrev A.SYN_MAXLINE (n : Nat) : Nat := 0x1007024 + 0x400000 * n
abbrev A.SYN_DEPTH (n p : Nat) : Nat := 0x1007100 + 0x400000 * n + 0x8 * p
abbrev A.SYN_RELIEF (n p : Nat) : Nat := 0x1007104 + 0x400000 * n + 0x8 * p
abbrev A.SST_SYNC (g : Nat) : Nat := 0x80200 + 0x4 * g
abbrev A.SST_SYNC_STATUS : Nat := 0x80210
abbrev A.CMP_LUTSEL (n : Nat) : Nat := 0x1008000 + 0x400000 * n
abbrev A.CMP_STATUS (n : Nat) : Nat := 0x1008004 + 0x400000 * n
abbrev A.CMP_COMMIT_FRAME (n : Nat) : Nat := 0x1008008 + 0x400000 * n
abbrev A.CMP_CFG (n : Nat) : Nat := 0x100800c + 0x400000 * n
abbrev A.OVL_CTRL (n o : Nat) : Nat := 0x1008100 + 0x400000 * n + 0x40 * o
abbrev A.OVL_BASE (n o : Nat) : Nat := 0x1008104 + 0x400000 * n + 0x40 * o
abbrev A.OVL_SIZEBASE (n o : Nat) : Nat := 0x1008108 + 0x400000 * n + 0x40 * o
abbrev A.OVL_PITCH (n o : Nat) : Nat := 0x100810c + 0x400000 * n + 0x40 * o
abbrev A.OVL_SRC (n o : Nat) : Nat := 0x1008110 + 0x400000 * n + 0x40 * o
abbrev A.OVL_DSTPOS (n o : Nat) : Nat := 0x1008114 + 0x400000 * n + 0x40 * o
abbrev A.OVL_DSTSIZE (n o : Nat) : Nat := 0x1008118 + 0x400000 * n + 0x40 * o
abbrev A.OVL_COLOR (n o : Nat) : Nat := 0x100811c + 0x400000 * n + 0x40 * o
abbrev A.LUT_PRE (n s b c m : Nat) : Nat := 0x1100000 + 0x400000 * n + 0x4000 * s + 0x2000 * b + 0x800 * c + 0x4 * m
abbrev A.LUT_POST (n b c m : Nat) : Nat := 0x1180000 + 0x400000 * n + 0x8000 * b + 0x2000 * c + 0x4 * m
abbrev A.MAP_CTRL (n : Nat) : Nat := 0x1009000 + 0x400000 * n
abbrev A.MAP_STATUS (n : Nat) : Nat := 0x1009004 + 0x400000 * n
abbrev A.MAP_BANK_BASE (n b : Nat) : Nat := 0x1009008 + 0x400000 * n + 0x4 * b
abbrev A.MAP_RECSIZE (n : Nat) : Nat := 0x1009010 + 0x400000 * n
abbrev A.MAP_BANKSIZE (n : Nat) : Nat := 0x1009014 + 0x400000 * n
abbrev A.MAP_LEVEL (n : Nat) : Nat := 0x1009018 + 0x400000 * n
abbrev A.MAP_LEVEL_FRAME (n : Nat) : Nat := 0x100901c + 0x400000 * n
abbrev A.MAP_ERR_COUNT (n : Nat) : Nat := 0x1009020 + 0x400000 * n
abbrev A.MAP_ERR_INDEX (n : Nat) : Nat := 0x1009024 + 0x400000 * n
abbrev A.MAP_FRAME (n : Nat) : Nat := 0x1009028 + 0x400000 * n
abbrev A.SCAN_VTIMING : Nat := 0xa0000
abbrev A.SCAN_RUNAHEAD : Nat := 0xa0004
abbrev A.SCAN_ROWDLY : Nat := 0xa0008
abbrev A.ROW_STV_CFG : Nat := 0xa000c
abbrev A.ROW_CK_CFG : Nat := 0xa0010
abbrev A.ROW_EN_CFG : Nat := 0xa0014
abbrev A.ROW_POL : Nat := 0xa0018
abbrev A.SCAN_TMG_FLAGS : Nat := 0xa001c
abbrev A.SCAN_TE_CFG : Nat := 0xa0020
abbrev A.SCAN_KENNEL_CFG : Nat := 0xa0024
abbrev A.MUZZLE_CTRL : Nat := 0xa0040
abbrev A.MUZZLE_STATUS : Nat := 0xa0044
abbrev A.EMW_CTRL : Nat := 0xa0100
abbrev A.EMW_STATUS : Nat := 0xa0104
abbrev A.EMW_TEMP : Nat := 0xa0108
abbrev A.EMW_HYST : Nat := 0xa010c
abbrev A.EMW_TEMP_TIMEOUT : Nat := 0xa0110
abbrev A.EMW_IREF_CAP : Nat := 0xa0114
abbrev A.EMW_BAND_FRAME : Nat := 0xa0118
abbrev A.EMW_LIMIT (b : Nat) : Nat := 0xa0120 + 0x4 * b
abbrev A.WAVE_SLOT (b m : Nat) : Nat := 0xa8000 + 0x1000 * b + 0x4 * m
abbrev A.WAVE_IREF (b : Nat) : Nat := 0xa8800 + 0x1000 * b
abbrev A.SCAN_CTRL (n : Nat) : Nat := 0x100a000 + 0x400000 * n
abbrev A.SCAN_STATUS (n : Nat) : Nat := 0x100a004 + 0x400000 * n
abbrev A.SCAN_FLAGS (n : Nat) : Nat := 0x100a008 + 0x400000 * n
abbrev A.SCAN_REFUSE (n : Nat) : Nat := 0x100a00c + 0x400000 * n
abbrev A.SCAN_START_FRAME (n : Nat) : Nat := 0x100a010 + 0x400000 * n
abbrev A.SCAN_UNDERRUNS (n : Nat) : Nat := 0x100a014 + 0x400000 * n
abbrev A.SCAN_ABORT (n : Nat) : Nat := 0x100a018 + 0x400000 * n
abbrev A.SCAN_ABORT_FRAME (n : Nat) : Nat := 0x100a01c + 0x400000 * n
abbrev A.SCAN_TE_ERR (n : Nat) : Nat := 0x100a020 + 0x400000 * n
abbrev A.SCAN_TE_FRAME (n : Nat) : Nat := 0x100a024 + 0x400000 * n
abbrev A.SCAN_TE_COUNT (n : Nat) : Nat := 0x100a028 + 0x400000 * n
abbrev A.TPL_ROT_CFG (n : Nat) : Nat := 0x100b000 + 0x400000 * n
abbrev A.TPL_FAIL_CFG (n : Nat) : Nat := 0x100b004 + 0x400000 * n
abbrev A.TPL_DROW_MIN (n : Nat) : Nat := 0x100b008 + 0x400000 * n
abbrev A.TPL_CTRL (n g : Nat) : Nat := 0x100b100 + 0x400000 * n + 0x40 * g
abbrev A.TPL_RATE (n g : Nat) : Nat := 0x100b104 + 0x400000 * n + 0x40 * g
abbrev A.TPL_STATUS (n g : Nat) : Nat := 0x100b108 + 0x400000 * n + 0x40 * g
abbrev A.TPL_MAP (n g : Nat) : Nat := 0x100b10c + 0x400000 * n + 0x40 * g
abbrev A.TPL_FLAGS (n g : Nat) : Nat := 0x100b110 + 0x400000 * n + 0x40 * g
abbrev A.TPL_CAPS (n g : Nat) : Nat := 0x100b114 + 0x400000 * n + 0x40 * g
abbrev A.TPL_CRCERR (n g : Nat) : Nat := 0x100b118 + 0x400000 * n + 0x40 * g
abbrev A.TPL_SWAPS (n g : Nat) : Nat := 0x100b11c + 0x400000 * n + 0x40 * g
abbrev A.TPL_PRBS (n g p : Nat) : Nat := 0x100b120 + 0x400000 * n + 0x40 * g + 0x4 * p
abbrev A.NET_CFG : Nat := 0xb0000
abbrev A.NET_STATUS : Nat := 0xb0004
abbrev A.NET_EVT_CFG : Nat := 0xb0010
abbrev A.NET_EVT_DST_MAC_HI : Nat := 0xb0014
abbrev A.NET_EVT_DST_MAC_LO : Nat := 0xb0018
abbrev A.NET_EVT_DST_IP (i : Nat) : Nat := 0xb0020 + 0x4 * i
abbrev A.NET_EVT_DST_UDP : Nat := 0xb0030
abbrev A.NET_MRX_FREE : Nat := 0xb0040
abbrev A.NET_MREPLY : Nat := 0xb0044
abbrev A.NET_MREPLY_DATA : Nat := 0xb0048
abbrev A.NET_MRX_DROP : Nat := 0xb004c
abbrev A.NET_MTX_DROP : Nat := 0xb0050
abbrev A.NET_MRX_INFO (b : Nat) : Nat := 0xb0400 + 0x4 * b
abbrev A.NET_PORT_MODE (p : Nat) : Nat := 0xb0100 + 0x100 * p
abbrev A.NET_PORT_STATUS (p : Nat) : Nat := 0xb0104 + 0x100 * p
abbrev A.NET_PORT_MAC_HI (p : Nat) : Nat := 0xb0108 + 0x100 * p
abbrev A.NET_PORT_MAC_LO (p : Nat) : Nat := 0xb010c + 0x100 * p
abbrev A.NET_PORT_IPV4 (p : Nat) : Nat := 0xb0110 + 0x100 * p
abbrev A.NET_PORT_IPV6 (p i : Nat) : Nat := 0xb0114 + 0x100 * p + 0x4 * i
abbrev A.NET_PORT_TXEQ (p l : Nat) : Nat := 0xb0130 + 0x100 * p + 0x4 * l
abbrev A.NET_PORT_RX_ERR (p : Nat) : Nat := 0xb0140 + 0x100 * p
abbrev A.NET_PORT_RX_CTRL (p : Nat) : Nat := 0xb0144 + 0x100 * p
abbrev A.NET_PORT_RX_FILT (p : Nat) : Nat := 0xb0148 + 0x100 * p
abbrev A.NET_PORT_FWD_DROP (p : Nat) : Nat := 0xb014c + 0x100 * p
abbrev A.NET_PORT_RX_FRAMES (p : Nat) : Nat := 0xb0150 + 0x100 * p
abbrev A.NET_PORT_TX_FRAMES (p : Nat) : Nat := 0xb0154 + 0x100 * p
abbrev A.NET_PORT_GRP_HI (p m : Nat) : Nat := 0xb0180 + 0x100 * p + 0x8 * m
abbrev A.NET_PORT_GRP_LO (p m : Nat) : Nat := 0xb0184 + 0x100 * p + 0x8 * m
abbrev A.NET_MRX_BUF (b w : Nat) : Nat := 0xb8000 + 0x200 * b + 0x4 * w
abbrev A.NBR_ID : Nat := 0xc0000
abbrev A.NBR_SEAM_CFG : Nat := 0xc0004
abbrev A.NBR_CTRL (q : Nat) : Nat := 0xc0200 + 0x200 * q
abbrev A.NBR_STATUS (q : Nat) : Nat := 0xc0204 + 0x200 * q
abbrev A.NBR_FLAGS (q : Nat) : Nat := 0xc0208 + 0x200 * q
abbrev A.NBR_RATE (q : Nat) : Nat := 0xc020c + 0x200 * q
abbrev A.NBR_PEER_ID (q : Nat) : Nat := 0xc0210 + 0x200 * q
abbrev A.NBR_PLANES (q : Nat) : Nat := 0xc0214 + 0x200 * q
abbrev A.NBR_RXWIN_X (q : Nat) : Nat := 0xc0218 + 0x200 * q
abbrev A.NBR_RXWIN_Y (q : Nat) : Nat := 0xc021c + 0x200 * q
abbrev A.NBR_SKEW (q : Nat) : Nat := 0xc0220 + 0x200 * q
abbrev A.NBR_DELAY (q : Nat) : Nat := 0xc0224 + 0x200 * q
abbrev A.NBR_ASYM (q : Nat) : Nat := 0xc0228 + 0x200 * q
abbrev A.NBR_PEER_INFO (q : Nat) : Nat := 0xc022c + 0x200 * q
abbrev A.NBR_CNT_AUTH (q : Nat) : Nat := 0xc0230 + 0x200 * q
abbrev A.NBR_CNT_LOSS (q : Nat) : Nat := 0xc0234 + 0x200 * q
abbrev A.NBR_CNT_WIN (q : Nat) : Nat := 0xc0238 + 0x200 * q
abbrev A.NBR_TXSTRIP (q p : Nat) : Nat := 0xc0300 + 0x200 * q + 0x10 * p
abbrev A.NBR_TXSIZE (q p : Nat) : Nat := 0xc0304 + 0x200 * q + 0x10 * p
abbrev A.NBR_TXDST (q p : Nat) : Nat := 0xc0308 + 0x200 * q + 0x10 * p
abbrev A.DFL_CFG : Nat := 0xd0000
abbrev A.DFL_STATUS : Nat := 0xd0004
abbrev A.DFL_JOB_PUSH : Nat := 0xd0010
abbrev A.DFL_JOB_CREDIT : Nat := 0xd0014
abbrev A.DFL_CPL_W (i : Nat) : Nat := 0xd0020 + 0x4 * i
abbrev A.DFL_CPL_STATUS : Nat := 0xd0030
abbrev A.DFL_CAM_SKIP : Nat := 0xd0040
abbrev A.DFL_CAM_LAST : Nat := 0xd0044
abbrev A.BLT_GO (n : Nat) : Nat := 0x100c000 + 0x400000 * n
abbrev A.BLT_CTRL (n : Nat) : Nat := 0x100c004 + 0x400000 * n
abbrev A.BLT_ROP (n : Nat) : Nat := 0x100c008 + 0x400000 * n
abbrev A.BLT_STATUS (n : Nat) : Nat := 0x100c00c + 0x400000 * n
abbrev A.BLT_SIZE (n : Nat) : Nat := 0x100c010 + 0x400000 * n
abbrev A.BLT_WMARK (n : Nat) : Nat := 0x100c014 + 0x400000 * n
abbrev A.BLT_FENCE (n : Nat) : Nat := 0x100c018 + 0x400000 * n
abbrev A.BLT_DST_BASE (n : Nat) : Nat := 0x100c020 + 0x400000 * n
abbrev A.BLT_DST_CFG (n : Nat) : Nat := 0x100c024 + 0x400000 * n
abbrev A.BLT_DST_XY (n : Nat) : Nat := 0x100c028 + 0x400000 * n
abbrev A.BLT_SRC_BASE (n : Nat) : Nat := 0x100c030 + 0x400000 * n
abbrev A.BLT_SRC_CFG (n : Nat) : Nat := 0x100c034 + 0x400000 * n
abbrev A.BLT_SRC_XY (n : Nat) : Nat := 0x100c038 + 0x400000 * n
abbrev A.BLT_PAT_FG (n : Nat) : Nat := 0x100c040 + 0x400000 * n
abbrev A.BLT_PAT_BG (n : Nat) : Nat := 0x100c044 + 0x400000 * n
abbrev A.BLT_PAT_MONO0 (n : Nat) : Nat := 0x100c048 + 0x400000 * n
abbrev A.BLT_PAT_MONO1 (n : Nat) : Nat := 0x100c04c + 0x400000 * n
abbrev A.BLT_PAT_ORG (n : Nat) : Nat := 0x100c050 + 0x400000 * n
abbrev A.BLT_PAT (n q : Nat) : Nat := 0x100c100 + 0x400000 * n + 0x4 * q
abbrev A.CAM_PORT_CTRL (p : Nat) : Nat := 0xe0000 + 0x40 * p
abbrev A.CAM_PORT_STATUS (p : Nat) : Nat := 0xe0004 + 0x40 * p
abbrev A.CAM_PORT_VCMAP0 (p : Nat) : Nat := 0xe0008 + 0x40 * p
abbrev A.CAM_PORT_VCMAP1 (p : Nat) : Nat := 0xe000c + 0x40 * p
abbrev A.CAM_PORT_ERR0 (p : Nat) : Nat := 0xe0010 + 0x40 * p
abbrev A.CAM_PORT_ERR1 (p : Nat) : Nat := 0xe0014 + 0x40 * p
abbrev A.CAM_DFL_CFG : Nat := 0xe0100
abbrev A.CAM_TONE (m : Nat) : Nat := 0xe4000 + 0x4 * m
abbrev A.CAM_CTX_CTRL (c : Nat) : Nat := 0xe1000 + 0x400 * c
abbrev A.CAM_CTX_SIZE (c : Nat) : Nat := 0xe1004 + 0x400 * c
abbrev A.CAM_CTX_RATE (c : Nat) : Nat := 0xe1008 + 0x400 * c
abbrev A.CAM_CTX_BLACK0 (c : Nat) : Nat := 0xe100c + 0x400 * c
abbrev A.CAM_CTX_BLACK1 (c : Nat) : Nat := 0xe1010 + 0x400 * c
abbrev A.CAM_CTX_IRK0 (c : Nat) : Nat := 0xe1014 + 0x400 * c
abbrev A.CAM_CTX_IRK1 (c : Nat) : Nat := 0xe1018 + 0x400 * c
abbrev A.CAM_CTX_CCM0 (c : Nat) : Nat := 0xe101c + 0x400 * c
abbrev A.CAM_CTX_CCM1 (c : Nat) : Nat := 0xe1020 + 0x400 * c
abbrev A.CAM_CTX_CCM2 (c : Nat) : Nat := 0xe1024 + 0x400 * c
abbrev A.CAM_CTX_CCM3 (c : Nat) : Nat := 0xe1028 + 0x400 * c
abbrev A.CAM_CTX_CCM4 (c : Nat) : Nat := 0xe102c + 0x400 * c
abbrev A.CAM_CTX_THRESH (c : Nat) : Nat := 0xe1030 + 0x400 * c
abbrev A.CAM_CTX_DISP_BASE (c s : Nat) : Nat := 0xe1040 + 0x400 * c + 0x20 * s
abbrev A.CAM_CTX_DISP_SIZEBASE (c s : Nat) : Nat := 0xe1044 + 0x400 * c + 0x20 * s
abbrev A.CAM_CTX_CODE_BASE (c s : Nat) : Nat := 0xe1048 + 0x400 * c + 0x20 * s
abbrev A.CAM_CTX_MV_BASE (c s : Nat) : Nat := 0xe104c + 0x400 * c + 0x20 * s
abbrev A.CAM_CTX_REC_BASE (c s : Nat) : Nat := 0xe1050 + 0x400 * c + 0x20 * s
abbrev A.CAM_CTX_DFL_BASE (c s : Nat) : Nat := 0xe1054 + 0x400 * c + 0x20 * s
abbrev A.CAM_CTX_DFL_SIZE (c s : Nat) : Nat := 0xe1058 + 0x400 * c + 0x20 * s
abbrev A.CAM_CTX_STATUS (c : Nat) : Nat := 0xe1090 + 0x400 * c
abbrev A.CAM_CTX_SEQ (c : Nat) : Nat := 0xe1094 + 0x400 * c
abbrev A.CAM_CTX_LAST (c : Nat) : Nat := 0xe1098 + 0x400 * c
abbrev A.CAM_CTX_DROPS (c : Nat) : Nat := 0xe109c + 0x400 * c
abbrev A.CAM_CTX_DFL_LEN (c : Nat) : Nat := 0xe10a0 + 0x400 * c
abbrev A.CAM_CTX_ROI_POS (c r : Nat) : Nat := 0xe1100 + 0x400 * c + 0x8 * r
abbrev A.CAM_CTX_ROI_END (c r : Nat) : Nat := 0xe1104 + 0x400 * c + 0x8 * r
abbrev A.DRAM_CTRL (n : Nat) : Nat := 0x100d000 + 0x400000 * n
abbrev A.DRAM_CFG (n : Nat) : Nat := 0x100d004 + 0x400000 * n
abbrev A.DRAM_STATUS (n : Nat) : Nat := 0x100d008 + 0x400000 * n
abbrev A.DRAM_SIZE (n : Nat) : Nat := 0x100d00c + 0x400000 * n
abbrev A.DRAM_REF_CFG (n : Nat) : Nat := 0x100d010 + 0x400000 * n
abbrev A.DRAM_REF_STATUS (n : Nat) : Nat := 0x100d014 + 0x400000 * n
abbrev A.DRAM_MRW (n : Nat) : Nat := 0x100d018 + 0x400000 * n
abbrev A.DRAM_MRR_REQ (n : Nat) : Nat := 0x100d01c + 0x400000 * n
abbrev A.DRAM_MRR (n : Nat) : Nat := 0x100d020 + 0x400000 * n
abbrev A.DRAM_ECC_CNT (n : Nat) : Nat := 0x100d024 + 0x400000 * n
abbrev A.DRAM_ECC_ADDR (n : Nat) : Nat := 0x100d028 + 0x400000 * n
abbrev A.DRAM_BW_RD (n : Nat) : Nat := 0x100d030 + 0x400000 * n
abbrev A.DRAM_BW_WR (n : Nat) : Nat := 0x100d034 + 0x400000 * n
abbrev A.DRAM_BW_FRAME (n : Nat) : Nat := 0x100d038 + 0x400000 * n
abbrev A.DRAM_RAW (n : Nat) : Nat := 0x100d03c + 0x400000 * n
abbrev A.CAL_GO (n : Nat) : Nat := 0x100e000 + 0x400000 * n
abbrev A.CAL_CTRL (n : Nat) : Nat := 0x100e004 + 0x400000 * n
abbrev A.CAL_CFG (n : Nat) : Nat := 0x100e008 + 0x400000 * n
abbrev A.CAL_STATUS (n : Nat) : Nat := 0x100e00c + 0x400000 * n
abbrev A.CAL_SCRATCH (n : Nat) : Nat := 0x100e010 + 0x400000 * n
abbrev A.CAL_LEVEL_MIN (n : Nat) : Nat := 0x100e014 + 0x400000 * n
abbrev A.CAL_TAP (n : Nat) : Nat := 0x100e018 + 0x400000 * n
abbrev A.CAL_FRAME (n : Nat) : Nat := 0x100e01c + 0x400000 * n
abbrev A.CAL_RES (n i : Nat) : Nat := 0x100e040 + 0x400000 * n + 0x4 * i
abbrev A.CAL_EYE (n i : Nat) : Nat := 0x100e080 + 0x400000 * n + 0x4 * i
abbrev A.CAL_RDDLY_LO (n b : Nat) : Nat := 0x100e100 + 0x400000 * n + 0x20 * b
abbrev A.CAL_RDDLY_HI (n b : Nat) : Nat := 0x100e104 + 0x400000 * n + 0x20 * b
abbrev A.CAL_WRDLY_LO (n b : Nat) : Nat := 0x100e108 + 0x400000 * n + 0x20 * b
abbrev A.CAL_WRDLY_HI (n b : Nat) : Nat := 0x100e10c + 0x400000 * n + 0x20 * b
abbrev A.CAL_LANE (n b : Nat) : Nat := 0x100e110 + 0x400000 * n + 0x20 * b
abbrev A.CAL_RX_GO : Nat := 0xf0000
abbrev A.CAL_RX_CFG : Nat := 0xf0004
abbrev A.CAL_RX_STATUS : Nat := 0xf0008
abbrev A.CAL_RX_SET (l : Nat) : Nat := 0xf0100 + 0x20 * l
abbrev A.CAL_RX_RES (l : Nat) : Nat := 0xf0104 + 0x20 * l
abbrev A.CAL_RX_EYE (l : Nat) : Nat := 0xf0108 + 0x20 * l
abbrev A.CAL_RX_ERR (l : Nat) : Nat := 0xf010c + 0x20 * l
abbrev A.SEC_STATUS : Nat := 0x100000
abbrev A.SEC_SVN : Nat := 0x100004
abbrev A.SEC_LEAF : Nat := 0x100008
abbrev A.SEC_DEVICE_ID_LO : Nat := 0x10000c
abbrev A.SEC_DEVICE_ID_HI : Nat := 0x100010
abbrev A.SEC_BOOT : Nat := 0x100014
abbrev A.SEC_SESSIONS : Nat := 0x100018
abbrev A.SEC_MEAS (m w : Nat) : Nat := 0x100100 + 0x40 * m + 0x4 * w
abbrev A.THM_CTRL : Nat := 0x110000
abbrev A.THM_STATUS : Nat := 0x110004
abbrev A.THM_FLAGS : Nat := 0x110008
abbrev A.THM_TMAX : Nat := 0x11000c
abbrev A.THM_WARN : Nat := 0x110010
abbrev A.THM_THROT : Nat := 0x110014
abbrev A.THM_SHUT : Nat := 0x110018
abbrev A.THM_THR_CFG : Nat := 0x11001c
abbrev A.THM_THR_TIME : Nat := 0x110020
abbrev A.THM_AVS_CFG : Nat := 0x110024
abbrev A.THM_VID : Nat := 0x110028
abbrev A.THM_AVS_MARGIN : Nat := 0x11002c
abbrev A.THM_SENSOR_EN : Nat := 0x110030
abbrev A.THM_MISC : Nat := 0x110034
abbrev A.THM_T (s : Nat) : Nat := 0x110100 + 0x4 * s
abbrev A.BIST_CTRL : Nat := 0x120000
abbrev A.BIST_STATUS : Nat := 0x120004
abbrev A.BIST_FLAGS : Nat := 0x120008
abbrev A.BIST_FAIL_SLICE : Nat := 0x12000c
abbrev A.BIST_FAIL_POS : Nat := 0x120010
abbrev A.BIST_REPAIR : Nat := 0x120014
abbrev A.BIST_COUNT : Nat := 0x120018
abbrev A.BIST_ERR_ADDR : Nat := 0x12001c
abbrev A.BIST_COVER : Nat := 0x120020
abbrev A.BIST_POWERON : Nat := 0x120024
abbrev A.KNL_CTRL : Nat := 0x120100
abbrev A.KNL_STATUS : Nat := 0x120104
abbrev A.DLOG_CFG (n : Nat) : Nat := 0x100f000 + 0x400000 * n
abbrev A.DLOG (n e : Nat) : Nat := 0x100f100 + 0x400000 * n + 0x4 * e
abbrev A.PWR_CTRL : Nat := 0x130000
abbrev A.PWR_STATUS : Nat := 0x130004
abbrev A.PWR_FLAGS : Nat := 0x130008
abbrev A.PWR_RESET_CAUSE : Nat := 0x13000c
abbrev A.PWR_WAKE_SEC_HI : Nat := 0x130010
abbrev A.PWR_WAKE_SEC_LO : Nat := 0x130014
abbrev A.PWR_WAKE_NS : Nat := 0x130018
abbrev A.PWR_PNL : Nat := 0x130020
abbrev A.PWR_PNL_STATUS : Nat := 0x130024
abbrev A.PWR_PLANE_FRONT : Nat := 0x130028
abbrev A.PWR_CTX_SAVE : Nat := 0x13002c
abbrev A.SYS_CHIP_ID : Nat := 0x0
abbrev A.SYS_STATUS : Nat := 0x4
abbrev A.SYS_UNMAPPED_ADDR : Nat := 0x8
abbrev A.SYS_PARAM_LEN : Nat := 0x10
abbrev A.SYS_PARAM_ID : Nat := 0x14
abbrev A.SYS_PARAM_SKIP : Nat := 0x18
abbrev A.GPIO_DIR : Nat := 0x140000
abbrev A.GPIO_OUT : Nat := 0x140004
abbrev A.GPIO_IN : Nat := 0x140008
abbrev A.GPIO_PULL : Nat := 0x14000c
abbrev A.BRD_STATUS : Nat := 0x150000
abbrev A.BRD_EVT : Nat := 0x150004

abbrev F.WT_CTRL_SERVO_EN : Fld := ⟨A.WT_CTRL, 0, 1⟩
abbrev F.WT_CTRL_AUTO_SWITCH : Fld := ⟨A.WT_CTRL, 1, 1⟩
abbrev F.WT_CTRL_ACTIVE_DOM : Fld := ⟨A.WT_CTRL, 2, 1⟩
abbrev F.WT_CTRL_FREE_RUN_OK : Fld := ⟨A.WT_CTRL, 3, 1⟩
abbrev F.WT_CTRL_TC_EN : Fld := ⟨A.WT_CTRL, 4, 1⟩
abbrev F.WT_CTRL_SNAP : Fld := ⟨A.WT_CTRL, 31, 1⟩
abbrev F.WT_STATUS_LEASH : Fld := ⟨A.WT_STATUS, 0, 3⟩
abbrev F.WT_STATUS_ACTIVE : Fld := ⟨A.WT_STATUS, 3, 1⟩
abbrev F.WT_STATUS_STANDBY_OK : Fld := ⟨A.WT_STATUS, 4, 1⟩
abbrev F.WT_STATUS_DSW_SLEWING : Fld := ⟨A.WT_STATUS, 5, 1⟩
abbrev F.WT_FLAGS_LEASHED : Fld := ⟨A.WT_FLAGS, 0, 1⟩
abbrev F.WT_FLAGS_STEP_NEEDED : Fld := ⟨A.WT_FLAGS, 1, 1⟩
abbrev F.WT_FLAGS_FREQ_CLAMP : Fld := ⟨A.WT_FLAGS, 2, 1⟩
abbrev F.WT_FLAGS_DSW_DONE : Fld := ⟨A.WT_FLAGS, 3, 1⟩
abbrev F.WT_FLAGS_DSW_REFUSED : Fld := ⟨A.WT_FLAGS, 4, 1⟩
abbrev F.WT_FLAGS_STALE_WRITE : Fld := ⟨A.WT_FLAGS, 5, 1⟩
abbrev F.WT_FLAGS_HO_ENTER : Fld := ⟨A.WT_FLAGS, 6, 1⟩
abbrev F.WT_FLAGS_EXPIRED : Fld := ⟨A.WT_FLAGS, 7, 1⟩
abbrev F.WT_FLAGS_EVT_LATE : Fld := ⟨A.WT_FLAGS, 8, 1⟩
abbrev F.WT_FLAGS_EVT_COLLIDE : Fld := ⟨A.WT_FLAGS, 9, 1⟩
abbrev F.WT_SNAP_FRAC_FRAC : Fld := ⟨A.WT_SNAP_FRAC, 0, 16⟩
abbrev F.WT_SNAP_FRAC_VALID : Fld := ⟨A.WT_SNAP_FRAC, 31, 1⟩
abbrev F.WT_SERVO_CFG_KP : Fld := ⟨A.WT_SERVO_CFG, 0, 16⟩
abbrev F.WT_SERVO_CFG_KI : Fld := ⟨A.WT_SERVO_CFG, 16, 16⟩
abbrev F.WT_FREQ_LIMIT_LIMIT : Fld := ⟨A.WT_FREQ_LIMIT, 0, 18⟩
abbrev F.WT_LOCK_CFG_LOCK_NS : Fld := ⟨A.WT_LOCK_CFG, 0, 16⟩
abbrev F.WT_LOCK_CFG_LOCK_COUNT : Fld := ⟨A.WT_LOCK_CFG, 16, 8⟩
abbrev F.WT_LOCK_CFG_SLEW_WINDOW_US : Fld := ⟨A.WT_LOCK_CFG, 24, 8⟩
abbrev F.WT_HO_CFG_HO_LIMIT_S : Fld := ⟨A.WT_HO_CFG, 0, 16⟩
abbrev F.WT_HO_CFG_SENSOR : Fld := ⟨A.WT_HO_CFG, 16, 4⟩
abbrev F.WT_DOM_CFG_DOMAIN_NUM (d : Nat) : Fld := ⟨A.WT_DOM_CFG d, 0, 8⟩
abbrev F.WT_DOM_CFG_TRANSPORT (d : Nat) : Fld := ⟨A.WT_DOM_CFG d, 8, 2⟩
abbrev F.WT_DOM_CFG_DELAY_MECH (d : Nat) : Fld := ⟨A.WT_DOM_CFG d, 10, 1⟩
abbrev F.WT_DOM_CFG_PORT_SEL (d : Nat) : Fld := ⟨A.WT_DOM_CFG d, 12, 2⟩
abbrev F.WT_DOM_CFG_LOG_SYNC (d : Nat) : Fld := ⟨A.WT_DOM_CFG d, 16, 4⟩
abbrev F.WT_DOM_CFG_SYNC_TIMEOUT (d : Nat) : Fld := ⟨A.WT_DOM_CFG d, 20, 4⟩
abbrev F.WT_DOM_CFG_REQUIRE_AUTH (d : Nat) : Fld := ⟨A.WT_DOM_CFG d, 24, 1⟩
abbrev F.WT_DOM_CFG_ENABLE (d : Nat) : Fld := ⟨A.WT_DOM_CFG d, 31, 1⟩
abbrev F.WT_DOM_STATUS_LOCKED (d : Nat) : Fld := ⟨A.WT_DOM_STATUS d, 0, 1⟩
abbrev F.WT_DOM_STATUS_TIMEOUT (d : Nat) : Fld := ⟨A.WT_DOM_STATUS d, 1, 1⟩
abbrev F.WT_DOM_STATUS_AUTH_FAIL (d : Nat) : Fld := ⟨A.WT_DOM_STATUS d, 16, 16⟩
abbrev F.WT_DOM_OFFSET_OFFSET (d : Nat) : Fld := ⟨A.WT_DOM_OFFSET d, 0, 31⟩
abbrev F.WT_DOM_OFFSET_VALID (d : Nat) : Fld := ⟨A.WT_DOM_OFFSET d, 31, 1⟩
abbrev F.WT_DOM_MPD_MPD (d : Nat) : Fld := ⟨A.WT_DOM_MPD d, 0, 31⟩
abbrev F.WT_DOM_MPD_VALID (d : Nat) : Fld := ⟨A.WT_DOM_MPD d, 31, 1⟩
abbrev F.WT_DSW_OFFSET_D : Fld := ⟨A.WT_DSW_OFFSET, 0, 31⟩
abbrev F.WT_DSW_OFFSET_VALID : Fld := ⟨A.WT_DSW_OFFSET, 31, 1⟩
abbrev F.WT_DSW_CFG_MIN_S : Fld := ⟨A.WT_DSW_CFG, 0, 16⟩
abbrev F.WT_DSW_SLEW_RATE_RATE : Fld := ⟨A.WT_DSW_SLEW_RATE, 0, 10⟩
abbrev F.WT_PORT_TRIM_TX_TRIM (p : Nat) : Fld := ⟨A.WT_PORT_TRIM p, 0, 16⟩
abbrev F.WT_PORT_TRIM_RX_TRIM (p : Nat) : Fld := ⟨A.WT_PORT_TRIM p, 16, 16⟩
abbrev F.WT_EVT_FRAC_FRAC (s : Nat) : Fld := ⟨A.WT_EVT_FRAC s, 0, 16⟩
abbrev F.WT_EVT_CTRL_ARM (s : Nat) : Fld := ⟨A.WT_EVT_CTRL s, 0, 1⟩
abbrev F.WT_EVT_CTRL_ACTION (s : Nat) : Fld := ⟨A.WT_EVT_CTRL s, 1, 2⟩
abbrev F.WT_EVT_CTRL_TARGET (s : Nat) : Fld := ⟨A.WT_EVT_CTRL s, 8, 6⟩
abbrev F.WT_EVT_CTRL_LATE (s : Nat) : Fld := ⟨A.WT_EVT_CTRL s, 16, 1⟩
abbrev F.WT_EVT_CTRL_COLLIDE (s : Nat) : Fld := ⟨A.WT_EVT_CTRL s, 17, 1⟩
abbrev F.WT_CAP_W3_FRAC : Fld := ⟨A.WT_CAP_W3, 0, 16⟩
abbrev F.WT_CAP_W3_SOURCE : Fld := ⟨A.WT_CAP_W3, 16, 5⟩
abbrev F.WT_CAP_W3_EDGE : Fld := ⟨A.WT_CAP_W3, 21, 1⟩
abbrev F.WT_CAP_STATUS_COUNT : Fld := ⟨A.WT_CAP_STATUS, 0, 9⟩
abbrev F.WT_CAP_STATUS_EMPTY : Fld := ⟨A.WT_CAP_STATUS, 9, 1⟩
abbrev F.WT_CAP_STATUS_UNDERRUN : Fld := ⟨A.WT_CAP_STATUS, 10, 1⟩
abbrev F.WT_CAP_STATUS_OVERFLOW : Fld := ⟨A.WT_CAP_STATUS, 16, 16⟩
abbrev F.WT_CAP_CFG_ENABLE (c : Nat) : Fld := ⟨A.WT_CAP_CFG c, 0, 1⟩
abbrev F.WT_CAP_CFG_RISE (c : Nat) : Fld := ⟨A.WT_CAP_CFG c, 1, 1⟩
abbrev F.WT_CAP_CFG_FALL (c : Nat) : Fld := ⟨A.WT_CAP_CFG c, 2, 1⟩
abbrev F.SEQ_CTRL_START (s : Nat) : Fld := ⟨A.SEQ_CTRL s, 0, 1⟩
abbrev F.SEQ_CTRL_HALT (s : Nat) : Fld := ⟨A.SEQ_CTRL s, 1, 1⟩
abbrev F.SEQ_CTRL_HOT_OK (s : Nat) : Fld := ⟨A.SEQ_CTRL s, 31, 1⟩
abbrev F.SEQ_STATUS_STATE (s : Nat) : Fld := ⟨A.SEQ_STATUS s, 0, 3⟩
abbrev F.SEQ_STATUS_PRED (s : Nat) : Fld := ⟨A.SEQ_STATUS s, 3, 1⟩
abbrev F.SEQ_STATUS_WAIT_KIND (s : Nat) : Fld := ⟨A.SEQ_STATUS s, 4, 3⟩
abbrev F.SEQ_STATUS_ALARMS (s : Nat) : Fld := ⟨A.SEQ_STATUS s, 7, 8⟩
abbrev F.SEQ_PC_PC (s : Nat) : Fld := ⟨A.SEQ_PC s, 0, 15⟩
abbrev F.SEQ_FAULT_CODE (s : Nat) : Fld := ⟨A.SEQ_FAULT s, 0, 4⟩
abbrev F.SEQ_FAULT_PC (s : Nat) : Fld := ⟨A.SEQ_FAULT s, 16, 15⟩
abbrev F.SEQ_FAULT_VALID (s : Nat) : Fld := ⟨A.SEQ_FAULT s, 31, 1⟩
abbrev F.SEQ_EVQ_STATUS_COUNT (s : Nat) : Fld := ⟨A.SEQ_EVQ_STATUS s, 0, 9⟩
abbrev F.SEQ_EVQ_STATUS_EMPTY (s : Nat) : Fld := ⟨A.SEQ_EVQ_STATUS s, 9, 1⟩
abbrev F.SEQ_EVQ_STATUS_UNDERRUN (s : Nat) : Fld := ⟨A.SEQ_EVQ_STATUS s, 10, 1⟩
abbrev F.SEQ_EVQ_STATUS_OVERFLOW (s : Nat) : Fld := ⟨A.SEQ_EVQ_STATUS s, 16, 16⟩
abbrev F.SEQ_WDOG_LIMIT_US (s : Nat) : Fld := ⟨A.SEQ_WDOG s, 0, 16⟩
abbrev F.WHISTLE_MASK_MASK : Fld := ⟨A.WHISTLE_MASK, 0, 4⟩
abbrev F.CRD_NET_DROP_A_COUNT : Fld := ⟨A.CRD_NET_DROP_A, 0, 32⟩
abbrev F.CRD_CAM_DROP_PORT0 : Fld := ⟨A.CRD_CAM_DROP, 0, 16⟩
abbrev F.CRD_CAM_DROP_PORT1 : Fld := ⟨A.CRD_CAM_DROP, 16, 16⟩
abbrev F.CRD_LEAD_LEAD (n : Nat) : Fld := ⟨A.CRD_LEAD n, 0, 6⟩
abbrev F.CRD_LEAD_MIN_LEAD (n : Nat) : Fld := ⟨A.CRD_LEAD n, 8, 6⟩
abbrev F.CRD_LEAD_VALID (n : Nat) : Fld := ⟨A.CRD_LEAD n, 31, 1⟩
abbrev F.CRD_LEAD_WARN_THRESHOLD (n : Nat) : Fld := ⟨A.CRD_LEAD_WARN n, 0, 6⟩
abbrev F.GEO_PANEL_HCOLS : Fld := ⟨A.GEO_PANEL, 0, 11⟩
abbrev F.GEO_PANEL_VROWS : Fld := ⟨A.GEO_PANEL, 16, 10⟩
abbrev F.GEO_STATUS_CONFIG_OK : Fld := ⟨A.GEO_STATUS, 0, 1⟩
abbrev F.GEO_STATUS_BAD : Fld := ⟨A.GEO_STATUS, 1, 3⟩
abbrev F.GEO_STATUS_LOAD_BUSY : Fld := ⟨A.GEO_STATUS, 4, 1⟩
abbrev F.GEO_STATUS_LOAD_VALID : Fld := ⟨A.GEO_STATUS, 5, 1⟩
abbrev F.GEO_STATUS_LOAD_BAD : Fld := ⟨A.GEO_STATUS, 6, 1⟩
abbrev F.GEO_STATUS_STALE_WRITE : Fld := ⟨A.GEO_STATUS, 8, 1⟩
abbrev F.GEO_STATUS_PERR : Fld := ⟨A.GEO_STATUS, 9, 1⟩
abbrev F.GEO_STATUS_PERR_COUNT : Fld := ⟨A.GEO_STATUS, 16, 16⟩
abbrev F.GEO_DIRS_NU : Fld := ⟨A.GEO_DIRS, 0, 8⟩
abbrev F.GEO_DIRS_NV : Fld := ⟨A.GEO_DIRS, 8, 5⟩
abbrev F.GEO_LOAD_SRC_ADDR : Fld := ⟨A.GEO_LOAD_SRC, 3, 29⟩
abbrev F.GEO_LOAD_CFG_FIRST : Fld := ⟨A.GEO_LOAD_CFG, 0, 18⟩
abbrev F.GEO_LOAD_CFG_QUAD : Fld := ⟨A.GEO_LOAD_CFG, 20, 2⟩
abbrev F.GEO_LOAD_COUNT_COUNT : Fld := ⟨A.GEO_LOAD_COUNT, 0, 19⟩
abbrev F.GEO_LOAD_GO_GO : Fld := ⟨A.GEO_LOAD_GO, 0, 1⟩
abbrev F.GEO_PERR_INDEX_INDEX : Fld := ⟨A.GEO_PERR_INDEX, 0, 18⟩
abbrev F.GEO_PERR_INDEX_VALID : Fld := ⟨A.GEO_PERR_INDEX, 31, 1⟩
abbrev F.GEO_TANU_TAN (u : Nat) : Fld := ⟨A.GEO_TANU u, 0, 16⟩
abbrev F.GEO_TANV_TAN (v : Nat) : Fld := ⟨A.GEO_TANV v, 0, 16⟩
abbrev F.GEO_RATIO_RXN (n p : Nat) : Fld := ⟨A.GEO_RATIO n p, 0, 7⟩
abbrev F.GEO_RATIO_RXD (n p : Nat) : Fld := ⟨A.GEO_RATIO n p, 8, 4⟩
abbrev F.GEO_RATIO_RYN (n p : Nat) : Fld := ⟨A.GEO_RATIO n p, 16, 7⟩
abbrev F.GEO_RATIO_RYD (n p : Nat) : Fld := ⟨A.GEO_RATIO n p, 24, 4⟩
abbrev F.GEO_APRON_AX (n p : Nat) : Fld := ⟨A.GEO_APRON n p, 0, 7⟩
abbrev F.GEO_APRON_AY (n p : Nat) : Fld := ⟨A.GEO_APRON n p, 16, 7⟩
abbrev F.GEO_FLAGS_RATIO_BAD (n : Nat) : Fld := ⟨A.GEO_FLAGS n, 0, 16⟩
abbrev F.RKN_CFG_UDP_PORT : Fld := ⟨A.RKN_CFG, 0, 16⟩
abbrev F.RKN_CFG_UDP4_EN : Fld := ⟨A.RKN_CFG, 16, 1⟩
abbrev F.RKN_CFG_UDP6_EN : Fld := ⟨A.RKN_CFG, 17, 1⟩
abbrev F.RKN_CFG_RAW_EN : Fld := ⟨A.RKN_CFG, 18, 1⟩
abbrev F.RKN_CFG_GAP_WAIT_US : Fld := ⟨A.RKN_CFG, 24, 8⟩
abbrev F.RKN_STATUS_STALE_WRITE : Fld := ⟨A.RKN_STATUS, 0, 1⟩
abbrev F.RKN_STATUS_CFG_BAD : Fld := ⟨A.RKN_STATUS, 1, 1⟩
abbrev F.RKN_STATUS_AUTH_FAIL : Fld := ⟨A.RKN_STATUS, 2, 1⟩
abbrev F.RKN_STATUS_FLOW_BROKEN : Fld := ⟨A.RKN_STATUS, 3, 1⟩
abbrev F.RKN_STATUS_LOST : Fld := ⟨A.RKN_STATUS, 4, 1⟩
abbrev F.RKN_STATUS_INFLATE_ERR : Fld := ⟨A.RKN_STATUS, 5, 1⟩
abbrev F.RKN_STATUS_PATCH_BAD : Fld := ⟨A.RKN_STATUS, 6, 1⟩
abbrev F.RKN_STATUS_FENCE_LATE : Fld := ⟨A.RKN_STATUS, 7, 1⟩
abbrev F.RKN_LAST_ERR_FLOW : Fld := ⟨A.RKN_LAST_ERR, 0, 16⟩
abbrev F.RKN_LAST_ERR_CODE : Fld := ⟨A.RKN_LAST_ERR, 16, 8⟩
abbrev F.RKN_LAST_ERR_VALID : Fld := ⟨A.RKN_LAST_ERR, 31, 1⟩
abbrev F.RKN_ARENA_BASE_BASE (n : Nat) : Fld := ⟨A.RKN_ARENA_BASE n, 15, 17⟩
abbrev F.RKN_SURF_BASE_BASE (d : Nat) : Fld := ⟨A.RKN_SURF_BASE d, 6, 26⟩
abbrev F.RKN_SURF_FMT_PITCH (d : Nat) : Fld := ⟨A.RKN_SURF_FMT d, 0, 12⟩
abbrev F.RKN_SURF_FMT_BPP (d : Nat) : Fld := ⟨A.RKN_SURF_FMT d, 12, 2⟩
abbrev F.RKN_SURF_FMT_QUAD (d : Nat) : Fld := ⟨A.RKN_SURF_FMT d, 14, 2⟩
abbrev F.RKN_SURF_SIZE_WIDTH (d : Nat) : Fld := ⟨A.RKN_SURF_SIZE d, 0, 16⟩
abbrev F.RKN_SURF_SIZE_HEIGHT (d : Nat) : Fld := ⟨A.RKN_SURF_SIZE d, 16, 16⟩
abbrev F.SST_PLANE_CTRL_EN (p : Nat) : Fld := ⟨A.SST_PLANE_CTRL p, 0, 1⟩
abbrev F.SST_PLANE_CTRL_FORMAT (p : Nat) : Fld := ⟨A.SST_PLANE_CTRL p, 1, 1⟩
abbrev F.SST_PLANE_CTRL_RELIEF (p : Nat) : Fld := ⟨A.SST_PLANE_CTRL p, 2, 1⟩
abbrev F.SST_PLANE_CTRL_FENCE_NEED (p : Nat) : Fld := ⟨A.SST_PLANE_CTRL p, 4, 4⟩
abbrev F.SST_PLANE_CTRL_WIDTH (p : Nat) : Fld := ⟨A.SST_PLANE_CTRL p, 8, 12⟩
abbrev F.SST_PLANE_CTRL_HEIGHT (p : Nat) : Fld := ⟨A.SST_PLANE_CTRL p, 20, 11⟩
abbrev F.SST_PLANE_BANK0_BASE (p : Nat) : Fld := ⟨A.SST_PLANE_BANK0 p, 0, 21⟩
abbrev F.SST_PLANE_BANK1_BASE (p : Nat) : Fld := ⟨A.SST_PLANE_BANK1 p, 0, 21⟩
abbrev F.SST_PLANE_STATUS_FRONT (p : Nat) : Fld := ⟨A.SST_PLANE_STATUS p, 0, 1⟩
abbrev F.SST_PLANE_STATUS_PENDING (p : Nat) : Fld := ⟨A.SST_PLANE_STATUS p, 1, 1⟩
abbrev F.SST_PLANE_STATUS_BUSY (p : Nat) : Fld := ⟨A.SST_PLANE_STATUS p, 2, 1⟩
abbrev F.SST_PLANE_STATUS_ALLOC_BAD (p : Nat) : Fld := ⟨A.SST_PLANE_STATUS p, 3, 1⟩
abbrev F.SST_PLANE_STATUS_COUNT (p : Nat) : Fld := ⟨A.SST_PLANE_STATUS p, 4, 4⟩
abbrev F.SST_PLANE_STATUS_LATE_FENCE (p : Nat) : Fld := ⟨A.SST_PLANE_STATUS p, 8, 1⟩
abbrev F.SST_PLANE_STATUS_LATE_PATCH (p : Nat) : Fld := ⟨A.SST_PLANE_STATUS p, 9, 1⟩
abbrev F.SST_PLANE_STATUS_TORN (p : Nat) : Fld := ⟨A.SST_PLANE_STATUS p, 10, 1⟩
abbrev F.SST_PLANE_STATUS_STALE_WRITE (p : Nat) : Fld := ⟨A.SST_PLANE_STATUS p, 11, 1⟩
abbrev F.FLOW_W0_STATE (f : Nat) : Fld := ⟨A.FLOW_W0 f, 0, 2⟩
abbrev F.FLOW_W0_MODE (f : Nat) : Fld := ⟨A.FLOW_W0 f, 4, 1⟩
abbrev F.FLOW_W0_KIND (f : Nat) : Fld := ⟨A.FLOW_W0 f, 5, 2⟩
abbrev F.FLOW_W0_SESSION (f : Nat) : Fld := ⟨A.FLOW_W0 f, 8, 8⟩
abbrev F.FLOW_W0_HELD (f : Nat) : Fld := ⟨A.FLOW_W0 f, 16, 4⟩
abbrev F.FLOW_NEXT_SEQ_HI_HI (f : Nat) : Fld := ⟨A.FLOW_NEXT_SEQ_HI f, 0, 16⟩
abbrev F.FLOW_HIST_LEN_LEN (f : Nat) : Fld := ⟨A.FLOW_HIST_LEN f, 0, 16⟩
abbrev F.FLOW_ERRS_AUTH_FAIL (f : Nat) : Fld := ⟨A.FLOW_ERRS f, 0, 16⟩
abbrev F.FLOW_ERRS_LOST (f : Nat) : Fld := ⟨A.FLOW_ERRS f, 16, 16⟩
abbrev F.SYN_THERM_CAP_CAP : Fld := ⟨A.SYN_THERM_CAP, 0, 5⟩
abbrev F.SYN_GO_FRAME (n : Nat) : Fld := ⟨A.SYN_GO n, 0, 32⟩
abbrev F.SYN_CFG_NPLANES (n : Nat) : Fld := ⟨A.SYN_CFG n, 0, 5⟩
abbrev F.SYN_CFG_ET_EN (n : Nat) : Fld := ⟨A.SYN_CFG n, 8, 1⟩
abbrev F.SYN_CFG_PLANE_LIMIT (n : Nat) : Fld := ⟨A.SYN_CFG n, 16, 5⟩
abbrev F.SYN_STATUS_BUSY (n : Nat) : Fld := ⟨A.SYN_STATUS n, 0, 1⟩
abbrev F.SYN_STATUS_CAPPED (n : Nat) : Fld := ⟨A.SYN_STATUS n, 1, 1⟩
abbrev F.SYN_STATUS_LATE_GO (n : Nat) : Fld := ⟨A.SYN_STATUS n, 2, 1⟩
abbrev F.SYN_STATUS_ABANDON (n : Nat) : Fld := ⟨A.SYN_STATUS n, 3, 1⟩
abbrev F.SYN_STATUS_GO_BAD (n : Nat) : Fld := ⟨A.SYN_STATUS n, 4, 1⟩
abbrev F.SYN_STATUS_EFF_PLANES (n : Nat) : Fld := ⟨A.SYN_STATUS n, 8, 5⟩
abbrev F.SYN_SAMPLES_HI_VALID (n : Nat) : Fld := ⟨A.SYN_SAMPLES_HI n, 31, 1⟩
abbrev F.SYN_MAXLINE_CYCLES (n : Nat) : Fld := ⟨A.SYN_MAXLINE n, 0, 18⟩
abbrev F.SYN_MAXLINE_LINE (n : Nat) : Fld := ⟨A.SYN_MAXLINE n, 18, 14⟩
abbrev F.SYN_DEPTH_Z (n p : Nat) : Fld := ⟨A.SYN_DEPTH n p, 0, 16⟩
abbrev F.SYN_RELIEF_STEP (n p : Nat) : Fld := ⟨A.SYN_RELIEF n p, 0, 16⟩
abbrev F.SYN_RELIEF_BIAS (n p : Nat) : Fld := ⟨A.SYN_RELIEF n p, 16, 4⟩
abbrev F.SYN_RELIEF_REFINE (n p : Nat) : Fld := ⟨A.SYN_RELIEF n p, 31, 1⟩
abbrev F.SST_SYNC_MASK (g : Nat) : Fld := ⟨A.SST_SYNC g, 0, 16⟩
abbrev F.SST_SYNC_STATUS_HELD : Fld := ⟨A.SST_SYNC_STATUS, 0, 4⟩
abbrev F.CMP_LUTSEL_PLANE (n : Nat) : Fld := ⟨A.CMP_LUTSEL n, 0, 16⟩
abbrev F.CMP_LUTSEL_OVL (n : Nat) : Fld := ⟨A.CMP_LUTSEL n, 16, 2⟩
abbrev F.CMP_LUTSEL_POST (n : Nat) : Fld := ⟨A.CMP_LUTSEL n, 18, 1⟩
abbrev F.CMP_STATUS_PENDING (n : Nat) : Fld := ⟨A.CMP_STATUS n, 0, 1⟩
abbrev F.CMP_STATUS_LATE_COMMIT (n : Nat) : Fld := ⟨A.CMP_STATUS n, 1, 1⟩
abbrev F.CMP_STATUS_COMMIT_HELD (n : Nat) : Fld := ⟨A.CMP_STATUS n, 2, 1⟩
abbrev F.CMP_STATUS_LUT_STALE (n : Nat) : Fld := ⟨A.CMP_STATUS n, 3, 1⟩
abbrev F.CMP_STATUS_LB_OVERFLOW (n : Nat) : Fld := ⟨A.CMP_STATUS n, 4, 2⟩
abbrev F.CMP_STATUS_RECT_BAD (n : Nat) : Fld := ⟨A.CMP_STATUS n, 6, 2⟩
abbrev F.CMP_STATUS_FMT_BAD (n : Nat) : Fld := ⟨A.CMP_STATUS n, 8, 2⟩
abbrev F.CMP_STATUS_PACK_ERR (n : Nat) : Fld := ⟨A.CMP_STATUS n, 10, 2⟩
abbrev F.CMP_STATUS_OVL_LIVE (n : Nat) : Fld := ⟨A.CMP_STATUS n, 12, 2⟩
abbrev F.CMP_CFG_COMMIT_GROUP (n : Nat) : Fld := ⟨A.CMP_CFG n, 0, 3⟩
abbrev F.OVL_CTRL_EN (n o : Nat) : Fld := ⟨A.OVL_CTRL n o, 0, 1⟩
abbrev F.OVL_CTRL_FORMAT (n o : Nat) : Fld := ⟨A.OVL_CTRL n o, 1, 2⟩
abbrev F.OVL_CTRL_PACKED (n o : Nat) : Fld := ⟨A.OVL_CTRL n o, 3, 1⟩
abbrev F.OVL_CTRL_SCALE (n o : Nat) : Fld := ⟨A.OVL_CTRL n o, 4, 1⟩
abbrev F.OVL_CTRL_UNDER (n o : Nat) : Fld := ⟨A.OVL_CTRL n o, 5, 1⟩
abbrev F.OVL_PITCH_PITCH (n o : Nat) : Fld := ⟨A.OVL_PITCH n o, 0, 12⟩
abbrev F.OVL_SRC_SRC_W (n o : Nat) : Fld := ⟨A.OVL_SRC n o, 0, 16⟩
abbrev F.OVL_SRC_SRC_H (n o : Nat) : Fld := ⟨A.OVL_SRC n o, 16, 16⟩
abbrev F.OVL_DSTPOS_DST_X (n o : Nat) : Fld := ⟨A.OVL_DSTPOS n o, 0, 8⟩
abbrev F.OVL_DSTPOS_DST_Y (n o : Nat) : Fld := ⟨A.OVL_DSTPOS n o, 16, 9⟩
abbrev F.OVL_DSTSIZE_DST_W (n o : Nat) : Fld := ⟨A.OVL_DSTSIZE n o, 0, 9⟩
abbrev F.OVL_DSTSIZE_DST_H (n o : Nat) : Fld := ⟨A.OVL_DSTSIZE n o, 16, 10⟩
abbrev F.OVL_COLOR_R (n o : Nat) : Fld := ⟨A.OVL_COLOR n o, 0, 10⟩
abbrev F.OVL_COLOR_G (n o : Nat) : Fld := ⟨A.OVL_COLOR n o, 10, 10⟩
abbrev F.OVL_COLOR_B (n o : Nat) : Fld := ⟨A.OVL_COLOR n o, 20, 10⟩
abbrev F.MAP_CTRL_EN (n : Nat) : Fld := ⟨A.MAP_CTRL n, 0, 1⟩
abbrev F.MAP_CTRL_BANK (n : Nat) : Fld := ⟨A.MAP_CTRL n, 1, 1⟩
abbrev F.MAP_STATUS_LIVE_EN (n : Nat) : Fld := ⟨A.MAP_STATUS n, 0, 1⟩
abbrev F.MAP_STATUS_LIVE_BANK (n : Nat) : Fld := ⟨A.MAP_STATUS n, 1, 1⟩
abbrev F.MAP_STATUS_BUSY0 (n : Nat) : Fld := ⟨A.MAP_STATUS n, 2, 1⟩
abbrev F.MAP_STATUS_BUSY1 (n : Nat) : Fld := ⟨A.MAP_STATUS n, 3, 1⟩
abbrev F.MAP_STATUS_STREAM_DONE (n : Nat) : Fld := ⟨A.MAP_STATUS n, 4, 1⟩
abbrev F.MAP_STATUS_HELD (n : Nat) : Fld := ⟨A.MAP_STATUS n, 8, 1⟩
abbrev F.MAP_STATUS_RANGE_BAD (n : Nat) : Fld := ⟨A.MAP_STATUS n, 9, 1⟩
abbrev F.MAP_STATUS_ERR (n : Nat) : Fld := ⟨A.MAP_STATUS n, 10, 1⟩
abbrev F.MAP_STATUS_STALE_WRITE (n : Nat) : Fld := ⟨A.MAP_STATUS n, 11, 1⟩
abbrev F.MAP_RECSIZE_REC_SIZE (n : Nat) : Fld := ⟨A.MAP_RECSIZE n, 0, 16⟩
abbrev F.MAP_RECSIZE_S (n : Nat) : Fld := ⟨A.MAP_RECSIZE n, 16, 12⟩
abbrev F.MAP_LEVEL_LEVEL (n : Nat) : Fld := ⟨A.MAP_LEVEL n, 0, 16⟩
abbrev F.MAP_LEVEL_MIN_LEVEL (n : Nat) : Fld := ⟨A.MAP_LEVEL n, 16, 16⟩
abbrev F.MAP_ERR_COUNT_COUNT (n : Nat) : Fld := ⟨A.MAP_ERR_COUNT n, 0, 16⟩
abbrev F.MAP_ERR_INDEX_INDEX (n : Nat) : Fld := ⟨A.MAP_ERR_INDEX n, 0, 17⟩
abbrev F.MAP_ERR_INDEX_SLICE (n : Nat) : Fld := ⟨A.MAP_ERR_INDEX n, 20, 4⟩
abbrev F.MAP_ERR_INDEX_HDR (n : Nat) : Fld := ⟨A.MAP_ERR_INDEX n, 24, 1⟩
abbrev F.MAP_ERR_INDEX_VALID (n : Nat) : Fld := ⟨A.MAP_ERR_INDEX n, 31, 1⟩
abbrev F.SCAN_VTIMING_V_ACTIVE : Fld := ⟨A.SCAN_VTIMING, 0, 14⟩
abbrev F.SCAN_VTIMING_V_TOTAL : Fld := ⟨A.SCAN_VTIMING, 16, 14⟩
abbrev F.SCAN_RUNAHEAD_LINES : Fld := ⟨A.SCAN_RUNAHEAD, 0, 6⟩
abbrev F.SCAN_ROWDLY_DLY : Fld := ⟨A.SCAN_ROWDLY, 0, 16⟩
abbrev F.ROW_STV_CFG_OFS : Fld := ⟨A.ROW_STV_CFG, 0, 16⟩
abbrev F.ROW_STV_CFG_WIDTH : Fld := ⟨A.ROW_STV_CFG, 16, 12⟩
abbrev F.ROW_CK_CFG_NPHASE : Fld := ⟨A.ROW_CK_CFG, 0, 3⟩
abbrev F.ROW_CK_CFG_RISE : Fld := ⟨A.ROW_CK_CFG, 4, 12⟩
abbrev F.ROW_CK_CFG_WIDTH : Fld := ⟨A.ROW_CK_CFG, 16, 12⟩
abbrev F.ROW_EN_CFG_RISE : Fld := ⟨A.ROW_EN_CFG, 0, 12⟩
abbrev F.ROW_EN_CFG_FALL : Fld := ⟨A.ROW_EN_CFG, 16, 12⟩
abbrev F.ROW_POL_STV : Fld := ⟨A.ROW_POL, 0, 1⟩
abbrev F.ROW_POL_CK : Fld := ⟨A.ROW_POL, 1, 1⟩
abbrev F.ROW_POL_EN : Fld := ⟨A.ROW_POL, 2, 1⟩
abbrev F.SCAN_TMG_FLAGS_STALE_WRITE : Fld := ⟨A.SCAN_TMG_FLAGS, 0, 1⟩
abbrev F.SCAN_TE_CFG_OFS : Fld := ⟨A.SCAN_TE_CFG, 0, 12⟩
abbrev F.SCAN_TE_CFG_TOL : Fld := ⟨A.SCAN_TE_CFG, 16, 8⟩
abbrev F.SCAN_TE_CFG_SEARCH : Fld := ⟨A.SCAN_TE_CFG, 24, 8⟩
abbrev F.SCAN_KENNEL_CFG_MODE : Fld := ⟨A.SCAN_KENNEL_CFG, 0, 1⟩
abbrev F.MUZZLE_CTRL_FORCE : Fld := ⟨A.MUZZLE_CTRL, 0, 1⟩
abbrev F.MUZZLE_STATUS_ASSERTED : Fld := ⟨A.MUZZLE_STATUS, 0, 1⟩
abbrev F.MUZZLE_STATUS_SRC_SW : Fld := ⟨A.MUZZLE_STATUS, 1, 1⟩
abbrev F.MUZZLE_STATUS_SRC_THERM : Fld := ⟨A.MUZZLE_STATUS, 2, 1⟩
abbrev F.MUZZLE_STATUS_SRC_KENNEL : Fld := ⟨A.MUZZLE_STATUS, 3, 1⟩
abbrev F.MUZZLE_STATUS_SRC_EXT : Fld := ⟨A.MUZZLE_STATUS, 4, 1⟩
abbrev F.MUZZLE_STATUS_EXT_SEEN : Fld := ⟨A.MUZZLE_STATUS, 8, 1⟩
abbrev F.EMW_CTRL_PIN_EN : Fld := ⟨A.EMW_CTRL, 0, 1⟩
abbrev F.EMW_CTRL_PIN_BAND : Fld := ⟨A.EMW_CTRL, 4, 3⟩
abbrev F.EMW_CTRL_FALLBACK_BAND : Fld := ⟨A.EMW_CTRL, 8, 3⟩
abbrev F.EMW_CTRL_TEMP_SRC : Fld := ⟨A.EMW_CTRL, 12, 1⟩
abbrev F.EMW_STATUS_LIVE_BAND : Fld := ⟨A.EMW_STATUS, 0, 3⟩
abbrev F.EMW_STATUS_WAVE_BAD : Fld := ⟨A.EMW_STATUS, 4, 1⟩
abbrev F.EMW_STATUS_TEMP_LOST : Fld := ⟨A.EMW_STATUS, 5, 1⟩
abbrev F.EMW_STATUS_PIN_OVERRIDE : Fld := ⟨A.EMW_STATUS, 6, 1⟩
abbrev F.EMW_STATUS_LIMIT_BAD : Fld := ⟨A.EMW_STATUS, 7, 1⟩
abbrev F.EMW_STATUS_IREF_CAPPED : Fld := ⟨A.EMW_STATUS, 8, 1⟩
abbrev F.EMW_STATUS_FALLBACK_BAD : Fld := ⟨A.EMW_STATUS, 9, 1⟩
abbrev F.EMW_TEMP_TEMP : Fld := ⟨A.EMW_TEMP, 0, 16⟩
abbrev F.EMW_TEMP_NREP : Fld := ⟨A.EMW_TEMP, 16, 8⟩
abbrev F.EMW_TEMP_VALID : Fld := ⟨A.EMW_TEMP, 31, 1⟩
abbrev F.EMW_HYST_HYST : Fld := ⟨A.EMW_HYST, 0, 8⟩
abbrev F.EMW_TEMP_TIMEOUT_LATCHES : Fld := ⟨A.EMW_TEMP_TIMEOUT, 0, 8⟩
abbrev F.EMW_IREF_CAP_CAP : Fld := ⟨A.EMW_IREF_CAP, 0, 10⟩
abbrev F.EMW_LIMIT_LIMIT (b : Nat) : Fld := ⟨A.EMW_LIMIT b, 0, 16⟩
abbrev F.WAVE_IREF_IREF (b : Nat) : Fld := ⟨A.WAVE_IREF b, 0, 10⟩
abbrev F.SCAN_CTRL_STOP (n : Nat) : Fld := ⟨A.SCAN_CTRL n, 0, 1⟩
abbrev F.SCAN_STATUS_STATE (n : Nat) : Fld := ⟨A.SCAN_STATUS n, 0, 2⟩
abbrev F.SCAN_STATUS_LINE (n : Nat) : Fld := ⟨A.SCAN_STATUS n, 16, 14⟩
abbrev F.SCAN_FLAGS_REFUSED (n : Nat) : Fld := ⟨A.SCAN_FLAGS n, 0, 1⟩
abbrev F.SCAN_FLAGS_START_LATE (n : Nat) : Fld := ⟨A.SCAN_FLAGS n, 1, 1⟩
abbrev F.SCAN_FLAGS_STOPPED (n : Nat) : Fld := ⟨A.SCAN_FLAGS n, 2, 1⟩
abbrev F.SCAN_FLAGS_ABORT (n : Nat) : Fld := ⟨A.SCAN_FLAGS n, 3, 1⟩
abbrev F.SCAN_FLAGS_TE_MISMATCH (n : Nat) : Fld := ⟨A.SCAN_FLAGS n, 4, 1⟩
abbrev F.SCAN_FLAGS_TE_MISSING (n : Nat) : Fld := ⟨A.SCAN_FLAGS n, 5, 1⟩
abbrev F.SCAN_REFUSE_REASON (n : Nat) : Fld := ⟨A.SCAN_REFUSE n, 0, 4⟩
abbrev F.SCAN_REFUSE_VALID (n : Nat) : Fld := ⟨A.SCAN_REFUSE n, 31, 1⟩
abbrev F.SCAN_ABORT_LINE (n : Nat) : Fld := ⟨A.SCAN_ABORT n, 0, 14⟩
abbrev F.SCAN_ABORT_VALID (n : Nat) : Fld := ⟨A.SCAN_ABORT n, 31, 1⟩
abbrev F.SCAN_TE_ERR_ERR (n : Nat) : Fld := ⟨A.SCAN_TE_ERR n, 0, 24⟩
abbrev F.SCAN_TE_ERR_VALID (n : Nat) : Fld := ⟨A.SCAN_TE_ERR n, 31, 1⟩
abbrev F.SCAN_TE_COUNT_MISMATCH (n : Nat) : Fld := ⟨A.SCAN_TE_COUNT n, 0, 16⟩
abbrev F.SCAN_TE_COUNT_MISSING (n : Nat) : Fld := ⟨A.SCAN_TE_COUNT n, 16, 16⟩
abbrev F.TPL_ROT_CFG_DWELL_MS (n : Nat) : Fld := ⟨A.TPL_ROT_CFG n, 0, 16⟩
abbrev F.TPL_ROT_CFG_PRBS_LIMIT (n : Nat) : Fld := ⟨A.TPL_ROT_CFG n, 16, 16⟩
abbrev F.TPL_FAIL_CFG_CRC_FAILS (n : Nat) : Fld := ⟨A.TPL_FAIL_CFG n, 0, 4⟩
abbrev F.TPL_DROW_MIN_NS (n : Nat) : Fld := ⟨A.TPL_DROW_MIN n, 0, 16⟩
abbrev F.TPL_DROW_MIN_VALID (n : Nat) : Fld := ⟨A.TPL_DROW_MIN n, 31, 1⟩
abbrev F.TPL_CTRL_START (n g : Nat) : Fld := ⟨A.TPL_CTRL n g, 0, 1⟩
abbrev F.TPL_CTRL_STOP (n g : Nat) : Fld := ⟨A.TPL_CTRL n g, 1, 1⟩
abbrev F.TPL_CTRL_AUTO (n g : Nat) : Fld := ⟨A.TPL_CTRL n g, 2, 1⟩
abbrev F.TPL_CTRL_ROT_EN (n g : Nat) : Fld := ⟨A.TPL_CTRL n g, 3, 1⟩
abbrev F.TPL_RATE_RATE (n g : Nat) : Fld := ⟨A.TPL_RATE n g, 0, 8⟩
abbrev F.TPL_RATE_VER_MAX (n g : Nat) : Fld := ⟨A.TPL_RATE n g, 8, 2⟩
abbrev F.TPL_STATUS_STAGE (n g : Nat) : Fld := ⟨A.TPL_STATUS n g, 0, 3⟩
abbrev F.TPL_STATUS_TARGET (n g : Nat) : Fld := ⟨A.TPL_STATUS n g, 3, 1⟩
abbrev F.TPL_STATUS_VER (n g : Nat) : Fld := ⟨A.TPL_STATUS n g, 4, 2⟩
abbrev F.TPL_STATUS_NCDIC (n g : Nat) : Fld := ⟨A.TPL_STATUS n g, 6, 3⟩
abbrev F.TPL_STATUS_DET (n g : Nat) : Fld := ⟨A.TPL_STATUS n g, 9, 7⟩
abbrev F.TPL_STATUS_LOCK (n g : Nat) : Fld := ⟨A.TPL_STATUS n g, 16, 7⟩
abbrev F.TPL_STATUS_FREE (n g : Nat) : Fld := ⟨A.TPL_STATUS n g, 24, 3⟩
abbrev F.TPL_STATUS_NOSPARE (n g : Nat) : Fld := ⟨A.TPL_STATUS n g, 27, 1⟩
abbrev F.TPL_STATUS_ROT_PHASE (n g : Nat) : Fld := ⟨A.TPL_STATUS n g, 28, 2⟩
abbrev F.TPL_FLAGS_SWAP (n g : Nat) : Fld := ⟨A.TPL_FLAGS n g, 0, 1⟩
abbrev F.TPL_FLAGS_LANE_LOST (n g : Nat) : Fld := ⟨A.TPL_FLAGS n g, 1, 1⟩
abbrev F.TPL_FLAGS_LINK_DOWN (n g : Nat) : Fld := ⟨A.TPL_FLAGS n g, 2, 1⟩
abbrev F.TPL_FLAGS_CRC_ERR (n g : Nat) : Fld := ⟨A.TPL_FLAGS n g, 3, 1⟩
abbrev F.TPL_FLAGS_WAVE_MISS (n g : Nat) : Fld := ⟨A.TPL_FLAGS n g, 4, 1⟩
abbrev F.TPL_FLAGS_BC_ERR (n g : Nat) : Fld := ⟨A.TPL_FLAGS n g, 5, 1⟩
abbrev F.TPL_FLAGS_TRAIN_FAIL (n g : Nat) : Fld := ⟨A.TPL_FLAGS n g, 6, 1⟩
abbrev F.TPL_FLAGS_STALE_WRITE (n g : Nat) : Fld := ⟨A.TPL_FLAGS n g, 7, 1⟩
abbrev F.TPL_FLAGS_PRBS_BAD (n g : Nat) : Fld := ⟨A.TPL_FLAGS n g, 8, 1⟩
abbrev F.TPL_CAPS_VER (n g : Nat) : Fld := ⟨A.TPL_CAPS n g, 0, 2⟩
abbrev F.TPL_CAPS_RATE_MAX (n g : Nat) : Fld := ⟨A.TPL_CAPS n g, 8, 8⟩
abbrev F.TPL_CAPS_COLS_MAX (n g : Nat) : Fld := ⟨A.TPL_CAPS n g, 16, 16⟩
abbrev F.TPL_PRBS_ERRORS (n g p : Nat) : Fld := ⟨A.TPL_PRBS n g p, 0, 24⟩
abbrev F.TPL_PRBS_BAD (n g p : Nat) : Fld := ⟨A.TPL_PRBS n g p, 30, 1⟩
abbrev F.TPL_PRBS_VALID (n g p : Nat) : Fld := ⟨A.TPL_PRBS n g p, 31, 1⟩
abbrev F.NET_CFG_ROLE : Fld := ⟨A.NET_CFG, 0, 2⟩
abbrev F.NET_CFG_FWD_AB : Fld := ⟨A.NET_CFG, 2, 1⟩
abbrev F.NET_CFG_FWD_BA : Fld := ⟨A.NET_CFG, 3, 1⟩
abbrev F.NET_STATUS_STALE_WRITE : Fld := ⟨A.NET_STATUS, 0, 1⟩
abbrev F.NET_STATUS_FWD_MODE_BAD : Fld := ⟨A.NET_STATUS, 1, 1⟩
abbrev F.NET_EVT_CFG_FLOW : Fld := ⟨A.NET_EVT_CFG, 0, 16⟩
abbrev F.NET_EVT_CFG_PORTS : Fld := ⟨A.NET_EVT_CFG, 16, 2⟩
abbrev F.NET_EVT_CFG_RAW : Fld := ⟨A.NET_EVT_CFG, 18, 1⟩
abbrev F.NET_EVT_CFG_IPV6 : Fld := ⟨A.NET_EVT_CFG, 19, 1⟩
abbrev F.NET_MRX_FREE_BUF : Fld := ⟨A.NET_MRX_FREE, 0, 5⟩
abbrev F.NET_MREPLY_BUF : Fld := ⟨A.NET_MREPLY, 0, 5⟩
abbrev F.NET_MREPLY_STATUS : Fld := ⟨A.NET_MREPLY, 8, 8⟩
abbrev F.NET_MREPLY_DATA_DATA : Fld := ⟨A.NET_MREPLY_DATA, 0, 32⟩
abbrev F.NET_MRX_INFO_LEN (b : Nat) : Fld := ⟨A.NET_MRX_INFO b, 0, 10⟩
abbrev F.NET_MRX_INFO_KIND (b : Nat) : Fld := ⟨A.NET_MRX_INFO b, 12, 1⟩
abbrev F.NET_MRX_INFO_PORT (b : Nat) : Fld := ⟨A.NET_MRX_INFO b, 16, 1⟩
abbrev F.NET_PORT_MODE_EN (p : Nat) : Fld := ⟨A.NET_PORT_MODE p, 0, 1⟩
abbrev F.NET_PORT_MODE_MODE (p : Nat) : Fld := ⟨A.NET_PORT_MODE p, 1, 3⟩
abbrev F.NET_PORT_MODE_TX_POL (p : Nat) : Fld := ⟨A.NET_PORT_MODE p, 8, 4⟩
abbrev F.NET_PORT_MODE_RX_POL (p : Nat) : Fld := ⟨A.NET_PORT_MODE p, 12, 4⟩
abbrev F.NET_PORT_STATUS_UP (p : Nat) : Fld := ⟨A.NET_PORT_STATUS p, 0, 1⟩
abbrev F.NET_PORT_STATUS_LANE_LOCK (p : Nat) : Fld := ⟨A.NET_PORT_STATUS p, 4, 4⟩
abbrev F.NET_PORT_STATUS_FEC_LOCK (p : Nat) : Fld := ⟨A.NET_PORT_STATUS p, 8, 1⟩
abbrev F.NET_PORT_STATUS_HI_BER (p : Nat) : Fld := ⟨A.NET_PORT_STATUS p, 9, 1⟩
abbrev F.NET_PORT_TXEQ_PRE (p l : Nat) : Fld := ⟨A.NET_PORT_TXEQ p l, 0, 6⟩
abbrev F.NET_PORT_TXEQ_MAIN (p l : Nat) : Fld := ⟨A.NET_PORT_TXEQ p l, 8, 6⟩
abbrev F.NET_PORT_TXEQ_POST (p l : Nat) : Fld := ⟨A.NET_PORT_TXEQ p l, 16, 6⟩
abbrev F.NET_PORT_GRP_HI_MAC_HI (p m : Nat) : Fld := ⟨A.NET_PORT_GRP_HI p m, 0, 16⟩
abbrev F.NET_PORT_GRP_HI_EN (p m : Nat) : Fld := ⟨A.NET_PORT_GRP_HI p m, 31, 1⟩
abbrev F.NET_PORT_GRP_LO_MAC (p m : Nat) : Fld := ⟨A.NET_PORT_GRP_LO p m, 0, 32⟩
abbrev F.NBR_ID_ID : Fld := ⟨A.NBR_ID, 0, 32⟩
abbrev F.NBR_SEAM_CFG_SKEW_LIMIT : Fld := ⟨A.NBR_SEAM_CFG, 0, 16⟩
abbrev F.NBR_CTRL_START (q : Nat) : Fld := ⟨A.NBR_CTRL q, 0, 1⟩
abbrev F.NBR_CTRL_STOP (q : Nat) : Fld := ⟨A.NBR_CTRL q, 1, 1⟩
abbrev F.NBR_CTRL_AUTO (q : Nat) : Fld := ⟨A.NBR_CTRL q, 2, 1⟩
abbrev F.NBR_CTRL_METRIC_EN (q : Nat) : Fld := ⟨A.NBR_CTRL q, 3, 1⟩
abbrev F.NBR_CTRL_SLEEP_EN (q : Nat) : Fld := ⟨A.NBR_CTRL q, 4, 1⟩
abbrev F.NBR_CTRL_IDLE_US (q : Nat) : Fld := ⟨A.NBR_CTRL q, 16, 8⟩
abbrev F.NBR_STATUS_STAGE (q : Nat) : Fld := ⟨A.NBR_STATUS q, 0, 3⟩
abbrev F.NBR_STATUS_LANES (q : Nat) : Fld := ⟨A.NBR_STATUS q, 3, 2⟩
abbrev F.NBR_STATUS_KEYED (q : Nat) : Fld := ⟨A.NBR_STATUS q, 5, 1⟩
abbrev F.NBR_STATUS_TX_SLEEP (q : Nat) : Fld := ⟨A.NBR_STATUS q, 6, 1⟩
abbrev F.NBR_STATUS_RX_SLEEP (q : Nat) : Fld := ⟨A.NBR_STATUS q, 7, 1⟩
abbrev F.NBR_STATUS_RATE (q : Nat) : Fld := ⟨A.NBR_STATUS q, 8, 8⟩
abbrev F.NBR_STATUS_CREDITS (q : Nat) : Fld := ⟨A.NBR_STATUS q, 16, 9⟩
abbrev F.NBR_FLAGS_LINK_DOWN (q : Nat) : Fld := ⟨A.NBR_FLAGS q, 0, 1⟩
abbrev F.NBR_FLAGS_DEGRADED (q : Nat) : Fld := ⟨A.NBR_FLAGS q, 1, 1⟩
abbrev F.NBR_FLAGS_TRAIN_FAIL (q : Nat) : Fld := ⟨A.NBR_FLAGS q, 2, 1⟩
abbrev F.NBR_FLAGS_REF_BAD (q : Nat) : Fld := ⟨A.NBR_FLAGS q, 3, 1⟩
abbrev F.NBR_FLAGS_AUTH_FAIL (q : Nat) : Fld := ⟨A.NBR_FLAGS q, 4, 1⟩
abbrev F.NBR_FLAGS_WIN_BAD (q : Nat) : Fld := ⟨A.NBR_FLAGS q, 5, 1⟩
abbrev F.NBR_FLAGS_STRIP_LOSS (q : Nat) : Fld := ⟨A.NBR_FLAGS q, 6, 1⟩
abbrev F.NBR_FLAGS_ABANDON (q : Nat) : Fld := ⟨A.NBR_FLAGS q, 7, 1⟩
abbrev F.NBR_FLAGS_SKEW (q : Nat) : Fld := ⟨A.NBR_FLAGS q, 8, 1⟩
abbrev F.NBR_FLAGS_STALE_WRITE (q : Nat) : Fld := ⟨A.NBR_FLAGS q, 9, 1⟩
abbrev F.NBR_RATE_RATE (q : Nat) : Fld := ⟨A.NBR_RATE q, 0, 8⟩
abbrev F.NBR_PLANES_TX_MASK (q : Nat) : Fld := ⟨A.NBR_PLANES q, 0, 16⟩
abbrev F.NBR_PLANES_RX_MASK (q : Nat) : Fld := ⟨A.NBR_PLANES q, 16, 16⟩
abbrev F.NBR_RXWIN_X_X0 (q : Nat) : Fld := ⟨A.NBR_RXWIN_X q, 0, 12⟩
abbrev F.NBR_RXWIN_X_X1 (q : Nat) : Fld := ⟨A.NBR_RXWIN_X q, 16, 12⟩
abbrev F.NBR_RXWIN_Y_Y0 (q : Nat) : Fld := ⟨A.NBR_RXWIN_Y q, 0, 11⟩
abbrev F.NBR_RXWIN_Y_Y1 (q : Nat) : Fld := ⟨A.NBR_RXWIN_Y q, 16, 11⟩
abbrev F.NBR_SKEW_SKEW (q : Nat) : Fld := ⟨A.NBR_SKEW q, 0, 24⟩
abbrev F.NBR_SKEW_VALID (q : Nat) : Fld := ⟨A.NBR_SKEW q, 31, 1⟩
abbrev F.NBR_DELAY_DELAY (q : Nat) : Fld := ⟨A.NBR_DELAY q, 0, 24⟩
abbrev F.NBR_DELAY_VALID (q : Nat) : Fld := ⟨A.NBR_DELAY q, 31, 1⟩
abbrev F.NBR_ASYM_ASYM (q : Nat) : Fld := ⟨A.NBR_ASYM q, 0, 16⟩
abbrev F.NBR_PEER_INFO_LEASH (q : Nat) : Fld := ⟨A.NBR_PEER_INFO q, 0, 3⟩
abbrev F.NBR_PEER_INFO_BAND (q : Nat) : Fld := ⟨A.NBR_PEER_INFO q, 4, 3⟩
abbrev F.NBR_PEER_INFO_VALID (q : Nat) : Fld := ⟨A.NBR_PEER_INFO q, 31, 1⟩
abbrev F.NBR_TXSTRIP_SRC_X (q p : Nat) : Fld := ⟨A.NBR_TXSTRIP q p, 0, 12⟩
abbrev F.NBR_TXSTRIP_SRC_Y (q p : Nat) : Fld := ⟨A.NBR_TXSTRIP q p, 16, 11⟩
abbrev F.NBR_TXSIZE_WIDTH (q p : Nat) : Fld := ⟨A.NBR_TXSIZE q p, 0, 12⟩
abbrev F.NBR_TXSIZE_HEIGHT (q p : Nat) : Fld := ⟨A.NBR_TXSIZE q p, 16, 11⟩
abbrev F.NBR_TXDST_DST_X (q p : Nat) : Fld := ⟨A.NBR_TXDST q p, 0, 12⟩
abbrev F.NBR_TXDST_DST_Y (q p : Nat) : Fld := ⟨A.NBR_TXDST q p, 16, 11⟩
abbrev F.DFL_CFG_PROG_EVERY : Fld := ⟨A.DFL_CFG, 0, 4⟩
abbrev F.DFL_STATUS_INFL_BUSY : Fld := ⟨A.DFL_STATUS, 0, 4⟩
abbrev F.DFL_STATUS_DEFL_BUSY : Fld := ⟨A.DFL_STATUS, 4, 1⟩
abbrev F.DFL_STATUS_JOB_ERR : Fld := ⟨A.DFL_STATUS, 8, 1⟩
abbrev F.DFL_STATUS_CAM_SKIP : Fld := ⟨A.DFL_STATUS, 9, 1⟩
abbrev F.DFL_STATUS_TRAILING : Fld := ⟨A.DFL_STATUS, 10, 1⟩
abbrev F.DFL_JOB_CREDIT_WORDS : Fld := ⟨A.DFL_JOB_CREDIT, 0, 9⟩
abbrev F.DFL_JOB_CREDIT_STAGED : Fld := ⟨A.DFL_JOB_CREDIT, 16, 4⟩
abbrev F.DFL_CPL_STATUS_COUNT : Fld := ⟨A.DFL_CPL_STATUS, 0, 7⟩
abbrev F.DFL_CPL_STATUS_EMPTY : Fld := ⟨A.DFL_CPL_STATUS, 7, 1⟩
abbrev F.DFL_CPL_STATUS_UNDERRUN : Fld := ⟨A.DFL_CPL_STATUS, 8, 1⟩
abbrev F.DFL_CPL_STATUS_OVERFLOW : Fld := ⟨A.DFL_CPL_STATUS, 16, 16⟩
abbrev F.DFL_CAM_LAST_STATUS : Fld := ⟨A.DFL_CAM_LAST, 0, 8⟩
abbrev F.DFL_CAM_LAST_PORT : Fld := ⟨A.DFL_CAM_LAST, 8, 1⟩
abbrev F.DFL_CAM_LAST_VALID : Fld := ⟨A.DFL_CAM_LAST, 31, 1⟩
abbrev F.BLT_GO_GO (n : Nat) : Fld := ⟨A.BLT_GO n, 0, 1⟩
abbrev F.BLT_CTRL_FORMAT (n : Nat) : Fld := ⟨A.BLT_CTRL n, 0, 2⟩
abbrev F.BLT_CTRL_XDIR (n : Nat) : Fld := ⟨A.BLT_CTRL n, 2, 1⟩
abbrev F.BLT_CTRL_YDIR (n : Nat) : Fld := ⟨A.BLT_CTRL n, 3, 1⟩
abbrev F.BLT_CTRL_PAT_MONO (n : Nat) : Fld := ⟨A.BLT_CTRL n, 4, 1⟩
abbrev F.BLT_CTRL_FENCE (n : Nat) : Fld := ⟨A.BLT_CTRL n, 5, 1⟩
abbrev F.BLT_ROP_ROP (n : Nat) : Fld := ⟨A.BLT_ROP n, 0, 8⟩
abbrev F.BLT_STATUS_BUSY (n : Nat) : Fld := ⟨A.BLT_STATUS n, 0, 1⟩
abbrev F.BLT_STATUS_PARAM_BAD (n : Nat) : Fld := ⟨A.BLT_STATUS n, 1, 1⟩
abbrev F.BLT_STATUS_MEM_ERR (n : Nat) : Fld := ⟨A.BLT_STATUS n, 2, 1⟩
abbrev F.BLT_STATUS_ROWS_DONE (n : Nat) : Fld := ⟨A.BLT_STATUS n, 16, 16⟩
abbrev F.BLT_SIZE_WIDTH (n : Nat) : Fld := ⟨A.BLT_SIZE n, 0, 16⟩
abbrev F.BLT_SIZE_HEIGHT (n : Nat) : Fld := ⟨A.BLT_SIZE n, 16, 16⟩
abbrev F.BLT_WMARK_ROW (n : Nat) : Fld := ⟨A.BLT_WMARK n, 0, 16⟩
abbrev F.BLT_WMARK_DISABLE (n : Nat) : Fld := ⟨A.BLT_WMARK n, 31, 1⟩
abbrev F.BLT_FENCE_FRAME (n : Nat) : Fld := ⟨A.BLT_FENCE n, 0, 32⟩
abbrev F.BLT_DST_CFG_PITCH (n : Nat) : Fld := ⟨A.BLT_DST_CFG n, 0, 13⟩
abbrev F.BLT_DST_CFG_SPACE (n : Nat) : Fld := ⟨A.BLT_DST_CFG n, 13, 2⟩
abbrev F.BLT_DST_CFG_PLANE (n : Nat) : Fld := ⟨A.BLT_DST_CFG n, 16, 4⟩
abbrev F.BLT_DST_XY_X (n : Nat) : Fld := ⟨A.BLT_DST_XY n, 0, 16⟩
abbrev F.BLT_DST_XY_Y (n : Nat) : Fld := ⟨A.BLT_DST_XY n, 16, 16⟩
abbrev F.BLT_SRC_CFG_PITCH (n : Nat) : Fld := ⟨A.BLT_SRC_CFG n, 0, 13⟩
abbrev F.BLT_SRC_CFG_SPACE (n : Nat) : Fld := ⟨A.BLT_SRC_CFG n, 13, 2⟩
abbrev F.BLT_SRC_CFG_PLANE (n : Nat) : Fld := ⟨A.BLT_SRC_CFG n, 16, 4⟩
abbrev F.BLT_SRC_XY_X (n : Nat) : Fld := ⟨A.BLT_SRC_XY n, 0, 16⟩
abbrev F.BLT_SRC_XY_Y (n : Nat) : Fld := ⟨A.BLT_SRC_XY n, 16, 16⟩
abbrev F.BLT_PAT_ORG_ORG_X (n : Nat) : Fld := ⟨A.BLT_PAT_ORG n, 0, 3⟩
abbrev F.BLT_PAT_ORG_ORG_Y (n : Nat) : Fld := ⟨A.BLT_PAT_ORG n, 8, 3⟩
abbrev F.CAM_PORT_CTRL_EN (p : Nat) : Fld := ⟨A.CAM_PORT_CTRL p, 0, 1⟩
abbrev F.CAM_PORT_CTRL_LANES (p : Nat) : Fld := ⟨A.CAM_PORT_CTRL p, 1, 2⟩
abbrev F.CAM_PORT_CTRL_LANE_MAP (p : Nat) : Fld := ⟨A.CAM_PORT_CTRL p, 8, 8⟩
abbrev F.CAM_PORT_CTRL_RATE (p : Nat) : Fld := ⟨A.CAM_PORT_CTRL p, 16, 8⟩
abbrev F.CAM_PORT_STATUS_STOPSTATE (p : Nat) : Fld := ⟨A.CAM_PORT_STATUS p, 0, 1⟩
abbrev F.CAM_PORT_STATUS_HS_ACTIVE (p : Nat) : Fld := ⟨A.CAM_PORT_STATUS p, 1, 1⟩
abbrev F.CAM_PORT_STATUS_DESKEW_OK (p : Nat) : Fld := ⟨A.CAM_PORT_STATUS p, 2, 1⟩
abbrev F.CAM_PORT_STATUS_STALE_WRITE (p : Nat) : Fld := ⟨A.CAM_PORT_STATUS p, 8, 1⟩
abbrev F.CAM_PORT_ERR0_ECC_CORR (p : Nat) : Fld := ⟨A.CAM_PORT_ERR0 p, 0, 16⟩
abbrev F.CAM_PORT_ERR0_ECC_BAD (p : Nat) : Fld := ⟨A.CAM_PORT_ERR0 p, 16, 16⟩
abbrev F.CAM_PORT_ERR1_CRC_ERR (p : Nat) : Fld := ⟨A.CAM_PORT_ERR1 p, 0, 16⟩
abbrev F.CAM_PORT_ERR1_DT_DROP (p : Nat) : Fld := ⟨A.CAM_PORT_ERR1 p, 16, 16⟩
abbrev F.CAM_DFL_CFG_LEVEL : Fld := ⟨A.CAM_DFL_CFG, 0, 4⟩
abbrev F.CAM_DFL_CFG_ZLIB : Fld := ⟨A.CAM_DFL_CFG, 4, 1⟩
abbrev F.CAM_CTX_CTRL_EN (c : Nat) : Fld := ⟨A.CAM_CTX_CTRL c, 0, 1⟩
abbrev F.CAM_CTX_CTRL_MOSAIC (c : Nat) : Fld := ⟨A.CAM_CTX_CTRL c, 1, 1⟩
abbrev F.CAM_CTX_CTRL_PX (c : Nat) : Fld := ⟨A.CAM_CTX_CTRL c, 2, 2⟩
abbrev F.CAM_CTX_CTRL_PY (c : Nat) : Fld := ⟨A.CAM_CTX_CTRL c, 4, 2⟩
abbrev F.CAM_CTX_CTRL_DT (c : Nat) : Fld := ⟨A.CAM_CTX_CTRL c, 6, 1⟩
abbrev F.CAM_CTX_CTRL_QUAD (c : Nat) : Fld := ⟨A.CAM_CTX_CTRL c, 8, 2⟩
abbrev F.CAM_CTX_CTRL_DISP_EN (c : Nat) : Fld := ⟨A.CAM_CTX_CTRL c, 10, 1⟩
abbrev F.CAM_CTX_CTRL_DISP_FMT (c : Nat) : Fld := ⟨A.CAM_CTX_CTRL c, 11, 1⟩
abbrev F.CAM_CTX_CTRL_CODE_EN (c : Nat) : Fld := ⟨A.CAM_CTX_CTRL c, 12, 1⟩
abbrev F.CAM_CTX_CTRL_CODE_DFL (c : Nat) : Fld := ⟨A.CAM_CTX_CTRL c, 13, 1⟩
abbrev F.CAM_CTX_CTRL_MV_EN (c : Nat) : Fld := ⟨A.CAM_CTX_CTRL c, 14, 1⟩
abbrev F.CAM_CTX_CTRL_MV_16 (c : Nat) : Fld := ⟨A.CAM_CTX_CTRL c, 15, 1⟩
abbrev F.CAM_CTX_SIZE_WIDTH (c : Nat) : Fld := ⟨A.CAM_CTX_SIZE c, 0, 14⟩
abbrev F.CAM_CTX_SIZE_HEIGHT (c : Nat) : Fld := ⟨A.CAM_CTX_SIZE c, 16, 14⟩
abbrev F.CAM_CTX_RATE_MPX (c : Nat) : Fld := ⟨A.CAM_CTX_RATE c, 0, 11⟩
abbrev F.CAM_CTX_BLACK0_R (c : Nat) : Fld := ⟨A.CAM_CTX_BLACK0 c, 0, 12⟩
abbrev F.CAM_CTX_BLACK0_G (c : Nat) : Fld := ⟨A.CAM_CTX_BLACK0 c, 16, 12⟩
abbrev F.CAM_CTX_BLACK1_B (c : Nat) : Fld := ⟨A.CAM_CTX_BLACK1 c, 0, 12⟩
abbrev F.CAM_CTX_BLACK1_I (c : Nat) : Fld := ⟨A.CAM_CTX_BLACK1 c, 16, 12⟩
abbrev F.CAM_CTX_IRK0_KR (c : Nat) : Fld := ⟨A.CAM_CTX_IRK0 c, 0, 13⟩
abbrev F.CAM_CTX_IRK0_KG (c : Nat) : Fld := ⟨A.CAM_CTX_IRK0 c, 16, 13⟩
abbrev F.CAM_CTX_IRK1_KB (c : Nat) : Fld := ⟨A.CAM_CTX_IRK1 c, 0, 13⟩
abbrev F.CAM_CTX_THRESH_THRESH (c : Nat) : Fld := ⟨A.CAM_CTX_THRESH c, 0, 12⟩
abbrev F.CAM_CTX_DISP_BASE_BASE (c s : Nat) : Fld := ⟨A.CAM_CTX_DISP_BASE c s, 6, 26⟩
abbrev F.CAM_CTX_STATUS_SHORT (c : Nat) : Fld := ⟨A.CAM_CTX_STATUS c, 0, 1⟩
abbrev F.CAM_CTX_STATUS_LONG (c : Nat) : Fld := ⟨A.CAM_CTX_STATUS c, 1, 1⟩
abbrev F.CAM_CTX_STATUS_LINE_ERR (c : Nat) : Fld := ⟨A.CAM_CTX_STATUS c, 2, 1⟩
abbrev F.CAM_CTX_STATUS_CRC_ERR (c : Nat) : Fld := ⟨A.CAM_CTX_STATUS c, 3, 1⟩
abbrev F.CAM_CTX_STATUS_FE_MISSING (c : Nat) : Fld := ⟨A.CAM_CTX_STATUS c, 4, 1⟩
abbrev F.CAM_CTX_STATUS_DROP_RATE (c : Nat) : Fld := ⟨A.CAM_CTX_STATUS c, 5, 1⟩
abbrev F.CAM_CTX_STATUS_DROP_EMPTY (c : Nat) : Fld := ⟨A.CAM_CTX_STATUS c, 6, 1⟩
abbrev F.CAM_CTX_STATUS_CFG_BAD (c : Nat) : Fld := ⟨A.CAM_CTX_STATUS c, 7, 1⟩
abbrev F.CAM_CTX_SEQ_SEQ (c : Nat) : Fld := ⟨A.CAM_CTX_SEQ c, 0, 32⟩
abbrev F.CAM_CTX_LAST_FRAME (c : Nat) : Fld := ⟨A.CAM_CTX_LAST c, 0, 16⟩
abbrev F.CAM_CTX_LAST_SET (c : Nat) : Fld := ⟨A.CAM_CTX_LAST c, 16, 1⟩
abbrev F.CAM_CTX_LAST_VALID (c : Nat) : Fld := ⟨A.CAM_CTX_LAST c, 31, 1⟩
abbrev F.CAM_CTX_DROPS_RATE (c : Nat) : Fld := ⟨A.CAM_CTX_DROPS c, 0, 16⟩
abbrev F.CAM_CTX_DROPS_EMPTY (c : Nat) : Fld := ⟨A.CAM_CTX_DROPS c, 16, 16⟩
abbrev F.CAM_CTX_ROI_POS_X0 (c r : Nat) : Fld := ⟨A.CAM_CTX_ROI_POS c r, 0, 12⟩
abbrev F.CAM_CTX_ROI_POS_Y0 (c r : Nat) : Fld := ⟨A.CAM_CTX_ROI_POS c r, 16, 12⟩
abbrev F.CAM_CTX_ROI_END_X1 (c r : Nat) : Fld := ⟨A.CAM_CTX_ROI_END c r, 0, 12⟩
abbrev F.CAM_CTX_ROI_END_Y1 (c r : Nat) : Fld := ⟨A.CAM_CTX_ROI_END c r, 16, 12⟩
abbrev F.CAM_CTX_ROI_END_EN (c r : Nat) : Fld := ⟨A.CAM_CTX_ROI_END c r, 31, 1⟩
abbrev F.DRAM_CTRL_INIT (n : Nat) : Fld := ⟨A.DRAM_CTRL n, 0, 1⟩
abbrev F.DRAM_CTRL_RESUME (n : Nat) : Fld := ⟨A.DRAM_CTRL n, 1, 1⟩
abbrev F.DRAM_CFG_DENSITY (n : Nat) : Fld := ⟨A.DRAM_CFG n, 0, 2⟩
abbrev F.DRAM_CFG_BL16 (n : Nat) : Fld := ⟨A.DRAM_CFG n, 2, 1⟩
abbrev F.DRAM_CFG_INLINE_ECC (n : Nat) : Fld := ⟨A.DRAM_CFG n, 3, 1⟩
abbrev F.DRAM_CFG_LINK_ECC (n : Nat) : Fld := ⟨A.DRAM_CFG n, 4, 1⟩
abbrev F.DRAM_CFG_ZERO_INIT (n : Nat) : Fld := ⟨A.DRAM_CFG n, 5, 1⟩
abbrev F.DRAM_CFG_RATE (n : Nat) : Fld := ⟨A.DRAM_CFG n, 8, 3⟩
abbrev F.DRAM_STATUS_STATE (n : Nat) : Fld := ⟨A.DRAM_STATUS n, 0, 3⟩
abbrev F.DRAM_STATUS_STALE_WRITE (n : Nat) : Fld := ⟨A.DRAM_STATUS n, 8, 1⟩
abbrev F.DRAM_STATUS_RANGE (n : Nat) : Fld := ⟨A.DRAM_STATUS n, 9, 1⟩
abbrev F.DRAM_STATUS_ECC_UNCORR (n : Nat) : Fld := ⟨A.DRAM_STATUS n, 10, 1⟩
abbrev F.DRAM_STATUS_REF_CLAMP (n : Nat) : Fld := ⟨A.DRAM_STATUS n, 11, 1⟩
abbrev F.DRAM_STATUS_REF_UNALIGNED (n : Nat) : Fld := ⟨A.DRAM_STATUS n, 12, 1⟩
abbrev F.DRAM_STATUS_TEMP_HIGH (n : Nat) : Fld := ⟨A.DRAM_STATUS n, 13, 1⟩
abbrev F.DRAM_SIZE_UNITS (n : Nat) : Fld := ⟨A.DRAM_SIZE n, 0, 17⟩
abbrev F.DRAM_REF_CFG_TREFI_NS (n : Nat) : Fld := ⟨A.DRAM_REF_CFG n, 0, 13⟩
abbrev F.DRAM_REF_CFG_MULT_MIN (n : Nat) : Fld := ⟨A.DRAM_REF_CFG n, 16, 2⟩
abbrev F.DRAM_REF_CFG_MULT_MAX (n : Nat) : Fld := ⟨A.DRAM_REF_CFG n, 20, 2⟩
abbrev F.DRAM_REF_STATUS_M (n : Nat) : Fld := ⟨A.DRAM_REF_STATUS n, 0, 2⟩
abbrev F.DRAM_REF_STATUS_MR4_RATE0 (n : Nat) : Fld := ⟨A.DRAM_REF_STATUS n, 4, 3⟩
abbrev F.DRAM_REF_STATUS_MR4_RATE1 (n : Nat) : Fld := ⟨A.DRAM_REF_STATUS n, 8, 3⟩
abbrev F.DRAM_REF_STATUS_BACKLOG (n : Nat) : Fld := ⟨A.DRAM_REF_STATUS n, 12, 3⟩
abbrev F.DRAM_MRW_MA (n : Nat) : Fld := ⟨A.DRAM_MRW n, 0, 8⟩
abbrev F.DRAM_MRW_OP (n : Nat) : Fld := ⟨A.DRAM_MRW n, 8, 8⟩
abbrev F.DRAM_MRW_CH (n : Nat) : Fld := ⟨A.DRAM_MRW n, 16, 2⟩
abbrev F.DRAM_MRR_REQ_MA (n : Nat) : Fld := ⟨A.DRAM_MRR_REQ n, 0, 8⟩
abbrev F.DRAM_MRR_REQ_CH (n : Nat) : Fld := ⟨A.DRAM_MRR_REQ n, 16, 1⟩
abbrev F.DRAM_MRR_OP (n : Nat) : Fld := ⟨A.DRAM_MRR n, 0, 8⟩
abbrev F.DRAM_MRR_VALID (n : Nat) : Fld := ⟨A.DRAM_MRR n, 31, 1⟩
abbrev F.DRAM_ECC_CNT_CORR (n : Nat) : Fld := ⟨A.DRAM_ECC_CNT n, 0, 16⟩
abbrev F.DRAM_ECC_CNT_UNCORR (n : Nat) : Fld := ⟨A.DRAM_ECC_CNT n, 16, 16⟩
abbrev F.DRAM_ECC_ADDR_ADDR (n : Nat) : Fld := ⟨A.DRAM_ECC_ADDR n, 0, 26⟩
abbrev F.DRAM_ECC_ADDR_SRC (n : Nat) : Fld := ⟨A.DRAM_ECC_ADDR n, 28, 2⟩
abbrev F.DRAM_ECC_ADDR_VALID (n : Nat) : Fld := ⟨A.DRAM_ECC_ADDR n, 31, 1⟩
abbrev F.DRAM_RAW_FORWARDED (n : Nat) : Fld := ⟨A.DRAM_RAW n, 0, 16⟩
abbrev F.DRAM_RAW_WAITED (n : Nat) : Fld := ⟨A.DRAM_RAW n, 16, 16⟩
abbrev F.CAL_GO_GO (n : Nat) : Fld := ⟨A.CAL_GO n, 0, 1⟩
abbrev F.CAL_CTRL_HOLD (n : Nat) : Fld := ⟨A.CAL_CTRL n, 0, 1⟩
abbrev F.CAL_CFG_LANE (n : Nat) : Fld := ⟨A.CAL_CFG n, 0, 2⟩
abbrev F.CAL_CFG_KIND (n : Nat) : Fld := ⟨A.CAL_CFG n, 4, 2⟩
abbrev F.CAL_CFG_ERR_LIMIT (n : Nat) : Fld := ⟨A.CAL_CFG n, 16, 16⟩
abbrev F.CAL_STATUS_BUSY (n : Nat) : Fld := ⟨A.CAL_STATUS n, 0, 1⟩
abbrev F.CAL_STATUS_HOLD_ACTIVE (n : Nat) : Fld := ⟨A.CAL_STATUS n, 1, 1⟩
abbrev F.CAL_STATUS_REFUSED (n : Nat) : Fld := ⟨A.CAL_STATUS n, 2, 1⟩
abbrev F.CAL_STATUS_HOLD_EXPIRED (n : Nat) : Fld := ⟨A.CAL_STATUS n, 3, 1⟩
abbrev F.CAL_STATUS_REASON (n : Nat) : Fld := ⟨A.CAL_STATUS n, 4, 4⟩
abbrev F.CAL_SCRATCH_BASE (n : Nat) : Fld := ⟨A.CAL_SCRATCH n, 12, 20⟩
abbrev F.CAL_LEVEL_MIN_LEVEL (n : Nat) : Fld := ⟨A.CAL_LEVEL_MIN n, 0, 16⟩
abbrev F.CAL_TAP_PS (n : Nat) : Fld := ⟨A.CAL_TAP n, 0, 16⟩
abbrev F.CAL_TAP_VALID (n : Nat) : Fld := ⟨A.CAL_TAP n, 31, 1⟩
abbrev F.CAL_RES_LEFT (n i : Nat) : Fld := ⟨A.CAL_RES n i, 0, 7⟩
abbrev F.CAL_RES_RIGHT (n i : Nat) : Fld := ⟨A.CAL_RES n i, 8, 7⟩
abbrev F.CAL_RES_WIDTH (n i : Nat) : Fld := ⟨A.CAL_RES n i, 16, 8⟩
abbrev F.CAL_RES_VALID (n i : Nat) : Fld := ⟨A.CAL_RES n i, 31, 1⟩
abbrev F.CAL_EYE_SIZE (n i : Nat) : Fld := ⟨A.CAL_EYE n i, 0, 16⟩
abbrev F.CAL_EYE_ERRS (n i : Nat) : Fld := ⟨A.CAL_EYE n i, 16, 16⟩
abbrev F.CAL_LANE_RD_DMI (n b : Nat) : Fld := ⟨A.CAL_LANE n b, 0, 7⟩
abbrev F.CAL_LANE_WR_DMI (n b : Nat) : Fld := ⟨A.CAL_LANE n b, 8, 7⟩
abbrev F.CAL_LANE_VREF (n b : Nat) : Fld := ⟨A.CAL_LANE n b, 16, 7⟩
abbrev F.CAL_RX_GO_LANE : Fld := ⟨A.CAL_RX_GO, 0, 4⟩
abbrev F.CAL_RX_CFG_ERR_LIMIT : Fld := ⟨A.CAL_RX_CFG, 0, 16⟩
abbrev F.CAL_RX_STATUS_BUSY : Fld := ⟨A.CAL_RX_STATUS, 0, 1⟩
abbrev F.CAL_RX_STATUS_LANE : Fld := ⟨A.CAL_RX_STATUS, 4, 4⟩
abbrev F.CAL_RX_STATUS_REFUSED : Fld := ⟨A.CAL_RX_STATUS, 8, 1⟩
abbrev F.CAL_RX_STATUS_REASON : Fld := ⟨A.CAL_RX_STATUS, 9, 3⟩
abbrev F.CAL_RX_SET_DLY (l : Nat) : Fld := ⟨A.CAL_RX_SET l, 0, 6⟩
abbrev F.CAL_RX_SET_THR (l : Nat) : Fld := ⟨A.CAL_RX_SET l, 8, 5⟩
abbrev F.CAL_RX_SET_EQ (l : Nat) : Fld := ⟨A.CAL_RX_SET l, 16, 4⟩
abbrev F.CAL_RX_RES_LEFT (l : Nat) : Fld := ⟨A.CAL_RX_RES l, 0, 6⟩
abbrev F.CAL_RX_RES_RIGHT (l : Nat) : Fld := ⟨A.CAL_RX_RES l, 8, 6⟩
abbrev F.CAL_RX_RES_WIDTH (l : Nat) : Fld := ⟨A.CAL_RX_RES l, 16, 7⟩
abbrev F.CAL_RX_RES_VALID (l : Nat) : Fld := ⟨A.CAL_RX_RES l, 31, 1⟩
abbrev F.CAL_RX_EYE_WIDTH_PS (l : Nat) : Fld := ⟨A.CAL_RX_EYE l, 0, 16⟩
abbrev F.CAL_RX_EYE_HEIGHT (l : Nat) : Fld := ⟨A.CAL_RX_EYE l, 16, 8⟩
abbrev F.CAL_RX_ERR_ERRS (l : Nat) : Fld := ⟨A.CAL_RX_ERR l, 0, 24⟩
abbrev F.CAL_RX_ERR_FRAMES (l : Nat) : Fld := ⟨A.CAL_RX_ERR l, 24, 8⟩
abbrev F.SEC_STATUS_OWNER_SET : Fld := ⟨A.SEC_STATUS, 0, 1⟩
abbrev F.SEC_STATUS_PARAM_DEFAULTED : Fld := ⟨A.SEC_STATUS, 1, 1⟩
abbrev F.SEC_STATUS_RECOVERY : Fld := ⟨A.SEC_STATUS, 2, 1⟩
abbrev F.SEC_STATUS_IDENTITY_OK : Fld := ⟨A.SEC_STATUS, 3, 1⟩
abbrev F.SEC_STATUS_JTAG_OPEN : Fld := ⟨A.SEC_STATUS, 4, 1⟩
abbrev F.SEC_STATUS_BOARD_READ : Fld := ⟨A.SEC_STATUS, 5, 1⟩
abbrev F.SEC_STATUS_BOARD_WRITE : Fld := ⟨A.SEC_STATUS, 6, 1⟩
abbrev F.SEC_STATUS_HSS_EXHAUSTED : Fld := ⟨A.SEC_STATUS, 7, 1⟩
abbrev F.SEC_SVN_ROT : Fld := ⟨A.SEC_SVN, 0, 7⟩
abbrev F.SEC_SVN_BUNDLE : Fld := ⟨A.SEC_SVN, 8, 7⟩
abbrev F.SEC_SVN_OPERATOR : Fld := ⟨A.SEC_SVN, 16, 7⟩
abbrev F.SEC_SVN_OWNER_SLOT : Fld := ⟨A.SEC_SVN, 24, 2⟩
abbrev F.SEC_LEAF_TOP : Fld := ⟨A.SEC_LEAF, 0, 16⟩
abbrev F.SEC_LEAF_BOTTOM : Fld := ⟨A.SEC_LEAF, 16, 11⟩
abbrev F.SEC_LEAF_TREES : Fld := ⟨A.SEC_LEAF, 28, 2⟩
abbrev F.SEC_BOOT_ROT_SLOT : Fld := ⟨A.SEC_BOOT, 0, 1⟩
abbrev F.SEC_BOOT_LOADED : Fld := ⟨A.SEC_BOOT, 8, 8⟩
abbrev F.SEC_BOOT_REFUSED : Fld := ⟨A.SEC_BOOT, 16, 8⟩
abbrev F.SEC_SESSIONS_OPEN : Fld := ⟨A.SEC_SESSIONS, 0, 8⟩
abbrev F.THM_CTRL_PERIOD_US : Fld := ⟨A.THM_CTRL, 0, 16⟩
abbrev F.THM_CTRL_AUTO_RELEASE : Fld := ⟨A.THM_CTRL, 16, 1⟩
abbrev F.THM_CTRL_AVS_EN : Fld := ⟨A.THM_CTRL, 17, 1⟩
abbrev F.THM_CTRL_RELEASE : Fld := ⟨A.THM_CTRL, 31, 1⟩
abbrev F.THM_STATUS_LEVEL : Fld := ⟨A.THM_STATUS, 0, 2⟩
abbrev F.THM_STATUS_STAGE : Fld := ⟨A.THM_STATUS, 2, 2⟩
abbrev F.THM_STATUS_ROUND_BUSY : Fld := ⟨A.THM_STATUS, 4, 1⟩
abbrev F.THM_STATUS_NVALID : Fld := ⟨A.THM_STATUS, 8, 5⟩
abbrev F.THM_FLAGS_WARN : Fld := ⟨A.THM_FLAGS, 0, 1⟩
abbrev F.THM_FLAGS_THROTTLE : Fld := ⟨A.THM_FLAGS, 1, 1⟩
abbrev F.THM_FLAGS_SHUTDOWN : Fld := ⟨A.THM_FLAGS, 2, 1⟩
abbrev F.THM_FLAGS_THR_CLAMP : Fld := ⟨A.THM_FLAGS, 3, 1⟩
abbrev F.THM_FLAGS_AVS_CLAMP : Fld := ⟨A.THM_FLAGS, 4, 1⟩
abbrev F.THM_FLAGS_SENSOR_FAIL : Fld := ⟨A.THM_FLAGS, 5, 1⟩
abbrev F.THM_FLAGS_STALE_WRITE : Fld := ⟨A.THM_FLAGS, 6, 1⟩
abbrev F.THM_TMAX_TEMP : Fld := ⟨A.THM_TMAX, 0, 16⟩
abbrev F.THM_TMAX_SENSOR : Fld := ⟨A.THM_TMAX, 16, 4⟩
abbrev F.THM_TMAX_VALID : Fld := ⟨A.THM_TMAX, 31, 1⟩
abbrev F.THM_WARN_THRESH : Fld := ⟨A.THM_WARN, 0, 16⟩
abbrev F.THM_WARN_HYST : Fld := ⟨A.THM_WARN, 16, 8⟩
abbrev F.THM_THROT_THRESH : Fld := ⟨A.THM_THROT, 0, 16⟩
abbrev F.THM_THROT_HYST : Fld := ⟨A.THM_THROT, 16, 8⟩
abbrev F.THM_SHUT_THRESH : Fld := ⟨A.THM_SHUT, 0, 16⟩
abbrev F.THM_SHUT_HYST : Fld := ⟨A.THM_SHUT, 16, 8⟩
abbrev F.THM_THR_CFG_IFLOOR : Fld := ⟨A.THM_THR_CFG, 0, 10⟩
abbrev F.THM_THR_CFG_STEP : Fld := ⟨A.THM_THR_CFG, 10, 6⟩
abbrev F.THM_THR_CFG_PFLOOR : Fld := ⟨A.THM_THR_CFG, 16, 5⟩
abbrev F.THM_THR_TIME_STAGE2_ROUNDS : Fld := ⟨A.THM_THR_TIME, 0, 16⟩
abbrev F.THM_THR_TIME_PLANE_ROUNDS : Fld := ⟨A.THM_THR_TIME, 16, 16⟩
abbrev F.THM_AVS_CFG_VID_MIN : Fld := ⟨A.THM_AVS_CFG, 0, 8⟩
abbrev F.THM_AVS_CFG_VID_MAX : Fld := ⟨A.THM_AVS_CFG, 8, 8⟩
abbrev F.THM_AVS_CFG_MARGIN_LO : Fld := ⟨A.THM_AVS_CFG, 16, 8⟩
abbrev F.THM_AVS_CFG_MARGIN_HI : Fld := ⟨A.THM_AVS_CFG, 24, 8⟩
abbrev F.THM_VID_VID : Fld := ⟨A.THM_VID, 0, 8⟩
abbrev F.THM_AVS_MARGIN_MARGIN : Fld := ⟨A.THM_AVS_MARGIN, 0, 8⟩
abbrev F.THM_AVS_MARGIN_VALID : Fld := ⟨A.THM_AVS_MARGIN, 31, 1⟩
abbrev F.THM_SENSOR_EN_MASK : Fld := ⟨A.THM_SENSOR_EN, 0, 16⟩
abbrev F.THM_MISC_BG_BAND : Fld := ⟨A.THM_MISC, 0, 5⟩
abbrev F.THM_MISC_VCO_STEPS : Fld := ⟨A.THM_MISC, 16, 16⟩
abbrev F.THM_T_TEMP (s : Nat) : Fld := ⟨A.THM_T s, 0, 16⟩
abbrev F.THM_T_FAIL (s : Nat) : Fld := ⟨A.THM_T s, 29, 1⟩
abbrev F.THM_T_VALID (s : Nat) : Fld := ⟨A.THM_T s, 31, 1⟩
abbrev F.BIST_CTRL_EN : Fld := ⟨A.BIST_CTRL, 0, 1⟩
abbrev F.BIST_CTRL_SLICES : Fld := ⟨A.BIST_CTRL, 8, 6⟩
abbrev F.BIST_STATUS_POS : Fld := ⟨A.BIST_STATUS, 0, 13⟩
abbrev F.BIST_STATUS_RETEST : Fld := ⟨A.BIST_STATUS, 13, 1⟩
abbrev F.BIST_STATUS_BUSY : Fld := ⟨A.BIST_STATUS, 16, 1⟩
abbrev F.BIST_FLAGS_FAIL : Fld := ⟨A.BIST_FLAGS, 0, 1⟩
abbrev F.BIST_FLAGS_REPAIRED : Fld := ⟨A.BIST_FLAGS, 1, 1⟩
abbrev F.BIST_FLAGS_UNREPAIRABLE : Fld := ⟨A.BIST_FLAGS, 2, 1⟩
abbrev F.BIST_FLAGS_OVERRUN : Fld := ⟨A.BIST_FLAGS, 3, 1⟩
abbrev F.BIST_FLAGS_SRAM_UNCORR : Fld := ⟨A.BIST_FLAGS, 4, 1⟩
abbrev F.BIST_FLAGS_PARITY : Fld := ⟨A.BIST_FLAGS, 5, 1⟩
abbrev F.BIST_FLAGS_IMEM_RETRY : Fld := ⟨A.BIST_FLAGS, 6, 1⟩
abbrev F.BIST_FLAGS_DMEM_PERR : Fld := ⟨A.BIST_FLAGS, 7, 1⟩
abbrev F.BIST_FAIL_SLICE_SLICE : Fld := ⟨A.BIST_FAIL_SLICE, 0, 13⟩
abbrev F.BIST_FAIL_SLICE_VALID : Fld := ⟨A.BIST_FAIL_SLICE, 31, 1⟩
abbrev F.BIST_FAIL_POS_WORD : Fld := ⟨A.BIST_FAIL_POS, 0, 8⟩
abbrev F.BIST_FAIL_POS_BIT : Fld := ⟨A.BIST_FAIL_POS, 8, 9⟩
abbrev F.BIST_FAIL_POS_REPAIRED : Fld := ⟨A.BIST_FAIL_POS, 31, 1⟩
abbrev F.BIST_REPAIR_SOFT : Fld := ⟨A.BIST_REPAIR, 0, 11⟩
abbrev F.BIST_REPAIR_HARD : Fld := ⟨A.BIST_REPAIR, 16, 10⟩
abbrev F.BIST_COUNT_CORR : Fld := ⟨A.BIST_COUNT, 0, 16⟩
abbrev F.BIST_COUNT_UNCORR : Fld := ⟨A.BIST_COUNT, 16, 16⟩
abbrev F.BIST_ERR_ADDR_OFFSET : Fld := ⟨A.BIST_ERR_ADDR, 0, 24⟩
abbrev F.BIST_ERR_ADDR_REGION : Fld := ⟨A.BIST_ERR_ADDR, 24, 4⟩
abbrev F.BIST_ERR_ADDR_KIND : Fld := ⟨A.BIST_ERR_ADDR, 28, 2⟩
abbrev F.BIST_ERR_ADDR_VALID : Fld := ⟨A.BIST_ERR_ADDR, 31, 1⟩
abbrev F.BIST_POWERON_LOGIC_OK : Fld := ⟨A.BIST_POWERON, 0, 1⟩
abbrev F.BIST_POWERON_MEM_OK : Fld := ⟨A.BIST_POWERON, 1, 1⟩
abbrev F.BIST_POWERON_REASON : Fld := ⟨A.BIST_POWERON, 8, 8⟩
abbrev F.BIST_POWERON_REPAIRS : Fld := ⟨A.BIST_POWERON, 16, 10⟩
abbrev F.KNL_CTRL_SQS_FAULT : Fld := ⟨A.KNL_CTRL, 8, 1⟩
abbrev F.KNL_STATUS_ACTIVE : Fld := ⟨A.KNL_STATUS, 0, 1⟩
abbrev F.KNL_STATUS_REASONS : Fld := ⟨A.KNL_STATUS, 8, 5⟩
abbrev F.KNL_STATUS_FIRST : Fld := ⟨A.KNL_STATUS, 16, 4⟩
abbrev F.DLOG_CFG_LIMIT (n : Nat) : Fld := ⟨A.DLOG_CFG n, 0, 4⟩
abbrev F.DLOG_CFG_CORR_EN (n : Nat) : Fld := ⟨A.DLOG_CFG n, 4, 1⟩
abbrev F.DLOG_ADDR (n e : Nat) : Fld := ⟨A.DLOG n e, 0, 26⟩
abbrev F.DLOG_COUNT (n e : Nat) : Fld := ⟨A.DLOG n e, 26, 4⟩
abbrev F.DLOG_VALID (n e : Nat) : Fld := ⟨A.DLOG n e, 31, 1⟩
abbrev F.PWR_CTRL_STAY : Fld := ⟨A.PWR_CTRL, 0, 1⟩
abbrev F.PWR_CTRL_RETAIN : Fld := ⟨A.PWR_CTRL, 1, 1⟩
abbrev F.PWR_CTRL_WAKE_EN : Fld := ⟨A.PWR_CTRL, 2, 1⟩
abbrev F.PWR_CTRL_WAKE : Fld := ⟨A.PWR_CTRL, 3, 1⟩
abbrev F.PWR_CTRL_WARM : Fld := ⟨A.PWR_CTRL, 4, 1⟩
abbrev F.PWR_STATUS_STATE : Fld := ⟨A.PWR_STATUS, 0, 2⟩
abbrev F.PWR_STATUS_RETAINED : Fld := ⟨A.PWR_STATUS, 2, 1⟩
abbrev F.PWR_STATUS_PWR_OK : Fld := ⟨A.PWR_STATUS, 3, 1⟩
abbrev F.PWR_STATUS_WAKE_SRC : Fld := ⟨A.PWR_STATUS, 4, 2⟩
abbrev F.PWR_FLAGS_STALE_WRITE : Fld := ⟨A.PWR_FLAGS, 0, 1⟩
abbrev F.PWR_FLAGS_PG_TIMEOUT : Fld := ⟨A.PWR_FLAGS, 1, 1⟩
abbrev F.PWR_FLAGS_PG_LOST : Fld := ⟨A.PWR_FLAGS, 2, 1⟩
abbrev F.PWR_FLAGS_WAKE_LATE : Fld := ⟨A.PWR_FLAGS, 3, 1⟩
abbrev F.PWR_FLAGS_CLK_NET_LOST : Fld := ⟨A.PWR_FLAGS, 4, 1⟩
abbrev F.PWR_FLAGS_CLK_CAB_LOST : Fld := ⟨A.PWR_FLAGS, 5, 1⟩
abbrev F.PWR_FLAGS_CTX_LOST : Fld := ⟨A.PWR_FLAGS, 6, 1⟩
abbrev F.PWR_RESET_CAUSE_CAUSE : Fld := ⟨A.PWR_RESET_CAUSE, 0, 4⟩
abbrev F.PWR_PNL_EN : Fld := ⟨A.PWR_PNL, 0, 4⟩
abbrev F.PWR_PNL_PG_TIMEOUT_MS : Fld := ⟨A.PWR_PNL, 8, 8⟩
abbrev F.PWR_PNL_STATUS_EN : Fld := ⟨A.PWR_PNL_STATUS, 0, 4⟩
abbrev F.PWR_PNL_STATUS_PG : Fld := ⟨A.PWR_PNL_STATUS, 4, 4⟩
abbrev F.PWR_PLANE_FRONT_FRONT : Fld := ⟨A.PWR_PLANE_FRONT, 0, 16⟩
abbrev F.PWR_CTX_SAVE_QUAD : Fld := ⟨A.PWR_CTX_SAVE, 0, 2⟩
abbrev F.PWR_CTX_SAVE_EN : Fld := ⟨A.PWR_CTX_SAVE, 2, 1⟩
abbrev F.PWR_CTX_SAVE_BASE : Fld := ⟨A.PWR_CTX_SAVE, 21, 11⟩
abbrev F.SYS_CHIP_ID_PART : Fld := ⟨A.SYS_CHIP_ID, 16, 16⟩
abbrev F.SYS_CHIP_ID_STEPPING : Fld := ⟨A.SYS_CHIP_ID, 8, 8⟩
abbrev F.SYS_CHIP_ID_GRADE : Fld := ⟨A.SYS_CHIP_ID, 4, 4⟩
abbrev F.SYS_STATUS_UNMAPPED : Fld := ⟨A.SYS_STATUS, 0, 1⟩
abbrev F.SYS_STATUS_STALE_WRITE : Fld := ⟨A.SYS_STATUS, 1, 1⟩
abbrev F.SYS_STATUS_PARAM_DEFAULTED : Fld := ⟨A.SYS_STATUS, 8, 1⟩
abbrev F.SYS_STATUS_PARAM_REASON : Fld := ⟨A.SYS_STATUS, 9, 3⟩
abbrev F.SYS_UNMAPPED_ADDR_ADDR : Fld := ⟨A.SYS_UNMAPPED_ADDR, 0, 26⟩
abbrev F.SYS_UNMAPPED_ADDR_MASTER : Fld := ⟨A.SYS_UNMAPPED_ADDR, 26, 3⟩
abbrev F.SYS_UNMAPPED_ADDR_WRITE : Fld := ⟨A.SYS_UNMAPPED_ADDR, 29, 1⟩
abbrev F.SYS_UNMAPPED_ADDR_VALID : Fld := ⟨A.SYS_UNMAPPED_ADDR, 31, 1⟩
abbrev F.SYS_PARAM_SKIP_ENTRIES : Fld := ⟨A.SYS_PARAM_SKIP, 0, 16⟩
abbrev F.SYS_PARAM_SKIP_SECTIONS : Fld := ⟨A.SYS_PARAM_SKIP, 16, 16⟩
abbrev F.GPIO_DIR_DIR : Fld := ⟨A.GPIO_DIR, 0, 16⟩
abbrev F.GPIO_OUT_OUT : Fld := ⟨A.GPIO_OUT, 0, 16⟩
abbrev F.GPIO_PULL_PULL : Fld := ⟨A.GPIO_PULL, 0, 16⟩
abbrev F.BRD_STATUS_REASON : Fld := ⟨A.BRD_STATUS, 0, 8⟩
abbrev F.BRD_STATUS_STAGE : Fld := ⟨A.BRD_STATUS, 8, 3⟩
abbrev F.BRD_STATUS_KENNEL : Fld := ⟨A.BRD_STATUS, 11, 1⟩
abbrev F.BRD_STATUS_LEASH : Fld := ⟨A.BRD_STATUS, 12, 3⟩
abbrev F.BRD_STATUS_PARAM_DEFAULTED : Fld := ⟨A.BRD_STATUS, 15, 1⟩
abbrev F.BRD_STATUS_OWNER_SET : Fld := ⟨A.BRD_STATUS, 16, 1⟩
abbrev F.BRD_STATUS_EVT : Fld := ⟨A.BRD_STATUS, 17, 1⟩
abbrev F.BRD_STATUS_RESET_CAUSE : Fld := ⟨A.BRD_STATUS, 20, 4⟩
abbrev F.BRD_EVT_LATCH : Fld := ⟨A.BRD_EVT, 0, 1⟩

end Sys2Proof.Machine
end

