-- ==== Sys2Proof/Machine/RegTable.lean ====
section
/-!
DEFINITION. Sys2Proof/Machine/RegTable.lean: every register of the register index tables as one row: where it
lies, the value its Reset column gives (R518), and which of its bits each access type of R9 covers. Bits that no
mask names are read-only or reserved: a write leaves them alone (R8, R513).
-/

namespace Sys2Proof.Machine

/-- Register rows, part 0. -/
def regRows0 : List RegRow := [
  { base := 0x0, reset := 0x7128b010 },
  { base := 0x4, w1c := 0x3 },
  { base := 0x8 },
  { base := 0x10 },
  { base := 0x14 },
  { base := 0x18 },
  { base := 0x10000, reset := 0x2, rw := 0x1f, wo := true },
  { base := 0x10004 },
  { base := 0x10008, w1c := 0x3ff },
  { base := 0x10010 }]

/-- Register rows, part 1. -/
def regRows1 : List RegRow := [
  { base := 0x10014 },
  { base := 0x10018 },
  { base := 0x1001c },
  { base := 0x10020, reset := 0x200019a, rw := 0xffffffff },
  { base := 0x10024, reset := 0x2710, rw := 0x3ffff },
  { base := 0x10028 },
  { base := 0x1002c, reset := 0xa100014, rw := 0xffffffff },
  { base := 0x10030, reset := 0x258, rw := 0xfffff },
  { base := 0x10034, rw := 0xffff },
  { base := 0x10038, dims := [(4, 0x4)], rw := 0xffffffff }]

/-- Register rows, part 2. -/
def regRows2 : List RegRow := [
  { base := 0x10048 },
  { base := 0x10100, dims := [(2, 0x40)], reset := 0x3c0000, rw := 0x81ff37ff },
  { base := 0x10104, dims := [(2, 0x40)], rw := 0xffffffff },
  { base := 0x10108, dims := [(2, 0x40)], rw := 0xffffffff },
  { base := 0x1010c, dims := [(2, 0x40)], rw := 0xffff },
  { base := 0x10110, dims := [(2, 0x40)] },
  { base := 0x10114, dims := [(2, 0x40)] },
  { base := 0x10118, dims := [(2, 0x40)] },
  { base := 0x1011c, dims := [(2, 0x40)], rw := 0xffffffff },
  { base := 0x10180 }]

/-- Register rows, part 3. -/
def regRows3 : List RegRow := [
  { base := 0x10184 },
  { base := 0x10188, reset := 0x3c, rw := 0xffff },
  { base := 0x1018c, rw := 0x3ff },
  { base := 0x10190, rw := 0xffffffff },
  { base := 0x10194, rw := 0xffffffff },
  { base := 0x10198, rw := 0xffffffff },
  { base := 0x1019c, rw := 0xffffffff },
  { base := 0x10200, dims := [(2, 0x8)], rw := 0xffffffff },
  { base := 0x10300, rwl := 0xffffffff, lock := .timing },
  { base := 0x10304, rwl := 0xffffffff, lock := .timing }]

/-- Register rows, part 4. -/
def regRows4 : List RegRow := [
  { base := 0x10308, reset := 0x1, rwl := 0xffffffff, lock := .timing },
  { base := 0x1030c, reset := 0x78, rwl := 0xffffffff, lock := .timing },
  { base := 0x10310 },
  { base := 0x10314 },
  { base := 0x11000, dims := [(32, 0x20)], rwl := 0xffffffff, lock := .armed },
  { base := 0x11004, dims := [(32, 0x20)], rwl := 0xffffffff, lock := .armed },
  { base := 0x11008, dims := [(32, 0x20)], rwl := 0xffffffff, lock := .armed },
  { base := 0x1100c, dims := [(32, 0x20)], rwl := 0xffff, lock := .armed },
  { base := 0x11010, dims := [(32, 0x20)], rw := 0x1, w1c := 0x30000, rwl := 0x3f06, lock := .armed },
  { base := 0x11014, dims := [(32, 0x20)], rw := 0xffffff },
  { base := 0x11018, dims := [(32, 0x20)], rw := 0x3fffffff },
  { base := 0x1101c, dims := [(32, 0x20)], rw := 0xffff }]

/-- Register rows, part 5. -/
def regRows5 : List RegRow := [
  { base := 0x12000 },
  { base := 0x12004 },
  { base := 0x12008 },
  { base := 0x1200c, wo := true },
  { base := 0x12010, reset := 0x200, w1c := 0x400, ctr := [(16, 16)] },
  { base := 0x12100, dims := [(22, 0x4)], rw := 0x7 },
  { base := 0x20000, dims := [(5, 0x100)], rw := 0x80000000, wo := true },
  { base := 0x20004, dims := [(5, 0x100)] },
  { base := 0x20008, dims := [(5, 0x100)] },
  { base := 0x2000c, dims := [(5, 0x100)] },
  { base := 0x20010, dims := [(5, 0x100)], reset := 0x200, w1c := 0x400, ctr := [(16, 16)] },
  { base := 0x20014, dims := [(5, 0x100)], wo := true },
  { base := 0x20018, dims := [(5, 0x100)], rw := 0xffff },
  { base := 0x2001c, dims := [(5, 0x100)] }]

/-- Register rows, part 6. -/
def regRows6 : List RegRow := [
  { base := 0x20800, rw := 0xf },
  { base := 0x30000, ctr := [(0, 32)] },
  { base := 0x30004, ctr := [(0, 32)] },
  { base := 0x30008, ctr := [(0, 16), (16, 16)] },
  { base := 0x60000, rwl := 0x3ff07ff, lock := .timing },
  { base := 0x60004, w1c := 0x340, ctr := [(16, 16)] },
  { base := 0x60008, rwl := 0x1fff, lock := .timing },
  { base := 0x60010, rw := 0xfffffff8 },
  { base := 0x60014, rw := 0x33ffff },
  { base := 0x60018, rw := 0x7ffff }]

/-- Register rows, part 7. -/
def regRows7 : List RegRow := [
  { base := 0x6001c, wo := true },
  { base := 0x60020 },
  { base := 0x60024 },
  { base := 0x60400, dims := [(128, 0x4)], rwl := 0xffff, lock := .timing },
  { base := 0x60600, dims := [(16, 0x4)], rwl := 0xffff, lock := .timing },
  { base := 0x70000, reset := 0x3207c800, rw := 0xff07ffff },
  { base := 0x70004, w1c := 0xff },
  { base := 0x70008, ctr := [(0, 32)] },
  { base := 0x7000c, ctr := [(0, 32)] },
  { base := 0x70010, ctr := [(0, 32)] }]

/-- Register rows, part 8. -/
def regRows8 : List RegRow := [
  { base := 0x70014, ctr := [(0, 32)] },
  { base := 0x70018, ctr := [(0, 32)] },
  { base := 0x7001c, ctr := [(0, 32)] },
  { base := 0x70020 },
  { base := 0x70100, dims := [(4, 0x4)], rwl := 0xffff8000, lock := .arena },
  { base := 0x70200, dims := [(32, 0x10)], rw := 0xffffffc0 },
  { base := 0x70204, dims := [(32, 0x10)], rw := 0xffff },
  { base := 0x70208, dims := [(32, 0x10)], rw := 0xffffffff },
  { base := 0x80000, dims := [(16, 0x20)], rw := 0x1, rwl := 0x7ffffff6, lock := .plane },
  { base := 0x80004, dims := [(16, 0x20)], rwl := 0x1fffff, lock := .plane },
  { base := 0x80008, dims := [(16, 0x20)], rwl := 0x1fffff, lock := .plane },
  { base := 0x8000c, dims := [(16, 0x20)], w1c := 0xf00 },
  { base := 0x80010, dims := [(16, 0x20)] },
  { base := 0x80014, dims := [(16, 0x20)] }]

/-- Register rows, part 9. -/
def regRows9 : List RegRow := [
  { base := 0x80200, dims := [(4, 0x4)], rw := 0xffff },
  { base := 0x80210, w1c := 0xf },
  { base := 0x90000, reset := 0x10 },
  { base := 0xa0000, rwl := 0x3fff3fff, lock := .timing },
  { base := 0xa0004, reset := 0x10, rwl := 0x3f, lock := .timing },
  { base := 0xa0008, rwl := 0xffff, lock := .timing },
  { base := 0xa000c, rwl := 0xfffffff, lock := .timing },
  { base := 0xa0010, rwl := 0xffffff7, lock := .timing },
  { base := 0xa0014, rwl := 0xfff0fff, lock := .timing },
  { base := 0xa0018, rwl := 0x7, lock := .timing }]

/-- Register rows, part 10. -/
def regRows10 : List RegRow := [
  { base := 0xa001c, w1c := 0x1 },
  { base := 0xa0020, reset := 0x20140000, rw := 0xffff0fff },
  { base := 0xa0024, rw := 0x1 },
  { base := 0xa0040, rw := 0x1 },
  { base := 0xa0044, w1c := 0x100 },
  { base := 0xa0100, reset := 0x700, rw := 0x1771 },
  { base := 0xa0104, reset := 0x7, w1c := 0x3f0 },
  { base := 0xa0108 },
  { base := 0xa010c, reset := 0x20, rw := 0xff },
  { base := 0xa0110, reset := 0x8, rw := 0xff }]

/-- Register rows, part 11. -/
def regRows11 : List RegRow := [
  { base := 0xa0114, reset := 0x3ff },
  { base := 0xa0118 },
  { base := 0xa0120, dims := [(7, 0x4)], rw := 0xffff },
  { base := 0xa8000, dims := [(8, 0x1000), (512, 0x4)], rw := 0xffffffff },
  { base := 0xa8800, dims := [(8, 0x1000)], rw := 0x3ff },
  { base := 0xb0000, rw := 0xf },
  { base := 0xb0004, w1c := 0x3 },
  { base := 0xb0010, rw := 0xfffff },
  { base := 0xb0014, rw := 0xffff },
  { base := 0xb0018, rw := 0xffffffff }]

/-- Register rows, part 12. -/
def regRows12 : List RegRow := [
  { base := 0xb0020, dims := [(4, 0x4)], rw := 0xffffffff },
  { base := 0xb0030, reset := 0xc800, rw := 0xffff },
  { base := 0xb0040, wo := true },
  { base := 0xb0044, wo := true },
  { base := 0xb0048, rw := 0xffffffff },
  { base := 0xb004c, ctr := [(0, 32)] },
  { base := 0xb0050, ctr := [(0, 32)] },
  { base := 0xb0100, dims := [(2, 0x100)], rw := 0x1, rwl := 0xff0e, lock := .netPort },
  { base := 0xb0104, dims := [(2, 0x100)] },
  { base := 0xb0108, dims := [(2, 0x100)], rw := 0xffff },
  { base := 0xb010c, dims := [(2, 0x100)], rw := 0xffffffff },
  { base := 0xb0110, dims := [(2, 0x100)], rw := 0xffffffff },
  { base := 0xb0114, dims := [(2, 0x100), (4, 0x4)], rw := 0xffffffff },
  { base := 0xb0130, dims := [(2, 0x100), (4, 0x4)], reset := 0x3f00, rw := 0x3f3f3f },
  { base := 0xb0140, dims := [(2, 0x100)], ctr := [(0, 32)] },
  { base := 0xb0144, dims := [(2, 0x100)], ctr := [(0, 32)] },
  { base := 0xb0148, dims := [(2, 0x100)], ctr := [(0, 32)] },
  { base := 0xb014c, dims := [(2, 0x100)], ctr := [(0, 32)] },
  { base := 0xb0150, dims := [(2, 0x100)] },
  { base := 0xb0154, dims := [(2, 0x100)] },
  { base := 0xb0180, dims := [(2, 0x100), (16, 0x8)], rw := 0x8000ffff },
  { base := 0xb0184, dims := [(2, 0x100), (16, 0x8)], rw := 0xffffffff }]

/-- Register rows, part 13. -/
def regRows13 : List RegRow := [
  { base := 0xb0400, dims := [(32, 0x4)] },
  { base := 0xb8000, dims := [(32, 0x200), (128, 0x4)] },
  { base := 0xc0000, rw := 0xffffffff },
  { base := 0xc0004, reset := 0x10, rw := 0xffff },
  { base := 0xc0200, dims := [(4, 0x200)], reset := 0x320004, rw := 0xff001c, wo := true },
  { base := 0xc0204, dims := [(4, 0x200)] },
  { base := 0xc0208, dims := [(4, 0x200)], w1c := 0x3ff },
  { base := 0xc020c, dims := [(4, 0x200)], rwl := 0xff, lock := .nbr },
  { base := 0xc0210, dims := [(4, 0x200)] },
  { base := 0xc0214, dims := [(4, 0x200)], rw := 0xffffffff },
  { base := 0xc0218, dims := [(4, 0x200)], rw := 0xfff0fff },
  { base := 0xc021c, dims := [(4, 0x200)], rw := 0x7ff07ff },
  { base := 0xc0220, dims := [(4, 0x200)] },
  { base := 0xc0224, dims := [(4, 0x200)] },
  { base := 0xc0228, dims := [(4, 0x200)], rw := 0xffff },
  { base := 0xc022c, dims := [(4, 0x200)] },
  { base := 0xc0230, dims := [(4, 0x200)], ctr := [(0, 32)] },
  { base := 0xc0234, dims := [(4, 0x200)], ctr := [(0, 32)] },
  { base := 0xc0238, dims := [(4, 0x200)], ctr := [(0, 32)] },
  { base := 0xc0300, dims := [(4, 0x200), (16, 0x10)], rw := 0x7ff0fff },
  { base := 0xc0304, dims := [(4, 0x200), (16, 0x10)], rw := 0x7ff0fff },
  { base := 0xc0308, dims := [(4, 0x200), (16, 0x10)], rw := 0x7ff0fff }]

/-- Register rows, part 14. -/
def regRows14 : List RegRow := [
  { base := 0xd0000, reset := 0x8, rw := 0xf },
  { base := 0xd0004, w1c := 0x700 },
  { base := 0xd0010, wo := true },
  { base := 0xd0014, reset := 0x180 },
  { base := 0xd0020, dims := [(4, 0x4)] },
  { base := 0xd0030, reset := 0x80, w1c := 0x100, ctr := [(16, 16)] },
  { base := 0xd0040, ctr := [(0, 32)] },
  { base := 0xd0044 },
  { base := 0xe0000, dims := [(2, 0x40)], rw := 0x1, rwl := 0xffff06, lock := .camPort },
  { base := 0xe0004, dims := [(2, 0x40)], w1c := 0x100 },
  { base := 0xe0008, dims := [(2, 0x40)], rwl := 0xffffffff, lock := .camPort },
  { base := 0xe000c, dims := [(2, 0x40)], rwl := 0xffffffff, lock := .camPort },
  { base := 0xe0010, dims := [(2, 0x40)], ctr := [(0, 16), (16, 16)] },
  { base := 0xe0014, dims := [(2, 0x40)], ctr := [(0, 16), (16, 16)] }]

/-- Register rows, part 15. -/
def regRows15 : List RegRow := [
  { base := 0xe0100, reset := 0x1, rw := 0x1f },
  { base := 0xe1000, dims := [(4, 0x400)], rw := 0xff7f },
  { base := 0xe1004, dims := [(4, 0x400)], rw := 0x3fff3fff },
  { base := 0xe1008, dims := [(4, 0x400)], rw := 0x7ff },
  { base := 0xe100c, dims := [(4, 0x400)], rw := 0xfff0fff },
  { base := 0xe1010, dims := [(4, 0x400)], rw := 0xfff0fff },
  { base := 0xe1014, dims := [(4, 0x400)], rw := 0x1fff1fff },
  { base := 0xe1018, dims := [(4, 0x400)], rw := 0x1fff },
  { base := 0xe101c, dims := [(4, 0x400)], reset := 0x1000, rw := 0xffffffff },
  { base := 0xe1020, dims := [(4, 0x400)], rw := 0xffffffff },
  { base := 0xe1024, dims := [(4, 0x400)], reset := 0x1000, rw := 0xffffffff },
  { base := 0xe1028, dims := [(4, 0x400)], rw := 0xffffffff },
  { base := 0xe102c, dims := [(4, 0x400)], reset := 0x1000, rw := 0xffff },
  { base := 0xe1030, dims := [(4, 0x400)], rw := 0xfff },
  { base := 0xe1040, dims := [(4, 0x400), (2, 0x20)], rw := 0xffffffc0 },
  { base := 0xe1044, dims := [(4, 0x400), (2, 0x20)], rw := 0xffffffc0 },
  { base := 0xe1048, dims := [(4, 0x400), (2, 0x20)], rw := 0xffffffc0 },
  { base := 0xe104c, dims := [(4, 0x400), (2, 0x20)], rw := 0xffffffc0 },
  { base := 0xe1050, dims := [(4, 0x400), (2, 0x20)], rw := 0xffffffc0 },
  { base := 0xe1054, dims := [(4, 0x400), (2, 0x20)], rw := 0xffffffff },
  { base := 0xe1058, dims := [(4, 0x400), (2, 0x20)], rw := 0xffffffff },
  { base := 0xe1090, dims := [(4, 0x400)], w1c := 0xff },
  { base := 0xe1094, dims := [(4, 0x400)] },
  { base := 0xe1098, dims := [(4, 0x400)] },
  { base := 0xe109c, dims := [(4, 0x400)], ctr := [(0, 16), (16, 16)] },
  { base := 0xe10a0, dims := [(4, 0x400)] },
  { base := 0xe1100, dims := [(4, 0x400), (32, 0x8)], rw := 0xfff0fff },
  { base := 0xe1104, dims := [(4, 0x400), (32, 0x8)], rw := 0x8fff0fff }]

/-- Register rows, part 16. -/
def regRows16 : List RegRow := [
  { base := 0xe4000, dims := [(2048, 0x4)], rw := 0x3ff03ff },
  { base := 0xf0000, wo := true },
  { base := 0xf0004, rw := 0xffff },
  { base := 0xf0008, w1c := 0x100 },
  { base := 0xf0100, dims := [(16, 0x20)], reset := 0x80000, rwl := 0xf1f3f, lock := .scanLane },
  { base := 0xf0104, dims := [(16, 0x20)] },
  { base := 0xf0108, dims := [(16, 0x20)] },
  { base := 0xf010c, dims := [(16, 0x20)] },
  { base := 0x100000 },
  { base := 0x100004 }]

/-- Register rows, part 17. -/
def regRows17 : List RegRow := [
  { base := 0x100008 },
  { base := 0x10000c },
  { base := 0x100010 },
  { base := 0x100014 },
  { base := 0x100018 },
  { base := 0x100100, dims := [(8, 0x40), (12, 0x4)] },
  { base := 0x110000, reset := 0x103e8, rw := 0x3ffff, wo := true },
  { base := 0x110004 },
  { base := 0x110008, w1c := 0x7f },
  { base := 0x11000c }]

/-- Register rows, part 18. -/
def regRows18 : List RegRow := [
  { base := 0x110010, reset := 0x300640, rw := 0xffffff },
  { base := 0x110014, reset := 0x3006c0, rw := 0xffffff },
  { base := 0x110018, reset := 0xa00780, rw := 0xffffff },
  { base := 0x11001c, reset := 0x84100, rw := 0x1fffff },
  { base := 0x110020, reset := 0x640032, rw := 0xffffffff },
  { base := 0x110024, reset := 0x1008785a, rw := 0xffffffff },
  { base := 0x110028, reset := 0x64, rwl := 0xff, lock := .loop },
  { base := 0x11002c },
  { base := 0x110030, reset := 0xffff, rw := 0xffff },
  { base := 0x110034 }]

/-- Register rows, part 19. -/
def regRows19 : List RegRow := [
  { base := 0x110100, dims := [(16, 0x4)] },
  { base := 0x120000, reset := 0x2001, rw := 0x3f01 },
  { base := 0x120004 },
  { base := 0x120008, w1c := 0xff },
  { base := 0x12000c },
  { base := 0x120010 },
  { base := 0x120014 },
  { base := 0x120018, ctr := [(0, 16), (16, 16)] },
  { base := 0x12001c },
  { base := 0x120020 }]

/-- Register rows, part 20. -/
def regRows20 : List RegRow := [
  { base := 0x120024 },
  { base := 0x120100, rw := 0x100, wo := true },
  { base := 0x120104 },
  { base := 0x130000, rw := 0x6, wo := true },
  { base := 0x130004 },
  { base := 0x130008, w1c := 0x7f },
  { base := 0x13000c, reset := 0x1 },
  { base := 0x130010, rw := 0xffffffff },
  { base := 0x130014, rw := 0xffffffff },
  { base := 0x130018, rw := 0xffffffff }]

/-- Register rows, part 21. -/
def regRows21 : List RegRow := [
  { base := 0x130020, reset := 0x6400, rw := 0xff0f },
  { base := 0x130024 },
  { base := 0x130028 },
  { base := 0x13002c, rw := 0xffe00007 },
  { base := 0x140000, rw := 0xffff },
  { base := 0x140004, rw := 0xffff },
  { base := 0x140008 },
  { base := 0x14000c, reset := 0xffff, rw := 0xffff },
  { base := 0x150000, reset := 0x100000 },
  { base := 0x150004, w1c := 0x1 }]

/-- Register rows, part 22. -/
def regRows22 : List RegRow := [
  { base := 0x600000, dims := [(65536, 0x20)], rw := 0x3, rwl := 0xff70, lock := .flow },
  { base := 0x600004, dims := [(65536, 0x20)], rwl := 0xffffffff, lock := .flow },
  { base := 0x600008, dims := [(65536, 0x20)], rwl := 0xffffffff, lock := .flow },
  { base := 0x60000c, dims := [(65536, 0x20)], rwl := 0xffff, lock := .flow },
  { base := 0x600010, dims := [(65536, 0x20)] },
  { base := 0x600014, dims := [(65536, 0x20)], ctr := [(0, 32)] },
  { base := 0x600018, dims := [(65536, 0x20)], ctr := [(0, 16), (16, 16)] },
  { base := 0x60001c, dims := [(65536, 0x20)] },
  { base := 0x1005000, dims := [(4, 0x400000)] },
  { base := 0x1005004, dims := [(4, 0x400000)] }]

/-- Register rows, part 23. -/
def regRows23 : List RegRow := [
  { base := 0x1005008, dims := [(4, 0x400000)], rw := 0x3f },
  { base := 0x1006000, dims := [(4, 0x400000), (16, 0x8)], reset := 0x1020102, rws := 0xf7f0f7f },
  { base := 0x1006004, dims := [(4, 0x400000), (16, 0x8)], rws := 0x7f007f },
  { base := 0x1006080, dims := [(4, 0x400000)], w1c := 0xffff },
  { base := 0x1007000, dims := [(4, 0x400000)], wo := true },
  { base := 0x1007004, dims := [(4, 0x400000)], reset := 0x100110, rws := 0x1f011f },
  { base := 0x1007008, dims := [(4, 0x400000)], reset := 0x76543210, rws := 0xffffffff },
  { base := 0x100700c, dims := [(4, 0x400000)], reset := 0xfedcba98, rws := 0xffffffff },
  { base := 0x1007010, dims := [(4, 0x400000)], reset := 0x1000, w1c := 0x1e },
  { base := 0x1007014, dims := [(4, 0x400000)] }]

/-- Register rows, part 24. -/
def regRows24 : List RegRow := [
  { base := 0x1007018, dims := [(4, 0x400000)] },
  { base := 0x100701c, dims := [(4, 0x400000)] },
  { base := 0x1007020, dims := [(4, 0x400000)] },
  { base := 0x1007024, dims := [(4, 0x400000)] },
  { base := 0x1007100, dims := [(4, 0x400000), (16, 0x8)], rws := 0xffff },
  { base := 0x1007104, dims := [(4, 0x400000), (16, 0x8)], reset := 0xf0000, rws := 0x800fffff },
  { base := 0x1008000, dims := [(4, 0x400000)], rws := 0x7ffff },
  { base := 0x1008004, dims := [(4, 0x400000)], w1c := 0xffe },
  { base := 0x1008008, dims := [(4, 0x400000)] },
  { base := 0x100800c, dims := [(4, 0x400000)], rw := 0x7 }]

/-- Register rows, part 25. -/
def regRows25 : List RegRow := [
  { base := 0x1008100, dims := [(4, 0x400000), (2, 0x40)], rws := 0x3f },
  { base := 0x1008104, dims := [(4, 0x400000), (2, 0x40)], rws := 0xffffffff },
  { base := 0x1008108, dims := [(4, 0x400000), (2, 0x40)], rws := 0xffffffff },
  { base := 0x100810c, dims := [(4, 0x400000), (2, 0x40)], rws := 0xfff },
  { base := 0x1008110, dims := [(4, 0x400000), (2, 0x40)], rws := 0xffffffff },
  { base := 0x1008114, dims := [(4, 0x400000), (2, 0x40)], rws := 0x1ff00ff },
  { base := 0x1008118, dims := [(4, 0x400000), (2, 0x40)], rws := 0x3ff01ff },
  { base := 0x100811c, dims := [(4, 0x400000), (2, 0x40)], rws := 0x3fffffff },
  { base := 0x1009000, dims := [(4, 0x400000)], rw := 0x3 },
  { base := 0x1009004, dims := [(4, 0x400000)], w1c := 0xf00 }]

/-- Register rows, part 26. -/
def regRows26 : List RegRow := [
  { base := 0x1009008, dims := [(4, 0x400000), (2, 0x4)], rwl := 0xffffffc0, lock := .mapBank },
  { base := 0x1009010, dims := [(4, 0x400000)] },
  { base := 0x1009014, dims := [(4, 0x400000)] },
  { base := 0x1009018, dims := [(4, 0x400000)] },
  { base := 0x100901c, dims := [(4, 0x400000)] },
  { base := 0x1009020, dims := [(4, 0x400000)], ctr := [(0, 16)] },
  { base := 0x1009024, dims := [(4, 0x400000)] },
  { base := 0x1009028, dims := [(4, 0x400000)] },
  { base := 0x100a000, dims := [(4, 0x400000)], wo := true },
  { base := 0x100a004, dims := [(4, 0x400000)] }]

/-- Register rows, part 27. -/
def regRows27 : List RegRow := [
  { base := 0x100a008, dims := [(4, 0x400000)], w1c := 0x3f },
  { base := 0x100a00c, dims := [(4, 0x400000)] },
  { base := 0x100a010, dims := [(4, 0x400000)] },
  { base := 0x100a014, dims := [(4, 0x400000)], ctr := [(0, 32)] },
  { base := 0x100a018, dims := [(4, 0x400000)] },
  { base := 0x100a01c, dims := [(4, 0x400000)] },
  { base := 0x100a020, dims := [(4, 0x400000)] },
  { base := 0x100a024, dims := [(4, 0x400000)] },
  { base := 0x100a028, dims := [(4, 0x400000)], ctr := [(0, 16), (16, 16)] },
  { base := 0x100b000, dims := [(4, 0x400000)], reset := 0x1003e8, rw := 0xffffffff }]

/-- Register rows, part 28. -/
def regRows28 : List RegRow := [
  { base := 0x100b004, dims := [(4, 0x400000)], reset := 0x2, rw := 0xf },
  { base := 0x100b008, dims := [(4, 0x400000)] },
  { base := 0x100b100, dims := [(4, 0x400000), (4, 0x40)], reset := 0xc, rw := 0xc, wo := true },
  { base := 0x100b104, dims := [(4, 0x400000), (4, 0x40)], rwl := 0x3ff, lock := .link },
  { base := 0x100b108, dims := [(4, 0x400000), (4, 0x40)], reset := 0x6000000 },
  { base := 0x100b10c, dims := [(4, 0x400000), (4, 0x40)], reset := 0x2c688, rwl := 0x3ffff, lock := .link },
  { base := 0x100b110, dims := [(4, 0x400000), (4, 0x40)], w1c := 0x1ff },
  { base := 0x100b114, dims := [(4, 0x400000), (4, 0x40)] },
  { base := 0x100b118, dims := [(4, 0x400000), (4, 0x40)], ctr := [(0, 32)] },
  { base := 0x100b11c, dims := [(4, 0x400000), (4, 0x40)], ctr := [(0, 32)] },
  { base := 0x100b120, dims := [(4, 0x400000), (4, 0x40), (7, 0x4)] }]

/-- Register rows, part 29. -/
def regRows29 : List RegRow := [
  { base := 0x100c000, dims := [(4, 0x400000)], wo := true },
  { base := 0x100c004, dims := [(4, 0x400000)], rw := 0x3f },
  { base := 0x100c008, dims := [(4, 0x400000)], rw := 0xff },
  { base := 0x100c00c, dims := [(4, 0x400000)], w1c := 0x6 },
  { base := 0x100c010, dims := [(4, 0x400000)], rw := 0xffffffff },
  { base := 0x100c014, dims := [(4, 0x400000)], reset := 0x80000000, rw := 0x8000ffff },
  { base := 0x100c018, dims := [(4, 0x400000)], rw := 0xffffffff },
  { base := 0x100c020, dims := [(4, 0x400000)], rw := 0xffffffff },
  { base := 0x100c024, dims := [(4, 0x400000)], rw := 0xf7fff },
  { base := 0x100c028, dims := [(4, 0x400000)], rw := 0xffffffff }]

/-- Register rows, part 30. -/
def regRows30 : List RegRow := [
  { base := 0x100c030, dims := [(4, 0x400000)], rw := 0xffffffff },
  { base := 0x100c034, dims := [(4, 0x400000)], rw := 0xf7fff },
  { base := 0x100c038, dims := [(4, 0x400000)], rw := 0xffffffff },
  { base := 0x100c040, dims := [(4, 0x400000)], rw := 0xffffffff },
  { base := 0x100c044, dims := [(4, 0x400000)], rw := 0xffffffff },
  { base := 0x100c048, dims := [(4, 0x400000)], rw := 0xffffffff },
  { base := 0x100c04c, dims := [(4, 0x400000)], rw := 0xffffffff },
  { base := 0x100c050, dims := [(4, 0x400000)], rw := 0x707 },
  { base := 0x100c100, dims := [(4, 0x400000), (64, 0x4)], rw := 0xffffffff },
  { base := 0x100d000, dims := [(4, 0x400000)], wo := true }]

/-- Register rows, part 31. -/
def regRows31 : List RegRow := [
  { base := 0x100d004, dims := [(4, 0x400000)], rwl := 0x73f, lock := .memory },
  { base := 0x100d008, dims := [(4, 0x400000)], w1c := 0x3f00 },
  { base := 0x100d00c, dims := [(4, 0x400000)] },
  { base := 0x100d010, dims := [(4, 0x400000)], reset := 0x200f42, rw := 0x331fff },
  { base := 0x100d014, dims := [(4, 0x400000)] },
  { base := 0x100d018, dims := [(4, 0x400000)], wo := true },
  { base := 0x100d01c, dims := [(4, 0x400000)], wo := true },
  { base := 0x100d020, dims := [(4, 0x400000)] },
  { base := 0x100d024, dims := [(4, 0x400000)], ctr := [(0, 16), (16, 16)] },
  { base := 0x100d028, dims := [(4, 0x400000)] }]

/-- Register rows, part 32. -/
def regRows32 : List RegRow := [
  { base := 0x100d030, dims := [(4, 0x400000)] },
  { base := 0x100d034, dims := [(4, 0x400000)] },
  { base := 0x100d038, dims := [(4, 0x400000)] },
  { base := 0x100d03c, dims := [(4, 0x400000)] },
  { base := 0x100e000, dims := [(4, 0x400000)], wo := true },
  { base := 0x100e004, dims := [(4, 0x400000)], rw := 0x1 },
  { base := 0x100e008, dims := [(4, 0x400000)], rw := 0xffff0033 },
  { base := 0x100e00c, dims := [(4, 0x400000)], w1c := 0xc },
  { base := 0x100e010, dims := [(4, 0x400000)], rw := 0xfffff000 },
  { base := 0x100e014, dims := [(4, 0x400000)], reset := 0x7334, rw := 0xffff }]

/-- Register rows, part 33. -/
def regRows33 : List RegRow := [
  { base := 0x100e018, dims := [(4, 0x400000)] },
  { base := 0x100e01c, dims := [(4, 0x400000)] },
  { base := 0x100e040, dims := [(4, 0x400000), (9, 0x4)] },
  { base := 0x100e080, dims := [(4, 0x400000), (9, 0x4)] },
  { base := 0x100e100, dims := [(4, 0x400000), (4, 0x20)], reset := 0x40404040, rw := 0x7f7f7f7f },
  { base := 0x100e104, dims := [(4, 0x400000), (4, 0x20)], reset := 0x40404040, rw := 0x7f7f7f7f },
  { base := 0x100e108, dims := [(4, 0x400000), (4, 0x20)], reset := 0x40404040, rw := 0x7f7f7f7f },
  { base := 0x100e10c, dims := [(4, 0x400000), (4, 0x20)], reset := 0x40404040, rw := 0x7f7f7f7f },
  { base := 0x100e110, dims := [(4, 0x400000), (4, 0x20)], reset := 0x404040, rw := 0x7f7f7f },
  { base := 0x100f000, dims := [(4, 0x400000)], reset := 0x3, rw := 0x1f }]

/-- Register rows, part 34. -/
def regRows34 : List RegRow := [
  { base := 0x100f100, dims := [(4, 0x400000), (16, 0x4)] },
  { base := 0x1100000, dims := [(4, 0x400000), (18, 0x4000), (2, 0x2000), (3, 0x800), (512, 0x4)], rw := 0xffffffff },
  { base := 0x1180000, dims := [(4, 0x400000), (2, 0x8000), (3, 0x2000), (2048, 0x4)], rw := 0x3ff03ff }]

/-- The part in which a register at address `k` would stand; the four quadrants' registers stand there as quadrant 0's.
-/
def regPart (k : Nat) : List RegRow :=
  if k < 0x100008 then
    if k < 0x70014 then
      if k < 0x10308 then
        if k < 0x10048 then
          if k < 0x10014 then
            regRows0
          else
            regRows1
        else
          if k < 0x10184 then
            regRows2
          else
            regRows3
      else
        if k < 0x20800 then
          if k < 0x12000 then
            regRows4
          else
            regRows5
        else
          if k < 0x6001c then
            regRows6
          else
            regRows7
    else
      if k < 0xb0020 then
        if k < 0xa001c then
          if k < 0x80200 then
            regRows8
          else
            regRows9
        else
          if k < 0xa0114 then
            regRows10
          else
            regRows11
      else
        if k < 0xd0000 then
          if k < 0xb0400 then
            regRows12
          else
            regRows13
        else
          if k < 0xe0100 then
            regRows14
          else
            if k < 0xe4000 then
              regRows15
            else
              regRows16
  else
    if k < 0x1009008 then
      if k < 0x130020 then
        if k < 0x110100 then
          if k < 0x110010 then
            regRows17
          else
            regRows18
        else
          if k < 0x120024 then
            regRows19
          else
            regRows20
      else
        if k < 0x1005008 then
          if k < 0x600000 then
            regRows21
          else
            regRows22
        else
          if k < 0x1007018 then
            regRows23
          else
            if k < 0x1008100 then
              regRows24
            else
              regRows25
    else
      if k < 0x100c030 then
        if k < 0x100b004 then
          if k < 0x100a008 then
            regRows26
          else
            regRows27
        else
          if k < 0x100c000 then
            regRows28
          else
            regRows29
      else
        if k < 0x100d030 then
          if k < 0x100d004 then
            regRows30
          else
            regRows31
        else
          if k < 0x100e018 then
            regRows32
          else
            if k < 0x100f100 then
              regRows33
            else
              regRows34

/-- The row of the register index tables that covers address `a`. -/
def regRow (a : Nat) : Option RegRow :=
  (regPart (if a < 0x1000000 then a else 0x1000000 + a % 0x400000)).find? fun r => r.covers a

end Sys2Proof.Machine
end

