-- ==== Sys2Proof/Machine/State.lean ====
section
/-!
DEFINITION. Sys2Proof/Machine/State.lean: what the device holds, as plain data, and its state right after
power-on reset. Every register of the register index tables is one word of `regs` at its byte address; what no
register holds (queues, memories, the sequencers, the engines' own progress, the stores of the root of trust) is
a field of its own. Where a register only reports such a field, `readReg` computes it.
-/

namespace Sys2Proof.Machine

/-- Why a step can fail. No rule of the spec stops the device with a fault of this kind: a sequencer's fault
(R91), a refused write or a broken flow is the next state. Nothing raises it; safe. -/
inductive Fault where
deriving DecidableEq, Repr

/-- Why a command has no meaning. -/
inductive Refusal where
  /-- The command is not modelled yet; raised by its arm of `exec` alone. Safe: it only stops. -/
  | notModelled (mnemonic : String)
deriving DecidableEq, Repr

/-! ## Sequencers -/

/-- A time register: 64-bit seconds and nanoseconds from 0 to 999,999,999 (R64, R109). -/
structure TimeVal where
  sec : BitVec 64 := 0
  ns  : BitVec 32 := 0
deriving DecidableEq, Repr

/-- One entry of an event queue (R83). -/
structure EvEntry where
  source : Byte := 0
  code   : Byte := 0
  late   : Bool := false
  data   : Word := 0
  secLo  : Word := 0
  ns     : Word := 0
  born   : Option Nat := Option.none     -- the core cycle in which it was pushed (R108)
deriving DecidableEq, Repr

/-- Sequencer states (R87), in the order of their codes. -/
inductive SeqRun where | halted | ready | running | waiting | stalled | faulted
deriving DecidableEq, Repr

/-- Codes of the Sequencer faults table (R91). -/
inductive SeqFault where | illegalOp | dmemAlign | access | stack | whistle | imemParity
deriving DecidableEq, Repr

/-- The target of WAIT.L and ARM.L: unresolved while no valid cadence exists, else frame k and line n (R77). -/
inductive LineTarget where
  | unresolved (g : Word) (n : Int)
  | line (k : Int) (n : Int)
deriving DecidableEq, Repr

/-- What an armed alarm waits for (R80). `free` is an alarm armed further in the past than 2^31 ns (U11): it comes
due at a free instant, or never. -/
inductive AlarmTarget where
  | time (t : TimeVal)
  | line (l : LineTarget)
  | free (due : Option Nat) (late : Bool)
deriving DecidableEq, Repr

/-- Where the data of a read in flight goes (R102, R106, R107, R108). -/
inductive ReadDest where
  | gen (g : GReg)
  | popQ (g : GReg)
  | time (t : TReg)
  | rmw (mask val : Word)
deriving DecidableEq, Repr

/-- Why a sequencer is WAITING or STALLED (WAIT_KIND of SEQs_STATUS). -/
inductive SeqBusy where
  | none
  | waitT (t : TimeVal)
  | waitL (l : LineTarget)
  | waitE
  | fence (k : Int) (mask : BitVec 16) (t : TimeVal)
  | go (a : Nat) (v : Word) (since : Nat) (dogged : Bool)
  | held (a : Nat) (since : Nat) (dogged : Bool)
  | fetch
  | refetch (since : Nat) (again : Bool)
  | read (a : Nat) (d : ReadDest)
deriving DecidableEq, Repr

/-- One entry of the posted-write buffer: a write, the three writes of a TWR, or the write half of an RMW with its mask,
which is merged with what the register holds as it takes effect (R103, R106, R107). -/
structure Posted where
  addr : Nat
  vals : List Word
  mask : Option Word := Option.none
deriving DecidableEq, Repr

/-- A Porow sequencer (R64). -/
structure Seq where
  run    : SeqRun := .halted
  pc     : BitVec 15 := 0
  entry  : BitVec 15 := 0
  fault  : Option (SeqFault × BitVec 15) := Option.none
  g      : Vector Word 16 := Vector.replicate 16 0
  t      : Vector TimeVal 4 := Vector.replicate 4 {}
  p      : Bool := false
  stack  : List (BitVec 15) := []
  alarms : Vector (Option AlarmTarget) 8 := Vector.replicate 8 Option.none
  queue  : List EvEntry := []
  lost   : List EvEntry := []                  -- entries that a full queue discarded in the core cycle of the last of them (R81)
  last   : EvEntry := {}
  posted : List Posted := []
  busy   : SeqBusy := .none
  haltReq : Bool := false                      -- a HALT that waits for the instruction boundary (R87)
  imem   : Sparse IWord := []
  dmem   : Sparse Word := []
  hot    : List (Nat × Nat) := []              -- the address ranges HOT segments are being written to (R90)
deriving DecidableEq, Repr

/-! ## Wall time -/

/-- A PTP domain slot (R33): offsets in units of 2^-16 ns, frequency in units of 2^-28 ppb. -/
structure PtpSlot where
  offset    : Option Int := Option.none
  sum       : Int := 0
  adj       : Int := 0
  adjHist   : List Int := []             -- the last 64 adjustments, newest first (R52)
  small     : Nat := 0                   -- consecutive samples inside LOCK_NS (R41)
  locked    : Bool := false
  lockedAt  : Nat := 0                   -- core cycle at which it became locked (R46)
  lastSync  : Nat := 0                   -- core cycle of the last valid Sync, or of the rise of ENABLE (R42)
  synced    : Bool := false              -- a valid Sync has come since the slot last timed out
  timedOut  : Bool := false
  lastSeq   : Option (BitVec 16) := Option.none                   -- sequenceId of the last Sync taken (PORT_SEL 2)
  track     : Option Int := Option.none  -- slot time minus wall time as its servo follows it, units of 2^-48 ns
  mpd       : Option Int := Option.none
  twoStep   : Option (BitVec 16 × Int × Int) := Option.none       -- seq, stamp, correction of a two-step Sync
  lastSyncT : Option (Int × Int) := Option.none                  -- t1 with corrections, t2 of the last Sync
  pdelay    : Option (BitVec 16 × Int × Int × Int) := Option.none -- seq, t1, t2, t4 of a two-step Pdelay_Resp
  reqSeq    : BitVec 16 := 0                                      -- sequenceId of its next Delay_Req or Pdelay_Req (R36)
  reqSent   : Option (BitVec 16 × Int) := Option.none             -- seq and transmit stamp of the last one sent (R31)
  keys      : List (Word × BitVec 256) := []                      -- keyID and HMAC key, the newest first (R39, R433)
deriving DecidableEq, Repr

/-- When an armed timed-event slot comes due: at its target registers' time, or (U11) at a free instant or never. -/
inductive EvtDue where
  | target
  | free (due : Option Nat)
deriving DecidableEq, Repr

/-- What a timed-event slot holds beside its registers (R57, R559). -/
structure EvtSlot where
  due      : EvtDue := .target
  armedAt  : Nat := 0                      -- wall time of the arming instant
  pulseEnd : Option Nat := Option.none     -- wall time at which the pulse ends
  pulseTarget : Fin 18 := 0                -- the target that the pulse drives low at its end
  lateTo   : Option Int := Option.none     -- 2^-16 ns: the instant up to which targets were passed before it could fire
  noScan   : Bool := false                 -- armed while no valid cadence existed: it starts no scan (R240)
deriving DecidableEq, Repr

/-- One captured edge (R61): the stamp in units of 2^-16 ns. -/
structure CapEntry where
  stamp  : Nat := 0
  src    : Nat := 0
  rising : Bool := false
  born   : Option Nat := Option.none     -- the core cycle in which it was pushed (R126)
deriving DecidableEq, Repr

/-- The last edge placed on a TGPIO pin (R59). -/
structure PinEdge where
  at_   : Nat
  slot  : Nat
  level : Bool
deriving DecidableEq, Repr

/-- The wall-time unit beside its registers. `wall` counts units of 2^-48 ns since SEC 0; `cycle` counts core
cycles. -/
structure WallUnit where
  wall     : Nat := 0
  cycle    : Nat := 0
  slots    : Vector PtpSlot 2 := Vector.replicate 2 {}
  dHeld    : Int := 0                          -- D_held, units of 2^-48 ns (R47)
  dFilt    : Option Int := Option.none         -- filtered D, units of 2^-16 ns
  holdAdj  : Int := 0                          -- adjustment held through holdover (R52)
  hoCycles : Nat := 0                          -- core cycles in HOLDOVER and EXPIRED
  valid    : Vector Int 16 := Vector.replicate 16 0 -- the last valid reading of each sensor, 1/16 °C (R457)
  hoTemp   : Int := 0                          -- what the holdover compensation read at the end of the last round (R457)
  stuck    : Bool := false                     -- STEP_NEEDED has been set since SERVO_EN was last 0 (R44)
  snapAt   : Option (Nat × Nat) := Option.none -- a snapshot in progress: its wall time and the cycle of the write
  evts     : Vector EvtSlot 32 := Vector.replicate 32 {}
  capFifo  : List CapEntry := []
  capLast  : CapEntry := {}
  capPrev  : Vector (Option Int) 22 := Vector.replicate 22 Option.none -- stamp of the last captured edge of a source
  edges    : Vector (Option PinEdge) 16 := Vector.replicate 16 Option.none
deriving DecidableEq, Repr

/-! ## Scan -/

/-- Scan states (R239), in the order of their codes. -/
inductive ScanRun where | stopped | armed | running | stopping
deriving DecidableEq, Repr

/-- A quadrant's scan engine beside its registers. -/
structure ScanUnit where
  run : ScanRun := .stopped
  k0  : Option Int := Option.none   -- the start frame of an ARMED quadrant (R240)
  stopNext : Bool := false          -- STOP was written at the instant of the latch that is due: the next one stops it (R242)
  aborted : Option Int := Option.none -- the last frame the quadrant aborted (R247)
  te      : Option Int := Option.none -- the next frame whose PNL_TE edge is judged (R248)
  minLead : Nat := 63                 -- the smallest lead at a line start of the frame in progress (R132)
  leadLow : Option Int := Option.none -- the frame in which LEAD_LOW was last pushed
deriving DecidableEq, Repr

/-- The band selector beside its registers (R250 to R257). -/
structure EmwUnit where
  reports  : List Int := []                  -- valid temperature reports since the last latch instant, 2^-4 °C
  temp     : Option Int := Option.none       -- T, once it has been valid
  chosen   : Bool := false                   -- a band has been chosen from T
  missed   : Nat := 0                        -- consecutive latches without a valid report
  told     : Bool := false                   -- TEMP_LOST has been raised for them
deriving DecidableEq, Repr

/-! ## Network ports -/

/-- Where a reply goes: the flow, and the port, addresses and encapsulation of the request (R306). -/
structure ReplyTo where
  flow  : Nat
  port  : PortId
  mac   : BitVec 48          -- who sent the request
  own   : BitVec 48          -- the address it was sent to
  encap : Encap
deriving DecidableEq, Repr

/-- A message of the management transmit queue (R113, R306, R307): to the event flow, or a reply; `rekey` marks the
reply after which its session sends under its new key (R432). -/
structure HostMsg where
  dest    : Option ReplyTo
  bytes : List Byte
  rekey : Bool := false
deriving DecidableEq, Repr

/-- How a Rekin packet is sent: with EtherType 0x88B5, or as a UDP datagram with its addresses and ports (R306, R307). -/
inductive MsgVia where
  | raw
  | udp4 (src dst : BitVec 32) (sport dport : BitVec 16)
  | udp6 (src dst : BitVec 128) (sport dport : BitVec 16)
deriving DecidableEq, Repr

/-- A frame that the device sends. A management message is its sealed Rekin packet; a resolution reply carries the
address resolved and the port's own MAC address; a PTP event message of the device's own carries what it writes on the
fly: its origin time-stamp, or the correctionField with the turnaround (R36, R37, R298, R306). -/
inductive NetTx where
  | message (port : PortId) (src dst : BitVec 48) (via : MsgVia) (packet : List Byte)
  | resolution (port : PortId) (v6 : Bool) (src dst : BitVec 48) (target : BitVec 128)
  | forward (port : PortId) (frame : NetFrame)
  | ptpForward (port : PortId) (frame : NetFrame) (corrField : BitVec 64) (cksum : BitVec 16)
  | delayReq (port : PortId) (slot : Fin 2) (domain : Byte) (seq : BitVec 16) (origin : Int)
  | pdelayReq (port : PortId) (slot : Fin 2) (domain : Byte) (seq : BitVec 16) (origin : Int)
  | pdelayResp (port : PortId) (domain : Byte) (seq : BitVec 16) (clockId : BitVec 64) (portNum : BitVec 16)
      (corrField : BitVec 64)
deriving DecidableEq, Repr

/-- What waits in a port's transmitter (R303): a frame that is complete, or one that takes its time-stamp as it is sent.
`ptpForward` carries the ingress stamp, `pdelayResp` the receipt stamp. -/
inductive TxWait where
  | ready (t : NetTx)
  | ptpForward (frame : NetFrame) (corrField : BitVec 64) (cksum : BitVec 16) (ingress : Int)
  | request (slot : Fin 2)
  | pdelayResp (domain : Byte) (seq : BitVec 16) (clockId : BitVec 64) (portNum : BitVec 16) (corrField : BitVec 64)
      (receipt : Int)
deriving DecidableEq, Repr

/-- A frame that waits for its port: its class of R303, 1 to 3, its length, whether it lies in a forwarding buffer. -/
structure TxItem where
  cls  : Nat
  len  : Nat
  fwd  : Bool := false
  what : TxWait
deriving DecidableEq, Repr

/-- A port's transmitter (R303): what waits, the core cycle at which the frame in transmission ends, and the bytes of it
that lie in the forwarding buffer. -/
structure TxPort where
  queue : List TxItem := []
  busy  : Nat := 0
  fwd   : Nat := 0
deriving DecidableEq, Repr

/-- An allocated receive buffer: a PTP message, or the request a program message makes (R308). -/
structure MrxBuf where
  reply  : Option ReplyTo
  opcode : Byte
  tag    : Word
deriving DecidableEq, Repr

/-- The ports beside their registers. -/
structure NetUnit where
  mtx  : List HostMsg := []
  tx   : Vector TxPort 2 := Vector.replicate 2 {}
  mrx  : Vector (Option MrxBuf) 32 := Vector.replicate 32 Option.none
  sent : List NetTx := []          -- newest first
deriving DecidableEq, Repr

/-! ## Pins and the thermal round -/

/-- Levels at the balls that the device reads, and the timed outputs that no register holds. -/
structure PinUnit where
  gpioIn  : BitVec 16 := 0                                      -- levels the board drives on TGPIO inputs
  camTrig : Vector Bool 2 := Vector.replicate 2 false           -- CAM_TRIG[1:0] (R369)
  trigAt  : Vector (Option Nat) 2 := Vector.replicate 2 Option.none -- time of the last firing since the last Frame Start (R370)
  muzzleLow : Bool := false                                     -- the board pulls PNL_MUZZLE_N low (R259)
  gpioOpen  : BitVec 16 := 0                                    -- TGPIO balls that the board leaves undriven (R533)
  sleepN    : Bool := true                                      -- PWR_SLEEP_N (R501, R534)
  sramEn    : Bool := true                                      -- PWR_SRAM_EN (R501, R534)
deriving DecidableEq, Repr

/-- The thermal unit beside its registers (R449 to R460). -/
structure RoundUnit where
  since : Nat := 0        -- core cycle at which the round started
  again : Bool := false   -- a further round was requested in this one
  period : Nat := 1000    -- PERIOD_US as the last slot took it (R449)
  slotAt : Nat := 0       -- wall time, in ns, after which the next slot lies
  levels : Word × Word × Word := (0x00300640, 0x003006C0, 0x00A00780) -- THM_WARN, THM_THROT, THM_SHUT of the round (R455)
  warn  : Bool := false   -- levels that are entered (R453)
  throt : Bool := false
  shut  : Bool := false
  n     : Nat := 0        -- the throttle loop's count (R456)
  rounds : Nat := 0       -- rounds ended
  clampAt : Option Nat := Option.none -- the round of the last AVS_CLAMP event (R460)
  endedAt : Option Nat := Option.none -- core cycle of the last round's end (R459)
  vcoAt : Vector (Option Int) 2 := Vector.replicate 2 Option.none -- the latch after which the PLLs of a row last stepped (R459)
  carried : Bool := false -- a reset kept the thermal source of Muzzle, and no round since has judged it (R496)
deriving DecidableEq, Repr

/-! ## TPL and Kennel -/

/-- The commands of a CMD packet (the TPL commands table). -/
inductive TplCmd where
  | poll
  | stay
  | swap (lane pair line : Nat)
  | free (pair : Nat)
  | rate (ver rate : Nat)
deriving DecidableEq, Repr

/-- A packet of the panel link (R272): TYPE, DEST, LINE, FRAME modulo 256, LANE, and the payload before padding. -/
structure TplPacket where
  typ     : Nat
  dest    : Nat
  line    : Nat
  frame   : Nat
  lane    : Nat
  payload : List Byte
deriving DecidableEq, Repr

/-- What pairs of a lane group have carried: a packet, on the pairs that carry its lane, or ALIGN on a pair, with TPL2's
coding or TPL1's; `seed` is what the scrambler, or the running disparity in its bit 0, holds before it. -/
inductive TplTx where
  | packet (pairs : List Nat) (tpl2 : Bool) (seed : BitVec 58) (p : TplPacket)
  | align (pair : Nat) (tpl2 : Bool) (seed : BitVec 58) (counter : Nat)
deriving DecidableEq, Repr

/-- What a lane group does with its free pair (R284, R285): a step of the rotation, or a swap after LANE_FAIL
(`fail`), which moves logical lane `lane` from pair `old` to pair `new`; `step` counts the lines sent on both. -/
inductive TplRot where
  | none
  | align (lane old new since : Nat) (fail : Bool)
  | duplicate (lane old new line step : Nat) (fail : Bool)
  | dwell (pair since errors : Nat) (fail : Bool)
deriving DecidableEq, Repr

/-- What a CDIC reported in CAPS (R277). -/
structure CdicCaps where
  verMax  : Nat
  rateMax : Nat
  colsMax : Nat
deriving DecidableEq, Repr

/-- A lane group beside its registers. -/
structure TplGroup where
  since : Nat := 0                                    -- core cycle at which the stage was entered
  rate  : Nat := 20                                   -- the target lane rate, units of 0.125 Gb/s (R280)
  down  : Bool := false                               -- FAILED by LINK_DOWN (R279)
  caps  : Vector (Option CdicCaps) 6 := Vector.replicate 6 Option.none
  rot   : TplRot := .none
  holds : Bool := true                                -- sends HOLD until its next FRAME_START (R281)
  stay  : Vector Bool 6 := Vector.replicate 6 false   -- CDICs that reported STAY = 1 (R289)
  cmds  : List (Nat × TplCmd) := []                   -- commands, with DEST, that wait for a slot with room (R274)
  sent  : List TplTx := []                            -- newest first
deriving DecidableEq, Repr

/-- Kennel beside its registers. -/
structure KennelUnit where
  black   : Bool := false   -- SCAN_KENNEL_CFG.MODE as sampled at entry (R263)
  leaving : Bool := false   -- the reload of R481 is in progress
deriving DecidableEq, Repr

/-! ## Self-test -/

/-- The BIST controller beside its registers. -/
structure BistUnit where
  retest  : List Nat := []                     -- slices that wait for a retest, the oldest first (R472, R475)
  seen    : List Nat := []                     -- slices that have shown one run-time error in this pass (R475)
  cur     : Option (Nat × Bool) := Option.none -- the slice under test, and whether it is a retest
  since   : Nat := 0                           -- core cycle of that test's slot (R470)
  slotAt  : Nat := 0                           -- wall time of the last slot outside a scan (R468)
  lastSlot : Option (Int × Nat) := Option.none -- the last slot (k, m) of a scan
  spares  : List (Nat × Nat × Nat) := []       -- the soft repair table: slice, row, spare (R472)
  fuses   : List (Nat × Nat × Nat) := []       -- the hard repair entries (R473)
  weak    : List (Nat × Nat) := []             -- rows that have failed March C−: slice, row
  stopped : Bool := false                      -- an unrepairable slice ended periodic testing (R472)
deriving DecidableEq, Repr

/-! ## Frames -/

/-- The instants of the cadence that the device has already passed through. -/
structure FrameUnit where
  latch : Option Int := Option.none          -- the last k whose latch was taken (R20)
  line  : Option (Int × Nat) := Option.none  -- the last line start (R244)
  from_ : Int := 0                           -- wall time of the last write to the cadence, units of 2^-16 ns
  keep  : List (Nat × Word) := []            -- shadow words as they were at a latch instant whose latch is yet to be taken (R21)
deriving DecidableEq, Repr

/-! ## DRAM -/

/-- A word as a read returned it to its requester (R388, R400). -/
structure DramWord where
  addr   : Nat
  marked : Bool
  bytes  : List Byte
deriving DecidableEq, Repr

/-- A read in the read queue with what it will return (R388): whether the write queue forwards it (R389). -/
structure DramRead where
  word : DramWord
  fwd  : Bool
deriving DecidableEq, Repr

/-- The single writes of a core cycle: the cycle, each write's word, requester and bytes in the order in which they were
taken, and what the words read as before it (R391). -/
structure DramCycle where
  cycle  : Nat := 0
  writes : List (Nat × Nat × Nat) := []
  before : List (Nat × Bool × List Byte) := []
deriving DecidableEq, Repr

/-- What interrupts a quadrant's DRAM traffic for calibration: a hold asked for or open, or a sweep as CAL_CFG and
CAL_SCRATCH described it, with the core cycle since which (R406, R407). -/
inductive CalRun where
  | none
  | asked
  | hold (since : Nat)
  | sweep (since lane kind limit scratch : Nat)
deriving DecidableEq, Repr

/-- A quadrant's DRAM controller beside its registers, and its devices. -/
structure DramUnit where
  mem     : Sparse Byte := []                   -- the devices' bytes by address
  written : List Nat := []                      -- words written since the devices were powered up (R399)
  zeroed  : Bool := false                       -- every word was zeroed at INIT (R386)
  damaged : List Nat := []                      -- words whose check bytes fail (R399)
  stale   : List Nat := []                      -- words written, or their check bytes overwritten, without check bytes (R398)
  wq      : List (Nat × Bool) := []             -- queued writes, the oldest first: the word, all bytes enabled
  rq      : List DramRead := []                 -- the read queue, the oldest first (R388)
  drain   : Bool := false                       -- writes go ahead of reads (R121)
  freeAt  : Nat := 0                            -- core cycle from which the devices take the next transfer
  now     : DramCycle := {}
  mNew    : Option Nat := Option.none           -- the code of M from the next slot on (R393)
  mrw     : List (Nat × Nat × Nat) := []        -- queued mode-register writes: MA, OP, CH (R396)
  mr      : List (Nat × Nat × Nat) := []        -- those performed, the newest first: channel, MA, OP
  mrr     : Option (Nat × Nat) := Option.none   -- a mode-register read asked for: MA, channel
  acc     : Nat := 0                            -- the refresh accumulator, units of 2^-16 ns (R392)
  accAt   : Nat := 0                            -- wall time up to which it has counted, same units
  lastSlot : Nat := 0                           -- the last slot's instant, same units
  units   : Nat := 0                            -- refresh units issued on each channel
  rd      : Nat := 0                            -- words read and written, reads forwarded and waited for this frame (R401)
  wr      : Nat := 0
  fwd     : Nat := 0
  waited  : Nat := 0
  told    : Option Nat := Option.none           -- the frame in which an UNCORR event was last pushed (R399)
  since   : Nat := 0                            -- core cycle at which INIT, or RESUME, was taken
  resuming : Bool := false
  logAge  : List Nat := []                      -- entries of the error log, the oldest first (R478)
  logTold : List Nat := []                      -- entries whose DLOG event has been pushed
  cal     : CalRun := .none
  mr4     : Option (Mr4 × Mr4) := Option.none -- an MR4 sample that waits for an interruption to end (R409)
  u05     : List Nat := []                      -- delay and reference registers written outside a window (case U05)
  out     : Option DramWord := Option.none      -- the last word returned to DRAM_READ_REQUEST's requester
deriving DecidableEq, Repr

/-! ## Geometry -/

/-- A geometry load: its source as sampled at GO, the records it copies, how many are in the table, those that no quadrant
has read since, and the latest frame in which one was first read (R145, R146). -/
structure GeoLoad where
  src    : Nat
  quad   : Fin 4
  first  : Nat
  count  : Nat
  placed : Nat := 0
  unread : List (Nat × Nat) := []
  frame  : Option Int := Option.none
deriving DecidableEq, Repr

/-- The geometry unit beside its registers: each master's holding register (0 to 4 the sequencers, 5 the host, 6
the board port), and the load. -/
structure GeoUnit where
  hold : Vector (Option (Nat × Word)) 7 := Vector.replicate 7 Option.none
  load : Option GeoLoad := Option.none
  bad  : List Nat := []                   -- records that read with a parity error until they are rewritten (R147)
deriving DecidableEq, Repr

/-! ## Sessions -/

/-- The keys of a session under one KEY_PHASE: 32 bytes of key and 4 of salt for each direction (R431). -/
structure KeySet where
  rx : BitVec 288
  tx : BitVec 288
deriving DecidableEq, Repr

/-- A transfer that is being assembled (R436): fragments by offset, the end once LAST has arrived. -/
structure Transfer where
  id    : Nat
  frags : List (Nat × List Byte) := []
  last  : Option Nat := Option.none
  since : Nat := 0                       -- core cycle of the last fragment
deriving DecidableEq, Repr

/-- A session (R430 to R437). -/
structure Session where
  open_     : Bool := false
  subject   : BitVec 64 := 0
  stamp     : Nat := 0                                             -- TIMESTAMP of the request
  authority : Nat := 0
  keys      : Vector (Option KeySet) 2 := Vector.replicate 2 Option.none -- by KEY_PHASE
  ratchet   : BitVec 384 := 0
  phase     : Fin 2 := 0                                           -- the newest phase
  txPhase   : Fin 2 := 0                                           -- the phase it sends under (R432)
  updates   : Nat := 0
  txSeq     : BitVec 48 := 0                                       -- SEQ of its next packet (R306)
  eraseAt   : Option Nat := Option.none                            -- core cycle at which the old phase is erased (R432)
  th        : BitVec 384 := 0                                      -- the transcript hash (R431)
  xfers     : List Transfer := []
deriving DecidableEq, Repr

/-! ## The root of trust and the board port -/

/-- A segment of a bundle (R425): its sequencer, whether it is for data memory, HOT, its address and contents. -/
structure Segment where
  seq  : SeqId
  data : Bool
  hot  : Bool
  addr : Nat
  body : List Byte
deriving DecidableEq, Repr

/-- What the loader writes of a bundle: its segments in order, and the entry addresses that ENTRY_MASK names. -/
structure Bundle where
  segs    : List Segment
  entries : List (SeqId × Nat)
deriving DecidableEq, Repr

/-- A signed object taken apart (R417). -/
structure SignedObj where
  kind   : Nat
  svn    : Nat
  signer : Nat
  stamp  : Nat
  body   : List Byte
  keys   : List Byte
  ecdsa  : List Byte
  hss    : List Byte
  bytes  : List Byte       -- the whole object
deriving DecidableEq, Repr

/-- A request to the root of trust (R435): where its reply goes, its session, its message, and what its execution
meets: how many leaf fuses read weak (R440), and whether the flash programs and reads back (FLASH_ERR). -/
structure RotReq where
  dest      : ReplyTo
  session : Nat
  opcode  : Nat
  tag     : Word
  body    : List Byte
  weak    : Nat
  flashOk : Bool
deriving DecidableEq, Repr

/-- Who handed an object over: a SUBMIT, or the board port's TOKEN_SUBMIT. -/
inductive RotBy where
  | request (r : RotReq)
  | board
deriving DecidableEq, Repr

/-- The object in work: one that has passed steps 1 to 5 of R418, or a bundle that the loader writes
(R88): the segments it has still to write, and the core cycle at which it began the first of them. -/
inductive RotJob where
  | verified (by_ : RotBy) (o : SignedObj)
  | loading (by_ : RotBy) (o : SignedObj) (b : Bundle) (left : List Segment) (since : Nat)
deriving DecidableEq, Repr

/-- The open bottom tree (R440): its identifier and its seed, both from the DRBG. -/
structure BottomTree where
  id   : List Byte
  seed : Nat
deriving DecidableEq, Repr

/-- The root of trust: the OTP (R416), the boot flash (R422), and what it holds beside the SEC registers. -/
structure RotUnit where
  deviceId   : BitVec 64 := 0
  uniqueKey  : BitVec 256 := 0                                              -- the device-unique key
  vendorHash : Option (BitVec 384) := Option.none                           -- none while unwritten
  idKey      : Option Nat := Option.none                                    -- the private identity key, once unwrapped (R427)
  owners     : Vector (Option (BitVec 384)) 4 := Vector.replicate 4 Option.none
  retired    : Nat := 0                                                     -- slots below it are retired
  svn        : Vector Nat 3 := Vector.replicate 3 0                         -- burned bits: ROT, BUNDLE, OPERATOR
  leaf       : Nat := 0                                                     -- leaf fuses used
  flash      : Sparse Byte := []
  fwSvn      : Nat := 0                                                     -- SVN of the running firmware
  param      : List Byte := []                                              -- the parameter image in use (R523)
  boot       : Option Nat := Option.none                                    -- flash offset of the next boot bundle (R424)
  segs       : List Segment := []                                           -- copies of the segments loaded, oldest first
  bootSegs   : List Segment := []                                           -- those of the boot bundles
  loaded     : List SeqId := []                                             -- sequencers that the bundle in work loads while HALTED or READY (R88)
  challenge  : Option (BitVec 128) := Option.none                           -- the challenge that stands (R445)
  window     : Sparse Byte := []                                            -- the token window (R537)
  queue      : List RotReq := []                                            -- requests that wait, the oldest first (R437)
  job        : Option RotJob := Option.none
  topLeaf    : Nat := 0                                                     -- the leaf that signed the open bottom tree (R440)
  tree       : List Byte := []                                              -- that signature and the tree's public key
  bottom     : Option BottomTree := Option.none
  sent       : Nat := 0                                                     -- the last XFER_ID of a transfer to the host
deriving DecidableEq, Repr

/-- What the board port returned last, its RESULT and the reply data, and the transactions that wait, the oldest first, each
with its command byte before its argument bytes (R537). -/
structure BoardUnit where
  result : Nat := 0
  data   : List Byte := []
  wire   : List (List Byte) := []
deriving DecidableEq, Repr

/-! ## Scene ingress -/

/-- A plane's descriptor as SST_PLANEp_CTRL and its bank bases give it (R168). -/
structure PlaneDesc where
  en     : Bool := false
  fmt    : Nat := 0
  relief : Bool := false
  width  : Nat := 0
  height : Nat := 0
  bank0  : Nat := 0
  bank1  : Nat := 0
deriving DecidableEq, Repr

/-- A plane beside its registers. -/
structure PlaneUnit where
  live    : PlaneDesc := {}
  counted : Option Int := Option.none   -- the frame whose fences are counted (R179)
  arrived : Option Int := Option.none   -- the latest frame whose fence has arrived (R181)
  from_   : Int := 0                    -- the first frame whose latch may flip a PENDING plane (R180)
  due     : Bool := false               -- it flips at the latch that is due, though a later fence has replaced its own (R21)
  flipped : Option Int := Option.none   -- the frame of the last flip (R172)
deriving DecidableEq, Repr

/-- Where a patch's pixels go (R173 to R175). -/
inductive PatchTo where
  | nowhere                                            -- discarded under R173, decoded for its history alone
  | colour (p : Fin 16) (d : PlaneDesc)
  | relief (p : Fin 16) (d : PlaneDesc)
  | dram (d : Fin 32) (n : Fin 4) (base pitch bpp : Nat)
deriving DecidableEq, Repr

/-- An entry of the inflate descriptor queue (R165). -/
structure InflDesc where
  flow  : Nat
  ord   : Nat                   -- its place among all accepted packets
  mode  : Bool                  -- the flow is a streaming flow
  enc   : Nat                   -- ENCODING
  sos   : Bool
  dest    : PatchTo
  x     : Nat
  y     : Nat
  w     : Nat
  h     : Nat
  bytes : List Byte
  bound : Option (Fin 4) := Option.none
  rows  : Nat := 0              -- rows already written when a flip took effect (R171)
deriving DecidableEq, Repr

/-- An inflater (R166): its descriptor, whether decoding has started, the flow whose window is resident with its history
(oldest byte first), and the last 32,768 bytes that flow has produced since the window was loaded. -/
structure Inflater where
  cur      : Option InflDesc := Option.none
  ready    : Bool := false
  resident : Option Nat := Option.none
  win      : List Byte := []
  made     : List Byte := []
  streak   : Nat := 0           -- consecutive Rekin descriptors taken (R332)
deriving DecidableEq, Repr

/-- A packet that awaits its gap, its tag verified (R160). -/
structure HeldPkt where
  flow : Nat
  seq  : BitVec 48
  pkt  : RknMsg
deriving DecidableEq, Repr

/-- An accepted FENCE packet that awaits its flow's earlier packets (R178). -/
structure FencePkt where
  flow  : Nat
  ord   : Nat
  frame : Int
  mask  : BitVec 16
deriving DecidableEq, Repr

/-- The Rekin ingress beside its registers. -/
structure IngUnit where
  planes : Vector PlaneUnit 16 := Vector.replicate 16 {}
  queue  : List InflDesc := []
  infl   : Vector Inflater 4 := Vector.replicate 4 {}
  held   : List HeldPkt := []
  gaps   : List (Nat × Nat) := []      -- flows whose gap timer runs, and the core cycle at which it started
  fences : List FencePkt := []
  buffer : List RknPkt := []           -- scene packets that wait for a credit of the descriptor queue (R118, R165)
  ord    : Nat := 0
  hpos   : Sparse Nat := []            -- a flow's place in its history window, modulo 32,768
  kinds  : Sparse Nat := []            -- DEFLATE encodings a flow has carried since it was reopened: 1, 2 or both as 3 (U08)
  scene  : Sparse Byte := []           -- the scene store
  bad    : List Nat := []              -- its 8-byte words whose check bits fail (R476)
deriving DecidableEq, Repr

/-! ## Neighbour links -/

/-- A neighbour frame (R312): its header's fields and its payload in the clear. -/
structure NbrFrame where
  typ     : BitVec 4            -- 1 STRIP, 2 FENCE, 3 METRIC
  relief  : Bool
  plane   : Byte
  seq     : BitVec 64
  frame   : BitVec 32
  x       : BitVec 16
  y       : BitVec 16
  w       : BitVec 16
  h       : BitVec 16
  count   : BitVec 32
  payload : List Byte
deriving DecidableEq, Repr

/-- What a neighbour port sends (R311, R312): a control block with its bytes 1 to 7, the IDLE or ALIGN blocks of
training and of a wake with the first ALIGN's block counter, or the bytes of a frame. -/
inductive NbrSends where
  | caps (b : List Byte)
  | credit (b : List Byte)
  | sleep
  | idle
  | align (counter : Nat)
  | frame (data : List Byte)
deriving DecidableEq, Repr

/-- A record of what a neighbour port has sent: on which lanes, whether the index of its first block is odd, and the
last 58 bits that each lane's scrambler sent before it (R269, R311). -/
structure NbrTx where
  what  : NbrSends
  lanes : Nat
  odd   : Bool
  seed0 : BitVec 58
  seed1 : BitVec 58
deriving DecidableEq, Repr

/-- A strip that was written (R320): its plane, the core cycle, its frame, the descriptor it was written by, its bytes, and
the scene store with its failing words before it. -/
structure StripIn where
  plane  : Fin 16
  cycle  : Nat
  frame  : NbrFrame
  desc   : PlaneDesc
  bytes  : List Byte
  before : Sparse Byte
  bad    : List Nat
deriving DecidableEq, Repr

/-- An apron strip being sent (R318): the plane's descriptor and bank when its fence arrived, the rectangle, what has
been sent. -/
structure StripSend where
  plane  : Fin 16
  frame  : Int
  desc   : PlaneDesc
  bank   : Nat
  src    : Nat × Nat
  size   : Nat × Nat
  dst    : Nat × Nat
  relief : Bool := false        -- the relief rows are being sent
  row    : Nat := 0             -- the next row
  count  : Nat := 0             -- STRIP frames sent
deriving DecidableEq, Repr

/-- A FENCE frame that awaits its completion (R321). -/
structure NbrFence where
  plane : Fin 16
  frame : Int
  count : Nat
deriving DecidableEq, Repr

/-- A neighbour port beside its registers. -/
structure NbrPort where
  since    : Nat := 0                                 -- core cycle at which the stage was entered
  down     : Bool := false                            -- IDLE since the link went down (R316)
  retrain  : Bool := false                            -- training again at the rate agreed in CAPS (R317)
  idle     : Nat := 0                                 -- core cycle since which there is nothing to send (R324)
  txKey    : Option (BitVec 288) := Option.none       -- key and salt of a direction (R313)
  rxKey    : Option (BitVec 288) := Option.none
  rxOld    : List (BitVec 288 × Nat) := []            -- replaced receive keys, the newest first, and the core cycle of each replacement
  txSeq    : Nat := 0
  rxSeq    : Option Nat := Option.none                -- SEQ of the last accepted frame (R314)
  peerOk   : Nat := 3                                 -- the peer's LANES_OK (R414)
  sends    : List StripSend := []
  fences   : List NbrFence := []
  rows     : List (Nat × Int × Nat) := []             -- STRIP frames written: plane, frame, how many (R321)
  strip    : Option StripIn := Option.none            -- the last strip written (R320)
  launches : List (Nat × Nat) := []                   -- own METRIC frames: low word of SEQ, launch, 2^-16 ns
  metricIn : Option (Nat × Nat) := Option.none        -- the peer's last METRIC: its SEQ, its arrival
  told     : Option Nat := Option.none                -- the frame of the last SKEW event
  sent     : List NbrTx := []                         -- newest first
deriving DecidableEq, Repr

/-! ## DEFLATE engine -/

/-- Who submitted a job (R328, R334). -/
inductive JobBy where
  | sqs
  | host
  | cam (port : Fin 2) (ctx : Fin 4) (set : Fin 2)
deriving DecidableEq, Repr

/-- A job: its eight words in the order of the Job descriptor table, who submitted it, and the core cycle in which it
reached the queue. -/
structure DflJob where
  words : List Word
  by_   : JobBy
  born  : Option Nat := Option.none
deriving DecidableEq, Repr

/-- A completion entry: its four words, and the core cycle in which it was pushed (R126, R346). -/
structure CplEntry where
  words : Word × Word × Word × Word
  born  : Option Nat := Option.none
deriving DecidableEq, Repr

/-- The DEFLATE engine beside its registers. -/
structure DflUnit where
  stageSqs  : List Word := []                                        -- staging banks (R328)
  stageHost : List Word := []
  queue     : List DflJob := []                                      -- oldest first (R330)
  infl      : Vector (Option DflJob) 4 := Vector.replicate 4 Option.none -- jobs that the inflaters run
  defl      : Option DflJob := Option.none                           -- the job that the deflater runs
  contOk    : Bool := false                                          -- CONT = 1 would be accepted (R339)
  win       : List Byte := []                                        -- the program stream context
  adler     : Nat := 1
  zlib      : Bool := false
  cpl       : List CplEntry := []                                    -- completion entries, oldest first
  last      : Word × Word × Word × Word := (0, 0, 0, 0)              -- the entry last popped (R126)
  past      : Bool := false                                          -- case U01: a push past the credit is not yet over
deriving DecidableEq, Repr

/-! ## Power -/

/-- How far Stay entry, or the same steps before a warm reset, has come (R501): the wait of step 1, the wait for the
scan to end, the core cycle at which STAY was sent to the CDICs, the wait for self-refresh. -/
inductive PwrEntry where
  | none
  | waiting
  | stopping
  | cdics (since : Nat)
  | refresh
deriving DecidableEq, Repr

/-- The flow contexts saved at Stay entry (R505): the quadrant and address of the copy, the key drawn for this entry
and the MAC over the copy. -/
structure CtxSave where
  quad : Fin 4
  base : Nat
  key  : List Byte
  mac  : List Byte
deriving DecidableEq, Repr

/-- The power manager beside its registers. -/
structure PowerUnit where
  entry     : PwrEntry := .none
  warm      : Bool := false                     -- the steps lead to a warm reset (R496)
  retain    : Bool := false                     -- RETAIN as it stood at the request (R500)
  woken     : Option Nat := Option.none         -- a wake trigger during entry: its WAKE_SRC (R506)
  since     : Nat := 0                          -- core cycle of the wake
  pnlAt     : Vector (Option Nat) 4 := Vector.replicate 4 Option.none -- core cycle at which a panel supply was enabled, until it times out (R493)
  pgWire    : List (BitVec 4) := []             -- levels of PNL_PG that the board is yet to put on the balls, the next first (R493)
  clkLost   : Bool := false                     -- REFCLK_SYS is lost (R495)
  restoring : Bool := false                     -- the Rekin ingress drops every packet (R505)
  retained  : List (Nat × List Word) := []      -- contexts served in Stay: flow, its eight words (R502)
  saved     : Option CtxSave := Option.none
deriving DecidableEq, Repr

/-! ## Synthesis, composition and maps -/

/-- Three colours and an alpha: a ray's state in unsigned 1.16 (R187), or a sample (R186). -/
structure Light where
  c0 : Nat := 0
  c1 : Nat := 0
  c2 : Nat := 0
  a  : Nat := 0
deriving DecidableEq, Repr

/-- A line being synthesised (R192, R193): its rays in column order, ⌈S/128⌉ + X cycles of work, the core cycle of its
start, whether the fill of R193 precedes it. -/
structure SynLine where
  line  : Nat
  rays  : List Light
  cost  : Nat
  fill  : Bool
  since : Nat
deriving DecidableEq, Repr

/-- A quadrant's ray synthesiser beside its registers (R199). -/
structure SynUnit where
  frame   : Option Int := Option.none   -- the frame being synthesised
  missed  : Option Int := Option.none   -- the frame whose first deadline had passed when its SYN_GO took effect (R75)
  next    : Nat := 0                    -- the next line to start
  recs    : List Nat := []              -- the geometry records of the hogel row in work (R144)
  work    : List SynLine := []          -- lines started and not complete, in order
  doneAt  : Nat := 0                    -- core cycle at which the last line was complete
  samples : Nat := 0                    -- the frame's counters so far
  xstall  : Nat := 0
  maxCost : Nat := 0
  maxLine : Nat := 0
deriving DecidableEq, Repr

/-- A line handed over to composition. -/
structure CmpLine where
  frame : Int
  line  : Nat
  rays  : List Light
deriving DecidableEq, Repr

/-- A line in output staging. -/
structure StagedLine where
  frame : Int
  line  : Nat
  codes : List (BitVec 10)
deriving DecidableEq, Repr

/-- A source row in an overlay line buffer (R212): the code of each pixel that was read, none where it contributes 0. -/
structure OvlRow where
  y  : Nat
  px : List (Nat × Option Nat)
deriving DecidableEq, Repr

/-- A quadrant's composition stage beside its registers. -/
structure CmpUnit where
  commitIn : Option Nat := Option.none                      -- the core cycle in which a COMMIT last completed (R112)
  late   : Bool := false                                    -- a COMMIT completed at the instant of the latch that is due (R21)
  lateOnly : Bool := false                                  -- and PENDING stands for such a COMMIT alone
  frame  : Option Int := Option.none                        -- the frame in composition
  next   : Nat := 0                                         -- its next line
  ready  : List CmpLine := []                               -- lines that wait, the oldest first
  ovl    : Vector (List OvlRow) 2 := Vector.replicate 2 []  -- the overlay line buffers
  staged : List StagedLine := []                            -- output staging, the oldest first
deriving DecidableEq, Repr

/-- A header (part 0) or slice v (part v + 1) of the record of quadrant column `col` of a hogel row, in the map
stream buffer, as a number, least significant byte first; none where it was read with an error. -/
structure MapItem where
  row  : Nat
  part : Nat
  col  : Nat
  data : Option Nat
deriving DecidableEq, Repr

/-- A change of the live map bank at a latch (R232): the core cycle, the frame, and what stood before it: EN, bank, MAP_FRAME,
and whether case U02 held. -/
structure MapFlip where
  cycle : Nat
  frame : Int
  en    : Bool
  bank  : Nat
  word  : Word
  past  : Bool
deriving DecidableEq, Repr

/-- A quadrant's map streamer beside its registers. -/
structure MapUnit where
  frame : Option Int := Option.none     -- the frame being streamed (R26)
  pos   : Nat := 0                      -- how many headers and slices it has fetched, in the order of R228
  items : List MapItem := []            -- the map stream buffer, the oldest first
  dead  : List (Nat × Nat × Nat) := []  -- row, column, first v: emitters uncorrected after an error (R236)
  told  : Bool := false                 -- MAP_ERR has been pushed for this frame
  past  : Bool := false                 -- case U02: the live bank has been written
  flip  : Option MapFlip := Option.none -- the last change of the live bank (R233)
deriving DecidableEq, Repr

/-! ## Block engine -/

/-- A surface of a block operation, resolved when BLT_GO takes effect (R348, R349): in DRAM, or a plane's bank. -/
inductive BltSurf where
  | dram (base pitch : Nat)
  | plane (p : Fin 16) (bank width height : Nat)   -- `bank` the byte address of the bank's colour data
deriving DecidableEq, Repr

/-- A block operation with every parameter as sampled at BLT_GO (R347). -/
structure BltOp where
  bytes  : Nat
  xdir   : Bool
  ydir   : Bool
  rop    : Nat
  w      : Nat
  h      : Nat
  dst    : BltSurf
  dx     : Nat
  dy     : Nat
  src    : BltSurf
  sx     : Nat
  sy     : Nat
  pat    : List Nat          -- the 64 pattern pixels
  orgX   : Nat
  orgY   : Nat
  wmark  : Option Nat
  fence  : Option Word
  rows   : Nat := 0          -- rows written
  u12    : Bool := false     -- case U12
deriving DecidableEq, Repr

/-! ## Cameras -/

/-- A cell of a frame (R371 to R373): the camera triple after step 2, I, the three tone outputs, and whether the cell
is saturated. -/
structure CamCell where
  c   : Nat × Nat × Nat
  ir  : Nat
  t   : Nat × Nat × Nat
  sat : Bool
deriving DecidableEq, Repr

/-- A line in its entry: when its packet ended, as four times the core cycle plus the context, and its 12-bit codes
(R367). -/
structure CamEntry where
  ord : Nat
  px  : List Nat
deriving DecidableEq, Repr

/-- A camera frame from its Frame Start on (R365 to R370). -/
structure CamFrame where
  words   : List Word                -- the context's registers as sampled (R365)
  port    : Fin 2
  number  : Nat                      -- CSI-2 frame number
  stamp   : Nat                      -- capture wall time, units of 2^-16 ns
  trig    : Option Nat               -- trigger wall time
  inProg  : Bool                     -- admitted, and counted in S (R366)
  dropped : Bool                     -- dropped at its Frame Start or under R125
  got     : Nat := 0                 -- lines received
  lines   : List CamEntry := []      -- line entries held, oldest first (R367)
  endOrd  : Option Nat := Option.none -- when it ended, as CamEntry.ord has it
  freed   : Nat := 0                 -- lines released before them
  cells   : List (List CamCell) := [] -- rows of cells processed
  flags   : Nat := 0                 -- the flags of its record (R378)
  seq     : Option Nat := Option.none -- SEQ when its first row was written
  born    : Option (Nat × Nat) := Option.none -- the core cycle of its Frame Start, and CAM_CTXc_STATUS before it (R366)
deriving DecidableEq, Repr

/-- A pipeline context beside its registers. -/
structure CamCtx where
  cur   : Option CamFrame := Option.none
  ended : List CamFrame := []   -- frames past their Frame End and not complete, oldest first
deriving DecidableEq, Repr

/-! ## Calibration of receivers -/

/-- The receiver scan under way (R412): the lane, the core cycle since which it waits for the peer's frames to end
(R414) or scans. -/
structure RxScan where
  lane  : Fin 16
  since : Nat
  runs  : Bool
deriving DecidableEq, Repr

/-! ## The TAP -/

/-- The states of the TAP controller (IEEE 1149.1; R539). PRESUMED, log 208. -/
inductive TapCtl
  | testLogicReset | runTestIdle | selectDr | captureDr | shiftDr | exit1Dr | pauseDr | exit2Dr | updateDr
  | selectIr | captureIr | shiftIr | exit1Ir | pauseIr | exit2Ir | updateIr
deriving DecidableEq, Repr

/-- The instructions of the TAP (R539). -/
inductive TapInstr
  | bypass | idcode | samplePreload | extest | highz | clamp
deriving DecidableEq, Repr

/-- One period of JTAG_TCK: the levels of JTAG_TRST_N, JTAG_TMS and JTAG_TDI, and those at the balls that have a
boundary cell, bit i for cell i (log 200). -/
structure TapClock where
  trstN : Bool
  tms   : Bool
  tdi   : Bool
  balls : BitVec 372
deriving DecidableEq, Repr

/-- The TAP (R539): controller, instruction, the register shifted now, the held boundary levels, JTAG_TDO where it is
driven, and the periods of JTAG_TCK that wait, the oldest first. -/
structure TapUnit where
  ctl    : TapCtl := .testLogicReset
  instr  : TapInstr := .idcode
  shift  : List Bool := []
  held   : BitVec 372 := 0
  tdo    : Option Bool := Option.none
  clocks : List TapClock := []
deriving DecidableEq, Repr

/-! ## The register bus -/

/-- An access of the present core cycle to the register at `addr` (R68): its master's place in the order, whether it came
through Whistle, the value written and the bits that it decides, the word before it, and whether the register's lock was
open after it (R516). -/
structure BusAccess where
  addr    : Nat
  rank    : Nat
  whistle : Bool
  val     : Word
  mask    : Word := BitVec.allOnes 32
  old     : Word := 0
  opened  : Bool := false
deriving DecidableEq, Repr

/-- What stood at the end of the core cycle before the present one, where a rule asks for it (R110, R516). -/
structure Before where
  regs   : Sparse Word := []
  live   : Sparse Word := []
  scan   : Vector ScanUnit 4 := Vector.replicate 4 {}
  planes : Vector PlaneUnit 16 := Vector.replicate 16 {}
  rxScan : Option RxScan := Option.none
deriving DecidableEq, Repr

/-- The accesses of one core cycle, the oldest first, and the fields that the device itself has set or counted in it
(R513). -/
structure BusUnit where
  cycle  : Nat := 0
  writes : List BusAccess := []
  pops   : List BusAccess := []
  hits   : List Fld := []
  before : Before := {}
deriving DecidableEq, Repr

/-! ## The state -/

/-- The state of the device: the queue of commands that wait, and everything the spec gives the device. -/
structure State where
  /-- Commands that wait, the oldest first. -/
  pending : List Instr := []
  /-- The model's own counter of free values drawn so far; no rule of the spec names it. -/
  free    : Nat := 0
  /-- The words of the register space that differ from their reset value (R509, R518). -/
  regs    : Sparse Word := []
  /-- The live values of RWS registers that differ from their reset value (R9, R220). -/
  live    : Sparse Word := []
  /-- The host's copy of WHISTLE_MASK (R70); SQS holds its own in `regs`. -/
  whistleHost : Nat := 0
  bus     : BusUnit := {}
  seqs    : Vector Seq 5 := Vector.replicate 5 {}
  wt      : WallUnit := {}
  net     : NetUnit := {}
  pins    : PinUnit := {}
  round   : RoundUnit := {}
  scan    : Vector ScanUnit 4 := Vector.replicate 4 {}
  emw     : EmwUnit := {}
  tpl     : Vector TplGroup 16 := Vector.replicate 16 {}
  kennel  : KennelUnit := {}
  bist    : BistUnit := {}
  frame   : FrameUnit := {}
  dram    : Vector DramUnit 4 := Vector.replicate 4 {}
  geo     : GeoUnit := {}
  sess    : Sparse Session := []
  rot     : RotUnit := {}
  board   : BoardUnit := {}
  ing     : IngUnit := {}
  nbr     : Vector NbrPort 4 := Vector.replicate 4 {}
  dfl     : DflUnit := {}
  power   : PowerUnit := {}
  syn     : Vector SynUnit 4 := Vector.replicate 4 {}
  cmp     : Vector CmpUnit 4 := Vector.replicate 4 {}
  map     : Vector MapUnit 4 := Vector.replicate 4 {}
  blt     : Vector (Option BltOp) 4 := Vector.replicate 4 Option.none
  /-- Block operations of case U12 that have written in the present core cycle (R487). -/
  wild    : Vector (Option BltOp) 4 := Vector.replicate 4 Option.none
  cam     : Vector CamCtx 4 := Vector.replicate 4 {}
  rxScan  : Option RxScan := Option.none
  tap     : TapUnit := {}
deriving DecidableEq, Repr

/-- The device right after power-on reset: every register at its reset value, every store empty. -/
def State.reset : State := {}

end Sys2Proof.Machine
end

