-- ==== Sys2Proof/Machine/Ops.lean ====
section
/-!
DEFINITION. Sys2Proof/Machine/Ops.lean: the named operations every unit uses: reading and writing the word and
the fields a register holds, live values, free values, counters, events pushed to the sequencers (R82, R83), and
the outcome of a step that the device takes.
-/

namespace Sys2Proof.Machine

/-- The outcome of a step of the device. -/
abbrev Out := Host.Outcome State Fault Refusal

/-- The reset value of the word at address `a`; 0 for a reserved word (R510, R518). DESIGN CHOICE, log 2. -/
def resetWord (a : Nat) : Word :=
  match regRow a with
  | some r => BitVec.ofNat 32 r.reset
  | none => 0

/-- Each bit of `x` where `mask` is 1, of `y` elsewhere. -/
def mixWords (mask x y : Word) : Word := (x &&& mask) ||| (y &&& ~~~mask)

/-- The word the register at `a` holds. -/
def State.rd (s : State) (a : Nat) : Word := sparseGet resetWord s.regs a

/-- The register at `a` now holds `v`. -/
def State.wr (s : State) (a : Nat) (v : Word) : State := { s with regs := sparseSet resetWord s.regs a v }

/-- The value of field `f`. -/
def State.get (s : State) (f : Fld) : Nat := field (s.rd f.addr) f.lo f.w

/-- Field `f` now holds `v` modulo its width. -/
def State.put (s : State) (f : Fld) (v : Nat) : State := s.wr f.addr (withField (s.rd f.addr) f.lo f.w v)

/-- Whether the one-bit field `f` is 1. -/
def State.flag (s : State) (f : Fld) : Bool := s.get f == 1

/-- The bus in the present core cycle. -/
def State.busNow (s : State) : BusUnit :=
  if s.bus.cycle = s.wt.cycle then s.bus else { cycle := s.wt.cycle, before := s.bus.before }

/-- The device itself has set or counted field `f` in this core cycle (R513). -/
def State.noteHit (s : State) (f : Fld) : State := { s with bus := { s.busNow with hits := f :: s.busNow.hits } }

/-- The fields of the register at `a` that the device has set or counted in this core cycle, once for each time. -/
def State.hitsAt (s : State) (a : Nat) : List Fld := s.busNow.hits.filter fun f => f.addr == a

/-- The one-bit field `f` set by the device. -/
def State.set (s : State) (f : Fld) : State := (s.put f 1).noteHit f

/-- Bit `o` of field `f` set by the device. -/
def State.setBit (s : State) (f : Fld) (o : Nat) : State :=
  (s.put f (withBit (s.get f) o)).noteHit ⟨f.addr, f.lo + o, 1⟩

/-- The field `f` cleared. -/
def State.clr (s : State) (f : Fld) : State := s.put f 0

/-- The W1C bit `f` cleared by a write of 1, unless the device has set it in this core cycle (R513). -/
def State.wipe (s : State) (f : Fld) : State := if (s.hitsAt f.addr).contains f then s else s.clr f

/-- The field `f` set where `b` holds and left alone elsewhere. -/
def State.setIf (s : State) (b : Bool) (f : Fld) : State := if b then s.set f else s

/-- The state with what a lock looks at as it was at the end of the core cycle before (R516). -/
def State.atCycleStart (s : State) : State :=
  let b := s.bus.before
  { s with regs := b.regs, live := b.live, scan := b.scan, ing := { s.ing with planes := b.planes }, rxScan := b.rxScan }

/-- The word at `a` as the latch whose instant has come is to see it: as it stood when its instant came (R21, R514). -/
def State.keptRd (s : State) (a : Nat) : Word := (s.frame.keep.lookup a).getD (s.rd a)

/-- Field `f` as the latch whose instant has come is to see it. -/
def State.keptGet (s : State) (f : Fld) : Nat := field (s.keptRd f.addr) f.lo f.w

/-- The live word of the RWS register at `a` (R220). -/
def State.liveRd (s : State) (a : Nat) : Word := sparseGet resetWord s.live a

/-- The live value of field `f`. -/
def State.liveGet (s : State) (f : Fld) : Nat := field (s.liveRd f.addr) f.lo f.w

/-- Whether the live one-bit field `f` is 1. -/
def State.liveFlag (s : State) (f : Fld) : Bool := s.liveGet f == 1

/-- The live word of the RWS register at `a` becomes `v`. -/
def State.liveWr (s : State) (a : Nat) (v : Word) : State :=
  { s with live := sparseSet resetWord s.live a v }

/-- A free value below `2 ^ w` and the state that has drawn it. DESIGN CHOICE, log 4. -/
def State.draw (s : State) (w : Nat) : Nat × State :=
  (Config.freeNat s.free % 2 ^ w, { s with free := s.free + 1 })

/-- `n` free bytes. DESIGN CHOICE, log 4. -/
def State.freeBytes (s : State) (n : Nat) : List Byte × State :=
  let (v, s) := s.draw (8 * n)
  (leBytes n v, s)

/-- The counter field `f` counts one and saturates (R513). -/
def State.count (s : State) (f : Fld) : State := (s.put f (satInc f.w (s.get f))).noteHit f

/-- `n` counts of this core cycle taken back, from a counter that has not saturated. -/
def State.uncount (s : State) (f : Fld) (n : Nat) : State :=
  if n = 0 ∨ s.get f + 1 = 2 ^ f.w then s
  else { s.put f (s.get f - n) with bus := { s.busNow with hits := n.repeat (fun h => h.erase f) s.busNow.hits } }

/-- The 32-bit counter at `a` counts one and saturates. -/
def State.countReg (s : State) (a : Nat) : State := s.count ⟨a, 0, 32⟩

/-- The 32-bit counter at `a` counts one and wraps. -/
def State.wrapReg (s : State) (a : Nat) : State := s.wr a (s.rd a + 1)

/-- A sequencer. -/
def State.seq (s : State) (q : SeqId) : Seq := s.seqs[q]

/-- A sequencer replaced. -/
def State.setSeq (s : State) (q : SeqId) (c : Seq) : State := { s with seqs := s.seqs.set q c }

/-- Quadrant `n`'s composition stage. -/
def State.cm (s : State) (n : QuadId) : CmpUnit := s.cmp[n]

/-- Quadrant `n`'s composition stage replaced. -/
def State.setCm (s : State) (n : QuadId) (x : CmpUnit) : State := { s with cmp := s.cmp.set n x }

/-- Wall time in units of 2^-16 ns. DEDUCED, log 11. -/
def State.wall16 (s : State) : Nat := s.wt.wall / 2 ^ 32

/-- Whole nanoseconds of wall time since SEC 0. -/
def State.wallNs (s : State) : Nat := s.wt.wall / 2 ^ 48

/-- The seconds of wall time (R27). -/
def State.wallSec (s : State) : Nat := s.wallNs / 1000000000

/-- The nanoseconds within the second (R27). -/
def State.wallNsOfSec (s : State) : Nat := s.wallNs % 1000000000

/-- Core cycles in one microsecond: the core clock is 1.6 GHz (R5). DEDUCED, log 7. -/
def cyclesPerUs : Nat := 1600

/-- Whether `us` microseconds have passed since core cycle `since`. DEDUCED, log 7. -/
def State.passedUs (s : State) (since us : Nat) : Bool := decide (since + us * cyclesPerUs ≤ s.wt.cycle)

/-- The device is held: in the clock reset, or with BRD_STATUS naming a failed self-test or ROM; no master and no interface
of it acts (R420, R466, R495). DESIGN CHOICE, log 212. -/
def State.held (s : State) : Bool :=
  s.power.clkLost || (s.get F.BRD_STATUS_REASON != 0 && decide (s.get F.BRD_STATUS_STAGE < 2))

/-- The queue of SQS. -/
def sqsQ : SeqId := 4

/-- The sequencer of quadrant `n`. -/
def sqOf (n : QuadId) : SeqId := ⟨n.val, by omega⟩

/-- The event entry pushed at the present wall time (R83). -/
def State.entry (s : State) (source code : Nat) (late : Bool) (data : Nat) : EvEntry :=
  { source := BitVec.ofNat 8 source, code := BitVec.ofNat 8 code, late := late, data := BitVec.ofNat 32 data
    secLo := BitVec.ofNat 32 s.wallSec, ns := BitVec.ofNat 32 s.wallNsOfSec, born := some s.wt.cycle }

/-- An entry pushed into sequencer `q`'s event queue at the present wall time; a full queue discards and counts it
(R82, R83). -/
def State.event (s : State) (q : SeqId) (source code : Nat) (late : Bool) (data : Nat) : State :=
  let c := s.seq q
  let e := s.entry source code late data
  if c.queue.length < 256 then s.setSeq q { c with queue := c.queue ++ [e] }
  else
    (s.setSeq q { c with lost := c.lost.filter (fun x => x.born == some s.wt.cycle) ++ [e] }).count
      (F.SEQ_EVQ_STATUS_OVERFLOW q)

/-- The entries `mine` of this core cycle are taken back: they leave the queue, and the next that found no room there
take the place; neither kind was then discarded (R82). -/
def State.unsay (s : State) (q : SeqId) (mine : EvEntry → Bool) : State :=
  let c := s.seq q
  let stays (e : EvEntry) : Bool := !(e.born == some s.wt.cycle && mine e)
  let queue := c.queue.filter stays
  let now := c.lost.filter fun e => e.born == some s.wt.cycle
  let lost := now.filter stays
  let free := c.queue.length - queue.length
  let left := lost.drop free
  (s.setSeq q { c with queue := queue ++ lost.take free, lost := left }).uncount (F.SEQ_EVQ_STATUS_OVERFLOW q)
    (now.length - left.length)

/-- An event whose entry is not late, to SQS. -/
def State.sqsEvent (s : State) (source code data : Nat) : State := s.event sqsQ source code false data

/-- An event whose entry is not late, to the sequencer of quadrant `n`. -/
def State.quadEvent (s : State) (n : QuadId) (source code data : Nat) : State :=
  s.event (sqOf n) source code false data

/-- A flag of WT_FLAGS is set; a flag that rises also raises an event to SQS with CODE its bit (R83).
DEDUCED, log 13. -/
def State.wtFlag (s : State) (f : Fld) : State :=
  if s.flag f then s.noteHit f else (s.set f).sqsEvent 0x20 f.lo 0

/-- The four quadrants. -/
def allQuads : List QuadId := [0, 1, 2, 3]

/-- `f` applied for every item of `l`, in order. -/
def forAll {α : Type} (l : List α) (s : State) (f : State → α → State) : State := l.foldl f s

/-- The numbers 0 to `n` - 1 as indices. -/
def fins (n : Nat) : List (Fin n) := List.finRange n

end Sys2Proof.Machine
end

