-- ==== Sys2Proof/Machine/Cadence.lean ====
section
/-!
DEFINITION. Sys2Proof/Machine/Cadence.lean: the cadence (R53, R54, R558): frame starts, line starts, latches, the
current frame index, the resolution of a bare frame number (R77), and which quadrants scan (R238). Instants are
in units of 2^-16 ns since SEC 0, the grid of R53.
-/

namespace Sys2Proof.Machine

/-- Nanoseconds in one second, in units of 2^-16 ns. -/
def secUnits : Nat := 1000000000 * 65536

/-- The cadence epoch E in seconds. -/
def State.cadEpoch (s : State) : Nat := (s.rd A.CAD_EPOCH_HI).toNat * 2 ^ 32 + (s.rd A.CAD_EPOCH_LO).toNat
/-- CAD_P. -/
def State.cadP (s : State) : Nat := (s.rd A.CAD_P).toNat
/-- CAD_Q. -/
def State.cadQ (s : State) : Nat := (s.rd A.CAD_Q).toNat
/-- V_active. -/
def State.vActive (s : State) : Nat := s.get F.SCAN_VTIMING_V_ACTIVE
/-- V_total. -/
def State.vTotal (s : State) : Nat := s.get F.SCAN_VTIMING_V_TOTAL

/-- A valid cadence exists (R558). -/
def State.cadenceOk (s : State) : Bool :=
  decide (1 ≤ s.cadP) && decide (1 ≤ s.cadQ) && decide (24 * s.cadP ≤ s.cadQ) && decide (s.cadQ ≤ 240 * s.cadP)
    && decide (1 ≤ s.vActive) && decide (s.vActive + 8 ≤ s.vTotal) && decide (s.vTotal ≤ 16383)

/-- L(k, n), truncated to the 2^-16 ns grid (R53). -/
def State.lineAt (s : State) (k n : Int) : Int :=
  (s.cadEpoch : Int) * secUnits
    + ((k * s.cadP * s.vTotal + n * s.cadP) * secUnits) / ((s.cadQ * s.vTotal : Nat) : Int)

/-- F(k). -/
def State.frameAt (s : State) (k : Int) : Int := s.lineAt k 0

/-- The latch instant for frame k, L(k - 1, V_active) (R20). -/
def State.latchAt (s : State) (k : Int) : Int := s.lineAt (k - 1) s.vActive

/-- The k with F(k) ≤ wall time < F(k + 1), while a valid cadence exists. Before E the frames lie below 0 by the same
formula. DEDUCED, log 174. -/
def State.frameNow (s : State) : Int :=
  let k0 := (((s.wall16 : Int) - (s.cadEpoch : Int) * secUnits) * s.cadQ) / ((s.cadP * secUnits : Nat) : Int)
  if s.frameAt (k0 + 1) ≤ s.wall16 then k0 + 1 else k0

/-- The current frame index: the k with F(k) ≤ wall time < F(k + 1), 0 before E and while no valid cadence
exists (R558). -/
def State.frameIndex (s : State) : Nat := if s.cadenceOk then s.frameNow.toNat else 0

/-- The frame a bare frame number names: c plus (g - c) mod 2^32 as a signed number while a valid cadence exists,
the number itself otherwise (R77). -/
def State.resolveFrame (s : State) (g : Word) : Int :=
  if s.cadenceOk then (s.frameIndex : Int) + signed 32 (unsigned 32 ((g.toNat : Int) - s.frameIndex))
  else g.toNat

/-- The line period in units of 2^-16 ns, truncated. -/
def State.linePeriod (s : State) : Nat := s.cadP * secUnits / (s.cadQ * s.vTotal)

/-- The number m of the line in whose slot instant `x` lies, lines counted from L(0, 0) without regard to frames. -/
def State.lineIndexAt (s : State) (x : Int) : Int :=
  let e : Int := (s.cadEpoch : Int) * secUnits
  let m := ((x - e) * s.cadQ * s.vTotal) / ((s.cadP * secUnits : Nat) : Int)
  if s.lineAt 0 (m + 1) ≤ x then m + 1 else m

/-- The number of the line in whose slot wall time lies. -/
def State.lineIndex (s : State) : Int := s.lineIndexAt s.wall16

/-- Wall time has reached the instant `t`. -/
def State.reached (s : State) (t : Int) : Bool := decide (t ≤ (s.wall16 : Int))

/-- A quadrant scans: its state is ARMED, RUNNING or STOPPING (R238). -/
def State.scans (s : State) (n : QuadId) : Bool :=
  match (s.scan[n]).run with
  | .stopped => false
  | _ => true

/-- The frame whose latch instant wall time has reached, with the cadence as it stands, while its LATCH is yet to be
taken (R20). DEDUCED, log 184. -/
def State.latchDue (s : State) : Option Int :=
  if s.cadenceOk then
    let f := s.frameNow
    let k := if s.reached (s.latchAt (f + 1)) then f + 1 else f
    if s.frame.latch ≠ some k ∧ s.frame.from_ ≤ s.latchAt k then some k else none
  else none

/-- What was kept for a latch whose instant had come is kept no longer. -/
def State.latchForgets (s : State) : State :=
  { s with frame := { s.frame with keep := [] }, ing := { s.ing with planes := s.ing.planes.map ({ · with due := false }) } }

/-- The latch that was due before a change of the cadence or of wall time, where it is no longer due, leaves nothing behind
that waited for it: what a write or a COMMIT of its instant put off counts for the next latch (R220, R221). -/
def State.latchMoved (s : State) (was : Option Int) : State :=
  if s.latchDue = was then s
  else
    { s.latchForgets with cmp := s.cmp.map fun x => { x with late := false, lateOnly := false } }

/-- Instant `x` is that of the latch that is due: it waits for the latch to take effect (R78). -/
def State.latchHolds (s : State) (x : Int) : Bool :=
  match s.latchDue with
  | some k => s.latchAt k == x
  | none => false

/-- Wall time has reached `x`, and where `x` is a latch instant its latch has taken effect (R78). -/
def State.instantDone (s : State) (x : Int) : Bool := s.reached x && !s.latchHolds x

/-- Any quadrant scans (R238). -/
def State.anyScans (s : State) : Bool := allQuads.any s.scans

/-- A time value as units of 2^-16 ns. -/
def TimeVal.units (t : TimeVal) : Int := ((t.sec.toNat * 1000000000 + t.ns.toNat) * 65536 : Nat)

/-- The time value of `x` whole nanoseconds; seconds wrap modulo 2^64 (R109). -/
def timeOfNs (x : Int) : TimeVal :=
  { sec := BitVec.ofInt 64 (x / 1000000000), ns := BitVec.ofNat 32 (x % 1000000000).toNat }

/-- The instant a line target names, once it is resolved (R77). -/
def State.lineTargetAt (s : State) (l : LineTarget) : Option Int :=
  match l with
  | .unresolved _ _ => none
  | .line k n => if s.cadenceOk then some (s.lineAt k n) else none

/-- A line target as it is first taken: resolved while a valid cadence exists (R77). -/
def State.lineTarget (s : State) (g : Word) (n : Int) : LineTarget :=
  if s.cadenceOk then .line (s.resolveFrame g) n else .unresolved g n

/-- A line target re-evaluated after a cadence write (R79). -/
def State.reTarget (s : State) (l : LineTarget) : LineTarget :=
  match l with
  | .unresolved g n => s.lineTarget g n
  | .line k n => .line k n

/-- A line target lies in the past. -/
def State.linePast (s : State) (l : LineTarget) : Bool :=
  match s.lineTargetAt l with
  | some x => decide (x < (s.wall16 : Int))
  | none => false

/-- A pending WAIT.L re-evaluated: one whose target has become past resumes as late, with P = 1 (R79). -/
def State.reWait (s : State) (q : SeqId) : State :=
  let c := s.seq q
  match c.busy with
  | .waitL l =>
    let l := s.reTarget l
    if s.linePast l then s.setSeq q { c with run := .running, busy := .none, p := true, pc := c.pc + 1 }
    else s.setSeq q { c with busy := .waitL l }
  | _ => s

/-- A line alarm re-evaluated: one whose target has become past fires as late (R79). -/
def State.reAlarm (s : State) (q : SeqId) (a : Fin 8) : State :=
  let c := s.seq q
  match c.alarms[a] with
  | some (.line l) =>
    let l := s.reTarget l
    if s.linePast l then (s.setSeq q { c with alarms := c.alarms.set a none }).event q 0x01 a true 0
    else s.setSeq q { c with alarms := c.alarms.set a (some (.line l)) }
  | _ => s

/-- Every pending WAIT.L and line alarm re-evaluated (R79). DEDUCED, log 23. -/
def State.reTargetAll (s : State) : State :=
  forAll (fins 5) s fun s q => forAll (fins 8) (s.reWait q) fun s a => s.reAlarm q a

end Sys2Proof.Machine
end

