-- ==== Sys2Proof/Machine/Dram.lean ====
section
/-!
DEFINITION. Sys2Proof/Machine/Dram.lean: the DRAM controllers (R382 to R401): states, the address range, reads with
forwarding and ECC, the error log (R478), refresh on line slots, and mode registers.
-/

namespace Sys2Proof.Machine

/-- Quadrant `n`'s DRAM controller. -/
def State.dr (s : State) (n : QuadId) : DramUnit := s.dram[n]

/-- Quadrant `n`'s DRAM controller replaced. -/
def State.setDr (s : State) (n : QuadId) (d : DramUnit) : State := { s with dram := s.dram.set n d }

/-- The controller's state: 0 OFF, 1 INIT, 2 READY, 3 SELF_REFRESH. -/
def State.dramState (s : State) (n : QuadId) : Nat := s.get (F.DRAM_STATUS_STATE n)

/-- The controller serves requests (R386). -/
def State.dramReady (s : State) (n : QuadId) : Bool := s.dramState n == 2

/-- No calibration interrupts the quadrant's DRAM traffic (R406, R407). -/
def State.calIdle (s : State) (n : QuadId) : Bool := decide ((s.dr n).cal = .none)

/-- Requests are served: the controller is READY, and no sweep or hold interrupts it (R386, R409). DEDUCED, log 101. -/
def State.dramServes (s : State) (n : QuadId) : Bool := s.dramReady n && s.calIdle n

/-- Usable bytes: Qn_DRAM_SIZE (R384, R398). -/
def State.dramSize (s : State) (n : QuadId) : Nat := s.get ⟨A.DRAM_SIZE n, 0, 17⟩ * 65536

/-- Inline SECDED is in use (R398). -/
def State.inlineEcc (s : State) (n : QuadId) : Bool := s.flag (F.DRAM_CFG_INLINE_ECC n)

/-- The frame number that DRAM events carry. -/
def State.frameNo (s : State) : Nat := s.frameIndex % 2 ^ 32

/-- A DRAM event, to the quadrant's sequencer and SQS. -/
def State.dramEvent (s : State) (n : QuadId) (code data : Nat) : State :=
  (s.quadEvent n 0x38 code data).sqsEvent 0x38 code data

/-! ### The error log -/

/-- The entry of the error log that a new address takes: a free one, else the oldest of those with the lowest count
(R478). -/
def State.logVictim (s : State) (n : QuadId) : Nat :=
  match (List.range 16).find? (fun e => !s.flag (F.DLOG_VALID n e)) with
  | some e => e
  | none =>
    let least := (List.range 16).foldl (fun m e => min m (s.get (F.DLOG_COUNT n e))) 15
    ((s.dr n).logAge.find? (fun e => s.get (F.DLOG_COUNT n e) == least)).getD 0

/-- The DLOG event of entry `e`, once, when its count has reached LIMIT (R478). -/
def State.logTell (s : State) (n : QuadId) (e : Nat) : State :=
  let limit := max 1 (s.get (F.DLOG_CFG_LIMIT n))
  if limit ≤ s.get (F.DLOG_COUNT n e) ∧ ¬ (s.dr n).logTold.contains e then
    let s := s.setDr n { s.dr n with logTold := e :: (s.dr n).logTold }
    let data := s.get (F.DLOG_ADDR n e)
    (s.quadEvent n 0x3A e data).sqsEvent 0x3A e data
  else s

/-- Word address `w` is logged (R478). DEDUCED, log 105. -/
def State.logWord (s : State) (n : QuadId) (w : Nat) : State :=
  match (List.range 16).find? (fun e => s.flag (F.DLOG_VALID n e) && s.get (F.DLOG_ADDR n e) == w) with
  | some e => (s.count (F.DLOG_COUNT n e)).logTell n e
  | none =>
    let e := s.logVictim n
    let d := s.dr n
    let s := s.setDr n { d with logAge := d.logAge.filter (· ≠ e) ++ [e], logTold := d.logTold.filter (· ≠ e) }
    (s.wr (A.DLOG n e) (BitVec.ofNat 32 (w + 2 ^ 26 + 2 ^ 31))).logTell n e

/-! ### Reads -/

/-- An uncorrectable word read: counted, its address and source written, ECC_UNCORR, and a DRAM event with CODE 1 at
most once per frame (R399). -/
def State.dramUncorr (s : State) (n : QuadId) (w src : Nat) : State :=
  let s := (s.count (F.DRAM_ECC_CNT_UNCORR n)).wr (A.DRAM_ECC_ADDR n) (BitVec.ofNat 32 (w + src * 2 ^ 28 + 2 ^ 31))
  let s := s.set (F.DRAM_STATUS_ECC_UNCORR n)
  if (s.dr n).told = some s.frameIndex then s
  else (s.setDr n { s.dr n with told := some s.frameIndex }).dramEvent n 1 w

/-- A request at or beyond Qn_DRAM_SIZE: RANGE and a DRAM event with CODE 5 (R385). -/
def State.dramRange (s : State) (n : QuadId) (w : Nat) : State :=
  (s.set (F.DRAM_STATUS_RANGE n)).dramEvent n 5 w

/-- A stored word reads as uncorrectable: its check bytes fail, or it was never written and never zeroed (R399). -/
def State.dramBad (s : State) (n : QuadId) (w : Nat) : Bool :=
  let d := s.dr n
  s.inlineEcc n && (d.damaged.contains w || (!d.zeroed && !d.written.contains w))

/-- The byte at address `a`. What a byte nothing has written holds is DESIGN CHOICE: 0. DESIGN CHOICE, log 8. -/
def DramUnit.byte (d : DramUnit) (a : Nat) : Byte := sparseGet (fun _ => 0) d.mem a

/-- The 64 bytes of word `w`. -/
def DramUnit.wordBytes (d : DramUnit) (w : Nat) : List Byte := (List.range 64).map (fun i => d.byte (64 * w + i))

/-- A queue up to and including its last entry that `p` holds for, taken off (R389). -/
def afterLast {α : Type} (p : α → Bool) : List α → List α
  | [] => []
  | x :: t => if t.any p then afterLast p t else if p x then t else x :: t

/-- The `k` oldest queued writes go to the devices, behind the reads of their words that were taken before them, which return
(R390); writes no longer go ahead of reads once 32 or fewer are left (R121). -/
def DramUnit.issue (d : DramUnit) (k : Nat) : DramUnit :=
  let ws := (d.wq.take k).map (·.1)
  let rest := afterLast (fun r : DramRead => !r.fwd && ws.contains (r.word.addr / 64)) d.rq
  let gone := d.rq.take (d.rq.length - rest.length)
  let q := d.wq.drop k
  { d with wq := q, rq := rest, out := (gone.getLast?.map DramRead.word).or d.out, drain := d.drain && decide (32 < q.length) }

/-- Every queued read returns, in queue order (R388). -/
def DramUnit.returnAll (d : DramUnit) : DramUnit := { d with rq := [], out := (d.rq.getLast?.map DramRead.word).or d.out }

/-- What the write queue makes of a read of word `w`: forwarded from the youngest write to it where that one is
whole, else every write up to it issued first (R121, R389). DEDUCED, log 105. -/
def State.dramForward (s : State) (n : QuadId) (w : Nat) : State :=
  let d := s.dr n
  match d.wq.reverse.find? (fun e => e.1 == w) with
  | some (_, true) => s.setDr n { d with fwd := d.fwd + 1 }
  | some (_, false) =>
    let k := d.wq.length - (afterLast (fun e : Nat × Bool => e.1 == w) d.wq).length
    s.setDr n ({ d with waited := d.waited + 1 }.issue k)
  | none => s

/-- A read of word `w` is forwarded: the youngest queued write to it has every byte enable set (R389). -/
def DramUnit.forwards (d : DramUnit) (w : Nat) : Bool :=
  match d.wq.reverse.find? (fun e => e.1 == w) with
  | some (_, full) => full
  | none => false

/-- A word returned corrected is written back corrected, unless a write to it is queued already (R399). -/
def State.writeBackCorr (s : State) (n : QuadId) (w : Nat) : State :=
  let d := s.dr n
  if d.wq.any (fun e => e.1 == w) then s
  else
    let d := if d.wq.length < 64 then d else d.issue 1
    let q := d.wq ++ [(w, true)]
    s.setDr n { d with wq := q, drain := d.drain || decide (48 ≤ q.length), wr := d.wr + 1 }

/-- What a read's error makes of the word as read (R397, R399): link errors count where LINK_ECC is 1, errors of
the stored word where INLINE_ECC is 1. DESIGN CHOICE, log 196. -/
def State.dramMeet (s : State) (n : QuadId) (w : Nat) (err : DramErr) : Bool × State :=
  let corrLog (s : State) : State := if s.flag (F.DLOG_CFG_CORR_EN n) then s.logWord n w else s
  match err with
  | .ok => (false, s)
  | .linkCorr => (false, if s.flag (F.DRAM_CFG_LINK_ECC n) then s.count (F.DRAM_ECC_CNT_CORR n) else s)
  | .linkUncorr =>
    if s.flag (F.DRAM_CFG_LINK_ECC n) then (true, (s.dramUncorr n w 1).logWord n w) else (false, s)
  | .corr =>
    (false, if s.inlineEcc n then (corrLog (s.count (F.DRAM_ECC_CNT_CORR n))).writeBackCorr n w else s)
  | .uncorr =>
    if s.inlineEcc n then
      let d := s.dr n
      let s := s.setDr n { d with damaged := if d.damaged.contains w then d.damaged else w :: d.damaged }
      (true, (s.dramUncorr n w 0).logWord n w)
    else (false, s)

/-- What befalls a transfer whose command says nothing of it: a free value, where link ECC or inline SECDED is in use
(R397, R399). DESIGN CHOICE, log 196. -/
def State.transferMeets (s : State) (n : QuadId) : DramErr × State :=
  if s.flag (F.DRAM_CFG_LINK_ECC n) || s.inlineEcc n then
    let (x, s) := s.draw 3
    (match x with | 5 => .corr | 6 => .linkCorr | 7 => .linkUncorr | _ => .ok, s)
  else (.ok, s)

/-- The error of a transfer whose stored word fails its check bytes: what the link does to it. -/
def linkOnly : DramErr → DramErr
  | .linkCorr => .linkCorr
  | .linkUncorr => .linkUncorr
  | _ => .ok

/-- A word read that check bytes do not belong to (R398): whether it reads as uncorrectable, as correctable with free bytes,
or as it is stored, is free. DESIGN CHOICE, log 173. -/
def State.staleRead (s : State) (n : QuadId) (w : Nat) (b : List Byte) : Bool × List Byte × State :=
  let (x, s) := s.draw 2
  if x = 0 then (false, b, s)
  else if x = 1 then
    let (_, s) := s.dramMeet n w .corr
    let (b, s) := s.freeBytes 64
    (false, b, s)
  else (true, List.replicate 64 0, (s.dramUncorr n w 0).logWord n w)

/-- A word read in case U05: free data, and a free mark, which is reported as any other (R483). -/
def State.u05Read (s : State) (n : QuadId) (w : Nat) : Bool × List Byte × State :=
  let (m, s) := s.draw 1
  let (b, s) := s.freeBytes 64
  if m = 1 then (true, List.replicate 64 0, (s.dramUncorr n w 0).logWord n w) else (false, b, s)

/-- One word read by a requester that holds `b` in the devices, or that fails its check bytes there (`bad`): whether it is
marked, its bytes (64 zeros where marked, R400), and the controller after it. `met` is what befalls the transfer of a
read that goes to the devices (R389). In case U05 the data and the mark are free. DEDUCED, log 97. -/
def State.readFrom (s : State) (n : QuadId) (w : Nat) (bad : Bool) (b : List Byte) (met : Option DramErr) :
    Bool × List Byte × State :=
  if s.dramSize n ≤ 64 * w then
    (true, List.replicate 64 0, (s.dramUncorr n (w % 2 ^ 26) 2).dramRange n (w % 2 ^ 26))
  else
    let hit := (s.dr n).forwards w
    let s := s.dramForward n w
    let s := s.setDr n { s.dr n with rd := (s.dr n).rd + 1 }
    let (e, s) := if hit then (DramErr.ok, s) else match met with | some e => (e, s) | none => s.transferMeets n
    let (m, s) := s.dramMeet n w (if bad then linkOnly e else e)
    if m then (true, List.replicate 64 0, s)
    else if bad then (true, List.replicate 64 0, (s.dramUncorr n w 0).logWord n w)
    else if !(s.dr n).u05.isEmpty then s.u05Read n w
    else if !hit && s.inlineEcc n && (s.dr n).stale.contains w then s.staleRead n w b
    else (false, b, s)

/-- One word read by a requester within the controller's traffic, behind the reads that are queued (R388).
DESIGN CHOICE, log 198. -/
def State.readWord (s : State) (n : QuadId) (w : Nat) : Bool × List Byte × State :=
  (s.setDr n (s.dr n).returnAll).readFrom n w (s.dramBad n w) ((s.dr n).wordBytes w) none

/-- Words `w` to `w + k - 1` read: their bytes in order, the marked ones among them. -/
def State.readWords (s : State) (n : QuadId) (w : Nat) : Nat → List Byte × List Nat × State
  | 0 => ([], [], s)
  | k + 1 =>
    let (m, b, s) := s.readWord n w
    let (bs, ms, s) := s.readWords n (w + 1) k
    (b ++ bs, if m then w :: ms else ms, s)

/-- `len` bytes read from byte address `a`, and the marked words among those that hold them. -/
def State.readBytes (s : State) (n : QuadId) (a len : Nat) : List Byte × List Nat × State :=
  if len = 0 then ([], [], s)
  else
    let w := a / 64
    let (bs, ms, s) := s.readWords n w ((a + len - 1) / 64 + 1 - w)
    ((bs.drop (a % 64)).take len, ms, s)

/-! ### Writes -/

/-- The bytes `data` of word `w` that `en` selects stored in the devices' memory. -/
def DramUnit.store (d : DramUnit) (w : Nat) (en : Nat) : Nat → List Byte → DramUnit
  | _, [] => d
  | i, b :: t =>
    let d := if bit en i then { d with mem := sparseSet (fun _ => 0) d.mem (64 * w + i) b } else d
    d.store w en (i + 1) t

/-- Word `w` of `words` in all is written, with its check bytes or without; without inline SECDED a word of the top eighth
takes the place of the check bytes of eight data words (R398). -/
def DramUnit.checks (d : DramUnit) (w : Nat) (ecc : Bool) (words : Nat) : DramUnit :=
  if ecc then { d with stale := d.stale.filter (· ≠ w) }
  else
    let top := words / 8 * 7
    let lost := if top ≤ w then (List.range 8).map (8 * (w - top) + ·) else [w]
    { d with stale := lost ++ d.stale.filter fun x => !lost.contains x }

/-- One write accepted by the controller (R388); into a full queue it waits for the oldest to go. A write of fewer than 64
bytes under inline SECDED reads the word, merges and writes it whole, a marked word as 64 zero bytes (R397, R398, R400).
In case U05 the data stored are free. -/
def State.putWord (s : State) (n : QuadId) (w : Nat) (en : Nat) (data : List Byte) : State :=
  if s.dramSize n ≤ 64 * w then s.dramRange n (w % 2 ^ 26)
  else
    let full := en % 2 ^ 64 == 2 ^ 64 - 1
    let merge := s.inlineEcc n && !full
    let (e, s) := if merge && !(s.dr n).forwards w then s.transferMeets n else (DramErr.ok, s)
    let (lost, s) := s.dramMeet n w e
    let fails := s.dramBad n w && !full
    let s := if fails && !lost then (s.dramUncorr n w 0).logWord n w else s
    let bad := fails || lost
    let d := s.dr n
    let d := if bad then d.store w (2 ^ 64 - 1) 0 (List.replicate 64 0) else d
    let (data, s) := if d.u05.isEmpty then (data, s) else s.freeBytes 64
    let d := if d.wq.length < 64 then d else d.issue 1
    let d := (d.store w en 0 data).checks w (s.inlineEcc n) (2 ^ (24 + s.get (F.DRAM_CFG_DENSITY n)))
    let q := d.wq ++ [(w, full)]
    s.setDr n { d with wq := q, drain := d.drain || decide (48 ≤ q.length), wr := d.wr + 1, damaged := d.damaged.filter (· ≠ w),
                       written := if d.written.contains w then d.written else w :: d.written }

/-! ### Initialisation, Stay -/

/-- A write of INIT takes the controller into INIT, which first applies the delay registers as they stand (R386, R405): discarded in INIT and READY with STALE_WRITE, in
SELF_REFRESH without it, and with a reserved DENSITY or RATE. -/
def State.dramInit (s : State) (n : QuadId) : State :=
  match s.dramState n with
  | 0 =>
    if s.get (F.DRAM_CFG_DENSITY n) = 3 ∨ 4 ≤ s.get (F.DRAM_CFG_RATE n) then s
    else (s.put (F.DRAM_STATUS_STATE n) 1).setDr n { s.dr n with since := s.wt.cycle, u05 := [] }
  | 3 => s
  | _ => s.set (F.DRAM_STATUS_STALE_WRITE n)

/-- A write of RESUME (R387): discarded with STALE_WRITE but in SELF_REFRESH. -/
def State.dramResume (s : State) (n : QuadId) : State :=
  if s.dramState n = 3 then
    if (s.dr n).resuming then s else s.setDr n { s.dr n with resuming := true, since := s.wt.cycle, u05 := [] }
  else s.set (F.DRAM_STATUS_STALE_WRITE n)

/-- A write to Qn_DRAM_CTRL; with both bits set, the one that the state allows (R386). -/
def State.writeDramCtrl (s : State) (n : QuadId) (v : Word) : State :=
  if s.held then s else
  match field v 0 1, field v 1 1 with
  | 1, 1 => if s.dramState n = 3 then s.dramResume n else s.dramInit n
  | 1, _ => s.dramInit n
  | _, 1 => s.dramResume n
  | _, _ => s

/-- DRAM_INIT: Qn_DRAM_CTRL is written with INIT = 1. -/
def execDramInit (n : QuadId) (v : Word) (s : State) : Out := .next (s.writeDramCtrl n (v ||| 1))

/-- RESUME: Qn_DRAM_CTRL is written with RESUME = 1. -/
def execResume (n : QuadId) (v : Word) (s : State) : Out := .next (s.writeDramCtrl n (v ||| 2))

/-- The transfer rate in MT/s (DRAM_CFG.RATE). -/
def State.dramRate (s : State) (n : QuadId) : Nat :=
  match s.get (F.DRAM_CFG_RATE n) with
  | 0 => 8533 | 1 => 7500 | 2 => 6400 | _ => 4267

/-- Microseconds that INIT takes: 2.2 ms, and the time to write the quadrant at the peak rate of its two x16
channels where ZERO_INIT is 1 (R386). -/
def State.initUs (s : State) (n : QuadId) : Nat :=
  2200 + (if s.flag (F.DRAM_CFG_ZERO_INIT n) then 2 ^ (30 + s.get (F.DRAM_CFG_DENSITY n)) / (4 * s.dramRate n) else 0)

/-- The controller enters READY: its size stands, and its refresh accumulator starts at this instant. -/
def State.dramEnterReady (s : State) (n : QuadId) : State :=
  let units := 2 ^ (14 + s.get (F.DRAM_CFG_DENSITY n))
  let units := if s.inlineEcc n then units / 8 * 7 else units
  let s := (s.put (F.DRAM_STATUS_STATE n) 2).wr (A.DRAM_SIZE n) (BitVec.ofNat 32 units)
  s.setDr n { s.dr n with resuming := false, acc := 0, accAt := s.wall16, lastSlot := s.wall16 }

/-- Queued mode-register writes performed on the channels they name, at most `k` of them (R396). -/
def DramUnit.perform (d : DramUnit) (k : Nat) : DramUnit :=
  let put (m : List (Nat × Nat × Nat)) (e : Nat × Nat × Nat) :=
    let m := if bit e.2.2 0 then (0, e.1, e.2.1) :: m else m
    if bit e.2.2 1 then (1, e.1, e.2.1) :: m else m
  { d with mr := (d.mrw.take k).foldl put d.mr, mrw := d.mrw.drop k }

/-- DRAM_INIT_DONE (R386). -/
def execDramInitDone (n : QuadId) (s : State) : Out :=
  if s.dramState n = 1 ∧ s.passedUs (s.dr n).since (s.initUs n) then
    let d := (s.dr n).perform (s.dr n).mrw.length
    let d := if s.flag (F.DRAM_CFG_ZERO_INIT n) then { d with mem := [], zeroed := true, damaged := [], stale := [] } else d
    .next ((s.setDr n d).dramEnterReady n)
  else .next s

/-- RESUME_DONE: 20 µs after RESUME (R387). -/
def execResumeDone (n : QuadId) (s : State) : Out :=
  if s.dramState n = 3 ∧ (s.dr n).resuming ∧ s.passedUs (s.dr n).since 20 then .next (s.dramEnterReady n)
  else .next s

/-- The controller performs every write it holds, its reads return, and it enters SELF_REFRESH (R387). -/
def State.selfRefresh (s : State) (n : QuadId) : State :=
  if s.dramReady n then (s.put (F.DRAM_STATUS_STATE n) 3).setDr n
      { (s.dr n).returnAll with wq := [], drain := false, resuming := false }
  else s

/-! ### Requests -/

/-- The single writes of this core cycle. -/
def State.dramNow (s : State) (n : QuadId) : DramCycle :=
  if (s.dr n).now.cycle = s.wt.cycle then (s.dr n).now else { cycle := s.wt.cycle }

/-- DRAM_READ_REQUEST: a read is taken into the read queue, where it has room (R388): it does not see the writes of its
own core cycle (R391), and returns in its turn. A controller that does not serve requests takes none.
DESIGN CHOICE, log 172. -/
def execDramReadRequest (n : QuadId) (a : BitVec 32) (err : DramErr) (s : State) : Out :=
  if s.dramServes n ∧ (s.dr n).rq.length < 64 then
    let w := a.toNat / 64
    let c := s.dramNow n
    let (bad, b) := (c.before.find? fun e => e.1 == w).elim (s.dramBad n w, (s.dr n).wordBytes w) (·.2)
    let q := (s.dr n).wq
    let was := (s.dr n).drain
    let k := q.length - c.writes.length
    let s := s.setDr n { s.dr n with wq := q.take k }
    let hit := (s.dr n).forwards w
    let (m, b, s) := s.readFrom n w bad b (some err)
    let r : DramRead := { word := { addr := 64 * w, marked := m, bytes := b }, fwd := hit }
    let all := (s.dr n).wq ++ q.drop k
    .next (s.setDr n { s.dr n with wq := all, rq := (s.dr n).rq ++ [r]
                                   drain := was && decide (32 < all.length) || decide (48 ≤ all.length) })
  else .next s

/-- Core cycles that the transfer of one word takes at the peak rate of the two x16 channels. -/
def State.dramBeat (s : State) (n : QuadId) : Nat := ceilDiv (16 * cyclesPerUs) (s.dramRate n)

/-- One core cycle of quadrant `n`'s controller: the devices, when they are free, take the oldest write where writes go
ahead, no read waits, or nothing else can; else the oldest read returns to its requester (R121, R388). A write never
goes ahead of a read of its word (R390). DESIGN CHOICE, log 197. -/
def State.dramBeatOf (s : State) (n : QuadId) : State :=
  let d := s.dr n
  if !s.dramServes n ∨ s.wt.cycle < d.freeAt then s
  else
    let held := match d.wq with
      | e :: _ => d.rq.any fun r => !r.fwd && r.word.addr == 64 * e.1
      | [] => true
    let d' := { d with freeAt := s.wt.cycle + s.dramBeat n }
    match d.wq, d.rq with
    | [], [] => s
    | _ :: t, [] => s.setDr n { d' with wq := t, drain := d.drain && decide (32 < t.length) }
    | q, r :: u =>
      if d.drain ∧ !held then s.setDr n { d' with wq := q.tail, drain := decide (32 < q.tail.length) }
      else s.setDr n { d' with rq := u, out := some r.word }

/-- One core cycle of every controller. -/
def State.dramRun (s : State) : State := forAll allQuads s State.dramBeatOf

/-! ### Refresh and mode registers -/

/-- The refresh rate multiplier that a code names; 3 acts as 2 (DRAM_REF_CFG). -/
def multOf (code : Nat) : Nat := match code with | 0 => 1 | 1 => 2 | _ => 4

/-- The refresh multiplier M in use, since the last slot (R393). DEDUCED, log 106. -/
def State.refM (s : State) (n : QuadId) : Nat := multOf (s.get (F.DRAM_REF_STATUS_M n))

/-- TREFI_NS in units of 2^-16 ns. -/
def State.trefi (s : State) (n : QuadId) : Nat := s.get (F.DRAM_REF_CFG_TREFI_NS n) * 65536

/-- Refresh slots lie on line slots: SCAN_VTIMING and the cadence meet R237 and R54 (R392). -/
def State.lineSlots (s : State) : Bool :=
  s.cadenceOk && s.vActive == s.get F.GEO_PANEL_VROWS * s.get F.GEO_DIRS_NV
    && decide (s.get F.GEO_PANEL_HCOLS * s.get F.GEO_DIRS_NU * 3 * s.vTotal * s.cadQ ≤ 256000000000 * s.cadP)

/-- The instant of the latest slot: the line slot wall time lies in, or every 1,000 ns (R392). -/
def State.slotNow (s : State) : Nat :=
  if s.lineSlots then (s.lineAt 0 s.lineIndex).toNat else s.wall16 / 65536000 * 65536000

/-- REFRESH_SLOT: the accumulator advances by M, a new M takes effect (R393), up to 8 mode-register writes and a
mode-register read are performed (`mrr` is what the device answers) but during a calibration interruption, and refresh units are issued (R392, R396,
R409). DEDUCED, log 106. -/
def execRefreshSlot (n : QuadId) (mrr : Byte) (s : State) : Out :=
  let x := s.slotNow
  let d := s.dr n
  if s.dramReady n ∧ d.lastSlot < x then
    let d := if s.calIdle n then d.perform 8 else d
    let (d, s) := match (if s.calIdle n then d.mrr else none) with
      | some _ => ({ d with mrr := none }, s.wr (A.DRAM_MRR n) (BitVec.ofNat 32 (mrr.toNat + 2 ^ 31)))
      | none => (d, s)
    let acc := d.acc + (x - d.accAt) * s.refM n
    let u := acc / s.trefi n
    let s' := match d.mNew with | some c => s.put (F.DRAM_REF_STATUS_M n) c | none => s
    .next (s'.setDr n
      { d with acc := acc - u * s.trefi n, accAt := max x d.accAt, lastSlot := x, units := d.units + u, mNew := none })
  else .next s

/-- REF_UNALIGNED: between slots the accumulator reaches 4·TREFI_NS (R394). DEDUCED, log 106. -/
def execRefUnaligned (n : QuadId) (s : State) : Out :=
  let d := s.dr n
  let acc := d.acc + (s.wall16 - d.accAt) * s.refM n
  if s.dramReady n ∧ 0 < s.trefi n ∧ 4 * s.trefi n ≤ acc then
    let s := s.setDr n { d with acc := acc - s.trefi n, accAt := max s.wall16 d.accAt, units := d.units + 1 }
    .next ((s.set (F.DRAM_STATUS_REF_UNALIGNED n)).dramEvent n 4 s.frameNo)
  else .next s

/-- MRW: a mode-register write is queued; one of MR4 is discarded (R396). -/
def State.queueMrw (s : State) (n : QuadId) (v : Word) : State :=
  if field v 0 8 = 4 then s
  else s.setDr n { s.dr n with mrw := (s.dr n).mrw ++ [(field v 0 8, field v 8 8, field v 16 2)] }

/-- MRW. -/
def execMrw (n : QuadId) (v : Word) (s : State) : Out := .next (s.queueMrw n v)

/-- A mode-register read is asked for: VALID reads 0 until its result (R396). -/
def State.queueMrr (s : State) (n : QuadId) (v : Word) : State :=
  (s.clr (F.DRAM_MRR_VALID n)).setDr n { s.dr n with mrr := some (field v 0 8, field v 16 1) }

/-- MRR_REQ. -/
def execMrrReq (n : QuadId) (v : Word) (s : State) : Out := .next (s.queueMrr n v)

/-- MR4 of both channels read at a thermal sample slot (R393): M_dev is the larger requirement of the two; the M that
follows from it takes effect at the next slot. -/
def State.mr4Take (s : State) (n : QuadId) (x : Mr4 × Mr4) : State :=
  if s.dramReady n then
    let code (x : Nat) := min x 2
    let lo := code (s.get (F.DRAM_REF_CFG_MULT_MIN n))
    let hi := code (s.get (F.DRAM_REF_CFG_MULT_MAX n))
    let dev := max x.1.need.val x.2.need.val
    let s := (s.put (F.DRAM_REF_STATUS_MR4_RATE0 n) x.1.rate.toNat).put (F.DRAM_REF_STATUS_MR4_RATE1 n) x.2.rate.toNat
    let s := s.setDr n { s.dr n with mNew := some (max lo (min dev hi)) }
    let s := if hi < dev then (s.set (F.DRAM_STATUS_REF_CLAMP n)).dramEvent n 2 s.frameNo else s
    if x.1.high || x.2.high then (s.set (F.DRAM_STATUS_TEMP_HIGH n)).dramEvent n 3 s.frameNo else s
  else s

/-- An MR4 sample; it waits while a calibration interrupts the quadrant (R393, R409). -/
def State.mr4Sample (s : State) (n : QuadId) (x : Mr4 × Mr4) : State :=
  if s.calIdle n then s.mr4Take n x else s.setDr n { s.dr n with mr4 := some x }

/-- The counts of the frame that has ended copied into the bandwidth registers at a latch (R401). -/
def State.bandwidthCopy (s : State) (n : QuadId) (frame : Nat) : State :=
  let d := s.dr n
  let s := (s.wr (A.DRAM_BW_RD n) (BitVec.ofNat 32 d.rd)).wr (A.DRAM_BW_WR n) (BitVec.ofNat 32 d.wr)
  let s := (s.wr (A.DRAM_BW_FRAME n) (BitVec.ofNat 32 frame)).wr (A.DRAM_RAW n)
    (BitVec.ofNat 32 (min d.fwd 65535 + min d.waited 65535 * 65536))
  s.setDr n { d with rd := 0, wr := 0, fwd := 0, waited := 0 }

end Sys2Proof.Machine
end

