-- ==== Sys2Proof/Machine/NetBuf.lean ====
section
/-!
DEFINITION. Sys2Proof/Machine/NetBuf.lean: the management transmit queue (R113, R307) and the 32 receive buffers
(R308), which several units fill; and the transmitters of the ports (R303) with their time-stamps (R30 to R32).
-/

namespace Sys2Proof.Machine

/-- A message placed in the 64-entry management transmit queue; a full queue discards and counts it (R307). -/
def State.queueMsg (s : State) (m : HostMsg) : State :=
  if s.net.mtx.length < 64 then { s with net := { s.net with mtx := s.net.mtx ++ [m] } }
  else s.countReg A.NET_MTX_DROP

/-- The 8-byte header of a management message (R304). -/
def msgHeader (opcode flags status : Nat) (tag : Word) : List Byte :=
  [BitVec.ofNat 8 opcode, BitVec.ofNat 8 flags, BitVec.ofNat 8 status, 0] ++ beBytes 4 tag.toNat

/-- An ALERT message: CAUSE, CODE, PC and the wall time (the Management opcodes table). -/
def State.alert (s : State) (cause code pc : Nat) : State :=
  s.queueMsg { dest := none
               bytes := msgHeader 0x09 0 0 0 ++ [BitVec.ofNat 8 cause, BitVec.ofNat 8 code, 0, 0] ++ beBytes 4 pc
                 ++ beBytes 8 s.wallSec ++ beBytes 4 s.wallNsOfSec }

/-- The lowest free receive buffer. -/
def State.freeMrx (s : State) : Option (Fin 32) := (fins 32).find? (fun b => (s.net.mrx[b]).isNone)

/-- The bytes of a message written from byte 0 of receive buffer `b`, as words in R7's order. -/
def State.fillMrx (s : State) (b : Nat) (i : Nat) : List Byte → State
  | b0 :: b1 :: b2 :: b3 :: t => (s.wr (A.NET_MRX_BUF b i) (wordOfBytes b0 b1 b2 b3)).fillMrx b (i + 1) t
  | [b0, b1, b2] => s.wr (A.NET_MRX_BUF b i) (wordOfBytes b0 b1 b2 0)
  | [b0, b1] => s.wr (A.NET_MRX_BUF b i) (wordOfBytes b0 b1 0 0)
  | [b0] => s.wr (A.NET_MRX_BUF b i) (wordOfBytes b0 0 0 0)
  | [] => s

/-- Receive buffer `b` allocated to message `m`, of kind 0 (program) or 1 (PTP), with its event to SQS (R308). -/
def State.takeMrx (s : State) (b : Fin 32) (kind : Nat) (port : PortId) (m : MrxBuf) (bytes : List Byte)
    (source code : Nat) : State :=
  let s := { s with net := { s.net with mrx := s.net.mrx.set b (some m) } }
  let s := s.fillMrx b 0 bytes
  let s := s.wr (A.NET_MRX_INFO b) (BitVec.ofNat 32 (bytes.length + kind * 2 ^ 12 + port.val * 2 ^ 16))
  s.sqsEvent source code b

/-- Receive buffer `b` freed (R308). -/
def State.freeBuf (s : State) (b : Fin 32) : State := { s with net := { s.net with mrx := s.net.mrx.set b none } }

/-- Port `p` is up (R293). -/
def State.portUp (s : State) (p : PortId) : Bool := s.flag (F.NET_PORT_STATUS_UP p)

/-- The lane under a receiver scan that interrupts port `p`'s receive path (R413). -/
def State.scannedLane (s : State) (p : PortId) : Option Nat :=
  let l := s.get F.CAL_RX_STATUS_LANE
  if s.flag F.CAL_RX_STATUS_BUSY ∧ l / 4 = p.val then some l else none

/-- The other port. -/
def otherPort (p : PortId) : PortId := if p = 0 then 1 else 0

/-- The device is in Stay, or wakes and its core is not yet up (R504). -/
def State.inStay (s : State) : Bool := decide (2 ≤ s.get F.PWR_STATUS_STATE)

/-- The camera ports and CAM_TRIG are powered: until step 4 of R501 is done (R381). -/
def State.camOn (s : State) : Bool := !s.inStay && decide (s.power.entry ≠ .refresh)

/-- The mode port `p` runs: in Stay port A runs 10GBASE-R whatever its MODE holds (R294). -/
def State.portMode (s : State) (p : PortId) : Nat := if s.inStay then 0 else s.get (F.NET_PORT_MODE_MODE p)

/-! ### Time-stamps of the ports -/

/-- The receive constant of a port mode, in hundredths of a nanosecond (R32). -/
def rxConst (mode : Nat) : Nat :=
  match mode with
  | 0 => 3620 | 1 => 2510 | 2 => 10790 | 3 => 27140 | 4 => 3170 | 5 => 11620 | _ => 0

/-- The transmit constant of a port mode, in hundredths of a nanosecond (R32). -/
def txConst (mode : Nat) : Nat :=
  match mode with
  | 0 => 2840 | 1 => 1960 | 2 => 2480 | 3 => 3120 | 4 => 2230 | 5 => 2790 | _ => 0

/-- A time-stamp: truncated to 0.25 ns (R30). -/
def stampOf (x : Int) : Int := x / 16384 * 16384

/-- The receive stamp of a message that reaches port `p` now: wall time less the receive constant, the trim and the
variable part of its latency (R30, R31, R32). -/
def State.rxStamp (s : State) (p : PortId) (varLat : Nat) : Int :=
  let const : Int := (rxConst (s.portMode p) * 65536 / 100 : Nat)
  let trim : Int := signed 16 (s.get (F.WT_PORT_TRIM_RX_TRIM p)) * 256
  stampOf ((s.wall16 : Int) - const - trim - varLat)

/-- The transmit stamp of a message that port `p` starts to send now: wall time and the transmit constant and the trim
(R30, R31, R32). The model's frames start on a block boundary: no part of their latency varies.
DESIGN CHOICE, log 178. -/
def State.txStamp (s : State) (p : PortId) : Int :=
  let const : Int := (txConst (s.portMode p) * 65536 / 100 : Nat)
  let trim : Int := signed 16 (s.get (F.WT_PORT_TRIM_TX_TRIM p)) * 256
  stampOf ((s.wall16 : Int) + const + trim)

/-! ### Transmitters -/

/-- Port `p`'s transmitter. -/
def State.txPort (s : State) (p : PortId) : TxPort := s.net.tx[p]

/-- Port `p`'s transmitter replaced. -/
def State.setTx (s : State) (p : PortId) (x : TxPort) : State := { s with net := { s.net with tx := s.net.tx.set p x } }

/-- A frame waits for port `p`'s transmitter, behind those of its class (R303). -/
def State.waitTx (s : State) (p : PortId) (x : TxItem) : State :=
  let t := s.txPort p
  s.setTx p { t with queue := t.queue ++ [x] }

/-- The bytes that frames in both forms of transmission, waiting and being sent, hold of the forwarding buffer toward
port `p` (R302). -/
def State.fwdUsed (s : State) (p : PortId) : Nat :=
  let t := s.txPort p
  t.queue.foldl (fun n x => if x.fwd then n + x.len else n) (if s.wt.cycle < t.busy then t.fwd else 0)

/-- 64 KiB (R302). -/
def fwdBuffer : Nat := 65536

/-- The rate of a port mode in Gb/s (the Port modes table). -/
def modeRate (mode : Nat) : Nat :=
  match mode with
  | 0 => 10 | 1 => 25 | 2 => 25 | 3 => 25 | 4 => 40 | _ => 100

/-- Core cycles that a frame of `len` bytes takes at the rate of a mode. DESIGN CHOICE, log 178. -/
def frameCycles (mode len : Nat) : Nat := ceilDiv (len * 8 * 16) (modeRate mode * 10)

/-- The length of a frame of the device's own that carries `n` bytes after its Ethernet header, through the FCS. -/
def frameLen (n : Nat) : Nat := max 64 (18 + n)

/-- The bytes of IP and UDP header before a PTP message, by TRANSPORT (R34). -/
def ptpOverhead (transport : Nat) : Nat := match transport with | 0 => 0 | 1 => 28 | _ => 48

/-- A 16-bit one's complement sum with its carry folded in. -/
def foldCarry (x : Nat) : Nat := let y := x % 65536 + x / 65536; y % 65536 + y / 65536

/-- The checksum of a UDP datagram in which a 64-bit field has changed from `a` to `b`, updated incrementally; one of 0
stays 0 (R37). A sum of 0 is sent as all ones. DEDUCED, log 179. -/
def cksumUpdate (c : BitVec 16) (a b : BitVec 64) : BitVec 16 :=
  if c = 0 then 0
  else
    let word (x : BitVec 64) (i : Nat) : Nat := x.toNat / 2 ^ (16 * i) % 65536
    let sum := (List.range 4).foldl (fun n i => foldCarry (n + (65535 - word a i) + word b i)) (65535 - c.toNat)
    if sum = 65535 then 65535 else BitVec.ofNat 16 (65535 - sum)

/-- A correctionField with `x` added, held to its 64 bits. DEDUCED, log 179. -/
def addCorr (c : BitVec 64) (x : Int) : BitVec 64 := BitVec.ofInt 64 (clampInt (-(2 ^ 63)) (2 ^ 63 - 1) (c.toInt + x))

/-- A frame is sent by port `p`: recorded, and counted in NET_PORTp_TX_FRAMES. DESIGN CHOICE, log 50. -/
def State.send (s : State) (p : PortId) (t : NetTx) : State :=
  let s := s.wrapReg (A.NET_PORT_TX_FRAMES p)
  { s with net := { s.net with sent := t :: s.net.sent } }

/-- What a waiting frame is as port `p` starts to send it: its time-stamp taken on the fly (R36, R37). -/
def State.depart (s : State) (p : PortId) (w : TxWait) : State :=
  let now := s.txStamp p
  match w with
  | .ready t => s.send p t
  | .ptpForward f c k ingress =>
    let c' := addCorr c (now - ingress)
    s.send p (.ptpForward p f c' (cksumUpdate k c c'))
  | .pdelayResp dom seq id num c receipt => s.send p (.pdelayResp p dom seq id num (addCorr c (now - receipt)))
  | .request d =>
    let x := s.wt.slots[d]
    let dom := BitVec.ofNat 8 (s.get (F.WT_DOM_CFG_DOMAIN_NUM d))
    let y := { x with reqSent := some (x.reqSeq, now), reqSeq := x.reqSeq + 1 }
    let s := { s with wt := { s.wt with slots := s.wt.slots.set d y } }
    s.send p (if s.flag (F.WT_DOM_CFG_DELAY_MECH d) then .pdelayReq p d dom x.reqSeq now
              else .delayReq p d dom x.reqSeq now)

/-- The ports a message leaves by: a reply's own, else those of NET_EVT_CFG.PORTS; those that are up (R306, R307).
DESIGN CHOICE, log 47. -/
def State.msgPorts (s : State) (m : HostMsg) : List PortId :=
  match m.dest with
  | some r => if s.portUp r.port then [r.port] else []
  | none => (fins 2).filter (fun p => bit (s.get F.NET_EVT_CFG_PORTS) p.val && s.portUp p)

/-- A message for port `p` waits in the management transmit queue. -/
def State.msgWaits (s : State) (p : PortId) : Bool := s.net.mtx.any fun m => (s.msgPorts m).contains p

/-- The first waiting frame of the first class that has one, none of the last class while a message is `held` for the port
in the management transmit queue (R303). -/
def firstOf (held : Bool) (l : List TxItem) : Option TxItem :=
  ((l.find? fun x => x.cls == 1).or (l.find? fun x => x.cls == 2)).or (if held then none else l.head?)

/-- A free transmitter starts its next frame; one in transmission is never interrupted (R303). -/
def State.txStart (s : State) (p : PortId) : State :=
  let t := s.txPort p
  if s.wt.cycle < t.busy then s
  else
    match firstOf (s.msgWaits p) t.queue with
    | none => s
    | some x =>
      (s.setTx p { queue := t.queue.erase x, busy := s.wt.cycle + frameCycles (s.portMode p) x.len
                   fwd := if x.fwd then x.len else 0 }).depart p x.what

/-- What waits in the transmitter of a port that is down is lost, forwarded frames counted by the port that received them.
DESIGN CHOICE, log 178. -/
def State.txFlush (s : State) (p : PortId) : State :=
  let lost := (s.txPort p).queue.filter (·.fwd)
  forAll lost (s.setTx p {}) fun s _ => s.countReg (A.NET_PORT_FWD_DROP (otherPort p))

/-- Every transmitter at one core cycle: its port up, it may start a frame. -/
def State.txRun (s : State) : State :=
  forAll (fins 2) s fun s p =>
    if s.portUp p then s.txStart p else if (s.txPort p).queue.isEmpty then s else s.txFlush p

end Sys2Proof.Machine
end

