-- ==== Sys2Proof/Machine/WallTime.lean ====
section
/-!
DEFINITION. Sys2Proof/Machine/WallTime.lean: the wall-time unit (R27 to R56): the counter, the servo and its two
slots, the Leash, domain switches, holdover and the cadence registers.
-/

namespace Sys2Proof.Machine

/-- Leash states (R43). -/
inductive Leash where | unleashed | acquiring | leashed | holdover | expired
deriving DecidableEq, Repr

/-- The code of a Leash state. -/
def Leash.code : Leash → Nat
  | .unleashed => 0 | .acquiring => 1 | .leashed => 2 | .holdover => 3 | .expired => 4

/-- The Leash state. -/
def State.leash (s : State) : Leash :=
  match s.get F.WT_STATUS_LEASH with
  | 0 => .unleashed | 1 => .acquiring | 2 => .leashed | 3 => .holdover | _ => .expired

/-- The Leash state becomes `l`. -/
def State.setLeash (s : State) (l : Leash) : State := s.put F.WT_STATUS_LEASH l.code

/-- The active slot (R33). -/
def State.activeSlot (s : State) : Fin 2 := if s.flag F.WT_STATUS_ACTIVE then 1 else 0

/-- The standby slot (R33). -/
def State.standbySlot (s : State) : Fin 2 := if s.flag F.WT_STATUS_ACTIVE then 0 else 1

/-- Slot `d`. -/
def State.slot (s : State) (d : Fin 2) : PtpSlot := s.wt.slots[d]

/-- Slot `d` replaced. -/
def State.setSlot (s : State) (d : Fin 2) (p : PtpSlot) : State :=
  { s with wt := { s.wt with slots := s.wt.slots.set d p } }

/-- The active slot's servo drives wall time (R43: ACQUIRING and LEASHED). -/
def State.disciplined (s : State) : Bool :=
  match s.leash with
  | .acquiring => true
  | .leashed => true
  | _ => false

/-- Core cycles in one second. -/
def cyclesPerSec : Nat := 1600000000

/-- The Sync interval of slot `d` in core cycles: 2^LOG_SYNC s, LOG_SYNC held to -7 to +1 (WT_DOMd_CFG). -/
def State.syncCycles (s : State) (d : Fin 2) : Nat :=
  match s.get (F.WT_DOM_CFG_LOG_SYNC d) with
  | 0 => cyclesPerSec
  | 15 => cyclesPerSec / 2
  | 14 => cyclesPerSec / 4
  | 13 => cyclesPerSec / 8
  | 12 => cyclesPerSec / 16
  | 11 => cyclesPerSec / 32
  | 10 => cyclesPerSec / 64
  | 9 => cyclesPerSec / 128
  | 8 => cyclesPerSec / 128
  | _ => 2 * cyclesPerSec

/-- The standby slot is usable: locked without interruption for MIN_S seconds (R46). -/
def State.standbyOk (s : State) : Bool :=
  let p := s.slot s.standbySlot
  p.locked && decide (p.lockedAt + s.get F.WT_DSW_CFG_MIN_S * cyclesPerSec ≤ s.wt.cycle)

/-! ### The rate -/

/-- The holdover compensation c0 + c1 dT + c2 dT^2 + c3 dT^3 in units of 2^-28 ppb, with dT in units of 1/16 °C
(R52), from what was read of the sensor at the end of the last round (R457). -/
def State.hoComp (s : State) : Int :=
  let d := s.wt.hoTemp - signed 16 (s.rd A.WT_HO_T0).toNat
  let c (i : Nat) : Int := signed 32 (s.rd (A.WT_HO_C i)).toNat
  (c 0 * 2 ^ 24 + c 1 * 2 ^ 16 * d + c 2 * 2 ^ 8 * d ^ 2 + c 3 * d ^ 3) / 16

/-- The rate at which D_held moves, in ns/s: at most 1,000, toward WT_DSW_TARGET, while it is being slewed (R48). -/
def State.slewRate (s : State) : Int :=
  if s.flag F.WT_STATUS_DSW_SLEWING then
    let r : Int := min (s.get F.WT_DSW_SLEW_RATE_RATE) 1000
    let target := signed 32 (s.rd A.WT_DSW_TARGET).toNat * 2 ^ 40
    if s.wt.dHeld < target then r else if target < s.wt.dHeld then -r else 0
  else 0

/-- The change of rate asked for, in units of 2^-28 ppb, before the clamp: the servo's less the movement of D_held where a
slot drives wall time, the held adjustment in holdover (R28, R40, R43, R48, R52). DESIGN CHOICE, log 210. -/
def State.askedAdj (s : State) : Int :=
  match s.leash with
  | .unleashed => 0
  | .acquiring => (s.slot s.activeSlot).adj - s.slewRate * 2 ^ 28
  | .leashed => (s.slot s.activeSlot).adj - s.slewRate * 2 ^ 28
  | .holdover => s.wt.holdAdj + s.hoComp
  | .expired => s.wt.holdAdj + s.hoComp

/-- WT_FREQ_LIMIT in units of 2^-28 ppb; values above 200,000 act as 200,000. -/
def State.freqLimit (s : State) : Int := (min (s.get F.WT_FREQ_LIMIT_LIMIT) 200000 : Nat) * 2 ^ 28

/-- The change of rate applied (R28). -/
def State.appliedAdj (s : State) : Int := clampInt (-s.freqLimit) s.freqLimit s.askedAdj

/-- 0.625 ns in units of 2^-48 ns (R28). -/
def nominalInc : Nat := 175921860444160

/-- `x` units of time changed by `adj` units of 2^-28 ppb. DEDUCED, log 11. -/
def scaleAdj (x adj : Int) : Int := x * adj / (1000000000 * 2 ^ 28)

/-- One core cycle of D_held (R48), in units of 2^-48 ns, stopping at WT_DSW_TARGET. -/
def State.slewStep (s : State) (inc : Int) : Int :=
  let target := signed 32 (s.rd A.WT_DSW_TARGET).toNat * 2 ^ 40
  let d := s.slewRate * inc / 1000000000
  if 0 < s.slewRate then min target (s.wt.dHeld + d)
  else if s.slewRate < 0 then max target (s.wt.dHeld + d)
  else s.wt.dHeld

/-- The time of a slot that does not drive wall time, as its servo follows it over one core cycle. DEDUCED, log 12. -/
def State.trackStep (s : State) (applied inc : Int) (d : Fin 2) : PtpSlot :=
  let p := s.slot d
  if s.disciplined && d == s.activeSlot then p
  else { p with track := p.track.map (fun x => x + scaleAdj inc (p.adj - applied)) }

/-- One core cycle of wall time (R28): the increment at the applied rate, the slew of D_held, the slots' own times
and the holdover time. DEDUCED, log 7; DEDUCED, log 11. -/
def State.tick (s : State) : State :=
  let asked := s.askedAdj
  let applied := s.appliedAdj
  let inc := (nominalInc : Int) + scaleAdj nominalInc applied
  let hold := match s.leash with | .holdover => 1 | .expired => 1 | _ => 0
  let w := { s.wt with
    wall := (s.wt.wall + inc).toNat
    cycle := s.wt.cycle + 1
    dHeld := s.slewStep inc
    hoCycles := s.wt.hoCycles + hold
    slots := #v[s.trackStep applied inc 0, s.trackStep applied inc 1] }
  let s' := { s with wt := w }
  if asked = applied then s' else s'.wtFlag F.WT_FLAGS_FREQ_CLAMP

/-! ### Timed events -/

/-- The target registers of slot `e`, in units of 2^-16 ns. -/
def State.evtTarget (s : State) (e : Fin 32) : Int :=
  ((((s.rd (A.WT_EVT_SEC_HI e)).toNat * 2 ^ 32 + (s.rd (A.WT_EVT_SEC_LO e)).toNat) * 1000000000
    + (s.rd (A.WT_EVT_NS e)).toNat) * 65536 + s.get (F.WT_EVT_FRAC_FRAC e) : Nat)

/-- The target registers of slot `e` written with the instant `x` (R559). -/
def State.setEvtTarget (s : State) (e : Fin 32) (x : Int) : State :=
  let ns := x / 65536
  let sec := ns / 1000000000
  ((((s.wr (A.WT_EVT_SEC_HI e) (BitVec.ofInt 32 (sec / 2 ^ 32))).wr (A.WT_EVT_SEC_LO e) (BitVec.ofInt 32 sec)).wr
    (A.WT_EVT_NS e) (BitVec.ofInt 32 (ns % 1000000000))).wr (A.WT_EVT_FRAC e) (BitVec.ofInt 32 (x % 65536)))

/-- What slot `e` holds beside its registers. -/
def State.evt (s : State) (e : Fin 32) : EvtSlot := s.wt.evts[e]

/-- What slot `e` holds beside its registers, replaced. -/
def State.setEvt (s : State) (e : Fin 32) (v : EvtSlot) : State :=
  { s with wt := { s.wt with evts := s.wt.evts.set e v } }

/-- The instant at which an armed slot fires: its target, or the free instant of U11 (R57, R58). -/
def State.evtDue (s : State) (e : Fin 32) : Option Int :=
  match (s.evt e).due with
  | .target => some (s.evtTarget e)
  | .free d => d.map (fun n => (n : Int))

/-- 2.5 ns in units of 2^-16 ns (R59, R62). -/
def collideUnits : Int := 163840

/-- The level of TGPIO pin `p` set (R535: GPIO_OUT reads the level driven). DEDUCED, log 19. -/
def State.drivePin (s : State) (p : Nat) (level : Bool) : State :=
  (s.put ⟨A.GPIO_OUT, p, 1⟩ (b2n level)).noteHit ⟨A.GPIO_OUT, p, 1⟩

/-- The slot's edge was moved or suppressed (R59, R60). DEDUCED, log 19. -/
def State.collide (s : State) (e : Nat) : State := (s.set (F.WT_EVT_CTRL_COLLIDE e)).wtFlag F.WT_FLAGS_EVT_COLLIDE

/-- An edge of slot `e` to `level` on TGPIO pin `p` at the instant `at_`: suppressed on a pin that is no output
(R60); placed 2.5 ns after the lower-numbered slot's edge when the two lie closer (R59). DEDUCED, log 19. -/
def State.pinEdge (s : State) (e : Fin 32) (p : Fin 16) (at_ : Nat) (level : Bool) : State :=
  if bit (s.rd A.GPIO_DIR).toNat p then
    let put (s : State) (x : PinEdge) : State := { s with wt := { s.wt with edges := s.wt.edges.set p (some x) } }
    match s.wt.edges[p] with
    | some o =>
      if o.slot ≠ e.val ∧ (at_ : Int) - o.at_ < collideUnits ∧ (o.at_ : Int) - at_ < collideUnits then
        if e.val < o.slot then
          (put (s.drivePin p o.level) { o with at_ := at_ + collideUnits.toNat }).collide o.slot
        else (put (s.drivePin p level) ⟨o.at_ + collideUnits.toNat, e, level⟩).collide e
      else put (s.drivePin p level) ⟨at_, e, level⟩
    | none => put (s.drivePin p level) ⟨at_, e, level⟩
  else s.collide e

/-- A thermal round starts, or the running round is followed by one more (R449, R450). -/
def State.requestRound (s : State) : State :=
  if s.flag F.THM_STATUS_ROUND_BUSY then { s with round := { s.round with again := true } }
  else
    { (s.set F.THM_STATUS_ROUND_BUSY) with round := { s.round with
        since := s.wt.cycle, again := false, levels := (s.rd A.THM_WARN, s.rd A.THM_THROT, s.rd A.THM_SHUT) } }

/-- The level an action drives, from the level before (the Event actions table). -/
def actionLevel (action : Nat) (now : Bool) : Bool :=
  match action with
  | 1 => false
  | 3 => !now
  | _ => true

/-- The instant at which a pulse that starts at `at_` ends (R57, ACTION 0b10). -/
def State.pulseEndAt (s : State) (e : Fin 32) (at_ : Nat) : Nat := at_ + s.get ⟨A.WT_EVT_WIDTH e, 0, 24⟩ * 65536

/-- Slot `e` fires with its edge at the instant `at_`: its action on its target (R57), then its period added or the
slot disarmed (R559). A late firing keeps how far its targets were passed already.
DEDUCED, log 175; DEDUCED, log 180. -/
def State.fireEvt (s : State) (e : Fin 32) (at_ : Nat) (late : Bool) : State :=
  let target := s.get (F.WT_EVT_CTRL_TARGET e)
  let action := s.get (F.WT_EVT_CTRL_ACTION e)
  let s := if late then (s.set (F.WT_EVT_CTRL_LATE e)).wtFlag F.WT_FLAGS_EVT_LATE else s
  let pulse (s : State) (p : Fin 18) : State :=
    if action = 2 then s.setEvt e { s.evt e with pulseEnd := some (s.pulseEndAt e at_), pulseTarget := p } else s
  let s :=
    if h : target < 16 then
      let out := bit (s.rd A.GPIO_DIR).toNat target
      let s := s.pinEdge e ⟨target, h⟩ at_ (actionLevel action (bit (s.rd A.GPIO_OUT).toNat target))
      if out then pulse s ⟨target, by omega⟩ else s
    else if h : target < 18 then
      if !s.camOn then s else
      let c : Fin 2 := ⟨target - 16, by omega⟩
      pulse { s with pins := { s.pins with
        camTrig := s.pins.camTrig.set c (actionLevel action s.pins.camTrig[c])
        trigAt := s.pins.trigAt.set c (some at_) } } ⟨target, h⟩
    else if target = 18 then s.requestRound
    else if target < 23 then s
    else if h : target < 28 then s.event ⟨target - 23, by omega⟩ 0x02 e late 0
    else s
  let period := (s.rd (A.WT_EVT_PERIOD_NS e)).toNat * 65536 + (s.rd (A.WT_EVT_PERIOD_FRAC e)).toNat
  if period = 0 then s.clr (F.WT_EVT_CTRL_ARM e)
  else
    (s.setEvtTarget e (s.evtTarget e + period)).setEvt e
      { s.evt e with due := .target, lateTo := if late then some s.wall16 else (s.evt e).lateTo }

/-- The stamps that slot `p` keeps of messages under way, after a wall-time step by `d` (R31, R35). -/
def PtpSlot.shiftStamps (p : PtpSlot) (d : Int) : PtpSlot :=
  { p with
    lastSyncT := p.lastSyncT.map fun (t1, t2) => (t1, t2 + d)
    twoStep := p.twoStep.map fun (q, t2, c) => (q, t2 + d, c)
    reqSent := p.reqSent.map fun (q, t) => (q, t + d)
    pdelay := p.pdelay.map fun (q, t1, t2, t4) => (q, t1 + d, t2, t4 + d) }

/-- A wall-time step by `d` units of 2^-16 ns (R43): wall time moves, the slots' offsets and the stamps of messages under
way and of the last captured edges with it, and a forward step fires every armed slot whose target it passes, late, its later repeats among
the targets passed included (R45). The next thermal and BIST slots are the first after the stepped time (R449, R468).
DEDUCED, log 180. -/
def State.stepWall (s : State) (d : Int) : State :=
  let old : Int := s.wall16
  let shift (p : PtpSlot) : PtpSlot :=
    { p.shiftStamps d with offset := p.offset.map (· - d), track := p.track.map (· - d * 2 ^ 32) }
  let due := s.latchDue
  let w : WallUnit := { s.wt with
    wall := (s.wt.wall + d * 2 ^ 32).toNat
    slots := s.wt.slots.map shift
    capPrev := s.wt.capPrev.map fun x => x.map (· + d) }
  let s : State := { s with wt := w }
  let s := { s with round := { s.round with slotAt := s.wallNs }, bist := { s.bist with slotAt := s.wallNs } }.latchMoved due
  forAll (fins 32) s fun s e =>
    match s.evtDue e with
    | some t =>
      if s.flag (F.WT_EVT_CTRL_ARM e) && decide (s.get (F.WT_EVT_CTRL_TARGET e) < 28) && decide (old < t)
          && s.reached t then
        s.fireEvt e s.wall16 true
      else s
    | none => s

/-! ### The Leash -/

/-- A signed value in a 31-bit field with VALID above it: the value in range, a free one where the spec states no
result outside it. DESIGN CHOICE, log 16. -/
def State.putSigned31 (s : State) (a : Nat) (x : Int) : State :=
  if -(2 ^ 30) ≤ x ∧ x < 2 ^ 30 then s.wr a (BitVec.ofNat 32 (unsigned 31 x + 2 ^ 31))
  else
    let (v, s) := s.draw 31
    s.wr a (BitVec.ofNat 32 (v + 2 ^ 31))

/-- Slot `d` becomes the active slot; WT_CTRL.ACTIVE_DOM reads it. Where the roles swap, D = T_standby - T_active
changes its sign, and with it its filter. DEDUCED, log 181. -/
def State.setActive (s : State) (d : Fin 2) : State :=
  let t := (s.put F.WT_STATUS_ACTIVE d).put F.WT_CTRL_ACTIVE_DOM d
  if d == s.activeSlot then t
  else
    match s.wt.dFilt with
    | some x => { t with wt := { t.wt with dFilt := some (-x) } }.putSigned31 A.WT_DSW_OFFSET (-x / 256)
    | none => t

/-- The active slot no longer drives wall time: its own time is D_held ahead of wall time from here on (R41, R47).
DEDUCED, log 12. -/
def State.undrive (s : State) : State :=
  let d := s.activeSlot
  if s.disciplined then s.setSlot d { s.slot d with track := some s.wt.dHeld } else s

/-- The switch to slot `d` (R47): D_held becomes the filtered D, 0 where none was ever measured; neither wall time nor its
rate changes, so a new slot that drives wall time starts with the rate applied and the movement of D_held added.
DEDUCED, log 181; DESIGN CHOICE, log 216. -/
def State.domainSwitch (s : State) (d : Fin 2) : State :=
  let applied := s.appliedAdj
  let drives := s.disciplined
  let held := (s.wt.dFilt.getD 0) * 2 ^ 32
  let s := s.undrive
  let s := { s with wt := { s.wt with dHeld := held } }
  let s := if drives then s.setSlot d { s.slot d with adj := applied + s.slewRate * 2 ^ 28 } else s
  ((s.wr A.WT_DSW_HELD (BitVec.ofInt 32 (held / 2 ^ 40))).setActive d).wtFlag F.WT_FLAGS_DSW_DONE

/-- HOLDOVER is entered (R52): the active slot's adjustment averaged over its last 64 samples is held. -/
def State.enterHoldover (s : State) : State :=
  let h := (s.slot s.activeSlot).adjHist
  let avg := if h.isEmpty then 0 else h.foldl (· + ·) 0 / (h.length : Int)
  let s := s.undrive
  ({ s with wt := { s.wt with holdAdj := avg, hoCycles := 0 } }.setLeash .holdover).wtFlag F.WT_FLAGS_HO_ENTER

/-- WT_LOCK_CFG.SLEW_WINDOW_US in units of 2^-16 ns. DEDUCED, log 17. -/
def State.slewWindow (s : State) : Int := s.get F.WT_LOCK_CFG_SLEW_WINDOW_US * 1000 * 65536

/-- Slot `d` is locked, and the magnitude of its offset `near` SLEW_WINDOW_US. -/
def State.lockedWithin (s : State) (d : Fin 2) (near : Bool) : Bool :=
  let p := s.slot d
  p.locked && (match p.offset with
    | some x => decide (-s.slewWindow ≤ x ∧ x ≤ s.slewWindow) == near
    | none => false)

/-- Recovery from HOLDOVER or EXPIRED (R43): through a locked slot whose offset lies in the window, the active one before
the other; where none is and a locked slot's offset lies outside, STEP_NEEDED is set, which bars every recovery until
SERVO_EN is written 0 (R44). DEDUCED, log 17. -/
def State.recover (s : State) : State :=
  let take (d : Fin 2) : State :=
    let s := if d == s.activeSlot then s else { s with wt := { s.wt with dHeld := 0 } }
    ((s.setActive d).setLeash .leashed).wtFlag F.WT_FLAGS_LEASHED
  if s.wt.stuck then s
  else if s.lockedWithin s.activeSlot true then take s.activeSlot
  else if s.lockedWithin s.standbySlot true then take s.standbySlot
  else if s.lockedWithin s.activeSlot false || s.lockedWithin s.standbySlot false then
    { s with wt := { s.wt with stuck := true } }.wtFlag F.WT_FLAGS_STEP_NEEDED
  else s

/-- The Leash transitions that a sample, a lock or SERVO_EN can make (R43). D_held stays as it is through SERVO_EN 0 and 1,
and the step is by the whole offset. DEDUCED, log 17; DESIGN CHOICE, log 217. -/
def State.leashEval (s : State) : State :=
  match s.leash with
  | .unleashed =>
    match (s.slot s.activeSlot).offset with
    | some x =>
      if s.flag F.WT_CTRL_SERVO_EN then
        let s1 := if !s.anyScans && (decide (1000 * 65536 < x) || decide (x < -(1000 * 65536))) then s.stepWall x else s
        s1.setLeash .acquiring
      else s
    | none => s
  | .acquiring =>
    if (s.slot s.activeSlot).locked then (s.setLeash .leashed).wtFlag F.WT_FLAGS_LEASHED else s
  | .leashed => s
  | .holdover => s.recover
  | .expired => s.recover

/-! ### Samples -/

/-- A Sync measurement of slot `d` is complete (R40, R41): `t1` is the master's time with the corrections, `t2` the
receive stamp. DEDUCED, log 12. -/
def State.sample (s : State) (d : Fin 2) (t1 t2 : Int) : State :=
  let p := { s.slot d with lastSyncT := some (t1, t2) }
  match p.mpd with
  | none => s.setSlot d p
  | some mpd =>
    let asym := signed 32 (s.rd (A.WT_DOM_ASYM d)).toNat * 256
    let raw := t1 + mpd + asym - t2
    let driving := s.disciplined && d == s.activeSlot
    let err := if driving then raw - s.wt.dHeld / 2 ^ 32
      else match p.track with
        | some x => raw - x / 2 ^ 32
        | none => 0
    let sum := p.sum + err
    let adj := s.get F.WT_SERVO_CFG_KP * err * 16 + s.get F.WT_SERVO_CFG_KI * sum
    let lockNs : Int := s.get F.WT_LOCK_CFG_LOCK_NS * 65536
    let inside := decide (-lockNs < err) && decide (err < lockNs)
    let small := if inside then p.small + 1 else 0
    let lost := decide (4 * lockNs ≤ err) || decide (err ≤ -(4 * lockNs))
    let locked := if p.locked then !lost else inside && decide (s.get F.WT_LOCK_CFG_LOCK_COUNT ≤ small)
    let p := { p with
      offset := some raw, sum := sum, adj := adj, adjHist := (adj :: p.adjHist).take 64, small := small
      locked := locked, lockedAt := if p.locked then p.lockedAt else s.wt.cycle
      track := if driving then p.track else some (p.track.getD (raw * 2 ^ 32)) }
    let s := s.setSlot d p
    let s := s.put (F.WT_DOM_STATUS_LOCKED d) (b2n locked)
    let s := s.putSigned31 (A.WT_DOM_OFFSET d) (raw / 256)
    let s :=
      if d == s.standbySlot then
        match (s.slot s.activeSlot).offset with
        | some o =>
          let x := raw - o
          let f := match s.wt.dFilt with
            | some y => y + (x - y) / 16
            | none => x
          { s with wt := { s.wt with dFilt := some f } }.putSigned31 A.WT_DSW_OFFSET (f / 256)
        | none => s
      else s
    s.leashEval

/-- A mean path delay of slot `d` (R35). -/
def State.setMpd (s : State) (d : Fin 2) (x : Int) : State :=
  (s.setSlot d { s.slot d with mpd := some x }).putSigned31 (A.WT_DOM_MPD d) (x / 256)

/-- A write of 1 to WT_CTRL.SNAP (R30). DEDUCED, log 14. -/
def State.snap (s : State) : State :=
  { (s.clr F.WT_SNAP_FRAC_VALID) with wt := { s.wt with snapAt := some (s.wt.wall, s.wt.cycle) } }

/-- SNAP: the counter is copied; VALID reads 0 until the snapshot is ready (R30). -/
def execSnap (s : State) : Out := .next s.snap

/-- SNAPSHOT_READY: four core cycles after SNAP the snapshot is written as one value (R30). DEDUCED, log 14. -/
def execSnapshotReady (s : State) : Out :=
  match s.wt.snapAt with
  | some (w, c) =>
    if c + 4 ≤ s.wt.cycle then
      let ns := w / 2 ^ 48
      let sec := ns / 1000000000
      let s := { s with wt := { s.wt with snapAt := none } }
      let s := s.wr A.WT_SNAP_SEC_HI (BitVec.ofNat 32 (sec / 2 ^ 32))
      let s := s.wr A.WT_SNAP_SEC_LO (BitVec.ofNat 32 sec)
      let s := s.wr A.WT_SNAP_NS (BitVec.ofNat 32 (ns % 1000000000))
      .next (s.wr A.WT_SNAP_FRAC (BitVec.ofNat 32 (w / 2 ^ 32 % 65536 + 2 ^ 31)))
    else .next s
  | none => .next s

/-- No valid Sync has come to slot `d` for SYNC_TIMEOUT Sync intervals (R42), counted from its last valid Sync or the rise
of ENABLE. A slot that is disabled and has had no Sync since it last timed out does not time out.
DESIGN CHOICE, log 177. -/
def State.timeoutDue (s : State) (d : Fin 2) : Bool :=
  let p := s.slot d
  (s.flag (F.WT_DOM_CFG_ENABLE d) || p.synced) && !p.timedOut
    && decide (p.lastSync + max (s.get (F.WT_DOM_CFG_SYNC_TIMEOUT d)) 1 * s.syncCycles d ≤ s.wt.cycle)

/-- Slot `d` times out: it is no longer locked, has no valid offset and awaits no Follow_Up (R41, R42), and the Leash does what R43, R47, R51
and R52 say. DEDUCED, log 17. -/
def State.slotTimesOut (s : State) (d : Fin 2) : State :=
  let p := s.slot d
  let s := s.setSlot d
    { p with timedOut := true, synced := false, locked := false, small := 0, offset := none, twoStep := none }
  let s := ((s.set (F.WT_DOM_STATUS_TIMEOUT d)).clr (F.WT_DOM_STATUS_LOCKED d)).clr ⟨A.WT_DOM_OFFSET d, 31, 1⟩
  if d == s.activeSlot then
    match s.leash with
    | .acquiring => s.undrive.setLeash .unleashed
    | .leashed =>
      if s.standbyOk && s.flag F.WT_CTRL_AUTO_SWITCH then s.domainSwitch s.standbySlot else s.enterHoldover
    | _ => s
  else s

/-- Slot `d` times out where it is due. -/
def State.timeoutCheck (s : State) (d : Fin 2) : State := if s.timeoutDue d then s.slotTimesOut d else s

/-- SLOT_TIMEOUT: no valid Sync for SYNC_TIMEOUT intervals (R42). -/
def execSlotTimeout (d : Fin 2) (s : State) : Out := .next (s.timeoutCheck d)

/-- A write to WT_CTRL.ACTIVE_DOM (R50), after the slot timeouts that are due (R51). -/
def State.requestDom (s : State) (d : Fin 2) : State :=
  let s := forAll (fins 2) s State.timeoutCheck
  if d == s.activeSlot then s
  else if s.standbyOk then s.domainSwitch d
  else s.wtFlag F.WT_FLAGS_DSW_REFUSED

/-- ACTIVE_DOM: the switch to the standby slot if it is usable, refused with DSW_REFUSED otherwise (R50). -/
def execActiveDom (d : Fin 2) (s : State) : Out := .next (s.requestDom d)

/-- A write of WT_CTRL.SERVO_EN (R43); a write of 0 ends what STEP_NEEDED barred (R44). -/
def State.writeServoEn (s : State) (en : Bool) : State :=
  let s := s.put F.WT_CTRL_SERVO_EN (b2n en)
  if en then s.leashEval
  else
    let s := s.undrive
    { s with wt := { s.wt with stuck := false } }.setLeash .unleashed

/-- SERVO_EN. -/
def execServoEn (en : Bool) (s : State) : Out := .next (s.writeServoEn en)

/-- A write of a slot's WT_DOMd_CFG has raised its ENABLE: its timeout counts from here. DESIGN CHOICE, log 177. -/
def State.slotEnabled (s : State) (d : Fin 2) : State := s.setSlot d { s.slot d with lastSync := s.wt.cycle }

/-- HOLDOVER_EXPIRED: holdover time has reached HO_LIMIT_S (R43). -/
def execHoldoverExpired (s : State) : Out :=
  if s.get F.WT_STATUS_LEASH = 3 ∧ s.get F.WT_HO_CFG_HO_LIMIT_S * cyclesPerSec ≤ s.wt.hoCycles then
    .next ((s.setLeash .expired).wtFlag F.WT_FLAGS_EXPIRED)
  else .next s

/-- WT_DSW_SLEW_AT in units of 2^-16 ns. -/
def State.slewAt (s : State) : Int :=
  ((((s.rd A.WT_DSW_SLEW_AT_SEC_HI).toNat * 2 ^ 32 + (s.rd A.WT_DSW_SLEW_AT_SEC_LO).toNat) * 1000000000
    + (s.rd A.WT_DSW_SLEW_AT_NS).toNat) * 65536 : Nat)

/-- D_held lies at WT_DSW_TARGET. -/
def State.slewDone (s : State) : Bool := decide (s.wt.dHeld = signed 32 (s.rd A.WT_DSW_TARGET).toNat * 2 ^ 40)

/-- DSW_SLEW_START: wall time has reached WT_DSW_SLEW_AT and D_held begins to move at a non-zero rate (R48). -/
def execDswSlewStart (s : State) : Out :=
  if s.reached s.slewAt && !s.flag F.WT_STATUS_DSW_SLEWING && decide (s.get F.WT_DSW_SLEW_RATE_RATE ≠ 0)
      && !s.slewDone then
    .next (s.set F.WT_STATUS_DSW_SLEWING)
  else .next s

/-- DSW_SLEW_END: D_held has reached WT_DSW_TARGET (R48). -/
def execDswSlewEnd (s : State) : Out :=
  if s.flag F.WT_STATUS_DSW_SLEWING && s.slewDone then
    .next ((s.clr F.WT_STATUS_DSW_SLEWING).wr A.WT_DSW_HELD (BitVec.ofInt 32 (s.wt.dHeld / 2 ^ 40)))
  else .next s

/-- A write to a cadence register or SCAN_VTIMING: discarded with STALE_WRITE where `locked`, a quadrant scanning (R55,
R238), else applied, and pending line waits and alarms are re-evaluated (R79). DEDUCED, log 23. -/
def State.writeCadence (s : State) (a : Nat) (v : Word) (locked : Bool) : State :=
  if locked then
    if a = A.SCAN_VTIMING then s.set F.SCAN_TMG_FLAGS_STALE_WRITE else s.wtFlag F.WT_FLAGS_STALE_WRITE
  else
    let due := s.latchDue
    let s := s.wr a (if a = A.SCAN_VTIMING then v &&& 0x3fff3fff else v)
    ({ s with frame := { s.frame with latch := none, line := none, from_ := s.wall16 } }.latchMoved due).reTargetAll

/-- The five registers of CADENCE_WRITE. -/
def cadenceReg (r : Fin 5) : Nat :=
  match r with
  | 0 => A.CAD_EPOCH_HI | 1 => A.CAD_EPOCH_LO | 2 => A.CAD_P | 3 => A.CAD_Q | 4 => A.SCAN_VTIMING

/-- CADENCE_WRITE: the lock holds where a quadrant scans, or did at the end of the core cycle before (R516). -/
def execCadenceWrite (r : Fin 5) (v : Word) (s : State) : Out :=
  .next (s.writeCadence (cadenceReg r) v (s.anyScans || s.atCycleStart.anyScans))

end Sys2Proof.Machine
end

