-- ==== Sys2Proof/Machine/TimedEvents.lean ====
section
/-!
DEFINITION. Sys2Proof/Machine/TimedEvents.lean: the 32 timed-event slots (R57 to R60, R559), the scan starts they
arm (R240), and the captures (R61, R62).
-/

namespace Sys2Proof.Machine

/-! ### Scan starts -/

/-- Quadrant `n`'s scan engine. -/
def State.scanU (s : State) (n : QuadId) : ScanUnit := s.scan[n]

/-- Quadrant `n`'s scan engine replaced; Qn_SCAN_STATUS.STATE reports its state. -/
def State.setScan (s : State) (n : QuadId) (u : ScanUnit) : State :=
  { s with scan := s.scan.set n u }.put (F.SCAN_STATUS_STATE n)
    (match u.run with | .stopped => 0 | .armed => 1 | .running => 2 | .stopping => 3)

/-- The armed slots whose target is the scan start of quadrant `n`, but for those armed without a valid cadence, which
have no effect on the scan (R240). -/
def State.startSlots (s : State) (n : QuadId) : List (Fin 32) :=
  (fins 32).filter fun e =>
    s.flag (F.WT_EVT_CTRL_ARM e) && s.get (F.WT_EVT_CTRL_TARGET e) == 19 + n.val && !s.wt.evts[e].noScan

/-- The earliest of the slots `l` by target (R240). -/
def State.earliest (s : State) : List (Fin 32) → Option (Fin 32)
  | [] => none
  | e :: t =>
    match s.earliest t with
    | none => some e
    | some e' => if s.evtTarget e' < s.evtTarget e then some e' else some e

/-- The first frame k, from `k` on, whose start is not before `x`: F(k) is truncated, so the frame after the exact
quotient is tried second. -/
def State.firstFrameFrom (s : State) (x : Int) : Int :=
  let e : Int := (s.cadEpoch : Int) * secUnits
  let k := ((x - e) * s.cadQ) / ((s.cadP * secUnits : Nat) : Int)
  if x ≤ s.frameAt k then k else if x ≤ s.frameAt (k + 1) then k + 1 else k + 2

/-- The start frame for target `x` armed at `arm`, and whether it is not the first frame at or after the target
(R240). -/
def State.startFrame (s : State) (x arm : Int) : Int × Bool :=
  let k1 := s.firstFrameFrom x
  if arm < s.latchAt k1 then (k1, false)
  else
    -- the first frame whose latch lies after the arming instant
    let k2 := s.firstFrameFrom (arm + (s.frameAt 0 - s.latchAt 0))
    let k := if arm < s.latchAt k2 then k2 else if arm < s.latchAt (k2 + 1) then k2 + 1 else k2 + 2
    (max k k1, true)

/-- The start of quadrant `n` refused with REASON `r` (R240, R241). -/
def State.refuseStart (s : State) (n : QuadId) (r : Nat) (frame : Nat) : State :=
  let s := (s.set (F.SCAN_FLAGS_REFUSED n)).wr (A.SCAN_REFUSE n) (BitVec.ofNat 32 (r + 2 ^ 31))
  (s.quadEvent n 0x35 2 frame).sqsEvent 0x35 2 frame

/-- 2^31 ns in units of 2^-16 ns (R58, R81). DEDUCED, log 18. -/
def farPast : Int := 2 ^ 31 * 65536

/-- The start frame that slot `e` fixes (R240). Under U11 it is free: a frame whose latch is past, so that the quadrant
never starts, or any later one. DEDUCED, log 18. -/
def State.slotStart (s : State) (e : Fin 32) : (Int × Bool) × State :=
  let x := s.evtTarget e
  let arm : Int := (s.evt e).armedAt / 2 ^ 32
  let k := s.startFrame x arm
  if arm - x ≤ farPast then (k, s)
  else
    let (d, s) := s.draw 32
    ((k.1 - 1 + d, k.2), s)

/-- What the armed scan-start slots of quadrant `n` make of it, after one of them has become armed or was disarmed (R239,
R240). A slot that has fired is no longer armed and no longer counts, also where its start frame is yet to come.
DESIGN CHOICE, log 211. -/
def State.armScan (s : State) (n : QuadId) : State :=
  let u := s.scanU n
  match u.run with
  | .running => s
  | .stopping => s
  | _ =>
    if s.cadenceOk then
      match s.earliest (s.startSlots n) with
      | none => s
      | some e =>
        let ((k0, late), s) := s.slotStart e
        ((s.setScan n { u with run := .armed, k0 := some k0 })).setIf late (F.SCAN_FLAGS_START_LATE n)
    else
      match u.run with
      | .stopped => s.refuseStart n 2 0
      | _ => s

/-- A scan-start slot of quadrant `n` was disarmed: an ARMED quadrant with none left stops, with others left takes
the earliest (R239, R240). -/
def State.disarmScan (s : State) (n : QuadId) : State :=
  let u := s.scanU n
  match u.run with
  | .armed => if (s.startSlots n).isEmpty then s.setScan n { u with run := .stopped, k0 := none } else s.armScan n
  | _ => s

/-! ### Timed-event slots -/

/-- The fields a write of a slot's control word clears by ones: LATE and COLLIDE (R559). -/
def State.evtW1c (s : State) (e : Fin 32) (v : Word) : State :=
  let s := if field v 16 1 = 1 then s.wipe (F.WT_EVT_CTRL_LATE e) else s
  if field v 17 1 = 1 then s.wipe (F.WT_EVT_CTRL_COLLIDE e) else s

/-- The slot becomes armed now with its target registers as they stand (R559). A target in the past fires at once,
late (R58); one more than 2^31 ns in the past is U11: it fires at once, at a free instant up to 2^32 ns later, or
never, with LATE either way. DEDUCED, log 18. -/
def State.armEvt (s : State) (e : Fin 32) : State :=
  let now : Int := s.wall16
  let x := s.evtTarget e
  let target := s.get (F.WT_EVT_CTRL_TARGET e)
  let s := (s.set (F.WT_EVT_CTRL_ARM e)).setEvt e 
    { s.evt e with due := .target, armedAt := s.wt.wall, lateTo := none, noScan := !s.cadenceOk }
  let s := if h : 19 ≤ target ∧ target < 23 then s.armScan ⟨target - 19, by omega⟩ else s
  if 28 ≤ target then s
  else if now ≤ x then s
  else if now - x ≤ farPast then s.fireEvt e s.wall16 true
  else
    let (r, s) := s.draw 2
    let (late, s) := s.draw 1
    if r = 0 then s.fireEvt e s.wall16 (late == 1)
    else
      let s := if late = 1 then (s.set (F.WT_EVT_CTRL_LATE e)).wtFlag F.WT_FLAGS_EVT_LATE else s
      if r = 1 then
        let (d, s) := s.draw 48
        s.setEvt e { s.evt e with due := .free (some (s.wall16 + d)) }
      else s.setEvt e { s.evt e with due := .free none }

/-- ACTION and TARGET of slot `e` written, kept with STALE_WRITE where they are `locked` and differ (R559). -/
def State.writeEvtFields (s : State) (e : Fin 32) (v : Word) (locked : Bool) : State :=
  if locked then
    let differs := decide (field v 1 2 ≠ s.get (F.WT_EVT_CTRL_ACTION e))
      || decide (field v 8 6 ≠ s.get (F.WT_EVT_CTRL_TARGET e))
    if differs then s.wtFlag F.WT_FLAGS_STALE_WRITE else s
  else (s.put (F.WT_EVT_CTRL_ACTION e) (field v 1 2)).put (F.WT_EVT_CTRL_TARGET e) (field v 8 6)

/-- Slot `e` disarmed by a write of ARM = 0 (R559). -/
def State.disarmEvt (s : State) (e : Fin 32) : State :=
  let target := s.get (F.WT_EVT_CTRL_TARGET e)
  let s := s.clr (F.WT_EVT_CTRL_ARM e)
  if h : 19 ≤ target ∧ target < 23 then s.disarmScan ⟨target - 19, by omega⟩ else s

/-- A write to WT_EVTs_CTRL (R559), ACTION and TARGET being `locked` or not (R516). -/
def State.writeEvtCtrl (s : State) (e : Fin 32) (v : Word) (locked : Bool) : State :=
  let armed := s.flag (F.WT_EVT_CTRL_ARM e)
  let s := (s.evtW1c e v).writeEvtFields e v locked
  if field v 0 1 = 1 then (if armed then s else s.armEvt e)
  else if armed then s.disarmEvt e
  else s

/-- Slot `e` is armed, or was at the end of the core cycle before (R516, R559). -/
def State.evtLocked (s : State) (e : Fin 32) : Bool :=
  s.flag (F.WT_EVT_CTRL_ARM e) || s.atCycleStart.flag (F.WT_EVT_CTRL_ARM e)

/-- EVT_ARM: a control word with ARM = 1 is written. -/
def execEvtArm (e : Fin 32) (v : Word) (s : State) : Out := .next (s.writeEvtCtrl e (v ||| 1) (s.evtLocked e))

/-- EVT_DISARM: a control word with ARM = 0 is written. -/
def execEvtDisarm (e : Fin 32) (v : Word) (s : State) : Out := .next (s.writeEvtCtrl e (v &&& ~~~1) (s.evtLocked e))

/-- The instant `x` was passed already when slot `e` last fired late (R45). DEDUCED, log 180. -/
def EvtSlot.passed (v : EvtSlot) (x : Int) : Bool := match v.lateTo with | some y => decide (x ≤ y) | none => false

/-- EVENT_FIRE: wall time has reached the target of an armed slot whose target is not reserved (R57); late where the
target was passed with an earlier one of the slot (R45). DESIGN CHOICE, log 5; DEDUCED, log 180. -/
def execEventFire (e : Fin 32) (s : State) : Out :=
  if s.flag (F.WT_EVT_CTRL_ARM e) && decide (s.get (F.WT_EVT_CTRL_TARGET e) < 28) then
    match s.evtDue e with
    | some x =>
      let late := (s.evt e).passed x
      if s.reached x then .next (s.fireEvt e (if late then s.wall16 else x.toNat) late) else .next s
    | none => .next s
  else .next s

/-- PULSE_END: WIDTH after a pulse action the target it drove is driven low (R57). DEDUCED, log 175. -/
def execPulseEnd (e : Fin 32) (s : State) : Out :=
  match (s.evt e).pulseEnd with
  | some x =>
    if s.reached x then
      let p := (s.evt e).pulseTarget
      let s := s.setEvt e { s.evt e with pulseEnd := none }
      if h : p.val < 16 then .next (s.pinEdge e ⟨p, h⟩ x false)
      else .next { s with pins := { s.pins with camTrig := s.pins.camTrig.set (p.val - 16) false (by omega) } }
    else .next s
  | none => .next s

/-! ### Captures -/

/-- The stamp of an edge now: the wall time at its ball, or at the D-PHY receiver's end for sources 16 and 17,
truncated to 0.25 ns (R30, R61). DEDUCED, log 21. -/
def State.capStamp (s : State) : Nat := s.wall16 / 16384 * 16384

/-- A stamp lies less than 2.5 ns from the last captured edge of its source (R62). DEDUCED, log 21. -/
def State.capNear (s : State) (src : Fin 22) (x : Nat) : Bool :=
  match s.wt.capPrev[src] with
  | some y => decide ((x : Int) - y < collideUnits) && decide (y - x < collideUnits)
  | none => false

/-- An edge of an enabled kind on source `src`: pushed with its stamp, or counted as an overflow (R61, R62). -/
def State.captureEdge (s : State) (src : Fin 22) (rising : Bool) : State :=
  let wanted := s.flag (F.WT_CAP_CFG_ENABLE src)
    && (if rising then s.flag (F.WT_CAP_CFG_RISE src) else s.flag (F.WT_CAP_CFG_FALL src))
  if wanted then
    let x := s.capStamp
    if s.capNear src x then s.count F.WT_CAP_STATUS_OVERFLOW
    else
      let s : State := { s with wt := { s.wt with capPrev := s.wt.capPrev.set src (some (x : Int)) } }
      if s.wt.capFifo.length < 256 then
        { s with wt := { s.wt with capFifo := s.wt.capFifo ++ [{ stamp := x, src := src, rising := rising, born := some s.wt.cycle }] } }
      else s.count F.WT_CAP_STATUS_OVERFLOW
  else s

/-- The level that an edge leaves on a TGPIO ball that is an input (R535). DESIGN CHOICE, log 20. -/
def State.gpioLevel (s : State) (src : Fin 22) (level : Bool) : State :=
  if src.val < 16 ∧ ¬ bit (s.rd A.GPIO_DIR).toNat src then
    let was := s.pins.gpioIn.toNat
    let new := if level then withBit was src else if bit was src then was - 2 ^ src.val else was
    { s with pins := { s.pins with gpioIn := BitVec.ofNat 16 new } }
  else s

/-- CAPTURE. DESIGN CHOICE, log 20. -/
def execCapture (src : Fin 22) (rising : Bool) (s : State) : Out :=
  .next ((s.gpioLevel src rising).captureEdge src rising)

/-- The entry that the capture FIFO's pop window shows: the head, the last entry when it is empty (R62, R126). -/
def State.capHead (s : State) : CapEntry := s.wt.capFifo.headD s.wt.capLast

/-- Word `i` of a captured entry (WT_CAP_W0 to W3). -/
def CapEntry.word (e : CapEntry) (i : Nat) : Word :=
  let ns := e.stamp / 65536
  match i with
  | 0 => BitVec.ofNat 32 (ns / 1000000000 / 2 ^ 32)
  | 1 => BitVec.ofNat 32 (ns / 1000000000)
  | 2 => BitVec.ofNat 32 (ns % 1000000000)
  | _ => BitVec.ofNat 32 (e.stamp % 65536 + e.src * 2 ^ 16 + b2n e.rising * 2 ^ 21)

/-- The capture FIFO holds an entry that a pop of this core cycle takes: one pushed in an earlier one (R126). -/
def State.capReady (s : State) : Option CapEntry :=
  match s.wt.capFifo with
  | e :: _ => if e.born = some s.wt.cycle then none else some e
  | [] => none

/-- A read of WT_CAP_W3: the head is removed; an empty FIFO sets UNDERRUN (R62, R126). -/
def State.popCapture (s : State) : Word × State :=
  match s.capReady with
  | some e => (e.word 3, { s with wt := { s.wt with capFifo := s.wt.capFifo.tail, capLast := e } })
  | none => (s.wt.capLast.word 3, s.set F.WT_CAP_STATUS_UNDERRUN)

/-- CAP_POP. -/
def execCapPop (s : State) : Out := .next s.popCapture.2

end Sys2Proof.Machine
end

