-- ==== Sys2Proof/Machine/Reach.lean ====
section
/-!
DEFINITION. Sys2Proof/Machine/Reach.lean: the register space: its blocks (R509), what an access of a master
reaches (R65, R66, R70 to R72, R510), the block an access belongs to (R67), and the GO registers with the engines
they start (R73).
-/

namespace Sys2Proof.Machine

/-- The system blocks: first and last byte address (the System block index). -/
def sysBlocks : List (Nat × Nat) := [
  (0x000000, 0x000FFF), (0x010000, 0x012FFF), (0x020000, 0x020FFF), (0x030000, 0x030FFF), (0x060000, 0x060FFF),
  (0x070000, 0x070FFF), (0x080000, 0x080FFF), (0x090000, 0x090FFF), (0x0A0000, 0x0A0FFF), (0x0A8000, 0x0AFFFF),
  (0x0B0000, 0x0B0FFF), (0x0B8000, 0x0BBFFF), (0x0C0000, 0x0C0FFF), (0x0D0000, 0x0D0FFF), (0x0E0000, 0x0E1FFF),
  (0x0E4000, 0x0E5FFF), (0x0F0000, 0x0F0FFF), (0x100000, 0x100FFF), (0x110000, 0x110FFF), (0x120000, 0x120FFF),
  (0x130000, 0x130FFF), (0x140000, 0x140FFF), (0x150000, 0x150FFF), (0x600000, 0x7FFFFF), (0x800000, 0x9FFFFF),
  (0xE00000, 0xEFFFFF), (0xF00000, 0xFFFFFF)]

/-- The blocks of a quadrant: first and last offset (the Quadrant block index). -/
def quadBlocks : List (Nat × Nat) := [
  (0x005000, 0x005FFF), (0x006000, 0x006FFF), (0x007000, 0x007FFF), (0x008000, 0x008FFF), (0x009000, 0x009FFF),
  (0x00A000, 0x00AFFF), (0x00B000, 0x00BFFF), (0x00C000, 0x00CFFF), (0x00D000, 0x00DFFF), (0x00E000, 0x00EFFF),
  (0x00F000, 0x00FFFF), (0x100000, 0x147FFF), (0x180000, 0x18FFFF)]

/-- The first address of the block of `l` that holds `a`. -/
def blockIn (l : List (Nat × Nat)) (a : Nat) : Option Nat :=
  (l.find? (fun b => decide (b.1 ≤ a) && decide (a ≤ b.2))).map (·.1)

/-- The first address of quadrant `n`. -/
def quadBase (n : QuadId) : Nat := 0x1000000 + 0x400000 * n.val

/-- The block, named by its first address, that holds the absolute address `a`; none where `a` is unmapped. -/
def blockOf (a : Nat) : Option Nat :=
  if a < 0x1000000 then blockIn sysBlocks a
  else if a < 0x2000000 then
    let off := a % 0x400000
    (blockIn quadBlocks off).map (· + (a - off))
  else none

/-- What an access reaches: registers by absolute address, nothing that is mapped, or nothing at all because it
lies outside the master's reach or is a Whistle access of a quadrant's sequencer. -/
inductive Access where
  | regs (l : List Nat)
  | unmapped (a : Nat)
  | outside
  | whistle
deriving DecidableEq, Repr

/-- A master's WHISTLE_MASK (R70); the board port acts with SQS's copy. DESIGN CHOICE, log 36. -/
def State.whistleMask (s : State) (m : Master) : Nat :=
  match m with
  | .host => s.whistleHost
  | _ => s.get ⟨A.WHISTLE_MASK, 0, 4⟩

/-- Byte address `a` lies in the Whistle alias. -/
def inWhistle (a : Nat) : Bool :=
  let a := a % 0x4000000
  decide (0x2000000 ≤ a) && decide (a < 0x2400000)

/-- An access of quadrant `n`'s sequencer to absolute address `a` (R65). -/
def reachSq (n : QuadId) (a : Nat) (write : Bool) : Access :=
  match blockOf a with
  | none => .unmapped a
  | some b =>
    if 0xF00000 ≤ a ∧ a < 0x1000000 then .outside
    else if 0x1000000 ≤ a then
      if quadBase n ≤ a ∧ a < quadBase n + 0x400000 then .regs [a] else .outside
    else if write then
      if b = 0x20000 ∧ (fins 5).any (fun e => decide (a = A.SEQ_POST e)) then .regs [a] else .outside
    else .regs [a]

/-- An access of SQS, the host or the board port to absolute address `a` (R65). -/
def reachWide (a : Nat) : Access :=
  match blockOf a with
  | none => .unmapped a
  | some _ => if 0xF00000 ≤ a ∧ a < 0x1000000 then .outside else .regs [a]

/-- What an access of master `m` at byte address `a` reaches, with `mask` the master's WHISTLE_MASK (R65, R66, R70 to
R72). -/
def reachWith (mask : Nat) (m : Master) (a : Nat) (write : Bool) : Access :=
  let a := a % 0x4000000 / 4 * 4
  if 0x2000000 ≤ a ∧ a < 0x2400000 then
    match m with
    | .sq _ => .whistle
    | _ =>
      let off := a - 0x2000000
      let l := (allQuads.filter (fun n => bit mask n.val)).map (fun n => quadBase n + off)
      match l, blockIn quadBlocks off with
      | x :: _, none => .unmapped x
      | l, _ => .regs l
  else if 0x3000000 ≤ a ∧ a < 0x3400000 then
    match m with
    | .sq n => reachSq n (quadBase n + (a - 0x3000000)) write
    | _ => .outside
  else
    match m with
    | .sq n => reachSq n a write
    | .rot => match blockOf a with | none => .unmapped a | some _ => .regs [a]
    | _ => reachWide a

/-- The board port reaches registers within the scopes that an UNLOCK has opened (R2, R445). -/
def State.boardScope (s : State) (m : Master) (write : Bool) : Bool :=
  match m with
  | .board => if write then s.flag F.SEC_STATUS_BOARD_WRITE else s.flag F.SEC_STATUS_BOARD_READ
  | _ => true

/-- What an access of master `m` at byte address `a` reaches (R2, R65, R66, R70 to R72): nothing while the device is held. -/
def State.reach (s : State) (m : Master) (a : Nat) (write : Bool) : Access :=
  match reachWith (s.whistleMask m) m a write with
  | .whistle => .whistle
  | x => if s.boardScope m write && !s.held then x else .outside

/-- The blocks an access of master `m` at `a` belongs to, with `mask` its WHISTLE_MASK, which orders every Whistle access
(R67, R511). -/
def accessBlocks (mask : Nat) (m : Master) (a : Nat) (write : Bool) : List Nat :=
  let seqBlock := if inWhistle a then [0x20000] else []
  match reachWith mask m a write with
  | .regs l => l.filterMap blockOf ++ seqBlock
  | _ => seqBlock

/-! ### Accesses of one core cycle -/

/-- A master's place in the order of writes of one core cycle (R68, R538); the root of trust acts before the host.
DESIGN CHOICE, log 6. -/
def masterRank : Master → Nat
  | .sq n => n.val
  | .sqs => 4
  | .rot => 5
  | .host => 6
  | .board => 7

/-- The register that an access reaches: WHISTLE_MASK is banked, so the host's copy is one of its own (R70). -/
def bankedAddr (m : Master) (a : Nat) : Nat :=
  match m with
  | .host => if a = A.WHISTLE_MASK then a + 1 else a
  | _ => a

/-- The writes of the present core cycle that have reached the register at `a`. -/
def State.cycleWrites (s : State) (a : Nat) : List BusAccess :=
  s.busNow.writes.filter fun b => b.addr == a

/-- The pops of the present core cycle at `a`. -/
def State.cyclePops (s : State) (a : Nat) : List BusAccess :=
  s.busNow.pops.filter fun b => b.addr == a

/-- Writes of the present core cycle are noted. -/
def State.noteWrites (s : State) (l : List BusAccess) : State :=
  if l.isEmpty then s else { s with bus := { s.busNow with writes := s.busNow.writes ++ l } }

/-- A pop of the present core cycle is noted. -/
def State.notePop (s : State) (b : BusAccess) : State :=
  { s with bus := { s.busNow with pops := s.busNow.pops ++ [b] } }

/-! ### GO registers -/

/-- A GO register and the flag that says its engine is busy (R73, R145, R199, R357, R407, R412). -/
def goRegs : List (Nat × Fld) :=
  [(A.GEO_LOAD_GO, F.GEO_STATUS_LOAD_BUSY), (A.CAL_RX_GO, F.CAL_RX_STATUS_BUSY)]
    ++ allQuads.flatMap fun (n : QuadId) =>
      [(A.SYN_GO n.val, F.SYN_STATUS_BUSY n.val), (A.BLT_GO n.val, F.BLT_STATUS_BUSY n.val),
       (A.CAL_GO n.val, F.CAL_STATUS_BUSY n.val)]

/-- The engine that the GO register at absolute address `a` starts is busy; a hold keeps Qn_CAL_GO busy (R407). -/
def State.engineBusy (s : State) (a : Nat) : Bool :=
  goRegs.any (fun g => g.1 == a && s.flag g.2)
    || allQuads.any fun (n : QuadId) => a == A.CAL_GO n && decide ((s.dram[n]).cal ≠ .none)

/-- An absolute address is that of a GO register. -/
def isGo (a : Nat) : Bool := goRegs.any (fun g => g.1 == a)

/-- A sequencer's write to address `a` is a GO write (R105): the register behind the alias, or behind Whistle
whatever the mask selects, is a GO register. -/
def goAddr (a : Nat) : Bool :=
  let a := a % 0x4000000 / 4 * 4
  if 0x2000000 ≤ a ∧ a < 0x2400000 then isGo (a - 0x1000000)
  else if 0x3000000 ≤ a ∧ a < 0x3400000 then isGo (a - 0x2000000)
  else isGo a

/-- Access `b` has started its engine in this core cycle, and a write of master `m`, through Whistle or directly, does not
find the engine busy for it: one of a master that comes earlier in R68's order (R357), or one that came the other way (case
U04). -/
def BusAccess.yields (b : BusAccess) (m : Master) (whistle : Bool) : Bool :=
  decide (masterRank m < b.rank) || (b.whistle != whistle && b.rank != masterRank m)

/-- An engine that a write of master `m` to `a` would start is busy (R73, R357, R512). -/
def State.goBusy (s : State) (m : Master) (a : Nat) : Bool :=
  match s.reach m a true with
  | .regs l => l.any fun x => s.engineBusy x && !((s.cycleWrites x).any fun b => b.yields m (inWhistle a))
  | _ => false

/-- The master that sequencer `q` is. -/
def masterOf (q : SeqId) : Master := if h : q.val < 4 then .sq ⟨q.val, h⟩ else .sqs

/-- The write that a stalled sequencer has under way waits for a busy engine under R73. DEDUCED, log 31. -/
def State.stalledOnBusy (s : State) (q : SeqId) : Bool :=
  match (s.seq q).busy with
  | .go a _ _ _ => s.goBusy (masterOf q) a
  | _ => false

/-! ### Registers that RMW may not touch -/

/-- The register at absolute address `a` contains a W1C, write-only or popping field (R69, R107). -/
def rmwForbidden (a : Nat) : Bool :=
  match regRow a with
  | some r => r.wo || r.w1c != 0 || a == A.DFL_CPL_W 3
  | none => false

/-- An RMW at byte address `a` by master `m` is to a register that R69 forbids; one through Whistle is judged by the
register at its offset, whatever the mask selects. -/
def rmwBars (m : Master) (a : Nat) : Bool :=
  match reachWith 15 m a true with
  | .regs l => l.any rmwForbidden
  | _ => false

end Sys2Proof.Machine
end

