-- ==== Sys2Proof/Machine/Geometry.lean ====
section
/-!
DEFINITION. Sys2Proof/Machine/Geometry.lean: the panel geometry and its check (R137), the hogel geometry table, its
window and holding registers (R141, R142), GEO_LOAD (R145, R146), the size and place of map banks (R223, R227, R234), the corrected tangents (R143) and sample
positions (R149). DRAM is written through `writeWord`, which first lets a geometry load in progress come as far as
it may have come.
-/

namespace Sys2Proof.Machine

/-! ### Panel geometry -/

/-- H. -/
def State.hogelCols (s : State) : Nat := s.get F.GEO_PANEL_HCOLS
/-- V. -/
def State.hogelRows (s : State) : Nat := s.get F.GEO_PANEL_VROWS
/-- Nu. -/
def State.dirCols (s : State) : Nat := s.get F.GEO_DIRS_NU
/-- Nv. -/
def State.dirRows (s : State) : Nat := s.get F.GEO_DIRS_NV

/-- The first failing check of R137, 0 for none: GEO_STATUS.BAD. -/
def State.geoBad (s : State) : Nat :=
  let h := s.hogelCols
  let v := s.hogelRows
  let nu := s.dirCols
  let nv := s.dirRows
  if ¬ (4 ≤ h ∧ h ≤ 1024 ∧ h % 4 = 0) then 1
  else if ¬ (1 ≤ v ∧ v ≤ 512) then 2
  else if ¬ (1 ≤ nu ∧ nu ≤ 128) then 3
  else if ¬ (1 ≤ nv ∧ nv ≤ 16) then 4
  else if ¬ (h * nu * 3 * (v * nv) ≤ 2 ^ 31) then 5
  else if ¬ (h * v ≤ 262144) then 6
  else 0

/-- GEO_STATUS.CONFIG_OK. -/
def State.geoOk (s : State) : Bool := s.geoBad == 0

/-! ### The geometry table -/

/-- The record of index `x` as its two words hold it. -/
def State.geoRecord (s : State) (x : Nat) : Nat :=
  (s.rd (0x800000 + 8 * x)).toNat + (s.rd (0x800000 + 8 * x + 4)).toNat * 2 ^ 32

/-- Record `x` is rewritten: it no longer fails its parity (R147). -/
def State.geoMend (s : State) (x : Nat) : State :=
  if s.geo.bad.contains x then { s with geo := { s.geo with bad := s.geo.bad.filter (· ≠ x) } } else s

/-- Record `x` placed whole. -/
def State.putRecord (s : State) (x : Nat) (lo hi : Word) : State :=
  ((s.wr (0x800000 + 8 * x) lo).wr (0x800000 + 8 * x + 4) hi).geoMend x

/-- The number of a master's holding register (R142); the root of trust, which R521 keeps out of the window,
shares the host's. -/
def holdOf : Master → Fin 7
  | .sq n => ⟨n.val, by omega⟩
  | .sqs => 4
  | .host => 5
  | .board => 6
  | .rot => 5

/-- A write to the window while a load is busy is discarded (R142). -/
def State.geoStale (s : State) : State := s.set F.GEO_STATUS_STALE_WRITE

/-- A write of a low word (R142). -/
def State.geoLow (s : State) (m : Master) (x : Nat) (v : Word) : State :=
  if s.flag F.GEO_STATUS_LOAD_BUSY then s.geoStale
  else { s with geo := { s.geo with hold := s.geo.hold.set (holdOf m) (some (x, v)) } }

/-- A write of a high word places both words of the record (R142). -/
def State.geoHigh (s : State) (m : Master) (x : Nat) (v : Word) : State :=
  if s.flag F.GEO_STATUS_LOAD_BUSY then s.geoStale
  else
    match s.geo.hold[holdOf m] with
    | some (y, lo) =>
      if y = x then
        let s := s.putRecord x lo v
        { s with geo := { s.geo with hold := s.geo.hold.set (holdOf m) none } }
      else (s.wr (0x800000 + 8 * x + 4) v).geoMend x
    | none => (s.wr (0x800000 + 8 * x + 4) v).geoMend x

/-! ### GEO_LOAD -/

/-- The source quadrant of a load. -/
def State.geoQuad (s : State) : QuadId := ⟨s.get F.GEO_LOAD_CFG_QUAD % 4, Nat.mod_lt _ (by decide)⟩

/-- The next `k` records of load `g` copied from DRAM, each as it stands there now; a marked word gives 64 zero
bytes (R145, R400). DEDUCED, log 166. -/
def State.geoCopy (s : State) (g : GeoLoad) : Nat → GeoLoad × State
  | 0 => (g, s)
  | k + 1 =>
    let (b, _, s) := s.readBytes g.quad (g.src + 8 * g.placed) 8
    let s := s.putRecord (g.first + g.placed) (BitVec.ofNat 32 (leNat (b.take 4))) (BitVec.ofNat 32 (leNat (b.drop 4)))
    s.geoCopy { g with placed := g.placed + 1 } k

/-- A load in progress comes some way: how many records it has copied since is not stated, a free value; none while its
source quadrant serves no read (R386, R409). DEDUCED, log 166. -/
def State.geoAdvance (s : State) : State :=
  match s.geo.load with
  | some g =>
    if s.flag F.GEO_STATUS_LOAD_BUSY ∧ g.placed < g.count ∧ s.dramServes g.quad then
      let (k, s) := s.draw 32
      let (g, s) := s.geoCopy g (k % (g.count - g.placed + 1))
      { s with geo := { s.geo with load := some g } }
    else s
  | none => s

/-- The interval list `l` without [a, b). -/
def cutInterval (a b : Nat) (l : List (Nat × Nat)) : List (Nat × Nat) :=
  l.flatMap fun (x, y) =>
    (if x < min y a then [(x, min y a)] else []) ++ (if max x b < y then [(max x b, y)] else [])

/-- GEO_LOAD_FRAME is written, and LOAD_VALID set, once every loaded record of index below H·V, as GEO_PANEL now gives
it, has been read after it was loaded (R146). DEDUCED, log 166. -/
def State.geoSettle (s : State) : State :=
  match s.geo.load with
  | some g =>
    if s.flag F.GEO_STATUS_LOAD_BUSY then s
    else if (cutInterval (s.hogelCols * s.hogelRows) 262144 g.unread).isEmpty then
      let f : Nat := match g.frame with
        | some k => unsigned 32 k
        | none => s.frameIndex
      let s := (s.wr A.GEO_LOAD_FRAME (BitVec.ofNat 32 f)).set F.GEO_STATUS_LOAD_VALID
      { s with geo := { s.geo with load := none } }
    else s
  | none => s

/-- GEO_LOAD_GO takes effect (R145): a load beyond the table is refused; one of no record completes at once, with
LOAD_VALID set and the current frame in GEO_LOAD_FRAME. DESIGN CHOICE, log 189. -/
def State.geoGo (s : State) (v : Word) : State :=
  if field v 0 1 = 1 then
    let s := s.clr F.GEO_STATUS_LOAD_VALID
    let s : State := { s with geo := { s.geo with load := none } }
    let first := s.get F.GEO_LOAD_CFG_FIRST
    let count := s.get F.GEO_LOAD_COUNT_COUNT
    if 262144 < count ∨ 262144 < first + count then s.set F.GEO_STATUS_LOAD_BAD
    else
      let unread := if count = 0 then [] else [(first, first + count)]
      let g : GeoLoad :=
        { src := s.get F.GEO_LOAD_SRC_ADDR * 8, quad := s.geoQuad, first := first, count := count, unread := unread }
      let s : State := { s with geo := { s.geo with load := some g } }
      if count = 0 then s.geoSettle else s.set F.GEO_STATUS_LOAD_BUSY
  else s

/-- GEO_LOAD: a write to GEO_LOAD_GO that finds the load idle takes effect; one that finds it busy does not come
about here (R73). -/
def execGeoLoad (v : Word) (s : State) : Out :=
  if s.flag F.GEO_STATUS_LOAD_BUSY then .next s else .next (s.geoGo v)

/-- GEO_LOAD_DONE: the last record is copied (R145, R146). -/
def execGeoLoadDone (s : State) : Out :=
  match s.geo.load with
  | some g =>
    if s.flag F.GEO_STATUS_LOAD_BUSY ∧ s.dramServes g.quad then
      let (g, s) := s.geoCopy g (g.count - g.placed)
      let s : State := { s with geo := { s.geo with load := some g } }
      .next ((s.clr F.GEO_STATUS_LOAD_BUSY).geoSettle)
    else .next s
  | none => .next s

/-- Quadrant `n` has read the records of hogel row `j` for frame `k` (R144, R146). -/
def State.geoRowRead (s : State) (n : QuadId) (j : Nat) (k : Int) : State :=
  match s.geo.load with
  | some g =>
    let w := s.hogelCols / 4
    let a := max g.first (j * s.hogelCols + n.val * w)
    let b := min (g.first + g.placed) (j * s.hogelCols + n.val * w + w)
    let unread := if a < b then cutInterval a b g.unread else g.unread
    if unread = g.unread then s
    else
      let frame := match g.frame with | some f => max f k | none => k
      let s : State := { s with geo := { s.geo with load := some { g with unread := unread, frame := some frame } } }
      s.geoSettle
  | none => s

/-! ### Map banks -/

/-- S, the bytes of a slice (R223). -/
def State.sliceBytes (s : State) : Nat := 64 * ceilDiv (3 * s.dirCols) 128

/-- REC_SIZE (R223). -/
def State.recSize (s : State) : Nat := 64 + s.dirRows * s.sliceBytes

/-- The bytes of a bank (R227). -/
def State.mapBankSize (s : State) : Nat := s.hogelCols / 4 * s.hogelRows * s.recSize

/-- The byte address of bank `b` of quadrant `n`. -/
def State.mapBase (s : State) (n : QuadId) (b : Nat) : Nat := (s.rd (A.MAP_BANK_BASE n b)).toNat

/-- Bank `b` of quadrant `n` is live (R234). -/
def State.mapLive (s : State) (n : QuadId) (b : Nat) : Bool :=
  s.flag (F.MAP_STATUS_LIVE_EN n) && s.get (F.MAP_STATUS_LIVE_BANK n) == b

/-- Bytes from `a` up to but not including `e` overlap bank `b` of quadrant `n`. -/
def State.hitsBank (s : State) (n : QuadId) (b a e : Nat) : Bool :=
  decide (a < s.mapBase n b + s.mapBankSize) && decide (s.mapBase n b < e)

/-- The bank that quadrant `n`'s map request has made live in this core cycle (R232). -/
def State.flippedTo (s : State) (n : QuadId) : Option MapFlip :=
  match s.map[n].flip with
  | some x => if x.cycle = s.wt.cycle ∧ s.flag (F.MAP_STATUS_LIVE_EN n) then some x else none
  | none => none

/-- A write dispatched in the core cycle of the latch counts as incomplete at it (R233): the change of the live bank did not
come about, HELD is set and MAP_HELD pushed instead (R232). -/
def State.mapUnflip (s : State) (n : QuadId) (x : MapFlip) : State :=
  let b := s.get (F.MAP_STATUS_LIVE_BANK n)
  let s := (s.put (F.MAP_STATUS_LIVE_EN n) (b2n x.en)).put (F.MAP_STATUS_LIVE_BANK n) x.bank
  let s := (s.wr (A.MAP_FRAME n) x.word).put (F.MAP_LEVEL_LEVEL n) 0
  let s : State := { s with map := s.map.set n { frame := if x.en then some x.frame else none, past := x.past } }
  (s.set (F.MAP_STATUS_HELD n)).quadEvent n 0x33 b (unsigned 32 x.frame)

/-- The latch of this core cycle, if there was one, comes after a write of word `w` of quadrant `n` (R233). -/
def State.mapTouched (s : State) (n : QuadId) (w : Nat) : State :=
  match s.flippedTo n with
  | some x => if s.hitsBank n (s.get (F.MAP_STATUS_LIVE_BANK n)) (64 * w) (64 * w + 64) then s.mapUnflip n x else s
  | none => s

/-- A write into the map bank that is live: case U02 begins (R234). -/
def State.noteLiveBank (s : State) (n : QuadId) (w : Nat) : State :=
  if s.geoOk && (s.mapLive n 0 && s.hitsBank n 0 (64 * w) (64 * w + 64)
      || s.mapLive n 1 && s.hitsBank n 1 (64 * w) (64 * w + 64)) then
    { s with map := s.map.set n { s.map[n] with past := true } }
  else s

/-! ### DRAM writes -/

/-- One word written to quadrant `n`'s DRAM, bytes selected by `en`. -/
def State.writeWord (s : State) (n : QuadId) (w en : Nat) (data : List Byte) : State :=
  ((s.geoAdvance.putWord n w en data).mapTouched n w).noteLiveBank n w

/-- Bytes written from byte address `a` on, word by word; `fuel` bounds the number of words. -/
def State.writeChunks (s : State) (n : QuadId) : Nat → Nat → List Byte → State
  | _, _, [] => s
  | 0, _, _ => s
  | fuel + 1, a, b =>
    let off := a % 64
    let k := min b.length (64 - off)
    let en := (2 ^ k - 1) * 2 ^ off
    let s := s.writeWord n (a / 64) en (List.replicate off 0 ++ b.take k)
    s.writeChunks n fuel (a + k) (b.drop k)

/-- Bytes written to quadrant `n`'s DRAM from byte address `a` on. -/
def State.writeDram (s : State) (n : QuadId) (a : Nat) (b : List Byte) : State :=
  s.writeChunks n (b.length / 64 + 2) a b

/-- The bytes of word `w` that a single write of requester `r` leaves to those of higher-numbered requesters, which were
taken after it in this core cycle (R391). -/
def DramCycle.later (c : DramCycle) (w r : Nat) : Nat :=
  (c.writes.filter fun e => e.1 == w && decide (r < e.2.1)).foldl (fun m e => m ||| e.2.2) 0

/-- The last entry of a queue moved `k` places forward. -/
def moveBack {α : Type} (k : Nat) (l : List α) : List α :=
  let n := l.length - 1
  l.take (n - k) ++ l.drop n ++ (l.drop (n - k)).take k

/-- A single write of requester `r`, taken before those of higher-numbered requesters of this core cycle (R391).
DESIGN CHOICE, log 198. -/
def State.writeOne (s : State) (n : QuadId) (r w en : Nat) (data : List Byte) : State :=
  if s.dramSize n ≤ 64 * w then s.writeWord n w en data
  else
  let c := s.dramNow n
  let old := (w, s.dramBad n w, (s.dr n).wordBytes w)
  let later := c.later w r
  let s := s.writeWord n w (en ^^^ (en &&& later)) data
  let (low, high) := (c.writes.filter (fun e => decide (e.2.1 ≤ r)), c.writes.filter (fun e => decide (r < e.2.1)))
  s.setDr n { s.dr n with
    wq := moveBack high.length (s.dr n).wq
    now := { c with writes := low ++ (w, r, en) :: high
                    before := if c.before.any (fun e => e.1 == w) then c.before else old :: c.before } }

/-- DRAM_WRITE_REQUEST: one write of requester `by_` accepted; a controller that is not READY takes none, and into a full
queue it waits (R118, R388). DESIGN CHOICE, log 172. -/
def execDramWriteRequest (n : QuadId) (by_ : Nat) (a : BitVec 32) (en : BitVec 64) (data : BitVec 512) (s : State) : Out :=
  if s.dramServes n ∧ (s.dr n).wq.length < 64 then
    .next (s.writeOne n by_ (a.toNat / 64) en.toNat (leBytes 64 data.toNat))
  else .next s

/-! ### Tangents and sample positions -/

/-- A hogel geometry record's fields (R141). -/
structure GeoRec where
  dx : Int
  dy : Int
  rot : Int
  scale : Int
  k1 : Int
deriving DecidableEq, Repr

/-- The fields of record word `r`. -/
def geoRecOf (r : Nat) : GeoRec :=
  { dx := signed 12 r, dy := signed 12 (r / 2 ^ 12), rot := signed 10 (r / 2 ^ 24),
    scale := signed 10 (r / 2 ^ 34), k1 := signed 10 (r / 2 ^ 44) }

/-- `x / d` rounded to the nearest integer, ties toward +∞. -/
def roundDiv (x d : Int) : Int := (2 * x + d) / (2 * d)

/-- The corrected tangents in units of 2^-14 from nominal tangents `a` and `b` in the same units (R143): exact in
2^-14 · 2^-10 · 2^-28 · 2^-12 · 2^-12 units before the one rounding. -/
def corrected (a b : Int) (r : GeoRec) : Int × Int :=
  -- d = 1 + k1 (a² + b²), in units of 2^-38
  let d := 2 ^ 38 + r.k1 * (a * a + b * b)
  let g := (4096 + r.scale) * d
  let f (x : Int) := clampInt (-32768) 32767 (roundDiv (g * x) (2 ^ 62))
  (f (a * 4096 - r.rot * b), f (b * 4096 + r.rot * a))

/-- The nominal tangent of direction column `u` (R140). -/
def State.tanU (s : State) (u : Nat) : Int := signed 16 (s.rd (A.GEO_TANU u)).toNat
/-- The nominal tangent of direction row `v` (R140). -/
def State.tanV (s : State) (v : Nat) : Int := signed 16 (s.rd (A.GEO_TANV v)).toNat

/-- A denominator field: 0 means 16 (GEO_RATIOp). -/
def ratioDen (x : Nat) : Nat := if x = 0 then 16 else x

/-- Plane `p`'s live ratios in quadrant `n`: (RXN, RXD) and (RYN, RYD) (R148). -/
def State.ratios (s : State) (n : QuadId) (p : Nat) : (Nat × Nat) × (Nat × Nat) :=
  let w := s.liveRd (A.GEO_RATIO n p)
  ((field w 0 7, ratioDen (field w 8 4)), (field w 16 7, ratioDen (field w 24 4)))

/-- A ratio lies from 1 to 4 (R148). -/
def ratioOk (r : Nat × Nat) : Bool := decide (r.2 ≤ r.1) && decide (r.1 ≤ 4 * r.2)

/-- Plane `p`'s live aprons in quadrant `n`; values above 64 act as 64 (R150). -/
def State.aprons (s : State) (n : QuadId) (p : Nat) : Nat × Nat :=
  let w := s.liveRd (A.GEO_APRON n p)
  (min 64 (field w 0 7), min 64 (field w 16 7))

/-- One footprint coordinate in units of 2^-8 layer pixels (R149): hogel index `i`, offset in units of 2^-10, depth
in units of 2^-4, tangent in units of 2^-14, ratio `r`. -/
def layerPos (i : Nat) (off z t : Int) (r : Nat × Nat) : Int :=
  -- in units of 2^-18 before the ratio
  let p := (2 * (i : Int) + 1) * 2 ^ 17 + off * 2 ^ 8 + z * t
  roundDiv (p * r.1) (2 ^ 10 * r.2)

end Sys2Proof.Machine
end

