-- ==== Sys2Proof/Machine/Hash.lean ====
section
/-!
DEFINITION. Sys2Proof/Machine/Hash.lean: the hash functions of the root of trust: SHA-256 and SHA-384 (FIPS 180-4),
HMAC-SHA-384 (R505), the one-step KDF (R431, R432), and CRC-32C (R519).
-/

namespace Sys2Proof.Machine

/-! ### Constants -/

/-- The `n` words of 64 bits that the number `x` spells, the most significant first. -/
def words64 (n x : Nat) : List (BitVec 64) := (List.range n).map fun i => BitVec.ofNat 64 (x / 2 ^ (64 * (n - 1 - i)))

/-- The fractional parts of the cube roots of the first 80 primes, 64 bits each (FIPS 180-4): the round constants of
SHA-384, five of them to a line. -/
def cubeRoots : List (BitVec 64) := [
  0x428a2f98d728ae227137449123ef65cdb5c0fbcfec4d3b2fe9b5dba58189dbbc3956c25bf348b538,
  0x59f111f1b605d019923f82a4af194f9bab1c5ed5da6d8118d807aa98a303024212835b0145706fbe,
  0x243185be4ee4b28c550c7dc3d5ffb4e272be5d74f27b896f80deb1fe3b1696b19bdc06a725c71235,
  0xc19bf174cf692694e49b69c19ef14ad2efbe4786384f25e30fc19dc68b8cd5b5240ca1cc77ac9c65,
  0x2de92c6f592b02754a7484aa6ea6e4835cb0a9dcbd41fbd476f988da831153b5983e5152ee66dfab,
  0xa831c66d2db43210b00327c898fb213fbf597fc7beef0ee4c6e00bf33da88fc2d5a79147930aa725,
  0x06ca6351e003826f142929670a0e6e7027b70a8546d22ffc2e1b21385c26c9264d2c6dfc5ac42aed,
  0x53380d139d95b3df650a73548baf63de766a0abb3c77b2a881c2c92e47edaee692722c851482353b,
  0xa2bfe8a14cf10364a81a664bbc423001c24b8b70d0f89791c76c51a30654be30d192e819d6ef5218,
  0xd69906245565a910f40e35855771202a106aa07032bbd1b819a4c116b8d2d0c81e376c085141ab53,
  0x2748774cdf8eeb9934b0bcb5e19b48a8391c0cb3c5c95a634ed8aa4ae3418acb5b9cca4f7763e373,
  0x682e6ff3d6b2b8a3748f82ee5defb2fc78a5636f43172f6084c87814a1f0ab728cc702081a6439ec,
  0x90befffa23631e28a4506cebde82bde9bef9a3f7b2c67915c67178f2e372532bca273eceea26619c,
  0xd186b8c721c0c207eada7dd6cde0eb1ef57d4f7fee6ed17806f067aa72176fba0a637dc5a2c898a6,
  0x113f9804bef90dae1b710b35131c471b28db77f523047d8432caab7b40c724933c9ebe0a15c9bebc,
  0x431d67c49c100d4c4cc5d4becb3e42b6597f299cfc657e2a5fcb6fab3ad6faec6c44198c4a475817].flatMap (words64 5)

/-- The round constants of SHA-256: the first 32 bits of the first 64 of them. -/
def cubeRoots32 : List (BitVec 32) := (cubeRoots.take 64).map fun x => BitVec.ofNat 32 (x.toNat / 2 ^ 32)

/-- The initial hash value of SHA-256: 32 bits of the square roots of the first eight primes. -/
def sha256H : List (BitVec 32) :=
  let x := 0x6a09e667bb67ae853c6ef372a54ff53a510e527f9b05688c1f83d9ab5be0cd19
  (List.range 8).map fun i => BitVec.ofNat 32 (x / 2 ^ (32 * (7 - i)))

/-- The initial hash value of SHA-384: 64 bits of the square roots of the ninth to sixteenth primes. -/
def sha384H : List (BitVec 64) :=
  [0xcbbb9d5dc1059ed8629a292a367cd5079159015a3070dd17152fecd8f70e5939,
   0x67332667ffc00b318eb44a8768581511db0c2e0d64f98fa747b5481dbefa4fa4].flatMap (words64 4)

/-! ### The hash -/

/-- What tells one hash of the family from the other: the rotations of Σ0 and Σ1, the rotations and the shift of σ0
and σ1, the round constants and the initial hash value, and the bytes of its digest. -/
structure ShaKind (w : Nat) where
  big0   : Nat × Nat × Nat
  big1   : Nat × Nat × Nat
  small0 : Nat × Nat × Nat
  small1 : Nat × Nat × Nat
  k      : List (BitVec w)
  h      : List (BitVec w)
  digest : Nat

/-- SHA-256. -/
def sha256Kind : ShaKind 32 :=
  { big0 := (2, 13, 22), big1 := (6, 11, 25), small0 := (7, 18, 3), small1 := (17, 19, 10), k := cubeRoots32, h := sha256H,
    digest := 32 }

/-- SHA-384. -/
def sha384Kind : ShaKind 64 :=
  { big0 := (28, 34, 39), big1 := (14, 18, 41), small0 := (1, 8, 7), small1 := (19, 61, 6), k := cubeRoots, h := sha384H,
    digest := 48 }

/-- Σ: three rotations to the right. -/
def bigSigma {w : Nat} (r : Nat × Nat × Nat) (x : BitVec w) : BitVec w :=
  x.rotateRight r.1 ^^^ x.rotateRight r.2.1 ^^^ x.rotateRight r.2.2

/-- σ: two rotations and a shift to the right. -/
def smallSigma {w : Nat} (r : Nat × Nat × Nat) (x : BitVec w) : BitVec w :=
  x.rotateRight r.1 ^^^ x.rotateRight r.2.1 ^^^ (x >>> r.2.2)

/-- `n` further words of the message schedule before those of `l`, the newest first. -/
def shaSchedule {w : Nat} (p : ShaKind w) : Nat → List (BitVec w) → List (BitVec w)
  | 0, l => l
  | n + 1, l =>
    let x := smallSigma p.small1 (l.getD 1 0) + l.getD 6 0 + smallSigma p.small0 (l.getD 14 0) + l.getD 15 0
    shaSchedule p n (x :: l)

/-- One round on the eight working variables. -/
def shaRound {w : Nat} (p : ShaKind w) (v : List (BitVec w)) (kx : BitVec w × BitVec w) : List (BitVec w) :=
  match v with
  | [a, b, c, d, e, f, g, h] =>
    let t1 := h + bigSigma p.big1 e + ((e &&& f) ^^^ (~~~e &&& g)) + kx.1 + kx.2
    let t2 := bigSigma p.big0 a + ((a &&& b) ^^^ (a &&& c) ^^^ (b &&& c))
    [t1 + t2, a, b, c, d + t1, e, f, g]
  | l => l

/-- The words of a block, the first first, each most significant byte first. -/
def shaWords (w : Nat) : Nat → List Byte → List (BitVec w)
  | 0, _ => []
  | n + 1, b => BitVec.ofNat w (beNat (b.take (w / 8))) :: shaWords w n (b.drop (w / 8))

/-- The hash value after a block. -/
def shaBlock {w : Nat} (p : ShaKind w) (h : List (BitVec w)) (b : List Byte) : List (BitVec w) :=
  let ws := (shaSchedule p (p.k.length - 16) (shaWords w 16 b).reverse).reverse
  h.zipWith (· + ·) ((p.k.zip ws).foldl (shaRound p) h)

/-- The hash value after the blocks of `b`; `n` is at least their number. -/
def shaBlocks {w : Nat} (p : ShaKind w) : Nat → List (BitVec w) → List Byte → List (BitVec w)
  | 0, h, _ => h
  | n + 1, h, b => if b.isEmpty then h else shaBlocks p n (shaBlock p h (b.take (2 * w))) (b.drop (2 * w))

/-- The message padded to whole blocks of 2·w bytes, its length in bits in the last w/4 bytes. -/
def shaPad (w : Nat) (b : List Byte) : List Byte :=
  let z := (2 * w - (b.length + 1 + w / 4) % (2 * w)) % (2 * w)
  b ++ 0x80 :: List.replicate z 0 ++ beBytes (w / 4) (8 * b.length)

/-- The digest of `b`. -/
def sha {w : Nat} (p : ShaKind w) (b : List Byte) : List Byte :=
  let m := shaPad w b
  ((shaBlocks p (m.length / (2 * w)) p.h m).flatMap fun x => beBytes (w / 8) x.toNat).take p.digest

/-- SHA-256, 32 bytes. -/
def sha256 (b : List Byte) : List Byte := sha sha256Kind b

/-- SHA-384, 48 bytes. DEDUCED, log 170. -/
def sha384 (b : List Byte) : List Byte := sha sha384Kind b

/-- A digest as the number its bytes spell, the first the most significant. -/
def digestOf (b : List Byte) : BitVec 384 := BitVec.ofNat 384 (beNat b)

/-- HMAC-SHA-384 (FIPS 198-1). -/
def hmac384 (key b : List Byte) : List Byte :=
  let k := if key.length ≤ 128 then key else sha384 key
  let k := k ++ List.replicate (128 - k.length) 0
  sha384 (k.map (· ^^^ 0x5c) ++ sha384 (k.map (· ^^^ 0x36) ++ b))

/-- `n` bytes of the one-step KDF of SP 800-56C with SHA-384 (R431). -/
def kdf384 (z info : List Byte) (n : Nat) : List Byte :=
  ((List.range (ceilDiv n 48)).flatMap fun i => sha384 (beBytes 4 (i + 1) ++ z ++ info)).take n

/-- The bytes of a string of ASCII characters. -/
def ascii (t : String) : List Byte := t.toList.map fun c => BitVec.ofNat 8 c.toNat

/-! ### CRC-32C -/

/-- Eight steps of the reflected CRC of polynomial 0x1EDC6F41. -/
def crcShift : Nat → BitVec 32 → BitVec 32
  | 0, x => x
  | n + 1, x => crcShift n ((x >>> 1) ^^^ (if x.getLsbD 0 then 0x82F63B78 else 0))

/-- CRC-32C (R519). -/
def crc32c (b : List Byte) : BitVec 32 :=
  ~~~(b.foldl (fun x y => crcShift 8 (x ^^^ y.setWidth 32)) 0xFFFFFFFF)

end Sys2Proof.Machine
end

