-- ==== Sys2Proof/Machine/Aes.lean ====
section
/-!
DEFINITION. Sys2Proof/Machine/Aes.lean: AES-256 (FIPS 197) and its Galois/counter mode with 16-byte tags (SP 800-38D),
which seal every Rekin packet (R155) and every neighbour frame (R313). Bytes are held as numbers below 256, and a
128-bit block as the number its bytes spell, the first the most significant.
-/

namespace Sys2Proof.Machine

/-- The S-box of FIPS 197 as one number: byte `x` of it, from the least significant, is the substitute of `x`. -/
def aesSubst : Nat :=
  [0x16bb54b00f2d99416842e6bf0d89a18cdf2855cee9871e9b948ed9691198f8e1,
   0x9e1dc186b95735610ef6034866b53e708a8bbd4b1f74dde8c6b4a61c2e2578ba,
   0x08ae7a65eaf4566ca94ed58d6d37c8e779e4959162acd3c25c2406490a3a32e0,
   0xdb0b5ede14b8ee4688902a22dc4f816073195d643d7ea7c41744975fec130ccd,
   0xd2f3ff1021dab6bcf5389d928f40a351a89f3c507f02f94585334d43fbaaefd0,
   0xcf584c4a39becb6a5bb1fc20ed00d153842fe329b3d63b52a05a6e1b1a2c8309,
   0x75b227ebe28012079a059618c323c7041531d871f1e5a534ccf73f362693fdb7,
   0xc072a49cafa2d4adf04759fa7dc982ca76abd7fe2b670130c56f6bf27b777c63].foldl (fun a x => a * 2 ^ 256 + x) 0

/-- The substitute of byte `x`. -/
def subByte (x : Nat) : Nat := aesSubst / 256 ^ x % 256

/-- Byte `x` times the polynomial X in the field of AES. -/
def mulX (x : Nat) : Nat := (2 * x) ^^^ (x / 128 * 0x11b)

/-- The bytes of a block with every byte substituted and the rows rotated. -/
def subShift (b : List Nat) : List Nat :=
  [0, 5, 10, 15, 4, 9, 14, 3, 8, 13, 2, 7, 12, 1, 6, 11].map fun j => subByte (b.getD j 0)

/-- The columns of a block mixed. -/
def mixColumns : List Nat → List Nat
  | a :: b :: c :: d :: t =>
    let x := a ^^^ b ^^^ c ^^^ d
    (a ^^^ x ^^^ mulX (a ^^^ b)) :: (b ^^^ x ^^^ mulX (b ^^^ c)) :: (c ^^^ x ^^^ mulX (c ^^^ d)) ::
      (d ^^^ x ^^^ mulX (d ^^^ a)) :: mixColumns t
  | _ => []

/-- The four bytes of a key word substituted. -/
def subKeyWord (b : List Nat) : List Nat := b.map subByte

/-- Two lists of bytes added bit by bit. -/
def xorBytes (a b : List Nat) : List Nat := a.zipWith (· ^^^ ·) b

/-- `n` further words of the key schedule of AES-256 before those of `l`, the newest first; word `j` is the next. -/
def aesSchedule : Nat → Nat → List (List Nat) → List (List Nat)
  | 0, _, l => l
  | n + 1, j, l =>
    let last := l.headD []
    let x :=
      if j % 8 = 0 then xorBytes (subKeyWord (last.drop 1 ++ last.take 1)) [2 ^ (j / 8 - 1), 0, 0, 0]
      else if j % 8 = 4 then subKeyWord last
      else last
    aesSchedule n (j + 1) (xorBytes x (l.getD 7 []) :: l)

/-- Pieces of `k` elements of a list; `n` is at least their number. -/
def pieces {α : Type} (k : Nat) : Nat → List α → List (List α)
  | 0, _ => []
  | n + 1, l => if l.isEmpty then [] else l.take k :: pieces k n (l.drop k)

/-- The 15 round keys of a key, 16 bytes each. -/
def roundKeys (key : BitVec 256) : List (List Nat) :=
  let w := (pieces 4 8 ((beBytes 32 key.toNat).map BitVec.toNat)).reverse
  pieces 16 15 (aesSchedule 52 8 w).reverse.flatten

/-- The rounds after the first key addition: the last leaves the columns as they are. -/
def aesRounds : List (List Nat) → List Nat → List Nat
  | [], b => b
  | [k], b => xorBytes k (subShift b)
  | k :: t, b => aesRounds t (xorBytes k (mixColumns (subShift b)))

/-- A block enciphered under the round keys `ks`. -/
def aesBlock (ks : List (List Nat)) (b : List Nat) : List Nat := aesRounds ks.tail (xorBytes (ks.headD []) b)

/-- The number a block of bytes spells. -/
def blockNat (b : List Nat) : Nat := b.foldl (fun a x => a * 256 + x) 0

/-- The enciphered block of the number `x`, as a number. -/
def aesNat (ks : List (List Nat)) (x : Nat) : Nat := blockNat (aesBlock ks ((beBytes 16 x).map BitVec.toNat))

/-! ### Galois/counter mode -/

/-- The product in the field of GHASH: the low `n` bits of `x` still to take, from bit 127 down; `z` the sum so far and
`v` the other factor times the power reached. -/
def ghashMul : Nat → Nat → Nat → Nat → Nat
  | 0, _, z, _ => z
  | n + 1, x, z, v =>
    ghashMul n x (if x / 2 ^ n % 2 = 1 then z ^^^ v else z) (if v % 2 = 1 then v / 2 ^^^ 0xe1 * 2 ^ 120 else v / 2)

/-- The blocks of a string of bytes as numbers, the last filled with zero bytes. -/
def gcmBlocks (b : List Byte) : List Nat :=
  (pieces 16 (b.length / 16 + 1) b).map fun x => beNat x * 256 ^ (16 - x.length)

/-- GHASH of the additional data and the ciphertext under the subkey `h`. -/
def ghash (h : Nat) (aad c : List Byte) : Nat :=
  (gcmBlocks aad ++ gcmBlocks c ++ [8 * aad.length * 2 ^ 64 + 8 * c.length]).foldl
    (fun y x => ghashMul 128 (y ^^^ x) 0 h) 0

/-- `b` enciphered, or deciphered, in counter mode: its block `j` is added to the enciphered counter block of the IV
`iv` (12 bytes as a number) with the count `2 + j`. -/
def gcmStream (ks : List (List Nat)) (iv : Nat) (b : List Byte) : List Byte :=
  ((pieces 16 (b.length / 16 + 1) b).mapIdx fun j x =>
    x.zipWith (· ^^^ ·) (beBytes 16 (aesNat ks (iv * 2 ^ 32 + (2 + j) % 2 ^ 32)))).flatten

/-- The tag of a ciphertext and its additional data. -/
def gcmTag (ks : List (List Nat)) (iv : Nat) (aad c : List Byte) : List Byte :=
  beBytes 16 (aesNat ks (iv * 2 ^ 32 + 1) ^^^ ghash (aesNat ks 0) aad c)

/-- AES-256-GCM: the ciphertext of `b`, then its tag of 16 bytes. -/
def gcmSeal (key : BitVec 256) (iv : Nat) (aad b : List Byte) : List Byte :=
  let ks := roundKeys key
  let c := gcmStream ks iv b
  c ++ gcmTag ks iv aad c

/-- AES-256-GCM: the plaintext of a ciphertext with its tag after it, none where the tag does not verify. -/
def gcmOpen (key : BitVec 256) (iv : Nat) (aad b : List Byte) : Option (List Byte) :=
  let ks := roundKeys key
  let c := b.take (b.length - 16)
  if 16 ≤ b.length ∧ gcmTag ks iv aad c = b.drop (b.length - 16) then some (gcmStream ks iv c) else none

end Sys2Proof.Machine
end

