-- ==== Sys2Proof/Machine/Packet.lean ====
section
/-!
DEFINITION. Sys2Proof/Machine/Packet.lean: the bytes of a Rekin packet: its 28-byte header, the ciphertext and the tag
(R153), and AES-256-GCM over them (R155).
-/

namespace Sys2Proof.Machine

/-- The 28 bytes of a Rekin header, each field most significant byte first (R153). -/
def rknHdrBytes (h : RknHdr) : List Byte :=
  [BitVec.ofNat 8 (h.ver.toNat * 16 + h.typ.toNat), h.flags] ++ beBytes 2 h.flow.toNat ++ beBytes 6 h.seq.toNat
    ++ beBytes 4 h.frame.toNat ++ [h.surface, h.res1] ++ beBytes 2 h.x.toNat ++ beBytes 2 h.y.toNat
    ++ beBytes 2 h.w.toNat ++ beBytes 2 h.h.toNat ++ beBytes 2 h.len.toNat ++ beBytes 2 h.res2.toNat

/-- The header that the first 28 bytes of `b` spell (R153). -/
def rknHdrOf (b : List Byte) : RknHdr :=
  { ver := BitVec.ofNat 4 (beAt b 0 1 / 16), typ := BitVec.ofNat 4 (beAt b 0 1), flags := b.getD 1 0
    flow := BitVec.ofNat 16 (beAt b 2 2), seq := BitVec.ofNat 48 (beAt b 4 6), frame := BitVec.ofNat 32 (beAt b 10 4)
    surface := b.getD 14 0, res1 := b.getD 15 0, x := BitVec.ofNat 16 (beAt b 16 2), y := BitVec.ofNat 16 (beAt b 18 2)
    w := BitVec.ofNat 16 (beAt b 20 2), h := BitVec.ofNat 16 (beAt b 22 2), len := BitVec.ofNat 16 (beAt b 24 2)
    res2 := BitVec.ofNat 16 (beAt b 26 2) }

/-- The header of a packet. -/
def rknHdr (p : RknPkt) : RknHdr := rknHdrOf p.data

/-- The key of a direction, of its 32 bytes of key and 4 of salt. -/
def gcmKey (k : BitVec 288) : BitVec 256 := BitVec.ofNat 256 (k.toNat / 2 ^ 32)

/-- The salt of a direction. -/
def gcmSalt (k : BitVec 288) : Nat := k.toNat % 2 ^ 32

/-- The IV of a Rekin packet: salt, FLOW_ID, SEQ (R155). -/
def rknIv (k : BitVec 288) (h : RknHdr) : Nat := (gcmSalt k * 2 ^ 16 + h.flow.toNat) * 2 ^ 48 + h.seq.toNat

/-- A Rekin packet under key and salt `k`: header, ciphertext, tag (R153, R155). -/
def rknSeal (k : BitVec 288) (h : RknHdr) (body : List Byte) : List Byte :=
  rknHdrBytes h ++ gcmSeal (gcmKey k) (rknIv k h) (rknHdrBytes h) body

/-- The payload of a packet in the clear, none where its tag does not verify under `k` (R155). -/
def rknOpen (k : BitVec 288) (b : List Byte) : Option (List Byte) :=
  let h := rknHdrOf b
  gcmOpen (gcmKey k) (rknIv k h) (b.take 28) (bytesAt b 28 (h.len.toNat + 16))

end Sys2Proof.Machine
end

