-- ==== Sys2Proof/Machine/TplWire.lean ====
section
/-!
DEFINITION. Sys2Proof/Machine/TplWire.lean: the panel link on the wire (R269 to R273, R277): the bytes of a packet, its
CRC-32C, the 64b/66b blocks of TPL2 with their scrambler, the 8b/10b characters of TPL1 and of the back channel, and
the messages of the back channel.
-/

namespace Sys2Proof.Machine

/-! ### Packets -/

/-- The payload bytes of command `c` (the TPL commands table); its fields most significant byte first (R271). -/
def TplCmd.bytes : TplCmd → List Byte
  | .poll => 1 :: List.replicate 7 0
  | .stay => 2 :: List.replicate 7 0
  | .swap lane pair line => [3, BitVec.ofNat 8 lane, BitVec.ofNat 8 pair] ++ beBytes 2 line ++ List.replicate 3 0
  | .free p => [4, BitVec.ofNat 8 p] ++ List.replicate 6 0
  | .rate v r => [5, BitVec.ofNat 8 v, BitVec.ofNat 8 r] ++ List.replicate 5 0

/-- Codes packed from bit 0 on, code e in bits 10e to 10e + 9, the last byte padded with zeros (R271). -/
def packCodes (l : List (BitVec 10)) : List Byte :=
  leBytes (ceilDiv (10 * l.length) 8) (l.foldr (fun c n => c.toNat + 1024 * n) 0)

/-- The payload of WAVE (the TPL packet types table). DEDUCED, log 191. -/
def waveBytes (slots : List Nat) (iref band kind : Nat) : List Byte :=
  slots.flatMap (beBytes 2) ++ beBytes 2 iref ++ [BitVec.ofNat 8 band, BitVec.ofNat 8 kind] ++ List.replicate 4 0

/-- The payload bytes as sent: on TPL2 zeros fill the last block (R271, R272). -/
def TplPacket.body (p : TplPacket) (tpl2 : Bool) : List Byte :=
  if tpl2 then p.payload ++ List.replicate (8 * ceilDiv p.payload.length 8 - p.payload.length) 0 else p.payload

/-- The seven bytes of the packet header (R272). -/
def TplPacket.header (p : TplPacket) (tpl2 : Bool) : List Byte :=
  BitVec.ofNat 8 (16 * p.typ + p.dest % 16) :: (beBytes 2 (p.line % 2 ^ 14) ++ [BitVec.ofNat 8 p.frame]
    ++ beBytes 2 (p.body tpl2).length ++ [BitVec.ofNat 8 (p.lane % 8)])

/-- The CRC-32C over header and payload, most significant byte first (R271). -/
def TplPacket.crc (p : TplPacket) (tpl2 : Bool) : List Byte :=
  beBytes 4 (crc32c (p.header tpl2 ++ p.body tpl2)).toNat

/-! ### TPL2: 64b/66b blocks -/

/-- A block before scrambling: a control block or a data block, and its eight bytes. -/
structure Block66 where
  control : Bool
  bytes   : List Byte
deriving DecidableEq, Repr

/-- The IDLE block. -/
def idleBlock : Block66 := { control := true, bytes := 0x1E :: List.replicate 7 0 }

/-- The ALIGN block of a pair with its block counter (R269). -/
def alignBlock (pair counter : Nat) : Block66 :=
  { control := true, bytes := [0x2D, BitVec.ofNat 8 pair] ++ beBytes 6 counter }

/-- Eight bytes a block. -/
def blocksOf : Nat → List Byte → List Block66
  | 0, _ => []
  | n + 1, b => { control := false, bytes := b.take 8 } :: blocksOf n (b.drop 8)

/-- A packet as blocks: START, its payload, TERM (R269). -/
def TplPacket.blocks (p : TplPacket) : List Block66 :=
  { control := true, bytes := 0x78 :: p.header true } :: blocksOf ((p.body true).length / 8) (p.body true)
    ++ [{ control := true, bytes := 0xE1 :: p.crc true ++ [0, 0, 0] }]

/-- The bits of a list of bytes, each least significant bit first. -/
def lsbBits (b : List Byte) : List Bool := b.flatMap fun x => (List.range 8).map x.getLsbD

/-- Bits through the scrambler x^58 + x^39 + 1, whose last 58 output bits are `st`, the newest in bit 0 (R269). -/
def scramble (st : BitVec 58) : List Bool → List Bool × BitVec 58
  | [] => ([], st)
  | b :: t =>
    let o := (b ^^ st.getLsbD 38) ^^ st.getLsbD 57
    let (l, e) := scramble ((st <<< 1) ||| (if o then 1 else 0)) t
    (o :: l, e)

/-- Blocks as bits in the order sent: the sync header, 01 for data and 10 for control, and the scrambled bytes (R269). -/
def wireBits (st : BitVec 58) : List Block66 → List Bool
  | [] => []
  | b :: t =>
    let (l, st) := scramble st (lsbBits b.bytes)
    [b.control, !b.control] ++ l ++ wireBits st t

/-! ### 8b/10b -/

/-- A character: one of the K codes, or a data byte. -/
structure Char8 where
  k    : Bool
  byte : Byte
deriving DecidableEq, Repr

/-- The 6-bit code of the low five bits while the running disparity is negative, bit a the most significant.
PRESUMED, log 192: the code that the name 8b/10b stands for. -/
def code6 (k : Bool) (x : Nat) : Nat :=
  if k && x == 28 then 0b001111
  else ([0b100111, 0b011101, 0b101101, 0b110001, 0b110101, 0b101001, 0b011001, 0b111000,
         0b111001, 0b100101, 0b010101, 0b110100, 0b001101, 0b101100, 0b011100, 0b010111,
         0b011011, 0b100011, 0b010011, 0b110010, 0b001011, 0b101010, 0b011010, 0b111010,
         0b110011, 0b100110, 0b010110, 0b110110, 0b001110, 0b101110, 0b011110, 0b101011] : List Nat).getD x 0

/-- The 4-bit code of the high three bits while the running disparity is negative; `alt` takes the alternate code of 7.
PRESUMED, log 192. -/
def code4 (k alt : Bool) (y : Nat) : Nat :=
  if k then ([0b1011, 0b0110, 0b1010, 0b1100, 0b1101, 0b0101, 0b1001, 0b0111] : List Nat).getD y 0
  else if alt && y == 7 then 0b0111
  else ([0b1011, 0b1001, 0b0101, 0b1100, 0b1101, 0b1010, 0b0110, 0b1110] : List Nat).getD y 0

/-- How many of the low `n` bits of `x` are 1. -/
def ones (n x : Nat) : Nat := ((List.range n).filter (bit x)).length

/-- A sub-block of `n` bits under running disparity `rd` (true for positive): a code of unequal ones and zeros, or one
of those that come in both forms, is complemented while it is positive; and the running disparity after it. -/
def subBlock (n code : Nat) (both rd : Bool) : Nat × Bool :=
  let c := if rd && (both || 2 * ones n code != n) then 2 ^ n - 1 - code else code
  (c, if 2 * ones n code = n then rd else !rd)

/-- A character as its ten bits, bit a the most significant, and the running disparity after it. -/
def encode10 (rd : Bool) (c : Char8) : BitVec 10 × Bool :=
  let x := c.byte.toNat % 32
  let y := c.byte.toNat / 32
  let (a, rd1) := subBlock 6 (code6 c.k x) (x == 7 && !c.k) rd
  let alt := if rd1 then x == 11 || x == 13 || x == 14 else x == 17 || x == 18 || x == 20
  let (b, rd2) := subBlock 4 (code4 c.k alt y) (c.k || y == 3) rd1
  (BitVec.ofNat 10 (16 * a + b), rd2)

/-- Characters as ten-bit symbols in the order sent. -/
def symbols10 (rd : Bool) : List Char8 → List (BitVec 10)
  | [] => []
  | c :: t =>
    let (x, rd) := encode10 rd c
    x :: symbols10 rd t

/-- K28.1, K28.2, K28.3, K28.5 and K29.7. -/
def k281 : Char8 := { k := true, byte := 0x3C }
def k282 : Char8 := { k := true, byte := 0x5C }
def k283 : Char8 := { k := true, byte := 0x7C }
def k285 : Char8 := { k := true, byte := 0xBC }
def k297 : Char8 := { k := true, byte := 0xFD }

/-- A data character. -/
def dataChar (b : Byte) : Char8 := { k := false, byte := b }

/-- A packet as the characters of TPL1 (R270). -/
def TplPacket.chars (p : TplPacket) : List Char8 :=
  k282 :: (p.header false ++ p.body false ++ p.crc false).map dataChar ++ [k297]

/-- The ALIGN sequence of TPL1 (R270). -/
def alignChars (pair : Nat) : List Char8 := [k283, dataChar (BitVec.ofNat 8 pair)]

/-- What a pair carries between packets: the IDLE block of TPL2, K28.5 of TPL1 (R269, R270). -/
def restBits (tpl2 : Bool) (seed : BitVec 58) : List Bool :=
  if tpl2 then wireBits seed [idleBlock]
  else (symbols10 (seed.getLsbD 0) [k285]).flatMap fun x => (List.range 10).map fun i => x.getLsbD (9 - i)

/-- The bits that a record stands for, in the order its pairs carry them. -/
def TplTx.bits : TplTx → List Bool
  | .packet _ tpl2 seed p =>
    if tpl2 then wireBits seed p.blocks
    else (symbols10 (seed.getLsbD 0) p.chars).flatMap fun x => (List.range 10).map fun i => x.getLsbD (9 - i)
  | .align pair tpl2 seed counter =>
    if tpl2 then wireBits seed [alignBlock pair counter]
    else (symbols10 (seed.getLsbD 0) (alignChars pair)).flatMap fun x => (List.range 10).map fun i => x.getLsbD (9 - i)

/-! ### The back channel -/

/-- The five low bits whose six-bit code, under either disparity, is `c`; 28 stands for K28 too. -/
def decode6 (c : Nat) : Option (Bool × Nat) :=
  if c = 0b001111 ∨ c = 0b110000 then some (true, 28)
  else
    ((List.range 32).find? fun x =>
      let d := code6 false x
      c == d || (2 * ones 6 d != 6 || x == 7) && c == 63 - d).map fun x => (false, x)

/-- The three high bits whose four-bit code, after the five low bits `x` of a data character, is `c`. -/
def decode4 (x c : Nat) : Option Nat :=
  let altOf := x == 11 || x == 13 || x == 14 || x == 17 || x == 18 || x == 20
  (List.range 8).find? fun y =>
    let d := code4 false false y
    c == d || (2 * ones 4 d != 4 || y == 3) && c == 15 - d || (altOf && y == 7 && (c == 0b0111 || c == 0b1000))

/-- The character that a ten-bit symbol is, none where it is no symbol of the code. DEDUCED, log 207. -/
def decode10 (w : BitVec 10) : Option Char8 :=
  let a := w.toNat / 16
  let b := w.toNat % 16
  match decode6 a with
  | some (true, _) =>
    -- the disparity before the four-bit code is that after K28's six
    let c := if a = 0b001111 then 15 - b else b
    ((List.range 8).find? fun y => code4 true false y == c).map fun y => { k := true, byte := BitVec.ofNat 8 (28 + 32 * y) }
  | some (false, x) =>
    if (a = 0b101110 ∧ b = 0b1000 ∨ a = 0b010001 ∧ b = 0b0111) ∧ x = 29 then some k297
    else (decode4 x b).map fun y => { k := false, byte := BitVec.ofNat 8 (x + 32 * y) }
  | none => none

/-- One byte into the CRC-16 of R277. -/
def crc16Step : Nat → BitVec 16 → BitVec 16
  | 0, x => x
  | n + 1, x => crc16Step n ((x <<< 1) ^^^ (if x.getLsbD 15 then 0x1021 else 0))

/-- The CRC-16 of R277: polynomial x^16 + x^12 + x^5 + 1, initial value 0xFFFF, most significant bit first. -/
def crc16 (b : List Byte) : BitVec 16 :=
  b.foldl (fun x y => crc16Step 8 (x ^^^ ((y.setWidth 16 : BitVec 16) <<< 8))) 0xFFFF

/-- A message of the back channel: its TYPE, its SRC, its payload. -/
structure BcMsg where
  typ  : Nat
  src  : Nat
  body : List Byte
deriving DecidableEq, Repr

/-- The data bytes of characters, none where one is a K code. -/
def dataBytes : List Char8 → Option (List Byte)
  | [] => some []
  | c :: t => if c.k then none else (dataBytes t).map (c.byte :: ·)

/-- The message that symbols of the back channel carry (R277): K28.1, TYPE, SRC, LEN, the payload, the CRC-16, K29.7;
none where a symbol, the framing, LEN or the CRC-16 is wrong. -/
def bcMsg (l : List (BitVec 10)) : Option BcMsg :=
  let cs := l.filterMap decode10
  if cs.length ≠ l.length ∨ cs.head? ≠ some k281 ∨ cs.getLast? ≠ some k297 then none
  else
    match dataBytes (cs.tail.dropLast) with
    | none => none
    | some b =>
      let n := b.length
      if n < 5 ∨ (b.getD 2 0).toNat ≠ n - 5 ∨ (crc16 (b.take (n - 2))).toNat ≠ beAt b (n - 2) 2 then none
      else some { typ := (b.getD 0 0).toNat, src := (b.getD 1 0).toNat, body := bytesAt b 3 (n - 5) }

end Sys2Proof.Machine
end

