-- ==== Sys2Proof/Machine/NbrWire.lean ====
section
/-!
DEFINITION. Sys2Proof/Machine/NbrWire.lean: neighbour links on the wire (R311 to R313): the bytes of a frame under its
key, the neighbour control blocks, and their striping over the two lanes.
-/

namespace Sys2Proof.Machine

/-- The 28 bytes of a neighbour header, each field most significant byte first (R312). -/
def nbrHdrBytes (f : NbrFrame) : List Byte :=
  [BitVec.ofNat 8 (16 * f.typ.toNat + b2n f.relief), f.plane] ++ beBytes 2 f.payload.length ++ beBytes 8 f.seq.toNat
    ++ beBytes 4 f.frame.toNat ++ beBytes 2 f.x.toNat ++ beBytes 2 f.y.toNat ++ beBytes 2 f.w.toNat
    ++ beBytes 2 f.h.toNat ++ beBytes 4 f.count.toNat

/-- The IV of a neighbour frame: salt, SEQ (R313). -/
def nbrIv (k : BitVec 288) (seq : Nat) : Nat := gcmSalt k * 2 ^ 64 + seq

/-- A frame under key and salt `k` as the bytes between START and TERM: header, ciphertext, tag, zeros to a whole block
(R312, R313). -/
def nbrSeal (k : BitVec 288) (f : NbrFrame) : List Byte :=
  let b := nbrHdrBytes f ++ gcmSeal (gcmKey k) (nbrIv k f.seq.toNat) (nbrHdrBytes f) f.payload
  b ++ List.replicate (8 * ceilDiv b.length 8 - b.length) 0

/-- The frame whose header stands at the start of `b`, with payload `body` (R312). -/
def nbrFrameOf (b body : List Byte) : NbrFrame :=
  { typ := BitVec.ofNat 4 (beAt b 0 1 / 16), relief := bit (beAt b 0 1) 0, plane := b.getD 1 0
    seq := BitVec.ofNat 64 (beAt b 4 8), frame := BitVec.ofNat 32 (beAt b 12 4), x := BitVec.ofNat 16 (beAt b 16 2)
    y := BitVec.ofNat 16 (beAt b 18 2), w := BitVec.ofNat 16 (beAt b 20 2), h := BitVec.ofNat 16 (beAt b 22 2)
    count := BitVec.ofNat 32 (beAt b 24 4), payload := body }

/-- The frame that the bytes between START and TERM are under key and salt `k`, none where its tag fails (R313). -/
def nbrOpenFrame (k : BitVec 288) (b : List Byte) : Option NbrFrame :=
  (gcmOpen (gcmKey k) (nbrIv k (beAt b 4 8)) (b.take 28) (bytesAt b 28 (beAt b 2 2 + 16))).map (nbrFrameOf b)

/-- The frame's CRC-32C, over all bytes between START and TERM, holds, and only data blocks came (R269, R312). -/
def nbrCrcOk (r : NbrRaw) : Bool := crc32c r.data == r.crc && !r.other

/-- A control block of the Neighbour control blocks table. -/
def nbrBlock (typ : Byte) (b : List Byte) : Block66 := { control := true, bytes := typ :: b }

/-- Bytes 1 to 7 of a CREDIT block (R311). -/
def creditBytes (n : Nat) : List Byte := beBytes 2 n ++ List.replicate 5 0

/-- Bytes 1 to 7 of a CAPS block (R311). -/
def capsBytes (rateMax tile lanesOk : Nat) : List Byte := beBytes 2 rateMax ++ beBytes 4 tile ++ [BitVec.ofNat 8 lanesOk]

/-- The blocks of a record in their order; a START block's bytes 1 to 7 are 0. DEDUCED, log 193. -/
def NbrSends.blocks : NbrSends → List Block66
  | .caps b => [nbrBlock 0x66 b]
  | .credit b => [nbrBlock 0x4B b]
  | .sleep => [nbrBlock 0x55 (List.replicate 7 0)]
  | .idle => [idleBlock]
  | .align _ => []
  | .frame d =>
    nbrBlock 0x78 (List.replicate 7 0) :: blocksOf (d.length / 8) d
      ++ [nbrBlock 0xE1 (beBytes 4 (crc32c d).toNat ++ [0, 0, 0])]

/-- The blocks that go on lane `l`: every second one, block i on lane i mod 2, or all of them on a lone lane; ALIGN and
the IDLE of training go on every lane in use (R311). DEDUCED, log 193. -/
def NbrTx.onLane (t : NbrTx) (l : Nat) : List Block66 :=
  if !bit t.lanes l then []
  else
    match t.what with
    | .align c => [alignBlock l c]
    | .idle => [idleBlock]
    | w => if t.lanes = 3 then (w.blocks.zipIdx.filter fun e => (e.2 + b2n t.odd) % 2 == l).map (·.1) else w.blocks

/-- The bits of a record on lane `l`, in the order sent (R269, R311). -/
def NbrTx.bits (t : NbrTx) (l : Nat) : List Bool := wireBits (if l = 0 then t.seed0 else t.seed1) (t.onLane l)

end Sys2Proof.Machine
end

