-- ==== Sys2Proof/Machine/Net.lean ====
section
/-!
DEFINITION. Sys2Proof/Machine/Net.lean: the network ports (R290 to R308): link state, what the MAC takes, receive
classification, forwarding, the resolution responder, sessions' transmit counters and the management transmit
queue.
-/

namespace Sys2Proof.Machine

/-! ### Link state -/

/-- Port `p` is powered: EN, and port B neither in the SINGLE role nor in Stay (R294, R300). -/
def State.portPowered (s : State) (p : PortId) : Bool :=
  (s.flag (F.NET_PORT_MODE_EN p) || (s.inStay && p == 0))
    && (p == 0 || ((s.get F.NET_CFG_ROLE == 1 || s.get F.NET_CFG_ROLE == 2) && !s.inStay))

/-- A mode that uses all four lanes (the Port modes table). -/
def fourLanes (mode : Nat) : Bool := mode == 4 || mode == 5

/-- A mode with FEC (the Port modes table). -/
def hasFec (mode : Nat) : Bool := mode == 2 || mode == 3 || mode == 5

/-- What port `p`'s PCS reports becomes its status, and a change of UP pushes NET_LINK (R293). -/
def State.portLink (s : State) (p : PortId) (lock : BitVec 4) (align fec hiBer : Bool) : State :=
  let mode := s.portMode p
  let on := s.portPowered p && decide (mode < 6)
  let lanes := if !on then 0 else if fourLanes mode then lock.toNat else lock.toNat % 2
  let all := if fourLanes mode then lanes == 15 else lanes == 1
  let up := on && all && (align || !fourLanes mode) && (fec || !hasFec mode) && !hiBer
  let was := s.portUp p
  let s := (s.put (F.NET_PORT_STATUS_LANE_LOCK p) lanes).put (F.NET_PORT_STATUS_FEC_LOCK p)
    (b2n (on && fec && hasFec mode))
  let s := (s.put (F.NET_PORT_STATUS_HI_BER p) (b2n (on && hiBer))).put (F.NET_PORT_STATUS_UP p) (b2n up)
  if up = was then s else s.sqsEvent 0x46 (b2n up) (p.val + 2 * s.get (F.NET_PORT_MODE_MODE p))

/-- PORT_LINK_CHANGE: what the PCS of a port holds: lock by lane, lane alignment, FEC alignment, hi_ber. -/
def execPortLinkChange (p : PortId) (lock : BitVec 4) (align fec hiBer : Bool) (s : State) : Out :=
  .next (s.portLink p lock align fec hiBer)

/-- A port that its power, role or mode no longer keeps running goes down (R291, R300). -/
def State.portsCheck (s : State) : State :=
  forAll (fins 2) s fun s p =>
    if s.portPowered p && decide (s.portMode p < 6) then s else s.portLink p 0 false false false

/-! ### What the MAC takes -/

/-- A frame reaches a port's MAC: none where the port is down, and one that overlaps a receiver scan of the port is
dropped and counted (R413). DEDUCED, log 48. -/
def State.macHears (s : State) (p : PortId) : Bool × State :=
  if !s.portUp p then (false, s)
  else
    match s.scannedLane p with
    | some l => (false, s.count (F.CAL_RX_ERR_FRAMES l))
    | none => (true, s)

/-- The MAC drops a frame under R295. -/
def badFrame (f : NetFrame) : Bool := decide (f.len < 64) || decide (9216 < f.len) || !f.fcsOk || decide (2 ≤ f.tags)

/-- A frame arrives; whether it is accepted (R295). -/
def State.macTake (s : State) (f : NetFrame) : Bool × State :=
  let (ok, s) := s.macHears f.port
  if !ok then (false, s)
  else if badFrame f then (false, s.countReg (A.NET_PORT_RX_ERR f.port))
  else (true, s.wrapReg (A.NET_PORT_RX_FRAMES f.port))

/-- The bytes that lie in a part of port `p`'s ingress packet buffer (R118, R160): packets held for a gap, management
packets in the 16 KiB part and all others in the 256 KiB part, and there the packets that wait for a descriptor.
DEDUCED, log 22. -/
def State.partUsed (s : State) (p : PortId) (small : Bool) : Nat :=
  let held := s.ing.held.foldl (fun n h =>
    if h.pkt.frame.port = p ∧ (h.pkt.hdr.typ == 3) = small then n + h.pkt.frame.len else n) 0
  if small then held else s.ing.buffer.foldl (fun n q => if q.frame.port = p then n + q.frame.len else n) held

/-- A frame fits the free space of its part of the ingress packet buffer: 16 KiB for PTP and management, 256 KiB for
every other (R118, R124). -/
def State.partRoom (s : State) (f : NetFrame) (small : Bool) : Bool :=
  decide (s.partUsed f.port small + f.len ≤ if small then 16384 else 262144)

/-- A frame finds no room in its part of the ingress packet buffer (R124). -/
def State.noRoom (s : State) (p : PortId) : State := s.countReg (if p = 0 then A.CRD_NET_DROP_A else A.CRD_NET_DROP_B)

/-- A frame dropped by classification (R297). -/
def State.filtered (s : State) (p : PortId) : State := s.countReg (A.NET_PORT_RX_FILT p)

/-- MAC_CONTROL_FRAME: dropped and counted (R296). -/
def execMacControlFrame (f : NetFrame) (s : State) : Out :=
  let (ok, s) := s.macHears f.port
  if !ok then .next s
  else .next (s.countReg (if badFrame f then A.NET_PORT_RX_ERR f.port else A.NET_PORT_RX_CTRL f.port))

/-! ### Addresses -/

/-- Port `p`'s own MAC address. -/
def State.ownMac (s : State) (p : PortId) : Nat :=
  (s.rd (A.NET_PORT_MAC_HI p)).toNat % 65536 * 2 ^ 32 + (s.rd (A.NET_PORT_MAC_LO p)).toNat

/-- Port `p`'s IPv4 address, 0 for none. -/
def State.ownIp4 (s : State) (p : PortId) : Nat := (s.rd (A.NET_PORT_IPV4 p)).toNat

/-- Port `p`'s IPv6 address, 0 for none. -/
def State.ownIp6 (s : State) (p : PortId) : Nat :=
  (List.range 4).foldl (fun x i => x * 2 ^ 32 + (s.rd (A.NET_PORT_IPV6 p i)).toNat) 0

/-- The broadcast address. -/
def broadcastMac : Nat := 2 ^ 48 - 1

/-- The group bit of a MAC address: the least significant bit of its first byte. -/
def isGroupMac (m : Nat) : Bool := bit m 40

/-- An enabled group entry of port `p` admits destination MAC `m` (R299). -/
def State.groupMac (s : State) (p : PortId) (m : Nat) : Bool :=
  (List.range 16).any fun i =>
    let hi := (s.rd (A.NET_PORT_GRP_HI p i)).toNat
    bit hi 31 && decide (hi % 65536 * 2 ^ 32 + (s.rd (A.NET_PORT_GRP_LO p i)).toNat = m)

/-- The IP destination of a UDP frame is an own address: the port's, or a group address that maps to the admitted
destination MAC (R297, R299). -/
def State.ownIp (s : State) (f : NetFrame) : Bool :=
  match f.encap with
  | .udp4 _ dst _ _ _ =>
    if s.groupMac f.port f.dst.toNat then
      decide (dst.toNat / 2 ^ 28 = 14) && decide (f.dst.toNat = 0x01005E000000 + dst.toNat % 2 ^ 23)
    else dst.toNat != 0 && dst.toNat == s.ownIp4 f.port
  | .udp6 _ dst _ _ _ =>
    if s.groupMac f.port f.dst.toNat then
      decide (dst.toNat / 2 ^ 120 = 0xff) && decide (f.dst.toNat = 0x333300000000 + dst.toNat % 2 ^ 32)
    else dst.toNat != 0 && dst.toNat == s.ownIp6 f.port
  | _ => true

/-- A frame is a fragment, or has IPv6 extension headers. -/
def encapFrag : Encap → Bool
  | .udp4 _ _ _ _ b => b
  | .udp6 _ _ _ _ b => b
  | _ => false

/-- The UDP destination port of a PTP message: 319 for event, 320 for general messages (R297). -/
def ptpPort (dport : BitVec 16) : Bool := dport == 319 || dport == 320

/-- A frame carries a PTP message, whatever its destination: EtherType 0x88F7, or UDP port 319 or 320 (R34, R297). A
fragment does not. DEDUCED, log 49. -/
def isPtp (f : NetFrame) : Bool :=
  match f.encap with
  | .other e => e == 0x88F7
  | .udp4 _ _ _ dport frag => ptpPort dport && !frag
  | .udp6 _ _ _ dport frag => ptpPort dport && !frag
  | .raw => false

/-! ### Forwarding -/

/-- What a forwarded frame is to the transparent clock: no PTP message or a general one, a PTP event message with its
correctionField, UDP checksum and ingress stamp (R37), or a peer-delay message, which is never forwarded (R38). -/
inductive FwdKind where
  | plain
  | event (corrField : BitVec 64) (cksum : BitVec 16) (ingress : Int)
  | peer
deriving DecidableEq, Repr

/-- A destination that R301 never forwards. -/
def linkLocal (m : Nat) : Bool := decide (m / 16 = 0x0180C2000000 / 16)

/-- R301 asks for a frame to be forwarded: the role, the direction's bit, its destination, TC_EN for PTP, and no
peer-delay message (R38). -/
def State.forwards (s : State) (f : NetFrame) (k : FwdKind) : Bool :=
  s.get F.NET_CFG_ROLE == 2
    && (if f.port = 0 then s.flag F.NET_CFG_FWD_AB else s.flag F.NET_CFG_FWD_BA)
    && !linkLocal f.dst.toNat && (!isPtp f || s.flag F.WT_CTRL_TC_EN) && k != .peer

/-- A frame forwarded out of the other port (R301, R302): not while the modes differ; one that does not fit the
forwarding buffer, or that finds the other port down, is dropped and counted. It waits in its class of R303.
DEDUCED, log 45. -/
def State.forward (s : State) (f : NetFrame) (k : FwdKind) : State :=
  let o := otherPort f.port
  if s.get (F.NET_PORT_MODE_MODE 0) ≠ s.get (F.NET_PORT_MODE_MODE 1) then s.set F.NET_STATUS_FWD_MODE_BAD
  else if s.fwdUsed o + f.len ≤ fwdBuffer ∧ s.portUp o then
    match k with
    | .event c u x => s.waitTx o { cls := 1, len := f.len, fwd := true, what := .ptpForward f c u x }
    | _ => s.waitTx o { cls := 3, len := f.len, fwd := true, what := .ready (.forward o f) }
  else s.countReg (A.NET_PORT_FWD_DROP f.port)

/-- A broadcast or multicast frame is forwarded beside what the port itself does with it (R301). -/
def State.forwardGroup (s : State) (f : NetFrame) (k : FwdKind) : State :=
  if isGroupMac f.dst.toNat ∧ s.forwards f k then s.forward f k else s

/-- The Transit class (R297): a destination MAC neither own, broadcast nor an enabled group. -/
def State.isTransit (s : State) (f : NetFrame) : Bool :=
  f.dst.toNat != s.ownMac f.port && f.dst.toNat != broadcastMac && !s.groupMac f.port f.dst.toNat

/-- A frame of the Transit class forwarded, or dropped and counted (R297). -/
def State.transit (s : State) (f : NetFrame) (k : FwdKind) : State :=
  if s.forwards f k then s.forward f k else s.filtered f.port

/-- A frame passes the MAC and classification as far as its destination MAC goes (R295, R297, R301): one of the Transit
class goes no further, one with a group address is forwarded too. Whether it is still the port's. -/
def State.classify (s : State) (f : NetFrame) (k : State → FwdKind) : Bool × State :=
  let (ok, s) := s.macTake f
  if !ok then (false, s)
  else if s.isTransit f then (false, s.transit f (k s))
  else (true, s.forwardGroup f (k s))

/-- What a passing frame is to the transparent clock, its ingress stamp formed (R37). -/
def State.fwdKind (s : State) (f : NetFrame) (e : PtpEvent) : FwdKind :=
  match e with
  | .no => .plain
  | .event c u v => if isPtp f then .event c u (s.rxStamp f.port v) else .plain

/-- TRANSIT_FRAME: a frame of the Transit class. Of those for an own address one with a PTP message, which can be no more
than a Delay_Req, is taken in the 16 KiB part, and a slave-only device has nothing to answer it with (R35, R36); any other
falls under `Anything else` (R297). -/
def execTransitFrame (f : NetFrame) (e : PtpEvent) (s : State) : Out :=
  let (own, s) := s.classify f (·.fwdKind f e)
  .next (
    if !own then s
    else if f.dst.toNat = broadcastMac ∨ ¬ isPtp f ∨ ¬ s.ownIp f then s.filtered f.port
    else if !s.partRoom f true then s.noRoom f.port
    else s)

/-- The length of a resolution reply: ARP in a frame of the least length, or a neighbour advertisement with its link-layer
address option. PRESUMED, log 182. -/
def resolutionLen (v6 : Bool) : Nat := if v6 then frameLen 72 else frameLen 28

/-- ARP_REQUEST: an ARP request or a neighbour solicitation for `target` (R298): answered with NET_PORTp_MAC where it is for
the port's own address, with broadcast admitted to ARP only (R299). -/
def execArpRequest (f : NetFrame) (v6 : Bool) (target : BitVec 128) (s : State) : Out :=
  let (mine, s) := s.classify f fun _ => .plain
  if !mine then .next s
  else
    let own := if v6 then s.ownIp6 f.port else s.ownIp4 f.port
    if own = 0 ∨ target.toNat ≠ own ∨ (v6 ∧ f.dst.toNat = broadcastMac) then .next (s.filtered f.port)
    else if !s.partRoom f false then .next (s.noRoom f.port)
    else
      let reply := NetTx.resolution f.port v6 (BitVec.ofNat 48 (s.ownMac f.port)) f.src target
      .next (s.waitTx f.port { cls := 2, len := resolutionLen v6, what := .ready reply })

/-! ### Rekin frames -/

/-- What the ports make of a frame that carries a Rekin packet. -/
inductive RknFrame where | take | drop
deriving DecidableEq, Repr

/-- A frame is an encapsulation that R152 accepts; a fragment or a datagram with extension headers is one too, to be
counted. -/
def State.rknEncap (s : State) (f : NetFrame) : Bool :=
  match f.encap with
  | .raw => s.flag F.RKN_CFG_RAW_EN
  | .udp4 _ _ _ dport _ => s.flag F.RKN_CFG_UDP4_EN && dport.toNat == s.get F.RKN_CFG_UDP_PORT
  | .udp6 _ _ _ dport _ => s.flag F.RKN_CFG_UDP6_EN && dport.toNat == s.get F.RKN_CFG_UDP_PORT
  | .other _ => false

/-- The MAC, classification and the ingress packet buffer for a frame with a Rekin packet of management (`small`) or of
scene data: taken, or dropped and counted (R124, R152, R295, R297, R301). -/
def State.rknTake (s : State) (f : NetFrame) (small : Bool) : RknFrame × State :=
  let (own, s) := s.classify f fun _ => .plain
  if !own then (.drop, s)
  else if f.dst.toNat = broadcastMac ∨ ¬ s.rknEncap f ∨ ¬ s.ownIp f then (.drop, s.filtered f.port)
  else if !s.partRoom f small then (.drop, s.noRoom f.port)
  else if encapFrag f.encap then (.drop, s.countReg A.RKN_CNT_BADHDR)
  else (.take, s)

/-! ### Sessions and the transmit queue -/

/-- Session `i`. -/
def State.session (s : State) (i : Nat) : Session := sparseGet (fun _ => {}) s.sess i

/-- Session `i` replaced. -/
def State.setSession (s : State) (i : Nat) (x : Session) : State := { s with sess := sparseSet (fun _ => {}) s.sess i x }

/-- The session that flow `f`'s context names; in Stay its retained copy (R502). -/
def State.flowSession (s : State) (f : Nat) : Nat :=
  if s.inStay then
    match s.power.retained.find? fun c => c.1 == f with
    | some c => field (c.2.getD 0 0) 8 8
    | none => 0
  else s.get (F.FLOW_W0_SESSION f)

/-- Session `i` has a key for KEY_PHASE `ph` (R155); session 0 has none. -/
def State.hasKey (s : State) (i : Nat) (ph : Fin 2) : Bool := i != 0 && ((s.session i).keys[ph]).isSome

/-- The key and salt that session `i` sends under (R306, R431, R432). -/
def Session.txKey (x : Session) : Option (BitVec 288) := (x.keys[x.txPhase]).map (·.tx)

/-- The key and salt that session `i` receives under with KEY_PHASE `ph` (R155); session 0 has none. -/
def State.rxKey (s : State) (i : Nat) (ph : Fin 2) : Option (BitVec 288) :=
  if i = 0 then none else ((s.session i).keys[ph]).map (·.rx)

/-- A reply's own source address: the address its request was sent to, or the port's own where that was a group.
DESIGN CHOICE, log 47. -/
def State.replySrc (s : State) (r : ReplyTo) : BitVec 48 :=
  if isGroupMac r.own.toNat then BitVec.ofNat 48 (s.ownMac r.port) else r.own

/-- How a reply goes back: in the request's encapsulation, its addresses and UDP ports exchanged (R306). -/
def State.replyVia (s : State) (r : ReplyTo) : MsgVia :=
  let group := isGroupMac r.own.toNat
  match r.encap with
  | .udp4 src dst sport dport _ => .udp4 (if group then BitVec.ofNat 32 (s.ownIp4 r.port) else dst) src dport sport
  | .udp6 src dst sport dport _ => .udp6 (if group then BitVec.ofNat 128 (s.ownIp6 r.port) else dst) src dport sport
  | _ => .raw

/-- How EVENT and ALERT messages go from port `p`: to NET_EVT_DST, as NET_EVT_CFG.RAW and IPV6 say (R307), from source
port `sport`. -/
def State.eventVia (s : State) (p : PortId) (sport : BitVec 16) : MsgVia :=
  let port := BitVec.ofNat 16 (s.rd A.NET_EVT_DST_UDP).toNat
  if s.flag F.NET_EVT_CFG_RAW then .raw
  else if s.flag F.NET_EVT_CFG_IPV6 then
    .udp6 (BitVec.ofNat 128 (s.ownIp6 p))
      (BitVec.ofNat 128 ((List.range 4).foldl (fun x i => x * 2 ^ 32 + (s.rd (A.NET_EVT_DST_IP i)).toNat) 0)) sport port
  else .udp4 (BitVec.ofNat 32 (s.ownIp4 p)) (s.rd (A.NET_EVT_DST_IP 3)) sport port

/-- The destination MAC of EVENT and ALERT messages (R307). -/
def State.eventMac (s : State) : BitVec 48 :=
  BitVec.ofNat 48 ((s.rd A.NET_EVT_DST_MAC_HI).toNat % 65536 * 2 ^ 32 + (s.rd A.NET_EVT_DST_MAC_LO).toNat)

/-- The bytes of IP and UDP header of an encapsulation. -/
def viaOverhead : MsgVia → Nat
  | .raw => 0
  | .udp4 _ _ _ _ => 28
  | .udp6 _ _ _ _ => 48

/-- The header of a message that the device sends (R153, R304, R306). -/
def msgHdr (flow : Nat) (seq : BitVec 48) (frame : Nat) (phase : Fin 2) (len : Nat) : RknHdr :=
  { ver := 2, typ := 3, flags := BitVec.ofNat 8 (8 * phase.val), flow := BitVec.ofNat 16 flow, seq := seq
    frame := BitVec.ofNat 32 frame, surface := 0, res1 := 0, x := 0, y := 0, w := 0, h := 0
    len := BitVec.ofNat 16 len, res2 := 0 }

/-- The frame of a message on port `p`, its sealed packet `b`. -/
def State.msgFrame (s : State) (m : HostMsg) (p : PortId) (sport : BitVec 16) (b : List Byte) : TxItem :=
  let (src, dst, via) := match m.dest with
    | some r => (s.replySrc r, r.mac, s.replyVia r)
    | none => (BitVec.ofNat 48 (s.ownMac p), s.eventMac, s.eventVia p sport)
  { cls := 2, len := frameLen (viaOverhead via + b.length), what := .ready (.message p src dst via b) }

/-- The flow a message goes out on. -/
def State.msgFlow (s : State) (m : HostMsg) : Nat :=
  match m.dest with | some r => r.flow | none => s.get F.NET_EVT_CFG_FLOW

/-- A message leaves the transmit queue on its flow, sealed under its session's device-to-host key, every copy under one
SEQ (R306, R307); after the reply to a KEY_UPDATE the session sends under its new key, with SEQ from 0 (R432). One whose
session has no key or has used every SEQ, or with no port up, is lost: DESIGN CHOICE. The source port of a datagram that
is no reply is free. DESIGN CHOICE, log 47; DEDUCED, log 144. -/
def State.sendMsg (s : State) (m : HostMsg) : State :=
  let flow := s.msgFlow m
  let i := s.flowSession flow
  let x := s.session i
  let ports := s.msgPorts m
  let next (x : Session) : Session := if m.rekey then { x with txPhase := x.phase, txSeq := 0 } else x
  match (if i = 0 then none else x.txKey) with
  | some k =>
    if ports.isEmpty ∨ x.txSeq = BitVec.allOnes 48 then s.setSession i (next x)
    else
      let b := rknSeal k (msgHdr flow x.txSeq s.frameIndex x.txPhase m.bytes.length) m.bytes
      let s := s.setSession i (next { x with txSeq := x.txSeq + 1 })
      let (sport, s) := if m.dest.isSome ∨ s.flag F.NET_EVT_CFG_RAW then (0, s) else s.draw 16
      forAll ports s fun s p => s.waitTx p (s.msgFrame m p (BitVec.ofNat 16 sport) b)
  | none => s.setSession i (next x)

/-- The oldest message of the transmit queue leaves it once no other of its class waits at any of its ports.
DESIGN CHOICE, log 46. -/
def State.drainMtx (s : State) : State :=
  match s.net.mtx with
  | [] => s
  | m :: t =>
    if (s.msgPorts m).any fun p => (s.txPort p).queue.any fun x => x.cls == 2 then s
    else { s with net := { s.net with mtx := t } }.sendMsg m

end Sys2Proof.Machine
end

