-- ==== Sys2Proof/Machine/SramErr.lean ====
section
/-!
DEFINITION. Sys2Proof/Machine/SramErr.lean: what an error in on-chip SRAM does (R475 to R477): counts, the error
address, events, and the retests it asks for.
-/

namespace Sys2Proof.Machine

/-- The first slice of each region and the number of its slices (the Slices by region table). -/
def sramRegions : List (Nat × Nat) :=
  [(0, 4480), (4480, 128), (4608, 512), (5120, 512), (5632, 128), (5760, 96), (5856, 124), (5980, 100), (6080, 64)]

/-- The slice that holds the 8-byte unit `off` of region `r`; a slice is 16 KiB. -/
def sliceOf (r off : Nat) : Nat :=
  let (first, n) := sramRegions.getD r (0, 1)
  first + off / 2048 % n

/-- BIST_STATUS.RETEST: a retest waits. -/
def State.showRetest (s : State) : State := s.put F.BIST_STATUS_RETEST (b2n (!s.bist.retest.isEmpty))

/-- Slice `x` is queued for a retest. DEDUCED, log 117. -/
def State.queueRetest (s : State) (x : Nat) : State :=
  if s.bist.retest.contains x then s
  else { s with bist := { s.bist with retest := s.bist.retest ++ [x] } }.showRetest

/-- A run-time error of a kind at 8-byte unit `off` of region `r`: BIST_ERR_ADDR, and a retest of a slice that
shows its second one within a pass (R475). DESIGN CHOICE, log 118. -/
def State.sramErr (s : State) (r off kind : Nat) : State :=
  let s := s.wr A.BIST_ERR_ADDR (BitVec.ofNat 32 (off % 2 ^ 24 + r * 2 ^ 24 + kind * 2 ^ 28 + 2 ^ 31))
  let x := sliceOf r off
  if s.bist.seen.contains x then s.queueRetest x
  else { s with bist := { s.bist with seen := x :: s.bist.seen } }

/-- A correctable error: the word is returned corrected (R475). -/
def State.sramCorr (s : State) (r off : Nat) : State := (s.count F.BIST_COUNT_CORR).sramErr r off 0

/-- An uncorrectable error (R476). -/
def State.sramUncorr (s : State) (r off : Nat) : State :=
  let s := ((s.count F.BIST_COUNT_UNCORR).set F.BIST_FLAGS_SRAM_UNCORR).sramErr r off 1
  (s.sqsEvent 0x50 3 (off % 2 ^ 24 + r * 2 ^ 24)).queueRetest (sliceOf r off)

/-- A parity error in a protected region other than a sequencer's data memory (R477). -/
def State.parityErr (s : State) (r off : Nat) : State :=
  let s := (s.set F.BIST_FLAGS_PARITY).sramErr r off 2
  s.sqsEvent 0x50 3 (off % 2 ^ 24 + r * 2 ^ 24)

/-- A free offset within region `r`, where the spec does not lay the region out. DESIGN CHOICE, log 118. -/
def State.drawOff (s : State) (r : Nat) : Nat × State :=
  let (x, s) := s.draw 24
  (x % ((sramRegions.getD r (0, 1)).2 * 2048), s)

/-- The half-word at byte address `a` of a LUT window. -/
def State.lutHalf (s : State) (a : Nat) : Nat := field (s.rd (a / 4 * 4)) (a / 2 % 2 * 16) 16

/-- Entry `i` of the LUT of `count` entries at `base`; an entry whose address is among `bad` has a parity error
(R477). -/
def State.lutEntry (s : State) (base count : Nat) (bad : List Nat) (i : Nat) : Nat :=
  let e (j : Nat) := s.lutHalf (base + 2 * j)
  if bad.contains (base + 2 * i) then
    ((if i = 0 then e i else e (i - 1)) + (if i + 1 < count then e (i + 1) else e i)) / 2
  else e i

/-- The parity errors of the LUT entries at the addresses `bad` (R477). -/
def State.lutParity (s : State) (bad : List Nat) : State :=
  forAll bad s fun s _ =>
    let (off, s) := s.drawOff 6
    s.parityErr 6 off

/-- A parity error in the data memory of sequencer `q` at byte address `a` (R477): the event with CODE 4. -/
def State.dmemErr (s : State) (q : SeqId) (a : Nat) : State :=
  let (off, s) := s.drawOff 7
  let s := ((s.set F.BIST_FLAGS_PARITY).set F.BIST_FLAGS_DMEM_PERR).sramErr 7 off 2
  s.sqsEvent 0x50 4 (a % 2 ^ 16 + q.val * 2 ^ 16)

end Sys2Proof.Machine
end

