-- ==== Sys2Proof/Machine/Scene.lean ====
section
/-!
DEFINITION. Sys2Proof/Machine/Scene.lean: the scene store (R13, R475, R476), plane descriptors and banks (R168 to
R172), and DRAM surface descriptors (R173, R175).
-/

namespace Sys2Proof.Machine

/-! ### Plane descriptors -/

/-- Plane `p` beside its registers. -/
def State.plane (s : State) (p : Fin 16) : PlaneUnit := s.ing.planes[p]

/-- Plane `p` replaced. -/
def State.setPlane (s : State) (p : Fin 16) (x : PlaneUnit) : State :=
  { s with ing := { s.ing with planes := s.ing.planes.set p x } }

/-- The descriptor that plane `p`'s registers hold. -/
def State.planeRegs (s : State) (p : Nat) : PlaneDesc :=
  { en := s.flag (F.SST_PLANE_CTRL_EN p), fmt := s.get (F.SST_PLANE_CTRL_FORMAT p)
    relief := s.flag (F.SST_PLANE_CTRL_RELIEF p), width := s.get (F.SST_PLANE_CTRL_WIDTH p)
    height := s.get (F.SST_PLANE_CTRL_HEIGHT p), bank0 := s.get (F.SST_PLANE_BANK0_BASE p)
    bank1 := s.get (F.SST_PLANE_BANK1_BASE p) }

/-- Bytes of colour data in a bank. -/
def PlaneDesc.colourBytes (d : PlaneDesc) : Nat := d.width * d.height * 4

/-- Bytes of one relief row. -/
def PlaneDesc.reliefPitch (d : PlaneDesc) : Nat := (d.width + 1) / 2

/-- Bytes of a bank (R168). -/
def PlaneDesc.bankBytes (d : PlaneDesc) : Nat := d.colourBytes + (if d.relief then d.reliefPitch * d.height else 0)

/-- The 64-byte units of the scene store. -/
def sceneUnits : Nat := 1146880

/-- A descriptor passes the checks of R169. -/
def PlaneDesc.ok (d : PlaneDesc) : Bool :=
  decide (1 ≤ d.width) && decide (d.width ≤ 2048) && decide (1 ≤ d.height) && decide (d.height ≤ 1024)
    && decide (d.bank0 + ceilDiv d.bankBytes 64 ≤ sceneUnits) && decide (d.bank1 + ceilDiv d.bankBytes 64 ≤ sceneUnits)

/-- Plane `p` is in use: its live EN is 1 and its live descriptor passes (R169). -/
def State.planeOk (s : State) (p : Fin 16) : Bool := (s.plane p).live.en && (s.plane p).live.ok

/-- The sixteen planes. -/
def allPlanes : List (Fin 16) := fins 16

/-- Every plane's descriptor sampled, at a latch that at least one quadrant takes (R169). -/
def State.samplePlanes (s : State) : State :=
  forAll allPlanes s fun s p =>
    let d := { s.planeRegs p with en := s.keptGet (F.SST_PLANE_CTRL_EN p) == 1 }
    (s.setPlane p { s.plane p with live := d }).put (F.SST_PLANE_STATUS_ALLOC_BAD p) (b2n (d.en && !d.ok))

/-- The front bank of plane `p`, 0 or 1. -/
def State.front (s : State) (p : Fin 16) : Nat := s.get (F.SST_PLANE_STATUS_FRONT p)

/-- The byte address of bank `b` of descriptor `d`. -/
def PlaneDesc.bank (d : PlaneDesc) (b : Nat) : Nat := 64 * (if b = 0 then d.bank0 else d.bank1)

/-- The byte address of colour pixel (x, y) of bank `b`. -/
def PlaneDesc.pixelAt (d : PlaneDesc) (b x y : Nat) : Nat := d.bank b + (y * d.width + x) * 4

/-- The byte address of the relief pixel at (x, y) of bank `b`: the low nibble for even x (R168). -/
def PlaneDesc.reliefAt (d : PlaneDesc) (b x y : Nat) : Nat :=
  d.bank b + d.colourBytes + y * d.reliefPitch + x / 2

/-- A plane whose descriptor fields are locked: its live EN is 1 or it is BUSY (R169). -/
def State.planeLocked (s : State) (p : Fin 16) : Bool :=
  (s.plane p).live.en || s.flag (F.SST_PLANE_STATUS_BUSY p)

/-! ### The scene store -/

/-- The byte at address `a`; memory BIST leaves 0 (R465). DESIGN CHOICE, log 8. -/
def State.sceneByte (s : State) (a : Nat) : Byte := sparseGet (fun _ => 0) s.ing.scene a

/-- Bytes stored from address `a` on. -/
def storeBytes (m : Sparse Byte) (a : Nat) : List Byte → Sparse Byte
  | [] => m
  | b :: t => storeBytes (sparseSet (fun _ => 0) m a b) (a + 1) t

/-- Bytes written to the scene store from address `a` on; a failing 8-byte word written in full is whole again
(R476). -/
def State.sceneWrite (s : State) (a : Nat) (b : List Byte) : State :=
  let whole (w : Nat) : Bool := decide (a ≤ 8 * w) && decide (8 * w + 8 ≤ a + b.length)
  { s with ing := { s.ing with scene := storeBytes s.ing.scene a b, bad := s.ing.bad.filter (fun w => !whole w) } }

/-- A nibble written at byte address `a`, the low one where `low`. -/
def State.sceneNibble (s : State) (a : Nat) (low : Bool) (v : Nat) : State :=
  let b := (s.sceneByte a).toNat
  s.sceneWrite a [BitVec.ofNat 8 (if low then b / 16 * 16 + v % 16 else v % 16 * 16 + b % 16)]

/-- The 8-byte word that holds address `a` fails its check bits (R476). -/
def State.sceneBad (s : State) (a : Nat) : Bool := s.ing.bad.contains (a / 8)

/-- What the words that hold `n` bytes from `a` on show as they are read: the failing ones are reported (R476), and
which of the others had a correctable error, and so were returned corrected, is free (R475). DESIGN CHOICE, log 118. -/
def State.sceneReport (s : State) (a n : Nat) : State :=
  forAll ((List.range ((a + n + 7) / 8 - a / 8)).map (a / 8 + ·)) s fun s w =>
    if s.ing.bad.contains w then s.sramUncorr 0 w
    else
      let (c, s) := s.draw 1
      if c = 1 then s.sramCorr 0 w else s

/-- `n` bytes read from address `a` on, and the failing words among them reported. -/
def State.sceneRead (s : State) (a n : Nat) : List Byte × State :=
  ((List.range n).map (fun i => s.sceneByte (a + i)), s.sceneReport a n)

/-! ### DRAM surfaces -/

/-- The quadrant of DRAM surface `d`. -/
def State.surfQuad (s : State) (d : Fin 32) : QuadId :=
  ⟨s.get (F.RKN_SURF_FMT_QUAD d) % 4, Nat.mod_lt _ (by decide)⟩

/-- Bytes of a pixel of DRAM surface `d`; none where BPP is reserved. -/
def State.surfBpp (s : State) (d : Fin 32) : Option Nat :=
  match s.get (F.RKN_SURF_FMT_BPP d) with | 0 => some 1 | 1 => some 2 | 2 => some 4 | _ => none

end Sys2Proof.Machine
end

