-- ==== Sys2Proof/Machine/Nbr.lean ====
section
/-!
DEFINITION. Sys2Proof/Machine/Nbr.lean: neighbour links (R309 to R325) but for what a received strip or fence does
to a plane: bring-up, lanes, credits, sleep, the sending of apron strips, and seam metrics.
-/

namespace Sys2Proof.Machine

/-- Neighbour port `q` beside its registers. -/
def State.port (s : State) (q : NbrId) : NbrPort := s.nbr[q]

/-- Neighbour port `q` replaced. -/
def State.setPort (s : State) (q : NbrId) (x : NbrPort) : State := { s with nbr := s.nbr.set q x }

/-- The stage of port `q` (the Neighbour link stages table). -/
def State.nbrStage (s : State) (q : NbrId) : Nat := s.get (F.NBR_STATUS_STAGE q)

/-- Port `q` is ACTIVE. -/
def State.nbrActive (s : State) (q : NbrId) : Bool := s.nbrStage q == 6

/-- Port `q` sends and accepts frames: ACTIVE, with both directions keyed (R313). -/
def State.nbrOpen (s : State) (q : NbrId) : Bool := s.nbrActive q && s.flag (F.NBR_STATUS_KEYED q)

/-- An NBR_LINK event. -/
def State.nbrLink (s : State) (q : NbrId) (code : Nat) : State := s.sqsEvent 0x47 code q.val

/-- An NBR_SEAM event for frame number `k`. -/
def State.nbrSeam (s : State) (q : NbrId) (code k : Nat) : State := s.sqsEvent 0x48 code (q.val + k % 2 ^ 24 * 256)

/-- Blocks leave on the lanes in use that the peer has announced; the index of the first and the scramblers' states are
free values. DEDUCED, log 193. -/
def State.nbrPut (s : State) (q : NbrId) (w : NbrSends) : State :=
  let (odd, s) := s.draw 1
  let (a, s) := s.draw 58
  let (b, s) := s.draw 58
  let x := s.port q
  let t : NbrTx := { what := w, lanes := s.get (F.NBR_STATUS_LANES q) &&& x.peerOk, odd := odd == 1
                     seed0 := BitVec.ofNat 58 a, seed1 := BitVec.ofNat 58 b }
  s.setPort q { x with sent := t :: x.sent }

/-- ALIGN blocks leave (R311), their block counter a free value. -/
def State.nbrAlign (s : State) (q : NbrId) : State :=
  let (c, s) := s.draw 48
  s.nbrPut q (.align c)

/-! ### Bring-up -/

/-- Port `q` enters a stage; in TRAIN it sends IDLE blocks, in SYMBOL_LOCK ALIGN blocks (R311, R316). -/
def State.nbrEnter (s : State) (q : NbrId) (stage : Nat) : State :=
  let s := (s.put (F.NBR_STATUS_STAGE q) stage).setPort q { s.port q with since := s.wt.cycle }
  if stage = 2 then s.nbrPut q .idle else if stage = 4 then s.nbrAlign q else s

/-- Port `q` enters DETECT. -/
def State.nbrDetect (s : State) (q : NbrId) : State :=
  let s := (s.put (F.NBR_STATUS_LANES q) 0).put (F.NBR_STATUS_CREDITS q) 0
  let s := (s.clr (F.NBR_STATUS_TX_SLEEP q)).clr (F.NBR_STATUS_RX_SLEEP q)
  (s.setPort q { s.port q with down := false, retrain := false, peerOk := 3 }).nbrEnter q 1

/-- Sends in progress are abandoned (R319, R325). -/
def State.nbrAbandon (s : State) (q : NbrId) : State :=
  if (s.port q).sends.isEmpty then s
  else (s.set (F.NBR_FLAGS_ABANDON q)).setPort q { s.port q with sends := [] }

/-- Port `q` rests in IDLE or FAILED; with `auto` it begins bring-up again (R316). DEDUCED, log 39. -/
def State.nbrRest (s : State) (q : NbrId) (stage : Nat) (auto : Bool) : State :=
  let s := s.nbrAbandon q
  let s := (s.clr (F.NBR_STATUS_TX_SLEEP q)).clr (F.NBR_STATUS_RX_SLEEP q)
  let s := ((s.put (F.NBR_STATUS_CREDITS q) 0).put (F.NBR_STATUS_LANES q) 0).nbrEnter q stage
  if auto ∧ s.flag (F.NBR_CTRL_AUTO q) then s.nbrDetect q else s

/-- An ACTIVE port leaves ACTIVE: LINK_DOWN (R311), IDLE until START or AUTO = 1 (R316). -/
def State.nbrDown (s : State) (q : NbrId) : State :=
  let s := (s.set (F.NBR_FLAGS_LINK_DOWN q)).nbrLink q 2
  (s.setPort q { s.port q with down := true }).nbrRest q 0 true

/-- Bring-up fails: FAILED with TRAIN_FAIL (R316, R317). -/
def State.nbrFail (s : State) (q : NbrId) : State :=
  ((s.set (F.NBR_FLAGS_TRAIN_FAIL q)).nbrLink q 4).nbrRest q 7 true

/-- Port `q` enters ACTIVE with every credit of its peer's empty receive buffer (R315). -/
def State.nbrGoActive (s : State) (q : NbrId) : State :=
  let s := (s.put (F.NBR_STATUS_CREDITS q) 256).nbrEnter q 6
  (s.setPort q { s.port q with idle := s.wt.cycle }).nbrLink q 1

/-- A write of START (R316): a port in Stay stays IDLE. DEDUCED, log 39. -/
def State.nbrStart (s : State) (q : NbrId) : State :=
  if !s.inStay ∧ (s.nbrStage q = 0 ∨ s.nbrStage q = 7) then s.nbrDetect q else s

/-- A write of STOP: the port is unpowered and IDLE (R316). DEDUCED, log 39; DEDUCED, log 129. -/
def State.nbrStop (s : State) (q : NbrId) : State :=
  let s := (if s.nbrActive q then s.set (F.NBR_FLAGS_LINK_DOWN q) else s).nbrRest q 0 false
  s.setPort q { s.port q with down := false }

/-- NBR_START. -/
def execNbrStart (p : NbrId) (s : State) : Out := .next (s.nbrStart p)

/-- NBR_STOP. -/
def execNbrStop (p : NbrId) (s : State) : Out := .next (s.nbrStop p)

/-- Lane `lane` is in use. -/
def State.nbrLane (s : State) (q : NbrId) (lane : Nat) : Bool := bit (s.get (F.NBR_STATUS_LANES q)) lane

/-- PEER_RECEIVERS_DETECTED: the lanes on which the peer's receivers are found (R316). -/
def execPeerReceiversDetected (p : NbrId) (lanes : BitVec 2) (s : State) : Out :=
  if s.nbrStage p = 1 ∧ lanes ≠ 0 then
    let s := s.put (F.NBR_STATUS_LANES p) lanes.toNat
    let s := if lanes = 3 then s else (s.set (F.NBR_FLAGS_DEGRADED p)).nbrLink p 3
    .next (s.nbrEnter p 2)
  else .next s

/-- The greatest lane rate of the device, 16.0 Gb/s in units of 0.125 Gb/s (R309). -/
def nbrRateMax : Nat := 128

/-- The least lane rate, 2.5 Gb/s (R309). -/
def nbrRateMin : Nat := 20

/-- A transmitter with something to send wakes: ALIGN, then on (R324). -/
def State.nbrWake (s : State) (q : NbrId) : State :=
  let s := s.setPort q { s.port q with idle := s.wt.cycle }
  if s.flag (F.NBR_STATUS_TX_SLEEP q) then (s.clr (F.NBR_STATUS_TX_SLEEP q)).nbrAlign q else s

/-- A CAPS block is sent: RATE_MAX, the tile ID, LANES_OK (R311). -/
def State.nbrSendCaps (s : State) (q : NbrId) (lanesOk : Nat) : State :=
  let s := s.nbrWake q
  s.nbrPut q (.caps (capsBytes nbrRateMax (s.rd A.NBR_ID).toNat lanesOk))

/-- NBR_RECEIVER_LOCK: what the receiver has gained on its lanes: the peer's signal on a lane in TRAIN, the clock of
every used lane in BIT_LOCK, block lock and deskew in SYMBOL_LOCK, relock after the peer wakes (R316, R324); or the
peer's rate lies more than 100 ppm off (R310). DEDUCED, log 44. -/
def execNbrReceiverLock (p : NbrId) (lanes : BitVec 2) (refBad : Bool) (s : State) : Out :=
  let stage := s.nbrStage p
  let used := s.get (F.NBR_STATUS_LANES p)
  let all := lanes.toNat &&& used == used
  if refBad then
    if 2 ≤ stage ∧ stage ≤ 6 then
      let s' := s.set (F.NBR_FLAGS_REF_BAD p)
      let s' := if stage = 6 then (s'.set (F.NBR_FLAGS_LINK_DOWN p)).nbrLink p 2 else s'
      .next (s'.nbrRest p 7 true)
    else .next s
  else if stage = 2 ∧ lanes.toNat &&& used ≠ 0 then .next (s.nbrEnter p 3)
  else if stage = 3 ∧ all then .next (s.nbrEnter p 4)
  else if stage = 4 ∧ all then
    if (s.port p).retrain then .next (s.nbrGoActive p) else .next ((s.nbrEnter p 5).nbrSendCaps p used)
  else if stage = 6 ∧ all then .next (s.clr (F.NBR_STATUS_RX_SLEEP p))
  else .next s

/-- NBR_STAGE_TIMEOUT (the Neighbour link stages table). -/
def execNbrStageTimeout (p : NbrId) (s : State) : Out :=
  let stage := s.nbrStage p
  let limit := if stage = 1 then 10 else 1000
  if 1 ≤ stage ∧ stage ≤ 5 ∧ s.passedUs (s.port p).since limit then .next (s.nbrFail p) else .next s

/-- NBR_CAPS, with bytes 1 to 7 of the block: in CAPS the rate is agreed and the port trains again at it (R317); a rate
below the least fails (R309), as one above either end's greatest does; on an ACTIVE port only LANES_OK is recorded
(R414). DEDUCED, log 194. -/
def execNbrCaps (p : NbrId) (b : List Byte) (s : State) : Out :=
  let rateMax := beAt b 0 2
  let peer (s : State) : State := s.setPort p { s.port p with peerOk := beAt b 6 1 % 4 }
  if s.nbrStage p = 5 then
    let set := s.get (F.NBR_RATE_RATE p)
    let rate := if set ≠ 0 then set else min nbrRateMax rateMax
    let s := (peer s).wr (A.NBR_PEER_ID p) (BitVec.ofNat 32 (beAt b 2 4))
    if nbrRateMax < rate ∨ rateMax < rate ∨ rate < nbrRateMin then .next (s.nbrFail p)
    else
      let s := (s.put (F.NBR_STATUS_RATE p) rate).nbrEnter p 2
      .next (s.setPort p { s.port p with retrain := true })
  else if s.nbrStage p = 6 then .next (peer s)
  else .next s

/-! ### Sending -/

/-- The credits a frame with `len` payload bytes takes (R315). -/
def nbrCost (len : Nat) : Nat := ceilDiv (28 + len + 16) 256

/-- A frame sent under the next SEQ, sealed with the port's transmit key, its credits taken (R312 to R315). -/
def State.nbrSend (s : State) (q : NbrId) (f : NbrFrame) : State :=
  let s := s.nbrWake q
  let s := s.put (F.NBR_STATUS_CREDITS q) (s.get (F.NBR_STATUS_CREDITS q) - nbrCost f.payload.length)
  let x := s.port q
  match x.txKey with
  | some k =>
    (s.setPort q { x with txSeq := x.txSeq + 1 }).nbrPut q (.frame (nbrSeal k { f with seq := BitVec.ofNat 64 x.txSeq }))
  | none => s

/-- Credits returned to the peer, in a CREDIT block (R315). -/
def State.nbrReturn (s : State) (q : NbrId) (n : Nat) : State := (s.nbrWake q).nbrPut q (.credit (creditBytes n))

/-- `n` scene-store bytes for a reader whose chapter gives a failing word no value: those words, and bytes beyond the
store, read free. DESIGN CHOICE, log 41. -/
def State.sceneReadFree (s : State) (a n : Nat) : List Byte × State :=
  let (b, s) := s.sceneRead a n
  let none_ (i : Nat) : Bool := s.sceneBad (a + i) || decide (64 * sceneUnits ≤ a + i)
  if (List.range n).any none_ then
    let (r, s) := s.freeBytes n
    (((List.range n).zip (b.zip r)).map (fun (i, x, y) => if none_ i then y else x), s)
  else (b, s)

/-- One row of a strip from column `x0`, `w` pixels of row `y`. -/
def State.stripRow (s : State) (x : StripSend) (y : Nat) : List Byte × State :=
  let (x0, w) := (x.src.1, x.size.1)
  if x.relief then
    let a := x.desc.reliefAt x.bank x0 y
    let (b, s) := s.sceneReadFree a (x.desc.reliefAt x.bank (x0 + w - 1) y + 1 - a)
    let nib (i : Nat) : Nat :=
      let v := (b.getD ((x0 + i) / 2 - x0 / 2) 0).toNat
      if (x0 + i) % 2 = 0 then v % 16 else v / 16
    ((List.range ((w + 1) / 2)).map (fun i =>
      BitVec.ofNat 8 (nib (2 * i) + (if 2 * i + 1 < w then 16 * nib (2 * i + 1) else 0))), s)
  else s.sceneReadFree (x.desc.pixelAt x.bank x0 y) (4 * w)

/-- `k` rows of a strip from row `y` on. -/
def State.stripRows (s : State) (x : StripSend) (y : Nat) : Nat → List Byte × State
  | 0 => ([], s)
  | k + 1 =>
    let (b, s) := s.stripRow x y
    let (t, s) := s.stripRows x (y + 1) k
    (b ++ t, s)

/-- Bytes of one row of the strip as it is being sent. -/
def StripSend.rowBytes (x : StripSend) : Nat := if x.relief then (x.size.1 + 1) / 2 else 4 * x.size.1

/-- The rows that the next STRIP frame holds: as many whole rows as fit in 8,192 bytes (R318). -/
def StripSend.rows (x : StripSend) : Nat :=
  if x.rowBytes = 0 then 0 else min (8192 / x.rowBytes) (x.size.2 - x.row)

/-- The strip with its relief rows next, once its colour rows are sent. -/
def StripSend.turn (x : StripSend) : StripSend :=
  if x.rows = 0 ∧ ¬ x.relief ∧ x.desc.relief then { x with relief := true, row := 0 } else x

/-- The next STRIP frame of a send: a rectangle that leaves its plane goes on at the addresses that the plane's layout
gives its pixels (R10, R168). DEDUCED, log 204. -/
def State.stripFrame (s : State) (x : StripSend) : NbrFrame × StripSend × State :=
  let k := x.rows
  let (b, s) := s.stripRows x (x.src.2 + x.row) k
  let b := b ++ List.replicate (7 - (b.length + 7) % 8) 0
  ({ typ := 1, relief := x.relief, plane := BitVec.ofNat 8 x.plane, seq := 0, frame := BitVec.ofInt 32 x.frame
     x := BitVec.ofNat 16 x.dst.1, y := BitVec.ofNat 16 (x.dst.2 + x.row), w := BitVec.ofNat 16 x.size.1
     h := BitVec.ofNat 16 k, count := 0, payload := b },
   { x with row := x.row + k, count := x.count + 1 }, s)

/-- STRIP frames of the oldest send leave while the port holds their credits (R315, R318); `fuel` bounds their
number. DEDUCED, log 40. -/
def State.nbrPump (s : State) (q : NbrId) : Nat → State
  | 0 => s
  | fuel + 1 =>
    match (s.port q).sends with
    | [] => s
    | x :: t =>
      let x := x.turn
      let cost := nbrCost (ceilDiv (x.rows * x.rowBytes) 8 * 8)
      if s.nbrOpen q ∧ 0 < x.rows ∧ cost ≤ s.get (F.NBR_STATUS_CREDITS q) then
        let (f, x, s) := s.stripFrame x
        let s := s.nbrSend q f
        (s.setPort q { s.port q with sends := x :: t }).nbrPump q fuel
      else s.setPort q { s.port q with sends := x :: t }

/-- More frames than a send can have. -/
def pumpFuel : Nat := 4096

/-- A fence for frame `m` has arrived for plane `p` (R318): every port that sends the plane begins its strip, awake
(R324), and abandons an earlier frame's (R319). DEDUCED, log 40. -/
def State.stripStart (s : State) (p : Fin 16) (m : Int) : State :=
  forAll (fins 4) s fun s q =>
    if bit (s.get (F.NBR_PLANES_TX_MASK q)) p.val ∧ s.nbrOpen q then
      let s := s.nbrWake q
      let x := s.port q
      let s := if x.sends.any (fun y => y.plane == p) then s.set (F.NBR_FLAGS_ABANDON q) else s
      let send : StripSend :=
        { plane := p, frame := m, desc := (s.plane p).live, bank := 1 - s.front p
          src := (s.get (F.NBR_TXSTRIP_SRC_X q p), s.get (F.NBR_TXSTRIP_SRC_Y q p))
          size := (s.get (F.NBR_TXSIZE_WIDTH q p), s.get (F.NBR_TXSIZE_HEIGHT q p))
          dst := (s.get (F.NBR_TXDST_DST_X q p), s.get (F.NBR_TXDST_DST_Y q p)) }
      (s.setPort q { x with sends := x.sends.filter (fun y => !(y.plane == p)) ++ [send] }).nbrPump q pumpFuel
    else s

/-- APRON_STRIP_SEND_END: every STRIP frame has been sent; the FENCE frame with COUNT ends the send, and the next
plane's begins (R318). DEDUCED, log 40. -/
def execApronStripSendEnd (p : NbrId) (s : State) : Out :=
  match (s.port p).sends with
  | [] => .next s
  | x :: t =>
    let x := x.turn
    if s.nbrOpen p ∧ x.rows = 0 ∧ 1 ≤ s.get (F.NBR_STATUS_CREDITS p) then
      let s := s.nbrSend p
        { typ := 2, relief := false, plane := BitVec.ofNat 8 x.plane, seq := 0, frame := BitVec.ofInt 32 x.frame, x := 0, y := 0
          w := 0, h := 0, count := BitVec.ofNat 32 x.count, payload := [] }
      .next ((s.setPort p { s.port p with sends := t }).nbrPump p pumpFuel)
    else .next s

/-- CREDIT, with bytes 1 to 7 of the block: the peer returns credits, and sending goes on (R315). -/
def execCredit (p : NbrId) (b : List Byte) (s : State) : Out :=
  if s.nbrActive p ∧ ¬ s.flag (F.NBR_STATUS_RX_SLEEP p) then
    let c := min 256 (s.get (F.NBR_STATUS_CREDITS p) + beAt b 0 2)
    .next ((s.put (F.NBR_STATUS_CREDITS p) c).nbrPump p pumpFuel)
  else .next s

/-! ### Sleep and lanes -/

/-- SLEEP: the receive direction sleeps (R324). -/
def execSleep (p : NbrId) (s : State) : Out :=
  if s.nbrActive p then .next (s.set (F.NBR_STATUS_RX_SLEEP p)) else .next s

/-- SLEEP_IDLE_TIMEOUT: a transmitter with nothing to send for IDLE_US sends SLEEP (R324); a frame of the very cycle of
the expiry still comes first (R325). -/
def execSleepIdleTimeout (p : NbrId) (s : State) : Out :=
  let x := s.port p
  if s.nbrActive p ∧ s.flag (F.NBR_CTRL_SLEEP_EN p) ∧ ¬ s.flag (F.NBR_STATUS_TX_SLEEP p) ∧ x.sends.isEmpty
      ∧ x.idle + max 1 (s.get (F.NBR_CTRL_IDLE_US p)) * cyclesPerUs < s.wt.cycle then
    .next ((s.nbrPut p .sleep).set (F.NBR_STATUS_TX_SLEEP p))
  else .next s

/-- NBR_LANE_LOCK_LOSS: the port goes on with the other lane, or is down (R311). -/
def execNbrLaneLockLoss (p : NbrId) (lane : Fin 2) (s : State) : Out :=
  if s.nbrActive p ∧ s.nbrLane p lane then
    let s := s.put (F.NBR_STATUS_LANES p) (s.get (F.NBR_STATUS_LANES p) - 2 ^ lane.val)
    if s.get (F.NBR_STATUS_LANES p) = 0 then .next (s.nbrDown p)
    else .next ((s.set (F.NBR_FLAGS_DEGRADED p)).nbrLink p 3)
  else .next s

/-! ### Frames received -/

/-- The frame that the bytes between START and TERM are under the port's receive key, or under a replaced one while it is
held (R313, R433). -/
def NbrPort.openFrame (x : NbrPort) (b : List Byte) : Option NbrFrame :=
  (x.rxKey.toList ++ x.rxOld.map (·.1)).findSome? (nbrOpenFrame · b)

/-- A frame that arrives at an open port (R312 to R315), none where it is not accepted. Its credits go back unless it
is accepted. DEDUCED, log 42. -/
def State.nbrTake (s : State) (q : NbrId) (r : NbrRaw) : Option NbrFrame × State :=
  if ¬ s.nbrOpen q ∨ s.flag (F.NBR_STATUS_RX_SLEEP q) then (none, s)
  else
    let x := s.port q
    let back (s : State) : State := s.nbrReturn q (ceilDiv r.data.length 256)
    if !nbrCrcOk r then (none, back (s.countReg (A.NBR_CNT_LOSS q)))
    else
      match x.openFrame r.data with
      | none =>
        let s := (s.countReg (A.NBR_CNT_AUTH q)).set (F.NBR_FLAGS_AUTH_FAIL q)
        (none, back (s.nbrSeam q 4 (beAt r.data 12 4)))
      | some f =>
        let taken (s : State) : State := s.setPort q { s.port q with rxSeq := some f.seq.toNat }
        match x.rxSeq with
        | some n =>
          if f.seq.toNat ≤ n then (none, back s)
          else (some f, taken (if f.seq.toNat = n + 1 then s else s.countReg (A.NBR_CNT_LOSS q)))
        | none => (some f, taken s)

/-- The accepted frame's units leave the receive buffer at once (R315). -/
def State.nbrLeaves (s : State) (q : NbrId) (f : NbrFrame) : State := s.nbrReturn q (nbrCost f.payload.length)

/-! ### Metrics -/

/-- Bytes of an instant in units of 2^-16 ns: seconds, nanoseconds, FRAC (R323). -/
def metricTime (x : Nat) : List Byte :=
  let ns := x / 65536
  beBytes 8 (ns / 1000000000) ++ beBytes 4 (ns % 1000000000) ++ beBytes 2 (x % 65536)

/-- The instant that 14 bytes hold. -/
def metricTimeOf (b : List Byte) : Nat :=
  (beNat (b.take 8) * 1000000000 + beNat ((b.drop 8).take 4)) * 65536 + beNat ((b.drop 12).take 2)

/-- A METRIC frame launched at the instant `at_` for frame number `k`, `band` the live band (R323).
DESIGN CHOICE, log 215. -/
def State.metricLaunch (s : State) (q : NbrId) (at_ k band : Nat) : State :=
  if s.nbrOpen q ∧ s.flag (F.NBR_CTRL_METRIC_EN q) ∧ 1 ≤ s.get (F.NBR_STATUS_CREDITS q) then
    let x := s.port q
    let (seen, t) := x.metricIn.getD (0, 0)
    let payload := metricTime at_ ++ [BitVec.ofNat 8 (s.get F.WT_STATUS_LEASH), BitVec.ofNat 8 band]
      ++ metricTime t ++ [0, 0]
    let s := s.setPort q { x with launches := (x.txSeq % 2 ^ 32, at_) :: x.launches.take 7 }
    s.nbrSend q { typ := 3, relief := false, plane := 0, seq := 0, frame := BitVec.ofNat 32 k, x := 0, y := 0, w := 0
                  h := 0, count := BitVec.ofNat 32 seen, payload := payload }
  else s

/-- A signed value in units of 0.25 ns in 24 bits with VALID: a free value where it does not fit. -/
def State.putQuarter (s : State) (a : Nat) (x : Int) : State :=
  if -(2 ^ 23) ≤ x ∧ x < 2 ^ 23 then s.wr a (BitVec.ofNat 32 (unsigned 24 x + 2 ^ 31))
  else
    let (v, s) := s.draw 24
    s.wr a (BitVec.ofNat 32 (v + 2 ^ 31))

/-- An unsigned value in units of 0.25 ns in 24 bits with VALID: a free value where it does not fit. -/
def State.putQuarterNat (s : State) (a : Nat) (x : Int) : State :=
  if 0 ≤ x ∧ x < 2 ^ 24 then s.wr a (BitVec.ofInt 32 (x + 2 ^ 31))
  else
    let (v, s) := s.draw 24
    s.wr a (BitVec.ofNat 32 (v + 2 ^ 31))

/-- What an accepted METRIC tells, its START stamped at `t4`: the peer's LEASH and band; SKEW and DELAY where its COUNT
names one of the port's own launches and its T_RX is the stamp of one (R323).
DEDUCED, log 42; DESIGN CHOICE, log 195. -/
def State.metricSeen (s : State) (q : NbrId) (f : NbrFrame) (t4 : Nat) : State :=
  let x := s.port q
  let s := s.setPort q { x with metricIn := some (f.seq.toNat, t4) }
  let b := f.payload
  let s := s.wr (A.NBR_PEER_INFO q) (BitVec.ofNat 32 (beAt b 14 1 % 8 + beAt b 15 1 % 8 * 16 + 2 ^ 31))
  match x.launches.find? (fun l => l.1 == f.count.toNat), metricTimeOf (bytesAt b 16 14) with
  | none, _ => s
  | _, 0 => s
  | some (_, t1), t2 =>
    let t3 : Int := metricTimeOf (b.take 14)
    let asym := signed 16 (s.get (F.NBR_ASYM_ASYM q))
    let skew := (((t2 : Int) - t1) - (t4 - t3)) / 2 / 16384 - asym
    let delay := (((t2 : Int) - t1) + (t4 - t3)) / 2 / 16384 - asym
    let s := (s.putQuarter (A.NBR_SKEW q) skew).putQuarterNat (A.NBR_DELAY q) delay
    let limit : Int := s.get F.NBR_SEAM_CFG_SKEW_LIMIT
    if (limit < skew ∨ skew < -limit) ∧ (s.port q).told ≠ some s.frameIndex then
      let s := (s.set (F.NBR_FLAGS_SKEW q)).setPort q { s.port q with told := some s.frameIndex }
      s.nbrSeam q 1 s.frameIndex
    else s

/-- METRIC: its START is stamped to 0.25 ns (R323). DEDUCED, log 42. -/
def execMetric (p : NbrId) (r : NbrRaw) (s : State) : Out :=
  match s.nbrTake p r with
  | (none, s) => .next s
  | (some f, s) =>
    let s := s.nbrLeaves p f
    .next (if f.typ = 3 then s.metricSeen p f (s.wall16 / 16384 * 16384) else s)

end Sys2Proof.Machine
end

