-- ==== Sys2Proof/Machine/Calibrate.lean ====
section
/-!
DEFINITION. Sys2Proof/Machine/Calibrate.lean: DRAM sweeps and holds (R402 to R410), case U05, and receiver scans (R411
to R414).
-/

namespace Sys2Proof.Machine

/-! ### Eyes -/

/-- The longest run of true entries, the lower of two equal ones: its first index and its length (R402). `at_` is the
index of the head, `run` the run that ends before it, `best` the best one so far. -/
def longestRun : List Bool → Nat → Nat → Nat × Nat → Nat × Nat
  | [], _, _, best => best
  | true :: t, at_, run, best =>
    longestRun t (at_ + 1) (run + 1) (if best.2 < run + 1 then (at_ - run, run + 1) else best)
  | false :: t, at_, _, best => longestRun t (at_ + 1) 0 best

/-- The eye of the error counts at `points` points against ERR_LIMIT. -/
def eyeOf (points limit : Nat) (errs : List Nat) : Nat × Nat :=
  longestRun ((List.range points).map fun i => decide (errs.getD i 0 ≤ limit)) 0 0 (0, 0)

/-- `a / b` in a register of `w` bits: how a quotient that is not whole is rounded, and what one that does not fit
reads, are free. DESIGN CHOICE, log 100. -/
def State.quotient (s : State) (a b w : Nat) : Nat × State :=
  let (r, s) := if a % b = 0 then (0, s) else s.draw 1
  let x := a / b + r
  if x < 2 ^ w then (x, s) else s.draw w

/-! ### Holds -/

/-- A CAL_DRAM event (the Calibration events table). -/
def State.calEvent (s : State) (n : QuadId) (code data : Nat) : State :=
  (s.quadEvent n 0x39 code data).sqsEvent 0x39 code data

/-- A CAL_DRAM event of a hold; its KIND and LANE are free. DESIGN CHOICE, log 99. -/
def State.holdEvent (s : State) (n : QuadId) (code : Nat) : State :=
  let (k, s) := s.draw 2
  let (l, s) := s.draw 2
  s.calEvent n code (k + l * 16 + 256)

/-- The first start check of R408 that refuses, 0 for none. `sweep` carries KIND and the scratch region's base. -/
def State.calCheck (s : State) (n : QuadId) (sweep : Option (Nat × Nat)) : Nat :=
  let running := match (s.dr n).cal with | .sweep _ _ _ _ _ => true | _ => false
  if !s.dramReady n then 1
  else if sweep.isNone && running then 2
  else if s.scans n && decide (s.get (F.MAP_LEVEL_LEVEL n) < s.get (F.CAL_LEVEL_MIN_LEVEL n)) then 3
  else if s.scans n && s.get (F.CMP_STATUS_OVL_LIVE n) != 0 then 4
  else match sweep with
    | some (kind, base) => if s.dramSize n < base + 4096 then 5 else if kind = 3 then 6 else 0
    | none => 0

/-- A hold or a sweep is refused (R408). -/
def State.calRefuse (s : State) (n : QuadId) (r : Nat) : State :=
  (s.set (F.CAL_STATUS_REFUSED n)).put (F.CAL_STATUS_REASON n) r

/-- The interruption of quadrant `n`'s DRAM traffic ends: what waited for it is done (R409). DEDUCED, log 101. -/
def State.calEnd (s : State) (n : QuadId) : State :=
  let d := s.dr n
  let s := (s.clr (F.CAL_STATUS_HOLD_ACTIVE n)).clr (F.CAL_STATUS_BUSY n)
  let s := s.setDr n { d with cal := .none, mr4 := none }
  match d.mr4 with
  | some x => s.mr4Take n x
  | none => s

/-- HOLD = 1 is written (R406, R408); with a hold already asked for or open it changes nothing. DEDUCED, log 98. -/
def State.holdAsk (s : State) (n : QuadId) : State :=
  match (s.dr n).cal with
  | .asked => s
  | .hold _ => s
  | _ =>
    let r := s.calCheck n none
    if r = 0 then s.setDr n { s.dr n with cal := .asked } else (s.calRefuse n r).holdEvent n r

/-- HOLD = 0 is written (R406). -/
def State.holdDrop (s : State) (n : QuadId) : State :=
  match (s.dr n).cal with
  | .asked => s.calEnd n
  | .hold _ => s.calEnd n
  | _ => s

/-- Qn_CAL_CTRL is written. DEDUCED, log 98. -/
def State.writeCalCtrl (s : State) (n : QuadId) (v : Word) : State :=
  let s := s.put (F.CAL_CTRL_HOLD n) (field v 0 1)
  if field v 0 1 = 1 then s.holdAsk n else s.holdDrop n

/-- HOLD: Qn_CAL_CTRL is written with HOLD = 1. -/
def execHold (n : QuadId) (v : Word) (s : State) : Out := .next (s.writeCalCtrl n (v ||| 1))

/-- HOLD_RELEASE: Qn_CAL_CTRL is written with HOLD = 0. -/
def execHoldRelease (n : QuadId) (v : Word) (s : State) : Out := .next (s.writeCalCtrl n (v &&& ~~~1))

/-- HOLD_ACTIVE: the transfers already issued are complete, and the hold opens (R406). -/
def execHoldActive (n : QuadId) (s : State) : Out :=
  match (s.dr n).cal with
  | .asked =>
    .next (((s.setDr n { s.dr n with cal := .hold s.wt.cycle }).set (F.CAL_STATUS_HOLD_ACTIVE n)).holdEvent n 0)
  | _ => .next s

/-- HOLD_EXPIRED: 10 µs after HOLD_ACTIVE rose (R406). -/
def execHoldExpired (n : QuadId) (s : State) : Out :=
  match (s.dr n).cal with
  | .hold since =>
    if s.passedUs since 10 then
      .next (((s.calEnd n).clr (F.CAL_CTRL_HOLD n)).set (F.CAL_STATUS_HOLD_EXPIRED n))
    else .next s
  | _ => .next s

/-! ### Delay and reference registers -/

/-- A calibration window is open in quadrant `n` (R405). -/
def State.calWindow (s : State) (n : QuadId) : Bool :=
  s.dramState n == 0 || s.dramState n == 3 && !(s.dr n).resuming || s.flag (F.CAL_STATUS_HOLD_ACTIVE n)

/-- Queued reads in case U05: their data and marks are free. -/
def State.u05Reads (s : State) (n : QuadId) : List DramRead → List DramRead × State
  | [] => ([], s)
  | r :: t =>
    let (m, b, s) := s.u05Read n (r.word.addr / 64)
    let (l, s) := s.u05Reads n t
    ({ r with word := { r.word with marked := m, bytes := b } } :: l, s)

/-- Case U05 begins (R484, R487): what quadrant `n`'s controller is yet to transfer of reads and writes is free.
DEDUCED, log 97. -/
def State.u05Begins (s : State) (n : QuadId) : State :=
  let (l, s) := s.u05Reads n (s.dr n).rq
  let s := s.setDr n { s.dr n with rq := l }
  forAll (s.dr n).wq s fun s e =>
    let (b, s) := s.freeBytes 64
    s.setDr n ((s.dr n).store e.1 (2 ^ 64 - 1) 0 b)

/-- The delay or reference register at `a` of quadrant `n` is written; outside a window case U05 begins (R405).
DEDUCED, log 97. -/
def State.writeDelay (s : State) (n : QuadId) (a : Nat) (v : Word) : State :=
  let l := (s.dr n).u05.filter (· ≠ a)
  let s := s.wr a v
  if s.calWindow n then s.setDr n { s.dr n with u05 := l }
  else
    let s := s.setDr n { s.dr n with u05 := a :: l }
    if s.dramReady n then s.u05Begins n else s

/-! ### Sweeps -/

/-- The scratch region holds the sweep's pattern; under inline SECDED it reads as uncorrectable (R407).
DESIGN CHOICE, log 102. -/
def State.scratchOver (s : State) (n : QuadId) (base : Nat) : State :=
  forAll (List.range 64) s fun s i =>
    let w := base / 64 + i
    let (b, s) := s.freeBytes 64
    let d := (s.dr n).store w (2 ^ 64 - 1) 0 b
    let d := { d with written := if d.written.contains w then d.written else w :: d.written
                      damaged := if s.inlineEcc n ∧ ¬ d.damaged.contains w then w :: d.damaged else d.damaged }
    (s.setDr n d).noteLiveBank n w

/-- A write of `v` to Qn_CAL_GO takes effect with the engine idle (R407, R408, R517). DEDUCED, log 104. -/
def State.calGo (s : State) (n : QuadId) (v : Word) : State :=
  if field v 0 1 = 0 then s
  else
    let kind := s.get (F.CAL_CFG_KIND n)
    let lane := s.get (F.CAL_CFG_LANE n)
    let base := s.get (F.CAL_SCRATCH_BASE n) * 4096
    let r := s.calCheck n (some (kind, base))
    if r = 0 then
      let s := s.geoAdvance.set (F.CAL_STATUS_BUSY n)
      let s := forAll (List.range 9) s fun s i => s.clr (F.CAL_RES_VALID n i)
      (s.setDr n { s.dr n with cal := .sweep s.wt.cycle lane kind (s.get (F.CAL_CFG_ERR_LIMIT n)) base }).scratchOver n base
    else (s.calRefuse n r).calEvent n r (kind + lane * 16)

/-- CAL_GO: a write that finds the engine idle takes effect (R73, R407). -/
def execCalGo (n : QuadId) (v : Word) (s : State) : Out :=
  if s.engineBusy (A.CAL_GO n) then .next s else .next (s.calGo n v)

/-- Entry `i` of a sweep's results: the eye in taps and picoseconds, or in points and millivolts, and the error count
at the setting in use (R402, R404). A tap length not yet measured leaves the size free. DESIGN CHOICE, log 100. -/
def State.sweepEntry (s : State) (n : QuadId) (kind limit i : Nat) (errs : List Nat) (now : Nat) : State :=
  let (left, width) := eyeOf 128 limit errs
  let right := if width = 0 then 0 else left + width - 1
  let (size, s) :=
    if kind = 2 then (width * 40, s)
    else if width = 0 then (0, s)
    else if s.flag (F.CAL_TAP_VALID n) then s.quotient (width * s.get (F.CAL_TAP_PS n)) 16 16
    else s.draw 16
  (s.wr (A.CAL_RES n i) (BitVec.ofNat 32 (left + right * 2 ^ 8 + width * 2 ^ 16 + 2 ^ 31))).wr (A.CAL_EYE n i)
    (BitVec.ofNat 32 (size + min now 65535 * 2 ^ 16))

/-- SWEEP_DONE: 80 µs after its checks passed the sweep ends, every setting as it was (R403, R407). `errs` are the
errors counted at each point for each entry, `now` those of the dwell at the present settings. -/
def execSweepDone (n : QuadId) (errs : List (List Nat)) (now : List Nat) (s : State) : Out :=
  match (s.dr n).cal with
  | .sweep since lane kind limit _ =>
    if s.passedUs since 80 then
      let s := s.calEnd n
      let s := forAll (List.range (if kind = 2 then 1 else 9)) s fun s i =>
        s.sweepEntry n kind limit i (errs.getD i []) (now.getD i 0)
      .next ((s.calEvent n 0 (kind + lane * 16)).wr (A.CAL_FRAME n) (BitVec.ofNat 32 s.frameNo))
    else .next s
  | _ => .next s

/-- Stay entry abandons a sweep or hold of quadrant `n`: no results, no event (R410). -/
def State.calAbandon (s : State) (n : QuadId) : State :=
  (((s.clr (F.CAL_STATUS_HOLD_ACTIVE n)).clr (F.CAL_STATUS_BUSY n)).clr (F.CAL_CTRL_HOLD n)).setDr n
    { s.dr n with cal := .none, mr4 := none }

/-! ### Receiver scans -/

/-- A neighbour lane's port. -/
def rxPort (l : Fin 16) : NbrId := ⟨(l.val - 8) / 2, by omega⟩

/-- The network port whose lane `l` is, for lanes 0 to 7. -/
def rxNet (l : Fin 16) : PortId := if l.val < 4 then 0 else 1

/-- The reason for which a scan of lane `l` is refused, 0 for none (R412). -/
def State.rxCheck (s : State) (l : Fin 16) : Nat :=
  if l.val < 8 then
    let p := rxNet l
    if ¬ (s.portPowered p ∧ s.portMode p < 6 ∧ (fourLanes (s.portMode p) ∨ l.val % 4 = 0)) then 1
    else if !s.portUp p then 2 else 0
  else
    let q := rxPort l
    if !s.nbrLane q (l.val % 2) then 1
    else if !s.nbrActive q then 2
    else if s.get (F.NBR_STATUS_LANES q) ≠ 3 then 3 else 0

/-- A write of `v` to CAL_RX_GO takes effect with no scan running (R412, R414, R517). -/
def State.rxGo (s : State) (v : Word) : State :=
  let l : Fin 16 := ⟨field v 0 4 % 16, Nat.mod_lt _ (by decide)⟩
  let r := s.rxCheck l
  if r = 0 then
    let s := ((s.set F.CAL_RX_STATUS_BUSY).put F.CAL_RX_STATUS_LANE l).clr (F.CAL_RX_RES_VALID l)
    let s : State := { s with rxScan := some { lane := l, since := s.wt.cycle, runs := decide (l.val < 8) } }
    if l.val < 8 then s else s.nbrSendCaps (rxPort l) (2 - l.val % 2)
  else ((s.set F.CAL_RX_STATUS_REFUSED).put F.CAL_RX_STATUS_REASON r).sqsEvent 0x4D r l

/-- CAL_RX_GO: a write that finds no scan running takes effect (R73, R412). -/
def execCalRxGo (v : Word) (s : State) : Out :=
  if s.flag F.CAL_RX_STATUS_BUSY then .next s else .next (s.rxGo v)

/-- NBR_SCAN_START: 20 µs after the CAPS that drops its lane, a neighbour lane's scan begins (R414). -/
def execNbrScanStart (s : State) : Out :=
  match s.rxScan with
  | some x =>
    if !x.runs ∧ s.passedUs x.since 20 then .next { s with rxScan := some { x with since := s.wt.cycle, runs := true } }
    else .next s
  | none => .next s

/-- The unit interval of lane `l` as a fraction, in ps (R309; the network rates are those of the modes' standard).
PRESUMED, log 103. -/
def State.rxUnit (s : State) (l : Fin 16) : Nat × Nat :=
  if l.val < 8 then
    let m := s.portMode (rxNet l)
    if m = 0 ∨ m = 4 then (3200, 33) else (1280, 33)
  else (8000, max 1 (s.get (F.NBR_STATUS_RATE (rxPort l))))

/-- RX_SCAN_DONE: 40 µs after it began the scan ends, with the errors at the 64 phases and the 32 thresholds (R412 to
R414). DEDUCED, log 104. -/
def execRxScanDone (phase thr : List Nat) (s : State) : Out :=
  match s.rxScan with
  | some x =>
    if x.runs ∧ s.passedUs x.since 40 then
      let l := x.lane
      let limit := s.get F.CAL_RX_CFG_ERR_LIMIT
      let (left, width) := eyeOf 64 limit phase
      let (_, height) := eyeOf 32 limit thr
      let code (i : Nat) : Nat := if width = 0 then 0 else unsigned 6 ((i : Int) - 32)
      let s := s.wr (A.CAL_RX_RES l)
        (BitVec.ofNat 32 (code left + code (left + width - 1) * 2 ^ 8 + width * 2 ^ 16 + 2 ^ 31))
      let (num, den) := s.rxUnit l
      let (ps, s) := s.quotient (width * num) (4 * den) 16
      let s := s.wr (A.CAL_RX_EYE l) (BitVec.ofNat 32 (ps + height * 4 * 2 ^ 16))
      let dly := (signed 6 (s.get (F.CAL_RX_SET_DLY l)) + 32).toNat
      let s := s.put (F.CAL_RX_ERR_ERRS l) (min (phase.getD dly 0) (2 ^ 24 - 1))
      let s : State := { s.clr F.CAL_RX_STATUS_BUSY with rxScan := none }
      let s := if 8 ≤ l.val ∧ s.nbrActive (rxPort l) then s.nbrSendCaps (rxPort l) 3 else s
      .next (s.sqsEvent 0x4D 0 l)
    else .next s
  | none => .next s

end Sys2Proof.Machine
end

