-- ==== Sys2Proof/Machine/Kennel.lean ====
section
/-!
DEFINITION. Sys2Proof/Machine/Kennel.lean: Muzzle (R259, R260), what a lane group sends, the halting of a sequencer
(R87), EVT_N (R536), and Kennel: its reasons, its entry and its exit (R263, R479 to R481, R561).
-/

namespace Sys2Proof.Machine

/-! ### Muzzle -/

/-- The Muzzle sources as they stand: MUZZLE_STATUS [4:1]. The board's low level shows only while no internal
source drives the ball (R259). -/
def State.muzzleSources (s : State) (therm ken : Bool) : Nat :=
  let sw := s.flag ⟨A.MUZZLE_CTRL, 0, 1⟩
  let ext := s.pins.muzzleLow && !(sw || therm || ken)
  b2n sw + 2 * b2n therm + 4 * b2n ken + 8 * b2n ext

/-- The thermal and Kennel sources become `therm` and `ken`, and FORCE and the ball's level are read again; each
change of the sources pushes a MUZZLE event (R259). -/
def State.muzzle (s : State) (therm ken : Bool) : State :=
  let old := field (s.rd A.MUZZLE_STATUS) 1 4
  let new := s.muzzleSources therm ken
  let s := s.put ⟨A.MUZZLE_STATUS, 1, 4⟩ new
  let s := s.put F.MUZZLE_STATUS_ASSERTED (b2n (new != 0))
  let s := s.setIf (8 ≤ new) F.MUZZLE_STATUS_EXT_SEEN
  if new = old then s else s.sqsEvent 0x45 new 0

/-- The Muzzle sources read again, the thermal and Kennel sources as they are. -/
def State.muzzleAgain (s : State) : State :=
  s.muzzle (s.flag F.MUZZLE_STATUS_SRC_THERM) (s.flag F.MUZZLE_STATUS_SRC_KENNEL)

/-- The thermal source of Muzzle (R259, R454). -/
def State.muzzleThermal (s : State) (b : Bool) : State := s.muzzle b (s.flag F.MUZZLE_STATUS_SRC_KENNEL)

/-- The Kennel source of Muzzle (R259, R263). -/
def State.muzzleKennel (s : State) (b : Bool) : State := s.muzzle (s.flag F.MUZZLE_STATUS_SRC_THERM) b

/-- MUZZLE_FORCE: MUZZLE_CTRL is written. -/
def execMuzzleForce (v : Word) (s : State) : Out := .next ((s.put ⟨A.MUZZLE_CTRL, 0, 1⟩ (field v 0 1)).muzzleAgain)

/-- MUZZLE_PIN_SENSE: the level the board puts on PNL_MUZZLE_N changes. -/
def execMuzzlePinSense (low : Bool) (s : State) : Out :=
  .next ({ s with pins := { s.pins with muzzleLow := low } }.muzzleAgain)

/-! ### Lane groups -/

/-- A lane group G = 4n + g (R264). -/
abbrev GroupId := Fin 16

/-- Group `g` of quadrant `n`. -/
def groupOf (n : QuadId) (g : Fin 4) : GroupId := ⟨4 * n.val + g.val, by omega⟩

/-- The quadrant of a group. -/
def GroupId.quad (x : GroupId) : QuadId := ⟨x.val / 4, by omega⟩

/-- A group's number within its quadrant. -/
def GroupId.sub (x : GroupId) : Fin 4 := ⟨x.val % 4, by omega⟩

/-- The sixteen groups. -/
def allGroups : List GroupId := fins 16

/-- The four groups of quadrant `n`. -/
def quadGroups (n : QuadId) : List GroupId := (fins 4).map (groupOf n)

/-- A group of lanes. -/
def State.group (s : State) (x : GroupId) : TplGroup := s.tpl[x]

/-- A group replaced. -/
def State.setGroup (s : State) (x : GroupId) (g : TplGroup) : State := { s with tpl := s.tpl.set x g }

/-- The stage of a group (the TPL stages table). -/
def State.tplStage (s : State) (x : GroupId) : Nat := s.get (F.TPL_STATUS_STAGE x.quad x.sub)

/-- A group is ACTIVE. -/
def State.tplActive (s : State) (x : GroupId) : Bool := s.tplStage x == 6

/-- Group `x` uses TPL2. -/
def State.tpl2 (s : State) (x : GroupId) : Bool := s.get (F.TPL_STATUS_VER x.quad x.sub) == 2

/-- N_C of group `x`. -/
def State.cdics (s : State) (x : GroupId) : Nat := s.get (F.TPL_STATUS_NCDIC x.quad x.sub)

/-- L, the logical lanes of one CDIC (R265). -/
def State.cdicLanes (s : State) (x : GroupId) : Nat := 6 / max 1 (s.cdics x)

/-- The CDIC that takes logical lane `l` (R267). -/
def State.cdicOf (s : State) (x : GroupId) (l : Nat) : Nat := l / max 1 (s.cdicLanes x)

/-- The pair that carries logical lane `l` (R266). -/
def State.lanePair (s : State) (x : GroupId) (l : Nat) : Nat := field (s.rd (A.TPL_MAP x.quad x.sub)) (3 * l) 3

/-- Two logical lanes are on one pair (case U10). -/
def State.mapClash (s : State) (x : GroupId) : Bool :=
  (List.range 6).any fun a => (List.range a).any fun b => s.lanePair x a == s.lanePair x b

/-- The pairs that carry logical lane `l` now: two while a rotation step duplicates it (R284). -/
def State.lanePairs (s : State) (x : GroupId) (l : Nat) : List Nat :=
  match (s.group x).rot with
  | .duplicate lane old new _ step fail => if lane = l ∧ 0 < step ∧ ¬ fail then [old, new] else [s.lanePair x l]
  | _ => [s.lanePair x l]

/-- What group `x` puts on its pairs. What the scrambler or the running disparity holds before it follows from the idle
blocks or characters since the last packet, whose number is not stated: a free value. DEDUCED, log 191. -/
def State.tplPut (s : State) (x : GroupId) (t : Bool → BitVec 58 → TplTx) : State :=
  let (seed, s) := s.draw 58
  let g := s.group x
  s.setGroup x { g with sent := t (s.tpl2 x) (BitVec.ofNat 58 seed) :: g.sent }

/-- A packet sent on `pairs`, coded as TPL2 or not. Under U10 what it carries is free (R484). -/
def State.tplSendOn (s : State) (x : GroupId) (pairs : List Nat) (tpl2 : Bool) (p : TplPacket) : State :=
  let (b, s) := if s.mapClash x then s.freeBytes p.payload.length else (p.payload, s)
  s.tplPut x fun _ e => .packet pairs tpl2 e { p with payload := b }

/-- A packet sent by an ACTIVE group on its logical lane (R272). -/
def State.tplSend (s : State) (x : GroupId) (p : TplPacket) : State :=
  if s.tplActive x then s.tplSendOn x (s.lanePairs x p.lane) (s.tpl2 x) p else s

/-- A CMD packet: its LINE is 0, its FRAME the present frame index. DEDUCED, log 86; DESIGN CHOICE, log 206. -/
def State.cmdPacket (s : State) (dest lane : Nat) (c : TplCmd) : TplPacket :=
  { typ := 5, dest := dest, line := 0, frame := s.frameIndex % 256, lane := lane, payload := c.bytes }

/-- A command on logical lane 0, DEST 15 for every CDIC (R273, R274). -/
def State.tplCmd (s : State) (x : GroupId) (dest : Nat) (c : TplCmd) : State := s.tplSend x (s.cmdPacket dest 0 c)

/-! ### Halting a sequencer -/

/-- A sequencer halts at its next instruction boundary (R87): at once while it is READY, RUNNING, WAITING or
FAULTED, while a fetch stalls, and in a stall on R73, whose write is abandoned; when its read returns or its GO
write is no longer behind earlier writes, otherwise. DEDUCED, log 28. -/
def Seq.halt (c : Seq) (engineBusy : Bool) : Seq :=
  match c.run with
  | .halted => c
  | .stalled =>
    match c.busy with
    | .read _ _ => { c with haltReq := true }
    | .go _ _ _ _ => if c.posted.isEmpty && engineBusy then { c with run := .halted, busy := .none }
      else { c with haltReq := true }
    | _ => { c with run := .halted, busy := .none }
  | _ => { c with run := .halted, busy := .none }

/-! ### EVT_N and Kennel -/

/-- EVT_N is low (R536); in Stay it is released (R534). -/
def State.evtN (s : State) : Bool :=
  !s.inStay && (s.flag F.BRD_EVT_LATCH || decide ((s.seq sqsQ).run = .faulted) || s.flag F.KNL_STATUS_ACTIVE)

/-! ### Stay entry: the scan ends -/

/-- Step 2 of R501: a RUNNING quadrant stops at its next latch instant as by R242, an ARMED one is STOPPED (R261). -/
def State.stayStops (s : State) : State :=
  forAll allQuads s fun s n =>
    match (s.scanU n).run with
    | .running => s.setScan n { s.scanU n with run := .stopping, stopNext := s.latchDue.isSome }
    | .armed => s.setScan n { s.scanU n with run := .stopped, k0 := none }
    | _ => s

/-- Stay entry goes on as far as it can: the wait for a slice test, the end of the scan, then STAY to every CDIC
(R501, R289). -/
def State.stayAdvance (s : State) : State :=
  let s :=
    match s.power.entry with
    | .waiting =>
      if s.bist.cur.isSome then s else { s.stayStops with power := { s.power with entry := .stopping } }
    | _ => s
  match s.power.entry with
  | .stopping =>
    if allQuads.any fun n => match (s.scanU n).run with | .running => true | .stopping => true | _ => false then s
    else
      let s := forAll allGroups s fun s x => s.tplCmd x 15 .stay
      { s with power := { s.power with entry := .cdics s.wt.cycle } }
  | _ => s

/-- Every quadrant STOPPED at once; in retention every CDIC receives STAY, in black mode, which a thermal shutdown always
enters, the Kennel source of Muzzle becomes active (R263, R454). DEDUCED, log 121. -/
def State.kennelPanel (s : State) (thermal : Bool) : State :=
  let black := thermal || s.flag ⟨A.SCAN_KENNEL_CFG, 0, 1⟩
  let s := forAll allQuads s fun s n => s.setScan n { s.scanU n with run := .stopped, k0 := none, te := none }
  let s := { s with kennel := { s.kennel with black := black, leaving := false } }
  let s := if black then s.muzzleKennel true else forAll allGroups s fun s x => s.tplCmd x 15 .stay
  s.stayAdvance

/-- Sequencer `q` halts at its next instruction boundary. -/
def State.haltSeq (s : State) (q : SeqId) : State := s.setSeq q ((s.seq q).halt (s.stalledOnBusy q))

/-- A Kennel reason with its code becomes active (R479, R480). DEDUCED, log 121. -/
def State.kennelReason (s : State) (code : Nat) : State :=
  let was := s.get F.KNL_STATUS_REASONS
  if bit was (code - 1) then s
  else
    let s := s.put F.KNL_STATUS_REASONS (withBit was (code - 1))
    if s.flag F.KNL_STATUS_ACTIVE then
      let s := { s with kennel := { s.kennel with leaving := false } }
      let s := if s.kennel.black then s.muzzleKennel true else s
      s.sqsEvent 0x51 code (s.get F.KNL_STATUS_REASONS)
    else
      let s := (s.set F.KNL_STATUS_ACTIVE).put F.KNL_STATUS_FIRST code
      let s := s.kennelPanel (code == 1)
      let s := forAll allQuads s fun s n => s.haltSeq (sqOf n)
      (s.alert 2 code 0).sqsEvent 0x51 code (s.get F.KNL_STATUS_REASONS)

/-- A Kennel reason clears; with none left the device begins to leave Kennel: the Kennel source of Muzzle clears
and the root of trust reloads the quadrant sequencers (R481). -/
def State.kennelClear (s : State) (code : Nat) : State :=
  let was := s.get F.KNL_STATUS_REASONS
  if bit was (code - 1) then
    let s := s.put F.KNL_STATUS_REASONS (was - 2 ^ (code - 1))
    if s.get F.KNL_STATUS_REASONS = 0 then
      let s := s.muzzleKennel false
      { s with kennel := { s.kennel with leaving := true } }
    else s
  else s

end Sys2Proof.Machine
end

