-- ==== Sys2Proof/Machine/Emission.lean ====
section
/-!
DEFINITION. Sys2Proof/Machine/Emission.lean: waveform tables and the band selector (R249 to R257), the lane-rate
arithmetic of a group (R267, R274, R282, R283), and the checks of a scan start (R237, R241, R245).
-/

namespace Sys2Proof.Machine

/-! ### Waveform tables -/

/-- Slot length `i` of band `b`'s table; an entry whose address is among `bad` has a parity error (R249, R477). -/
def State.slotLen (s : State) (bad : List Nat) (b i : Nat) : Nat :=
  let e (j : Nat) := field (s.rd (A.WAVE_SLOT b (j / 2))) (j % 2 * 16) 16
  if bad.contains (A.WAVE_SLOT b 0 + 2 * i) then
    ((if i = 0 then e i else e (i - 1)) + (if i + 1 < 1024 then e (i + 1) else e i)) / 2
  else e i

/-- The slot lengths of band `b`. -/
def State.slots (s : State) (bad : List Nat) (b : Nat) : List Nat := (List.range 1024).map (s.slotLen bad b)

/-- Band `b`'s table is valid: its slot lengths do not exceed ⌊10⁹·P/Q⌋ ns (R250). -/
def State.waveOk (s : State) (bad : List Nat) (b : Nat) : Bool :=
  decide ((s.slots bad b).foldl (· + ·) 0 ≤ 1000000000 * s.cadP / s.cadQ)

/-- The band in EMW_CTRL.FALLBACK_BAND. -/
def State.fallbackBand (s : State) : Nat := s.keptGet F.EMW_CTRL_FALLBACK_BAND

/-- IREF of band `b`'s table; with a parity error in that word, the fallback table's (R477). DEDUCED, log 78. -/
def State.tableIref (s : State) (bad : List Nat) (b : Nat) : Nat :=
  let b := if bad.contains (A.WAVE_IREF b) then s.fallbackBand else b
  field (s.rd (A.WAVE_IREF b)) 0 10

/-- The parity errors of the table words at the addresses `bad` (R477). -/
def State.waveParity (s : State) (bad : List Nat) : State :=
  forAll bad s fun s _ =>
    let (off, s) := s.drawOff 6
    s.parityErr 6 off

/-- Is what was sent no LINE and no HOLD: it belongs to the blanking in progress. -/
def TplTx.inBlanking : TplTx → Bool
  | .packet _ _ _ p => p.typ != 1 && p.typ != 2
  | .align _ _ _ _ => true

/-- A WAVE packet of band `b` whose table has been written while it was sent: slot length i is that of the table
`now` where bit i of `mask` is 1 (case U09). -/
def TplTx.mixWave (b mask : Nat) (now : List Nat) : TplTx → TplTx
  | .packet pairs v e p =>
    if p.typ = 4 ∧ beAt p.payload 2050 1 = b then
      let old := (List.range 1024).map fun i => beAt p.payload (2 * i) 2
      let new := (List.range 1024).flatMap fun i => beBytes 2 (if bit mask i then now.getD i 0 else old.getD i 0)
      .packet pairs v e { p with payload := new ++ p.payload.drop 2048 }
    else .packet pairs v e p
  | t => t

/-- A table word of band `b` has been written: the CDICs may receive any mix of old and new slot lengths from a table
being sent (case U09). DEDUCED, log 77. -/
def State.waveTouched (s : State) (b : Nat) : State :=
  let now := s.slots [] b
  forAll allGroups s fun s x =>
    let g := s.group x
    let recent := g.sent.takeWhile (·.inBlanking)
    if recent.any (fun t => t.mixWave b 0 now != t.mixWave b (2 ^ 1024 - 1) now) then
      let (mask, s) := s.draw 1024
      s.setGroup x { g with sent := recent.map (·.mixWave b mask now) ++ g.sent.dropWhile (·.inBlanking) }
    else s

/-! ### The panel temperature -/

/-- The mean of `l`, rounded to the nearest with ties toward +∞ (R252). -/
def meanOf (l : List Int) : Int := roundDiv (l.foldl (· + ·) 0) l.length

/-- The greatest of a non-empty list. -/
def maxOf : List Int → Int
  | [] => 0
  | x :: t => t.foldl max x

/-- EMW_FAULT with code `c` for frame `k`. -/
def State.emwFault (s : State) (c : Nat) (k : Int) : State := s.sqsEvent 0x44 c (unsigned 32 k)

/-- T formed at a latch instant from the valid reports since the last one; latches without one are counted once T
has been valid (R252, R253). -/
def State.formTemp (s : State) (k : Int) : State :=
  let e := s.emw
  match e.reports with
  | [] =>
    match e.temp with
    | none => s
    | some _ =>
      let missed := e.missed + 1
      let lost := max 1 (s.get F.EMW_TEMP_TIMEOUT_LATCHES) ≤ missed && !e.told
      let s : State := { s with emw := { e with missed := missed, told := e.told || lost } }
      if lost then (s.set F.EMW_STATUS_TEMP_LOST).emwFault 2 k else s
  | l =>
    let t := if s.get F.EMW_CTRL_TEMP_SRC = 0 then maxOf l else meanOf l
    let s := s.wr A.EMW_TEMP (BitVec.ofNat 32 (unsigned 16 t + l.length % 256 * 65536 + 2 ^ 31))
    { s with emw := { e with temp := some t, reports := [], missed := 0, told := false } }

/-! ### The band -/

/-- EMW_LIMITb in 2^-4 °C. -/
def State.limit (s : State) (b : Nat) : Int := signed 16 (s.get (F.EMW_LIMIT_LIMIT b))

/-- The limits ascend strictly (R254). DEDUCED, log 76. -/
def State.limitsOk (s : State) : Bool := (List.range 6).all fun b => decide (s.limit b < s.limit (b + 1))

/-- `t` lies in band `b` widened by `y` on both sides; band 0 has no lower limit and band 7 no upper one (R254). -/
def State.inBand (s : State) (b : Nat) (t y : Int) : Bool :=
  (b == 0 || decide (s.limit (b - 1) - y ≤ t)) && (b == 7 || decide (t < s.limit b + y))

/-- The band that covers `t`. DEDUCED, log 76. -/
def State.coverBand (s : State) (t : Int) : Nat := ((List.range 8).find? fun b => s.inBand b t 0).getD 7

/-- What the band selector chooses at a latch (R253 to R255). -/
structure BandChoice where
  band     : Nat
  limitBad : Bool := false
  override : Bool := false
  chosen   : Bool := false
deriving DecidableEq, Repr

/-- The choice of the band; the live band stays while the limits do not ascend or T is lost (R252, R254).
DEDUCED, log 76. -/
def State.chooseBand (s : State) : BandChoice :=
  let live := s.get F.EMW_STATUS_LIVE_BAND
  let e := s.emw
  if !s.limitsOk then { band := live, limitBad := true, chosen := e.chosen }
  else
    match e.temp with
    | none => { band := s.fallbackBand }
    | some t =>
      if e.told then { band := live, chosen := e.chosen }
      else
        let pin := s.get F.EMW_CTRL_PIN_BAND
        let auto := if e.chosen ∧ s.inBand live t (s.get F.EMW_HYST_HYST) then live else s.coverBand t
        if s.flag F.EMW_CTRL_PIN_EN then
          if s.inBand pin t 128 then { band := pin, chosen := true }
          else { band := auto, override := true, chosen := true }
        else { band := auto, chosen := true }

/-- The band choice takes effect at a latch for frame `k` (R250, R254 to R256). DEDUCED, log 77. -/
def State.applyBand (s : State) (bad : List Nat) (k : Int) : State :=
  let c := s.chooseBand
  let s := if c.limitBad then (s.set F.EMW_STATUS_LIMIT_BAD).emwFault 4 k else s
  let s := if c.override then (s.set F.EMW_STATUS_PIN_OVERRIDE).emwFault 3 k else s
  let live := s.get F.EMW_STATUS_LIVE_BAND
  let ok := s.waveOk bad c.band
  let s : State := if ok then { s with emw := { s.emw with chosen := c.chosen } } else s
  let s := if ok then s else (s.set F.EMW_STATUS_WAVE_BAD).emwFault 1 k
  let s := if ok && c.band != live then
      ((s.put F.EMW_STATUS_LIVE_BAND c.band).wr A.EMW_BAND_FRAME (BitVec.ofNat 32 (unsigned 32 k))).sqsEvent 0x43
        c.band (unsigned 32 k)
    else s
  if s.waveOk bad s.fallbackBand then s else (s.set F.EMW_STATUS_FALLBACK_BAD).emwFault 5 k

/-- The IREF sent with band `b`'s table (R251). -/
def State.sentIref (s : State) (bad : List Nat) (b : Nat) : Nat := min (s.tableIref bad b) (s.get F.EMW_IREF_CAP_CAP)

/-! ### Lane rates -/

/-- K, the columns of a logical lane (R267). -/
def State.laneCols (s : State) : Nat := s.hogelCols * s.dirCols / 32

/-- The lane rate of group `x` in units of 0.125 Gb/s: what CAPS settled, the base rate before (R279, R280). -/
def State.laneRate (s : State) (x : GroupId) : Nat :=
  if s.flag (F.TPL_STATUS_TARGET x.quad x.sub) then (s.group x).rate else 20

/-- R267 holds for a cascade of `nc` CDICs of at most `cols` columns. -/
def State.colsOk (s : State) (nc cols : Nat) : Bool :=
  s.hogelCols * s.dirCols % 32 == 0 && decide (1 ≤ nc) && decide (s.hogelCols * s.dirCols * 3 / 16 ≤ nc * cols)

/-- Bits of a line slot that group `x` needs, and of its packet (R282, R283). -/
def State.lineBits (s : State) (x : GroupId) : Nat × Nat :=
  let b := ceilDiv (10 * s.laneCols) 64
  let b1 := ceilDiv (10 * s.laneCols) 8
  if s.tpl2 x then (66 * (b + 4), 66 * (b + 2)) else (10 * (b1 + 15), 10 * (b1 + 13))

/-- Bits of the blanking packets: two WAVE packets and a CMD with two idle blocks or characters between (R274). -/
def blankingBits (tpl2 : Bool) : Nat := if tpl2 then 66 * (2 * 259 + 3 + 4) else 10 * (2 * 2069 + 21 + 4)

/-- `bits` fit `slots` line slots at `rate` units of 0.125 Gb/s. -/
def State.fits (s : State) (bits rate slots : Nat) : Bool :=
  decide (bits * 8 * s.cadQ * s.vTotal ≤ rate * s.cadP * 1000000000 * slots)

/-- Group `x` passes the LINK check (R282). -/
def State.linkOk (s : State) (x : GroupId) : Bool :=
  s.tplActive x && s.colsOk (s.cdics x) (s.get (F.TPL_CAPS_COLS_MAX x.quad x.sub))
    && s.fits (s.lineBits x).1 (s.laneRate x) 1
    && s.fits (blankingBits (s.tpl2 x)) (s.laneRate x) (s.vTotal - s.vActive - 1)

/-- The minimum D_ROW of group `x` in ns, rounded up (R283). -/
def State.dRowMin (s : State) (x : GroupId) : Nat :=
  ceilDiv ((s.lineBits x).2 * 8) (s.laneRate x) + 80 + 40 * (s.cdics x - 1)

/-- Qn_TPL_DROW_MIN.NS: the largest minimum over the quadrant's groups. DEDUCED, log 87. -/
def State.quadDRow (s : State) (n : QuadId) : Nat := ((quadGroups n).map s.dRowMin).foldl max 0

/-- Every group of quadrant `n` is ACTIVE. -/
def State.quadUp (s : State) (n : QuadId) : Bool := (quadGroups n).all s.tplActive

/-! ### Start checks -/

/-- The conditions of the Scan timing parameters table (R237); D_ROW against the lanes' minimum where they are up.
DEDUCED, log 87. -/
def State.timingOk (s : State) (n : QuadId) : Bool :=
  let ra := s.get F.SCAN_RUNAHEAD_LINES
  s.vActive == s.hogelRows * s.dirRows && s.cadenceOk && decide (1 ≤ ra)
    && decide ((ra + 1) * (s.hogelCols / 4 * s.dirCols * 30) ≤ 2097152 * 8)
    && decide (ra + s.vActive < s.vTotal)
    && decide (s.get F.SCAN_ROWDLY_DLY * s.cadQ * s.vTotal ≤ 2 * s.cadP * 1000000000)
    && (!s.quadUp n || decide (s.quadDRow n ≤ s.get F.SCAN_ROWDLY_DLY))
    && decide (s.hogelCols * s.dirCols * 3 * s.vTotal * s.cadQ ≤ 256000000000 * s.cadP)

/-- `ns` nanoseconds are no longer than T_line. -/
def State.withinLine (s : State) (ns : Nat) : Bool := decide (ns * s.cadQ * s.vTotal ≤ s.cadP * 1000000000)

/-- The row pin configuration is valid (R245). -/
def State.rowPinsOk (s : State) : Bool :=
  let np := s.get F.ROW_CK_CFG_NPHASE
  let ckW := s.get F.ROW_CK_CFG_WIDTH
  let rise := s.get F.ROW_EN_CFG_RISE
  let fall := s.get F.ROW_EN_CFG_FALL
  let stvW := s.get F.ROW_STV_CFG_WIDTH
  decide (1 ≤ np) && decide (np ≤ 6) && s.withinLine (s.get F.ROW_CK_CFG_RISE + ckW) && decide (1 ≤ ckW)
    && decide (rise < fall) && s.withinLine fall
    && s.withinLine ((signed 16 (s.get F.ROW_STV_CFG_OFS)).natAbs + stvW) && decide (1 ≤ stvW)

/-- The time-keeping check of R43: LEASH 2, 3 or 4, or 0 with FREE_RUN_OK. -/
def State.leashOk (s : State) : Bool :=
  let l := s.get F.WT_STATUS_LEASH
  decide (2 ≤ l ∧ l ≤ 4) || (l == 0 && s.flag F.WT_CTRL_FREE_RUN_OK)

/-- The first failing start check of quadrant `n` at the latch for frame `k`, 0 for none (R241). A `k` below 0 is a
first frame before E, which R54 does not allow. DEDUCED, log 78. -/
def State.startReason (s : State) (n : QuadId) (k : Int) (bad : List Nat) : Nat :=
  if !s.geoOk then 1
  else if !s.timingOk n || decide (k < 0) then 2
  else if !s.rowPinsOk then 3
  else if !s.leashOk then 4
  else if !(quadGroups n).all s.linkOk then 5
  else if !bit (s.get F.PWR_PNL_STATUS_PG) n then 6
  else if !(s.waveOk bad s.chooseBand.band && s.waveOk bad s.fallbackBand) then 7
  else if s.flag F.KNL_STATUS_ACTIVE then 8
  else 0

end Sys2Proof.Machine
end

