-- ==== Sys2Proof/Machine/Thermal.lean ====
section
/-!
DEFINITION. Sys2Proof/Machine/Thermal.lean: the thermal unit (R448 to R464): rounds, levels, the throttle loop, the
bandgap trim, adaptive voltage scaling and the re-centring of the PLLs.
-/

namespace Sys2Proof.Machine

/-! ### Slots and the start of a round -/

/-- The round period in force, in ns (R449; values below 100 act as 100). -/
def State.roundNs (s : State) : Nat := max s.round.period 100 * 1000

/-- The next slot: the first multiple of the period after the last one (R449). DEDUCED, log 107. -/
def State.nextThmSlot (s : State) : Nat := (s.round.slotAt / s.roundNs + 1) * s.roundNs

/-- The tap lengths and MR4 fields of a slot (R393, R404); in Stay neither is powered. -/
def State.slotSample (s : State) (smp : SlotSample) : State :=
  if s.inStay then s
  else
    forAll allQuads s fun s n =>
      let s := match smp.taps[n.val]? with
        | some t => (s.put (F.CAL_TAP_PS n) t.toNat).set (F.CAL_TAP_VALID n)
        | none => s
      match smp.mr4[n.val]? with
      | some x => s.mr4Sample n x
      | none => s

/-- THERMAL_ROUND: wall time has reached a slot; PERIOD_US is taken again (R449). DEDUCED, log 107. -/
def execThermalRound (smp : SlotSample) (s : State) : Out :=
  let due := s.nextThmSlot
  if due ≤ s.wallNs ∧ ¬ s.held then
    let s := { s with round := { s.round with slotAt := due, period := s.get F.THM_CTRL_PERIOD_US } }
    .next (s.requestRound.slotSample smp)
  else .next s

/-! ### The end of a round -/

/-- A THM event: TMAX, its sensor and the throttle stage (the Thermal events table). DEDUCED, log 110. -/
def State.thmEvent (s : State) (code sensor : Nat) : State :=
  s.sqsEvent 0x4F code (s.get F.THM_TMAX_TEMP + sensor * 2 ^ 16 + s.get F.THM_STATUS_STAGE * 2 ^ 20)

/-- A THM event that names the sensor of TMAX. DEDUCED, log 110. -/
def State.thmMaxEvent (s : State) (code : Nat) : State := s.thmEvent code (s.get F.THM_TMAX_SENSOR)

/-- Whether sensor `t` is enabled and has not failed (R451). -/
def State.sensorOn (s : State) (t : Fin 16) : Bool :=
  bit (s.get F.THM_SENSOR_EN_MASK) t && !s.flag (F.THM_T_FAIL t)

/-- What sensor `t` reads in a round, in 1/16 °C as a multiple of 0.25 °C (R448); none where its conversion does not
complete or its count lies outside −55 °C to +150 °C (R451). DEDUCED, log 176. -/
def sensorReads (r : ThmRound) (t : Fin 16) : Option (BitVec 16) :=
  ((r.sensors[t.val]?).join.filter fun x => decide (-880 ≤ x.toInt) && decide (x.toInt ≤ 2400)).map (· &&& 0xFFFC)

/-- Sensor `t` converts in a round: in Stay the holdover sensor alone (R502). -/
def State.converts (s : State) (t : Fin 16) : Bool :=
  s.sensorOn t && (!s.inStay || t.val == s.get F.WT_HO_CFG_SENSOR)

/-- The limit of a conversion has passed (R451): 40 µs from the start of the round. -/
def State.convLate (s : State) : Bool := decide (s.round.since + 40 * cyclesPerUs < s.wt.cycle)

/-- The round is over: 20 µs after its start, once every conversion is complete, or 40 µs after it (R448, R451).
DEDUCED, log 176. -/
def State.roundOver (s : State) (r : ThmRound) : Bool :=
  s.passedUs s.round.since 20
    && (s.passedUs s.round.since 40 || (fins 16).all fun t => !s.converts t || (r.sensors[t.val]?).join.isSome)

/-- The readings of a round taken into THM_Ts, but for conversions past their limit (R449, R451). DEDUCED, log 176. -/
def State.readSensors (s : State) (r : ThmRound) : State :=
  forAll (fins 16) s fun s t =>
    if s.converts t then
      match if s.convLate then none else sensorReads r t with
      | some x =>
        let s : State := { s with wt := { s.wt with valid := s.wt.valid.set t x.toInt } }
        (s.put (F.THM_T_TEMP t) x.toNat).set (F.THM_T_VALID t)
      | none => ((s.set (F.THM_T_FAIL t)).clr (F.THM_T_VALID t)).set F.THM_FLAGS_SENSOR_FAIL
    else s

/-- The sensors that are enabled and not failed. -/
def State.sensorsOn (s : State) : List (Fin 16) := (fins 16).filter s.sensorOn

/-- A reading as a signed number of 1/16 °C. -/
def State.reading (s : State) (t : Fin 16) : Int := signed 16 (s.get (F.THM_T_TEMP t))

/-- TMAX: the largest reading; which of the sensors that show it is named is free (R452). DESIGN CHOICE, log 109. -/
def State.takeTmax (s : State) : State :=
  let on := s.sensorsOn
  let s := s.put F.THM_STATUS_NVALID on.length
  match on with
  | [] => s.clr F.THM_TMAX_VALID
  | t :: l =>
    let m := l.foldl (fun m t => max m (s.reading t)) (s.reading t)
    let ties := on.filter (fun t => s.reading t == m)
    let (i, s) := if ties.length = 1 then (0, s) else s.draw 4
    let pick := ties.getD (i % ties.length) t
    ((s.put F.THM_TMAX_TEMP (unsigned 16 m)).put F.THM_TMAX_SENSOR pick).set F.THM_TMAX_VALID

/-- TMAX in 1/16 °C, where a valid sensor remains. -/
def State.tmax (s : State) : Option Int :=
  if s.flag F.THM_TMAX_VALID then some (signed 16 (s.get F.THM_TMAX_TEMP)) else none

/-- A level's threshold in force: one above the reset value acts as the reset value (R455). -/
def levelThresh (w : Word) (reset : Int) : Int := min (signed 16 (field w 0 16)) reset

/-- A level's hysteresis in 1/16 °C. -/
def levelHyst (w : Word) : Int := field w 16 8

/-- Whether a level is entered after the round, from whether it was (R453). -/
def levelAfter (w : Word) (reset : Int) (was : Bool) (t : Int) : Bool :=
  let th := levelThresh w reset
  if th ≤ t then true else if t < th - levelHyst w then false else was

/-- The thermal source of Muzzle clears: CODE 5, and Kennel exit is asked for (R454, R481). DEDUCED, log 113. -/
def State.thermalRelease (s : State) : State :=
  if s.flag F.MUZZLE_STATUS_SRC_THERM then ((s.muzzleThermal false).thmMaxEvent 5).kennelClear 1 else s

/-- Shutdown is entered: Muzzle, SHUTDOWN, CODE 4, Kennel (R454). -/
def State.thermalShutdown (s : State) : State :=
  (((s.muzzleThermal true).set F.THM_FLAGS_SHUTDOWN).thmMaxEvent 4).kennelReason 1

/-- The shutdown level after the round: entered while no sensor is valid (R452, R454). A thermal source of Muzzle that a reset
has kept clears at the first round that leaves the level, whatever AUTO_RELEASE holds (R496). DEDUCED, log 108;
DEDUCED, log 113. -/
def State.shutLevel (s : State) : State :=
  let was := s.round.shut
  let held := s.round.carried
  let now := match s.tmax with
    | some t => levelAfter s.round.levels.2.2 1920 was t
    | none => true
  let cool := match s.tmax with
    | some t => !levelAfter s.round.levels.2.2 1920 true t
    | none => false
  let carried := s.round.carried && !now && !cool
  let s := { s with round := { s.round with shut := now, carried := carried } }
  if now && !was then s.thermalShutdown
  else if was && !now && s.flag F.THM_CTRL_AUTO_RELEASE then s.thermalRelease
  else if cool && held then s.thermalRelease
  else s

/-- STAGE becomes `n`; a change pushes CODE 3 (R456). -/
def State.setStage (s : State) (n : Nat) : State :=
  if s.get F.THM_STATUS_STAGE = n then s else (s.put F.THM_STATUS_STAGE n).thmMaxEvent 3

/-- Where the throttle loop heads (R456). -/
inductive ThrDir where | down | up | hold
deriving DecidableEq, Repr

/-- What one round of the throttle loop makes of its variables (R456): the stage, icap, pcap, n, and thr_clamp. -/
structure Throttle where
  stage : Nat
  icap  : Nat
  pcap  : Nat
  n     : Nat
  clamp : Bool := false
deriving DecidableEq, Repr

/-- One round of the throttle loop, as the sequence of R456 gives it; a plane cap that would leave its window at 16
is held there with thr_clamp set (R463). DEDUCED, log 112. -/
def throttleRound (dir : ThrDir) (live ifloor step pfloor stage2 plane : Nat) (t : Throttle) : Throttle :=
  match dir with
  | .hold => t
  | .down =>
    if t.stage = 0 then { t with stage := 1, icap := max live ifloor, n := 0 }
    else if t.stage = 1 then
      if ifloor < t.icap then { t with icap := max (t.icap - step) ifloor }
      else if stage2 ≤ t.n + 1 then
        { t with stage := 2, n := 0, pcap := min (max 15 pfloor) 16, clamp := decide (16 ≤ pfloor) }
      else { t with n := t.n + 1 }
    else if plane ≤ t.n + 1 then
      if pfloor < t.pcap then { t with n := 0, pcap := t.pcap - 1 } else { t with n := 0, clamp := true }
    else { t with n := t.n + 1 }
  | .up =>
    if t.stage = 2 then
      if t.pcap < 16 then { t with n := 0, pcap := t.pcap + 1, stage := if t.pcap + 1 = 16 then 1 else 2 }
      else { t with n := 0, pcap := 16, stage := 1, clamp := true }
    else if t.stage = 1 then
      if 0x3FF ≤ t.icap + step then { t with n := 0, icap := 0x3FF, stage := 0 }
      else { t with n := 0, icap := t.icap + step }
    else { t with n := 0 }

/-- The direction of the throttle loop (R456). -/
def State.thrDir (s : State) : ThrDir :=
  match s.tmax with
  | none => .hold
  | some t =>
    let w := s.round.levels.2.1
    let th := levelThresh w 1728
    if th ≤ t then .down else if t < th - levelHyst w then .up else .hold

/-- The throttle loop at the end of a round (R456); answers whether thr_clamp was set. DEDUCED, log 108. -/
def State.throttle (s : State) : Bool × State :=
  let was := s.round.throt
  let now := match s.tmax with
    | some t => levelAfter s.round.levels.2.1 1728 was t
    | none => was
  let s := { s with round := { s.round with throt := now } }
  let s := s.setIf (now && !was) F.THM_FLAGS_THROTTLE
  let t := throttleRound s.thrDir (s.tableIref [] (s.get F.EMW_STATUS_LIVE_BAND)) (s.get F.THM_THR_CFG_IFLOOR)
    (s.get F.THM_THR_CFG_STEP) (max 1 (s.get F.THM_THR_CFG_PFLOOR)) (max 1 (s.get F.THM_THR_TIME_STAGE2_ROUNDS))
    (max 1 (s.get F.THM_THR_TIME_PLANE_ROUNDS))
    { stage := s.get F.THM_STATUS_STAGE, icap := s.get F.EMW_IREF_CAP_CAP, pcap := s.get F.SYN_THERM_CAP_CAP,
      n := s.round.n }
  let s := (s.put F.EMW_IREF_CAP_CAP t.icap).put F.SYN_THERM_CAP_CAP t.pcap
  let s := { s with round := { s.round with n := t.n } }
  (t.clamp, (s.setIf t.clamp F.THM_FLAGS_THR_CLAMP).setStage t.stage)

/-- The warning level after the round (R453). DEDUCED, log 108. -/
def State.warnLevel (s : State) : State :=
  match s.tmax with
  | none => s
  | some t =>
    let was := s.round.warn
    let now := levelAfter s.round.levels.1 1600 was t
    let s := { s with round := { s.round with warn := now } }
    if now && !was then (s.set F.THM_FLAGS_WARN).thmMaxEvent 1
    else if was && !now then s.thmMaxEvent 2
    else s

/-- THM_STATUS.LEVEL: the highest level that is entered (R453). -/
def State.reportLevel (s : State) : State :=
  s.put F.THM_STATUS_LEVEL (if s.round.shut then 3 else if s.round.throt then 2 else if s.round.warn then 1 else 0)

/-- The AVS loop stopped by its bound: AVS_CLAMP, and CODE 7 at most once in 1,000 rounds (R460). -/
def State.avsClamp (s : State) : State :=
  let s := s.set F.THM_FLAGS_AVS_CLAMP
  if (s.round.clampAt.map (fun c => decide (c + 1000 ≤ s.round.rounds))).getD true then
    { s with round := { s.round with clampAt := some s.round.rounds } }.thmMaxEvent 7
  else s

/-- The AVS loop (R460); where its bounds leave no code, they stop every step (R10). DEDUCED, log 111. -/
def State.avs (s : State) (margin : Int) : State :=
  if s.flag F.THM_CTRL_AVS_EN then
    let vid := s.get F.THM_VID_VID
    let ask : Int :=
      if margin < signed 8 (s.get F.THM_AVS_CFG_MARGIN_LO) then vid + 1
      else if signed 8 (s.get F.THM_AVS_CFG_MARGIN_HI) < margin then (vid : Int) - 1
      else vid
    let lo := max (s.get F.THM_AVS_CFG_VID_MIN) 90
    let hi := min (s.get F.THM_AVS_CFG_VID_MAX) 120
    let new := if lo ≤ hi then (clampInt lo hi ask).toNat else vid
    let s := s.put F.THM_VID_VID new
    if ask ≠ vid ∧ (new : Int) ≠ ask then s.avsClamp else s
  else s

/-- The bandgap trim band from sensor 0, or from TMAX while that sensor is not read (R458). DEDUCED, log 112. -/
def State.bandgap (s : State) : State :=
  match (if s.sensorOn 0 then some (s.reading 0) else s.tmax) with
  | none => s
  | some t =>
    let b : Int := s.get F.THM_MISC_BG_BAND
    if t < (8 * b - 40 - 1) * 16 ∨ (8 * b - 32 + 1) * 16 < t then
      s.put F.THM_MISC_BG_BAND (clampInt 0 20 ((t + 640) / 128)).toNat
    else s

/-- The failures of a round, each pushing CODE 8 (R451, R464). DEDUCED, log 110. -/
def State.tellFailures (s : State) (before : List (Fin 16)) : State :=
  forAll before s fun s t => if s.flag (F.THM_T_FAIL t) then s.thmEvent 8 t else s

/-- What a round decides once its readings are taken, its events in the order of R464. -/
def State.roundDecide (s : State) (r : ThmRound) (before : List (Fin 16)) : State :=
  let margin := signed 8 r.margin.toNat
  let s := s.takeTmax.shutLevel
  let (clamped, s) := s.throttle
  let s := s.warnLevel.reportLevel
  let s := if clamped then s.thmMaxEvent 6 else s
  let s := ((s.put F.THM_AVS_MARGIN_MARGIN r.margin.toNat).set F.THM_AVS_MARGIN_VALID).avs margin
  let s := (s.tellFailures before).bandgap
  if margin < 0 then s.kennelReason 2 else s

/-- The holdover compensation reads its sensor: its last valid reading (R457). -/
def State.hoRead (s : State) : State :=
  { s with wt := { s.wt with hoTemp := s.wt.valid.toList.getD (s.get F.WT_HO_CFG_SENSOR) 0 } }

/-- A round ends; a round asked for meanwhile starts (R449, R450). -/
def State.roundClose (s : State) : State :=
  let again := s.round.again
  let s := (s.clr F.THM_STATUS_ROUND_BUSY).hoRead
  let s := { s with round := { s.round with
    again := false, rounds := s.round.rounds + 1, endedAt := some s.wt.cycle } }
  if again then s.requestRound else s

/-- THERMAL_ROUND_END: a round ends (R448, R449, R451, R453 to R462); in Stay only the holdover sensor is read (R502). -/
def execThermalRoundEnd (r : ThmRound) (s : State) : Out :=
  if s.flag F.THM_STATUS_ROUND_BUSY && s.roundOver r then
    let before := s.sensorsOn
    let s := s.readSensors r
    .next (if s.inStay then s.roundClose else (s.roundDecide r before).roundClose)
  else .next s

/-! ### THM_CTRL -/

/-- RELEASE = 1: the thermal source clears unless shutdown is entered (R454). DEDUCED, log 113. -/
def State.releaseThermal (s : State) : State :=
  if s.round.shut then s.set F.THM_FLAGS_STALE_WRITE else s.thermalRelease

/-- A write of THM_CTRL. -/
def State.writeThmCtrl (s : State) (v : Word) : State :=
  let s := s.put ⟨A.THM_CTRL, 0, 18⟩ (field v 0 18)
  if bit v.toNat 31 then s.releaseThermal else s

/-- RELEASE: THM_CTRL is written. -/
def execRelease (v : Word) (s : State) : Out := .next (s.writeThmCtrl v)

/-- A write of THM_SENSOR_EN: a failed sensor whose bit rises from 0 reads again (R451). -/
def State.writeSensorEn (s : State) (v : Word) : State :=
  let was := s.get F.THM_SENSOR_EN_MASK
  let s := s.put F.THM_SENSOR_EN_MASK (field v 0 16)
  forAll (fins 16) s fun s t => if bit v.toNat t && !bit was t then s.clr (F.THM_T_FAIL t) else s

/-! ### PLLs -/

/-- A re-centring step of a PLL (R459). -/
def State.vcoStep (s : State) : State :=
  s.put F.THM_MISC_VCO_STEPS ((s.get F.THM_MISC_VCO_STEPS + 1) % 65536)

/-- VCO_STEP of the core PLL (0), the panel-lane PLLs (1), the network (2) or neighbour-link PLLs (3): 2 line periods
after a latch while a quadrant scans, for the first two; at the end of a round otherwise (R459). -/
def execVcoStep (pll : Fin 4) (s : State) : Out :=
  if h : pll.val < 2 ∧ s.anyScans then
    match s.frame.latch with
    | some k =>
      if s.reached (s.latchAt k + 2 * s.linePeriod) && s.round.vcoAt[pll.val] != some k then
        .next { s with round := { s.round with vcoAt := s.round.vcoAt.set pll.val (some k) } }.vcoStep
      else .next s
    | none => .next s
  else if s.round.endedAt = some s.wt.cycle then .next s.vcoStep
  else .next s

end Sys2Proof.Machine
end

