-- ==== Sys2Proof/Machine/Bist.lean ====
section
/-!
DEFINITION. Sys2Proof/Machine/Bist.lean: the periodic memory test and its repairs (R468 to R475), and the commands
of KNL_CTRL (R479, R481, R561).
-/

namespace Sys2Proof.Machine

/-- The logic outside the always-on domain is powered, out of its wake and not held in reset (R466, R502, R504).
DESIGN CHOICE, log 212. -/
def State.coreUp (s : State) : Bool := decide (s.get F.PWR_STATUS_STATE < 2) && !s.held

/-- Slices of on-chip SRAM (R468). -/
def sliceCount : Nat := 6144

/-- Entries of the soft repair table (R472). -/
def repairEntries : Nat := 1024

/-- The last BIST slot of a scan that wall time has reached: L(k, m·S) (R468). DEDUCED, logs 114
and 174. DEDUCED, log 114. -/
def State.scanSlot (s : State) : Option (Int × Nat) :=
  let n := max 1 (min 48 (s.get F.BIST_CTRL_SLICES))
  let k := s.frameNow
  let gap := s.vTotal / n
  ((List.range n).reverse.find? fun (m : Nat) => s.reached (s.lineAt k ((m * gap : Nat)))).map fun m => (k, m)

/-- A BIST slot has been reached that was not yet taken; it is taken (R468). DEDUCED, log 114. -/
def State.takeSlot (s : State) : Option State :=
  if s.anyScans then
    match s.scanSlot with
    | some x =>
      if s.bist.lastSlot = some x then none else some { s with bist := { s.bist with lastSlot := some x } }
    | none => none
  else
    let due := s.wallNs / 260000 * 260000
    if s.bist.slotAt < due then some { s with bist := { s.bist with slotAt := due } } else none

/-- The test of the next slice starts: a slice that waits for a retest before the ascending order (R468). -/
def State.startSlice (s : State) : State :=
  let start (s : State) (x : Nat) (again : Bool) : State :=
    { (s.set F.BIST_STATUS_BUSY) with bist := { s.bist with cur := some (x, again), since := s.wt.cycle } }
  match s.bist.retest with
  | x :: l => (start { s with bist := { s.bist with retest := l } } x true).showRetest
  | [] =>
    let x := s.get F.BIST_STATUS_POS
    start (s.put F.BIST_STATUS_POS ((x + 1) % sliceCount)) x false

/-- BIST_SLOT: a slot begins the test of a slice; one that falls while a slice is under test is skipped (R468).
DEDUCED, log 114. -/
def execBistSlot (s : State) : Out :=
  if s.flag F.BIST_CTRL_EN && s.coreUp then
    match s.takeSlot with
    | some s => .next (if s.bist.stopped || s.bist.cur.isSome then s else s.startSlice)
    | none => .next s
  else .next s

/-- An unused spare row of slice `x` beside the entries `l` of the repair table (R472). -/
def unusedSpare (l : List (Nat × Nat × Nat)) (x : Nat) : Option Nat :=
  [0, 1].find? fun i => !l.any fun e => e.1 == x && e.2.2 == i

/-- An unused spare row of slice `x`, while the repair table, which hard entries fill too, has an entry free (R472, R473). -/
def State.spareRow (s : State) (x : Nat) : Option Nat :=
  if s.bist.spares.length < repairEntries then unusedSpare s.bist.spares x else none

/-- The soft repair table replaced; BIST_REPAIR.SOFT counts its entries. -/
def State.setSpares (s : State) (l : List (Nat × Nat × Nat)) : State :=
  { s with bist := { s.bist with spares := l } }.put F.BIST_REPAIR_SOFT l.length

/-- Row `row` of slice `x` is one that fails March C−, now and at every later test. -/
def State.noteWeak (s : State) (x row : Nat) : State :=
  if s.bist.weak.contains (x, row) then s else { s with bist := { s.bist with weak := (x, row) :: s.bist.weak } }

/-- Row `row` of slice `x` mapped to an unused spare row of its slice; none where the fault is unrepairable (R472). -/
def State.mapRow (s : State) (x row : Nat) : Option State :=
  (s.spareRow x).map fun i => s.setSpares ((x, row, i) :: s.bist.spares)

/-- Row `row` of slice `x` fails at bit `b`: recorded (R474), then mapped to a spare row, or unrepairable, which ends
the periodic test and enters Kennel (R472). DEDUCED, log 115. -/
def State.rowFails (s : State) (x row b : Nat) : State :=
  let s := (s.noteWeak x row).set F.BIST_FLAGS_FAIL
  let s := s.wr A.BIST_FAIL_SLICE (BitVec.ofNat 32 (x + 2 ^ 31))
  let s := s.sqsEvent 0x50 1 x
  let pos := row % 256 + b % 512 * 256
  match s.mapRow x row with
  | some s =>
    let s := s.wr A.BIST_FAIL_POS (BitVec.ofNat 32 (pos + 2 ^ 31))
    ((s.set F.BIST_FLAGS_REPAIRED).sqsEvent 0x50 2 x).queueRetest x
  | none =>
    let s := s.wr A.BIST_FAIL_POS (BitVec.ofNat 32 pos)
    let s := s.set F.BIST_FLAGS_UNREPAIRABLE
    { s with bist := { s.bist with stopped := true } }.kennelReason 3

/-- The slice under test leaves the test; Stay entry may have waited for it (R471, R501). -/
def State.endSlice (s : State) : State :=
  ({ s with bist := { s.bist with cur := none } }.clr F.BIST_STATUS_BUSY).showRetest.stayAdvance

/-- A pass is over when the ascending order has reached its end: BIST_COVER counts it, and what was
seen of run-time errors belongs to the pass that has ended (R468, R475). DEDUCED, log 115. -/
def State.passEnd (s : State) (x : Nat) (again : Bool) : State :=
  if x + 1 = sliceCount && !again then
    { (s.wrapReg A.BIST_COVER) with bist := { s.bist with seen := [] } }
  else s

/-- SLICE_TEST_DONE: 5,696 core cycles after its slot a test is complete, the rows `fails` (row, bit) having failed
March C− (R469, R472). DEDUCED, log 117. -/
def execSliceTestDone (fails : List (Nat × Nat)) (s : State) : Out :=
  match s.bist.cur with
  | some (x, again) =>
    if s.bist.since + 5696 ≤ s.wt.cycle && decide (s.wt.cycle < s.bist.since + 8 * cyclesPerUs) then
      let s := forAll fails s fun s f => if s.bist.stopped then s else s.rowFails x f.1 f.2
      .next (s.endSlice.passEnd x again)
    else .next s
  | none => .next s

/-- OVERRUN: 8 µs after its slot a test that is not complete is abandoned; the slice takes the next slot (R470). -/
def execOverrun (s : State) : Out :=
  match s.bist.cur with
  | some (x, again) =>
    if s.passedUs s.bist.since 8 then
      let s := (s.set F.BIST_FLAGS_OVERRUN).sqsEvent 0x50 5 x
      .next ({ s with bist := { s.bist with retest := x :: s.bist.retest.filter (· ≠ x) } }.endSlice.passEnd x again)
    else .next s
  | none => .next s

/-! ### Memory BIST -/

/-- The repair fuses loaded into the soft table (R465 step 2, R473). DESIGN CHOICE, log 116. -/
def State.loadFuses (s : State) : State :=
  (s.setSpares s.bist.fuses).put F.BIST_REPAIR_HARD s.bist.fuses.length

/-- Memory BIST finds the rows `l` (slice, row) failing, but for those that are mapped already, and repairs what it can
(R465 step 3, R472): how many repairs it made, and whether every row could be repaired. DESIGN CHOICE, log 116. -/
def State.memBist : List (Nat × Nat) → State → Nat × Bool × State
  | [], s => (0, true, s)
  | (x, row) :: t, s =>
    if sliceCount ≤ x ∨ 256 ≤ row ∨ s.bist.spares.any (fun e => e.1 == x && e.2.1 == row) then State.memBist t s
    else
      let s := s.noteWeak x row
      match s.mapRow x row with
      | some s =>
        let (n, ok, s) := State.memBist t s
        (n + 1, ok, s)
      | none =>
        let (n, _, s) := State.memBist t s
        (n, false, s)

/-! ### KNL_CTRL -/

/-- The reasons that a write of EXIT clears as things stand: SOFTWARE, MARGIN after a round with a margin of 0 or
more, SQS_FAULT while SQS is not FAULTED (the Kennel reasons table). DEDUCED, log 119. -/
def State.exitClears (s : State) : List Nat :=
  let margin := decide (0 ≤ signed 8 (s.get F.THM_AVS_MARGIN_MARGIN))
  let fault := decide ((s.seq sqsQ).run = .faulted)
  (if margin then [2] else []) ++ [4] ++ (if fault then [] else [5])

/-- Reasons dropped from KNL_STATUS.REASONS. -/
def dropReasons (l : List Nat) (r : Nat) : Nat := l.foldl (fun r c => if bit r (c - 1) then r - 2 ^ (c - 1) else r) r

/-- A write of KNL_CTRL (R479, R481); with ENTER and EXIT both, SOFTWARE is active afterwards and Kennel is not left
in between (R561). -/
def State.writeKnlCtrl (s : State) (v : Word) : State :=
  if s.held then s else
  let s := s.put F.KNL_CTRL_SQS_FAULT (field v 8 1)
  let enter := bit v.toNat 0
  let exit := bit v.toNat 1
  if enter && exit then
    (s.put F.KNL_STATUS_REASONS (dropReasons s.exitClears (s.get F.KNL_STATUS_REASONS))).kennelReason 4
  else if enter then s.kennelReason 4
  else if exit then forAll s.exitClears s fun s c => s.kennelClear c
  else s

/-- ENTER: KNL_CTRL is written. -/
def execEnter (v : Word) (s : State) : Out := .next (s.writeKnlCtrl v)

/-- EXIT: KNL_CTRL is written. -/
def execExit (v : Word) (s : State) : Out := .next (s.writeKnlCtrl v)

end Sys2Proof.Machine
end

