-- ==== Sys2Proof/Machine/Fence.lean ====
section
/-!
DEFINITION. Sys2Proof/Machine/Fence.lean: the counting of fences by planes (R178 to R181), pixels written to a
plane's back bank (R170 to R172), and the strips and fences that neighbours send (R320, R321).
-/

namespace Sys2Proof.Machine

/-- The first frame whose latch instant wall time has not reached. DEDUCED, logs 55 and 174. DEDUCED, log 174. -/
def State.nextLatch (s : State) : Int :=
  let c := s.frameNow
  if s.reached (s.latchAt (c + 1)) then c + 2 else c + 1

/-- Plane `p`'s fence for frame `m` has arrived (R179, R180): PENDING, late when the latch for m has passed.
DEDUCED, log 55. -/
def State.fenceArrives (s : State) (p : Fin 16) (m : Int) : State :=
  let late := s.cadenceOk && s.reached (s.latchAt m)
  let x := s.plane p
  let s := s.setPlane p { x with arrived := some (match x.arrived with | some a => max a m | none => m)
                                 from_ := if late then s.nextLatch else m }
  let s := s.set (F.SST_PLANE_STATUS_PENDING p)
  let s := if late then
      ((s.set (F.SST_PLANE_STATUS_LATE_FENCE p)).set F.RKN_STATUS_FENCE_LATE).sqsEvent 0x41 p (unsigned 32 m)
    else s
  s.stripStart p m

/-- Fences that plane `p` needs in a frame; 0 acts as 1. -/
def State.fenceNeed (s : State) (p : Fin 16) : Nat := max 1 (s.get (F.SST_PLANE_CTRL_FENCE_NEED p))

/-- Plane `p` is PENDING with a fence that the latch for frame `k` may serve (R180), or was as that latch's instant came
(R21). DEDUCED, log 55. -/
def State.flipDue (s : State) (p : Fin 16) (k : Int) : Bool :=
  let x := s.plane p
  x.due || s.flag (F.SST_PLANE_STATUS_PENDING p) && decide (x.from_ ≤ k) && (match x.counted with
    | some m => decide (m ≤ k)
    | none => false)

/-- A fence for a later frame is about to replace plane `p`'s: a latch whose instant has come still serves the old one
(R21). -/
def State.keepFence (s : State) (p : Fin 16) : State :=
  match s.latchDue with
  | some k => s.setPlane p { s.plane p with due := s.flipDue p k }
  | none => s

/-- A completed fence for frame `m` counts toward plane `p` (R179): for a later frame it restarts the count and
replaces a pending fence, for an earlier one it is discarded. DEDUCED, log 55. -/
def State.countFence (s : State) (p : Fin 16) (m : Int) : State :=
  let x := s.plane p
  let earlier := match x.counted with | some c => decide (m < c) | none => false
  if earlier then s.countReg A.RKN_FENCE_STALE
  else
    let s := if x.counted = some m then s
      else
        let s := s.keepFence p
        let s := s.setPlane p { s.plane p with counted := some m }
        let s := (s.put (F.SST_PLANE_STATUS_COUNT p) 0).clr (F.SST_PLANE_STATUS_PENDING p)
        s.wr (A.SST_PLANE_FENCE p) (BitVec.ofInt 32 m)
    let s := s.count (F.SST_PLANE_STATUS_COUNT p)
    if x.counted = some m ∧ s.get (F.SST_PLANE_STATUS_COUNT p) = s.fenceNeed p ∧ x.arrived = some m then s
    else if s.get (F.SST_PLANE_STATUS_COUNT p) = s.fenceNeed p then s.fenceArrives p m else s

/-- Plane `p` is covered for frame `k`: its fence has arrived for that frame or a later one (R181). -/
def State.covered (s : State) (p : Fin 16) (k : Int) : Bool :=
  match (s.plane p).arrived with
  | some m => decide (k ≤ m)
  | none => false

/-- LATE_PATCH where plane `p` last flipped for frame `m` or a later one (R172). -/
def State.latePatch (s : State) (p : Fin 16) (m : Int) : State :=
  match (s.plane p).flipped with
  | some k => s.setIf (decide (m ≤ k)) (F.SST_PLANE_STATUS_LATE_PATCH p)
  | none => s

/-! ### Rows written to a plane -/

/-- The nibbles of `b` written as relief pixels from (x, y) on, `w` of them. -/
def State.reliefRow (s : State) (d : PlaneDesc) (bank x y : Nat) (b : List Byte) : Nat → State
  | 0 => s
  | k + 1 =>
    let s := s.reliefRow d bank x y b k
    let v := (b.getD (k / 2) 0).toNat
    s.sceneNibble (d.reliefAt bank (x + k) y) ((x + k) % 2 == 0) (if k % 2 = 0 then v % 16 else v / 16)

/-- One row of `w` pixels from (x, y) on written to bank `bank` of a plane described by `d`. -/
def State.planeRow (s : State) (d : PlaneDesc) (relief : Bool) (bank x y w : Nat) (b : List Byte) : State :=
  if relief then s.reliefRow d bank x y b (min w (2 * b.length)) else s.sceneWrite (d.pixelAt bank x y) (b.take (4 * w))

/-- Bytes of a row of `w` pixels. -/
def rowBytes (relief : Bool) (w : Nat) : Nat := if relief then (w + 1) / 2 else 4 * w

/-- `k` rows of a rectangle from row `y` on, as far as the bytes reach. -/
def State.planeRows (s : State) (d : PlaneDesc) (relief : Bool) (bank x y w : Nat) (b : List Byte) : Nat → State
  | 0 => s
  | k + 1 =>
    let n := rowBytes relief w
    (s.planeRow d relief bank x y w (b.take n)).planeRows d relief bank x (y + 1) w (b.drop n) k

/-! ### Strips and fences of neighbours -/

/-- STRIP FRAMES written for a plane and a frame, one more. -/
def countRow (l : List (Nat × Int × Nat)) (p : Nat) (m : Int) : List (Nat × Int × Nat) :=
  match l with
  | [] => [(p, m, 1)]
  | (a, b, n) :: t => if a = p ∧ b = m then (a, b, n + 1) :: t else (a, b, n) :: countRow t p m

/-- How many STRIP frames were written for a plane and a frame. -/
def rowCount (l : List (Nat × Int × Nat)) (p : Nat) (m : Int) : Nat :=
  match l.find? (fun e => e.1 == p && e.2.1 == m) with | some e => e.2.2 | none => 0

/-- The plane that a neighbour frame names, none above 15 (R312). -/
def nbrPlane (f : NbrFrame) : Option (Fin 16) := if h : f.plane.toNat < 16 then some ⟨f.plane.toNat, h⟩ else none

/-- The receiving port may write the frame's rectangle to plane `p` (R320). -/
def State.stripAllowed (s : State) (q : NbrId) (p : Fin 16) (f : NbrFrame) : Bool :=
  let d := (s.plane p).live
  let (x, y, w, h) := (f.x.toNat, f.y.toNat, f.w.toNat, f.h.toNat)
  bit (s.get (F.NBR_PLANES_RX_MASK q)) p.val && s.planeOk p
    && decide (s.get (F.NBR_RXWIN_X_X0 q) ≤ x) && decide (x + w ≤ s.get (F.NBR_RXWIN_X_X1 q))
    && decide (s.get (F.NBR_RXWIN_Y_Y0 q) ≤ y) && decide (y + h ≤ s.get (F.NBR_RXWIN_Y_Y1 q))
    && decide (x + w ≤ d.width) && decide (y + h ≤ d.height)

/-- A strip is dropped: CNT_WIN, WIN_BAD and an event (R320). -/
def State.stripDrop (s : State) (q : NbrId) (f : NbrFrame) : State :=
  ((s.countReg (A.NBR_CNT_WIN q)).set (F.NBR_FLAGS_WIN_BAD q)).nbrSeam q 3 f.frame.toNat

/-- The bytes of row `y` of a strip in bank `b`: the address of the first, and how many. -/
def StripIn.row (x : StripIn) (b y : Nat) : Nat × Nat :=
  let (c, w) := (x.frame.x.toNat, x.frame.w.toNat)
  if x.frame.relief then
    let a := x.desc.reliefAt b c y
    (a, x.desc.reliefAt b (c + w - 1) y + 1 - a)
  else (x.desc.pixelAt b c y, 4 * w)

/-- Row `y` of bank `b` as it was before the strip. -/
def State.stripUndo (s : State) (x : StripIn) (b y : Nat) : State :=
  let (a, n) := x.row b y
  let s := s.sceneWrite a ((List.range n).map fun i => sparseGet (fun _ => 0) x.before (a + i))
  let back := x.bad.filter fun w => decide (a < 8 * w + 8) && decide (8 * w < a + n) && !s.ing.bad.contains w
  { s with ing := { s.ing with bad := s.ing.bad ++ back } }

/-- A strip that port `q` writes in the core cycle in which plane `p` flips (R171, R320): the rows from a free number on go to
the bank that is the back bank from now on. Answers whether the flip tears it. -/
def State.tearStrip (s : State) (p : Fin 16) (q : NbrId) : Bool × State :=
  match (s.port q).strip with
  | some x =>
    let h := x.frame.h.toNat
    if x.plane = p ∧ x.cycle = s.wt.cycle then
      let (r, s) := s.draw 16
      let r := r % (h + 1)
      let (old, new) := (1 - s.front p, s.front p)
      let s := forAll ((List.range h).drop r) s fun s i => s.stripUndo x old (x.frame.y.toNat + i)
      let rest := x.bytes.drop (r * rowBytes x.frame.relief x.frame.w.toNat)
      let s := s.planeRows x.desc x.frame.relief new x.frame.x.toNat (x.frame.y.toNat + r) x.frame.w.toNat rest (h - r)
      (decide (0 < r) && decide (r < h), s.setPort q { s.port q with strip := none })
    else (false, s)
  | none => (false, s)

/-- A strip written to plane `p`'s back bank (R171, R172, R320). Where the plane has no relief map, a relief frame finds
nothing to write to. Missing payload bytes are free. DEDUCED, log 43. -/
def State.stripWrite (s : State) (q : NbrId) (p : Fin 16) (f : NbrFrame) : State :=
  let m := s.resolveFrame f.frame
  let d := (s.plane p).live
  let s := s.latePatch p m
  let n := rowBytes f.relief f.w.toNat * f.h.toNat
  let (r, s) := if f.payload.length < n then s.freeBytes (n - f.payload.length) else ([], s)
  let b := f.payload ++ r
  let x : StripIn := { plane := p, cycle := s.wt.cycle, frame := f, desc := d, bytes := b, before := s.ing.scene, bad := s.ing.bad }
  let s := if f.relief ∧ ¬ d.relief then s
    else
      (s.planeRows d f.relief (1 - s.front p) f.x.toNat f.y.toNat f.w.toNat b f.h.toNat).setPort q
        { s.port q with strip := some x }
  s.setPort q { s.port q with rows := countRow (s.port q).rows p m }

/-- STRIP: written to the back bank of the plane that PLANE names, or dropped (R320); PLANE above 15 names none.
DEDUCED, log 43. -/
def execStrip (p : NbrId) (r : NbrRaw) (s : State) : Out :=
  match s.nbrTake p r with
  | (none, s) => .next s
  | (some f, s) =>
    let s := s.nbrLeaves p f
    if f.typ ≠ 1 then .next s
    else
      match nbrPlane f with
      | some n => .next (if s.stripAllowed p n f then s.stripWrite p n f else s.stripDrop p f)
      | none => .next (s.stripDrop p f)

/-- NBR_FENCE_FRAME: a FENCE frame waits in the receive buffer for its completion (R321). -/
def execNbrFenceFrame (p : NbrId) (r : NbrRaw) (s : State) : Out :=
  match s.nbrTake p r with
  | (none, s) => .next s
  | (some f, s) =>
    match (if f.typ = 2 then nbrPlane f else none) with
    | some n =>
      let x := s.port p
      .next (s.setPort p { x with fences :=
        x.fences ++ [{ plane := n, frame := s.resolveFrame f.frame, count := f.count.toNat }] })
    | none => .next (s.nbrLeaves p f)

/-- NBR_FENCE_COMPLETE: the oldest FENCE frame counts, and a COUNT that differs from the frames written flags
STRIP_LOSS (R321). -/
def execNbrFenceComplete (p : NbrId) (s : State) : Out :=
  let x := s.port p
  match x.fences with
  | [] => .next s
  | f :: t =>
    let got := rowCount x.rows f.plane f.frame
    let s := s.setPort p { x with fences := t, rows := x.rows.filter (fun e => !(e.1 == f.plane.val && e.2.1 == f.frame)) }
    let s := s.nbrReturn p 1
    let s := if got = f.count then s else (s.set (F.NBR_FLAGS_STRIP_LOSS p)).nbrSeam p 2 (unsigned 32 f.frame)
    .next (s.countFence f.plane f.frame)

end Sys2Proof.Machine
end

