-- ==== Sys2Proof/Machine/Blt.lean ====
section
/-!
DEFINITION. Sys2Proof/Machine/Blt.lean: the block engines (R347 to R361): the parameters sampled at BLT_GO, the checks
of R351, raster operations and patterns, the traversal of R354, and case U12 (R486).
-/

namespace Sys2Proof.Machine

/-! ### The parameters -/

/-- The pattern pixels of quadrant `n`, pixel 8·py + px in its place (R353). -/
def State.bltPattern (s : State) (n : QuadId) : List Nat :=
  if s.flag (F.BLT_CTRL_PAT_MONO n) then
    let m := (s.rd (A.BLT_PAT_MONO0 n)).toNat + (s.rd (A.BLT_PAT_MONO1 n)).toNat * 2 ^ 32
    (List.range 64).map fun i => (if bit m i then s.rd (A.BLT_PAT_FG n) else s.rd (A.BLT_PAT_BG n)).toNat
  else (List.range 64).map fun i => (s.rd (A.BLT_PAT n i)).toNat

/-- The surface of space `space` with the bank of a plane resolved now (R348, R349); the reserved space is no plane
surface. -/
def State.bltSurf (s : State) (space base pitch plane : Nat) : BltSurf :=
  if space = 0 ∨ space = 3 then .dram base (pitch * 64)
  else
    let p : Fin 16 := ⟨plane % 16, Nat.mod_lt _ (by decide)⟩
    let d := (s.plane p).live
    .plane p (d.bank (if space = 1 then 1 - s.front p else s.front p)) d.width d.height

/-- The ROP reads the source (R352). -/
def ropSource (rop : Nat) : Bool := decide ((rop / 4 ^^^ rop) &&& 0x33 ≠ 0)
/-- The ROP reads the destination (R352). -/
def ropDest (rop : Nat) : Bool := decide ((rop / 2 ^^^ rop) &&& 0x55 ≠ 0)

/-- The operation that quadrant `n`'s parameter registers describe. -/
def State.bltSample (s : State) (n : QuadId) : BltOp :=
  let w := s.get (F.BLT_SIZE_WIDTH n)
  { bytes := 2 ^ s.get (F.BLT_CTRL_FORMAT n), xdir := s.flag (F.BLT_CTRL_XDIR n), ydir := s.flag (F.BLT_CTRL_YDIR n)
    rop := s.get (F.BLT_ROP_ROP n), w := if w = 0 then 65536 else w, h := s.get (F.BLT_SIZE_HEIGHT n)
    dst := s.bltSurf (s.get (F.BLT_DST_CFG_SPACE n)) (s.rd (A.BLT_DST_BASE n)).toNat (s.get (F.BLT_DST_CFG_PITCH n))
      (s.get (F.BLT_DST_CFG_PLANE n))
    dx := s.get (F.BLT_DST_XY_X n), dy := s.get (F.BLT_DST_XY_Y n)
    src := s.bltSurf (s.get (F.BLT_SRC_CFG_SPACE n)) (s.rd (A.BLT_SRC_BASE n)).toNat (s.get (F.BLT_SRC_CFG_PITCH n))
      (s.get (F.BLT_SRC_CFG_PLANE n))
    sx := s.get (F.BLT_SRC_XY_X n), sy := s.get (F.BLT_SRC_XY_Y n)
    pat := s.bltPattern n, orgX := s.get (F.BLT_PAT_ORG_ORG_X n), orgY := s.get (F.BLT_PAT_ORG_ORG_Y n)
    wmark := if s.flag (F.BLT_WMARK_DISABLE n) then none else some (s.get (F.BLT_WMARK_ROW n))
    fence := if s.flag (F.BLT_CTRL_FENCE n) then some (s.rd (A.BLT_FENCE n)) else none }

/-- The byte address of pixel (x, y) of a surface (R348). -/
def BltSurf.at_ (b : BltSurf) (bytes x y : Nat) : Nat :=
  match b with
  | .dram base pitch => base + y * pitch + x * bytes
  | .plane _ bank w _ => bank + (y * w + x) * 4

/-- A condition of R351 holds of the rectangle at (x, y) of surface `b`, whose SPACE field is `space`. -/
def State.bltBad (s : State) (n : QuadId) (o : BltOp) (b : BltSurf) (space x y : Nat) : Bool :=
  space == 3 ||
  match b with
  | .dram _ _ => decide (s.dramSize n < b.at_ o.bytes (x + o.w) (y + o.h - 1))
  | .plane p _ w h => o.bytes != 4 || !s.planeOk p || decide (w < x + o.w) || decide (h < y + o.h)

/-- The operation is refused (R351). -/
def State.bltRefused (s : State) (n : QuadId) (o : BltOp) : Bool :=
  let d := s.get (F.BLT_DST_CFG_SPACE n)
  s.get (F.BLT_CTRL_FORMAT n) == 3 || d == 2 || s.bltBad n o o.dst d o.dx o.dy
    || (ropSource o.rop && s.bltBad n o o.src (s.get (F.BLT_SRC_CFG_SPACE n)) o.sx o.sy)

/-- A surface whose rectangle starts at column `x` breaks the rules of R350. -/
def BltOp.misplaced (o : BltOp) (b : BltSurf) (x : Nat) : Bool :=
  match b with
  | .dram base pitch => base % 64 != 0 || decide (pitch < (x + o.w) * o.bytes)
  | .plane _ _ w _ => w * 4 % 64 != 0

/-- The operation is case U12 (R350). DEDUCED, log 89. -/
def BltOp.isU12 (o : BltOp) : Bool := o.misplaced o.dst o.dx || (ropSource o.rop && o.misplaced o.src o.sx)

/-! ### Case U12 -/

/-- Word `w` of quadrant `n`'s DRAM holds free values, without an access of it. -/
def State.scribbleWord (s : State) (n : QuadId) (w : Nat) : State :=
  let (b, s) := s.geoAdvance.freeBytes 64
  let d := s.dr n
  let d := d.store w (2 ^ 64 - 1) 0 b
  let d := { d with damaged := d.damaged.filter (· ≠ w), stale := d.stale.filter (· ≠ w)
                    written := if d.written.contains w then d.written else w :: d.written }
  ((s.setDr n d).mapTouched n w).noteLiveBank n w

/-- The bytes of the write region of a U12 operation in quadrant `n` hold free values (R486). DEDUCED, log 89. -/
def State.bltScribble (s : State) (n : QuadId) (o : BltOp) : State :=
  match o.dst with
  | .dram base pitch =>
    let a := base / 64 + o.dy * pitch / 64
    let e := ceilDiv (base + (o.dy + o.h - 1) * pitch + (o.dx + o.w) * o.bytes) 64
    forAll (List.range (min e (s.dramSize n / 64) - a)) s fun s i => s.scribbleWord n (a + i)
  | .plane _ bank w h =>
    let (b, s) := s.freeBytes (min (ceilDiv (w * h * 4) 64 * 64) (64 * sceneUnits - bank))
    s.sceneWrite bank b

/-- What a U12 operation writes in this core cycle is free, and so is ROWS_DONE; what others write into its region in the
cycle is the case's too (R484, R487). DEDUCED, log 89. -/
def State.bltWild (s : State) (n : QuadId) (o : BltOp) : State :=
  let (r, s) := s.draw 16
  { (s.bltScribble n o).put (F.BLT_STATUS_ROWS_DONE n) r with wild := s.wild.set n (some o) }

/-- The core cycle ends for U12 operations that have written in it (R487). -/
def State.wildEnds (s : State) : State :=
  let s := forAll allQuads s fun s n => match s.wild[n] with | some o => s.bltScribble n o | none => s
  { s with wild := Vector.replicate 4 none }

/-! ### Start and completion -/

/-- An operation completes: its fence counts (R358), and BLT_DONE is pushed (R356). DEDUCED, log 88. -/
def State.bltDone (s : State) (n : QuadId) (o : BltOp) : State :=
  let s : State := { s.clr (F.BLT_STATUS_BUSY n) with blt := s.blt.set n none }
  let s := s.quadEvent n 0x10 0 0
  match o.dst, o.fence with
  | .plane p _ _ _, some f => s.countFence p (s.resolveFrame f)
  | _, _ => s

/-- A write of `v` to BLT_GO takes effect with the engine idle (R347, R350, R351): GO = 0 does nothing, a HEIGHT of 0
completes at once without a flag, a refused operation with PARAM_BAD and without its fence. DEDUCED, log 88. -/
def State.bltGo (s : State) (n : QuadId) (v : Word) : State :=
  if field v 0 1 = 0 then s
  else
    let o := s.bltSample n
    let s := s.put (F.BLT_STATUS_ROWS_DONE n) 0
    if o.h = 0 then s.bltDone n o
    else if s.bltRefused n o then (s.set (F.BLT_STATUS_PARAM_BAD n)).quadEvent n 0x10 0 0
    else
      let s : State := { s.set (F.BLT_STATUS_BUSY n) with blt := s.blt.set n (some { o with u12 := o.isU12 }) }
      if o.isU12 then s.bltWild n o else s

/-- BLT_GO: a write that finds the engine idle takes effect; one that finds it busy does not come about here
(R73, R357). -/
def execBltGo (n : QuadId) (v : Word) (s : State) : Out :=
  if s.flag (F.BLT_STATUS_BUSY n) then .next s else .next (s.bltGo n v)

/-! ### One row -/

/-- The result of the ROP3 code on `k` bits of pattern, source and destination (R352). -/
def rop3 (rop p s d : Nat) : Nat → Nat
  | 0 => 0
  | k + 1 => rop3 rop p s d k + b2n (bit rop (4 * b2n (bit p k) + 2 * b2n (bit s k) + b2n (bit d k))) * 2 ^ k

/-- The spans of a row of `w` pixels from destination column `dx` on, cut at 64-byte boundaries: [x0, x1) in the
rectangle (R354). -/
def bltSpans (dx w bytes : Nat) : List (Nat × Nat) :=
  let per := 64 / bytes
  let first := dx / per
  (List.range ((dx + w - 1) / per + 1 - first)).map fun i =>
    ((first + i) * per - dx, min ((first + i + 1) * per - dx) w)

/-- `k` bytes of surface `b` from byte address `a` on; words with uncorrectable errors are taken as 0 and set MEM_ERR
(R359). -/
def State.bltRead (s : State) (n : QuadId) (b : BltSurf) (a k : Nat) : List Byte × State :=
  match b with
  | .dram _ _ =>
    let (l, marked, s) := s.readBytes n a k
    (l, s.setIf (!marked.isEmpty) (F.BLT_STATUS_MEM_ERR n))
  | .plane _ _ _ _ =>
    let (l, s) := s.sceneRead a k
    let l := l.zipIdx.map fun (x, i) => if s.sceneBad (a + i) then 0 else x
    (l, s.setIf ((List.range k).any fun i => s.sceneBad (a + i)) (F.BLT_STATUS_MEM_ERR n))

/-- Bytes written to surface `b` from byte address `a` on. -/
def State.bltWrite (s : State) (n : QuadId) (b : BltSurf) (a : Nat) (l : List Byte) : State :=
  match b with
  | .dram _ _ => s.writeDram n a l
  | .plane _ _ _ _ => s.sceneWrite a l

/-- Pixel `x` of destination row `y` in the pattern (R353). -/
def BltOp.pattern (o : BltOp) (x y : Nat) : Nat := o.pat.getD ((y + o.orgY) % 8 * 8 + (x + o.orgX) % 8) 0

/-- The pixel in `l` at index `i`. -/
def pixelIn (l : List Byte) (bytes i : Nat) : Nat := leNat ((l.drop (i * bytes)).take bytes)

/-- One span of rectangle row `r`: every read before every write (R354). -/
def State.bltSpan (s : State) (n : QuadId) (o : BltOp) (r : Nat) (sp : Nat × Nat) : State :=
  let (x0, x1) := sp
  let k := (x1 - x0) * o.bytes
  let da := o.dst.at_ o.bytes (o.dx + x0) (o.dy + r)
  let (sl, s) := if ropSource o.rop then s.bltRead n o.src (o.src.at_ o.bytes (o.sx + x0) (o.sy + r)) k else ([], s)
  let (dl, s) := if ropDest o.rop then s.bltRead n o.dst da k else ([], s)
  let out := (List.range (x1 - x0)).flatMap fun i =>
    leBytes o.bytes (rop3 o.rop (o.pattern (o.dx + x0 + i) (o.dy + r)) (pixelIn sl o.bytes i) (pixelIn dl o.bytes i)
      (8 * o.bytes))
  s.bltWrite n o.dst da out

/-- The DRAM that an operation needs serves requests. DEDUCED, log 90. -/
def State.bltServed (s : State) (n : QuadId) (o : BltOp) : Bool :=
  let uses (b : BltSurf) : Bool := match b with | .dram _ _ => true | .plane _ _ _ _ => false
  s.dramServes n || !(uses o.dst || (ropSource o.rop && uses o.src))

/-- BLT_ROW_WRITTEN: the next row of quadrant `n`'s operation is written, BLT_WMARK is pushed at the watermark row and
the operation completes with its last row (R354, R356). In case U12 the row is read, written and counted as ever, and the
bytes of the write region are free (R483, R484). DEDUCED, log 90. -/
def execBltRowWritten (n : QuadId) (s : State) : Out :=
  match s.blt[n] with
  | some o =>
    if s.bltServed n o then
      let r := if o.ydir then o.h - 1 - o.rows else o.rows
      let spans := bltSpans o.dx o.w o.bytes
      let s := forAll (if o.xdir then spans.reverse else spans) s fun s sp => s.bltSpan n o r sp
      let s := if o.u12 then s.bltWild n o else s.put (F.BLT_STATUS_ROWS_DONE n) (o.rows + 1)
      let s : State := { s with blt := s.blt.set n (some { o with rows := o.rows + 1 }) }
      let s := if o.wmark = some r then s.quadEvent n 0x11 0 r else s
      if o.rows + 1 = o.h then .next (s.bltDone n o) else .next s
    else .next s
  | none => .next s

/-- The block engine of quadrant `n` abandons its operation, without an event (R361). -/
def State.bltAbandon (s : State) (n : QuadId) : State :=
  { s.clr (F.BLT_STATUS_BUSY n) with blt := s.blt.set n none }

end Sys2Proof.Machine
end

