-- ==== Sys2Proof/Machine/Flags.lean ====
section
/-!
DEFINITION. Sys2Proof/Machine/Flags.lean: the predicate flag P of a sequencer: the condition codes of R99, for
numbers and for points in time.
-/

namespace Sys2Proof.Machine

/-- Whether the condition holds between two general values (R99). -/
def condHolds : Cond → Word → Word → Bool
  | .eq, a, b => a == b
  | .ne, a, b => a != b
  | .lt, a, b => decide (a.toInt < b.toInt)
  | .ge, a, b => decide (b.toInt ≤ a.toInt)
  | .ltu, a, b => decide (a.toNat < b.toNat)
  | .geu, a, b => decide (b.toNat ≤ a.toNat)

/-- The point in time a time register names, in nanoseconds (R109). -/
def TimeVal.toNs (t : TimeVal) : Nat := t.sec.toNat * 1000000000 + t.ns.toNat

/-- Whether the condition holds between two points in time (R99). -/
def timeCondHolds (c : Cond) (a b : TimeVal) : Bool :=
  match c with
  | .eq => a.toNs == b.toNs
  | .ne => a.toNs != b.toNs
  | .lt => decide (a.toNs < b.toNs)
  | .ge => decide (b.toNs ≤ a.toNs)
  | .ltu => decide (a.toNs < b.toNs)
  | .geu => decide (b.toNs ≤ a.toNs)

/-- P of a sequencer becomes `b`. -/
def Seq.setP (c : Seq) (b : Bool) : Seq := { c with p := b }

end Sys2Proof.Machine
end

