-- ==== Sys2Proof/Machine/Operands.lean ====
section
/-!
DEFINITION. Sys2Proof/Machine/Operands.lean: the operand forms of Porow instructions: general and time registers,
data-memory addresses, the line offset, register addresses; the PC, sequencer faults (R91), and how a sequencer
issues an instruction (R92 to R96).
-/

namespace Sys2Proof.Machine

/-- General register `r` of a sequencer. -/
def Seq.gr (c : Seq) (r : GReg) : Word := c.g[r]

/-- General register `r` written. -/
def Seq.setGr (c : Seq) (r : GReg) (v : Word) : Seq := { c with g := c.g.set r v }

/-- Time register `r` of a sequencer. -/
def Seq.tr (c : Seq) (r : TReg) : TimeVal := c.t[r]

/-- Time register `r` written. -/
def Seq.setTr (c : Seq) (r : TReg) (v : TimeVal) : Seq := { c with t := c.t.set r v }

/-- The PC moves to the next instruction, from 32,767 to 0 (R94). -/
def Seq.next (c : Seq) : Seq := { c with pc := c.pc + 1 }

/-- The data-memory byte address (base + off) mod 65,536 (R101). -/
def dmemAddr (base : Word) (off : BitVec 16) : Nat := ((base.toNat : Int) + off.toInt).emod 65536 |>.toNat

/-- The word of data memory at byte address `a`, modulo 65,536. DESIGN CHOICE, log 8. -/
def Seq.dmemRd (c : Seq) (a : Nat) : Word := sparseGet (fun _ => 0) c.dmem (a % 65536 / 4)

/-- The word of data memory at byte address `a`, modulo 65,536, written. -/
def Seq.dmemWr (c : Seq) (a : Nat) (v : Word) : Seq :=
  { c with dmem := sparseSet (fun _ => 0) c.dmem (a % 65536 / 4) v }

/-- The instruction word at address `a`. -/
def Seq.imemRd (c : Seq) (a : BitVec 15) : IWord := sparseGet (fun _ => 0) c.imem a.toNat

/-- The signed line offset n (R97). -/
def Seq.lineOff (c : Seq) : LineOff → Int
  | .imm n => n.toInt
  | .reg g => ((c.gr g).setWidth 16).toInt

/-- The byte address a WADDR field holds (R97). -/
def waddrByte (w : WAddr) : Nat := w.toNat * 4

/-- The code of a sequencer fault (R91). -/
def SeqFault.code : SeqFault → Nat
  | .illegalOp => 1 | .dmemAlign => 2 | .access => 3 | .stack => 4 | .whistle => 5 | .imemParity => 6

/-- A fault as SEQs_FAULT holds it. -/
def faultWord : Option (SeqFault × BitVec 15) → Nat
  | some (f, pc) => f.code + pc.toNat * 2 ^ 16 + 2 ^ 31
  | none => 0

/-- EVENT with DEST PIN or BOTH sets BRD_EVT.LATCH, which holds EVT_N low (R113, R536). -/
def State.assertEvtN (s : State) : State := s.set F.BRD_EVT_LATCH

/-- A sequencer faults (R91): it enters FAULTED, records the code and the PC, and issues nothing further. A fault of
SQ0 to SQ3 pushes SEQ_FAULT to SQS; a fault of SQS sends an ALERT message, holds EVT_N low (R307, R536) and, where
KNL_CTRL.SQS_FAULT is 1, is a Kennel reason (R479). -/
def State.seqFault (s : State) (q : SeqId) (f : SeqFault) : State :=
  let c := s.seq q
  let s1 := s.setSeq q { c with run := .faulted, busy := .none, fault := some (f, c.pc) }
  if q = sqsQ then
    let s2 := s1.alert 1 f.code c.pc.toNat
    if s2.flag F.KNL_CTRL_SQS_FAULT then s2.kennelReason 5 else s2
  else s1.sqsEvent 0x23 q (faultWord (some (f, c.pc)))

/-- The PC lies in the range of a HOT segment that is being written (R90). -/
def Seq.fetchHeld (c : Seq) : Bool :=
  c.hot.any fun r => decide (r.1 ≤ c.pc.toNat) && decide (c.pc.toNat < r.2)

/-- How a sequencer issues an instruction (R92 to R96). One that is not RUNNING issues nothing; a fetch from a HOT
segment under way stalls (R90). A word that is no
instruction faults with ILLEGAL_OP and does not execute; a word that is another instruction than the step's own
leaves the step without effect; the step's own runs, with the PC still at it. DESIGN CHOICE, log 24. -/
def State.issue (s : State) (q : SeqId) (i : POp) (body : State → State) : State :=
  let c := s.seq q
  if c.run ≠ .running then s
  else if c.fetchHeld then s.setSeq q { c with run := .stalled, busy := .fetch }
  else
    match decodePorow (c.imemRd c.pc) with
    | none => s.seqFault q .illegalOp
    | some j => if j = i then body s else s

/-- The sequencer after an instruction that only changes the sequencer itself: the change, and the PC moved on. -/
def State.step1 (s : State) (q : SeqId) (f : Seq → Seq) : State := s.setSeq q (f (s.seq q)).next

end Sys2Proof.Machine
end

