-- ==== Sys2Proof/Machine/PorowMem.lean ====
section
/-!
DEFINITION. Sys2Proof/Machine/PorowMem.lean: Porow loads and stores of data memory (R101), register accesses as a
sequencer issues them (R65 to R72, R102 to R107), the queue instructions (R82, R108), alarms (R80, R81), COMMIT
(R85, R112, R220, R221) and EVENT (R113).
-/

namespace Sys2Proof.Machine

/-! ### Data memory -/

/-- LD (R101). `bad` says that the word fails its parity: it is then loaded as read, which the stored word no
longer gives (R477). -/
def execLd (q : SeqId) (d a : GReg) (off : BitVec 16) (bad : Bool) (s : State) : Out :=
  .next (s.issue q (.ld d a off) fun s =>
    let c := s.seq q
    let x := dmemAddr (c.gr a) off
    if x % 4 = 0 then
      if bad then
        let (v, s) := (s.dmemErr q x).draw 32
        s.step1 q fun c => c.setGr d (BitVec.ofNat 32 v)
      else s.step1 q fun c => c.setGr d (c.dmemRd x)
    else s.seqFault q .dmemAlign)

/-- ST (R101). -/
def execSt (q : SeqId) (d a : GReg) (off : BitVec 16) (s : State) : Out :=
  .next (s.issue q (.st d a off) fun s =>
    let c := s.seq q
    let x := dmemAddr (c.gr a) off
    if x % 4 = 0 then s.step1 q fun c => c.dmemWr x (c.gr d) else s.seqFault q .dmemAlign)

/-- The time value of seconds and an unsigned 32-bit number of nanoseconds, normalised (R109). -/
def timeOf (secHi secLo ns : Word) : TimeVal :=
  timeOfNs (((secHi.toNat * 2 ^ 32 + secLo.toNat) * 1000000000 + ns.toNat : Nat) : Int)

/-- TLD (R101). `bad` names the one of the three words that fails its parity, 0 the first. -/
def execTld (q : SeqId) (d : TReg) (g : GReg) (off : BitVec 16) (bad : Option (Fin 3)) (s : State) : Out :=
  .next (s.issue q (.tld d g off) fun s =>
    let c := s.seq q
    let x := dmemAddr (c.gr g) off
    if x % 4 = 0 then
      let words := [c.dmemRd x, c.dmemRd (x + 4), c.dmemRd (x + 8)]
      let (words, s) := match bad with
        | some i =>
          let (v, s) := (s.dmemErr q (x + 4 * i.val)).draw 32
          (words.set i.val (BitVec.ofNat 32 v), s)
        | none => (words, s)
      s.step1 q fun c => c.setTr d (timeOf (words.getD 2 0) (words.getD 1 0) (words.getD 0 0))
    else s.seqFault q .dmemAlign)

/-- TST (R101): NS, SEC_LO, SEC_HI. -/
def execTst (q : SeqId) (a : TReg) (g : GReg) (off : BitVec 16) (s : State) : Out :=
  .next (s.issue q (.tst a g off) fun s =>
    let c := s.seq q
    let x := dmemAddr (c.gr g) off
    if x % 4 = 0 then
      s.step1 q fun c =>
        let t := c.tr a
        ((c.dmemWr x t.ns).dmemWr (x + 4) (t.sec.setWidth 32)).dmemWr (x + 8) ((t.sec >>> 32).setWidth 32)
    else s.seqFault q .dmemAlign)

/-! ### Register accesses as issued -/

/-- The posted writes that a sequencer holds; a TWR counts three (R103). -/
def Seq.postedCount (c : Seq) : Nat := c.posted.foldl (fun n p => n + p.vals.length) 0

/-- What an access outside reach faults with, if it does (R65, R72). -/
def Access.fault : Access → Option SeqFault
  | .outside => some .access
  | .whistle => some .whistle
  | _ => none

/-- The faults of accesses at each of the addresses `l`. DEDUCED, log 34. -/
def State.reachFault (s : State) (q : SeqId) (l : List Nat) (write : Bool) : Option SeqFault :=
  l.findSome? (fun a => (s.reach (masterOf q) a write).fault)

/-- A write that sequencer `q` issues at `a`: posted (R67), or under way as a GO write (R105). With too few free
entries of the buffer it waits, RUNNING, and this step leaves everything as it is (R103). -/
def State.postWrite (s : State) (q : SeqId) (a : Nat) (vals : List Word) (go : Bool) : State :=
  match s.reachFault q ((List.range vals.length).map (fun i => a + 4 * i)) true with
  | some f => s.seqFault q f
  | none =>
    let c := s.seq q
    match go && goAddr a, vals with
    | true, v :: _ => s.setSeq q { c with run := .stalled, busy := .go a v s.wt.cycle false }
    | _, _ =>
      if c.postedCount + vals.length ≤ 8 then
        s.setSeq q { c with posted := c.posted ++ [{ addr := a, vals := vals }], pc := c.pc + 1 }
      else s

/-- A read that sequencer `q` issues at `a`: it stalls until its data returns (R67, R102). -/
def State.startRead (s : State) (q : SeqId) (a words : Nat) (dest : ReadDest) : State :=
  match s.reachFault q ((List.range words).map (fun i => a + 4 * i)) false with
  | some f => s.seqFault q f
  | none => s.setSeq q { s.seq q with run := .stalled, busy := .read a dest }

/-- The address that an indirect access forms, none where gA[31:26] is not 0 (R104). -/
def indirectAddr (g : Word) : Option Nat := if g.toNat < 2 ^ 26 then some (g.toNat / 4 * 4) else none

/-- RD. -/
def execRd (q : SeqId) (g : GReg) (w : WAddr) (s : State) : Out :=
  .next (s.issue q (.rd g w) fun s => s.startRead q (waddrByte w) 1 (.gen g))
/-- WR. -/
def execWr (q : SeqId) (w : WAddr) (g : GReg) (s : State) : Out :=
  .next (s.issue q (.wr w g) fun s => s.postWrite q (waddrByte w) [(s.seq q).gr g] true)
/-- WRI. -/
def execWri (q : SeqId) (w : WAddr) (imm : Word) (s : State) : Out :=
  .next (s.issue q (.wri w imm) fun s => s.postWrite q (waddrByte w) [imm] true)

/-- RMW (R69, R107): a register that contains a W1C, write-only or popping field faults with ACCESS; the write half
takes an entry of the buffer. -/
def execRmw (q : SeqId) (w : WAddr) (m g : GReg) (s : State) : Out :=
  .next (s.issue q (.rmw w m g) fun s =>
    let a := waddrByte w
    match s.reachFault q [a] true with
    | some f => s.seqFault q f
    | none =>
      if rmwBars (masterOf q) a then s.seqFault q .access
      else if (s.seq q).postedCount + 1 ≤ 8 then s.startRead q a 1 (.rmw ((s.seq q).gr m) ((s.seq q).gr g))
      else s)

/-- RD [gA] (R104). -/
def execRdIndirect (q : SeqId) (d a : GReg) (s : State) : Out :=
  .next (s.issue q (.rdIndirect d a) fun s =>
    match indirectAddr ((s.seq q).gr a) with
    | some x => s.startRead q x 1 (.gen d)
    | none => s.seqFault q .access)

/-- WR [gA] (R104). -/
def execWrIndirect (q : SeqId) (a d : GReg) (s : State) : Out :=
  .next (s.issue q (.wrIndirect a d) fun s =>
    match indirectAddr ((s.seq q).gr a) with
    | some x => s.postWrite q x [(s.seq q).gr d] true
    | none => s.seqFault q .access)

/-- TRD (R106). -/
def execTrd (q : SeqId) (t : TReg) (w : WAddr) (s : State) : Out :=
  .next (s.issue q (.trd t w) fun s => s.startRead q (waddrByte w) 3 (.time t))

/-- TWR (R106): SEC_HI, SEC_LO, NS. -/
def execTwr (q : SeqId) (w : WAddr) (t : TReg) (s : State) : Out :=
  .next (s.issue q (.twr w t) fun s =>
    let v := (s.seq q).tr t
    s.postWrite q (waddrByte w) [(v.sec >>> 32).setWidth 32, v.sec.setWidth 32, v.ns] false)

/-- POP.Q (R108). DEDUCED, log 30. -/
def execPopQ (q : SeqId) (g : GReg) (w : WAddr) (s : State) : Out :=
  .next (s.issue q (.popQ g w) fun s => s.startRead q (waddrByte w) 1 (.popQ g))
/-- PUSH (R108). -/
def execPush (q : SeqId) (w : WAddr) (g : GReg) (s : State) : Out :=
  .next (s.issue q (.push w g) fun s => s.postWrite q (waddrByte w) [(s.seq q).gr g] false)
/-- DROPPKT (R108): writes 1. -/
def execDroppkt (q : SeqId) (w : WAddr) (s : State) : Out :=
  .next (s.issue q (.droppkt w) fun s => s.postWrite q (waddrByte w) [1] false)

/-! ### The event queue -/

/-- Word 0 of an event entry (R83). -/
def EvEntry.word0 (e : EvEntry) : Word :=
  BitVec.ofNat 32 (e.source.toNat + e.code.toNat * 2 ^ 8 + b2n e.late * 2 ^ 16)

/-- An event entry in four general registers from gD, and P (R82). -/
def Seq.takeEntry (c : Seq) (d : GReg) (e : EvEntry) (p : Bool) : Seq :=
  let at_ (i : Nat) : GReg := ⟨(d.val + i) % 16, Nat.mod_lt _ (by decide)⟩
  ((((c.setGr (at_ 0) e.word0).setGr (at_ 1) e.data).setGr (at_ 2) e.secLo).setGr (at_ 3) e.ns).setP p

/-- The entry that a POP takes: the head, but one pushed in this core cycle (R108). -/
def State.evReady (s : State) (q : SeqId) : Option EvEntry :=
  match (s.seq q).queue with
  | e :: _ => if e.born = some s.wt.cycle then none else some e
  | [] => none

/-- POP (R82, R108). -/
def execPop (q : SeqId) (d : GReg) (s : State) : Out :=
  .next (s.issue q (.pop d) fun s =>
    match s.evReady q with
    | some e => s.step1 q fun c => ({ c with queue := c.queue.tail, last := e } : Seq).takeEntry d e true
    | none => (s.set (F.SEQ_EVQ_STATUS_UNDERRUN q)).step1 q fun c => c.takeEntry d c.last false)

/-! ### Alarms -/

/-- Alarm slot `a` armed with target `t`, or disarmed. -/
def Seq.setAlarm (c : Seq) (a : Fin 8) (t : Option AlarmTarget) : Seq := { c with alarms := c.alarms.set a t }

/-- The instant of an alarm's target, in units of 2^-16 ns. -/
def State.alarmAt (s : State) : AlarmTarget → Option Int
  | .time t => some t.units
  | .line l => s.lineTargetAt l
  | .free due _ => due.map (fun x => (x : Int))

/-- Slot `a` armed for `t` at an instant already decided: in the past by up to 2^31 ns it fires at once and late;
further in the past is U11 (R81, R484). -/
def State.armAlarm (s : State) (q : SeqId) (a : Fin 8) (t : AlarmTarget) : State :=
  let now : Int := s.wall16
  match s.alarmAt t with
  | none => s.setSeq q ((s.seq q).setAlarm a (some t))
  | some x =>
    if now ≤ x then s.setSeq q ((s.seq q).setAlarm a (some t))
    else if now - x ≤ farPast then (s.setSeq q ((s.seq q).setAlarm a none)).event q 0x01 a true 0
    else
      let (r, s) := s.draw 2
      let (late, s) := s.draw 1
      if r = 0 then (s.setSeq q ((s.seq q).setAlarm a none)).event q 0x01 a (late == 1) 0
      else if r = 1 then
        let (d, s) := s.draw 48
        s.setSeq q ((s.seq q).setAlarm a (some (.free (some (s.wall16 + d)) (late == 1))))
      else s.setSeq q ((s.seq q).setAlarm a (some (.free none (late == 1))))

/-- The PC of a sequencer moves on. -/
def State.pcNext (s : State) (q : SeqId) : State := s.setSeq q (s.seq q).next

/-- The firing of slot `a`'s alarm in this core cycle is undone: an alarm that reaches its target in the core cycle of an
ARM or DISARM of its slot does not fire for the old target (R81). Its entry leaves the queue, and the next that found no
room there takes the place; each of the two was then not discarded. -/
def State.unfire (s : State) (q : SeqId) (a : Fin 8) : State :=
  s.unsay q fun e => e.source == 1 && e.code == BitVec.ofNat 8 a.val

/-- ARM.T and ARM.L; a target that is the instant of the latch that is due waits for the latch (R78, R80). -/
def State.armOp (s : State) (q : SeqId) (a : Fin 8) (t : AlarmTarget) : State :=
  match s.alarmAt t with
  | some x => if s.reached x && s.latchHolds x then s else ((s.unfire q a).armAlarm q a t).pcNext q
  | none => ((s.unfire q a).armAlarm q a t).pcNext q

/-- ARM.T (R80). -/
def execArmT (q : SeqId) (t : TReg) (a : Fin 8) (s : State) : Out :=
  .next (s.issue q (.armT t a) fun s => s.armOp q a (.time ((s.seq q).tr t)))

/-- ARM.L (R77, R80). -/
def execArmL (q : SeqId) (k : GReg) (n : LineOff) (a : Fin 8) (s : State) : Out :=
  .next (s.issue q (.armL k n a) fun s =>
    s.armOp q a (.line (s.lineTarget ((s.seq q).gr k) ((s.seq q).lineOff n))))

/-- DISARM (R80). -/
def execDisarm (q : SeqId) (a : Fin 8) (s : State) : Out :=
  .next (s.issue q (.disarm a) fun s => (s.unfire q a).step1 q fun c => c.setAlarm a none)

/-- An alarm's target is reached, and where it is a latch instant the latch has taken effect (R78, R80). -/
def State.alarmDue (s : State) (t : AlarmTarget) : Bool :=
  match s.alarmAt t with
  | none => false
  | some x => s.instantDone x

/-- ALARM: an armed alarm reaches its target (R80); one that a cadence write put in the past is late (R79). -/
def execAlarm (q : SeqId) (a : Fin 8) (s : State) : Out :=
  match (s.seq q).alarms[a] with
  | none => .next s
  | some t =>
    if s.alarmDue t then
      let late := match t with | .free _ l => l | _ => false
      .next ((s.setSeq q ((s.seq q).setAlarm a none)).event q 0x01 a late 0)
    else .next s

/-! ### COMMIT and EVENT -/

/-- A COMMIT of quadrant `n` completes (R220, R221). While the latch of this instant is yet to be taken, it is for the
latch after it and leaves a COMMIT that was in time as it is (R21). Without a valid cadence no frame is named: the
frame it serves is then a free value. DEDUCED, log 79; DESIGN CHOICE, log 168; DEDUCED, log 174. -/
def State.commitServe (s : State) (n : QuadId) : State :=
  let inTime := s.flag (F.CMP_STATUS_PENDING n) && !(s.cm n).lateOnly
  let due := s.latchDue.isSome
  let s := s.setCm n { s.cm n with late := due, lateOnly := due && !inTime }
  let s := s.set (F.CMP_STATUS_PENDING n)
  if s.cadenceOk then
    let late := s.reached (s.latchAt (s.frameNow + 1))
    let k := if late then s.frameNow + 2 else s.frameNow + 1
    let s := if due && inTime then s else s.wr (A.CMP_COMMIT_FRAME n) (BitVec.ofInt 32 k)
    if late then (s.set (F.CMP_STATUS_LATE_COMMIT n)).quadEvent n 0x31 n (unsigned 32 k) else s
  else
    let (f, s) := s.draw 32
    s.wr (A.CMP_COMMIT_FRAME n) (BitVec.ofNat 32 f)

/-- COMMITs of one core cycle that select one quadrant have the effect of one (R112). -/
def State.commitQuad (s : State) (n : QuadId) : State :=
  if (s.cm n).commitIn = some s.wt.cycle then s
  else (s.setCm n { s.cm n with commitIn := some s.wt.cycle }).commitServe n

/-- The quadrants that a COMMIT selects; none where its form is undefined for the sequencer (R112). -/
def commitQuads (q : SeqId) (mask : BitVec 4) : Option (List QuadId) :=
  if h : q.val < 4 then
    if mask = 0 then some [⟨q.val, h⟩] else none
  else some (allQuads.filter (fun n => bit mask.toNat n.val))

/-- The register at absolute address `a` lies in quadrant `n` and holds shadowed bits (R85). -/
def isShadowed (n : QuadId) (a : Nat) : Bool :=
  decide (quadBase n ≤ a) && decide (a < quadBase n + 0x400000) &&
    (match regRow a with | some r => r.rws != 0 | none => false)

/-- WHISTLE_MASK as an access of sequencer `q` meets it that is issued after the first `n` posted writes: the last of
them to write it decides (R67, R70). -/
def State.maskAfter (s : State) (q : SeqId) (n : Nat) : Nat :=
  ((s.seq q).posted.take n).foldl (fun m p =>
    match (List.range p.vals.length).find? fun j => (p.addr + 4 * j) % 0x4000000 == A.WHISTLE_MASK with
    | some j =>
      let k := p.mask.getD (BitVec.allOnes 32)
      ((p.vals.getD j 0 &&& k) ||| (BitVec.ofNat 32 m &&& ~~~k)).toNat % 16
    | none => m) (s.whistleMask (masterOf q))

/-- A posted write of sequencer `q` to a shadowed register of one of the quadrants `l` has not taken effect.
DEDUCED, log 38. -/
def State.shadowPosted (s : State) (q : SeqId) (l : List QuadId) : Bool :=
  (fins (s.seq q).posted.length).any fun i =>
    let p := (s.seq q).posted[i]
    (List.range p.vals.length).any fun j =>
      match reachWith (s.maskAfter q i) (masterOf q) (p.addr + 4 * j) true with
      | .regs t => t.any (fun a => l.any (fun n => isShadowed n a))
      | _ => false

/-- COMMIT (R85, R112): it completes after every earlier write of the sequencer to a shadowed register of the
quadrants has reached its shadow. A MASK other than 0 on SQ0 to SQ3 is an operand outside its range (R96).
DEDUCED, log 38. -/
def execCommit (q : SeqId) (mask : BitVec 4) (s : State) : Out :=
  .next (s.issue q (.commit mask) fun s =>
    match commitQuads q mask with
    | none => s.seqFault q .illegalOp
    | some l => if s.shadowPosted q l then s else (forAll l s State.commitQuad).pcNext q)

/-- Seconds, nanoseconds and FRAC of an instant in units of 2^-16 ns, as 14 bytes. -/
def instantBytes (x : Int) : List Byte :=
  beBytes 8 (unsigned 64 (x / 65536 / 1000000000)) ++ beBytes 4 (x / 65536 % 1000000000).toNat
    ++ beBytes 2 (x % 65536).toNat

/-- The body of an EVENT message (the EVENT body table). -/
def State.eventBody (s : State) (q : SeqId) (data : Bool) (v : Word) (code : Byte) : List Byte :=
  let k : Int := if data then s.frameIndex else s.resolveFrame v
  [BitVec.ofNat 8 q.val, code, BitVec.ofNat 8 (b2n data), 0]
    ++ beBytes 8 s.wallSec ++ beBytes 4 s.wallNsOfSec
    ++ beBytes 4 (if data then v.toNat else 0) ++ beBytes 4 (unsigned 32 k)
    ++ (if s.cadenceOk then instantBytes (s.frameAt k) else List.replicate 14 0)
    ++ [BitVec.ofNat 8 (b2n (!s.cadenceOk)), 0]

/-- EVENT (R113), its message with TAG 0 (DESIGN CHOICE, log 187): DEST HOST sends a message, PIN asserts EVT_N, BOTH does both. -/
def execEvent (q : SeqId) (data : Bool) (dest : EvDest) (g : GReg) (code : Byte) (s : State) : Out :=
  .next (s.issue q (.event data dest g code) fun s =>
    let msg : HostMsg := { dest := none, bytes := msgHeader 0x08 0 0 0 ++ s.eventBody q data ((s.seq q).gr g) code }
    let s := match dest with
      | .host => s.queueMsg msg
      | .pin => s.assertEvtN
      | .both => (s.queueMsg msg).assertEvtN
    s.pcNext q)

end Sys2Proof.Machine
end

