-- ==== Sys2Proof/Machine/Inflate.lean ====
section
/-!
DEFINITION. Sys2Proof/Machine/Inflate.lean: the inflaters' decoder of DEFLATE streams (RFC 1951 as R164 and R341 take
it) with the decoder errors of R342.
-/

namespace Sys2Proof.Machine

/-- Decoder errors, by their codes (R342). -/
abbrev errBlockType : Nat := 0x10
abbrev errLengths : Nat := 0x11
abbrev errIllegal : Nat := 0x12
abbrev errDistance : Nat := 0x13
abbrev errOverrun : Nat := 0x14
abbrev errStoredLen : Nat := 0x15
abbrev errTruncated : Nat := 0x16

/-- The bits of a byte, least significant first. -/
def byteBits (b : Byte) : List Bool := (List.range 8).map (fun i => bit b.toNat i)

/-- A number of `k` bits, least significant first, and the bits after it. -/
def takeBits : Nat → List Bool → Option (Nat × List Bool)
  | 0, l => some (0, l)
  | _ + 1, [] => none
  | k + 1, b :: t => (takeBits k t).map (fun (v, r) => (b2n b + 2 * v, r))

/-- One code of a prefix code: its length, its bits as a number most significant first, its symbol. -/
structure HuffCode where
  len  : Nat
  code : Nat
  sym  : Nat
deriving DecidableEq, Repr

/-- The symbols of code length `l`, in order. -/
def symsOf (lens : List Nat) (l : Nat) : List Nat :=
  (lens.zipIdx.filter (fun e => e.1 == l)).map (·.2)

/-- The canonical codes of lengths `l` to `l + k - 1`, the first of them `code`. -/
def canonFrom (lens : List Nat) : Nat → Nat → Nat → List HuffCode
  | 0, _, _ => []
  | k + 1, l, code =>
    let ss := symsOf lens l
    ss.zipIdx.map (fun (y, i) => ⟨l, code + i, y⟩) ++ canonFrom lens k (l + 1) ((code + ss.length) * 2)

/-- The canonical prefix code of a list of code lengths, 0 meaning no code. -/
def canon (lens : List Nat) : List HuffCode := canonFrom lens 15 1 0

/-- A list of code lengths claims more of the code space than there is. -/
def overSubscribed (lens : List Nat) : Bool :=
  decide (2 ^ 15 < lens.foldl (fun a l => if l = 0 then a else a + 2 ^ (15 - l)) 0)

/-- The next symbol: an error code, or the symbol and the bits after it. `k` bounds the length still to read. -/
def nextSym (h : List HuffCode) : Nat → Nat → Nat → List Bool → Except Nat (Nat × List Bool)
  | 0, _, _, _ => .error errIllegal
  | _ + 1, _, _, [] => .error errTruncated
  | k + 1, len, code, b :: t =>
    let len := len + 1
    let code := code * 2 + b2n b
    match h.find? (fun c => c.len == len && c.code == code) with
    | some c => .ok (c.sym, t)
    | none =>
      if h.any (fun c => decide (len < c.len) && c.code / 2 ^ (c.len - len) == code) then nextSym h k len code t
      else .error errIllegal

/-- The base and the number of extra bits of length symbol 257 + i (RFC 1951). -/
def lengthTable : List (Nat × Nat) := [
  (3, 0), (4, 0), (5, 0), (6, 0), (7, 0), (8, 0), (9, 0), (10, 0), (11, 1), (13, 1), (15, 1), (17, 1), (19, 2), (23, 2),
  (27, 2), (31, 2), (35, 3), (43, 3), (51, 3), (59, 3), (67, 4), (83, 4), (99, 4), (115, 4), (131, 5), (163, 5),
  (195, 5), (227, 5), (258, 0)]

/-- The base and the number of extra bits of a distance symbol (RFC 1951). -/
def distTable : List (Nat × Nat) := [
  (1, 0), (2, 0), (3, 0), (4, 0), (5, 1), (7, 1), (9, 2), (13, 2), (17, 3), (25, 3), (33, 4), (49, 4), (65, 5), (97, 5),
  (129, 6), (193, 6), (257, 7), (385, 7), (513, 8), (769, 8), (1025, 9), (1537, 9), (2049, 10), (3073, 10), (4097, 11),
  (6145, 11), (8193, 12), (12289, 12), (16385, 13), (24577, 13)]

/-- What the decoder holds: the input left, history and output newest first, the bytes of history before the
output, and the output's length. -/
structure Infl where
  bits : List Bool
  buf  : List Byte
  hist : Nat
  n    : Nat := 0
deriving DecidableEq, Repr

/-- One byte put out, unless the output would exceed the limit. -/
def Infl.put (d : Infl) (limit : Option Nat) (b : Byte) : Except (Nat × Infl) Infl :=
  if (match limit with | some l => decide (l ≤ d.n) | none => false) then .error (errOverrun, d)
  else .ok { d with buf := b :: d.buf, n := d.n + 1 }

/-- `k` bytes copied from `dist` back, byte by byte. -/
def Infl.copy (d : Infl) (limit : Option Nat) (dist : Nat) : Nat → Except (Nat × Infl) Infl
  | 0 => .ok d
  | k + 1 =>
    match d.put limit (d.buf.getD (dist - 1) 0) with
    | .ok d => d.copy limit dist k
    | .error e => .error e

/-- The error of a symbol that puts out `k` bytes and meets `e`: where it overruns the limit as well, the earlier row of
the Decoder errors table (R342). -/
def Infl.worse (d : Infl) (limit : Option Nat) (k e : Nat) : Nat × Infl :=
  (match limit with | some l => if l < d.n + k ∧ errOverrun < e then errOverrun else e | none => e, d)

/-- The symbols of one coded block up to its end. -/
def inflSyms (lit dist : List HuffCode) (limit : Option Nat) : Nat → Infl → Except (Nat × Infl) Infl
  | 0, d => .error (errTruncated, d)
  | fuel + 1, d =>
    match nextSym lit 15 0 0 d.bits with
    | .error e => .error (e, d)
    | .ok (y, r) =>
      if y < 256 then
        match { d with bits := r }.put limit (BitVec.ofNat 8 y) with
        | .ok d => inflSyms lit dist limit fuel d
        | .error e => .error e
      else if y = 256 then .ok { d with bits := r }
      else
        match lengthTable[y - 257]? with
        | none => .error (errIllegal, d)
        | some (lb, le) =>
          match takeBits le r with
          | none => .error (d.worse limit lb errTruncated)
          | some (lx, r) =>
            match nextSym dist 15 0 0 r with
            | .error e => .error (d.worse limit (lb + lx) e)
            | .ok (z, r) =>
              match distTable[z]? with
              | none => .error (errIllegal, d)
              | some (db, de) =>
                match takeBits de r with
                | none =>
                  .error (if d.hist + d.n < db then (errDistance, d) else d.worse limit (lb + lx) errTruncated)
                | some (dx, r) =>
                  if d.hist + d.n < db + dx then .error (errDistance, d)
                  else
                    match { d with bits := r }.copy limit (db + dx) (lb + lx) with
                    | .ok d => inflSyms lit dist limit fuel d
                    | .error e => .error e

/-- The bytes of a stored block: a byte past the limit is an overrun, with or without input for it. DEDUCED, log 62. -/
def inflStored (limit : Option Nat) : Nat → Infl → Except (Nat × Infl) Infl
  | 0, d => .ok d
  | k + 1, d =>
    match takeBits 8 d.bits with
    | none => (d.put limit 0).bind fun _ => .error (errTruncated, d)
    | some (v, r) =>
      match { d with bits := r }.put limit (BitVec.ofNat 8 v) with
      | .ok d => inflStored limit k d
      | .error e => .error e

/-- The order of the code length codes in a dynamic block's header (RFC 1951). -/
def lengthOrder : List Nat := [16, 17, 18, 0, 8, 7, 9, 6, 10, 5, 11, 4, 12, 3, 13, 2, 14, 1, 15]

/-- `k` 3-bit code lengths. -/
def take3 : Nat → List Bool → Option (List Nat × List Bool)
  | 0, l => some ([], l)
  | k + 1, l => (takeBits 3 l).bind (fun (v, r) => (take3 k r).map (fun (vs, r) => (v :: vs, r)))

/-- The code lengths of a dynamic block, newest first, until there are `total` of them. -/
def codeLens (h : List HuffCode) (total : Nat) : Nat → List Nat → List Bool → Except Nat (List Nat × List Bool)
  | 0, _, _ => .error errTruncated
  | fuel + 1, acc, bits =>
    if acc.length = total then .ok (acc.reverse, bits)
    else
      match nextSym h 15 0 0 bits with
      | .error e => .error e
      | .ok (y, r) =>
        let rep (v base extra : Nat) : Except Nat (List Nat × List Bool) :=
          match takeBits extra r with
          | none => .error (if total < acc.length + base then errLengths else errTruncated)
          | some (x, r) =>
            if total < acc.length + (base + x) then .error errLengths
            else codeLens h total fuel (List.replicate (base + x) v ++ acc) r
        if y < 16 then codeLens h total fuel (y :: acc) r
        else if y = 16 then
          match acc with
          | [] => .error errLengths
          | v :: _ => rep v 3 2
        else if y = 17 then rep 0 3 3
        else rep 0 11 7

/-- A number of `k` bits of a dynamic block's header that may be `max` at most. -/
def headerField (k max : Nat) (bits : List Bool) : Except Nat (Nat × List Bool) :=
  match takeBits k bits with
  | none => .error errTruncated
  | some (v, r) => if max < v then .error errLengths else .ok (v, r)

/-- HLIT, HDIST and HCLEN of a dynamic block, each judged as its bits are read (R342). -/
def headerCounts (bits : List Bool) : Except Nat (Nat × Nat × Nat × List Bool) :=
  match headerField 5 29 bits with
  | .error e => .error e
  | .ok (hlit, r) =>
    match headerField 5 29 r with
    | .error e => .error e
    | .ok (hdist, r) =>
      match headerField 4 15 r with
      | .error e => .error e
      | .ok (hclen, r) => .ok (hlit, hdist, hclen, r)

/-- The two codes of a dynamic block, and the bits after its header. -/
def dynHeader (bits : List Bool) : Except Nat (List HuffCode × List HuffCode × List Bool) :=
  match headerCounts bits with
  | .error e => .error e
  | .ok (hlit, hdist, hclen, r) =>
      match take3 (hclen + 4) r with
      | none => .error errTruncated
      | some (cl, r) =>
        let lens := (List.range 19).map (fun i => cl.getD (lengthOrder.idxOf i) 0)
        if overSubscribed lens then .error errLengths
        else
          match codeLens (canon lens) (hlit + hdist + 258) (r.length + 1) [] r with
          | .error e => .error e
          | .ok (all, r) =>
            let lit := all.take (hlit + 257)
            let dist := all.drop (hlit + 257)
            if overSubscribed lit ∨ overSubscribed dist ∨ lit.getD 256 0 = 0 then .error errLengths
            else .ok (canon lit, canon dist, r)

/-- The fixed literal/length code. -/
def fixedLit : List HuffCode :=
  canon (List.replicate 144 8 ++ List.replicate 112 9 ++ List.replicate 24 7 ++ List.replicate 8 8)

/-- The fixed distance code. -/
def fixedDist : List HuffCode := canon (List.replicate 32 5)

/-- One block: whether it is the final one, and the decoder after it. -/
def inflBlock (limit : Option Nat) (d : Infl) : Except (Nat × Infl) (Bool × Infl) :=
  match takeBits 3 d.bits with
  | none => .error (errTruncated, d)
  | some (v, r) =>
    let fin := bit v 0
    match v / 2 with
    | 0 =>
      let r := r.drop (r.length % 8)
      match takeBits 32 r with
      | none => .error (errTruncated, d)
      | some (x, r) =>
        let len := x % 65536
        if len + x / 65536 = 65535 then (inflStored limit len { d with bits := r }).map (fin, ·)
        else .error (errStoredLen, d)
    | 1 => (inflSyms fixedLit fixedDist limit (r.length + 1) { d with bits := r }).map (fin, ·)
    | 2 =>
      match dynHeader r with
      | .error e => .error (e, d)
      | .ok (lit, dist, r) => (inflSyms lit dist limit (r.length + 1) { d with bits := r }).map (fin, ·)
    | _ => .error (errBlockType, d)

/-- Blocks up to the final one. A stream that goes on in its flow's next packet may end at a block boundary: after
a final block, or with the input (R164). DEDUCED, log 62. -/
def inflBlocks (limit : Option Nat) (streaming : Bool) : Nat → Infl → Option Nat × Infl
  | 0, d => (some errTruncated, d)
  | fuel + 1, d =>
    if streaming && d.bits.isEmpty then (none, d)
    else
      match inflBlock limit d with
      | .error (e, d) => (some e, d)
      | .ok (true, d) => (none, d)
      | .ok (false, d) => inflBlocks limit streaming fuel d

/-- What decoding gives: the output, the error if there was one, and the whole bytes of input after the stream. -/
structure InflOut where
  bytes : List Byte
  err   : Option Nat
  rest  : Nat
deriving DecidableEq, Repr

/-- The decoding of `input` after the history `hist` (oldest first): up to `limit` bytes of output. DEDUCED, log 62. -/
def inflate (input hist : List Byte) (limit : Option Nat) (streaming : Bool) : InflOut :=
  let bits := input.flatMap byteBits
  let (err, d) := inflBlocks limit streaming (bits.length + 1) { bits := bits, buf := hist.reverse, hist := hist.length }
  { bytes := (d.buf.take d.n).reverse, err := err, rest := d.bits.length / 8 }

end Sys2Proof.Machine
end

