-- ==== Sys2Proof/Machine/DeflateCode.lean ====
section
/-!
DEFINITION. Sys2Proof/Machine/DeflateCode.lean: the raw stream that the deflater makes of a job's input (R336, R337,
R340): its matches, its blocks, and the forms of a block.
-/

namespace Sys2Proof.Machine

/-! ### Matches -/

/-- What a block is made of: a byte, or a copy of `len` bytes from `dist` back. -/
inductive DflTok where
  | lit (b : Byte)
  | copy (len dist : Nat)
deriving DecidableEq, Repr

/-- The most probes of a hash chain at a level (the Deflate levels table). -/
def dflProbes (level : Nat) : Nat := ([0, 4, 8, 16, 32, 64, 128, 256, 1024, 4096] : List Nat).getD level 4096

/-- How far two runs of bytes agree, up to `n`. -/
def sameLen : Nat → List Byte → List Byte → Nat
  | n + 1, a :: t, b :: u => if a = b then sameLen n t u + 1 else 0
  | _, _, _ => 0

/-- The hash of the three bytes that stand first, a free function of them. DESIGN CHOICE, log 63. -/
def hashAt : List Byte → Nat
  | a :: b :: c :: _ => Config.hash3 (a.toNat + 256 * b.toNat + 65536 * c.toNat)
  | _ => 0

/-- The longest match of `rest` on its hash chain, the nearest of several: its length and distance. `past` is what comes
before, newest first, from distance `dist` on; `behind` is the data from there; `probes` are left. -/
def chainBest (rest : List Byte) (limit : Nat) : List Byte → List Byte → Nat → Nat → Nat × Nat → Nat × Nat
  | [], _, _, _, best => best
  | x :: t, behind, dist, probes, best =>
    if probes = 0 then best
    else if hashAt (x :: behind) = hashAt rest then
      let n := sameLen limit (x :: behind) rest
      chainBest rest limit t (x :: behind) (dist + 1) (probes - 1) (if best.1 < n then (n, dist) else best)
    else chainBest rest limit t (x :: behind) (dist + 1) probes best

/-- The match that the deflater finds for `rest` after `past` (R336): 3 to 258 bytes from at most 32,768 back. -/
def findMatch (level : Nat) (past rest : List Byte) : Option (Nat × Nat) :=
  if rest.length < 3 then none
  else
    let best := chainBest rest (min 258 rest.length) (past.take 32768) rest 1 (dflProbes level) (0, 0)
    if best.1 < 3 then none else some best

/-- `k` bytes more lie in the past. -/
def passBytes : Nat → List Byte → List Byte → List Byte × List Byte
  | k + 1, past, x :: t => passBytes k (x :: past) t
  | _, past, rest => (past, rest)

/-- The tokens of the data `rest` of one block after `past`, with lazy matching from level 4 on (R336); `fuel` bounds
their number. DEDUCED, log 205. -/
def dflTokens (level : Nat) : Nat → List Byte → List Byte → List DflTok
  | 0, _, _ => []
  | _ + 1, _, [] => []
  | fuel + 1, past, x :: t =>
    match findMatch level past (x :: t) with
    | none => .lit x :: dflTokens level fuel (x :: past) t
    | some (n, d) =>
      let later := if 4 ≤ level then findMatch level (x :: past) t else none
      match later with
      | some (n', d') =>
        if n < n' then
          let (p, r) := passBytes n' (x :: past) t
          .lit x :: .copy n' d' :: dflTokens level fuel p r
        else
          let (p, r) := passBytes n past (x :: t)
          .copy n d :: dflTokens level fuel p r
      | none =>
        let (p, r) := passBytes n past (x :: t)
        .copy n d :: dflTokens level fuel p r

/-! ### Blocks -/

/-- The low `k` bits of a number, least significant first. -/
def lowBits (k v : Nat) : List Bool := (List.range k).map (bit v)

/-- The bits of a symbol's code, most significant first. -/
def symBits (h : List HuffCode) (y : Nat) : Option (List Bool) :=
  (h.find? (fun c => c.sym == y)).map fun c => (lowBits c.len c.code).reverse

/-- The symbol of a table of bases whose range holds `v`, and its extra bits. -/
def rangeSym (table : List (Nat × Nat)) (v : Nat) : Nat × List Bool :=
  let i := (table.filter fun e => decide (e.1 ≤ v)).length - 1
  let (base, extra) := table.getD i (0, 0)
  (i, lowBits extra (v - base))

/-- A token's bits under the two codes. -/
def tokBits (lit dist : List HuffCode) : DflTok → Option (List Bool)
  | .lit b => symBits lit b.toNat
  | .copy n d =>
    let (i, le) := rangeSym lengthTable n
    let (j, de) := rangeSym distTable d
    match symBits lit (257 + i), symBits dist j with
    | some a, some b => some (a ++ le ++ b ++ de)
    | _, _ => none

/-- The bits of a block's tokens and of its end, none where a symbol has no code. -/
def tokensBits (lit dist : List HuffCode) : List DflTok → Option (List Bool)
  | [] => symBits lit 256
  | k :: t =>
    match tokBits lit dist k, tokensBits lit dist t with
    | some a, some b => some (a ++ b)
    | _, _ => none

/-- The stored form of a block whose bits begin at bit `at_` of the stream. -/
def storedForm (fin : Bool) (at_ : Nat) (b : List Byte) : List Bool :=
  [fin, false, false] ++ List.replicate ((5 + 7 * at_) % 8) false
    ++ (leBytes 2 b.length ++ leBytes 2 (65535 - b.length) ++ b).flatMap byteBits

/-- The smaller coded form of a block's tokens (R337), `hdr` the header of its dynamic codes, which takes part where it
is one and gives every symbol a code; none where the tokens have no coded form. DESIGN CHOICE, log 63. -/
def codedForm (fin : Bool) (hdr : List Bool) (toks : List DflTok) : Option (List Bool) :=
  let fixed := (tokensBits fixedLit fixedDist toks).map ([fin, true, false] ++ ·)
  let dyn :=
    match dynHeader hdr with
    | .ok (lit, dist, []) => (tokensBits lit dist toks).map ([fin, false, true] ++ hdr ++ ·)
    | _ => none
  match fixed, dyn with
  | some f, some d => some (if d.length < f.length then d else f)
  | some f, none => some f
  | none, d => d

/-- One block over the data `b` after `past` (R337): stored where that is no longer than the smaller coded form. -/
def dflBlock (level : Nat) (fin : Bool) (at_ : Nat) (past b : List Byte) : List Bool :=
  let stored := storedForm fin at_ b
  match codedForm fin (Config.dynHeader level past b) (dflTokens level b.length past b) with
  | some c => if stored.length ≤ c.length then stored else c
  | none => stored

/-- Blocks of at most 65,535 bytes over `b`, the last of them final where `fin` (R337); `fuel` bounds their number and
`out` holds the bits before them. DEDUCED, log 205. -/
def dflBlocks (level : Nat) (fin : Bool) : Nat → List Byte → List Byte → List Bool → List Bool
  | 0, _, _, out => out
  | fuel + 1, past, b, out =>
    let x := b.take 65535
    let rest := b.drop 65535
    let out := out ++ dflBlock level (fin && rest.isEmpty) out.length past x
    if rest.isEmpty then out else dflBlocks level fin fuel (x.reverse ++ past) rest out

/-- Bits as bytes, least significant bit first, the last filled with zeros; `fuel` bounds their number. -/
def bytesOfBits : Nat → List Bool → List Byte
  | 0, _ => []
  | _ + 1, [] => []
  | fuel + 1, l =>
    BitVec.ofNat 8 ((l.take 8).foldr (fun b n => b2n b + 2 * n) 0) :: bytesOfBits fuel (l.drop 8)

/-- The raw stream of a non-empty input at a level above 0 (R336, R337): with SYNC, an empty stored block closes it. -/
def codedStream (level : Nat) (sync : Bool) (win b : List Byte) : List Byte :=
  let l := dflBlocks level (!sync) (b.length / 65535 + 1) win.reverse b []
  let l := if sync then l ++ storedForm false l.length [] else l
  bytesOfBits (l.length / 8 + 1) l

/-- The empty stored block that ends a SYNC job (R337). -/
def syncBlock : List Byte := [0, 0, 0, 0xFF, 0xFF]

/-- Stored blocks of at most 65,535 bytes; `fin` marks the last as final. `fuel` bounds their number. -/
def storedBlocks (fin : Bool) : Nat → List Byte → List Byte
  | 0, _ => []
  | _ + 1, [] => []
  | fuel + 1, b =>
    let x := b.take 65535
    let rest := b.drop 65535
    let hdr : Byte := if fin && rest.isEmpty then 1 else 0
    hdr :: leBytes 2 x.length ++ leBytes 2 (65535 - x.length) ++ x ++ storedBlocks fin fuel rest

/-- The raw stream of level 0 (R337): stored blocks, an empty input as the rule gives it. -/
def storedStream (sync : Bool) (b : List Byte) : List Byte :=
  if sync then storedBlocks false (b.length + 1) b ++ syncBlock
  else if b.isEmpty then [0x03, 0x00]
  else storedBlocks true (b.length + 1) b

/-- The raw stream of a job (R336, R337): above level 0 the coded one, which decodes to the input after its window and
keeps the bound of R340. DESIGN CHOICE, log 63. -/
def rawStream (level : Nat) (sync : Bool) (win b : List Byte) : List Byte :=
  if level = 0 ∨ b.isEmpty then storedStream sync b
  else
    let c := codedStream level sync win b
    let o := inflate c win none sync
    if o.bytes = b ∧ o.err = none ∧ o.rest = 0 ∧ c.length ≤ b.length + 5 * ceilDiv b.length 65535 + (if sync then 5 else 0)
    then c
    else storedStream sync b

end Sys2Proof.Machine
end

