-- ==== Sys2Proof/Machine/Flow.lean ====
section
/-!
DEFINITION. Sys2Proof/Machine/Flow.lean: Rekin packets up to their acceptance: the header checks (R154, R304), flow
contexts (R157 to R159), sequence handling, gaps and broken flows (R160 to R162). What an accepted packet does is a
parameter, `accept`.
-/

namespace Sys2Proof.Machine

/-- What an accepted packet does. -/
abbrev Accept := State → RknMsg → State

/-! ### Headers -/

/-- ENCODING. -/
def RknEnc (h : RknHdr) : Nat := h.flags.toNat % 4

/-- SOS. -/
def RknSos (h : RknHdr) : Bool := bit h.flags.toNat 2

/-- KEY_PHASE. -/
def RknPhase (h : RknHdr) : Fin 2 := if bit h.flags.toNat 3 then 1 else 0

/-- PAYLOAD_LEN agrees with the length that the encapsulation delivers (R154); after EtherType 0x88B5 that length may
hold padding, and what follows the tag is ignored (R152). DEDUCED, log 52. -/
def rknLenOk (p : RknPkt) : Bool :=
  let n := (rknHdr p).len.toNat + 44
  match p.frame.encap with
  | .raw => decide (n ≤ p.data.length)
  | _ => n == p.data.length

/-- A header passes R154 and R304. DEDUCED, log 52. -/
def rknHeaderOk (p : RknPkt) : Bool :=
  let h := rknHdr p
  let bare := h.surface == 0 && h.x == 0 && h.y == 0 && h.w == 0 && h.h == 0 && RknEnc h == 0
  h.ver == 2 && RknEnc h != 3 && h.flags.toNat / 16 == 0 && h.res1 == 0 && h.res2 == 0
    && rknLenOk p
    && (match h.typ.toNat with
        | 1 => h.w != 0 && h.h != 0
        | 2 => bare && h.len == 4
        | 3 => bare && decide (8 ≤ h.len.toNat) && decide (h.len.toNat ≤ 512)
        | _ => false)

/-- A packet opened under session `i`'s key of its KEY_PHASE, none where there is no key or its tag fails (R155). -/
def State.openPkt (s : State) (i : Nat) (p : RknPkt) : Option RknMsg :=
  let h := rknHdr p
  match s.rxKey i (RknPhase h) with
  | some k => (rknOpen k p.data).map fun b => { frame := p.frame, hdr := h, body := b }
  | none => none

/-! ### Flow contexts -/

/-- STATE of flow `f`: 0 DISABLED, 1 ACTIVE, 2 GAP, 3 BROKEN. -/
def State.flowState (s : State) (f : Nat) : Nat := s.get (F.FLOW_W0_STATE f)

/-- STATE of flow `f` becomes `v`. -/
def State.setFlowState (s : State) (f v : Nat) : State := s.put (F.FLOW_W0_STATE f) v

/-- MODE of flow `f` is streaming. -/
def State.flowStreams (s : State) (f : Nat) : Bool := s.flag (F.FLOW_W0_MODE f)

/-- NEXT_SEQ of flow `f`. -/
def State.nextSeq (s : State) (f : Nat) : Nat :=
  (s.rd (A.FLOW_NEXT_SEQ_LO f)).toNat + s.get (F.FLOW_NEXT_SEQ_HI_HI f) * 2 ^ 32

/-- NEXT_SEQ of flow `f` becomes `n` modulo 2^48. -/
def State.setNextSeq (s : State) (f n : Nat) : State :=
  (s.wr (A.FLOW_NEXT_SEQ_LO f) (BitVec.ofNat 32 n)).put (F.FLOW_NEXT_SEQ_HI_HI f) (n / 2 ^ 32)

/-- The 48-bit distance of `x` from `n`. -/
def seqDist (x n : Nat) : Nat := (x + 2 ^ 48 - n % 2 ^ 48) % 2 ^ 48

/-- `x` is ahead of `n`, or equal to it. -/
def seqAhead (x n : Nat) : Bool := decide (seqDist x n < 2 ^ 47)

/-- The packets flow `f` holds. -/
def State.heldOf (s : State) (f : Nat) : List HeldPkt := s.ing.held.filter (fun h => h.flow == f)

/-- HELD of flow `f` brought up to date. -/
def State.countHeld (s : State) (f : Nat) : State := s.put (F.FLOW_W0_HELD f) (s.heldOf f).length

/-- Flow `f`'s gap timer stops. -/
def State.stopGap (s : State) (f : Nat) : State :=
  { s with ing := { s.ing with gaps := s.ing.gaps.filter (fun g => g.1 != f) } }

/-- Flow `f`'s held packets are discarded. -/
def State.dropHeld (s : State) (f : Nat) : State :=
  let s := { s with ing := { s.ing with held := s.ing.held.filter (fun h => h.flow != f) } }
  (s.stopGap f).countHeld f

/-- The history of flow `f` is emptied. -/
def State.emptyHistory (s : State) (f : Nat) : State :=
  let s := s.put (F.FLOW_HIST_LEN_LEN f) 0
  { s with ing := { s.ing with infl := s.ing.infl.map (fun x =>
      if x.resident = some f then { x with win := [], made := [] } else x) } }

/-- The DEFLATE encodings that flow `f` has carried since it was reopened are forgotten (U08). -/
def State.clearKinds (s : State) (f : Nat) : State :=
  { s with ing := { s.ing with kinds := sparseSet (fun _ => 0) s.ing.kinds f 0 } }

/-- `k` sequence numbers given up (R161, R162). -/
def State.lose (s : State) (f k : Nat) : State :=
  if k = 0 then s
  else (s.put (F.FLOW_ERRS_LOST f) (min 65535 (s.get (F.FLOW_ERRS_LOST f) + k))).set F.RKN_STATUS_LOST

/-- RKN_LAST_ERR (the Ingress error codes table). -/
def State.rknErr (s : State) (f code : Nat) : State :=
  s.wr A.RKN_LAST_ERR (BitVec.ofNat 32 (f % 65536 + code * 65536 + 2 ^ 31))

/-- The sequence number `held` packets leave off at: the one most ahead of `n`. -/
def highest (n : Nat) (held : List HeldPkt) : Option HeldPkt :=
  held.foldl (fun m h => match m with
    | some x => if seqDist x.seq.toNat n < seqDist h.seq.toNat n then some h else some x
    | none => some h) none

/-- The held packet nearest to `n`. -/
def lowest (n : Nat) (held : List HeldPkt) : Option HeldPkt :=
  held.foldl (fun m h => match m with
    | some x => if seqDist h.seq.toNat n < seqDist x.seq.toNat n then some h else some x
    | none => some h) none

/-- A streaming flow becomes BROKEN, for the reason `code` of RKN_FLOW: everything through its highest held packet is
given up (R161, R167). DEDUCED, log 56. -/
def State.breakFlow (s : State) (f code : Nat) : State :=
  let n := s.nextSeq f
  let s := match highest n (s.heldOf f) with
    | some h =>
      let d := seqDist h.seq.toNat n + 1
      ((s.lose f d).setNextSeq f (n + d)).dropHeld f
    | none => s
  ((s.setFlowState f 3).set F.RKN_STATUS_FLOW_BROKEN).sqsEvent 0x40 code f

/-! ### Acceptance -/

/-- The descriptor queue has a credit for a descriptor (R116, R165). -/
def State.queueRoom (s : State) : Bool := decide (s.ing.queue.length < 1024)

/-- Packet `p` of flow `f` is accepted (R160): counted, its FRAME kept, and handed on. -/
def State.acceptPkt (accept : Accept) (s : State) (f : Nat) (p : RknMsg) : State :=
  let s := s.setNextSeq f (p.hdr.seq.toNat + 1)
  let s := (s.wrapReg (A.FLOW_ACCEPTED f)).wr (A.FLOW_LAST_FRAME f) p.hdr.frame
  accept s p

/-- Held packets whose SEQ equals NEXT_SEQ are accepted in turn, each with a credit of the descriptor queue, without which
it stays held (R116); with none held any more the flow is ACTIVE. `fuel` bounds their number, which is at most 8.
DEDUCED, log 59. -/
def State.acceptHeld (accept : Accept) (f : Nat) : Nat → State → State
  | 0, s => s.countHeld f
  | fuel + 1, s =>
    match (s.heldOf f).find? (fun h => h.seq.toNat == s.nextSeq f) with
    | some h =>
      if s.queueRoom then
        let s := { s with ing := { s.ing with held := s.ing.held.filter (fun x => !(x.flow == f && x.seq == h.seq)) } }
        State.acceptHeld accept f fuel (State.acceptPkt accept s f h.pkt)
      else s.countHeld f
    | none =>
      let s := s.countHeld f
      if (s.heldOf f).isEmpty then
        let s := s.stopGap f
        if s.flowState f = 2 then s.setFlowState f 1 else s
      else s

/-- More than a flow holds. -/
def heldFuel : Nat := 9

/-- Flow `f`'s gap timer starts anew. DEDUCED, log 56. -/
def State.startGap (s : State) (f : Nat) : State :=
  let s := s.stopGap f
  { s with ing := { s.ing with gaps := (f, s.wt.cycle) :: s.ing.gaps } }

/-- Flow `f`'s gap expires (R161). DEDUCED, log 56. -/
def State.expireGap (accept : Accept) (s : State) (f : Nat) : State :=
  let n := s.nextSeq f
  let s := s.rknErr f 0x04
  if s.flowStreams f then s.breakFlow f 1
  else
    match lowest n (s.heldOf f) with
    | some h =>
      let d := seqDist h.seq.toNat n
      let s := State.acceptHeld accept f heldFuel ((s.lose f d).setNextSeq f (n + d))
      if (s.heldOf f).isEmpty then s else s.startGap f
    | none => s.stopGap f

/-- A packet verifies under session `i`'s key `ph`: the first one under a new key starts the second after which the
old one is erased (R432). DEDUCED, log 57. -/
def State.verified (s : State) (i : Nat) (ph : Fin 2) : State :=
  let x := s.session i
  if ph = x.phase ∧ (x.keys[1 - ph]).isSome ∧ x.eraseAt.isNone then
    s.setSession i { x with eraseAt := some (s.wt.cycle + cyclesPerSec) }
  else s

/-- TYPE `typ` is allowed in a flow of KIND `kind` (the Rekin packet types table). -/
def typeAllowed (typ kind : Nat) : Bool :=
  match typ, kind with
  | 1, 0 => true | 1, 1 => true | 1, 2 => true | 2, 0 => true | 2, 1 => true | 3, 3 => true
  | _, _ => false

/-- Packet `p` of flow `f` is held. -/
def State.hold (s : State) (f : Nat) (p : RknMsg) : State :=
  { s with ing := { s.ing with held := s.ing.held ++ [{ flow := f, seq := p.hdr.seq, pkt := p }] } }

/-- The rows of the Sequence handling table from the third on, for a packet whose tag has verified. One whose turn has come
and for which the held packets have left no credit of the descriptor queue waits held (R116, R165). -/
def State.sequence (accept : Accept) (f : Nat) (p : RknMsg) : Nat → State → State
  | 0, s => s
  | again + 1, s =>
    let x := p.hdr.seq.toNat
    let n := s.nextSeq f
    if !seqAhead x n || (s.heldOf f).any (fun h => h.seq == p.hdr.seq) then s.countReg A.RKN_CNT_DUP
    else if s.flowState f = 3 then
      if RknSos p.hdr then
        let s := ((s.emptyHistory f).clearKinds f).setFlowState f 1
        State.acceptPkt accept s f p
      else (s.lose f 1).rknErr f 0x05
    else if x = n ∧ s.queueRoom then State.acceptHeld accept f heldFuel (State.acceptPkt accept s f p)
    else if x = n then (s.hold f p).countHeld f
    else if (s.heldOf f).length < 8 then
      let s := ((s.hold f p).countHeld f).setFlowState f 2
      if s.ing.gaps.any (fun g => g.1 == f) then s else s.startGap f
    else State.sequence accept f p again (State.expireGap accept s f)

/-- The context of flow `f` reads with a parity error: it is rewritten with STATE = 0 (R477). Which of its words failed
is free. -/
def State.contextParity (s : State) (f : Nat) : State :=
  let (x, s) := s.draw 2
  ((s.parityErr 1 (4 * f + x)).dropHeld f).setFlowState f 0

/-- A packet that passed R154 is handled against its flow context (R155, R160, R163, R477). DEDUCED, log 51. -/
def State.handlePkt (accept : Accept) (s : State) (p : RknPkt) : State :=
  let h := rknHdr p
  let f := h.flow.toNat
  let s := if p.perr then s.contextParity f else s
  let kind := s.get (F.FLOW_W0_KIND f)
  if s.power.restoring ∨ s.flowState f = 0 ∨ ¬ typeAllowed h.typ.toNat kind ∨ (RknEnc h = 2 ∧ 4096 ≤ f) then
    s.countReg A.RKN_CNT_NOFLOW
  else if !seqAhead h.seq.toNat (s.nextSeq f) || (s.heldOf f).any (fun x => x.seq == h.seq) then
    s.countReg A.RKN_CNT_DUP
  else
    let i := s.flowSession f
    match s.openPkt i p with
    | some m => State.sequence accept f m 10 (s.verified i (RknPhase h))
    | none =>
      let s := (s.count (F.FLOW_ERRS_AUTH_FAIL f)).countReg A.RKN_CNT_AUTH
      (s.set F.RKN_STATUS_AUTH_FAIL).rknErr f 0x01

/-! ### The ingress packet buffer -/

/-- The scene packets that wait in the ingress packet buffer are handled in order of arrival, as long as the descriptor
queue has a credit (R116, R118, R165). `fuel` is at least their number. DEDUCED, log 59. -/
def State.pump (accept : Accept) : Nat → State → State
  | 0, s => s
  | fuel + 1, s =>
    match s.ing.buffer with
    | [] => s
    | p :: t =>
      if s.queueRoom then
        State.pump accept fuel (State.handlePkt accept { s with ing := { s.ing with buffer := t } } p)
      else s

/-- Flow `f` holds a packet whose turn has come, which waits for a credit alone. -/
def State.stalled (s : State) (f : Nat) : Bool := (s.heldOf f).any (fun h => h.seq.toNat == s.nextSeq f)

/-- The descriptor queue has got a credit: packets that were held for want of one are accepted, then those behind them.
DEDUCED, log 59. -/
def State.resume (accept : Accept) (s : State) : State :=
  let s := forAll (s.ing.held.map (·.flow)) s fun s f =>
    if s.stalled f && s.queueRoom then State.acceptHeld accept f heldFuel s else s
  State.pump accept s.ing.buffer.length s

/-- A Rekin packet arrives: its frame, its header, its flow; a scene packet goes through the ingress packet buffer. In Stay
scene ports hear nothing of it (R502). -/
def State.rknArrives (accept : Accept) (s : State) (p : RknPkt) : State :=
  let small := (rknHdr p).typ == 3
  let (t, s) := s.rknTake p.frame small
  match t with
  | .drop => s
  | .take =>
    if s.inStay then s
    else if !rknHeaderOk p then s.countReg A.RKN_CNT_BADHDR
    else if small then State.handlePkt accept s p
    else State.pump accept (s.ing.buffer.length + 1) { s with ing := { s.ing with buffer := s.ing.buffer ++ [p] } }

/-- GAP_WAIT_US have passed since flow `f`'s gap timer started, and it is a packet that is missing, not a credit (R161). -/
def State.gapDue (s : State) (f : Nat) : Bool :=
  !s.stalled f && match s.ing.gaps.find? (fun g => g.1 == f) with
  | some g => s.passedUs g.2 (s.get F.RKN_CFG_GAP_WAIT_US)
  | none => false

/-! ### Writes to a flow context -/

/-- A write of word 0 of flow `f`'s context, its configuration being `locked` or not (R158, R159, R429, R515, R516).
DEDUCED, log 53. -/
def State.writeFlow (s : State) (m : Master) (f : Nat) (v : Word) (locked : Bool) : State :=
  if f = 0xFFFF ∧ m ≠ .rot then s.set F.RKN_STATUS_STALE_WRITE
  else
    let st := s.flowState f
    let s := if !locked then
        let s := s.put (F.FLOW_W0_MODE f) (field v 4 1)
        (s.put (F.FLOW_W0_KIND f) (field v 5 2)).put (F.FLOW_W0_SESSION f) (field v 8 8)
      else s.set F.RKN_STATUS_STALE_WRITE
    match field v 0 2 with
    | 0 => if st = 0 then s else (s.dropHeld f).setFlowState f 0
    | 1 =>
      if st = 0 then
        if s.flowStreams f ∧ 4096 ≤ f then s.set F.RKN_STATUS_CFG_BAD
        else (s.clearKinds f).setFlowState f 1
      else if st = 1 then s
      else (((s.dropHeld f).emptyHistory f).clearKinds f).setFlowState f 1
    | _ => s

/-- A word of the register space is word 0 of a flow context. -/
def isFlowWord (a : Nat) : Bool := decide (0x600000 ≤ a) && decide (a < 0x800000) && a % 32 == 0

/-- Some streaming flow is not DISABLED (the Arena lock). -/
def State.streamOpen (s : State) : Bool :=
  s.regs.any (fun e => isFlowWord e.1 && decide (field e.2 0 2 ≠ 0) && field e.2 4 1 == 1)

/-- The flows with history whose window lies in quadrant `n` (R159). -/
def State.arenaFlows (s : State) (n : QuadId) : List Nat :=
  (s.regs.filter (fun e => decide (0x600000 ≤ e.1) && decide (e.1 < 0x620000) && e.1 % 32 == 16
    && (e.1 - 0x600000) / 32 % 4 == n.val)).map (fun e => (e.1 - 0x600000) / 32)

/-- A write of RKN_ARENA_BASEn, `locked` or not (R158, R515, R516). -/
def State.writeArena (s : State) (n : QuadId) (v : Word) (locked : Bool) : State :=
  if locked then s.set F.RKN_STATUS_STALE_WRITE
  else forAll (s.arenaFlows n) (s.put (F.RKN_ARENA_BASE_BASE n) (field v 15 17)) fun s f => s.emptyHistory f

/-- ARENA_BASE_WRITE. -/
def execArenaBaseWrite (n : QuadId) (v : Word) (s : State) : Out := .next (s.writeArena n v (s.streamOpen || s.atCycleStart.streamOpen))

end Sys2Proof.Machine
end

