-- ==== Sys2Proof/Machine/Ingress.lean ====
section
/-!
DEFINITION. Sys2Proof/Machine/Ingress.lean: accepted PATCH and FENCE packets (R163 to R178): targets, inflate
descriptors, the inflaters and their history windows, writing a rectangle, and the completion of fences.
-/

namespace Sys2Proof.Machine

/-! ### Descriptors and inflaters -/

/-- Inflater `i`. -/
def State.inflater (s : State) (i : Fin 4) : Inflater := s.ing.infl[i]

/-- Inflater `i` replaced. -/
def State.setInflater (s : State) (i : Fin 4) (x : Inflater) : State :=
  { s with ing := { s.ing with infl := s.ing.infl.set i x } }

/-- Every descriptor that is not complete. -/
def State.descs (s : State) : List InflDesc := s.ing.queue ++ (fins 4).filterMap (fun i => (s.inflater i).cur)

/-- The plane that a descriptor's pixels go to. -/
def InflDesc.plane (d : InflDesc) : Option (Fin 16) :=
  match d.dest with | .colour p _ => some p | .relief p _ => some p | _ => none

/-- BUSY of plane `p`: patches to it dispatched and not complete. -/
def State.planeBusyNow (s : State) (p : Fin 16) : State :=
  s.put (F.SST_PLANE_STATUS_BUSY p) (b2n (s.descs.any (fun d => d.plane == some p)))

/-- The inflater that flow `f`'s bound packets go to. -/
def boundTo (f : Nat) : Fin 4 := ⟨f % 4, Nat.mod_lt _ (by decide)⟩

/-- A program inflate job waits that inflater `i` may take: its eighth word is in the queue, a completion entry is
free (R332, R346). -/
def State.jobFor (s : State) (i : Fin 4) : Bool :=
  let running := (fins 4).filter (fun j => (s.dfl.infl[j]).isSome)
  let deflating := match s.dfl.defl with
    | some j => (match j.by_ with | .cam _ _ _ => false | _ => true)
    | none => false
  decide (s.dfl.cpl.length + running.length + b2n deflating < 64)
    && s.dfl.queue.any (fun j =>
      let w := j.words.getD 0 0
      field w 0 1 == 0 && (field w 16 3 == i.val || decide (4 ≤ field w 16 3)))

/-- A descriptor needs its flow's history window (R163). -/
def InflDesc.needsWindow (d : InflDesc) : Bool := d.enc == 2

/-- The first descriptor of a queue that inflater `i` takes, and the queue without it. -/
def takeDesc (i : Fin 4) : List InflDesc → Option (InflDesc × List InflDesc)
  | [] => none
  | d :: t =>
    if d.bound = none ∨ d.bound = some i then some (d, t)
    else match takeDesc i t with | some (x, r) => some (x, d :: r) | none => none

/-- An idle inflater takes its next descriptor, but where a program job's turn has come (R165, R332). -/
def State.feedOne (s : State) (i : Fin 4) : State :=
  let x := s.inflater i
  let every := s.get F.DFL_CFG_PROG_EVERY
  if x.cur.isSome ∨ (s.dfl.infl[i]).isSome ∨ (0 < every ∧ every ≤ x.streak ∧ s.jobFor i) then s
  else
    match takeDesc i s.ing.queue with
    | none => s
    | some (d, t) =>
      let s : State := { s with ing := { s.ing with queue := t } }
      let ready := !d.needsWindow || x.resident == some d.flow
      (s.setInflater i { x with cur := some d, ready := ready, streak := x.streak + 1 }).put
        ⟨A.DFL_STATUS, i.val, 1⟩ 1

/-- Every idle inflater takes its next descriptor. Of several idle ones the lowest-numbered takes a descriptor bound to
none: R165 does not say which. DESIGN CHOICE, log 201. -/
def State.feed (s : State) : State := forAll (fins 4) s fun s i => s.feedOne i

/-! ### Targets -/

/-- Where an accepted PATCH goes, with the target's descriptor as it stands (R173). -/
def State.patchTarget (s : State) (p : RknMsg) : PatchTo :=
  let f := p.hdr.flow.toNat
  let kind := s.get (F.FLOW_W0_KIND f)
  let n := p.hdr.surface.toNat
  let mask := (s.rd (A.FLOW_SURF_MASK f)).toNat
  let (x, y, w, h) := (p.hdr.x.toNat, p.hdr.y.toNat, p.hdr.w.toNat, p.hdr.h.toNat)
  if kind = 2 then
    if hn : n < 32 then
      let d : Fin 32 := ⟨n, hn⟩
      match s.surfBpp d with
      | none => .nowhere
      | some b =>
        let base := s.get (F.RKN_SURF_BASE_BASE d) * 64
        let pitch := s.get (F.RKN_SURF_FMT_PITCH d) * 64
        let q := s.surfQuad d
        if bit mask n ∧ x + w ≤ s.get (F.RKN_SURF_SIZE_WIDTH d) ∧ y + h ≤ s.get (F.RKN_SURF_SIZE_HEIGHT d)
            ∧ base + (y + h - 1) * pitch + (x + w) * b ≤ s.dramSize q then .dram d q base pitch b
        else .nowhere
    else .nowhere
  else
    if hn : n < 16 then
      let pl : Fin 16 := ⟨n, hn⟩
      let d := (s.plane pl).live
      if bit mask n ∧ s.planeOk pl ∧ x + w ≤ d.width ∧ y + h ≤ d.height ∧ ¬ (kind = 1 ∧ (x % 2 = 1 ∨ w % 2 = 1)) then
        if kind = 1 then .relief pl d else .colour pl d
      else .nowhere
    else .nowhere

/-- Bytes of a descriptor's rectangle; none where it goes nowhere. DEDUCED, log 60. -/
def InflDesc.size (d : InflDesc) : Option Nat :=
  match d.dest with
  | .nowhere => none
  | .colour _ _ => some (4 * d.w * d.h)
  | .relief _ _ => some (d.w / 2 * d.h)
  | .dram _ _ _ _ b => some (b * d.w * d.h)

/-! ### Accepted packets -/

/-- The flow carries a payload of a DEFLATE encoding (U08). DEDUCED, log 54. -/
def State.noteKind (s : State) (f enc : Nat) : State :=
  if enc = 1 ∨ enc = 2 then
    let k := sparseGet (fun _ => 0) s.ing.kinds f
    { s with ing := { s.ing with kinds := sparseSet (fun _ => 0) s.ing.kinds f (k ||| enc) } }
  else s

/-- Case U08 holds for flow `f`. DEDUCED, log 54. -/
def State.mixed (s : State) (f : Nat) : Bool := sparseGet (fun _ => 0) s.ing.kinds f == 3

/-- A descriptor's rectangle on a DRAM surface of quadrant `n` overlaps bank `b`. -/
def State.descHitsBank (s : State) (n : QuadId) (b : Nat) (d : InflDesc) : Bool :=
  match d.dest with
  | .dram _ m base pitch bpp =>
    m == n && (List.range d.h).any fun r =>
      let a := base + (d.y + r) * pitch + d.x * bpp
      s.hitsBank n b a (a + d.w * bpp)
  | _ => false

/-- A PATCH to a DRAM surface is dispatched: the latch of this core cycle comes after it (R233). -/
def State.mapDispatch (s : State) (d : InflDesc) : State :=
  match d.dest with
  | .dram _ n _ _ _ =>
    match s.flippedTo n with
    | some x => if s.descHitsBank n (s.get (F.MAP_STATUS_LIVE_BANK n)) d then s.mapUnflip n x else s
    | none => s
  | _ => s

/-- An accepted PATCH (R165, R172, R173): dispatched, or its pixels discarded. DEDUCED, log 60. -/
def State.acceptPatch (s : State) (p : RknMsg) : State :=
  let h := p.hdr
  let f := h.flow.toNat
  let enc := RknEnc h
  let s := (if RknSos h then s.clearKinds f else s).noteKind f enc
  let dest := s.patchTarget p
  let streams := s.flowStreams f
  let d : InflDesc :=
    { flow := f, ord := s.ing.ord, mode := streams, enc := enc, sos := RknSos h, dest := dest, x := h.x.toNat
      y := h.y.toNat, w := h.w.toNat, h := h.h.toNat, bytes := p.body
      bound := if streams ∨ enc = 2 then some (boundTo f) else none }
  let push (s : State) : State :=
    ({ s with ing := { s.ing with ord := s.ing.ord + 1, queue := s.ing.queue ++ [d] } }).feed
  match dest with
  | .nowhere =>
    let s := ((s.countReg A.RKN_CNT_PATCH_BAD).set F.RKN_STATUS_PATCH_BAD).rknErr f 0x02
    if enc = 2 then push s else s
  | .dram _ _ _ _ _ => push (s.mapDispatch d)
  | .colour pl _ => push ((s.set (F.SST_PLANE_STATUS_BUSY pl)).latePatch pl (s.resolveFrame h.frame))
  | .relief pl _ => push ((s.set (F.SST_PLANE_STATUS_BUSY pl)).latePatch pl (s.resolveFrame h.frame))

/-- An accepted FENCE (R178): it waits for its flow's earlier packets; one with SOS ends U08 as any such packet does (R163). -/
def State.acceptFence (s : State) (p : RknMsg) : State :=
  let s := if RknSos p.hdr then s.clearKinds p.hdr.flow.toNat else s
  let x : FencePkt :=
    { flow := p.hdr.flow.toNat, ord := s.ing.ord, frame := s.resolveFrame p.hdr.frame
      mask := BitVec.ofNat 16 (beNat p.body) }
  { s with ing := { s.ing with ord := s.ing.ord + 1, fences := s.ing.fences ++ [x] } }

/-- What an accepted PATCH or FENCE packet does. -/
def acceptScene : Accept := fun s p => if p.hdr.typ = 2 then s.acceptFence p else s.acceptPatch p

/-- PATCH: a Rekin packet of any TYPE but FENCE and MGMT arrives. DEDUCED, log 59. -/
def execPatch (p : RknPkt) (s : State) : Out :=
  if (rknHdr p).typ = 2 ∨ (rknHdr p).typ = 3 then .next s else .next (State.rknArrives acceptScene s p)

/-- FENCE_PACKET: a Rekin packet of TYPE FENCE arrives. -/
def execFencePacket (p : RknPkt) (s : State) : Out :=
  if (rknHdr p).typ ≠ 2 then .next s else .next (State.rknArrives acceptScene s p)

/-- Every idle inflater takes its next descriptor, and packets that waited for its credit follow (R116, R165). -/
def State.feedOn (s : State) : State := State.resume acceptScene s.feed

/-! ### Fences -/

/-- FENCE_COMPLETE: the oldest FENCE of flow `f` completes once every earlier packet of the flow is written or
discarded, and counts for the planes its mask and SURF_MASK name (R178, R179). -/
def execFenceComplete (f : BitVec 16) (s : State) : Out :=
  match s.ing.fences.find? (fun x => x.flow == f.toNat) with
  | none => .next s
  | some x =>
    if s.descs.any (fun d => d.flow == x.flow && decide (d.ord < x.ord)) then .next s
    else
      let s : State := { s with ing := { s.ing with fences := s.ing.fences.filter (fun y => y.ord != x.ord) } }
      let mask := (s.rd (A.FLOW_SURF_MASK x.flow)).toNat &&& x.mask.toNat
      .next (forAll (allPlanes.filter (fun p => bit mask p.val)) s fun s p => s.countFence p x.frame)

/-! ### History windows -/

/-- The byte address of flow `f`'s history window in its quadrant's DRAM (R159). -/
def State.windowAt (s : State) (f : Nat) : Nat :=
  s.get (F.RKN_ARENA_BASE_BASE (f % 4)) * 32768 + 32768 * (f / 4)

/-- Flow `f`'s place in its window. DESIGN CHOICE, log 58. -/
def State.histPos (s : State) (f : Nat) : Nat := sparseGet (fun _ => 0) s.ing.hpos f

/-- Bytes written to a window from place `pos` on, around its end (the window's own layout is DESIGN CHOICE).
DESIGN CHOICE, log 58. -/
def State.windowWrite (s : State) (f pos : Nat) (b : List Byte) : State :=
  let n := boundTo f
  let pos := pos % 32768
  let k := min b.length (32768 - pos)
  (s.writeDram n (s.windowAt f + pos) (b.take k)).writeDram n (s.windowAt f) (b.drop k)

/-- The last `len` bytes of a window before place `pos`. DESIGN CHOICE, log 58. -/
def State.windowRead (s : State) (f pos len : Nat) : List Byte × State :=
  let n := boundTo f
  let first := (pos + 32768 - len % 32768) % 32768
  let k := min len (32768 - first)
  let (a, _, s) := s.readBytes n (s.windowAt f + first) k
  let (b, _, s) := s.readBytes n (s.windowAt f) (len - k)
  (a ++ b, s)

/-- The last `n` bytes of a list. -/
def lastBytes (n : Nat) (l : List Byte) : List Byte := l.drop (l.length - n)

/-- Inflater `i` writes back what its resident flow produced since its window was loaded, and keeps no window (R166). -/
def State.writeBack (s : State) (i : Fin 4) : State :=
  let x := s.inflater i
  let s := match x.resident with
    | some f => s.windowWrite f (s.histPos f + 32768 - x.made.length) x.made
    | none => s
  s.setInflater i { s.inflater i with resident := none, win := [], made := [] }

/-- Inflater `i` writes back what its resident flow produced and loads flow `f`'s window (R166). -/
def State.switchWindow (s : State) (i : Fin 4) (f : Nat) : State :=
  let (w, s) := (s.writeBack i).windowRead f (s.histPos f) (s.get (F.FLOW_HIST_LEN_LEN f))
  s.setInflater i { s.inflater i with resident := some f, win := w }

/-- The first descriptor of the queue that is bound to inflater `i`, which it prepares while it works (R166). -/
def State.nextBound (s : State) (i : Fin 4) : Option InflDesc := s.ing.queue.find? (fun d => d.bound == some i)

/-- HISTORY_WINDOW_SWITCH: inflater `i` loads the window that its descriptor needs, and decoding then starts (R166); or,
while it runs a program job, the window that its next bound descriptor needs (R333). DRAM that is not READY lets nothing
come about. -/
def execHistoryWindowSwitch (i : Fin 4) (s : State) : Out :=
  let x := s.inflater i
  match x.cur with
  | some d =>
    if d.needsWindow ∧ ¬ x.ready ∧ s.dramServes (boundTo d.flow) then
      let s := s.switchWindow i d.flow
      .next (s.setInflater i { s.inflater i with ready := true })
    else .next s
  | none =>
    match (if (s.dfl.infl[i]).isSome then s.nextBound i else none) with
    | some d =>
      if d.needsWindow ∧ x.resident ≠ some d.flow ∧ s.dramServes (boundTo d.flow) then .next (s.switchWindow i d.flow)
      else .next s
    | none => .next s

/-! ### Decoding and writing -/

/-- What a descriptor's payload decodes to; inflater `i` holds its history (R164, R174). -/
def State.decode (s : State) (i : Fin 4) (d : InflDesc) : InflOut :=
  let limit := d.size
  if d.enc = 0 then
    match limit with
    | some n => { bytes := d.bytes.take n, err := if n < d.bytes.length then some 0x14 else none, rest := 0 }
    | none => { bytes := d.bytes, err := none, rest := 0 }
  else if d.enc = 1 then inflate d.bytes [] limit false
  else inflate d.bytes (if d.sos then [] else (s.inflater i).win) limit true

/-- What a descriptor's payload decodes to, free bytes and a free error in case U08. DEDUCED, log 54. -/
def State.decodeOr (s : State) (i : Fin 4) (d : InflDesc) : InflOut × State :=
  if s.mixed d.flow ∧ d.enc ≠ 0 then
    let (n, s) := s.draw 32
    let (b, s) := s.freeBytes (match d.size with | some k => n % (k + 1) | none => n % 32769)
    let (e, s) := s.draw 1
    let (c, s) := s.draw 8
    ({ bytes := b, err := if e = 1 then some (0x10 + c % 7) else none, rest := 0 }, s)
  else (s.decode i d, s)

/-- Rows of a rectangle written to a DRAM surface (R175). -/
def State.surfRows (s : State) (n : QuadId) (at_ pitch rowLen : Nat) (b : List Byte) : Nat → State
  | 0 => s
  | k + 1 => (s.writeDram n at_ (b.take rowLen)).surfRows n (at_ + pitch) pitch rowLen (b.drop rowLen) k

/-- Rows `from_` to `to_` - 1 of a descriptor's rectangle written, as far as the bytes reach, plane rows into the back
bank of this moment (R171). DEDUCED, log 43. -/
def State.writeRect (s : State) (d : InflDesc) (b : List Byte) (from_ to_ : Nat) : State :=
  match d.dest with
  | .nowhere => s
  | .colour p x =>
    s.planeRows x false (1 - s.front p) d.x (d.y + from_) d.w (b.drop (from_ * 4 * d.w)) (to_ - from_)
  | .relief p x =>
    if x.relief then
      s.planeRows x true (1 - s.front p) d.x (d.y + from_) d.w (b.drop (from_ * (d.w / 2))) (to_ - from_)
    else s
  | .dram _ n base pitch bpp =>
    s.surfRows n (base + (d.y + from_) * pitch + d.x * bpp) pitch (d.w * bpp) (b.drop (from_ * d.w * bpp)) (to_ - from_)

/-- Two descriptors of one flow write overlapping rectangles of one surface (R176). -/
def InflDesc.overlaps (a b : InflDesc) : Bool :=
  let same := match a.dest, b.dest with
    | .colour p _, .colour q _ => p == q
    | .relief p _, .relief q _ => p == q
    | .dram d _ _ _ _, .dram e _ _ _ _ => d == e
    | _, _ => false
  same && decide (a.x < b.x + b.w) && decide (b.x < a.x + a.w) && decide (a.y < b.y + b.h) && decide (b.y < a.y + a.h)

/-- A descriptor waits for an earlier one of its flow: an overlapping patch, or any packet bound to the same inflater
(R165, R176). -/
def State.descBlocked (s : State) (d : InflDesc) : Bool :=
  s.descs.any (fun e => e.flow == d.flow && decide (e.ord < d.ord) && (e.overlaps d || (e.bound.isSome && d.bound.isSome)))

/-- The bytes that a streaming payload has added to its flow's history. -/
def State.addHistory (s : State) (i : Fin 4) (d : InflDesc) (b : List Byte) : State :=
  if d.enc = 2 then
    let x := s.inflater i
    let w := lastBytes 32768 ((if d.sos then [] else x.win) ++ b)
    let pos := (s.histPos d.flow + b.length) % 32768
    let s := s.setInflater i { x with win := w, made := lastBytes 32768 (x.made ++ b) }
    let s := s.put (F.FLOW_HIST_LEN_LEN d.flow) w.length
    { s with ing := { s.ing with hpos := sparseSet (fun _ => 0) s.ing.hpos d.flow pos } }
  else s

/-- A decoder error or a short payload recorded (R167, R174): of a payload that a decoder error cuts short the error alone.
The MODE is that at the packet's acceptance. A MODE 1 flow it makes BROKEN keeps its descriptors that wait, and they are
decoded and written in their turn. DESIGN CHOICE, log 202. -/
def State.decodeEnd (s : State) (d : InflDesc) (o : InflOut) : State :=
  match o.err with
  | some e =>
    let s := (s.set F.RKN_STATUS_INFLATE_ERR).rknErr d.flow e
    if d.mode ∧ (s.flowState d.flow = 1 ∨ s.flowState d.flow = 2) then s.breakFlow d.flow 2 else s
  | none =>
    match d.size with
    | some n => if o.bytes.length < n then (s.set F.RKN_STATUS_PATCH_BAD).rknErr d.flow 0x03 else s
    | none => s

/-- The DRAM a descriptor's pixels go to is READY. -/
def State.descReady (s : State) (d : InflDesc) : Bool :=
  match d.dest with | .dram _ n _ _ _ => s.dramServes n | _ => true

/-- PATCH_COMPLETE: inflater `i` finishes its payload: the rest of the rectangle is written, the history extended,
errors recorded, and the next descriptor taken (R167, R171, R174, R176). DEDUCED, log 61. -/
def execPatchComplete (i : Fin 4) (s : State) : Out :=
  let x := s.inflater i
  match x.cur with
  | some d =>
    if x.ready ∧ ¬ s.descBlocked d ∧ s.descReady d then
      let (o, s) := s.decodeOr i d
      let s := s.writeRect d o.bytes d.rows d.h
      let s := (s.addHistory i d o.bytes).decodeEnd d o
      let s := s.setIf (o.err.isNone && decide (0 < o.rest)) F.DFL_STATUS_TRAILING
      let s := s.setInflater i { s.inflater i with cur := none, ready := false }
      let s := s.put ⟨A.DFL_STATUS, i.val, 1⟩ 0
      let s := match d.plane with | some p => s.planeBusyNow p | none => s
      .next s.feedOn
    else .next s
  | none => .next s

/-! ### Flips -/

/-- A patch that is being decoded when plane `p` flips (R171): the rows it has written so far, a free number, go to
the bank that becomes front. Answers whether the flip tears it. DEDUCED, log 61. -/
def State.tearPatch (s : State) (p : Fin 16) (i : Fin 4) : Bool × State :=
  let x := s.inflater i
  match x.cur with
  | some d =>
    if x.ready ∧ d.plane = some p ∧ ¬ s.descBlocked d ∧ d.rows < d.h then
      let (r, s) := s.draw 16
      let r := d.rows + r % (d.h - d.rows + 1)
      let (o, s) := s.decodeOr i d
      let s := s.writeRect d o.bytes d.rows r
      let s := s.setInflater i { s.inflater i with cur := some { d with rows := r } }
      (decide (d.rows < r) && decide (r < d.h), s)
    else (false, s)
  | none => (false, s)

/-- Plane `p` flips at the latch for frame `k` (R171, R180); a block operation that writes the plane is torn as a patch
is (R349), and so is a strip (R320). Where a later fence has replaced the one it serves, that fence stays (R21). -/
def State.flipPlane (s : State) (p : Fin 16) (k : Int) : State :=
  let (torn, s) := (fins 4).foldl (fun (t, s) i =>
    let (b, s) := s.tearPatch p i
    (t || b, s)) (false, s)
  let drawn := s.blt.toList.any fun o => match o with
    | some o => (match o.dst with | .plane q _ _ _ => q == p | .dram _ _ => false)
    | none => false
  let (split, s) := (fins 4).foldl (fun (t, s) q =>
    let (b, s) := s.tearStrip p q
    (t || b, s)) (false, s)
  let s := s.setIf (torn || drawn || split) (F.SST_PLANE_STATUS_TORN p)
  let s := s.put (F.SST_PLANE_STATUS_FRONT p) (1 - s.front p)
  let s := if (s.plane p).due then s else s.clr (F.SST_PLANE_STATUS_PENDING p)
  (s.wr (A.SST_PLANE_FLIP_FRAME p) (BitVec.ofInt 32 k)).setPlane p { s.plane p with flipped := some k, due := false }

end Sys2Proof.Machine
end

