-- ==== Sys2Proof/Machine/Deflate.lean ====
section
/-!
DEFINITION. Sys2Proof/Machine/Deflate.lean: the DEFLATE engine (R326 to R346): job descriptors and their queue, the
units that run jobs, deflate streams and their wrapper, output buffers and chains, completion entries.
-/

namespace Sys2Proof.Machine

/-! ### Jobs -/

/-- Word `i` of a job. -/
def DflJob.word (j : DflJob) (i : Nat) : Word := j.words.getD i 0
/-- A field of a job's word 0. -/
def DflJob.f0 (j : DflJob) (lo w : Nat) : Nat := field (j.word 0) lo w
/-- The job deflates. -/
def DflJob.isDeflate (j : DflJob) : Bool := j.f0 0 1 == 1
/-- LEVEL. -/
def DflJob.level (j : DflJob) : Nat := j.f0 4 4
/-- A program's job. -/
def DflJob.program (j : DflJob) : Bool := match j.by_ with | .cam _ _ _ => false | _ => true
/-- SRC_QUAD. -/
def DflJob.srcQuad (j : DflJob) : QuadId := ⟨j.f0 12 2 % 4, Nat.mod_lt _ (by decide)⟩
/-- DST_QUAD. -/
def DflJob.dstQuad (j : DflJob) : QuadId := ⟨j.f0 14 2 % 4, Nat.mod_lt _ (by decide)⟩

/-- A job that completes with DESC_BAD (R331). -/
def DflJob.descBad (j : DflJob) : Bool :=
  let engine := j.f0 16 3
  j.f0 1 3 != 0 || j.f0 19 5 != 0 || j.word 7 != 0 || decide (9 < j.level) || decide (5 ≤ engine)
    || (j.isDeflate && (engine != 0 || j.word 6 != 0))
    || (!j.isDeflate && (j.level != 0 || j.f0 8 3 != 0 || j.word 2 == 0))
    || (j.word 5).toNat % 16 != 0

/-- The program jobs that hold a credit: queued or running (R330). -/
def State.programJobs (s : State) : Nat :=
  ((s.dfl.queue ++ s.dfl.infl.toList.filterMap id ++ s.dfl.defl.toList).filter DflJob.program).length

/-- The camera jobs that hold an entry. -/
def State.cameraJobs (s : State) : Nat :=
  ((s.dfl.queue ++ s.dfl.defl.toList).filter (fun j => !j.program)).length

/-- DFL_JOB_CREDIT.WORDS (R330). -/
def State.jobCredit (s : State) : Nat := 384 - 8 * s.programJobs

/-- Case U01 is over once the queue has been empty with no push pending. -/
def State.overEnds (s : State) : State :=
  if s.programJobs = 0 ∧ s.dfl.stageSqs.isEmpty ∧ s.dfl.stageHost.isEmpty then
    { s with dfl := { s.dfl with past := false } }
  else s

/-- The order of jobs that reach the queue in one core cycle: camera jobs, SQS's, the host's (R68, R334). -/
def JobBy.place : JobBy → Nat
  | .cam _ _ _ => 0
  | .sqs => 1
  | .host => 2

/-- The job queue with job `j` in its place behind what reached it earlier (R330, R334). -/
def State.enqueue (s : State) (j : DflJob) : List DflJob :=
  let behind (x : DflJob) : Bool := x.born == some s.wt.cycle && decide (j.by_.place < x.by_.place)
  s.dfl.queue.takeWhile (fun x => !behind x) ++ j :: s.dfl.queue.dropWhile fun x => !behind x

/-- A word joins the staging bank of SQS or of the host; the eighth completes a job, which enters the queue (R329). -/
def State.stageWord (s : State) (sqs : Bool) (v : Word) : State :=
  let d := s.dfl
  let bank := (if sqs then d.stageSqs else d.stageHost) ++ [v]
  let (bank, queue) :=
    if bank.length < 8 then (bank, d.queue)
    else ([], s.enqueue { words := bank, by_ := if sqs then .sqs else .host, born := some s.wt.cycle })
  { s with dfl := if sqs then { d with stageSqs := bank, queue := queue } else { d with stageHost := bank, queue := queue } }

/-- The jobs of the queue `l` in case U01: each program job may stay, or be lost, doubled or altered. -/
def State.pastCredit : List DflJob → State → List DflJob × State
  | [], s => ([], s)
  | j :: t, s =>
    let (r, s) := s.draw 2
    let (x, s) := s.draw 256
    let (l, s) := State.pastCredit t s
    let k := if !j.program ∨ r = 0 then [j] else if r = 1 then [] else if r = 2 then [j, j]
      else [{ j with words := (List.range 8).map fun i => BitVec.ofNat 32 (x / 2 ^ (32 * i)) }]
    (k ++ l, s)

/-- A write to DFL_JOB_PUSH (R328 to R330). A push past the credit is case U01: the word may be lost, doubled or altered,
and so may the program jobs of the queue. -/
def State.jobPush (s : State) (m : Master) (v : Word) : State :=
  let sqs := m == .sqs
  if s.jobCredit = 0 then
    let (l, s) := State.pastCredit s.dfl.queue s
    let s : State := { s with dfl := { s.dfl with past := true, queue := l } }
    let (r, s) := s.draw 2
    let (x, s) := s.draw 32
    if r = 0 then s.stageWord sqs v
    else if r = 1 then s
    else if r = 2 then (s.stageWord sqs v).stageWord sqs v
    else s.stageWord sqs (BitVec.ofNat 32 x)
  else s.stageWord sqs v

/-- DFL_JOB_PUSH: only SQS and the host submit jobs (R328). -/
def execDflJobPush (m : Master) (v : Word) (s : State) : Out :=
  match m with
  | .sqs => .next (s.jobPush m v)
  | .host => .next (s.jobPush m v)
  | _ => .next s

/-! ### Adler-32 and the wrapper -/

/-- Adler-32 of `b` continued from `a` (RFC 1950, R338). -/
def adler32 (a : Nat) (b : List Byte) : Nat :=
  let (x, y) := b.foldl (fun (x, y) c => let x := (x + c.toNat) % 65521; (x, (y + x) % 65521)) (a % 65536, a / 65536)
  y * 65536 + x

/-- The FLG byte of the zlib header (R338). -/
def zlibFlg (level : Nat) : Byte := if level ≤ 1 then 0x01 else if level ≤ 5 then 0x5E else if level = 6 then 0x9C else 0xDA

/-! ### Output buffers -/

/-- A buffer that CHAIN_BAD stops at: beyond the quadrant's DRAM, or over the job's input, of which an empty one has no
byte to overlap (R344). -/
def State.bufferBad (s : State) (j : DflJob) (a size : Nat) : Bool :=
  let src := (j.word 1).toNat
  let len := (j.word 2).toNat
  decide (s.dramSize j.dstQuad < a + size)
    || (j.srcQuad == j.dstQuad && decide (0 < len) && decide (a < src + len) && decide (src < a + size))

/-- Output written: how much, and the status that stopped it. -/
structure Placed where
  count  : Nat := 0
  status : Option Nat := none
deriving DecidableEq, Repr

/-- Bytes placed in the buffer at `a` of `size` bytes and, once it is full, in the chain from `next` on (R343, R344). None where
the chain does not end. -/
def State.place (s : State) (j : DflJob) : Nat → Nat → Nat → Nat → List Byte → Nat → Option (Placed × State)
  | 0, _, _, _, _, _ => none
  | fuel + 1, a, size, next, b, count =>
    if b.isEmpty then some ({ count := count }, s)
    else if 0 < size ∧ s.bufferBad j a size then some ({ count := count, status := some 0x21 }, s)
    else
      let s := if size = 0 then s else s.writeDram j.dstQuad a (b.take size)
      let count := count + min size b.length
      let b := b.drop size
      if b.isEmpty then some ({ count := count }, s)
      else if next = 0 then some ({ count := count, status := some 0x20 }, s)
      else if s.dramSize j.dstQuad < next + 16 then some ({ count := count, status := some 0x21 }, s)
      else
        let (e, _, s) := s.readBytes j.dstQuad next 16
        s.place j fuel (leNat (e.take 4)) (leNat ((e.drop 4).take 4)) (leNat ((e.drop 8).take 4)) b count

/-- The output of job `j` written from its first buffer on. -/
def State.placeAll (s : State) (j : DflJob) (b : List Byte) : Option (Placed × State) :=
  s.place j (2 ^ 28 + b.length) (j.word 3).toNat (j.word 4).toNat (j.word 5).toNat b 0

/-! ### Completion -/

/-- A completion entry, or a camera job's result (R346, R380). -/
def State.jobDone (s : State) (j : DflJob) (status out used adler : Nat) : State :=
  match j.by_ with
  | .cam port ctx set =>
    let s := s.wr A.DFL_CAM_LAST (BitVec.ofNat 32 (status + port.val * 2 ^ 8 + 2 ^ 31))
    (s.wr (A.CAM_CTX_DFL_LEN ctx) (BitVec.ofNat 32 out)).sqsEvent 0x4C status (ctx.val + set.val * 4)
  | by_ =>
    let sub := b2n (by_ == .host)
    let w0 := j.f0 24 8 + status * 2 ^ 8 + b2n j.isDeflate * 2 ^ 16 + sub * 2 ^ 17
    let e := (BitVec.ofNat 32 w0, BitVec.ofNat 32 out, BitVec.ofNat 32 used, BitVec.ofNat 32 adler)
    let s : State := { s with dfl := { s.dfl with cpl := s.dfl.cpl ++ [{ words := e, born := some s.wt.cycle }] } }
    let s := s.setIf (status ≠ 0) F.DFL_STATUS_JOB_ERR
    let s := if j.f0 11 1 = 1 then
        s.sqsEvent 0x49 status (j.f0 24 8 + b2n j.isDeflate * 2 ^ 8 + sub * 2 ^ 9)
      else s
    s.overEnds

/-- A completion entry is free for one more program job (R346). -/
def State.cplRoom (s : State) : Bool :=
  let running := s.dfl.infl.toList.filterMap id ++ s.dfl.defl.toList.filter DflJob.program
  decide (s.dfl.cpl.length + running.length < 64)

/-- The first job of a queue that satisfies `p`, and the queue without it. -/
def takeJob (p : DflJob → Bool) : List DflJob → Option (DflJob × List DflJob)
  | [] => none
  | j :: t => if p j then some (j, t) else match takeJob p t with | some (x, r) => some (x, j :: r) | none => none

/-- What becomes of a program job's entry while case U01 lasts: as it is, altered, lost or kept twice. -/
def State.jobEntry (s : State) (j : DflJob) : Option DflJob × State :=
  if s.dfl.past ∧ j.program then
    let (c, s) := s.draw 2
    if c = 0 then (some j, s)
    else if c = 1 then
      let (l, s) := (List.range 8).foldl (fun (l, s) _ => let (x, s) := State.draw s 32; (BitVec.ofNat 32 x :: l, s)) ([], s)
      (some { j with words := l }, s)
    else if c = 2 then (none, s.overEnds)
    else (some j, { s with dfl := { s.dfl with queue := s.dfl.queue ++ [j] } })
  else (some j, s)

/-- A job that completes at once: DESC_BAD (R331) or CONT_BAD (R339), its Adler-32 that of no bytes. DEDUCED, log 65. -/
def State.jobAtOnce (s : State) (j : DflJob) (status : Nat) : State := s.jobDone j status 0 0 (adler32 1 [])

/-- Job `j` starts on inflater `i`. -/
def State.startInflate (s : State) (i : Fin 4) (j : DflJob) : State :=
  if j.descBad ∨ j.isDeflate then s.jobAtOnce j 0x23
  else
    let s := s.setInflater i { s.inflater i with streak := 0 }
    ({ s with dfl := { s.dfl with infl := s.dfl.infl.set i (some j) } } : State).put ⟨A.DFL_STATUS, i.val, 1⟩ 1

/-- Job `j` starts on the deflater; one that continues a stream needs its context, any other program job restarts it
(R339). -/
def State.startDeflate (s : State) (j : DflJob) : State :=
  let refused : State := if j.program then { s with dfl := { s.dfl with contOk := false } } else s
  if j.descBad ∨ !j.isDeflate then refused.jobAtOnce j 0x23
  else if j.program ∧ j.f0 10 1 = 1 ∧ !s.dfl.contOk then refused.jobAtOnce j 0x22
  else
    let d := s.dfl
    let d := if j.program ∧ j.f0 10 1 = 0 then { d with win := [], adler := 1, zlib := j.f0 8 1 == 1 } else d
    ({ s with dfl := { d with defl := some j } } : State).set F.DFL_STATUS_DEFL_BUSY

/-- JOB_START: unit 0 to 3 an inflater, 4 the deflater, takes the oldest job it may run (R332, R334, R346).
DEDUCED, log 65. -/
def execJobStart (u : Fin 5) (s : State) : Out :=
  if h : u.val < 4 then
    let i : Fin 4 := ⟨u.val, h⟩
    let x := s.inflater i
    let every := s.get F.DFL_CFG_PROG_EVERY
    let turn := (takeDesc i s.ing.queue).isNone || (decide (0 < every) && decide (every ≤ x.streak))
    if x.cur = none ∧ s.dfl.infl[i] = none ∧ turn ∧ s.cplRoom then
      match takeJob (fun j => !j.isDeflate && (j.f0 16 3 == i.val || decide (4 ≤ j.f0 16 3))) s.dfl.queue with
      | some (j, rest) =>
        let (e, s) := ({ s with dfl := { s.dfl with queue := rest } } : State).jobEntry j
        match e with
        | some j => .next (s.startInflate i j).feedOn
        | none => .next s.feedOn
      | none => .next s
    else .next s
  else
    match s.dfl.defl, takeJob DflJob.isDeflate s.dfl.queue with
    | none, some (j, rest) =>
      if j.program ∧ !s.cplRoom then .next s
      else
        let (e, s) := ({ s with dfl := { s.dfl with queue := rest } } : State).jobEntry j
        match e with
        | some j => .next (s.startDeflate j)
        | none => .next s
    | _, _ => .next s

/-! ### Running -/

/-- The bytes of `b` before the first marked word among `ms`, `a` the address of the first. -/
def cleanPart (a : Nat) (b : List Byte) (ms : List Nat) : List Byte :=
  match ms with
  | [] => b
  | m :: t => b.take (64 * t.foldl min m - a)

/-- A job's input: what comes before its first uncorrectable word, and whether there was one (R345). -/
def State.jobInput (s : State) (j : DflJob) : List Byte × Bool × State :=
  let a := (j.word 1).toNat
  let (b, ms, s) := s.readBytes j.srcQuad a (j.word 2).toNat
  (cleanPart a b ms, !ms.isEmpty, s)

/-- How much input a job that stopped has consumed: a free value no greater than what it could read (R346).
DESIGN CHOICE, log 64. -/
def State.freeUpTo (s : State) (n : Nat) : Nat × State :=
  let (x, s) := s.draw 32
  (x % (n + 1), s)

/-- An inflate job runs to its end (R333, R341, R342): a marked word of its input, past the final block too, is MEM_ERR
where no decoder error came before it (R345). DESIGN CHOICE, log 64. -/
def State.runInflate (s : State) (j : DflJob) : Option State :=
  let (b, bad, s) := s.jobInput j
  let limit := (j.word 6).toNat
  let o := inflate b [] (if limit = 0 then none else some limit) false
  match s.placeAll j o.bytes with
  | none => none
  | some (p, s) =>
    let err := if bad ∧ (o.err = none ∨ o.err = some errTruncated) then some 0x24 else o.err
    let adler := adler32 1 (o.bytes.take p.count)
    let trailing := p.status.isNone && o.err.isNone && decide (b.length - o.rest < (j.word 2).toNat)
    let s := s.setIf trailing F.DFL_STATUS_TRAILING
    match p.status.or err with
    | some st =>
      let (used, s) := s.freeUpTo b.length
      some (s.jobDone j st p.count used adler)
    | none => some (s.jobDone j 0 p.count (b.length - o.rest) adler)

/-- The stream of a deflate job over input `b` (R336 to R339). A camera job has no context. -/
def State.deflateStream (s : State) (j : DflJob) (b : List Byte) : List Byte :=
  let d := s.dfl
  let sync := j.f0 9 1 == 1
  let cont := j.f0 10 1 == 1
  let win := if j.program then d.win else []
  let zlib := if j.program then d.zlib else j.f0 8 1 == 1
  let whole := if j.program then adler32 d.adler b else adler32 1 b
  (if zlib && !cont then [0x78, zlibFlg j.level] else []) ++ rawStream j.level sync win b
    ++ (if zlib && !sync then beBytes 4 whole else [])

/-- The program stream context after a program deflate job over `b` (R339). -/
def State.nextContext (s : State) (j : DflJob) (b : List Byte) (ok : Bool) : State :=
  if j.program then
    let d := s.dfl
    { s with dfl := { d with contOk := ok && j.f0 9 1 == 1, win := lastBytes 32768 (d.win ++ b), adler := adler32 d.adler b } }
  else s

/-- A deflate job runs to its end. What it wrote before an uncorrectable input word is a free part of a stream over
the input before it (R345); the Adler-32 of a job that stopped is that of the input it consumed.
DESIGN CHOICE, log 64. -/
def State.runDeflate (s : State) (j : DflJob) : Option State :=
  let (b, bad, s) := s.jobInput j
  let out := s.deflateStream j b
  let (out, s) := if bad then let (n, s) := s.freeUpTo out.length; (out.take n, s) else (out, s)
  match s.placeAll j out with
  | none => none
  | some (p, s) =>
    let st := p.status.or (if bad then some 0x24 else none)
    let s := s.nextContext j b st.isNone
    match st with
    | some st =>
      let (used, s) := s.freeUpTo b.length
      some (s.jobDone j st p.count used (adler32 1 (b.take used)))
    | none => some (s.jobDone j 0 p.count b.length (adler32 1 b))

/-- JOB_COMPLETE: the job that unit `u` runs completes (R346). Its quadrants' controllers must be READY; a chain that
does not end never completes. -/
def execJobComplete (u : Fin 5) (s : State) : Out :=
  if h : u.val < 4 then
    let i : Fin 4 := ⟨u.val, h⟩
    match s.dfl.infl[i] with
    | some j =>
      if s.dramServes j.srcQuad ∧ s.dramServes j.dstQuad then
        let s' : State := { s with dfl := { s.dfl with infl := s.dfl.infl.set i none } }
        match (s'.put ⟨A.DFL_STATUS, i.val, 1⟩ 0).runInflate j with
        | some t => .next t.feedOn
        | none => .next s
      else .next s
    | none => .next s
  else
    match s.dfl.defl with
    | some j =>
      if s.dramServes j.srcQuad ∧ s.dramServes j.dstQuad then
        let s' : State := { s with dfl := { s.dfl with defl := none } }
        match (s'.clr F.DFL_STATUS_DEFL_BUSY).runDeflate j with
        | some t => .next t
        | none => .next s
      else .next s
    | none => .next s

/-! ### The completion FIFO -/

/-- The entry that DFL_CPL_W0 to W3 show: the head, or the last one removed (R126). -/
def State.cplHead (s : State) : Word × Word × Word × Word :=
  match s.dfl.cpl with
  | e :: _ => e.words
  | [] => s.dfl.last

/-- The completion FIFO holds an entry that a pop of this core cycle takes: one pushed in an earlier one (R126). -/
def State.cplReady (s : State) : Option (Word × Word × Word × Word) :=
  match s.dfl.cpl with
  | e :: _ => if e.born = some s.wt.cycle then none else some e.words
  | [] => none

/-- A read of DFL_CPL_W3 pops the head; of an empty FIFO it sets UNDERRUN (R126, R346). -/
def State.cplPop (s : State) : Word × State :=
  match s.cplReady with
  | some e => (e.2.2.2, { s with dfl := { s.dfl with cpl := s.dfl.cpl.tail, last := e } })
  | none => (s.dfl.last.2.2.2, s.set F.DFL_CPL_STATUS_UNDERRUN)

/-- CPL_POP. -/
def execCplPop (s : State) : Out := .next s.cplPop.2

end Sys2Proof.Machine
end

