-- ==== Sys2Proof/Machine/Camera.lean ====
section
/-!
DEFINITION. Sys2Proof/Machine/Camera.lean: CSI-2 packets, contexts and admission (R362 to R370), from mosaic to cell
(R371 to R373), the outputs, fiducials and frame records (R374 to R378), completion and camera jobs (R379 to R381),
and case U06.
-/

namespace Sys2Proof.Machine

/-- Pipeline context `c`. -/
def State.cx (s : State) (c : Fin 4) : CamCtx := s.cam[c]
/-- Pipeline context `c` replaced. -/
def State.setCx (s : State) (c : Fin 4) (x : CamCtx) : State := { s with cam := s.cam.set c x }

/-! ### The sampled registers -/

/-- Field `f` of a frame's sampled registers. -/
def CamFrame.get (x : CamFrame) (f : Nat → Fld) : Nat :=
  let d := f 0
  field (x.words.getD ((d.addr - A.CAM_CTX_CTRL 0) / 4) 0) d.lo d.w
/-- A one-bit field of a frame's sampled registers is 1. -/
def CamFrame.flag (x : CamFrame) (f : Nat → Fld) : Bool := x.get f == 1
/-- The byte address that a sampled base register of set `b` holds, bits [5:0] reserved. -/
def CamFrame.base (x : CamFrame) (a : Nat → Nat → Nat) (b : Nat) : Nat :=
  (x.words.getD ((a 0 b - A.CAM_CTX_CTRL 0) / 4) 0).toNat / 64 * 64
/-- A whole sampled register. -/
def CamFrame.word (x : CamFrame) (a : Nat) : Nat := (x.words.getD ((a - A.CAM_CTX_CTRL 0) / 4) 0).toNat

/-- The registers of context `c` as they stand. -/
def State.camSample (s : State) (c : Fin 4) : List Word :=
  (List.range 128).map fun i => s.rd (A.CAM_CTX_CTRL c + 4 * i)

/-- QUAD. -/
def CamFrame.quad (x : CamFrame) : QuadId := ⟨x.get F.CAM_CTX_CTRL_QUAD % 4, Nat.mod_lt _ (by decide)⟩
/-- WIDTH. -/
def CamFrame.width (x : CamFrame) : Nat := x.get F.CAM_CTX_SIZE_WIDTH
/-- HEIGHT. -/
def CamFrame.height (x : CamFrame) : Nat := x.get F.CAM_CTX_SIZE_HEIGHT
/-- Wc. -/
def CamFrame.wc (x : CamFrame) : Nat := x.width / 2
/-- Hc. -/
def CamFrame.hc (x : CamFrame) : Nat := x.height / 2
/-- MPX; 0 and values above 1,200 act as 1,200 (R366). -/
def CamFrame.mpx (x : CamFrame) : Nat :=
  let m := x.get F.CAM_CTX_RATE_MPX
  if m = 0 ∨ 1200 < m then 1200 else m

/-- BW (R214). -/
def CamFrame.bw (x : CamFrame) : Nat := ceilDiv x.wc 16
/-- Block rows (R214). -/
def CamFrame.bh (x : CamFrame) : Nat := ceilDiv x.hc 4
/-- PC (R375). -/
def CamFrame.pc (x : CamFrame) : Nat := ceilDiv x.wc 64 * 64
/-- The bytes of the NV12 output. -/
def CamFrame.codeLen (x : CamFrame) : Nat := x.pc * x.hc * 3 / 2
/-- Bytes of an IR pixel (R376). -/
def CamFrame.irBytes (x : CamFrame) : Nat := 1 + b2n (x.flag F.CAM_CTX_CTRL_MV_16)
/-- The pitch of the IR plane. -/
def CamFrame.irPitch (x : CamFrame) : Nat := ceilDiv (x.wc * x.irBytes) 64 * 64

/-- The outputs of set `b`, as byte address and length: those that are enabled, and the record (R374 to R378). -/
def CamFrame.outputs (x : CamFrame) (b : Nat) : List (Nat × Nat) :=
  (if x.flag F.CAM_CTX_CTRL_DISP_EN then
    [(x.base A.CAM_CTX_DISP_BASE b, x.bw * x.bh * 256), (x.base A.CAM_CTX_DISP_SIZEBASE b, x.bw * x.bh)] else [])
  ++ (if x.flag F.CAM_CTX_CTRL_CODE_EN then [(x.base A.CAM_CTX_CODE_BASE b, x.codeLen)] else [])
  ++ (if x.flag F.CAM_CTX_CTRL_MV_EN then [(x.base A.CAM_CTX_MV_BASE b, x.hc * x.irPitch)] else [])
  ++ [(x.base A.CAM_CTX_REC_BASE b, 1024)]

/-- The DEFLATE buffer of set `b`, where it is used. -/
def CamFrame.dflBuffer (x : CamFrame) (b : Nat) : List (Nat × Nat) :=
  if x.flag F.CAM_CTX_CTRL_CODE_EN && x.flag F.CAM_CTX_CTRL_CODE_DFL then
    [(x.word (A.CAM_CTX_DFL_BASE 0 b), x.word (A.CAM_CTX_DFL_SIZE 0 b))]
  else []

/-- The sampled registers are refused with CFG_BAD; both sets are held against the DRAM (R365). -/
def State.camBad (s : State) (x : CamFrame) : Bool :=
  let w := x.width
  let h := x.height
  w % 4 != 0 || decide (w < 8) || decide (8192 < w) || h % 4 != 0 || decide (h < 4) || decide (8192 < h)
    || ((x.outputs 0 ++ x.outputs 1 ++ x.dflBuffer 0 ++ x.dflBuffer 1).any
        fun r => decide (s.dramSize x.quad < r.1 + r.2))

/-! ### Channels -/

/-- The context that channel `vc` of port `p` is mapped to (R364). -/
def State.camMap (s : State) (p : Fin 2) (vc : Fin 16) : Option (Fin 4) :=
  let a := if vc.val < 8 then A.CAM_PORT_VCMAP0 p else A.CAM_PORT_VCMAP1 p
  match field (s.rd a) (4 * (vc.val % 8)) 4 with
  | 1 => some 0 | 2 => some 1 | 3 => some 2 | 4 => some 3 | _ => none

/-- Two channels are mapped to context `c`: case U06 (R364). DEDUCED, log 95. -/
def State.camMixed (s : State) (c : Fin 4) : Bool :=
  decide (2 ≤ (((fins 2).flatMap fun p => (fins 16).map fun v => s.camMap p v).filter (· == some c)).length)

/-- A header as port `p` receives it: whether the packet goes on, and its ECC counts (R363). -/
def State.csiHeader (s : State) (p : Fin 2) (ecc : CsiEcc) : Bool × State :=
  match ecc with
  | .ok => (true, s)
  | .corrected => (true, s.count (F.CAM_PORT_ERR0_ECC_CORR p))
  | .bad => (false, s.count (F.CAM_PORT_ERR0_ECC_BAD p))

/-- A frame of context `c` is dropped: the CAM_DROP event with its reason. DEDUCED, log 92. -/
def State.camDrop (s : State) (c : Fin 4) (reason : Nat) : State := s.sqsEvent 0x4B c reason

/-- Bit `b` of CAM_CTXc_STATUS is set. -/
def State.camStatus (s : State) (c : Fin 4) (b : Nat) : State := s.set ⟨A.CAM_CTX_STATUS c, b, 1⟩

/-- Flag `b` of a frame's record. -/
def CamFrame.mark (x : CamFrame) (b : Nat) : CamFrame := { x with flags := withBit x.flags b }

/-- The frame of context `c` ends, with or without its Frame End (R368). -/
def State.camEnd (s : State) (c : Fin 4) (missing : Bool) : State :=
  match (s.cx c).cur with
  | none => s
  | some x =>
    let s := if missing then s.camStatus c 4 else s
    let x := if missing then x.mark 4 else x
    let s := s.setCx c { s.cx c with cur := none }
    if x.dropped then s
    else if x.got = 0 then
      ((s.camStatus c 6).count (F.CAM_CTX_DROPS_EMPTY c)).camDrop c 3
    else
      let short := decide (x.got < x.height)
      let s := if short then s.camStatus c 0 else s
      let x := if short then x.mark 0 else x
      s.setCx c { s.cx c with ended := (s.cx c).ended ++ [{ x with inProg := false, endOrd := some (4 * s.wt.cycle + c.val) }] }

/-- S: the declared rates of the contexts with a frame in progress (R366). -/
def State.camLoad (s : State) : Nat :=
  ((fins 4).map fun c => match (s.cx c).cur with
    | some x => if x.inProg then x.mpx else 0
    | none => 0).foldl (· + ·) 0

/-- The verdict on frame `x` of context `c` at its Frame Start (R365, R366). -/
def State.camJudge (s : State) (c : Fin 4) (x : CamFrame) : State :=
  let out (s : State) : State := s.setCx c { s.cx c with cur := some { x with inProg := false, dropped := true } }
  if s.camBad x then out (((s.camStatus c 7).count (F.CAM_CTX_DROPS_EMPTY c)).camDrop c 4)
  else if 1200 < s.camLoad + x.mpx then out (((s.camStatus c 5).count (F.CAM_CTX_DROPS_RATE c)).camDrop c 1)
  else s.setCx c { s.cx c with cur := some { x with inProg := true, dropped := false } }

/-- The frame of context `d` whose Frame Start came in this core cycle (R366). -/
def State.camJust (s : State) (d : Fin 4) : Option CamFrame :=
  (s.cx d).cur.filter fun x => x.born.map (·.1) == some s.wt.cycle

/-- The verdict of this core cycle on frame `x` of context `d` taken back: neither in progress nor dropped, with its bit,
its count and its event undone (R366). -/
def State.camUnjudge (s : State) (d : Fin 4) (x : CamFrame) : State :=
  let before (s : State) (b : Nat) : State :=
    let f : Fld := ⟨A.CAM_CTX_STATUS d, b, 1⟩
    { s.put f (field (BitVec.ofNat 32 ((x.born.map (·.2)).getD 0)) b 1) with bus := { s.busNow with hits := s.busNow.hits.erase f } }
  let back (s : State) (b : Nat) (f : Fld) (reason : Nat) : State :=
    ((before s b).uncount f 1).unsay sqsQ fun e =>
      e.source == 0x4B && e.code == BitVec.ofNat 8 d.val && e.data == BitVec.ofNat 32 reason
  let s := s.setCx d { s.cx d with cur := some { x with inProg := false } }
  if x.dropped then
    if s.camBad x then back s 7 (F.CAM_CTX_DROPS_EMPTY d) 4 else back s 5 (F.CAM_CTX_DROPS_RATE d) 1
  else s

/-- A Frame Start of context `c` (R365, R366, R370): the frames of higher contexts that started in the same core cycle
are judged after it. DEDUCED, log 93. -/
def State.camStart (s : State) (p : Fin 2) (c : Fin 4) (number : Nat) (trig : Option Nat) : State :=
  let s := s.camEnd c true
  if s.flag (F.CAM_CTX_CTRL_EN c) then
    let x : CamFrame := { words := s.camSample c, port := p, number := number, stamp := s.wall16 / 16384 * 16384
                          trig := trig, inProg := false, dropped := true, flags := if trig.isSome then 32 else 0
                          born := some (s.wt.cycle, (s.rd (A.CAM_CTX_STATUS c)).toNat) }
    let after := (fins 4).filterMap fun d => if c < d then (s.camJust d).map fun y => (d, y) else none
    forAll after ((forAll after s fun s y => s.camUnjudge y.1 y.2).camJudge c x) fun s y => s.camJudge y.1 y.2
  else s

/-- CSI_FRAME_START. In case U06 the admission is free. DEDUCED, log 92. -/
def execCsiFrameStart (p : Fin 2) (ecc : CsiEcc) (vc : Fin 16) (number : BitVec 16) (s : State) : Out :=
  if s.camOn ∧ s.flag (F.CAM_PORT_CTRL_EN p) then
    let (ok, s) := s.csiHeader p ecc
    if ok then
      let trig := s.pins.trigAt[p]
      let s : State := { s with pins := { s.pins with trigAt := s.pins.trigAt.set p none } }
      match s.camMap p vc with
      | none => .next s
      | some c =>
        let (skip, s) := if s.camMixed c then let (r, s) := s.draw 1; (r == 1, s) else (false, s)
        if skip then .next s else .next (s.camStart p c number.toNat trig)
    else .next s
  else .next s

/-- CSI_FRAME_END. In case U06 whether it ends the frame is free. -/
def execCsiFrameEnd (p : Fin 2) (ecc : CsiEcc) (vc : Fin 16) (_number : BitVec 16) (s : State) : Out :=
  if s.camOn ∧ s.flag (F.CAM_PORT_CTRL_EN p) then
    let (ok, s) := s.csiHeader p ecc
    if ok then
      match s.camMap p vc with
      | none => .next s
      | some c =>
        let (skip, s) := if s.camMixed c then let (r, s) := s.draw 1; (r == 1, s) else (false, s)
        if skip then .next s else .next (s.camEnd c false)
    else .next s
  else .next s

/-! ### From mosaic to cell -/

/-- The colour of sensor pixel (x, y): 0 R, 1 G or C, 2 B, 3 I (R371, R372). -/
def CamFrame.colour (f : CamFrame) (x y : Nat) : Nat :=
  let px := f.get F.CAM_CTX_CTRL_PX
  let py := f.get F.CAM_CTX_CTRL_PY
  if f.flag F.CAM_CTX_CTRL_MOSAIC then
    match (y + py) % 2, (x + px) % 2 with
    | 0, 0 => 0 | 1, 1 => 2 | _, _ => 1
  else
    let i := (x + px) % 4
    match (y + py) % 4 with
    | 0 => [2, 1, 0, 1].getD i 0
    | 2 => [0, 1, 2, 1].getD i 0
    | _ => [1, 3, 1, 3].getD i 0

/-- The 12-bit code of sensor pixel (x, y) among the lines held; a line that never came is the last one (R368). -/
def CamFrame.code (f : CamFrame) (x y : Nat) : Nat :=
  match (f.lines[y - f.freed]?).or f.lines.getLast? with
  | some l => l.px.getD x 0
  | none => 0

/-- BLACK of a colour. -/
def CamFrame.black (f : CamFrame) (colour : Nat) : Nat :=
  match colour with
  | 0 => f.get F.CAM_CTX_BLACK0_R | 1 => f.get F.CAM_CTX_BLACK0_G
  | 2 => f.get F.CAM_CTX_BLACK1_B | _ => f.get F.CAM_CTX_BLACK1_I

/-- Sensor pixel (x, y) after step 1 of R373, with its colour. -/
def CamFrame.sample (f : CamFrame) (x y : Nat) : Nat × Nat :=
  let c := f.colour x y
  (c, f.code x y - f.black c)

/-- The sensor pixels of cell (cx, cy). -/
def cellPixels (cx cy : Nat) : List (Nat × Nat) :=
  [(2 * cx, 2 * cy), (2 * cx + 1, 2 * cy), (2 * cx, 2 * cy + 1), (2 * cx + 1, 2 * cy + 1)]

/-- The samples of cell (cx, cy) that have a colour. -/
def CamFrame.ofColour (f : CamFrame) (cx cy colour : Nat) : List Nat :=
  ((cellPixels cx cy).map fun p => f.sample p.1 p.2).filterMap fun (c, v) => if c = colour then some v else none

/-- Cell index `i` of `n`, mirrored across the edge cell (R371). -/
def mirror (i : Int) (n : Nat) : Nat := if i < 0 then (-i).toNat else if (n : Int) ≤ i then (2 * ((n : Int) - 1) - i).toNat else i.toNat

/-- The value of colour R (0) or B (2) at cell (cx, cy): the cell's own sample, or the rounded mean of the four
edge-adjacent cells (R371). -/
def CamFrame.redBlue (f : CamFrame) (cx cy colour : Nat) : Nat :=
  match f.ofColour cx cy colour with
  | v :: _ => v
  | [] =>
    let near := [(mirror (cx - 1 : Int) f.wc, cy), (mirror (cx + 1) f.wc, cy), (cx, mirror (cy - 1 : Int) f.hc),
      (cx, mirror (cy + 1) f.hc)]
    ((near.flatMap fun p => f.ofColour p.1 p.2 colour).foldl (· + ·) 0 + 2) / 4

/-- The IR coefficient applied: max(0, X − ((K·I + 2,048) >> 12)) (R373). -/
def irSub (x k ir : Nat) : Nat := x - (k * ir + 2048) / 4096

/-- One row of the colour matrix applied to the camera triple (R373). -/
def matrixRow (m : Nat × Nat × Nat) (c : Nat × Nat × Nat) : Nat :=
  let x := signed 16 m.1 * c.1 + signed 16 m.2.1 * c.2.1 + signed 16 m.2.2 * c.2.2 + 2048
  (clampInt 0 4095 (x / 4096)).toNat

/-- The nine coefficients in order, as 16-bit codes (CAM_CTXc_CCM0 to CCM4). -/
def CamFrame.ccm (f : CamFrame) (i : Nat) : Nat := f.word (A.CAM_CTX_CCM0 0 + 4 * (i / 2)) / 2 ^ (16 * (i % 2)) % 2 ^ 16

/-- Entry `i` of the tone LUT; an entry whose address is among `bad` has a parity error (R477). -/
def State.tone (s : State) (bad : List Nat) (i : Nat) : Nat := s.lutEntry (A.CAM_TONE 0) 4096 bad i % 1024

/-- Cell (cx, cy) (R371 to R373), the tone LUT's entries at `bad` failing their parity. -/
def State.camCell (s : State) (f : CamFrame) (bad : List Nat) (cx cy : Nat) : CamCell :=
  let g := ((f.ofColour cx cy 1).foldl (· + ·) 0 + 1) / 2
  let rccb := f.flag F.CAM_CTX_CTRL_MOSAIC
  let ir := if rccb then g else (f.ofColour cx cy 3).headD 0
  let r := f.redBlue cx cy 0
  let b := f.redBlue cx cy 2
  let c := if rccb then (r, g, b)
    else (irSub r (f.get F.CAM_CTX_IRK0_KR) ir, irSub g (f.get F.CAM_CTX_IRK0_KG) ir, irSub b (f.get F.CAM_CTX_IRK1_KB) ir)
  let out (i : Nat) := s.tone bad (matrixRow (f.ccm (3 * i), f.ccm (3 * i + 1), f.ccm (3 * i + 2)) c)
  let full := if f.flag F.CAM_CTX_CTRL_DT then 4095 else 4092
  { c := c, ir := ir, t := (out 0, out 1, out 2), sat := (cellPixels cx cy).any fun p => f.code p.1 p.2 == full }

/-! ### Outputs -/

/-- The 8-bit values of a cell. -/
def CamCell.rgb (x : CamCell) : Nat × Nat × Nat := (x.t.1 / 4, x.t.2.1 / 4, x.t.2.2 / 4)
/-- Y of a cell (R375). -/
def CamCell.luma (x : CamCell) : Nat := let (r, g, b) := x.rgb; (54 * r + 184 * g + 18 * b + 128) / 256

/-- Cb and Cr of a 2 × 2 group of cells (R375). -/
def chroma (l : List CamCell) : List Byte :=
  let mean (f : Nat × Nat × Nat → Nat) : Int := (((l.map fun x => f x.rgb).foldl (· + ·) 0 + 2) / 4 : Nat)
  let r := mean (·.1)
  let g := mean (·.2.1)
  let b := mean (·.2.2)
  let f (x : Int) : Byte := BitVec.ofInt 8 (clampInt 0 255 (128 + (x + 128) / 256))
  [f (-29 * r - 99 * g + 128 * b), f (128 * r - 116 * g - 12 * b)]

/-- A display pixel of a cell (R374). -/
def CamCell.pixel (x : CamCell) (deep : Bool) : Nat :=
  if deep then x.t.1 + x.t.2.1 * 2 ^ 10 + x.t.2.2 * 2 ^ 20 + 3 * 2 ^ 30
  else let (r, g, b) := x.rgb; r + g * 2 ^ 8 + b * 2 ^ 16 + 255 * 2 ^ 24

/-- The bits that hold `m`. -/
def bitsOf (m : Nat) : Nat := ((List.range 9).find? fun w => decide (m < 2 ^ w)).getD 8

/-- Values of `w` bits each packed from bit 0 upward. -/
def packBits (w : Nat) (l : List Nat) : Nat := l.foldr (fun v acc => v % 2 ^ w + acc * 2 ^ w) 0

/-- A block of 64 pixels with the smallest lane widths, raw where that exceeds 224 bytes: its bytes and its size byte
(R215, R374). DESIGN CHOICE, log 94. -/
def packBlock (px : List Nat) : List Byte × Nat :=
  let lane (l : Nat) := px.map fun p => p / 256 ^ l % 256
  let base (l : Nat) := (lane l).foldl min 255
  let res (l : Nat) := (lane l).map (· - base l)
  let width (l : Nat) := bitsOf ((res l).foldl max 0)
  let size := 6 + 8 * (width 0 + width 1 + width 2 + width 3)
  if 224 < size then (px.flatMap fun p => leBytes 4 p, 0x88)
  else
    (leBytes 4 (base 0 + base 1 * 2 ^ 8 + base 2 * 2 ^ 16 + base 3 * 2 ^ 24)
      ++ leBytes 2 (width 0 + width 1 * 16 + width 2 * 256 + width 3 * 4096)
      ++ (List.range 4).flatMap (fun l => leBytes (8 * width l) (packBits (width l) (res l))), ceilDiv size 32)

/-- Block (bx, by) of the display output written (R374). Pixels beyond the frame, and the rest of the slot, are
free. -/
def State.camBlock (s : State) (f : CamFrame) (b y bx : Nat) : State :=
  let deep := f.flag F.CAM_CTX_CTRL_DISP_FMT
  let (pad, s) := s.draw 32
  let px := (List.range 64).map fun q =>
    match (f.cells.getD (4 * y + q / 16) [])[16 * bx + q % 16]? with
    | some c => c.pixel deep
    | none => pad
  let (bytes, size) := packBlock px
  let (rest, s) := s.freeBytes (256 - bytes.length)
  let i := y * f.bw + bx
  (s.writeDram f.quad (f.base A.CAM_CTX_DISP_BASE b + i * 256) (bytes ++ rest)).writeDram f.quad
    (f.base A.CAM_CTX_DISP_SIZEBASE b + i) [BitVec.ofNat 8 size]

/-- What row `j` of cells, the last one in `f`, completes of the outputs of set `b` (R374 to R376). -/
def State.camRowOut (s : State) (f : CamFrame) (b j : Nat) : State :=
  let row := f.cells.getD j []
  let s := if f.flag F.CAM_CTX_CTRL_CODE_EN then
      let a := f.base A.CAM_CTX_CODE_BASE b
      let s := s.writeDram f.quad (a + f.pc * j) (row.map fun c => BitVec.ofNat 8 c.luma)
      if j % 2 = 1 then
        let up := f.cells.getD (j - 1) []
        let pairs := (List.range (f.wc / 2)).flatMap fun i =>
          chroma ((up.drop (2 * i)).take 2 ++ (row.drop (2 * i)).take 2)
        s.writeDram f.quad (a + f.pc * f.hc + f.pc * (j / 2)) pairs
      else s
    else s
  let s := if f.flag F.CAM_CTX_CTRL_MV_EN then
      let px (c : CamCell) := if f.irBytes = 1 then leBytes 1 (c.ir / 16) else leBytes 2 c.ir
      s.writeDram f.quad (f.base A.CAM_CTX_MV_BASE b + j * f.irPitch) (row.flatMap px)
    else s
  if f.flag F.CAM_CTX_CTRL_DISP_EN ∧ (j % 4 = 3 ∨ j + 1 = f.hc) then
    forAll (List.range f.bw) s fun s bx => s.camBlock f b (j / 4) bx
  else s

/-- The next row of cells of a frame of context `c` processed and its output written; lines that no later row needs
are released, the last one received kept (R367, R368). -/
def State.camRow (s : State) (c : Fin 4) (f : CamFrame) (bad : List Nat) : CamFrame × State :=
  let j := f.cells.length
  let seq := f.seq.getD (s.get (F.CAM_CTX_SEQ_SEQ c))
  let row := (List.range f.wc).map fun x => s.camCell f bad x j
  let f := { f with cells := f.cells ++ [row], seq := some seq }
  let s := s.camRowOut f (seq % 2) j
  let k := min (2 * j - f.freed) (f.lines.length - 1)
  ({ f with lines := f.lines.drop k, freed := f.freed + k }, s)

/-- The frame that context `c` processes: its oldest ended one, else the one it receives. -/
def State.camFirst (s : State) (c : Fin 4) : Option CamFrame := ((s.cx c).ended.head?).or (s.cx c).cur

/-- The frame that context `c` processes, replaced. -/
def State.setCamFirst (s : State) (c : Fin 4) (f : CamFrame) : State :=
  match (s.cx c).ended with
  | _ :: t => s.setCx c { s.cx c with ended := f :: t }
  | [] => s.setCx c { s.cx c with cur := some f }

/-- When the last line that the next row of cells of a frame needs came: that line's own, or for a line that never came
the frame's end; none where the row cannot be processed yet. -/
def CamFrame.rowOrd (f : CamFrame) : Option Nat :=
  let j := f.cells.length
  if f.dropped ∨ f.hc ≤ j then none
  else ((f.lines[2 * min (j + 1) (f.hc - 1) + 1 - f.freed]?).map CamEntry.ord).or f.endOrd

/-- The context whose next row of cells is the first in the order in which packets ended (R367). -/
def State.camNext (s : State) : Option (Fin 4) :=
  let l := (fins 4).filterMap fun c => ((s.camFirst c).bind CamFrame.rowOrd).map fun o => (o, c)
  let least := (l.map (·.1)).foldl min (l.headD (0, 0)).1
  (l.find? fun e => e.1 == least).map (·.2)

/-- The pipeline processes its next row of cells, where the write queue takes it (R367). -/
def State.camStep (s : State) (bad : List Nat) : Option State :=
  match s.camNext with
  | none => none
  | some c =>
    match s.camFirst c with
    | none => none
    | some f =>
      if s.dramServes f.quad then
        let (f, s) := s.camRow c f bad
        some (s.setCamFirst c f)
      else none

/-- Up to `rows` rows of cells processed, of all contexts in their order. DESIGN CHOICE, log 91. -/
def State.camProcess (s : State) (bad : List Nat) : Nat → State
  | 0 => s
  | k + 1 => match s.camStep bad with | some s => s.camProcess bad k | none => s

/-! ### Lines -/

/-- The line entries of context `c` in use (R367). -/
def State.camHeld (s : State) (c : Fin 4) : Nat :=
  ((s.cx c).ended ++ (s.cx c).cur.toList).foldl (fun n f => n + f.lines.length) 0

/-- A line fitted to `w` pixels; where it holds none, a free pixel repeats (R368). -/
def State.fitLine (s : State) (w : Nat) (l : List Nat) : List Nat × State :=
  match l.getLast? with
  | some v => ((l ++ List.replicate (w - l.length) v).take w, s)
  | none => let (v, s) := s.draw 12; (List.replicate w v, s)

/-- The line buffers have no credit: the frame of context `c` is dropped whole (R125) and is not in progress any more
(R366). DESIGN CHOICE, log 91. -/
def State.camNoCredit (s : State) (c : Fin 4) (f : CamFrame) : State :=
  let s := s.count (if f.port.val = 0 then F.CRD_CAM_DROP_PORT0 else F.CRD_CAM_DROP_PORT1)
  (s.setCx c { s.cx c with cur := some { f with dropped := true, inProg := false, lines := [], cells := [] } }).camDrop c 2

/-- A line of pixel data for frame `f` of context `c` (R367, R368). DEDUCED, log 96. -/
def State.camLine (s : State) (c : Fin 4) (f : CamFrame) (crcOk : Bool) (px : List Nat) : State :=
  let s := if crcOk then s else s.camStatus c 3
  let f := if crcOk then f else f.mark 3
  let f := { f with got := f.got + 1 }
  if f.height < f.got then
    (s.camStatus c 1).setCx c { s.cx c with cur := some (f.mark 1) }
  else
    let err := decide (px.length ≠ f.width)
    let s := if err then s.camStatus c 2 else s
    let f := if err then f.mark 2 else f
    let (l, s) := s.fitLine f.width px
    if 24 ≤ s.camHeld c then s.camNoCredit c f
    else
      let l : CamEntry := { ord := 4 * s.wt.cycle + c.val, px := l }
      s.setCx c { s.cx c with cur := some { f with lines := f.lines ++ [l] } }

/-- CSI_LINE: a packet other than Frame Start and Frame End (R363, R364): Line Start (0x02) and Line End (0x03) are
ignored. `rows` is how many rows of cells the pipeline has processed since the last line, and `tone` the addresses of
the tone LUT's entries that they read with a parity error (R477). In case U06 what becomes of the line is free. DESIGN
CHOICE, log 91; DEDUCED, log 92. -/
def execCsiLine (p : Fin 2) (l : CsiLine) (rows : Nat) (tone : List Nat) (s : State) : Out :=
  if s.camOn ∧ s.flag (F.CAM_PORT_CTRL_EN p) then
    let (ok, s) := s.csiHeader p l.ecc
    match ok && l.dt ≠ 2 && l.dt ≠ 3, s.camMap p l.vc with
    | true, some c =>
      match (s.cx c).cur with
      | none => .next (s.count (F.CAM_PORT_ERR1_DT_DROP p))
      | some f =>
        let deep := f.flag F.CAM_CTX_CTRL_DT
        if l.dt.toNat ≠ (if deep then 0x2C else 0x2B) then .next (s.count (F.CAM_PORT_ERR1_DT_DROP p))
        else
          let s := if l.crcOk then s else s.count (F.CAM_PORT_ERR1_CRC_ERR p)
          if f.dropped then .next s
          else
            let px := l.pixels.map fun v => if deep then v.toNat else v.toNat % 1024 * 4
            let (r, s) := if s.camMixed c then s.draw 2 else (0, s)
            if r = 1 then .next s
            else
              let s := (s.camProcess tone rows).lutParity tone
              let f := (s.cx c).cur.getD f
              if r = 2 then .next (s.camNoCredit c f) else .next (s.camLine c f l.crcOk px)
    | _, _ => .next s
  else .next s

/-! ### Fiducials and the record -/

/-- Entry `r` of the record (R377). Fields of an entry without weight that the table does not settle are free.
DESIGN CHOICE, log 94. -/
def State.fiducial (s : State) (f : CamFrame) (r : Nat) : Bool × List Byte × State :=
  let pos := f.word (A.CAM_CTX_ROI_POS 0 r)
  let end_ := f.word (A.CAM_CTX_ROI_END 0 r)
  let x0 := pos % 4096
  let y0 := pos / 65536 % 4096
  let x1 := min (end_ % 4096) f.wc
  let y1 := min (end_ / 65536 % 4096) f.hc
  let thresh := f.get F.CAM_CTX_THRESH_THRESH
  if bit end_ 31 then
    let cells := (List.range (y1 - y0)).flatMap fun i =>
      (((f.cells.getD (y0 + i) []).drop x0).take (x1 - x0)).zipIdx.map fun (c, k) => (x0 + k, y0 + i, c)
    let hit := cells.filter fun (_, _, c) => decide (thresh < c.ir)
    let sum (g : Nat → Nat → Nat → Nat) : Nat := (hit.map fun (x, y, c) => g x y (c.ir - thresh)).foldl (· + ·) 0
    let sw := sum fun _ _ w => w
    let sat := cells.any fun (_, _, c) => c.sat
    if sw = 0 then
      let (cx, s) := s.draw 24
      let (cy, s) := s.draw 24
      let (peak, s) := s.draw 12
      (false, leBytes 4 (cx + r * 2 ^ 24 + b2n sat * 2 ^ 30) ++ leBytes 4 cy ++ leBytes 4 0 ++ leBytes 4 (peak * 2 ^ 16), s)
    else
      -- (x + 0.5)·w in halves; the quotient in units of 2^-8, ties toward +∞
      let at_ (h : Nat) : Nat := (2 * h * 128 + sw) / (2 * sw)
      let cx := at_ (sum fun x _ w => (2 * x + 1) * w)
      let cy := at_ (sum fun _ y w => (2 * y + 1) * w)
      let edge := hit.any fun (x, y, _) => x == x0 || y == y0 || x + 1 == x1 || y + 1 == y1
      let peak := (hit.map fun (_, _, c) => c.ir).foldl max 0
      (true, leBytes 4 (cx % 2 ^ 24 + r * 2 ^ 24 + 2 ^ 29 + b2n sat * 2 ^ 30 + b2n edge * 2 ^ 31) ++ leBytes 4 (cy % 2 ^ 24)
        ++ leBytes 4 (min sw (2 ^ 32 - 1)) ++ leBytes 4 (min hit.length 65535 + peak * 2 ^ 16), s)
  else
    let (w0, s) := s.draw 26
    let (w1, s) := s.draw 24
    let (w2, s) := s.draw 32
    let (w3, s) := s.draw 28
    (false, leBytes 4 (w0 % 2 ^ 24 + r * 2 ^ 24 + w0 / 2 ^ 24 * 2 ^ 30) ++ leBytes 4 w1 ++ leBytes 4 w2 ++ leBytes 4 w3, s)

/-- The 32 entries, and how many are valid. -/
def State.fiducials (s : State) (f : CamFrame) : Nat × List Byte × State :=
  (List.range 32).foldl (fun (n, l, s) r =>
    let (v, b, s) := State.fiducial s f r
    (n + b2n v, l ++ b, s)) (0, [], s)

/-- Sixteen bytes of a wall time in units of 2^-16 ns: seconds, nanoseconds, FRAC, reserved (R378). -/
def timeBytes (t : Nat) : List Byte :=
  let ns := t / 65536
  leBytes 8 (ns / 1000000000) ++ leBytes 4 (ns % 1000000000) ++ leBytes 2 (t % 65536) ++ leBytes 2 0

/-- The frame record of context `c` (R378). DEDUCED, log 96. -/
def State.camRecord (s : State) (c : Fin 4) (f : CamFrame) (flags : Nat) : List Byte × State :=
  let all := f.cells.flatMap id
  let sum (g : CamCell → Nat) : Nat := (all.map g).foldl (· + ·) 0
  let (n, entries, s) := s.fiducials f
  let hist := (List.range 64).flatMap fun m => leBytes 4 (all.filter fun x => x.luma / 4 == m).length
  (leBytes 2 f.number ++ leBytes 1 c.val ++ leBytes 1 flags ++ leBytes 2 (min f.got 65535) ++ leBytes 2 0
    ++ timeBytes f.stamp ++ (match f.trig with | some t => timeBytes t | none => List.replicate 16 0)
    ++ leBytes 1 0 ++ leBytes 1 n ++ leBytes 2 0 ++ leBytes 4 (all.filter (·.sat)).length ++ leBytes 4 (f.seq.getD 0)
    ++ List.replicate 12 0 ++ leBytes 8 (sum (·.c.1)) ++ leBytes 8 (sum (·.c.2.1)) ++ leBytes 8 (sum (·.c.2.2))
    ++ leBytes 8 (sum (·.ir)) ++ hist ++ entries ++ List.replicate 160 0, s)

/-! ### Completion -/

/-- The camera job of a completed frame, or its skip (R334, R380). -/
def State.camJob (s : State) (c : Fin 4) (f : CamFrame) (b : Fin 2) : State :=
  if f.flag F.CAM_CTX_CTRL_CODE_EN && f.flag F.CAM_CTX_CTRL_CODE_DFL then
    if 16 ≤ s.cameraJobs then (s.count ⟨A.DFL_CAM_SKIP, 0, 32⟩).set F.DFL_STATUS_CAM_SKIP
    else
      let q := f.quad.val
      let w0 := 1 + min (s.get F.CAM_DFL_CFG_LEVEL) 9 * 2 ^ 4 + s.get F.CAM_DFL_CFG_ZLIB * 2 ^ 8 + q * 2 ^ 12 + q * 2 ^ 14
      let words := [w0, f.base A.CAM_CTX_CODE_BASE b, f.codeLen, f.word (A.CAM_CTX_DFL_BASE 0 b),
        f.word (A.CAM_CTX_DFL_SIZE 0 b), 0, 0, 0].map (BitVec.ofNat 32)
      { s with dfl := { s.dfl with queue := s.enqueue { words := words, by_ := .cam f.port c b, born := some s.wt.cycle } } }
  else s

/-- The oldest frame of context `c` past its Frame End, every row of it processed, completes (R379). -/
def State.camComplete (s : State) (c : Fin 4) (f : CamFrame) : State :=
  let seq := f.seq.getD (s.get (F.CAM_CTX_SEQ_SEQ c))
  let b : Fin 2 := ⟨seq % 2, Nat.mod_lt _ (by decide)⟩
  let flags := f.flags + b.val * 64
  let (rec_, s) := s.camRecord c f flags
  let s := s.writeDram f.quad (f.base A.CAM_CTX_REC_BASE b) rec_
  let s := (s.put (F.CAM_CTX_SEQ_SEQ c) (s.get (F.CAM_CTX_SEQ_SEQ c) + 1)).wr (A.CAM_CTX_LAST c)
    (BitVec.ofNat 32 (f.number + b.val * 2 ^ 16 + 2 ^ 31))
  (s.sqsEvent 0x4A (c.val + b.val * 4) (f.number + flags * 2 ^ 16)).camJob c f b

/-- Every output of set `b` of frame `f` holds free bytes. DEDUCED, log 95. -/
def State.camScribble (s : State) (f : CamFrame) (b : Nat) : State :=
  forAll (f.outputs b) s fun s r =>
    let (l, s) := s.freeBytes r.2
    s.writeDram f.quad r.1 l

/-- A frame of a context in case U06 completes: its outputs, its record, SEQ and the event are free. DEDUCED, log 95. -/
def State.camMixedDone (s : State) (c : Fin 4) (f : CamFrame) : State :=
  let s := (s.camScribble f 0).camScribble f 1
  let (seq, s) := s.draw 32
  let (last, s) := s.draw 17
  let (code, s) := s.draw 1
  let (data, s) := s.draw 23
  let s := (s.put (F.CAM_CTX_SEQ_SEQ c) seq).wr (A.CAM_CTX_LAST c) (BitVec.ofNat 32 (last + 2 ^ 31))
  (s.sqsEvent 0x4A (c.val + code * 4) data).camJob c f ⟨seq % 2, Nat.mod_lt _ (by decide)⟩

/-- Rows of cells processed in their order until every row of the frame that context `c` has ended is (R367); `fuel`
bounds their number. -/
def State.camFinish (s : State) (c : Fin 4) (bad : List Nat) : Nat → State
  | 0 => s
  | fuel + 1 =>
    match (s.cx c).ended with
    | f :: _ =>
      if f.hc ≤ f.cells.length then s
      else match s.camStep bad with | some s => s.camFinish c bad fuel | none => s
    | [] => s

/-- More rows of cells than the frames that have ended and those that arrive have together. -/
def State.camRowsLeft (s : State) : Nat :=
  ((fins 4).map fun c => (((s.cx c).ended ++ (s.cx c).cur.toList).map CamFrame.hc).foldl (· + ·) 0).foldl (· + ·) 0

/-- CAM_FRAME: the oldest ended frame of context `c` completes, once its rows and those before them are processed;
`tone` are the addresses of the tone LUT's entries that they read with a parity error (R477). -/
def execCamFrame (c : Fin 4) (tone : List Nat) (s : State) : Out :=
  let s := (s.camFinish c tone s.camRowsLeft).lutParity tone
  match (s.cx c).ended with
  | f :: t =>
    if s.dramServes f.quad ∧ f.hc ≤ f.cells.length then
      let s := s.setCx c { s.cx c with ended := t }
      .next (if s.camMixed c then s.camMixedDone c f else s.camComplete c f)
    else .next s
  | [] => .next s

/-- The camera pipeline as Stay is entered: frames in progress are abandoned, and CAM_TRIG is unpowered (R381); slots
stay armed, and one that fires drives no CAM_TRIG (State.fireEvt). -/
def State.camStay (s : State) : State :=
  { s with cam := Vector.replicate 4 {}, pins := { s.pins with camTrig := Vector.replicate 2 false } }

end Sys2Proof.Machine
end

