-- ==== Sys2Proof/Machine/Synth.lean ====
section
/-!
DEFINITION. Sys2Proof/Machine/Synth.lean: the ray synthesiser (R182 to R200): texels and pre-blend LUTs, one ray,
the lines of a frame and their pace (R22), SYN_GO, and the abandoning of a frame (R23).
-/

namespace Sys2Proof.Machine

/-- Quadrant `n`'s synthesiser. -/
def State.sy (s : State) (n : QuadId) : SynUnit := s.syn[n]
/-- Quadrant `n`'s synthesiser replaced. -/
def State.setSy (s : State) (n : QuadId) (x : SynUnit) : State := { s with syn := s.syn.set n x }
/-- Quadrant `n`'s map streamer. -/
def State.mp (s : State) (n : QuadId) : MapUnit := s.map[n]
/-- Quadrant `n`'s map streamer replaced. -/
def State.setMp (s : State) (n : QuadId) (x : MapUnit) : State := { s with map := s.map.set n x }

/-- RUNAHEAD. -/
def State.runahead (s : State) : Nat := s.get F.SCAN_RUNAHEAD_LINES

/-! ### LUTs -/

/-- Entry `i` of colour `ch` of the live bank of pre-blend set `x` of quadrant `n` (R204). -/
def State.preLut (s : State) (n : QuadId) (bad : List Nat) (x ch i : Nat) : Nat :=
  let b := field (s.liveRd (A.CMP_LUTSEL n)) x 1
  s.lutEntry (A.LUT_PRE n x b ch 0) 1024 bad i

/-! ### Samples -/

/-- An 8-bit alpha in unsigned 1.16 (R186). -/
def alpha8 (a : Nat) : Nat := 257 * a + a / 128

/-- A 2-bit alpha in unsigned 1.16 (R186). -/
def alpha2 (a : Nat) : Nat := match a with | 0 => 0 | 1 => 21845 | 2 => 43691 | _ => 65536

/-- The LUT index of an 8-bit colour code (R186). -/
def index8 (c : Nat) : Nat := 4 * c + c / 64

/-- The components of a 32-bit pixel of format 0 (RGBA8888) or 1 (RGBA1010102), colours through `lut` (R168, R186). -/
def pixel32 (fmt px : Nat) (lut : Nat → Nat → Nat) : Light :=
  if fmt = 0 then
    { c0 := lut 0 (index8 (px % 256)), c1 := lut 1 (index8 (px / 256 % 256)), c2 := lut 2 (index8 (px / 65536 % 256))
      a := alpha8 (px / 2 ^ 24 % 256) }
  else
    { c0 := lut 0 (px % 1024), c1 := lut 1 (px / 1024 % 1024), c2 := lut 2 (px / 2 ^ 20 % 1024)
      a := alpha2 (px / 2 ^ 30 % 4) }

/-- The four weights of R185, in units of 2^-16, for fractions in units of 2^-8. -/
def weights (fx fy : Nat) : List Nat := [(256 - fx) * (256 - fy), fx * (256 - fy), (256 - fx) * fy, fx * fy]

/-- The weighted sum of four texels, each component rounded once (R186). DEDUCED, log 70. -/
def mix (w : List Nat) (t : List Light) : Light :=
  let sum (f : Light → Nat) := ((List.zipWith (fun w t => w * f t) w t).foldl (· + ·) 0 + 32768) / 65536
  { c0 := sum (·.c0), c1 := sum (·.c1), c2 := sum (·.c2), a := sum (·.a) }

/-- The bilinear sample at (xp, yp), in units of 2^-8 (R185). DEDUCED, log 70. -/
def bilinear (xp yp : Int) (texel : Int → Int → Light) : Light :=
  let x0 := xp / 256
  let y0 := yp / 256
  mix (weights (xp % 256).toNat (yp % 256).toNat)
    [texel x0 y0, texel (x0 + 1) y0, texel x0 (y0 + 1), texel (x0 + 1) (y0 + 1)]

/-- The byte address of pixel (x, y) of plane `p`'s front bank, none outside the plane (R150). -/
def State.texelAt (s : State) (p : Fin 16) (x y : Int) : Option Nat :=
  let d := (s.plane p).live
  if 0 ≤ x ∧ x < d.width ∧ 0 ≤ y ∧ y < d.height then some (d.pixelAt (s.front p) x.toNat y.toNat) else none

/-- One texel of plane `p` as R186 converts it: 0 outside the plane, and 0 of a word that fails (R198). -/
def State.texel (s : State) (n : QuadId) (lutBad : List Nat) (p : Fin 16) (x y : Int) : Light :=
  match s.texelAt p x y with
  | none => {}
  | some a =>
    if s.sceneBad a then {}
    else
      let px := leNat ((List.range 4).map fun i => s.sceneByte (a + i))
      pixel32 (s.plane p).live.fmt px (s.preLut n lutBad p)

/-- What a visit gives (R185 to R190): the sample, its plane-samples, the failing words it read. -/
structure Visit where
  light : Light := {}
  cost  : Nat := 1
  bad   : List Nat := []
deriving DecidableEq, Repr

/-- What a ray is of: its hogel, its record, its corrected tangents (R143). -/
structure RayOf where
  i   : Nat
  j   : Nat
  g : GeoRec
  tu  : Int
  tv  : Int
deriving DecidableEq, Repr

/-- The footprint position of ray `r` on plane `p` at depth `z`, in units of 2^-8 (R149). -/
def State.footprint (s : State) (n : QuadId) (p : Fin 16) (r : RayOf) (z : Int) : Int × Int :=
  let (rx, ry) := s.ratios n p
  (layerPos r.i r.g.dx z r.tu rx, layerPos r.j r.g.dy z r.tv ry)

/-- A position within ±32,767 layer pixels (R149). -/
def inReach (x : Int × Int) : Bool :=
  decide (-8388352 ≤ x.1) && decide (x.1 ≤ 8388352) && decide (-8388352 ≤ x.2) && decide (x.2 ≤ 8388352)

/-- The plane position of a footprint position: plus the apron, less one half (R185). -/
def State.planePos (s : State) (n : QuadId) (p : Fin 16) (x : Int × Int) : Int × Int :=
  let (ax, ay) := s.aprons n p
  (x.1 + 256 * ax - 128, x.2 + 256 * ay - 128)

/-- The failing 8-byte units of the 64-byte word that a read at byte address `a` fetches (R194, R196). -/
def State.badUnits (s : State) (a : Nat) : List Nat := s.ing.bad.filter fun w => w / 8 == a / 64

/-- The failing units that the four texels at (xp, yp) fetch, each once. -/
def State.badTexels (s : State) (p : Fin 16) (xp yp : Int) : List Nat :=
  let x0 := xp / 256
  let y0 := yp / 256
  ([(x0, y0), (x0 + 1, y0), (x0, y0 + 1), (x0 + 1, y0 + 1)].flatMap fun (x, y) =>
    match s.texelAt p x y with
    | some a => s.badUnits a
    | none => []).eraseDups

/-- A free sample: case U03, within the ranges of R186. DESIGN CHOICE, log 71. -/
def State.freeLight (s : State) : Light × State :=
  let (c0, s) := s.draw 16
  let (c1, s) := s.draw 16
  let (c2, s) := s.draw 16
  let (a, s) := s.draw 17
  ({ c0 := c0, c1 := c1, c2 := c2, a := a % 65537 }, s)

/-- The relief value at (xp, yp) (R189): BIAS outside the plane; that of a failing word is a free value.
DESIGN CHOICE, log 67. -/
def State.reliefNear (s : State) (p : Fin 16) (bias : Nat) (xp yp : Int) : Nat × List Nat × State :=
  let d := (s.plane p).live
  let x := (xp + 128) / 256
  let y := (yp + 128) / 256
  if 0 ≤ x ∧ x < d.width ∧ 0 ≤ y ∧ y < d.height then
    let a := d.reliefAt (s.front p) x.toNat y.toNat
    if s.sceneBad a then
      let (h, s) := s.draw 4
      (h, s.badUnits a, s)
    else
      let b := (s.sceneByte a).toNat
      (if x % 2 = 0 then b % 16 else b / 16, s.badUnits a, s)
  else (bias, [], s)

/-- Plane `p` shows nothing in quadrant `n`: R148, R169. -/
def State.planeClear (s : State) (n : QuadId) (p : Fin 16) : Bool :=
  let (rx, ry) := s.ratios n p
  !(s.planeOk p && ratioOk rx && ratioOk ry)

/-- One visit of ray `r` to plane `p` (R185, R186, R189, R190). DESIGN CHOICE, log 71. -/
def State.visit (s : State) (n : QuadId) (lutBad : List Nat) (p : Fin 16) (r : RayOf) : Visit × State :=
  let rel := s.liveRd (A.SYN_RELIEF n p)
  let refine := (s.plane p).live.relief && field rel 31 1 == 1
  let cost := if refine then 2 else 1
  if s.planeClear n p then ({ cost := cost }, s)
  else
    let z := signed 16 (s.liveRd (A.SYN_DEPTH n p)).toNat
    let x := s.footprint n p r z
    if !inReach x then
      let (l, s) := s.freeLight
      ({ light := l, cost := cost }, s)
    else
      let (xp, yp) := s.planePos n p x
      let bias := field rel 16 4
      let (h, bad, s) := if refine then s.reliefNear p bias xp yp else (bias, [], s)
      let z := if refine then clampInt (-32768) 32767 (z + ((h : Int) - bias) * signed 16 (field rel 0 16)) else z
      let x := s.footprint n p r z
      if !inReach x then
        let (l, s) := s.freeLight
        ({ light := l, cost := cost, bad := bad }, s)
      else
        let (xp, yp) := s.planePos n p x
        ({ light := bilinear xp yp (s.texel n lutBad p), cost := cost, bad := bad ++ s.badTexels p xp yp }, s)

/-- A sample blended into a ray (R187). -/
def blend (r c : Light) : Light :=
  let t := 65536 - r.a
  let f (x y : Nat) := min (x + (t * y + 32768) / 65536) 131071
  { c0 := f r.c0 c.c0, c1 := f r.c1 c.c1, c2 := f r.c2 c.c2, a := r.a + (t * c.a + 32768) / 65536 }

/-- What the rays of a line come to so far: rays in reverse order, their plane-samples, the failing words read, the last
first, each with the hogel and the place in the plane list of the visit that fetched it. DEDUCED, log 70. -/
structure LineSum where
  rays    : List Light := []
  samples : Nat := 0
  bad     : List (Nat × Nat × Nat) := []
deriving DecidableEq, Repr

/-- The visits of a ray through the planes `l`, ending early where ET_EN is 1 and A has reached 65,472 (R188). -/
def State.visits (s : State) (n : QuadId) (lutBad : List Nat) (r : RayOf) (et : Bool) :
    List (Fin 16) → Light → LineSum → Light × LineSum × State
  | [], c, m => (c, m, s)
  | p :: l, c, m =>
    let (v, s) := s.visit n lutBad p r
    let c := blend c v.light
    let m := { m with samples := m.samples + v.cost, bad := v.bad.reverse.map (fun w => (r.i, l.length, w)) ++ m.bad }
    if et ∧ 65472 ≤ c.a then (c, m, s) else s.visits n lutBad r et l c m

/-- The plane list of quadrant `n`: its first N_eff slots (R182, R183). -/
def State.planeList (s : State) (n : QuadId) : List (Fin 16) :=
  let o := (s.liveRd (A.SYN_ORDER0 n)).toNat + (s.liveRd (A.SYN_ORDER1 n)).toNat * 2 ^ 32
  (List.range (s.get (F.SYN_STATUS_EFF_PLANES n))).map fun i => ⟨o / 16 ^ i % 16, Nat.mod_lt _ (by decide)⟩

/-- One ray added to the line (R187, R191). -/
def State.addRay (s : State) (n : QuadId) (lutBad : List Nat) (r : RayOf) (m : LineSum) : LineSum × State :=
  let (c, m, s) := s.visits n lutBad r (s.liveFlag (F.SYN_CFG_ET_EN n)) (s.planeList n) {} m
  ({ m with rays := c :: m.rays }, s)

/-- The rays of line `line` of quadrant `n`, by hogel from left to right and by direction within a hogel (R192). A hogel
column for which no record was read in this row, the panel having grown since, takes the identity record.
DESIGN CHOICE, log 67. -/
def State.lineRays (s : State) (n : QuadId) (lutBad : List Nat) (line : Nat) (recs : List Nat) : LineSum × State :=
  let j := line / s.dirRows
  let v := line % s.dirRows
  let w := s.hogelCols / 4
  (List.range w).foldl (init := (({} : LineSum), s)) fun acc col =>
    let g := geoRecOf (recs.getD col 0)
    (List.range s.dirCols).foldl (init := acc) fun (m, s) u =>
      let (tu, tv) := corrected (s.tanU u) (s.tanV v) g
      s.addRay n lutBad { i := n.val * w + col, j := j, g := g, tu := tu, tv := tv } m

/-! ### Geometry records -/

/-- Record `x` read with a parity error (R147, R477). -/
def State.geoPerr (s : State) (x : Nat) : State :=
  let s := ((s.count F.GEO_STATUS_PERR_COUNT).set F.GEO_STATUS_PERR).wr A.GEO_PERR_INDEX
    (BitVec.ofNat 32 (x % 2 ^ 18 + 2 ^ 31))
  s.parityErr 4 x

/-- Quadrant `n` reads the records of hogel row `j` for frame `k` (R144): those that fail their parity, from now on the
ones of the columns `perr` too, are taken as the identity record (R147). A row at or beyond V has no records: free values.
DESIGN CHOICE, log 67. -/
def State.readRecords (s : State) (n : QuadId) (j : Nat) (k : Int) (perr : List Nat) : State :=
  let s := s.geoAdvance
  let w := s.hogelCols / 4
  let at_ (col : Nat) := j * s.hogelCols + n.val * w + col
  if j < s.hogelRows then
    let more := ((perr.filter (· < w)).map at_).filter fun x => !s.geo.bad.contains x
    let s : State := { s with geo := { s.geo with bad := s.geo.bad ++ more.eraseDups } }
    let fails (col : Nat) : Bool := s.geo.bad.contains (at_ col)
    let recs := (List.range w).map fun col => if fails col then 0 else s.geoRecord (at_ col)
    let s := forAll ((List.range w).filter fails) s fun s col => s.geoPerr (at_ col)
    (s.setSy n { s.sy n with recs := recs }).geoRowRead n j k
  else
    let (recs, s) := (List.range w).foldl (init := (([] : List Nat), s)) fun (l, s) _ =>
      let (x, s) := s.draw 54
      (x :: l, s)
    s.setSy n { s.sy n with recs := recs }

/-! ### The frame -/

/-- A write of frame number `v` to Qn_SYN_GO takes effect (R75, R199). DEDUCED, log 69. -/
def State.synGo (s : State) (n : QuadId) (v : Word) : State :=
  if s.cadenceOk && s.geoOk then
    let k := s.resolveFrame v
    let late := decide (s.lineAt k (-(s.runahead : Int)) < (s.wall16 : Int))
    let s := ((s.set (F.SYN_STATUS_BUSY n)).setIf late (F.SYN_STATUS_LATE_GO n)).clr (F.SYN_SAMPLES_HI_VALID n)
    s.setSy n { frame := some k, doneAt := s.wt.cycle, missed := if s.reached (s.frameAt k) then some k else none }
  else s.set (F.SYN_STATUS_GO_BAD n)

/-- SYN_GO: a write that finds the synthesiser busy does not come about here (R73). -/
def execSynGo (n : QuadId) (v : Word) (s : State) : Out :=
  if s.flag (F.SYN_STATUS_BUSY n) then .next s else .next (s.synGo n v)

/-- Line `line` of frame `k` may start (R22). -/
def State.lineDue (s : State) (k : Int) (line : Nat) : Bool :=
  s.cadenceOk && s.geoOk && decide (line < s.vActive) && s.reached (s.lineAt k ((line : Int) - s.runahead))

/-- SYN_LINE_START (R22, R192, R193): the next line starts, the line before it being complete. `perr` are the quadrant columns whose records are first found
failing, `fails` the 8-byte scene-store words that the line's reads first find failing (R476), `corr` those that they find
with a correctable error, once per read (R475), `lut` the addresses of LUT entries that read with a parity error,
`stall` the cycles in which lanes wait (R196). DEDUCED, log 66; DESIGN CHOICE, log 172; DESIGN CHOICE, log 173. -/
def execSynLineStart (n : QuadId) (perr fails corr lut : List Nat) (stall : Nat) (s : State) : Out :=
  match (s.sy n).frame with
  | some k =>
    let line := (s.sy n).next
    if s.lineDue k line && (s.sy n).work.isEmpty then
      let s := if line % s.dirRows = 0 then s.readRecords n (line / s.dirRows) k perr else s
      let s : State := { s with ing := { s.ing with bad := s.ing.bad ++ fails.filter (fun w => !s.ing.bad.contains w) } }
      let s := forAll corr s fun s w => s.sramCorr 0 w
      let (m, s) := s.lineRays n lut line (s.sy n).recs
      let s := (forAll m.bad.reverse.eraseDups s fun s w => s.sramUncorr 0 w.2.2).lutParity lut
      let y := s.sy n
      let l : SynLine :=
        { line := line, rays := m.rays.reverse, cost := ceilDiv m.samples 128 + stall
          fill := line == 0 || decide (y.doneAt < s.wt.cycle), since := s.wt.cycle }
      .next (s.setSy n { y with next := line + 1, work := y.work ++ [l], samples := y.samples + m.samples
                                xstall := y.xstall + stall })
    else .next s
  | none => .next s

/-- Frame `k` is done: its counters are written and SYN_DONE is pushed (R199, R517). -/
def State.synDone (s : State) (n : QuadId) (k : Int) : State :=
  let y := s.sy n
  let s := s.wr (A.SYN_FRAME n) (BitVec.ofNat 32 (unsigned 32 k))
  let s := s.wr (A.SYN_SAMPLES_LO n) (BitVec.ofNat 32 y.samples)
  let s := s.wr (A.SYN_SAMPLES_HI n) (BitVec.ofNat 32 (y.samples / 2 ^ 32 % 16 + 2 ^ 31))
  let s := s.wr (A.SYN_XSTALL n) (BitVec.ofNat 32 (min y.xstall (2 ^ 32 - 1)))
  let s := s.wr (A.SYN_MAXLINE n) (BitVec.ofNat 32 (y.maxCost % 2 ^ 18 + y.maxLine % 2 ^ 14 * 2 ^ 18))
  let s := (s.clr (F.SYN_STATUS_BUSY n)).setSy n { y with frame := none, recs := [] }
  s.quadEvent n 0x12 0 (unsigned 32 k)

/-- A credit of quadrant `n`'s output staging is free for one more line: lines that wait for composition take one too
(R22, R116, R118). DEDUCED, log 66. -/
def State.stagingRoom (s : State) (n : QuadId) : Bool :=
  decide ((s.cm n).ready.length + (s.cm n).staged.length ≤ s.runahead)

/-- SYN_LINE_COMPLETE (R193): the oldest line in work is complete, its cycles having passed since its start and since
the line before it was complete. Of lines of equal cost the first is MAXLINE's.
DEDUCED, log 66; DESIGN CHOICE, log 218. -/
def execSynLineComplete (n : QuadId) (s : State) : Out :=
  let y := s.sy n
  match y.frame, y.work with
  | some k, l :: rest =>
    if max l.since y.doneAt + (if l.fill then 48 else 0) + l.cost ≤ s.wt.cycle ∧ s.stagingRoom n then
      let s := s.setCm n { s.cm n with ready := (s.cm n).ready ++ [{ frame := k, line := l.line, rays := l.rays }] }
      let s := s.setSy n { y with work := rest, doneAt := s.wt.cycle, maxCost := max y.maxCost l.cost
                                  maxLine := if y.maxCost < l.cost then l.line else y.maxLine }
      .next (if l.line + 1 = s.vActive then s.synDone n k else s)
    else .next s
  | _, _ => .next s

/-- Quadrant `n` gives up frame `k` (R23, R230, R560): where it is in production, the synthesiser abandons it, its
lines on the way to staging are discarded, and the map streamer stops. DEDUCED, log 69. -/
def State.giveUp (s : State) (n : QuadId) (k : Int) : State :=
  let s := s.setIf ((s.sy n).frame == some k || (s.cm n).ready.any (·.frame == k)) (F.SYN_STATUS_ABANDON n)
  let s := if (s.sy n).frame = some k then
      (s.clr (F.SYN_STATUS_BUSY n)).setSy n { s.sy n with frame := none, work := [], recs := [] }
    else s
  let c := s.cm n
  let s := s.setCm n { c with ready := c.ready.filter (·.frame ≠ k), staged := c.staged.filter (·.frame ≠ k)
                              frame := if c.frame = some k then none else c.frame }
  if (s.mp n).frame = some k then
    (s.setMp n { s.mp n with frame := none, items := [] }).put (F.MAP_LEVEL_LEVEL n) 0
  else s

end Sys2Proof.Machine
end

