-- ==== Sys2Proof/Machine/Maps.lean ====
section
/-!
DEFINITION. Sys2Proof/Machine/Maps.lean: uniformity maps (R223 to R236): record layout, banks and their BUSY bits,
the map streamer and its buffer, record errors, and the gain and offset of an emitter.
-/

namespace Sys2Proof.Machine

/-- Bank `b` of quadrant `n` has incomplete writes (R233). -/
def State.mapBusy (s : State) (n : QuadId) (b : Nat) : Bool :=
  s.geoOk && (s.descs.any (s.descHitsBank n b) || (s.dr n).wq.any fun e => s.hitsBank n b (64 * e.1) (64 * e.1 + 64))

/-! ### The streamer -/

/-- The 64-byte units of an item. -/
def State.itemUnits (s : State) (x : MapItem) : Nat := if x.part = 0 then 1 else s.sliceBytes / 64

/-- The units in quadrant `n`'s map stream buffer. -/
def State.mapLevel (s : State) (n : QuadId) : Nat := ((s.mp n).items.map s.itemUnits).foldl (· + ·) 0

/-- Qn_MAP_LEVEL follows the buffer: LEVEL, and the lowest LEVEL while STREAM_DONE is 0 (R229). DEDUCED, log 73. -/
def State.noteLevel (s : State) (n : QuadId) : State :=
  let l := s.mapLevel n
  let s := s.put (F.MAP_LEVEL_LEVEL n) l
  if s.flag (F.MAP_STATUS_STREAM_DONE n) then s
  else s.put (F.MAP_LEVEL_MIN_LEVEL n) (min l (s.get (F.MAP_LEVEL_MIN_LEVEL n)))

/-- A record read with an uncorrectable error: quadrant index `x`, slice `v`, or the header (R236). -/
def State.mapErr (s : State) (n : QuadId) (x v : Nat) (hdr : Bool) : State :=
  let s := (s.count (F.MAP_ERR_COUNT_COUNT n)).set (F.MAP_STATUS_ERR n)
  let s := s.wr (A.MAP_ERR_INDEX n)
    (BitVec.ofNat 32 (x % 2 ^ 17 + (if hdr then 2 ^ 24 else v % 16 * 2 ^ 20) + 2 ^ 31))
  let m := s.mp n
  if m.told then s
  else
    let k : Int := m.frame.getD 0
    (s.setMp n { m with told := true }).quadEvent n 0x34 (if hdr then 0 else 1) (unsigned 32 k)

/-- Column `col` of hogel row `j` is uncorrected from slice `v` on, or in the whole row for its header (R236).
DEDUCED, log 73. -/
def State.mapDead (s : State) (n : QuadId) (j col v : Nat) (hdr : Bool) : State :=
  let m := s.mp n
  let s := s.setMp n { m with dead := (j, col, if hdr then 0 else v) :: m.dead }
  s.mapErr n (j * (s.hogelCols / 4) + col) v hdr

/-- The stream of frame `k` begins with an empty buffer (R26, R228, R231). DEDUCED, log 73. -/
def State.mapStart (s : State) (n : QuadId) (k : Int) : State :=
  let s := (s.clr (F.MAP_STATUS_STREAM_DONE n)).setMp n
    { frame := if s.flag (F.MAP_STATUS_LIVE_EN n) then some k else none, past := (s.mp n).past, flip := (s.mp n).flip }
  (s.wr (A.MAP_LEVEL n) 0).wr (A.MAP_LEVEL_FRAME n) (BitVec.ofNat 32 (unsigned 32 k))

/-- MAP_STREAM_FETCH (R228): the streamer reads the next header or slice of its frame where the buffer has room for
it. -/
def execMapStreamFetch (n : QuadId) (s : State) : Out :=
  let m := s.mp n
  match m.frame with
  | some _ =>
    let w := s.hogelCols / 4
    let group := (1 + s.dirRows) * w
    let (j, part, col) := (m.pos / group, m.pos % group / w, m.pos % w)
    let x := j * w + col
    let a := s.mapBase n (s.get (F.MAP_STATUS_LIVE_BANK n)) + x * s.recSize
      + (if part = 0 then 0 else 64 + (part - 1) * s.sliceBytes)
    let len := if part = 0 then 64 else s.sliceBytes
    if s.geoOk ∧ j < s.hogelRows ∧ s.dramServes n ∧ s.mapLevel n + len / 64 ≤ 32768 then
      let (b, marked, s) := s.readBytes n a len
      let item : MapItem := { row := j, part := part, col := col
                              data := if marked.isEmpty then some (leNat b) else none }
      let s := s.setMp n { s.mp n with pos := m.pos + 1, items := (s.mp n).items ++ [item] }
      let s := if marked.isEmpty then s else s.mapDead n j col (part - 1) (part == 0)
      let s := forAll marked.tail s fun s _ => s.mapErr n x (part - 1) (part == 0)
      let s := s.put (F.MAP_LEVEL_LEVEL n) (s.mapLevel n)
      .next (if m.pos + 1 = s.hogelRows * group then s.set (F.MAP_STATUS_STREAM_DONE n) else s)
    else .next s
  | none => .next s

/-- The headers of hogel row `j` and slice `v` of that row are in the buffer (R229); always so while EN is 0. -/
def State.mapBuffered (s : State) (n : QuadId) (k : Int) (j v : Nat) : Bool :=
  let m := s.mp n
  let w := s.hogelCols / 4
  let n0 := (m.items.filter fun x => x.row == j && x.part == 0).length
  let n1 := (m.items.filter fun x => x.row == j && x.part == v + 1).length
  !s.flag (F.MAP_STATUS_LIVE_EN n) || (m.frame == some k && n0 == w && n1 == w)

/-- The units that line `line` of the frame used leave the buffer (R229). -/
def State.mapFree (s : State) (n : QuadId) (j v : Nat) : State :=
  let m := s.mp n
  let last := v + 1 = s.dirRows
  let gone (x : MapItem) : Bool := x.row == j && (x.part == v + 1 || decide last)
  let s := s.setMp n { m with items := m.items.filter (fun x => !gone x)
                              dead := if last then m.dead.filter (fun d => d.1 ≠ j) else m.dead }
  if s.flag (F.MAP_STATUS_LIVE_EN n) then s.noteLevel n else s

/-- Gain and offset of the emitter of colour `k` in a hogel whose header is `hdr` and whose residual code is `c`
(R225, R226). -/
def gainOf (hdr c k : Nat) : Nat × Int :=
  if bit hdr 510 then
    (8192 + 16 * (hdr / 2 ^ (160 * k + 10 * c) % 1024), 4 * signed 10 (hdr / 2 ^ (480 + 10 * k)))
  else (16384, 0)

/-- Header and slice of column `col` in the buffer. -/
def State.mapParts (s : State) (n : QuadId) (j v col : Nat) : Option (Nat × Nat) :=
  let find (part : Nat) := ((s.mp n).items.find? fun x => x.row == j && x.part == part && x.col == col).bind (·.data)
  if (s.mp n).dead.any (fun d => d.1 == j && d.2.1 == col && decide (d.2.2 ≤ v)) then none
  else
    match find 0, find (v + 1) with
    | some h, some x => some (h, x)
    | _, _ => none

/-- Gain and offset of emitter `q` = 3·u + k of column `col` on line (j, v) (R202, R225, R226, R231, R236): free values
while the live bank has been written (U02). DESIGN CHOICE, log 74. -/
def State.gain (s : State) (n : QuadId) (parts : Option (Nat × Nat)) (col q : Nat) : Nat × Int :=
  if s.flag (F.MAP_STATUS_LIVE_EN n) then
    if (s.mp n).past then
      let at_ := s.free + 2 * (col * 3 * s.dirCols + q)
      (Config.freeNat at_ % 2 ^ 16, signed 16 (Config.freeNat (at_ + 1)))
    else
      match parts with
      | some (h, x) => gainOf h (x / 16 ^ q % 16) (q % 3)
      | none => (16384, 0)
  else (16384, 0)

/-- What line (j, v) has drawn where its gains are free values. -/
def State.gainsDrawn (s : State) (n : QuadId) : State :=
  if s.flag (F.MAP_STATUS_LIVE_EN n) && (s.mp n).past then
    { s with free := s.free + 2 * (s.hogelCols / 4 * 3 * s.dirCols) }
  else s

end Sys2Proof.Machine
end

