-- ==== Sys2Proof/Machine/Compose.lean ====
section
/-!
DEFINITION. Sys2Proof/Machine/Compose.lean: composition and colour (R201 to R217): LUT windows, overlay rows and the
packed-surface format, the merge of overlays, gain, offset and drive codes.
-/

namespace Sys2Proof.Machine

/-! ### LUT windows -/

/-- Set `x` (18 the post-blend set) has bank `b` live, or a pending COMMIT will make it live (R206). -/
def State.lutLocked (s : State) (n : QuadId) (x b : Nat) : Bool :=
  let sel (w : Word) : Bool := field w x 1 == b
  sel (s.liveRd (A.CMP_LUTSEL n))
    || (s.flag (F.CMP_STATUS_PENDING n) && !(s.cm n).lateOnly && sel (s.keptRd (A.CMP_LUTSEL n)))
    || ((s.cm n).late && sel (s.rd (A.CMP_LUTSEL n)))

/-- The register that holds entries 2·i and 2·i + 1 of colour `ch` of bank `b` of set `x` (R205). -/
def lutAddr (n : QuadId) (x b ch i : Nat) : Nat := if x < 18 then A.LUT_PRE n x b ch i else A.LUT_POST n b ch i

/-- A word written to a LUT window (R205, R206). -/
def State.lutWrite (s : State) (n : QuadId) (x b ch i : Nat) (v : Word) : State :=
  if s.lutLocked n x b then s.set (F.CMP_STATUS_LUT_STALE n)
  else s.wr (lutAddr n x b ch i) (if x < 18 then v else v &&& 0x3FF03FF)

/-- LUT_WRITE: word `i` of colour `ch` of bank `b`; a pre-blend window has 512 words a colour. -/
def execLutWrite (n : QuadId) (x : Fin 19) (b : Fin 2) (ch : Fin 3) (i : Fin 2048) (v : Word) (s : State) : Out :=
  if x.val < 18 ∧ 512 ≤ i.val then .next s else .next (s.lutWrite n x b ch i v)

/-! ### Overlays -/

/-- An overlay's live configuration. -/
structure Ovl where
  fmt    : Nat
  packed : Bool
  scale  : Bool
  under  : Bool
  base   : Nat
  size   : Nat
  pitch  : Nat
  srcW   : Nat
  srcH   : Nat
  x      : Nat
  y      : Nat
  w      : Nat
  h      : Nat
deriving DecidableEq, Repr

/-- Overlay `o` of quadrant `n` as its live registers give it. -/
def State.ovl (s : State) (n : QuadId) (o : Fin 2) : Ovl :=
  { fmt := s.liveGet (F.OVL_CTRL_FORMAT n o), packed := s.liveFlag (F.OVL_CTRL_PACKED n o)
    scale := s.liveFlag (F.OVL_CTRL_SCALE n o), under := s.liveFlag (F.OVL_CTRL_UNDER n o)
    base := (s.liveRd (A.OVL_BASE n o)).toNat, size := (s.liveRd (A.OVL_SIZEBASE n o)).toNat
    pitch := s.liveGet (F.OVL_PITCH_PITCH n o) * 64, srcW := s.liveGet (F.OVL_SRC_SRC_W n o)
    srcH := s.liveGet (F.OVL_SRC_SRC_H n o), x := s.liveGet (F.OVL_DSTPOS_DST_X n o)
    y := s.liveGet (F.OVL_DSTPOS_DST_Y n o), w := s.liveGet (F.OVL_DSTSIZE_DST_W n o)
    h := s.liveGet (F.OVL_DSTSIZE_DST_H n o) }

/-- Overlay `o` was accepted for the live frame (R213). -/
def State.ovlLive (s : State) (n : QuadId) (o : Fin 2) : Bool := bit (s.get (F.CMP_STATUS_OVL_LIVE n)) o

/-- Bytes of a pixel (the Overlay formats table). -/
def Ovl.bytes (v : Ovl) : Nat := match v.fmt with | 0 => 4 | 1 => 4 | 2 => 2 | _ => 1

/-- The source position of rectangle coordinate `a`, of `src` pixels over `dst`, in units of 2^-8 (R209). -/
def resample (a src dst : Nat) : Int := (((2 * a + 1) * src : Nat) - (dst : Int)) * 256 / (2 * dst)

/-- A texel index held to the surface (R209). -/
def heldTo (x : Int) (src : Nat) : Nat := (clampInt 0 ((src : Int) - 1) x).toNat

/-- The source indices that rectangle coordinate `a` uses on one axis (R209). -/
def Ovl.uses (v : Ovl) (a src dst : Nat) : List Nat :=
  if v.scale then
    let x := resample a src dst / 256
    [heldTo x src, heldTo (x + 1) src].eraseDups
  else if a < src then [a] else []

/-- The source rows that hogel row `j` needs (R212). -/
def Ovl.rows (v : Ovl) (j : Nat) : List Nat :=
  if v.y ≤ j ∧ j < v.y + v.h then v.uses (j - v.y) v.srcH v.h else []

/-- The source columns that the rectangle uses (R212), in rising order. -/
def Ovl.cols (v : Ovl) : List Nat :=
  (List.range v.w).foldl (init := []) fun l a => l ++ (v.uses a v.srcW v.w).filter (fun x => !l.contains x)

/-- The words of DRAM that `as` lie in, each once. -/
def wordsOf (as : List Nat) : List Nat := (as.map (· / 64)).eraseDups

/-- The words `ws` of quadrant `n`'s DRAM read: their bytes, none for a marked one. -/
def State.fetchWords (s : State) (n : QuadId) : List Nat → List (Nat × Option (List Byte)) × State
  | [] => ([], s)
  | w :: t =>
    let (m, b, s) := s.readWord n w
    let (l, s) := s.fetchWords n t
    ((w, if m then none else some b) :: l, s)

/-- `k` bytes at `a` among fetched words, as a number; none where their word is marked or was not fetched. -/
def fetched (l : List (Nat × Option (List Byte))) (a k : Nat) : Option Nat :=
  match l.find? (fun e => e.1 == a / 64) with
  | some (_, some b) => some (leNat ((b.drop (a % 64)).take k))
  | _ => none

/-- Row `y` of a linear surface read, at its used columns (R211). -/
def State.linearRow (s : State) (n : QuadId) (v : Ovl) (y : Nat) : OvlRow × State :=
  let at_ (x : Nat) := v.base / 64 * 64 + y * v.pitch + x * v.bytes
  let (l, s) := s.fetchWords n (wordsOf (v.cols.map at_))
  ({ y := y, px := v.cols.map fun x => (x, fetched l (at_ x) v.bytes) }, s)

/-! ### Packed surfaces -/

/-- A size byte keeps the rules of the Packed size byte table (R214). -/
def sizeByteOk (b : Nat) : Bool :=
  decide (1 ≤ b % 16) && decide (b % 16 ≤ 8) && b / 16 % 8 == 0 && (b / 128 == 0 || b % 16 == 8)

/-- What a block gives for one pixel. -/
inductive PackedPx where
  | code (c : Nat)   -- the pixel's 32-bit code
  | zero             -- it lies in a word read with an error (R212)
  | open_            -- its residual lies beyond the sectors that were read
deriving DecidableEq, Repr

/-- `k` bits from bit `i` on of a block of which `len` bytes were read, byte by byte from `byte`. -/
def blockBits (byte : Nat → Option Nat) (len i k : Nat) : PackedPx :=
  if k = 0 then .code 0
  else
    let first := i / 8
    let last := (i + k - 1) / 8
    if len ≤ last then .open_
    else
      match byte first, byte last with
      | some a, some b => .code ((a + (if first = last then 0 else 256 * b)) / 2 ^ (i % 8) % 2 ^ k)
      | _, _ => .zero

/-- The widths of an encoded block (R215). -/
def blockWidths (b4 b5 : Nat) : List Nat := [b4 % 16, b4 / 16, b5 % 16, b5 / 16]

/-- Pixel `q` of an encoded block with lane bases `base` and widths `w` (R215): lanes of residuals added to the
bases, modulo 256. DESIGN CHOICE, log 74. -/
def blockPixel (byte : Nat → Option Nat) (len q : Nat) (base w : List Nat) : PackedPx :=
  (List.range 4).foldl (init := .code 0) fun acc l =>
    let start := 48 + 64 * ((w.take l).foldl (· + ·) 0)
    match acc, blockBits byte len (start + q * w.getD l 0) (w.getD l 0) with
    | .zero, _ => .zero
    | _, .zero => .zero
    | .open_, _ => .open_
    | _, .open_ => .open_
    | .code c, .code r => .code (c + (base.getD l 0 + r) % 256 * 256 ^ l)

/-- Pixel `q` of a block whose size byte is `size` (R215, R216): none where the block is invalid.
DESIGN CHOICE, log 74. -/
def packedPixel (byte : Nat → Option Nat) (size q : Nat) : Option PackedPx :=
  if !sizeByteOk size then none
  else if 128 ≤ size then
    match byte (4 * q), byte (4 * q + 1), byte (4 * q + 2), byte (4 * q + 3) with
    | some a, some b, some c, some d => some (.code (a + 256 * b + 65536 * c + 2 ^ 24 * d))
    | _, _, _, _ => some .zero
  else
    match byte 0, byte 1, byte 2, byte 3, byte 4, byte 5 with
    | some a, some b, some c, some d, some e, some f =>
      let w := blockWidths e f
      if w.all (· ≤ 8) then some (blockPixel byte (32 * (size % 16)) q [a, b, c, d] w) else none
    | _, _, _, _, _, _ => some .zero

/-- A pixel as the line buffer keeps it, a free code where the spec states none. -/
def State.settle (s : State) (p : PackedPx) : Option Nat × State :=
  match p with
  | .code c => (some c, s)
  | .zero => (none, s)
  | .open_ => let (c, s) := s.draw 32; (some c, s)

/-- The pixels of row `y` in block column `bx` at columns `xs`, and whether the block is invalid (R217). -/
def State.packedBlock (s : State) (n : QuadId) (v : Ovl) (y bx : Nat) (xs : List Nat) :
    List (Nat × Option Nat) × Bool × State :=
  let bw := ceilDiv v.srcW 16
  let index := y / 4 * bw + bx
  let (l, s) := s.fetchWords n [(v.size + index) / 64]
  match fetched l (v.size + index) 1 with
  | none => (xs.map fun x => (x, none), false, s)
  | some size =>
    let slot := v.base + index * 256
    let sectors := if sizeByteOk size then size % 16 else 0
    let (l, s) := s.fetchWords n (wordsOf ((List.range sectors).map fun i => slot + 32 * i))
    let byte (i : Nat) := fetched l (slot + i) 1
    xs.foldl (init := (([] : List (Nat × Option Nat)), false, s)) fun (px, bad, s) x =>
      match packedPixel byte size (16 * (y % 4) + x % 16) with
      | none => (px ++ [(x, none)], true, s)
      | some p =>
        let (c, s) := s.settle p
        (px ++ [(x, c)], bad, s)

/-- Row `y` of a packed surface read, at its used columns (R217); an invalid block sets PACK_ERR (R216). -/
def State.packedRow (s : State) (n : QuadId) (o : Fin 2) (v : Ovl) (y : Nat) : OvlRow × State :=
  let (px, bad, s) := (v.cols.map (· / 16)).eraseDups.foldl (init := (([] : List (Nat × Option Nat)), false, s))
    fun (px, bad, s) bx =>
      let (p, b, s) := s.packedBlock n v y bx (v.cols.filter (fun x => x / 16 == bx))
      (px ++ p, bad || b, s)
  let s := if bad then
      s.setBit (F.CMP_STATUS_PACK_ERR n) o
    else s
  ({ y := y, px := px }, s)

/-- The reads of block column `bx` of row `y` of a misaligned packed surface: the size byte's word, and a free number of those
of its 256 bytes, within the quadrant's DRAM (case U07). Words that they find marked count as any other (R483). -/
def State.freeReads (s : State) (n : QuadId) (v : Ovl) (y bx : Nat) : State :=
  let index := y / 4 * ceilDiv v.srcW 16 + bx
  let (k, s) := s.draw 3
  let ws := (v.size + index) / 64 :: (List.range (k % 5)).map fun i => (v.base + index * 256) / 64 + i
  (s.fetchWords n (ws.filter fun w => decide (64 * w < s.dramSize n))).2

/-- Row `y` of a packed surface whose BASE or SIZEBASE is misaligned: free pixels (case U07). DESIGN CHOICE, log 71. -/
def State.freeRow (s : State) (n : QuadId) (v : Ovl) (y : Nat) : OvlRow × State :=
  let s := forAll (v.cols.map (· / 16)).eraseDups s fun s bx => s.freeReads n v y bx
  let (px, s) := v.cols.foldl (init := (([] : List (Nat × Option Nat)), s)) fun (px, s) x =>
    let (c, s) := s.draw 32
    (px ++ [(x, some c)], s)
  ({ y := y, px := px }, s)

/-- A source row read into overlay `o`'s line buffer. -/
def State.ovlRow (s : State) (n : QuadId) (o : Fin 2) (y : Nat) : OvlRow × State :=
  let v := s.ovl n o
  if v.packed then
    if v.base % 64 = 0 ∧ v.size % 64 = 0 then s.packedRow n o v y else s.freeRow n v y
  else s.linearRow n v y

/-- The hogel row of the next line to compose. -/
def State.cmpRow (s : State) (n : QuadId) : Nat := (s.cm n).next / s.dirRows

/-- The source rows that overlay `o` needs for hogel row `j` and does not hold. -/
def State.ovlMissing (s : State) (n : QuadId) (o : Fin 2) (j : Nat) : List Nat :=
  if s.ovlLive n o then ((s.ovl n o).rows j).filter fun y => !((s.cm n).ovl[o]).any (·.y == y) else []

/-- OVERLAY_ROW_READ (R212): the next source row that the hogel row of the next line needs; rows it does not need
leave the line buffer. -/
def execOverlayRowRead (n : QuadId) (o : Fin 2) (s : State) : Out :=
  let j := s.cmpRow n
  match s.ovlMissing n o j with
  | y :: _ =>
    if s.dramServes n ∧ (s.cm n).next < s.vActive then
      let need := (s.ovl n o).rows j
      let (r, s) := s.ovlRow n o y
      let c := s.cm n
      .next (s.setCm n { c with ovl := c.ovl.set o ((c.ovl[o]).filter (fun x => need.contains x.y) ++ [r]) })
    else .next s
  | [] => .next s

/-! ### Composition -/

/-- The buffered code of source pixel (x, y). -/
def ovlPixel (rows : List OvlRow) (x y : Nat) : Option Nat :=
  ((rows.find? (·.y == y)).bind fun r => (r.px.find? (·.1 == x)).map (·.2)).join

/-- A pixel of overlay `o` as R210 converts it; one that contributes nothing is 0 in all components (R212, R216). -/
def State.ovlTexel (s : State) (n : QuadId) (lut : List Nat) (o : Fin 2) (v : Ovl) (rows : List OvlRow) (x y : Nat) :
    Light :=
  let e (ch i : Nat) := s.preLut n lut (16 + o) ch i
  match ovlPixel rows x y with
  | none => {}
  | some c =>
    match v.fmt with
    | 2 =>
      let g := c / 32 % 64
      { c0 := e 0 (33 * (c / 2048 % 32)), c1 := e 1 (16 * g + g / 4), c2 := e 2 (33 * (c % 32)), a := 65536 }
    | 3 =>
      let a := alpha8 (c % 256)
      let f (ch i : Nat) := (e ch i * a + 32768) / 65536
      { c0 := f 0 (s.liveGet (F.OVL_COLOR_R n o)), c1 := f 1 (s.liveGet (F.OVL_COLOR_G n o))
        c2 := f 2 (s.liveGet (F.OVL_COLOR_B n o)), a := a }
    | f => pixel32 f c e

/-- Overlay `o`'s sample for quadrant column `col` of hogel row `j`, none outside its rectangle (R208, R209). -/
def State.ovlSample (s : State) (n : QuadId) (lut : List Nat) (o : Fin 2) (col j : Nat) : Option (Bool × Light) :=
  let v := s.ovl n o
  if s.ovlLive n o ∧ v.x ≤ col ∧ col < v.x + v.w ∧ v.y ≤ j ∧ j < v.y + v.h then
    let rows := (s.cm n).ovl[o]
    let (a, b) := (col - v.x, j - v.y)
    let t := s.ovlTexel n lut o v rows
    some (v.under,
      if v.scale then
        bilinear (resample a v.srcW v.w) (resample b v.srcH v.h) fun x y => t (heldTo x v.srcW) (heldTo y v.srcH)
      else if a < v.srcW ∧ b < v.srcH then t a b else {})
  else none

/-- The overlay's sample merged with the ray (R208). -/
def merge (r : Light) (o : Option (Bool × Light)) : Light :=
  match o with
  | none => r
  | some (true, c) =>
    let f (x y : Nat) := min (x + ((65536 - r.a) * y + 32768) / 65536) 131071
    { c0 := f r.c0 c.c0, c1 := f r.c1 c.c1, c2 := f r.c2 c.c2, a := r.a + ((65536 - r.a) * c.a + 32768) / 65536 }
  | some (false, c) =>
    let f (x y : Nat) := min (y + ((65536 - c.a) * x + 32768) / 65536) 131071
    { c0 := f r.c0 c.c0, c1 := f r.c1 c.c1, c2 := f r.c2 c.c2, a := c.a + ((65536 - c.a) * r.a + 32768) / 65536 }

/-- Linear light `v` under gain `g` and offset `o`, held to 0 to 131,071 (R202). -/
def applyGain (v g : Nat) (o : Int) : Nat := (clampInt 0 131071 (((v * g + 8192) / 16384 : Nat) + o)).toNat

/-- The drive code of `w` through a post-blend LUT `e` (R203). -/
def driveCode (e : Nat → Nat) (w : Nat) : BitVec 10 :=
  let i := w / 32
  let e0 : Int := e i
  let e1 : Int := if i + 1 < 4096 then e (i + 1) else e i
  BitVec.ofInt 10 (e0 + ((e1 - e0) * (w % 32 : Nat) + 16) / 32)

/-- Entry `i` of colour `ch` of the live post-blend LUT. -/
def State.postLut (s : State) (n : QuadId) (bad : List Nat) (ch i : Nat) : Nat :=
  let b := field (s.liveRd (A.CMP_LUTSEL n)) 18 1
  s.lutEntry (A.LUT_POST n b ch 0) 4096 bad i % 1024

/-- The colour of channel `k`. -/
def Light.ch (l : Light) (k : Nat) : Nat := match k with | 0 => l.c0 | 1 => l.c1 | _ => l.c2

/-- The drive codes of a line, in emitter-column order (R201). -/
def State.lineCodes (s : State) (n : QuadId) (lut : List Nat) (l : CmpLine) : List (BitVec 10) :=
  let j := l.line / s.dirRows
  let v := l.line % s.dirRows
  (List.range (s.hogelCols / 4)).flatMap fun col =>
    let o0 := s.ovlSample n lut 0 col j
    let o1 := s.ovlSample n lut 1 col j
    let parts := s.mapParts n j v col
    (List.range s.dirCols).flatMap fun u =>
      let r := merge (merge (l.rays.getD (col * s.dirCols + u) {}) o0) o1
      (List.range 3).map fun k =>
        let (g, o) := s.gain n parts col (3 * u + k)
        driveCode (s.postLut n lut k) (applyGain (r.ch k) g o)

/-- Items of the map stream buffer read with an uncorrectable error: columns, and whether the header (R236, R476). -/
def State.mapBufferErrors (s : State) (n : QuadId) (j v : Nat) (bad : List (Nat × Bool)) : State :=
  forAll (bad.filter fun e => e.1 < s.hogelCols / 4) s fun s e =>
    let (off, s) := s.drawOff 2
    (s.mapDead n j e.1 v e.2).sramUncorr 2 off

/-- Items of the map stream buffer read with a correctable error (R475). -/
def State.mapBufferCorrected (s : State) (corr : List (Nat × Bool)) : State :=
  forAll (corr.filter fun e => e.1 < s.hogelCols / 4) s fun s _ =>
    let (off, s) := s.drawOff 2
    s.sramCorr 2 off

/-- Line `l` may be composed: it is the next of its frame, staging has room for it (R118), and what it needs is
buffered (R212, R229). DEDUCED, log 72. -/
def State.composable (s : State) (n : QuadId) (l : CmpLine) : Bool :=
  let c := s.cm n
  let next := if l.line = 0 ∧ c.frame ≠ some l.frame then 0 else c.next
  let j := l.line / s.dirRows
  s.geoOk && l.line == next && (l.line == 0 || c.frame == some l.frame) && decide (c.staged.length ≤ s.runahead)
    && (s.ovlMissing n 0 j).isEmpty && (s.ovlMissing n 1 j).isEmpty && s.mapBuffered n l.frame j (l.line % s.dirRows)

/-- COMPOSE_LINE (R201): the oldest line that waits is composed into staging, or discarded where its frame is aborted
(R247). `lut` are the addresses of LUT entries
that read with a parity error, `bad` the map items that fail in the buffer, `corr` those that it corrects; they count
where EN is 1. DEDUCED, log 72. -/
def execComposeLine (n : QuadId) (lut : List Nat) (bad corr : List (Nat × Bool)) (s : State) : Out :=
  match (s.cm n).ready with
  | l :: rest =>
    if (s.scanU n).aborted = some l.frame then .next (s.giveUp n l.frame)
    else if s.composable n l then
      let j := l.line / s.dirRows
      let v := l.line % s.dirRows
      let s := if s.flag (F.MAP_STATUS_LIVE_EN n) then (s.mapBufferErrors n j v bad).mapBufferCorrected corr else s
      let codes := s.lineCodes n lut l
      let s := (s.gainsDrawn n).lutParity lut
      let c := s.cm n
      let s := s.setCm n { c with frame := some l.frame, next := l.line + 1, ready := rest
                                  staged := c.staged ++ [{ frame := l.frame, line := l.line, codes := codes }] }
      .next (s.mapFree n j v)
    else .next s
  | [] => .next s

end Sys2Proof.Machine
end

