-- ==== Sys2Proof/Machine/Tpl.lean ====
section
/-!
DEFINITION. Sys2Proof/Machine/Tpl.lean: bring-up of lane groups (R279, R280, R562, R563), the back channel (R277),
spare rotation and lane swaps (R284 to R288, R564).
-/

namespace Sys2Proof.Machine

/-- A TPL_LINK event of group `x` (R281, R285): to its SQn and SQS. -/
def State.tplEvent (s : State) (x : GroupId) (code lane pair : Nat) : State :=
  let d := x.val + lane * 256 + pair * 65536
  (s.quadEvent x.quad 0x37 code d).sqsEvent 0x37 code d

/-- Group `x` enters a stage. -/
def State.tplEnter (s : State) (x : GroupId) (stage : Nat) : State :=
  (s.put (F.TPL_STATUS_STAGE x.quad x.sub) stage).setGroup x { s.group x with since := s.wt.cycle }

/-- The pairs that the map names, by lane. -/
def State.mapPairs (s : State) (x : GroupId) : List Nat := (List.range 6).map (s.lanePair x)

/-- The logical lane on pair `p`. -/
def State.pairLane (s : State) (x : GroupId) (p : Nat) : Option Nat :=
  (List.range 6).find? fun l => s.lanePair x l == p

/-- Logical lane `l` moves to pair `p` in the map. -/
def State.setLane (s : State) (x : GroupId) (l p : Nat) : State := s.put ⟨A.TPL_MAP x.quad x.sub, 3 * l, 3⟩ p

/-- The data pair that no lane names; under U10 its choice is free (R266). -/
def State.spareOf (s : State) (x : GroupId) : Nat × State :=
  if s.mapClash x then
    let (p, s) := s.draw 8
    (p % 7, s)
  else (((List.range 7).find? fun p => !(s.mapPairs x).contains p).getD 6, s)

/-- The free pair. DEDUCED, log 86. -/
def State.freePair (s : State) (x : GroupId) : Nat := s.get (F.TPL_STATUS_FREE x.quad x.sub)

/-- There is no usable free pair. -/
def State.noSpare (s : State) (x : GroupId) : Bool := s.flag (F.TPL_STATUS_NOSPARE x.quad x.sub)

/-- What the group does with its free pair becomes `r`; ROT_PHASE follows. -/
def State.setRot (s : State) (x : GroupId) (r : TplRot) : State :=
  let phase := match r with | .align _ _ _ _ _ => 1 | .duplicate _ _ _ _ _ _ => 2 | _ => 0
  (s.put (F.TPL_STATUS_ROT_PHASE x.quad x.sub) phase).setGroup x { s.group x with rot := r }

/-! ### Stages -/

/-- Bring-up begins in DETECT (R279); pairs marked BAD are in use again (R284). -/
def State.tplBegin (s : State) (x : GroupId) : State :=
  let (n, g) := (x.quad, x.sub)
  let s := (((s.clr (F.TPL_STATUS_TARGET n g)).clr (F.TPL_STATUS_LOCK n g)).clr (F.TPL_STATUS_DET n g)).clr
    (F.TPL_STATUS_NOSPARE n g)
  let s := forAll (List.range 7) s fun s p => s.clr (F.TPL_PRBS_BAD n g p)
  let s := s.setGroup x { s.group x with caps := Vector.replicate 6 none, down := false, rate := 20, cmds := [] }
  (s.setRot x .none).tplEnter x 1

/-- Bring-up has failed (R279, R280). DEDUCED, log 84. -/
def State.tplFail (s : State) (x : GroupId) : State :=
  ((s.set (F.TPL_FLAGS_TRAIN_FAIL x.quad x.sub)).tplEnter x 7).tplEvent x 5 0 0

/-- A group unpowered in IDLE (R279, R289). DEDUCED, log 84. -/
def State.tplIdle (s : State) (x : GroupId) : State :=
  let s := ((s.clr (F.TPL_STATUS_TARGET x.quad x.sub)).clr (F.TPL_STATUS_LOCK x.quad x.sub)).setRot x .none
  (s.setGroup x { s.group x with down := false }).tplEnter x 0

/-- A write of Qn_TPLg_CTRL (R279, R563). A STOP while the quadrant scans is discarded with the write it is in.
DEDUCED, log 84. -/
def State.tplCtrl (s : State) (x : GroupId) (v : Word) : State :=
  let (n, g) := (x.quad, x.sub)
  if field v 1 1 = 1 ∧ s.scans n then s.set (F.TPL_FLAGS_STALE_WRITE n g)
  else
    let s := (s.put (F.TPL_CTRL_AUTO n g) (field v 2 1)).put (F.TPL_CTRL_ROT_EN n g) (field v 3 1)
    let stage := s.tplStage x
    if field v 1 1 = 1 then s.tplIdle x
    else if field v 0 1 = 1 ∧ (stage = 0 ∨ stage = 7) then s.tplBegin x
    else if stage = 7 ∧ (s.group x).down ∧ field v 2 1 = 1 then s.tplBegin x
    else s

/-- TPL_START: a write with START set and STOP clear. -/
def execTplStart (x : Fin 16) (v : Word) (s : State) : Out := .next (s.tplCtrl x ((v ||| 1) &&& 0xFFFFFFFD))

/-- TPL_STOP: a write with STOP set. -/
def execTplStop (x : Fin 16) (v : Word) (s : State) : Out := .next (s.tplCtrl x (v ||| 2))

/-- TPL_DETECT_DONE (R279, R562): 10 µs after entry, `det` are the pairs found terminated, bit 7 the clock pair; TRAIN
runs with TPL1 coding. -/
def execTplDetectDone (x : Fin 16) (det : Byte) (s : State) : Out :=
  let (n, g) := (GroupId.quad x, GroupId.sub x)
  if s.tplStage x = 1 ∧ s.passedUs (s.group x).since 10 then
    let pairs := (List.range 7).filter (bit det.toNat)
    if bit det.toNat 7 ∧ 6 ≤ pairs.length then
      let s := (s.put (F.TPL_STATUS_DET n g) (det.toNat % 128)).put (F.TPL_STATUS_VER n g) 1
      let (spare, s) := s.spareOf x
      match (List.range 6).find? (fun l => !bit det.toNat (s.lanePair x l)) with
      | some l =>
        let out := s.lanePair x l
        let s := (s.setLane x l spare).put (F.TPL_STATUS_FREE n g) out
        .next ((s.set (F.TPL_STATUS_NOSPARE n g)).tplEnter x 2)
      | none =>
        let s := s.put (F.TPL_STATUS_FREE n g) spare
        .next ((s.put (F.TPL_STATUS_NOSPARE n g) (b2n (pairs.length < 7))).tplEnter x 2)
    else .next (s.tplFail x)
  else .next s

/-- BACK_CHANNEL_LOCK: TRAIN advances (R279). -/
def execBackChannelLock (x : Fin 16) (s : State) : Out :=
  .next (if s.tplStage x = 2 then s.tplEnter x 3 else s)

/-- TPL_STAGE_TIMEOUT: 1 ms in stages 2 to 4, 2 ms in CAPS (R279). -/
def execTplStageTimeout (x : Fin 16) (s : State) : Out :=
  let st := s.tplStage x
  let us := if st = 5 then 2000 else 1000
  .next (if 2 ≤ st ∧ st ≤ 5 ∧ s.passedUs (s.group x).since us then s.tplFail x else s)

/-- ALIGN begins on pair `p`; the start of its block counter is not stated. DEDUCED, log 191. -/
def State.sendAlign (s : State) (x : GroupId) (p : Nat) : State :=
  let (c, s) := s.draw 48
  s.tplPut x fun v e => .align p v e c

/-- SYMBOL_LOCK: ALIGN on every detected data pair (R279). -/
def State.symbolLock (s : State) (x : GroupId) : State :=
  let det := (List.range 7).filter (bit (s.get (F.TPL_STATUS_DET x.quad x.sub)))
  forAll det (s.tplEnter x 4) fun s p => s.sendAlign x p

/-- The group is ACTIVE (R279); it sends HOLD until its next blanking (R281). -/
def State.tplUp (s : State) (x : GroupId) : State :=
  let s := s.tplEnter x 6
  (s.setGroup x { s.group x with holds := true, stay := Vector.replicate 6 false }).tplEvent x 4 0 0

/-- TPL_LINK_DOWN: the back channel has been silent for 20 µs, or CDIC 0 reports clock loss (R279). -/
def execTplLinkDown (x : Fin 16) (s : State) : Out :=
  if s.tplStage x = 6 then
    let s := (s.set (F.TPL_FLAGS_LINK_DOWN (GroupId.quad x) (GroupId.sub x))).tplEvent x 3 0 0
    let s := s.setRot x .none
    let s := (s.setGroup x { s.group x with down := true }).tplEnter x 7
    .next (if s.flag (F.TPL_CTRL_AUTO (GroupId.quad x) (GroupId.sub x)) then s.tplBegin x else s)
  else .next s

/-! ### CAPS -/

/-- The version and rate that R280 takes from the cascade's reports, none where the group fails. -/
def State.tplChoose (s : State) (x : GroupId) (caps : List CdicCaps) : Option (Nat × Nat) :=
  let vm := s.get (F.TPL_RATE_VER_MAX x.quad x.sub)
  let ver := if vm ≠ 0 then vm else if caps.all (·.verMax == 2) then 2 else 1
  let low := (caps.map (·.rateMax)).foldl min 255
  let set := s.get (F.TPL_RATE_RATE x.quad x.sub)
  let rate := if set = 0 then low else set
  let cols := (caps.map (·.colsMax)).foldl min 65535
  if vm = 3 ∨ rate < 20 ∨ low < rate ∨ (if ver = 2 then 225 else 112) < rate then none
  else if vm = 2 ∧ caps.any (fun c => c.verMax < 2) then none
  else if s.geoOk ∧ !s.colsOk caps.length cols then none
  else some (ver, rate)

/-- Every CDIC has reported: the group trains again at the target, or fails (R280). -/
def State.tplSettle (s : State) (x : GroupId) (caps : List CdicCaps) : State :=
  let (n, g) := (x.quad, x.sub)
  let s := s.wr (A.TPL_CAPS n g) (BitVec.ofNat 32 ((caps.map (·.verMax)).foldl min 3 % 4
    + (caps.map (·.rateMax)).foldl min 255 * 2 ^ 8 + (caps.map (·.colsMax)).foldl min 65535 * 2 ^ 16))
  match s.tplChoose x caps with
  | none => s.tplFail x
  | some (ver, rate) =>
    let s := ((s.put (F.TPL_STATUS_VER n g) ver).put (F.TPL_STATUS_NCDIC n g) caps.length).set (F.TPL_STATUS_TARGET n g)
    let s := s.tplSendOn x (s.lanePairs x 0) false (s.cmdPacket 15 0 (.rate ver rate))
    (s.setGroup x { s.group x with rate := rate }).tplEnter x 2

/-- A back-channel message that is no message or whose CRC-16 fails (R277). -/
def State.bcErr (s : State) (x : GroupId) : State := s.set (F.TPL_FLAGS_BC_ERR x.quad x.sub)

/-- CDIC `src` of a cascade of `nc` reports what it can do (R277, R280): `body` is a CAPS payload. -/
def State.tplCaps (s : State) (x : GroupId) (src nc : Nat) (body : List Byte) : State :=
  if h : src < 6 then
    let c : CdicCaps := { verMax := beAt body 0 1, rateMax := beAt body 1 1, colsMax := beAt body 2 2 }
    let s := s.setGroup x { s.group x with caps := (s.group x).caps.set src (some c) }
    let got := ((s.group x).caps.toList.take nc).filterMap id
    if got.length = nc then s.tplSettle x got else s
  else s

/-- CAPS: `msg` are the symbols of the message, `nc` the CDICs of the cascade. DESIGN CHOICE, log 83. -/
def execCaps (x : Fin 16) (msg : List (BitVec 10)) (nc : Nat) (s : State) : Out :=
  match bcMsg msg with
  | none => .next (s.bcErr x)
  | some m =>
    if m.typ = 2 ∧ m.body.length = 8 ∧ s.tplStage x = 5 ∧ (nc = 1 ∨ nc = 2 ∨ nc = 3 ∨ nc = 6) then
      .next (s.tplCaps x m.src nc m.body)
    else .next s

/-! ### STATUS -/

/-- A STATUS payload (R277), and whether CDIC 0 reports clock recovery on every detected data pair. FRAME, FALLBACK and
the free pair as CDIC 0 sees it report; no rule has the device act on them. DESIGN CHOICE, log 83. -/
def State.tplStatus (s : State) (x : GroupId) (src : Fin 6) (body : List Byte) (recovered : Bool) : State :=
  let (n, g) := (x.quad, x.sub)
  let lock := beAt body 3 1
  let f := beAt body 4 1
  let crc := beAt body 5 2
  let prbs := beAt body 7 3
  let s := if src.val = 0 then s.put (F.TPL_STATUS_LOCK n g) (lock % 128) else s
  let s := s.setIf (bit f 0) (F.TPL_FLAGS_WAVE_MISS n g)
  let s := s.setIf (0 < crc) (F.TPL_FLAGS_CRC_ERR n g)
  let s := s.wr (A.TPL_CRCERR n g) (BitVec.ofNat 32 (min ((s.rd (A.TPL_CRCERR n g)).toNat + crc) (2 ^ 32 - 1)))
  let s : State :=
    if bit f 3 then { s with emw := { s.emw with reports := s.emw.reports ++ [signed 16 (beAt body 1 2)] } } else s
  let y := s.group x
  let s := s.setGroup x { y with stay := y.stay.set src (bit f 2) }
  let s := match (s.group x).rot with
    | .dwell p t e fail => if src.val = 0 then s.setRot x (.dwell p t (min (e + prbs) (2 ^ 24 - 1)) fail) else s
    | _ => s
  if src.val ≠ 0 then s
  else
    let stage := s.tplStage x
    if stage = 3 ∧ recovered then s.symbolLock x
    else
      let det := s.get (F.TPL_STATUS_DET n g)
      if stage = 4 ∧ (List.range 7).all (fun p => !bit det p || bit lock p) then
        if s.flag (F.TPL_STATUS_TARGET n g) then s.tplUp x else s.tplEnter x 5
      else s

/-- STATUS: `msg` are the symbols of the message. DESIGN CHOICE, log 83. -/
def execStatus (x : Fin 16) (msg : List (BitVec 10)) (recovered : Bool) (s : State) : Out :=
  match bcMsg msg with
  | none => .next (s.bcErr x)
  | some m =>
    if h : m.src < 6 then
      if m.typ = 1 ∧ m.body.length = 12 ∧ 3 ≤ s.tplStage x ∧ s.tplStage x ≤ 6 then
        .next (s.tplStatus x ⟨m.src, h⟩ m.body recovered)
      else .next s
    else .next s

/-! ### Rotation and swaps -/

/-- A step or a swap begins with ALIGN on the free pair (R284, R285). -/
def State.tplAlign (s : State) (x : GroupId) (lane old : Nat) (fail : Bool) : State :=
  (s.setRot x (.align lane old (s.freePair x) s.wt.cycle fail)).sendAlign x (s.freePair x)

/-- Pair `p` is marked BAD and no usable free pair is left (R284, R287, R564). -/
def State.pairBad (s : State) (x : GroupId) (p : Nat) : State :=
  let (n, g) := (x.quad, x.sub)
  let s := ((s.set (F.TPL_PRBS_BAD n g p)).set (F.TPL_STATUS_NOSPARE n g)).set (F.TPL_FLAGS_PRBS_BAD n g)
  (s.setRot x .none).tplEvent x 6 0 p

/-- A lane is lost (R288). DEDUCED, log 85. -/
def State.laneLost (s : State) (x : GroupId) (lane pair : Nat) : State :=
  (s.set (F.TPL_FLAGS_LANE_LOST x.quad x.sub)).tplEvent x 2 lane pair

/-- CDIC 0 reports that `pair` fails (R285, R287, R288, R564). DEDUCED, log 85. -/
def State.laneFail (s : State) (x : GroupId) (pair : Nat) : State :=
  let f := s.freePair x
  match s.pairLane x pair with
  | none => if pair = f ∧ !s.flag (F.TPL_PRBS_BAD x.quad x.sub pair) then s.pairBad x pair else s
  | some l =>
    if s.noSpare x then s.laneLost x l pair
    else
      match (s.group x).rot with
      | .none => s.tplAlign x l pair true
      | .dwell _ _ _ _ => s.tplAlign x l pair true
      | .align lane old new t fail =>
        if old = pair then s.setRot x (.align lane old new t true)
        else if fail then s.laneLost x l pair
        else s.tplAlign x l pair true
      | .duplicate lane old new m step _ =>
        if old = pair then s.setRot x (.duplicate lane old new m step true)
        else s.laneLost x l pair

/-- LANE_FAIL: `msg` are the symbols of the message, in an ACTIVE group; the device acts on either cause (R285). -/
def execLaneFail (x : Fin 16) (msg : List (BitVec 10)) (s : State) : Out :=
  match bcMsg msg with
  | none => .next (s.bcErr x)
  | some m =>
    if m.typ = 3 ∧ m.body.length = 2 ∧ beAt m.body 0 1 < 7 ∧ s.tplActive x then .next (s.laneFail x (beAt m.body 0 1))
    else .next s

/-- The first active line whose slot starts after a CMD packet of group `x` that begins now has ended (R284, R285).
DEDUCED, log 85. -/
def State.nextLine (s : State) (x : GroupId) : Nat :=
  if s.cadenceOk then
    let bits := if s.tpl2 x then 66 * 3 else 10 * 21
    let m := ((s.lineIndexAt ((s.wall16 : Int) + ceilDiv (bits * 8 * 65536) (s.laneRate x)) + 1) % (s.vTotal : Int)).toNat
    if m < s.vActive then m else 0
  else 0

/-- SWAP_ALIGN_END: after 6.0 µs of ALIGN the device sends SWAP to CDIC 0 on the free pair, for the next line (R284,
R285). -/
def execSwapAlignEnd (x : Fin 16) (s : State) : Out :=
  match (s.group x).rot with
  | .align lane old new t fail =>
    if s.passedUs t 6 then
      let m := s.nextLine x
      let c := s.cmdPacket 0 lane (.swap lane new m)
      let s := if s.tplActive x then s.tplSendOn x [new] (s.tpl2 x) c else s
      .next (s.setRot x (.duplicate lane old new m 0 fail))
    else .next s
  | _ => .next s

/-- The lane has left pair `old`, which becomes the free pair and is checked for a dwell (R284, R285). -/
def State.laneMoved (s : State) (x : GroupId) (lane old new : Nat) (fail : Bool) : State :=
  let (n, g) := (x.quad, x.sub)
  let s := (s.setLane x lane new).put (F.TPL_STATUS_FREE n g) old
  let s := if fail then
      (((s.countReg (A.TPL_SWAPS n g)).set (F.TPL_FLAGS_SWAP n g)).set (F.TPL_STATUS_NOSPARE n g)).tplEvent x 1 lane old
    else s
  (s.setGroup x { s.group x with cmds := (s.group x).cmds ++ [(0, .free old)] }).setRot x (.dwell old s.wt.cycle 0 fail)

/-- A line slot `n` begins: a lane that moves from line m on is carried by its new pair, after a failure at once,
in a rotation step alone once lines m and m + 1 have gone out on both (R284, R285). -/
def State.rotLine (s : State) (x : GroupId) (n : Nat) : State :=
  match (s.group x).rot with
  | .duplicate lane old new m step fail =>
    if step = 0 ∧ n ≠ m then s
    else if fail ∨ step = 2 then s.laneMoved x lane old new fail
    else s.setRot x (.duplicate lane old new m (step + 1) fail)
  | _ => s

/-- The pair of the next rotation step: from (f + 1) mod 7 on, one that is detected and not BAD (R284). -/
def State.rotPair (s : State) (x : GroupId) : Option Nat :=
  ((List.range 6).map fun i => (s.freePair x + 1 + i) % 7).find? fun p =>
    bit (s.get (F.TPL_STATUS_DET x.quad x.sub)) p && !s.flag (F.TPL_PRBS_BAD x.quad x.sub p) && (s.pairLane x p).isSome

/-- ROTATION_STEP: with ROT_EN and a free pair, a step begins (R284). -/
def execRotationStep (x : Fin 16) (s : State) : Out :=
  if s.tplActive x ∧ s.flag (F.TPL_CTRL_ROT_EN (GroupId.quad x) (GroupId.sub x)) ∧ ¬ s.noSpare x
      ∧ (s.group x).rot = .none then
    match s.rotPair x with
    | some p =>
      match s.pairLane x p with
      | some l => .next (s.tplAlign x l p false)
      | none => .next s
    | none => .next s
  else .next s

/-- DWELL_END: the dwell's error total is written, a total above PRBS_LIMIT marks the pair BAD (R284, R285). -/
def execDwellEnd (x : Fin 16) (s : State) : Out :=
  let (n, g) := (GroupId.quad x, GroupId.sub x)
  match (s.group x).rot with
  | .dwell p t e fail =>
    if s.passedUs t (1000 * max 1 (s.get (F.TPL_ROT_CFG_DWELL_MS n))) then
      let s := (s.put (F.TPL_PRBS_ERRORS n g p) e).set (F.TPL_PRBS_VALID n g p)
      if s.get (F.TPL_ROT_CFG_PRBS_LIMIT n) < e then .next (s.pairBad x p)
      else
        let s := s.setRot x .none
        .next (if fail then s.clr (F.TPL_STATUS_NOSPARE n g) else s)
    else .next s
  | _ => .next s

end Sys2Proof.Machine
end

