-- ==== Sys2Proof/Machine/Latch.lean ====
section
/-!
DEFINITION. Sys2Proof/Machine/Latch.lean: the latch (R20): scan starts and stops (R239 to R243), plane flips and sync
groups (R180, R218, R219), the shadow copy (R220 to R222), N_eff and the overlay checks (R183, R213), map banks
(R232), the band, blanking packets (R274), METRIC launches and bandwidth copies.
-/

namespace Sys2Proof.Machine

/-! ### Sync groups and flips -/

/-- The masks of the four sync groups, as sampled (R218). -/
def State.syncMask (s : State) (g : Nat) : Nat := s.keptGet (F.SST_SYNC_MASK g)

/-- The sync group of plane `p`: the lowest-numbered one that names it (R218). -/
def State.syncGroup (s : State) (p : Fin 16) : Option Nat := (List.range 4).find? fun g => bit (s.syncMask g) p

/-- The planes of sync group `g`. -/
def State.members (s : State) (g : Nat) : List (Fin 16) := allPlanes.filter fun p => s.syncGroup p == some g

/-- Group `g` flips at the latch for frame `k` (R219). -/
def State.groupFlips (s : State) (g : Nat) (k : Int) : Bool :=
  let c := (s.members g).filter s.planeOk
  !c.isEmpty && c.all fun p => s.flipDue p k

/-- Group `g` is held at the latch for frame `k` (R219). -/
def State.groupHeld (s : State) (g : Nat) (k : Int) : Bool :=
  !s.groupFlips g k && (s.members g).any fun p => s.flipDue p k

/-- The flips of the latch for frame `k`, and the groups that flipped (R180, R219). -/
def State.flips (s : State) (k : Int) : List Nat × State :=
  let gs := (List.range 4).filter fun g => s.groupFlips g k
  let held := (List.range 4).filter fun g => s.groupHeld g k
  let ps := allPlanes.filter fun p =>
    match s.syncGroup p with
    | none => s.flipDue p k
    | some g => gs.contains g && s.planeOk p
  let s := forAll ps s fun s p => s.flipPlane p k
  let s := forAll held s fun s g =>
    (s.setBit F.SST_SYNC_STATUS_HELD g).sqsEvent 0x42 g (unsigned 32 k)
  (gs, s)

/-! ### Shadow registers -/

/-- The RWS registers of quadrant `n`. -/
def shadowRegs (n : QuadId) : List Nat :=
  [A.SYN_CFG n, A.SYN_ORDER0 n, A.SYN_ORDER1 n, A.CMP_LUTSEL n]
    ++ (List.range 16).flatMap (fun p => [A.GEO_RATIO n p, A.GEO_APRON n p, A.SYN_DEPTH n p, A.SYN_RELIEF n p])
    ++ (List.range 2).flatMap (fun o => [A.OVL_CTRL n o, A.OVL_BASE n o, A.OVL_SIZEBASE n o, A.OVL_PITCH n o,
        A.OVL_SRC n o, A.OVL_DSTPOS n o, A.OVL_DSTSIZE n o, A.OVL_COLOR n o])

/-- Every RWS register of the quadrant copies its shadow to its live value; ratios outside 1 to 4 that become live are
reported (R148, R220). -/
def State.shadowCopy (s : State) (n : QuadId) : State :=
  let s := forAll (shadowRegs n) s fun s a => s.liveWr a (s.keptRd a)
  let bad := (List.range 16).filter fun p => let (x, y) := s.ratios n p; !(ratioOk x && ratioOk y)
  let s := forAll bad s fun s p => s.setBit (F.GEO_FLAGS_RATIO_BAD n) p
  s.clr (F.CMP_STATUS_PENDING n)

/-- A pending COMMIT of quadrant `n` at its latch for frame `k`, the sync groups `gs` having flipped (R220 to R222).
One that completed at the latch instant itself waits for the next (R221). DEDUCED, log 79; DESIGN CHOICE, log 214. -/
def State.commitAt (s : State) (n : QuadId) (k : Int) (gs : List Nat) : State :=
  if s.flag (F.CMP_STATUS_PENDING n) ∧ ¬ (s.cm n).lateOnly then
    let g := s.keptGet (F.CMP_CFG_COMMIT_GROUP n)
    if 1 ≤ g ∧ g ≤ 4 ∧ ¬ gs.contains (g - 1) then
      (s.set (F.CMP_STATUS_COMMIT_HELD n)).wr (A.CMP_COMMIT_FRAME n) (BitVec.ofNat 32 (unsigned 32 (k + 1)))
    else s.shadowCopy n
  else s

/-- After the latch for frame `k`, a COMMIT that completed at its instant is the pending one, for frame k + 1 (R221). -/
def State.commitNext (s : State) (n : QuadId) (k : Int) : State :=
  if (s.cm n).late then
    let s := s.setCm n { s.cm n with late := false, lateOnly := false }
    (s.set (F.CMP_STATUS_PENDING n)).wr (A.CMP_COMMIT_FRAME n) (BitVec.ofNat 32 (unsigned 32 (k + 1)))
  else s

/-! ### What a quadrant samples -/

/-- N_eff is sampled (R183). DEDUCED, log 68. -/
def State.sampleNeff (s : State) (n : QuadId) : State :=
  let np := min 16 (s.liveGet (F.SYN_CFG_NPLANES n))
  let e := min np (min (min 16 (s.liveGet (F.SYN_CFG_PLANE_LIMIT n))) (s.get F.SYN_THERM_CAP_CAP))
  (s.put (F.SYN_STATUS_EFF_PLANES n) e).setIf (e < np) (F.SYN_STATUS_CAPPED n)

/-- The checks of overlay `o` at the latch for frame `k` (R213). -/
def State.checkOverlay (s : State) (n : QuadId) (k : Int) (o : Fin 2) : State :=
  let live := s.get (F.CMP_STATUS_OVL_LIVE n)
  let off := if bit live o then live - 2 ^ o.val else live
  if s.liveFlag (F.OVL_CTRL_EN n o) then
    let v := s.ovl n o
    let lb := v.scale && decide (4096 < v.srcW)
    let rect := v.srcW == 0 || v.srcH == 0 || v.w == 0 || v.h == 0 || !s.geoOk
      || decide (s.hogelCols / 4 < v.x + v.w) || decide (s.hogelRows < v.y + v.h)
    let fmt := if v.packed then decide (2 ≤ v.fmt) else v.pitch == 0
    if lb || rect || fmt then
      let s := if lb then s.setBit (F.CMP_STATUS_LB_OVERFLOW n) o else s
      let s := if rect then s.setBit (F.CMP_STATUS_RECT_BAD n) o else s
      let s := if fmt then s.setBit (F.CMP_STATUS_FMT_BAD n) o else s
      (s.put (F.CMP_STATUS_OVL_LIVE n) off).quadEvent n 0x32 o (unsigned 32 k)
    else s.setBit (F.CMP_STATUS_OVL_LIVE n) o
  else s.put (F.CMP_STATUS_OVL_LIVE n) off

/-- The map request of quadrant `n` at its latch for frame `k` (R232); the range check comes first. -/
def State.mapSelect (s : State) (n : QuadId) (k : Int) : State :=
  let en := s.keptGet (F.MAP_CTRL_EN n) == 1
  let b := s.keptGet (F.MAP_CTRL_BANK n)
  if en = s.flag (F.MAP_STATUS_LIVE_EN n) ∧ b = s.get (F.MAP_STATUS_LIVE_BANK n) then s
  else if en ∧ s.dramSize n < s.mapBase n b + s.mapBankSize then s.set (F.MAP_STATUS_RANGE_BAD n)
  else if en ∧ s.mapBusy n b then (s.set (F.MAP_STATUS_HELD n)).quadEvent n 0x33 b (unsigned 32 k)
  else
    let x : MapFlip := { cycle := s.wt.cycle, frame := k, en := s.flag (F.MAP_STATUS_LIVE_EN n)
                         bank := s.get (F.MAP_STATUS_LIVE_BANK n), word := s.rd (A.MAP_FRAME n), past := (s.mp n).past }
    let s := (s.put (F.MAP_STATUS_LIVE_EN n) (b2n en)).put (F.MAP_STATUS_LIVE_BANK n) b
    (s.wr (A.MAP_FRAME n) (BitVec.ofNat 32 (unsigned 32 k))).setMp n { s.mp n with past := false, flip := some x }

/-- Quadrant `n` takes the latch for frame `k`. DEDUCED, log 79. -/
def State.takeLatch (s : State) (n : QuadId) (k : Int) (gs : List Nat) : State :=
  let s := (s.commitAt n k gs).sampleNeff n
  let s := (s.checkOverlay n k 0).checkOverlay n k 1
  s.mapSelect n k

/-- Composition and the map streamer of quadrant `n` turn to frame `k` (R26). -/
def State.newFrame (s : State) (n : QuadId) (k : Int) : State :=
  (s.setCm n { s.cm n with frame := some k, next := 0, ovl := Vector.replicate 2 [] }).mapStart n k

/-! ### Scan starts and stops -/

/-- A SCAN_STATE event (R239): to the quadrant's SQn and SQS. -/
def State.scanEvent (s : State) (n : QuadId) (code : Nat) (k : Int) : State :=
  (s.quadEvent n 0x35 code (unsigned 32 k)).sqsEvent 0x35 code (unsigned 32 k)

/-- What the latch for frame `k` makes of quadrant `n`'s scan state, and whether the quadrant takes it (R239, R241,
R242). -/
def State.scanLatch (s : State) (n : QuadId) (k : Int) (bad : List Nat) : Bool × State :=
  let u := s.scanU n
  match u.run with
  | .running => (true, s)
  | .stopped => (false, s)
  | .stopping =>
    if u.stopNext then (true, s.setScan n { u with stopNext := false })
    else (false, ((s.setScan n { u with run := .stopped, te := none }).set (F.SCAN_FLAGS_STOPPED n)).scanEvent n 1 k)
  | .armed =>
    if u.k0 = some k then
      let r := s.startReason n k bad
      if r = 0 then
        let s := s.setScan n { u with run := .running, k0 := none, te := some k }
        (true, (s.wr (A.SCAN_START_FRAME n) (BitVec.ofNat 32 (unsigned 32 k))).scanEvent n 0 k)
      else (false, (s.setScan n { u with run := .stopped, k0 := none }).refuseStart n r (unsigned 32 k))
    else (false, s)

/-- The quadrants' scan states at the latch for frame `k`, and the quadrants that take it. -/
def State.scanLatches (s : State) (k : Int) (bad : List Nat) : List QuadId × State :=
  allQuads.foldl (fun (l, s) n =>
    let (b, s) := s.scanLatch n k bad
    (if b then l ++ [n] else l, s)) ([], s)

/-! ### Blanking packets -/

/-- The WAVE packet of band `b` for CDIC `d` on its first logical lane, `kind` 0 the live table and 1 the fallback
(R273, R274). -/
def State.wavePacket (s : State) (bad : List Nat) (x : GroupId) (k : Int) (d b kind : Nat) : TplPacket :=
  { typ := 4, dest := d, line := 0, frame := unsigned 8 k, lane := d * s.cdicLanes x
    payload := waveBytes (s.slots bad b) (s.sentIref bad b) b kind }

/-- What group `x` sends in the blanking after the latch for frame `k` (R253, R256, R274): to each CDIC's first lane the
live and the fallback table, where its quadrant is among the `takers` of the latch and so scans the frame (R239), and a
broadcast POLL on logical lane 0. DEDUCED, log 77. -/
def State.blanking (s : State) (bad : List Nat) (takers : List QuadId) (k : Int) (x : GroupId) : State :=
  let s :=
    if takers.contains x.quad then
      let live := s.get F.EMW_STATUS_LIVE_BAND
      let fall := s.fallbackBand
      let s := forAll (List.range (s.cdics x)) s fun s d =>
        let s := s.tplSend x (s.wavePacket bad x k d live 0)
        if s.waveOk bad fall then s.tplSend x (s.wavePacket bad x k d fall 1) else s
      if s.tplActive x then s.setGroup x { s.group x with holds := false } else s
    else s
  s.tplCmd x 15 .poll

/-! ### The latch -/

/-- The device passes the latch for frame `k`. -/
def State.latchNow (s : State) (k : Int) (bad : List Nat) : State :=
  let s : State := { s with frame := { s.frame with latch := some k } }
  let s := (s.formTemp k).waveParity bad
  let (takers, s) := s.scanLatches k bad
  let s :=
    if takers.isEmpty then s
    else
      let (gs, s) := s.samplePlanes.flips k
      let s := s.applyBand bad k
      let live := s.get F.EMW_STATUS_LIVE_BAND
      let capped (b : Nat) : Bool := decide (s.get F.EMW_IREF_CAP_CAP < s.tableIref bad b)
      let s := s.setIf (capped live || s.waveOk bad s.fallbackBand && capped s.fallbackBand) F.EMW_STATUS_IREF_CAPPED
      forAll takers s fun s n => s.takeLatch n k gs
  let s := forAll allQuads s fun s n => ((s.commitNext n k).newFrame n k).bandwidthCopy n (unsigned 32 (k - 1))
  let s := forAll allGroups s fun s x => s.blanking bad takers k x
  let s := s.latchForgets
  let at_ := (s.latchAt k).toNat
  let s := forAll (fins 4) s fun s q => s.metricLaunch q at_ (unsigned 32 k) (s.get F.EMW_STATUS_LIVE_BAND)
  s.stayAdvance

/-- LATCH (R20): wall time is at or past the latch for frame `k` and before the next, this latch has not been
passed, and the cadence has not been written since. `bad` are the addresses of waveform-table words that read with a parity
error. DESIGN CHOICE, log 5. -/
def execLatch (k : Int) (bad : List Nat) (s : State) : Out :=
  if s.latchDue = some k then .next (s.latchNow k bad) else .next s

end Sys2Proof.Machine
end

