-- ==== Sys2Proof/Machine/Scan.lean ====
section
/-!
DEFINITION. Sys2Proof/Machine/Scan.lean: line slots (R244, R247, R275, R560), the lead (R132), what the lanes carry
(R267, R274), STOP (R242), and the tearing-effect check (R248).
-/

namespace Sys2Proof.Machine

/-- Frame `k` is in production in quadrant `n`: some line of it is still on its way to staging. -/
def State.inWork (s : State) (n : QuadId) (k : Int) : Bool :=
  let c := s.cm n
  (s.sy n).frame == some k || c.ready.any (·.frame == k)

/-- Line `m` of frame `k` is complete in staging. -/
def State.staged (s : State) (n : QuadId) (k : Int) (m : Nat) : Option StagedLine :=
  (s.cm n).staged.find? fun l => l.frame == k && l.line == m

/-- The lead of quadrant `n`: complete lines in staging beyond the one in its transmit slot (R132). DEDUCED, log 80. -/
def State.lead (s : State) (n : QuadId) : Nat :=
  ((s.cm n).staged.filter fun l => s.frame.line ≠ some (l.frame, l.line)).length

/-- Lines whose slot has ended leave staging (R560). -/
def State.retire (s : State) (n : QuadId) : State :=
  let c := s.cm n
  s.setCm n { c with staged := c.staged.filter fun l => !s.reached (s.lineAt l.frame ((l.line : Int) + 1)) }

/-- Quadrant `n` is RUNNING or STOPPING. -/
def State.sends (s : State) (n : QuadId) : Bool :=
  match (s.scanU n).run with
  | .running => true
  | .stopping => true
  | _ => false

/-- The UNDERRUN entry for frame `k` (R247): to the quadrant's SQn and SQS. -/
def State.underrun (s : State) (n : QuadId) (k : Int) : State :=
  (s.quadEvent n 0x13 n (unsigned 32 k)).sqsEvent 0x13 n (unsigned 32 k)

/-- Frame `k` is given up at line `m` (R23, R247, R560): the scan registers are written where the quadrant scans. -/
def State.abort (s : State) (n : QuadId) (k : Int) (m : Nat) : State :=
  let s := (s.giveUp n k).clr (F.CRD_LEAD_VALID n)
  let s :=
    if s.sends n then
      let s := (s.countReg (A.SCAN_UNDERRUNS n)).set (F.SCAN_FLAGS_ABORT n)
      let s := (s.wr (A.SCAN_ABORT_FRAME n) (BitVec.ofNat 32 (unsigned 32 k))).wr (A.SCAN_ABORT n)
        (BitVec.ofNat 32 (m % 2 ^ 14 + 2 ^ 31))
      s.setScan n { s.scanU n with aborted := some k }
    else s
  s.underrun n k

/-- Frames before `k` that are still in production are past every deadline and are given up. -/
def State.dropOld (s : State) (n : QuadId) (k : Int) : State :=
  let old := (((s.sy n).frame.toList ++ (s.cm n).ready.map (·.frame)).filter (· < k)).eraseDups
  forAll old s fun s f => if s.sends n then s.giveUp n f else (s.giveUp n f).underrun n f

/-- A line of frame `k` missed its deadline because the SYN_GO came after it (R75). -/
def State.missed (s : State) (n : QuadId) (k : Int) : Bool :=
  (s.sy n).missed == some k && (s.inWork n k || (s.cm n).staged.any (·.frame == k))

/-- The deadline of line `m` of frame `k` (R23): a line not in staging, or one that was not at its own deadline, aborts
the frame, once; of a frame that is aborted no line stays in staging (R247). DEDUCED, log 80. -/
def State.deadline (s : State) (n : QuadId) (k : Int) (m : Nat) : State :=
  if (s.scanU n).aborted = some k then
    if s.inWork n k ∨ (s.cm n).staged.any (·.frame == k) then s.giveUp n k else s
  else if s.missed n k then s.abort n k m
  else if (s.staged n k m).isSome then s
  else if s.sends n ∨ s.inWork n k then s.abort n k m
  else s

/-- The lead at the start of line `m` of frame `k` (R132). DEDUCED, log 80. -/
def State.leadAt (s : State) (n : QuadId) (k : Int) (m : Nat) : State :=
  let l := min 63 (s.lead n)
  let u := s.scanU n
  let on := (s.staged n k m).isSome
  let low := if m = 0 then l else min u.minLead l
  let s := s.setScan n { u with minLead := low }
  let s := s.put (F.CRD_LEAD_LEAD n) l
  let s := if on ∧ m + 1 = s.vActive then
      ((s.put (F.CRD_LEAD_MIN_LEAD n) low).set (F.CRD_LEAD_VALID n)).wr (A.CRD_LEAD_FRAME n)
        (BitVec.ofNat 32 (unsigned 32 k))
    else s
  if l < s.get (F.CRD_LEAD_WARN_THRESHOLD n) ∧ u.leadLow ≠ some k then
    (s.setScan n { s.scanU n with leadLow := some k }).quadEvent n 0x30 n (unsigned 32 k)
  else s

/-- The codes of logical lane `l` of group `x` in a quadrant line (R267). DEDUCED, log 86. -/
def State.laneCodes (s : State) (x : GroupId) (l : Nat) (codes : List (BitVec 10)) : List (BitVec 10) :=
  let k := s.laneCols
  (codes.drop ((x.sub.val * 6 + l) * k)).take k

/-- A packet of type `typ` on each logical lane of group `x`, to the CDIC that takes the lane (R267, R274). -/
def State.onLanes (s : State) (x : GroupId) (typ m : Nat) (k : Int) (payload : Nat → List Byte) : State :=
  forAll (List.range 6) s fun s l =>
    s.tplSend x { typ := typ, dest := s.cdicOf x l, line := m, frame := unsigned 8 k, lane := l, payload := payload l }

/-- What group `x` sends in the slot of active line `m` of frame `k` (R247, R274, R275, R281). -/
def State.sendLine (s : State) (x : GroupId) (k : Int) (m : Nat) : State :=
  let hold (s : State) : State := s.onLanes x 2 m k fun _ => []
  if s.sends x.quad then
    match s.staged x.quad k m with
    | some l =>
      if (s.group x).holds then hold s
      else s.onLanes x 1 m k fun i => packCodes (s.laneCodes x i l.codes)
    | none => hold s
  else if s.anyScans then hold s
  else s

/-- Bits of a packet of `n` payload bytes (R269, R270). -/
def packetBits (tpl2 : Bool) (n : Nat) : Nat := if tpl2 then 66 * (ceilDiv n 8 + 2) else 10 * (n + 13)

/-- Slot `m` of group `x` has room behind its packets on logical lane 0 for a CMD: 5 blocks, or 20 characters (R274). -/
def State.slotTail (s : State) (x : GroupId) (m : Nat) : Bool :=
  let v := s.tpl2 x
  let slot := s.laneRate x * s.cadP * 1000000000 / (8 * s.cadQ * s.vTotal)
  let used :=
    if !s.anyScans then 0
    else if m < s.vActive then
      packetBits v (if s.sends x.quad && !(s.group x).holds then ceilDiv (10 * s.laneCols) 8 else 0)
    else if m + 1 = s.vTotal then packetBits v 8
    else blankingBits v - (m - s.vActive) * slot
  decide (used + (if v then 5 * 66 else 20 * 10) ≤ slot)

/-- The oldest command that waits goes out in the tail of slot `m` where it has room (R274). -/
def State.sendCmd (s : State) (x : GroupId) (m : Nat) : State :=
  match (s.group x).cmds with
  | (dest, c) :: t =>
    if s.slotTail x m then (s.setGroup x { s.group x with cmds := t }).tplCmd x dest c else s
  | [] => s

/-- The start of slot `m` of frame `k`, `m` from 0 to V_total - 1. -/
def State.lineNow (s : State) (k : Int) (m : Nat) : State :=
  let s : State := { s with frame := { s.frame with line := some (k, m) } }
  let s := forAll allQuads s fun s n =>
    let s := ((s.retire n).dropOld n k).put (F.SCAN_STATUS_LINE n) m
    if m < s.vActive then (s.deadline n k m).leadAt n k m
    else
      let s := if s.inWork n k then (if s.sends n then s.giveUp n k else s.abort n k m) else s
      s.put (F.CRD_LEAD_LEAD n) (min 63 (s.lead n))
  forAll allGroups s fun s x =>
    let s := s.rotLine x m
    let s :=
      if m < s.vActive then s.sendLine x k m
      else if m + 1 = s.vTotal ∧ s.anyScans then
        s.onLanes x 3 0 (k + 1) fun _ => beBytes 4 (unsigned 32 (k + 1)) ++ List.replicate 4 0
      else s
    s.sendCmd x m

/-- LINE_START (R244): wall time lies in slot `m` of frame `k`, whose start has not been passed yet. Slot V_total - 1
carries the marker of the next frame (R274). DESIGN CHOICE, log 5; DEDUCED, log 69. -/
def execLineStart (k : Int) (m : Nat) (s : State) : Out :=
  if s.cadenceOk ∧ m < s.vTotal ∧ s.reached (s.lineAt k m) ∧ ¬ s.reached (s.lineAt k ((m : Int) + 1))
      ∧ s.frame.line ≠ some (k, m) then .next (s.lineNow k m)
  else .next s

/-! ### STOP -/

/-- A write of Qn_SCAN_CTRL (R242); one that takes effect at a latch instant whose latch is yet to be taken stops the
quadrant at the next. -/
def State.scanCtrl (s : State) (n : QuadId) (v : Word) : State :=
  if field v 0 1 = 1 ∧ (s.scanU n).run = .running then
    s.setScan n { s.scanU n with run := .stopping, stopNext := s.latchDue.isSome }
  else s

/-- SCAN_STOP. -/
def execScanStop (n : QuadId) (v : Word) (s : State) : Out := .next (s.scanCtrl n (v ||| 1))

/-! ### Tearing effect -/

/-- X of frame `k`, in units of 2^-16 ns (R248). -/
def State.teExpected (s : State) (k : Int) : Int :=
  s.frameAt k + (s.get F.SCAN_ROWDLY_DLY + signed 12 (s.get F.SCAN_TE_CFG_OFS)) * 65536

/-- SEARCH·T_line, in the same units. DEDUCED, log 81. -/
def State.teSearch (s : State) : Int := s.get F.SCAN_TE_CFG_SEARCH * s.cadP * secUnits / (s.cadQ * s.vTotal)

/-- Frame `k` has been judged; the next one is. DEDUCED, log 81. -/
def State.teNext (s : State) (n : QuadId) (k : Int) : State := s.setScan n { s.scanU n with te := some (k + 1) }

/-- A SCAN_TE event. -/
def State.teEvent (s : State) (n : QuadId) (code : Nat) (k : Int) : State := s.quadEvent n 0x36 code (unsigned 32 k)

/-- TE_EDGE: a rising edge on PNL_TE[n], the first in the search window of the frame that is awaited; it is stamped
to 0.25 ns. DEDUCED, log 81. -/
def execTeEdge (n : QuadId) (s : State) : Out :=
  match (s.scanU n).te with
  | some k =>
    let x := s.teExpected k
    let w : Int := s.wall16
    if s.cadenceOk ∧ x - s.teSearch ≤ w ∧ w ≤ x + s.teSearch then
      let d := w / 16384 * 16384 - x
      let s := (s.putQuarter (A.SCAN_TE_ERR n) (d / 16384)).wr (A.SCAN_TE_FRAME n) (BitVec.ofNat 32 (unsigned 32 k))
      let s := s.teNext n k
      let tol : Int := s.get F.SCAN_TE_CFG_TOL * 65536
      if -tol ≤ d ∧ d ≤ tol then .next s
      else .next (((s.count (F.SCAN_TE_COUNT_MISMATCH n)).set (F.SCAN_FLAGS_TE_MISMATCH n)).teEvent n 1 k)
    else .next s
  | none => .next s

/-- TE_MISSING: the search window of the awaited frame has ended without an edge. -/
def execTeMissing (n : QuadId) (s : State) : Out :=
  match (s.scanU n).te with
  | some k =>
    if s.cadenceOk ∧ s.teExpected k + s.teSearch < (s.wall16 : Int) then
      let s := s.teNext n k
      .next (((s.count (F.SCAN_TE_COUNT_MISSING n)).set (F.SCAN_FLAGS_TE_MISSING n)).teEvent n 2 k)
    else .next s
  | none => .next s

end Sys2Proof.Machine
end

