-- ==== Sys2Proof/Machine/RegWrite.lean ====
section
/-!
DEFINITION. Sys2Proof/Machine/RegWrite.lean: what a write and a read of one register do (R9, R513 to R516): the
lock classes of R515, the STALE_WRITE flags, the registers whose write does more than change what they hold, and
those that report what another field of State holds. The registers of the power manager are in Access.lean.
-/

namespace Sys2Proof.Machine

/-! ### Where a register lies -/

/-- The index below `n` whose address under `f` is `a`. -/
def indexOf (n : Nat) (f : Nat → Nat) (a : Nat) : Option (Fin n) := (fins n).find? fun i => f i == a

/-- The quadrant of a quadrant-block address. -/
def quadAt (a : Nat) : QuadId := ⟨(a - 0x1000000) / 0x400000 % 4, Nat.mod_lt _ (by decide)⟩

/-- The lane group of an address in the TPL block. -/
def groupAt (a : Nat) : GroupId :=
  groupOf (quadAt a) ⟨(a % 0x400000 - 0xb100) / 0x40 % 4, Nat.mod_lt _ (by decide)⟩

/-- The plane of an address in the SST block. -/
def planeAt (a : Nat) : Fin 16 := ⟨(a - 0x80000) / 0x20 % 16, Nat.mod_lt _ (by decide)⟩

/-- The neighbour port of an address in the NBR block. -/
def nbrAt (a : Nat) : NbrId := ⟨(a - 0xc0200) / 0x200 % 4, Nat.mod_lt _ (by decide)⟩

/-- The flow of an address among the flow contexts. -/
def flowAt (a : Nat) : Nat := (a - 0x600000) / 0x20

/-! ### Locks -/

/-- The lock of class `l` holds for the register at `a` (R515). -/
def State.lockHolds (s : State) (l : LockClass) (a : Nat) : Bool :=
  match l with
  | .none => false
  | .timing => s.anyScans
  | .flow => s.flowState (flowAt a) != 0
  | .arena => s.streamOpen
  | .plane => s.planeLocked (planeAt a)
  | .mapBank =>
    let b := (a % 0x400000 - 0x9008) / 4
    s.mapLive (quadAt a) b || (s.flag (F.MAP_CTRL_EN (quadAt a)) && s.get (F.MAP_CTRL_BANK (quadAt a)) == b)
  | .link => s.tplStage (groupAt a) != 0 && s.tplStage (groupAt a) != 7
  | .nbr => s.nbrStage (nbrAt a) != 0 && s.nbrStage (nbrAt a) != 7
  | .netPort => s.flag (F.NET_PORT_MODE_EN ((a - 0xb0100) / 0x100))
  | .camPort => s.flag (F.CAM_PORT_CTRL_EN ((a - 0xe0000) / 0x40))
  | .memory => s.dramState (quadAt a) == 1 || s.dramState (quadAt a) == 2
  | .scanLane => match s.rxScan with | some x => x.runs && x.lane.val == (a - 0xf0100) / 0x20 | none => false
  | .armed => s.flag (F.WT_EVT_CTRL_ARM ((a - 0x11000) / 0x20))
  | .loop => s.flag F.THM_CTRL_AVS_EN

/-- Master `m` has written in this core cycle. A master makes one access a core cycle, so a further one of it belongs to a
later cycle than the first. DESIGN CHOICE, log 209. -/
def State.wroteBefore (s : State) (m : Master) : Bool := s.busNow.writes.any fun b => b.rank == masterRank m

/-- The register at `a`, whose locked fields are of class `l`, is locked for a write by master `m`: its lock holds, or held
at the end of the core cycle before (R515, R516). -/
def State.locked (s : State) (m : Master) (l : LockClass) (a : Nat) : Bool :=
  s.lockHolds l a || !s.wroteBefore m && s.atCycleStart.lockHolds l a

/-- The STALE_WRITE flag of the block that holds address `a` is set, or SYS_STATUS.STALE_WRITE (R515). -/
def State.stale (s : State) (a : Nat) : State :=
  if 0x10000 ≤ a ∧ a < 0x13000 then s.wtFlag F.WT_FLAGS_STALE_WRITE
  else if 0x60000 ≤ a ∧ a < 0x61000 then s.set F.GEO_STATUS_STALE_WRITE
  else if (0x70000 ≤ a ∧ a < 0x71000) ∨ (0x600000 ≤ a ∧ a < 0x800000) then s.set F.RKN_STATUS_STALE_WRITE
  else if 0x80000 ≤ a ∧ a < 0x80200 then s.set (F.SST_PLANE_STATUS_STALE_WRITE (planeAt a))
  else if 0xa0000 ≤ a ∧ a < 0xa1000 then s.set F.SCAN_TMG_FLAGS_STALE_WRITE
  else if 0xb0000 ≤ a ∧ a < 0xb1000 then s.set F.NET_STATUS_STALE_WRITE
  else if 0xc0200 ≤ a ∧ a < 0xc1000 then s.set (F.NBR_FLAGS_STALE_WRITE (nbrAt a))
  else if 0xe0000 ≤ a ∧ a < 0xe0080 then s.set (F.CAM_PORT_STATUS_STALE_WRITE ((a - 0xe0000) / 0x40))
  else if 0x110000 ≤ a ∧ a < 0x111000 then s.set F.THM_FLAGS_STALE_WRITE
  else if 0x1000000 ≤ a ∧ 0x9000 ≤ a % 0x400000 ∧ a % 0x400000 < 0xa000 then s.set (F.MAP_STATUS_STALE_WRITE (quadAt a))
  else if 0x1000000 ≤ a ∧ 0xb000 ≤ a % 0x400000 ∧ a % 0x400000 < 0xc000 then
    s.set (F.TPL_FLAGS_STALE_WRITE (quadAt a) (groupAt a).sub)
  else if 0x1000000 ≤ a ∧ 0xd000 ≤ a % 0x400000 ∧ a % 0x400000 < 0xe000 then s.set (F.DRAM_STATUS_STALE_WRITE (quadAt a))
  else s.set F.SYS_STATUS_STALE_WRITE

/-! ### Core cycles -/

/-- The bus at the start of core cycle `c`, with what stands now as what stood before it. DESIGN CHOICE, log 6. -/
def State.freshCycle (s : State) (c : Nat) : State :=
  { s with bus := { cycle := c, before := { regs := s.regs, live := s.live, scan := s.scan, planes := s.ing.planes,
                                            rxScan := s.rxScan } } }

/-- The writes of a core cycle that its end discards: those that met an open lock which an event of the cycle then took
(R516). Where its master has written again since, a write belongs to an earlier core cycle. DESIGN CHOICE, log 209. -/
def State.lateLocks (s : State) : List BusAccess → List BusAccess
  | [] => []
  | b :: t =>
    let locked := match regRow b.addr with | some r => s.lockHolds r.lock b.addr | none => false
    if b.opened && locked && !(t.any fun x => x.rank == b.rank) then b :: s.lateLocks t else s.lateLocks t

/-- A write of this cycle to fields whose lock the cycle has taken is discarded (R516). -/
def State.discardWrite (s : State) (a : Nat) : State :=
  match regRow a with
  | some r => (s.wr a (mixWords (BitVec.ofNat 32 r.rwl) (s.atCycleStart.rd a) (s.rd a))).stale a
  | none => s

/-- A core cycle ends (R487, R516). -/
def State.cycleEnds (s : State) : State :=
  let s := s.wildEnds
  (forAll (s.lateLocks s.busNow.writes) s fun s b => s.discardWrite b.addr).freshCycle (s.wt.cycle + 1)

/-! ### A plain write -/

/-- The bits of a register that the fields `l` take. -/
def fieldBits (l : List Fld) : Word := l.foldl (fun x f => x ||| withField 0 f.lo f.w (2 ^ f.w - 1)) 0

/-- What a register of row `r` holds after a write of `v`: its writable bits take those of `v`, a 1 clears a W1C
bit, a 0 written to a counter clears it, everything else stays (R8, R9, R513). Of the fields `hits`, those that the device
itself has set in this core cycle stay set, and those that it has counted keep that count (R513). -/
def RegRow.merge (r : RegRow) (locked : Bool) (hits : List Fld) (old v : Word) : Word :=
  let m := BitVec.ofNat 32 (r.rw ||| r.rws ||| (if locked then 0 else r.rwl))
  let x := (old &&& ~~~m) ||| (v &&& m)
  let x := x &&& ~~~(v &&& BitVec.ofNat 32 r.w1c &&& ~~~fieldBits hits)
  r.ctr.foldl (fun x c =>
    if field v c.1 c.2 = 0 then withField x c.1 c.2 (min (hits.countP fun f => f.lo == c.1) (2 ^ c.2 - 1)) else x) x

/-- The registers that a latch samples without a COMMIT (R514). -/
def latchSampled (a : Nat) : Bool :=
  (fins 4).any (fun g => a == A.SST_SYNC g.val) || a == A.EMW_CTRL || (fins 16).any (fun p => a == A.SST_PLANE_CTRL p.val)
    || allQuads.any fun n => a == A.MAP_CTRL n || a == A.CMP_CFG n

/-- While the latch of this instant is yet to be taken, the word at `a` that it samples is kept for it as it was: a write at
the latch or later waits for a later one (R21, R220, R514). -/
def State.keepShadow (s : State) (a : Nat) : State :=
  if s.latchDue.isSome && (s.frame.keep.lookup a).isNone then
    { s with frame := { s.frame with keep := (a, s.rd a) :: s.frame.keep } }
  else s

/-- A write of `v` to the register at `a` that changes no more than it (R515); a word no row defines is reserved and
discards it (R510). A level that a slot has placed on a TGPIO pin in this core cycle stands (R535). -/
def State.writePlain (s : State) (m : Master) (a : Nat) (v : Word) : State :=
  match regRow a with
  | none => s
  | some r =>
    let locked := r.rwl != 0 && s.locked m r.lock a
    let s := if r.rws != 0 || latchSampled a then s.keepShadow a else s
    let v := if a = A.GPIO_OUT then mixWords (fieldBits (s.hitsAt a)) (s.rd a) v else v
    let s := s.wr a (r.merge locked (s.hitsAt a) (s.rd a) v)
    if locked then s.stale a else s

/-! ### Writes that do more -/

/-- The registers whose write does more than change what they hold. -/
inductive WriteTo where
  | plain
  | wtCtrl
  | domCfg (d : Fin 2)
  | cadence
  | geoPanel
  | evtCtrl (e : Fin 32)
  | seqCtrl (q : SeqId)
  | seqPost (q : SeqId)
  | whistleMask
  | geoGo
  | geoRecord (x : Nat) (high : Bool)
  | arena (n : QuadId)
  | flow (f w : Nat)
  | synGo (n : QuadId)
  | lut (n : QuadId) (x b ch i : Nat)
  | scanCtrl (n : QuadId)
  | muzzle
  | wave (b : Nat)
  | tplCtrl (x : GroupId)
  | tplMap (x : GroupId)
  | netPorts
  | mrxFree
  | mreply
  | nbrCtrl (q : NbrId)
  | jobPush
  | bltGo (n : QuadId)
  | calGo (n : QuadId)
  | calCtrl (n : QuadId)
  | delay (n : QuadId)
  | rxGo
  | camCtrl (c : Fin 4)
  | dramCtrl (n : QuadId)
  | mrw (n : QuadId)
  | mrr (n : QuadId)
  | thmCtrl
  | sensorEn
  | knlCtrl
deriving DecidableEq, Repr

/-- The system registers with one address whose write does more. -/
def writeSingles : List (Nat × WriteTo) := [
  (A.WT_CTRL, .wtCtrl), (A.CAD_EPOCH_HI, .cadence), (A.CAD_EPOCH_LO, .cadence), (A.CAD_P, .cadence), (A.CAD_Q, .cadence),
  (A.SCAN_VTIMING, .cadence), (A.GEO_PANEL, .geoPanel), (A.WHISTLE_MASK, .whistleMask), (A.GEO_LOAD_GO, .geoGo), (A.MUZZLE_CTRL, .muzzle),
  (A.NET_CFG, .netPorts), (A.NET_PORT_MODE 0, .netPorts), (A.NET_PORT_MODE 1, .netPorts), (A.NET_MRX_FREE, .mrxFree),
  (A.NET_MREPLY, .mreply), (A.DFL_JOB_PUSH, .jobPush), (A.CAL_RX_GO, .rxGo), (A.THM_CTRL, .thmCtrl),
  (A.THM_SENSOR_EN, .sensorEn), (A.KNL_CTRL, .knlCtrl)]

/-- The indexed system registers whose write does more. -/
def writeIndexed (a : Nat) : Option WriteTo :=
  ([ (indexOf 2 A.WT_DOM_CFG a).map .domCfg, (indexOf 32 A.WT_EVT_CTRL a).map .evtCtrl, (indexOf 5 A.SEQ_CTRL a).map .seqCtrl,
     (indexOf 5 A.SEQ_POST a).map .seqPost, (indexOf 4 A.RKN_ARENA_BASE a).map .arena,
     (indexOf 4 A.NBR_CTRL a).map .nbrCtrl, (indexOf 4 A.CAM_CTX_CTRL a).map .camCtrl ] : List (Option WriteTo)).findSome? id

/-- The registers of quadrant `n` with one address whose write does more. -/
def writeQuad (n : QuadId) : List (Nat × WriteTo) := [
  (A.SYN_GO n, .synGo n), (A.SCAN_CTRL n, .scanCtrl n), (A.BLT_GO n, .bltGo n), (A.CAL_GO n, .calGo n),
  (A.CAL_CTRL n, .calCtrl n), (A.DRAM_CTRL n, .dramCtrl n), (A.DRAM_MRW n, .mrw n), (A.DRAM_MRR_REQ n, .mrr n)]

/-- What a write to the quadrant register at offset `off` of quadrant `n` does, beside those of `writeQuad`. -/
def writeQuadIndexed (n : QuadId) (off : Nat) : WriteTo :=
  if 0xb100 ≤ off ∧ off < 0xb200 ∧ off % 0x40 = 0 then .tplCtrl (groupAt (quadBase n + off))
  else if 0xb100 ≤ off ∧ off < 0xb200 ∧ off % 0x40 = 0xc then .tplMap (groupAt (quadBase n + off))
  else if 0xe100 ≤ off ∧ off < 0xe180 ∧ off % 0x20 ≤ 0x10 then .delay n
  else if 0x100000 ≤ off ∧ off < 0x148000 ∧ off % 0x2000 < 0x1800 then
    .lut n ((off - 0x100000) / 0x4000) (off / 0x2000 % 2) (off % 0x2000 / 0x800) (off % 0x800 / 4)
  else if 0x180000 ≤ off ∧ off < 0x190000 ∧ off % 0x8000 < 0x6000 then
    .lut n 18 (off / 0x8000 % 2) (off % 0x8000 / 0x2000) (off % 0x2000 / 4)
  else .plain

/-- What a write to the register at `a` does. -/
def writeTo (a : Nat) : WriteTo :=
  if 0x1000000 ≤ a then
    let n := quadAt a
    ((writeQuad n).lookup a).getD (writeQuadIndexed n (a % 0x400000))
  else if 0x800000 ≤ a ∧ a < 0xa00000 then .geoRecord ((a - 0x800000) / 8) (a / 4 % 2 == 1)
  else if 0x600000 ≤ a ∧ a < 0x800000 then .flow (flowAt a) (a % 32 / 4)
  else if 0xa8000 ≤ a ∧ a < 0xb0000 ∧ (regRow a).isSome then .wave ((a - 0xa8000) / 0x1000)
  else ((writeSingles.lookup a).or (writeIndexed a)).getD .plain

/-- The number of a master where a POSTED entry or SYS_UNMAPPED_ADDR names it; the board port acts as a host access
(R538), and so does the root of trust. DESIGN CHOICE, log 35. -/
def masterCode : Master → Nat
  | .sq n => n.val
  | .sqs => 4
  | .host => 5
  | .board => 5
  | .rot => 5

/-- A write of WT_CTRL, after the slot timeouts that are due (R51). -/
def State.writeWtCtrl (s : State) (v : Word) : State :=
  let s := forAll (fins 2) s State.timeoutCheck
  let s := (s.put F.WT_CTRL_AUTO_SWITCH (field v 1 1)).put F.WT_CTRL_FREE_RUN_OK (field v 3 1)
  let s := s.put F.WT_CTRL_TC_EN (field v 4 1)
  let s := if field v 0 1 = s.get F.WT_CTRL_SERVO_EN then s else s.writeServoEn (field v 0 1 == 1)
  let s := s.requestDom (if field v 2 1 = 1 then 1 else 0)
  if field v 31 1 = 1 then s.snap else s

/-- The bundle in work loads sequencer `q` while it is not running: it may not run before the last segment is written
(R88). DESIGN CHOICE, log 185. -/
def State.beingLoaded (s : State) (q : SeqId) : Bool :=
  match s.rot.job with
  | some (.loading _ _ b _ _) => b.segs.any fun g => g.seq == q && !g.hot
  | _ => false

/-- START from READY (R87): at the entry address, P and the registers 0, the return stack empty. SEQs_FAULT
keeps its last fault until the next one or a reset. DESIGN CHOICE, log 186. -/
def State.seqStart (s : State) (q : SeqId) : State :=
  let c := s.seq q
  if c.run = .ready ∧ ¬ s.beingLoaded q then
    s.setSeq q { c with run := .running, busy := .none, pc := c.entry, p := false, stack := [],
                        g := Vector.replicate 16 0, t := Vector.replicate 4 {} }
  else s

/-- A write of SEQs_CTRL (R87); with both bits set, HALT follows START. DEDUCED, log 27. -/
def State.writeSeqCtrl (s : State) (q : SeqId) (v : Word) : State :=
  let s := s.put (F.SEQ_CTRL_HOT_OK q) (field v 31 1)
  let s := if field v 0 1 = 1 then s.seqStart q else s
  if field v 1 1 = 1 then s.haltSeq q else s

/-- An entry of this core cycle that a write of SEQs_POST by a master later in R68's order has pushed. -/
def State.postedAfter (s : State) (m : Master) (e : EvEntry) : Bool :=
  e.born == some s.wt.cycle && e.source == 3 && decide (masterCode m < e.code.toNat)

/-- A write of SEQs_POST by master `m` (R84): its entry goes before those of this core cycle that masters later in
R68's order have posted. -/
def State.postEvent (s : State) (m : Master) (q : SeqId) (v : Word) : State :=
  let before := (s.seq q).queue.takeWhile fun e => !s.postedAfter m e
  let after := (s.seq q).queue.dropWhile fun e => !s.postedAfter m e
  if after.isEmpty then s.event q 0x03 (masterCode m) false v.toNat
  else
    let t := (s.setSeq q { s.seq q with queue := before }).event q 0x03 (masterCode m) false v.toNat
    let l := (t.seq q).queue ++ after
    let t := t.setSeq q { t.seq q with queue := l.take 256, lost := (t.seq q).lost ++ l.drop 256 }
    if l.length ≤ 256 then t else t.count (F.SEQ_EVQ_STATUS_OVERFLOW q)

/-- A write of NET_MREPLY: the reply to the program message of buffer BUF, and the buffer is free (R308). For a
buffer that holds no program message there is no reply. DEDUCED, log 160. -/
def State.programReply (s : State) (v : Word) : State :=
  let b : Fin 32 := ⟨field v 0 5 % 32, Nat.mod_lt _ (by decide)⟩
  match s.net.mrx[b] with
  | some { reply := some r, opcode := o, tag := t } =>
    (s.queueMsg { dest := some r, bytes := msgHeader o.toNat 1 (field v 8 8) t ++ beBytes 4 (s.rd A.NET_MREPLY_DATA).toNat }).freeBuf b
  | _ => s.freeBuf b

/-- A write of NBR_q_CTRL (R316): with STOP and START both, STOP; AUTO = 1 begins bring-up again in FAILED, and in IDLE after
LINK_DOWN. -/
def State.writeNbrCtrl (s : State) (m : Master) (q : NbrId) (v : Word) : State :=
  let s := s.writePlain m (A.NBR_CTRL q) v
  if field v 1 1 = 1 then s.nbrStop q
  else if field v 0 1 = 1 then s.nbrStart q
  else if (s.nbrStage q = 7 ∨ s.nbrStage q = 0 ∧ (s.port q).down) ∧ s.flag (F.NBR_CTRL_AUTO q) then s.nbrStart q
  else s

/-- A write of `v` by master `m` to the register at `a`, by its kind. -/
def State.writeKind (s : State) (m : Master) (a : Nat) (v : Word) : WriteTo → State
  | .plain => s.writePlain m a v
  | .wtCtrl => s.writeWtCtrl v
  | .domCfg d =>
    let was := s.flag (F.WT_DOM_CFG_ENABLE d)
    let s := s.writePlain m a v
    if !was && s.flag (F.WT_DOM_CFG_ENABLE d) then s.slotEnabled d else s
  | .cadence => s.writeCadence a v (s.locked m .timing a)
  | .geoPanel => (s.writePlain m a v).geoSettle
  | .evtCtrl e => s.writeEvtCtrl e v (s.locked m .armed a)
  | .seqCtrl q => s.writeSeqCtrl q v
  | .seqPost q => s.postEvent m q v
  | .whistleMask =>
    match m with
    | .host => { s with whistleHost := field v 0 4 }
    | _ => s.writePlain m a v
  | .geoGo => s.geoGo v
  | .geoRecord x high => if high then s.geoHigh m x v else s.geoLow m x v
  | .arena n => s.writeArena n v (s.locked m .arena a)
  | .flow f w =>
    if w = 0 then s.writeFlow m f v (s.locked m .flow a)
    else if f = 0xFFFF ∧ m ≠ .rot then s.set F.RKN_STATUS_STALE_WRITE
    else s.writePlain m a v
  | .synGo n => s.synGo n v
  | .lut n x b ch i => s.lutWrite n x b ch i v
  | .scanCtrl n => s.scanCtrl n v
  | .muzzle => (s.writePlain m a v).muzzleAgain
  | .wave b => (s.writePlain m a v).waveTouched b
  | .tplCtrl x => s.tplCtrl x v
  | .tplMap x =>
    if s.locked m .link a then s.writePlain m a v
    else
      let (p, s) := (s.writePlain m a v).spareOf x
      s.put (F.TPL_STATUS_FREE x.quad x.sub) p
  | .netPorts => (s.writePlain m a v).portsCheck
  | .mrxFree => s.freeBuf ⟨field v 0 5 % 32, Nat.mod_lt _ (by decide)⟩
  | .mreply => s.programReply v
  | .nbrCtrl q => s.writeNbrCtrl m q v
  | .jobPush =>
    match m with
    | .sqs => s.jobPush m v
    | .host => s.jobPush m v
    | _ => s
  | .bltGo n => s.bltGo n v
  | .calGo n => s.calGo n v
  | .calCtrl n => s.writeCalCtrl n v
  | .delay n =>
    match regRow a with
    | some r => s.writeDelay n a (r.merge false [] (s.rd a) v)
    | none => s
  | .rxGo => s.rxGo v
  | .camCtrl c =>
    let was := s.flag (F.CAM_CTX_CTRL_EN c)
    let s := s.writePlain m a v
    if !was && s.flag (F.CAM_CTX_CTRL_EN c) then s.clr (F.CAM_CTX_SEQ_SEQ c) else s
  | .dramCtrl n => s.writeDramCtrl n v
  | .mrw n => s.queueMrw n v
  | .mrr n => s.queueMrr n v
  | .thmCtrl => s.writeThmCtrl v
  | .sensorEn => s.writeSensorEn v
  | .knlCtrl => s.writeKnlCtrl v

/-- A write of `v` by master `m` to the register at `a`, outside the power manager. -/
def State.writeCore (s : State) (m : Master) (a : Nat) (v : Word) : State := s.writeKind m a v (writeTo a)

/-! ### Reads -/

/-- WAIT_KIND of SEQs_STATUS. -/
def SeqBusy.waitKind : SeqBusy → Nat
  | .none => 0
  | .waitT _ => 1
  | .waitL _ => 2
  | .waitE => 3
  | .fence _ _ _ => 4
  | .go _ _ _ _ => 5
  | .held _ _ _ => 5
  | .fetch => 6
  | .refetch _ _ => 6
  | .read _ _ => 7

/-- STATE of SEQs_STATUS. -/
def SeqRun.code : SeqRun → Nat
  | .halted => 0 | .ready => 1 | .running => 2 | .waiting => 3 | .stalled => 4 | .faulted => 5

/-- SEQs_STATUS. -/
def Seq.statusWord (c : Seq) : Nat :=
  c.run.code + 8 * b2n c.p + 16 * c.busy.waitKind
    + ((fins 8).map fun i => 2 ^ (7 + i.val) * b2n c.alarms[i].isSome).foldl (· + ·) 0

/-- COUNT and EMPTY of a FIFO whose COUNT has `w` bits, over the status register's other fields (R127). -/
def fifoStatus (x : Word) (w count : Nat) : Word := withField (withField x 0 w count) w 1 (b2n (count == 0))

/-- BRD_STATUS with the fields that mirror others. -/
def State.brdStatus (s : State) : Word :=
  let x := s.rd A.BRD_STATUS
  let x := withField x 11 1 (s.get F.KNL_STATUS_ACTIVE)
  let x := withField x 12 3 (s.get F.WT_STATUS_LEASH)
  let x := withField x 15 1 (s.get F.SEC_STATUS_PARAM_DEFAULTED)
  let x := withField x 16 1 (s.get F.SEC_STATUS_OWNER_SET)
  let x := withField x 17 1 (b2n s.evtN)
  withField x 20 4 (s.get F.PWR_RESET_CAUSE_CAUSE)

/-- The levels of the TGPIO balls: what an output drives, what the board drives on an input (R535), low where the board
leaves a pulled-down input undriven (R533). DESIGN CHOICE, log 20. -/
def State.gpioIn (s : State) : Word :=
  let dir := (s.rd A.GPIO_DIR).setWidth 16
  let out := (s.rd A.GPIO_OUT).setWidth 16
  let low := s.pins.gpioOpen &&& (s.rd A.GPIO_PULL).setWidth 16
  ((out &&& dir) ||| (s.pins.gpioIn &&& ~~~dir &&& ~~~low)).setWidth 32

/-- The TGPIO inputs that float: the board leaves them undriven and GPIO_PULL does not pull them down (R533). -/
def State.gpioFloat (s : State) : Word :=
  let dir := (s.rd A.GPIO_DIR).setWidth 16
  (s.pins.gpioOpen &&& ~~~dir &&& ~~~((s.rd A.GPIO_PULL).setWidth 16)).setWidth 32

/-- A word of the parameter image in use, 0 at and beyond its end (R523). -/
def State.paramWord (s : State) (off : Nat) : Word :=
  if off + 4 ≤ s.rot.param.length then BitVec.ofNat 32 (leNat ((s.rot.param.drop off).take 4)) else 0

/-- The words that report what another field of State holds, outside the quadrants. GEO_STATUS.BAD is
the check's, 1 right after reset, though its Reset column gives 0. DEDUCED, log 164; DEDUCED, log 190. -/
def State.viewSystem (s : State) (a : Nat) : Option Word :=
  if a = A.WT_STATUS then some (withField (s.rd a) 4 1 (b2n s.standbyOk))
  else if a = A.WT_FREQ_ADJ then some (BitVec.ofInt 32 (s.appliedAdj / 2 ^ 20))
  else if a = A.WT_HO_ELAPSED then some (BitVec.ofNat 32 (s.wt.hoCycles / cyclesPerSec))
  else if a = A.WT_DSW_HELD then some (BitVec.ofInt 32 (s.wt.dHeld / 2 ^ 40))
  else if a = A.CAD_FRAME_LO then some (BitVec.ofNat 32 s.frameIndex)
  else if a = A.CAD_FRAME_HI then some (BitVec.ofNat 32 (s.frameIndex / 2 ^ 32))
  else if a = A.WT_CAP_W0 then some (s.capHead.word 0)
  else if a = A.WT_CAP_W1 then some (s.capHead.word 1)
  else if a = A.WT_CAP_W2 then some (s.capHead.word 2)
  else if a = A.WT_CAP_STATUS then some (fifoStatus (s.rd a) 9 s.wt.capFifo.length)
  else if a = A.GEO_STATUS then some (withField (withField (s.rd a) 0 1 (b2n s.geoOk)) 1 3 s.geoBad)
  else if a = A.GPIO_IN then some s.gpioIn
  else if a = A.SYS_STATUS then some (withField (s.rd a) 8 1 (s.get F.SEC_STATUS_PARAM_DEFAULTED))
  else if a = A.BRD_STATUS then some s.brdStatus
  else if a = A.DFL_CPL_W 0 then some s.cplHead.1
  else if a = A.DFL_CPL_W 1 then some s.cplHead.2.1
  else if a = A.DFL_CPL_W 2 then some s.cplHead.2.2.1
  else if a = A.DFL_CPL_STATUS then some (fifoStatus (s.rd a) 7 s.dfl.cpl.length)
  else if a = A.PWR_PNL_STATUS then some (withField (s.rd a) 0 4 (s.get F.PWR_PNL_EN))
  else if 0xe00000 ≤ a ∧ a < 0xf00000 then some (s.paramWord (a - 0xe00000))
  else none

/-- A register of sequencer `q`. DEDUCED, log 164. -/
def State.viewSeq (s : State) (q : SeqId) (a : Nat) : Option Word :=
  let c := s.seq q
  if a = A.SEQ_STATUS q then some (BitVec.ofNat 32 c.statusWord)
  else if a = A.SEQ_PC q then some (c.pc.setWidth 32)
  else if a = A.SEQ_FAULT q then some (BitVec.ofNat 32 (faultWord c.fault))
  else if a = A.SEQ_ENTRY q then some (c.entry.setWidth 32)
  else if a = A.SEQ_EVQ_STATUS q then some (fifoStatus (s.rd a) 9 c.queue.length)
  else none

/-- Refresh units owed and not yet issued, held at 4 (R392, R394). DEDUCED, log 165. -/
def State.refBacklog (s : State) (n : QuadId) : Nat :=
  let d := s.dr n
  if s.dramReady n ∧ 0 < s.trefi n then min 4 ((d.acc + (s.wall16 - d.accAt) * s.refM n) / s.trefi n) else 0

/-- The words of quadrant `n` that report what another field of State holds. DEDUCED, log 87; DEDUCED, log 164. -/
def State.viewQuad (s : State) (n : QuadId) (a : Nat) : Option Word :=
  if a = A.MAP_STATUS n then
    some (withField (withField (s.rd a) 2 1 (b2n (s.mapBusy n 0))) 3 1 (b2n (s.mapBusy n 1)))
  else if a = A.MAP_RECSIZE n then some (if s.geoOk then BitVec.ofNat 32 (s.recSize + s.sliceBytes * 2 ^ 16) else 0)
  else if a = A.MAP_BANKSIZE n then some (if s.geoOk then BitVec.ofNat 32 s.mapBankSize else 0)
  else if a = A.CRD_LEAD n then some (withField (s.rd a) 0 6 (s.lead n))
  else if a = A.TPL_DROW_MIN n then
    some (if s.quadUp n then BitVec.ofNat 32 (s.quadDRow n % 65536 + 2 ^ 31) else 0)
  else if a = A.DRAM_REF_STATUS n then some (withField (s.rd a) 12 3 (s.refBacklog n))
  else none

/-- A read by master `m` of the register at `a`: the value and the state after it. WT_CAP_W3 and DFL_CPL_W3 pop;
the level of a floating TGPIO input is a free value, and so are a camera port's pad levels while it is enabled.
DESIGN CHOICE, log 94. -/
def State.readReg (s : State) (m : Master) (a : Nat) : Word × State :=
  if 0x1000000 ≤ a then ((s.viewQuad (quadAt a) a).getD (s.rd a), s)
  else if 0x800000 ≤ a ∧ a < 0xa00000 then
    let s := s.geoAdvance
    (s.rd a, s)
  else if a = A.WT_CAP_W3 then s.popCapture
  else if a = A.DFL_CPL_W 3 then s.cplPop
  else if a = A.GPIO_IN ∧ s.gpioFloat ≠ 0 then
    let (x, s) := s.draw 32
    (mixWords s.gpioFloat (BitVec.ofNat 32 x) s.gpioIn, s)
  else if a = A.WHISTLE_MASK then (match m with | .host => BitVec.ofNat 32 s.whistleHost | _ => s.rd a, s)
  else if a = A.DFL_JOB_CREDIT then
    let staged := match m with | .host => s.dfl.stageHost.length | _ => s.dfl.stageSqs.length
    if s.dfl.past then
      let (x, s) := s.draw 32
      (BitVec.ofNat 32 x, s)
    else (BitVec.ofNat 32 (s.jobCredit + staged * 2 ^ 16), s)
  else
    match indexOf 2 A.CAM_PORT_STATUS a with
    | some p =>
      if s.flag (F.CAM_PORT_CTRL_EN p) then
        let (x, s) := s.draw 3
        (withField (s.rd a) 0 3 x, s)
      else (s.rd a, s)
    | none =>
      match (fins 5).findSome? fun (q : SeqId) => s.viewSeq q a with
      | some v => (v, s)
      | none => ((s.viewSystem a).getD (s.rd a), s)

end Sys2Proof.Machine
end

