-- ==== Sys2Proof/Machine/KeyWrap.lean ====
section
/-!
DEFINITION. Sys2Proof/Machine/KeyWrap.lean: AES-256 key wrap with padding (SP 800-38F), under which the boot flash holds
the private identity key (R427).
-/

namespace Sys2Proof.Machine

/-- The byte whose substitute is `x`. -/
def unsubByte (x : Nat) : Nat := ((List.range 256).find? fun y => subByte y == x).getD 0

/-- `subShift` undone. -/
def unsubShift (b : List Nat) : List Nat :=
  [0, 13, 10, 7, 4, 1, 14, 11, 8, 5, 2, 15, 12, 9, 6, 3].map fun j => unsubByte (b.getD j 0)

/-- The columns of a block unmixed: mixing them four times leaves a block as it is. -/
def unmixColumns (b : List Nat) : List Nat := mixColumns (mixColumns (mixColumns b))

/-- The rounds undone, the round keys from the last but one to the first. -/
def aesUnround : List (List Nat) → List Nat → List Nat
  | [], b => b
  | [k], b => xorBytes k b
  | k :: t, b => aesUnround t (unsubShift (unmixColumns (xorBytes k b)))

/-- The block that is enciphered as the number `x` under the round keys `ks`, as a number. -/
def aesUnNat (ks : List (List Nat)) (x : Nat) : Nat :=
  match ks.reverse with
  | k :: t => blockNat (aesUnround t (unsubShift (xorBytes k ((beBytes 16 x).map BitVec.toNat))))
  | [] => x

/-- The integrity value of a key of 48 bytes. -/
def wrapCheck : Nat := 0xA65959A600000030

/-- `n` steps of the wrapping from step `t` on, with the register `a` and the semiblocks `r`, the next first. -/
def wrapSteps (ks : List (List Nat)) : Nat → Nat → Nat → List Nat → Nat × List Nat
  | 0, _, a, r => (a, r)
  | n + 1, t, a, r =>
    let b := aesNat ks (a * 2 ^ 64 + r.headD 0)
    wrapSteps ks n (t + 1) (b / 2 ^ 64 ^^^ t) (r.drop 1 ++ [b % 2 ^ 64])

/-- The steps `n` down to 1 undone. -/
def unwrapSteps (ks : List (List Nat)) : Nat → Nat → List Nat → Nat × List Nat
  | 0, a, r => (a, r)
  | n + 1, a, r =>
    let b := aesUnNat ks ((a ^^^ (n + 1)) * 2 ^ 64 + r.getLastD 0)
    unwrapSteps ks n (b / 2 ^ 64) (b % 2 ^ 64 :: r.dropLast)

/-- The 56 bytes of a key of 48 bytes, wrapped under `kek`. -/
def wrapKey (kek : BitVec 256) (x : Nat) : List Byte :=
  let (a, r) := wrapSteps (roundKeys kek) 36 1 wrapCheck ((pieces 8 6 (beBytes 48 x)).map beNat)
  (a :: r).flatMap (beBytes 8)

/-- The key that 56 bytes unwrap to under `kek`, none where they do not. -/
def unwrapKey (kek : BitVec 256) (b : List Byte) : Option Nat :=
  let l := (pieces 8 7 b).map beNat
  let (a, r) := unwrapSteps (roundKeys kek) 36 (l.headD 0) (l.drop 1)
  if a = wrapCheck then some (r.foldl (fun v x => v * 2 ^ 64 + x) 0) else none

end Sys2Proof.Machine
end

