-- ==== Sys2Proof/Machine/Sign.lean ====
section
/-!
DEFINITION. Sys2Proof/Machine/Sign.lean: the signature schemes of signed objects (R417, R418): ECDSA and ECDH over
P-384 (FIPS 186-5, SP 800-56A), the verification of HSS signatures (RFC 8554), and the device's own (R439).
-/

namespace Sys2Proof.Machine

/-! ### P-384 -/

/-- The prime of the field of P-384. -/
def p384P : Nat := 2 ^ 384 - 2 ^ 128 - 2 ^ 96 + 2 ^ 32 - 1

/-- The order of the base point. -/
def p384N : Nat :=
  0xffffffffffffffffffffffffffffffffffffffffffffffffc7634d81f4372ddf581a0db248b0a77aecec196accc52973

/-- The coefficient b of the curve y² = x³ - 3x + b. -/
def p384B : Nat :=
  0xb3312fa7e23ee7e4988e056be3f82d19181d9c6efe8141120314088f5013875ac656398d8a2ed19d2a85c8edd3ec2aef

/-- The base point. -/
def p384G : Nat × Nat :=
  (0xaa87ca22be8b05378eb1c71ef320ad746e1d3b628ba79b9859f741e082542a385502f25dbf55296c3a545e3872760ab7,
   0x3617de4a96262c6f5d9e98bf9292dc29f8f41dbd289a147ce9da3113b5f0b8c00a60b1ce1d7e819d7a431d7c90ea0e5f)

/-- `b` to the power `e` modulo `m`, `n` the number of bits of `e` still looked at. -/
def powMod (m : Nat) : Nat → Nat → Nat → Nat
  | 0, _, _ => 1 % m
  | n + 1, b, e =>
    let r := powMod m n (b * b % m) (e / 2)
    if e % 2 = 1 then r * b % m else r

/-- The inverse of `x` modulo a prime below 2^384. -/
def invMod (m x : Nat) : Nat := powMod m 384 (x % m) (m - 2)

/-- A point of the curve; none is the point at infinity. -/
abbrev Point := Option (Nat × Nat)

/-- The difference modulo the field's prime. -/
def subP (a b : Nat) : Nat := (a + p384P - b % p384P) % p384P

/-- The sum of two points. -/
def addPoint (a b : Point) : Point :=
  match a, b with
  | none, b => b
  | a, none => a
  | some (x1, y1), some (x2, y2) =>
    let sum (l : Nat) : Point :=
      let x := subP (subP (l * l) x1) x2
      some (x, subP (l * subP x1 x) y1)
    if x1 = x2 then
      if (y1 + y2) % p384P = 0 then none else sum (subP (3 * x1 * x1) 3 * invMod p384P (2 * y1) % p384P)
    else sum (subP y2 y1 * invMod p384P (subP x2 x1) % p384P)

/-- `k` times point `a`, over the lowest `n` bits of `k`. -/
def mulPoint : Nat → Nat → Point → Point
  | 0, _, _ => none
  | n + 1, k, a =>
    let r := mulPoint n (k / 2) (addPoint a a)
    if k % 2 = 1 then addPoint r a else r

/-- A public key X‖Y of 96 bytes, where it is a point of the curve. -/
def pointOf (b : List Byte) : Point :=
  let x := beNat (b.take 48)
  let y := beNat (b.drop 48)
  if b.length = 96 ∧ x < p384P ∧ y < p384P ∧ y * y % p384P = (subP (x * x * x) (3 * x) + p384B) % p384P then some (x, y)
  else none

/-- The public key X‖Y of private key `d`. -/
def publicKey (d : Nat) : List Byte :=
  match mulPoint 384 d (some p384G) with
  | some (x, y) => beBytes 48 x ++ beBytes 48 y
  | none => List.replicate 96 0

/-- The shared secret of private key `d` and public key `q` (SP 800-56A, ECC CDH); none where there is none. -/
def ecdh (d : Nat) (q : List Byte) : Option (List Byte) :=
  match pointOf q with
  | some a => (mulPoint 384 d (some a)).map fun r => beBytes 48 r.1
  | none => none

/-- The signature `sig` (r‖s) over the digest `e` verifies under the public key `q` (FIPS 186-5). DEDUCED, log 170. -/
def ecdsaVerify (q e sig : List Byte) : Bool :=
  let r := beNat (sig.take 48)
  let t := beNat (sig.drop 48)
  match pointOf q with
  | none => false
  | some a =>
    if sig.length = 96 ∧ 1 ≤ r ∧ r < p384N ∧ 1 ≤ t ∧ t < p384N then
      let w := invMod p384N t
      match addPoint (mulPoint 384 (beNat e * w % p384N) (some p384G)) (mulPoint 384 (r * w % p384N) (some a)) with
      | some (x, _) => x % p384N == r
      | none => false
    else false

/-- The signature r‖s over the digest `e` by private key `d`, with the per-message secret `k`. -/
def ecdsaSign (d k : Nat) (e : List Byte) : List Byte :=
  match mulPoint 384 k (some p384G) with
  | some (x, _) =>
    let r := x % p384N
    beBytes 48 r ++ beBytes 48 (invMod p384N k * (beNat e + r * d) % p384N)
  | none => List.replicate 96 0

/-! ### HSS -/

/-- Height of an LMS parameter set that the device accepts (R418): LMS_SHA256_M32_H5 to H25. -/
def lmsHeight (t : Nat) : Option Nat := if 5 ≤ t ∧ t ≤ 9 then some (5 * (t - 4)) else none

/-- w, p and ls of an LM-OTS parameter set that the device accepts: LMOTS_SHA256_N32_W1 to W8. -/
def lmotsPar (t : Nat) : Option (Nat × Nat × Nat) :=
  match t with
  | 1 => some (1, 265, 7)
  | 2 => some (2, 133, 6)
  | 3 => some (4, 67, 4)
  | 4 => some (8, 34, 0)
  | _ => none

/-- The number in 4 bytes, most significant first. -/
def be32 (b : List Byte) : Nat := beNat (b.take 4)

/-- An LMS public key. -/
structure LmsKey where
  typ  : Nat
  ots  : Nat
  id   : List Byte
  root : List Byte
deriving DecidableEq, Repr

/-- The LMS public key in 56 bytes. -/
def lmsKeyOf (b : List Byte) : LmsKey :=
  { typ := be32 b, ots := be32 (b.drop 4), id := (b.drop 8).take 16, root := (b.drop 24).take 32 }

/-- Digit `i` of `w` bits of a string. -/
def coef (b : List Byte) (i w : Nat) : Nat := (b.getD (i * w / 8) 0).toNat / 2 ^ (8 - (w * (i % (8 / w)) + w)) % 2 ^ w

/-- The checksum of a digest's digits. -/
def lmotsCksm (q : List Byte) (w ls : Nat) : Nat :=
  ((List.range (256 / w)).map fun i => 2 ^ w - 1 - coef q i w).foldl (· + ·) 0 * 2 ^ ls

/-- The hash chain of digit `i` from step `j` on, `n` steps. -/
def lmotsChain (pre : List Byte) (i : Nat) : Nat → Nat → List Byte → List Byte
  | 0, _, y => y
  | n + 1, j, y => lmotsChain pre i n (j + 1) (sha256 (pre ++ beBytes 2 i ++ beBytes 1 j ++ y))

/-- The LM-OTS public key that signature `sig` (C and the y values) gives for `msg` (RFC 8554, algorithm 4b). -/
def lmotsKey (pre : List Byte) (w p ls : Nat) (msg sig : List Byte) : List Byte :=
  let q := sha256 (pre ++ beBytes 2 0x8181 ++ sig.take 32 ++ msg)
  let qc := q ++ beBytes 2 (lmotsCksm q w ls)
  let z := (List.range p).flatMap fun i =>
    lmotsChain pre i (2 ^ w - 1 - coef qc i w) (coef qc i w) ((sig.drop (32 + 32 * i)).take 32)
  sha256 (pre ++ beBytes 2 0x8080 ++ z)

/-- The root that node `r` of value `x` and the authentication path give. -/
def lmsRoot (id : List Byte) : Nat → Nat → List Byte → List Byte → List Byte
  | 0, _, x, _ => x
  | n + 1, r, x, path =>
    let y := path.take 32
    lmsRoot id n (r / 2) (sha256 (id ++ beBytes 4 (r / 2) ++ beBytes 2 0x8383 ++ (if r % 2 = 1 then y ++ x else x ++ y)))
      (path.drop 32)

/-- Bytes of an LMS signature of LM-OTS parameter `p` and height `h`. -/
def lmsSigLen (p h : Nat) : Nat := 12 + 32 * (p + 1) + 32 * h

/-- The LMS signature `sig` over `msg` verifies under `key` (RFC 8554, algorithm 6a). -/
def lmsVerify (key : LmsKey) (msg sig : List Byte) : Bool :=
  match lmsHeight key.typ, lmotsPar key.ots with
  | some h, some (w, p, ls) =>
    let q := be32 sig
    let tail := sig.drop (8 + 32 * (p + 1))
    if sig.length = lmsSigLen p h ∧ be32 (sig.drop 4) = key.ots ∧ be32 tail = key.typ ∧ q < 2 ^ h then
      let kc := lmotsKey (key.id ++ beBytes 4 q) w p ls msg ((sig.drop 8).take (32 * (p + 1)))
      let leaf := sha256 (key.id ++ beBytes 4 (2 ^ h + q) ++ beBytes 2 0x8282 ++ kc)
      lmsRoot key.id h (2 ^ h + q) leaf (tail.drop 4) == key.root
    else false
  | _, _ => false

/-- What the verification of an HSS signature says. -/
inductive HssResult where | ok | bad | unsupported
deriving DecidableEq, Repr

/-- The signed public keys of the levels below, then the signature over `msg`; `n` levels remain below this one. -/
def hssLevels (msg : List Byte) : Nat → LmsKey → List Byte → HssResult
  | n, key, sig =>
    match lmsHeight key.typ, lmotsPar key.ots with
    | some h, some (_, p, _) =>
      match n with
      | 0 => if lmsVerify key msg sig then .ok else .bad
      | n + 1 =>
        let k := lmsSigLen p h
        let pub := (sig.drop k).take 56
        if pub.length < 56 then .bad
        else
          match hssLevels msg n (lmsKeyOf pub) (sig.drop (k + 56)) with
          | .ok => if lmsVerify key pub (sig.take k) then .ok else .bad
          | r => r
    | _, _ => .unsupported

/-- The HSS signature `sig` over `msg` under the 60-byte public key `key` (RFC 8554, R418): parameters that the
device does not accept, in the key or in the signature, are unsupported. DEDUCED, log 170. -/
def hssVerify (key msg sig : List Byte) : HssResult :=
  let l := be32 key
  if l = 0 ∨ 3 < l then .unsupported
  else if sig.length < 4 ∨ be32 sig + 1 ≠ l then .bad
  else hssLevels msg (l - 1) (lmsKeyOf (key.drop 4)) (sig.drop 4)

/-! ### The device's HSS key -/

/-- A tree of the device's HSS key (R439): its identifier, its seed, its height, its parameter set. -/
structure LmsTree where
  id   : List Byte
  seed : Nat
  h    : Nat
  typ  : Nat
deriving DecidableEq, Repr

/-- The secret of chain `i` of leaf `q`. -/
def LmsTree.secret (k : LmsTree) (q i : Nat) : List Byte := beBytes 32 (Config.otsSecret k.seed q i)

/-- The LM-OTS public key of leaf `q`, under LMOTS_SHA256_N32_W4. -/
def LmsTree.leafKey (k : LmsTree) (q : Nat) : List Byte :=
  let pre := k.id ++ beBytes 4 q
  sha256 (pre ++ beBytes 2 0x8080 ++ (List.range 67).flatMap fun i => lmotsChain pre i 15 0 (k.secret q i))

/-- Node `r` of a tree, `n` levels above its leaves. -/
def LmsTree.node (k : LmsTree) : Nat → Nat → List Byte
  | 0, r => sha256 (k.id ++ beBytes 4 r ++ beBytes 2 0x8282 ++ k.leafKey (r - 2 ^ k.h))
  | n + 1, r => sha256 (k.id ++ beBytes 4 r ++ beBytes 2 0x8383 ++ k.node n (2 * r) ++ k.node n (2 * r + 1))

/-- The public key of a tree in its 56 bytes. -/
def LmsTree.public (k : LmsTree) : List Byte := beBytes 4 k.typ ++ beBytes 4 3 ++ k.id ++ k.node k.h 1

/-- The nodes of leaf `q`'s authentication path, the lowest first. -/
def LmsTree.pathNodes (k : LmsTree) (q : Nat) : List Nat := (List.range k.h).map fun l => (2 ^ k.h + q) / 2 ^ l ^^^ 1

/-- The authentication path of leaf `q`. -/
def LmsTree.path (k : LmsTree) (q : Nat) : List Byte :=
  ((k.pathNodes q).zipIdx.map fun (r, l) => k.node l r).flatten

/-- The LM-OTS signature of leaf `q` over `msg` with the randomizer `c` (RFC 8554, algorithm 3). -/
def LmsTree.ots (k : LmsTree) (q : Nat) (c msg : List Byte) : List Byte :=
  let pre := k.id ++ beBytes 4 q
  let d := sha256 (pre ++ beBytes 2 0x8181 ++ c ++ msg)
  let dc := d ++ beBytes 2 (lmotsCksm d 4 4)
  beBytes 4 3 ++ c ++ (List.range 67).flatMap fun i => lmotsChain pre i (coef dc i 4) 0 (k.secret q i)

/-- The LMS signature of leaf `q` over `msg` with the authentication path `path`. -/
def LmsTree.sign (k : LmsTree) (q : Nat) (c msg path : List Byte) : List Byte :=
  beBytes 4 q ++ k.ots q c msg ++ beBytes 4 k.typ ++ path

end Sys2Proof.Machine
end

