-- ==== Sys2Proof/Machine/Trust.lean ====
section
/-!
DEFINITION. Sys2Proof/Machine/Trust.lean: signed objects and what the root of trust verifies (R416 to R419), the
measurement registers (R421), certificates (R428), Porow bundles and the bundle loader (R88, R90, R425, R426), and
the SEC registers.
-/

namespace Sys2Proof.Machine

/-! ### Results -/

/-- The RoT result codes. -/
inductive RotResult where
  | ok | format | keyUnknown | rollback | sigEcdsa | sigHss | unsupported | time | binding | authority | state
  | range | busy | memErr | flashErr | leaves
deriving DecidableEq, Repr

/-- The number of a result (the RoT result codes table). -/
def RotResult.code : RotResult → Nat
  | .ok => 0 | .format => 1 | .keyUnknown => 2 | .rollback => 3 | .sigEcdsa => 4 | .sigHss => 5 | .unsupported => 6
  | .time => 7 | .binding => 8 | .authority => 9 | .state => 10 | .range => 11 | .busy => 12 | .memErr => 13
  | .flashErr => 14 | .leaves => 15

/-! ### Fields -/

/-- The `n`-byte field at offset `i`, least significant byte first (R7). -/
def le (b : List Byte) (i n : Nat) : Nat := leNat ((b.drop i).take n)

/-- Every byte is 0. -/
def zeros (b : List Byte) : Bool := b.all (· == 0)

/-- A number in 48 bytes, the first the most significant, as OTP and the measurement registers hold a digest. -/
def digestBytes (d : BitVec 384) : List Byte := beBytes 48 d.toNat

/-! ### The SEC registers and the OTP -/

/-- An owner slot is written. -/
def RotUnit.ownerSet (r : RotUnit) : Bool := (fins 4).any fun i => r.owners[i].isSome

/-- The active owner slot: the highest written slot that is not retired (R416). -/
def RotUnit.activeOwner (r : RotUnit) : Option (Fin 4) :=
  (fins 4).reverse.find? fun i => r.owners[i].isSome && decide (r.retired ≤ i.val)

/-- The active OWNER_HASH. -/
def RotUnit.ownerHash (r : RotUnit) : Option (BitVec 384) := r.activeOwner.bind fun i => r.owners[i]

/-- Leaf fuses (R416). -/
def leafFuses : Nat := 32768

/-- SEC_STATUS.OWNER_SET and HSS_EXHAUSTED, SEC_SVN and SEC_LEAF.TOP show the OTP. DEDUCED, log 154. -/
def State.secShow (s : State) : State :=
  let r := s.rot
  let s := s.put F.SEC_STATUS_OWNER_SET (b2n r.ownerSet)
  let s := s.put F.SEC_STATUS_HSS_EXHAUSTED (b2n (decide (leafFuses ≤ r.leaf)))
  let s := ((s.put F.SEC_SVN_ROT r.svn[0]).put F.SEC_SVN_BUNDLE r.svn[1]).put F.SEC_SVN_OPERATOR r.svn[2]
  let s := s.put F.SEC_SVN_OWNER_SLOT (match r.activeOwner with | some i => i.val | none => 0)
  let s := (s.wr A.SEC_DEVICE_ID_LO (r.deviceId.setWidth 32)).wr A.SEC_DEVICE_ID_HI ((r.deviceId >>> 32).setWidth 32)
  s.put F.SEC_LEAF_TOP r.leaf

/-- The root of trust's own state replaced. -/
def State.setTrust (s : State) (r : RotUnit) : State := { s with rot := r }

/-- A SEC event (the Root-of-trust events table). -/
def State.secEvent (s : State) (code data : Nat) : State := s.sqsEvent 0x4E code data

/-! ### Measurement -/

/-- Measurement register `m`: byte i at word ⌊i/4⌋, bits from 8·(i mod 4) (R421, SEC_MEASm). -/
def State.meas (s : State) (m : Nat) : List Byte :=
  (List.range 12).flatMap fun w => leBytes 4 (s.rd (A.SEC_MEAS m w)).toNat

/-- Measurement register `m` holds the 48 bytes `b`. -/
def State.putMeas (s : State) (m : Nat) (b : List Byte) : State :=
  forAll (List.range 12) s fun s w => s.wr (A.SEC_MEAS m w) (BitVec.ofNat 32 (le b (4 * w) 4))

/-- M ← SHA-384(M ‖ SHA-384(object)) (R421). -/
def State.measure (s : State) (m : Nat) (object : List Byte) : State :=
  s.putMeas m (sha384 (s.meas m ++ sha384 object))

/-! ### Signed objects -/

/-- KIND 1 to 6 with a SIGNER that the Object kinds table gives it. DEDUCED, log 140. -/
def signerOk (kind signer : Nat) : Bool :=
  match kind with
  | 1 => signer == 0
  | 2 => signer == 0 || signer == 1
  | 3 => signer == 0 || signer == 1
  | 4 => signer == 1
  | 5 => signer == 3
  | 6 => signer == 2
  | _ => false

/-- Step 1 of R418: a source that begins with a signed object whose header and lengths are right, taken apart.
DEDUCED, log 140. -/
def parseObject (b : List Byte) : Option SignedObj :=
  let bodyLen := le b 8 4
  let tailLen := le b 12 4
  let len := 32 + bodyLen + tailLen
  let tail := b.drop (32 + bodyLen)
  if 288 ≤ b.length ∧ le b 0 4 = 0x4F535A41 ∧ le b 6 2 = 1 ∧ signerOk (le b 4 2) (le b 18 1) ∧ le b 16 2 ≤ 64
      ∧ le b 19 1 = 0 ∧ le b 28 4 = 0 ∧ 256 ≤ tailLen ∧ tailLen ≤ 256 + 28672 ∧ len ≤ b.length
      ∧ le tail 252 4 + 256 = tailLen then
    some { kind := le b 4 2, svn := le b 16 2, signer := le b 18 1, stamp := le b 20 8
           body := bytesAt b 32 bodyLen, keys := tail.take 156, ecdsa := bytesAt tail 156 96
           hss := bytesAt tail 256 (tailLen - 256), bytes := b.take len }
  else none

/-- M: the header, the body and KEYS (R417). -/
def SignedObj.message (o : SignedObj) : List Byte := o.bytes.take (32 + o.body.length + 156)

/-- The operator certificate that a session request encloses (R430). -/
def requestCert (body : List Byte) : Option SignedObj := parseObject (bytesAt body 144 (le body 140 4))

/-- SUBJECT_KEYS of a certificate body. -/
def subjectKeys (body : List Byte) : List Byte := bytesAt body 48 156

/-- Step 2 of R418: KEYS hash to what the Object kinds table names. -/
def State.keysKnown (s : State) (o : SignedObj) : Bool :=
  let h := some (digestOf (sha384 o.keys))
  let r := s.rot
  let vendor := h == r.vendorHash
  let owner := h == r.ownerHash
  match o.kind with
  | 1 => vendor
  | 2 => if o.signer = 1 then owner else vendor && !r.ownerSet
  | 3 => if o.signer = 0 then vendor else owner
  | 4 => owner
  | 5 => true
  | _ => match requestCert o.body with
    | some c => sha384 o.keys == sha384 (subjectKeys c.body)
    | none => false

/-- The counter that step 3 of R418 compares SVN with, 0 where SVN is ignored. -/
def State.svnFloor (s : State) (o : SignedObj) : Nat :=
  match o.kind with
  | 1 => s.rot.svn[0]
  | 2 => s.rot.svn[1]
  | 3 => if o.signer = 1 then s.rot.svn[2] else 0
  | _ => 0

/-- Steps 2 to 5 of R418, in order. DEDUCED, log 140. -/
def State.verify (s : State) (o : SignedObj) : RotResult :=
  if !s.keysKnown o then .keyUnknown
  else if o.svn < s.svnFloor o then .rollback
  else if !ecdsaVerify (o.keys.take 96) (sha384 o.message) o.ecdsa then .sigEcdsa
  else
    match hssVerify (o.keys.drop 96) o.message o.hss with
    | .ok => .ok
    | .bad => .sigHss
    | .unsupported => .unsupported

/-! ### Time and certificates -/

/-- NOT_BEFORE and NOT_AFTER count while WT_STATUS.LEASH is 2 or 3 (R419). -/
def State.timeKnown (s : State) : Bool := s.get F.WT_STATUS_LEASH == 2 || s.get F.WT_STATUS_LEASH == 3

/-- Wall time lies outside the two times, while they count. -/
def State.outOfTime (s : State) (notBefore notAfter : Nat) : Bool :=
  s.timeKnown && (decide (s.wallSec < notBefore) || decide (notAfter < s.wallSec))

/-- DETAIL of a result whose time checks may have been skipped (R419). -/
def State.timeDetail (s : State) : Nat := if s.timeKnown then 0 else 2 ^ 31

/-- Step 6 of R418 for a certificate (R428): its layout, a signer of its kind, and its time. -/
def State.certCheck (s : State) (o : SignedObj) : RotResult :=
  let b := o.body
  let kind := le b 0 1
  if b.length ≠ 208 ∨ ¬ zeros (bytesAt b 1 3) ∨ ¬ zeros (bytesAt b 204 4) then .format
  else if ¬ ((kind = 1 ∧ o.signer = 0 ∧ le b 36 4 = 0) ∨ (kind = 2 ∧ o.signer = 1)) then .format
  else if s.outOfTime (le b 20 8) (le b 28 8) then .time
  else .ok

/-! ### Bundles -/

/-- Descriptor `i` of a bundle body as a segment, where its fields are right (R425). -/
def segmentAt (b : List Byte) (i : Nat) : Option Segment :=
  let d := b.drop (16 + 16 * i)
  let data := le d 1 1 == 1
  let len := le d 8 4
  if h : le d 0 1 < 5 then
    if le d 1 1 ≤ 1 ∧ le d 2 1 ≤ 1 ∧ le d 3 1 = 0 ∧ len % (if data then 4 else 8) = 0 then
      some { seq := ⟨le d 0 1, h⟩, data := data, hot := le d 2 1 == 1, addr := le d 4 4, body := bytesAt b (le d 12 4) len }
    else none
  else none

/-- Descriptor `i` lies outside the body. -/
def segmentOutside (b : List Byte) (i : Nat) : Bool :=
  let d := b.drop (16 + 16 * i)
  decide (b.length < le d 12 4 + le d 8 4)

/-- The bytes of its memory that a segment fills: from where, and to where. -/
def Segment.span (g : Segment) : Nat × Nat :=
  let at_ := if g.data then g.addr else 8 * g.addr
  (at_, at_ + g.body.length)

/-- A segment outside its memory (R426). -/
def Segment.tooFar (g : Segment) : Bool :=
  decide ((if g.data then 65536 else 262144) < g.span.2) || (g.data && g.addr % 4 != 0)

/-- Two segments for the same memory overlap (R426). -/
def Segment.overlaps (a b : Segment) : Bool :=
  a.seq == b.seq && a.data == b.data && decide (a.span.1 < b.span.2) && decide (b.span.1 < a.span.2)

/-- A bundle body taken apart (R425), or the result that refuses its layout. DEDUCED, log 152. -/
def parseBundle (b : List Byte) : Except RotResult Bundle :=
  let n := le b 0 2
  let mask := le b 2 1
  if b.length < 16 + 16 * n ∨ n = 0 ∨ 64 < n ∨ 32 ≤ mask ∨ le b 3 1 ≠ 0 ∨ le b 14 2 ≠ 0 then .error .format
  else
    let segs := (List.range n).filterMap (segmentAt b)
    if segs.length ≠ n then .error .format
    else if (List.range n).any (segmentOutside b) || segs.any Segment.tooFar
        || (List.range n).any (fun i => (List.range i).any fun j =>
          match segs[i]?, segs[j]? with | some x, some y => x.overlaps y | _, _ => false) then .error .range
    else
      .ok { segs := segs
            entries := (fins 5).filterMap fun (q : SeqId) => if bit mask q.val then some (q, le b (4 + 2 * q.val) 2 % 32768) else none }

/-- A sequencer is HALTED or READY (R88). -/
def State.seqIdle (s : State) (q : SeqId) : Bool :=
  match (s.seq q).run with
  | .halted => true
  | .ready => true
  | _ => false

/-- A sequencer that R426 does not let a segment be loaded into; a FAULTED one is not running, so R90 allows it no HOT
segment. -/
def State.segRefused (s : State) (g : Segment) : Bool :=
  if g.hot then g.data || !s.flag (F.SEQ_CTRL_HOT_OK g.seq) || decide ((s.seq g.seq).run = .faulted)
  else !s.seqIdle g.seq

/-- A bundle of at most 2 MiB with the right layout (R425, R426), or the result that refuses it. -/
def SignedObj.bundle (o : SignedObj) : Except RotResult Bundle :=
  if 2 ^ 21 < o.bytes.length then .error .range else parseBundle o.body

/-- Step 6 of R418 for a bundle (R426). DEDUCED, log 143. -/
def State.bundleCheck (s : State) (o : SignedObj) : Except RotResult Bundle :=
  match o.bundle with
  | .error r => .error r
  | .ok b => if b.segs.any s.segRefused then .error .state else .ok b

/-- What R418 makes of an object of the boot bundle region as boot does: no sequencer runs then and HOT_OK is 0, so that a
HOT segment refuses a bundle (R424, R426). -/
def State.bootVerdict (s : State) : Option SignedObj → Except RotResult (SignedObj × Bundle)
  | none => .error .format
  | some o =>
    if o.kind ≠ 2 then .error .format
    else
      match s.verify o, o.bundle with
      | .ok, .ok b => if b.segs.any (·.hot) then .error .state else .ok (o, b)
      | .ok, .error x => .error x
      | x, _ => .error x

/-- Words of `n` bytes in a list, least significant byte first. -/
def leWords (n : Nat) : Nat → List Byte → List Nat
  | 0, _ => []
  | k + 1, b => leNat (b.take n) :: leWords n k (b.drop n)

/-- Consecutive words from address `a` stored. -/
def storeWords {w : Nat} (m : Sparse (BitVec w)) (a : Nat) : List Nat → Sparse (BitVec w)
  | [] => m
  | x :: t => storeWords (sparseSet (fun _ => 0) m a (BitVec.ofNat w x)) (a + 1) t

/-- A segment written to its memory: 8 bytes a word of instruction memory, 4 of data memory (R425). DEDUCED, log 152. -/
def State.writeSegment (s : State) (g : Segment) : State :=
  let c := s.seq g.seq
  s.setSeq g.seq
    (if g.data then { c with dmem := storeWords c.dmem (g.addr / 4) (leWords 4 (g.body.length / 4) g.body) }
     else { c with imem := storeWords c.imem g.addr (leWords 8 (g.body.length / 8) g.body) })

/-- The last segment of a bundle has been written (R88): each sequencer that it has loaded while HALTED or READY is READY,
and SEQs_ENTRY of those that ENTRY_MASK names are set. DEDUCED, log 152. -/
def State.bundleDone (s : State) (b : Bundle) : State :=
  let s := forAll s.rot.loaded s fun s q =>
    let c := s.seq q
    if c.run = .halted then s.setSeq q { c with run := .ready } else s
  let s := forAll b.entries s fun s e => s.setSeq e.1 { s.seq e.1 with entry := BitVec.ofNat 15 e.2 }
  s.setTrust { s.rot with segs := s.rot.segs ++ b.segs, loaded := [] }

/-- The loader writes the whole of a bundle (R88). -/
def State.loadBundle (s : State) (b : Bundle) : State :=
  let s := s.setTrust { s.rot with loaded := (b.segs.map (·.seq)).filter s.seqIdle }
  (forAll b.segs s State.writeSegment).bundleDone b

/-- Core cycles that a segment takes: 8 bytes a sequencer cycle, which is two core cycles (R64, R88). -/
def Segment.cycles (g : Segment) : Nat := 2 * ceilDiv g.body.length 8

/-- The loader begins the first of the segments that are left: fetches from the range of a HOT one stall (R90). -/
def State.segBegins (s : State) (l : List Segment) : State :=
  match l with
  | g :: _ =>
    let s := if s.seqIdle g.seq then s.setTrust { s.rot with loaded := g.seq :: s.rot.loaded } else s
    if g.hot then s.setSeq g.seq { s.seq g.seq with hot := [(g.addr, g.addr + g.body.length / 8)] } else s
  | [] => s

/-- The loader has written segment `g`: its contents are in place, and a fetch that waited for it goes on (R90). -/
def State.segEnds (s : State) (g : Segment) : State :=
  let s := s.writeSegment g
  if g.hot then
    let c : Seq := { s.seq g.seq with hot := [] }
    s.setSeq g.seq (if c.busy = .fetch then { c with run := .running, busy := .none } else c)
  else s

/-- The loader at the present core cycle: a segment whose time is over is written and the next begins (R88). -/
def State.loadRun (s : State) : State :=
  match s.rot.job with
  | some (.loading by_ o b (g :: t) since) =>
    if since + g.cycles ≤ s.wt.cycle then
      let s := s.segEnds g
      ({ s with rot := { s.rot with job := some (.loading by_ o b t (since + g.cycles)) } } : State).segBegins t
    else s
  | _ => s

/-! ### The boot flash -/

/-- The byte at offset `a` of the boot flash; an erased one is 0xFF. DESIGN CHOICE, log 137. -/
def RotUnit.flashByte (r : RotUnit) (a : Nat) : Byte := sparseGet (fun _ => 0xFF) r.flash a

/-- `n` bytes of the boot flash from offset `a`. -/
def RotUnit.flashRead (r : RotUnit) (a n : Nat) : List Byte := (List.range n).map fun i => r.flashByte (a + i)

/-- Bytes stored from offset `a` of the boot flash. DESIGN CHOICE, log 137. -/
def storeFlash (m : Sparse Byte) (a : Nat) : List Byte → Sparse Byte
  | [] => m
  | b :: t => storeFlash (sparseSet (fun _ => 0xFF) m a b) (a + 1) t

/-- The size of the boot flash. DESIGN CHOICE: the least that R422 allows, 64 MiB. DESIGN CHOICE, log 136. -/
def flashSize : Nat := 0x4000000

/-- Offset and size of the regions of FLASH_WRITE (the Boot flash layout table). -/
def flashRegion (r : Nat) : Option (Nat × Nat) :=
  match r with
  | 0 => some (0, 0x400000)
  | 1 => some (0x400000, 0x400000)
  | 2 => some (0xD00000, 0x100000)
  | 3 => some (0xE00000, flashSize - 0xE00000)
  | _ => none

/-- The object that begins at offset `a` of the boot flash, within `room` bytes: its header first, then as many bytes
as that gives. -/
def RotUnit.flashObject (r : RotUnit) (a room : Nat) : Option SignedObj :=
  let h := r.flashRead a 32
  let len := 32 + le h 8 4 + le h 12 4
  if le h 0 4 = 0x4F535A41 ∧ len ≤ room then parseObject (r.flashRead a len) else none

/-- Where copy `i` of the wrapped identity key and the device certificate lie in the identity region (R422).
DESIGN CHOICE, log 213. -/
def identityCopy (i : Nat) : Nat := 0x800000 + 0x1000 * i

/-- Where the device certificate lies in the identity region (R422). DESIGN CHOICE, log 213. -/
def certOffset : Nat := 0x802000

/-- The device certificate in the identity region (R422, R427), nothing where no object stands there. -/
def RotUnit.cert (r : RotUnit) : List Byte :=
  let h := r.flashRead certOffset 32
  if le h 0 4 = 0x4F535A41 then r.flashRead certOffset (min 0xFE000 (32 + le h 8 4 + le h 12 4)) else []

/-- The private identity key, from the first copy that unwraps under the device-unique key (R427). -/
def RotUnit.unwrapped (r : RotUnit) : Option Nat :=
  [0, 1].findSome? fun i => unwrapKey r.uniqueKey (r.flashRead (identityCopy i) 56)

end Sys2Proof.Machine
end

