-- ==== Sys2Proof/Machine/Rot.lean ====
section
/-!
DEFINITION. Sys2Proof/Machine/Rot.lean: the root of trust at work: its messages and their queue (R435 to R437),
sessions and their keys (R429 to R434), tokens and challenges (R444 to R447), attestation (R438 to R443), the boot
flash (R422, R435), and the boot bundles (R424).
-/

namespace Sys2Proof.Machine

/-! ### Answers -/

/-- A management reply to a request (R304, R306). -/
def RotReq.reply (r : RotReq) (status : Nat) (body : List Byte) : HostMsg :=
  { dest := some r.dest, bytes := msgHeader r.opcode 1 status r.tag ++ body }

/-- The part of a body common to every reply of the root of trust: RESULT, KIND, DETAIL (R435). -/
def rotBody (x : RotResult) (kind detail : Nat) : List Byte :=
  [BitVec.ofNat 8 x.code, BitVec.ofNat 8 kind, 0, 0] ++ beBytes 4 detail

/-- A request answered with a result. -/
def State.rotReply (s : State) (r : RotReq) (x : RotResult) (kind detail : Nat) (extra : List Byte) : State :=
  s.queueMsg (r.reply 0 (rotBody x kind detail ++ extra))

/-- An object that has acted uses up the transfer that a SUBMIT named (R418, R435). -/
def State.useTransfer (s : State) (r : RotReq) : State :=
  let x := s.session r.session
  if r.opcode = 0x21 ∧ r.body.headD 0 = 0 then
    s.setSession r.session { x with xfers := x.xfers.filter fun t => t.id != beNat (bytesAt r.body 2 2) }
  else s

/-- The result of an object goes to who handed it over: a reply, or the board port's RoT RESULT byte (R435, R537). -/
def State.rotAnswer (s : State) (by_ : RotBy) (x : RotResult) (kind detail : Nat) (extra : List Byte) : State :=
  match by_ with
  | .request r => (if x = .ok then s.useTransfer r else s).rotReply r x kind detail extra
  | .board => { s with board := { s.board with result := 0, data := [BitVec.ofNat 8 x.code] } }

/-- An object is refused: its result and SEC event 4 (R418, the Root-of-trust events table). -/
def State.objectRefused (s : State) (by_ : RotBy) (x : RotResult) (kind detail : Nat) : State :=
  (s.rotAnswer by_ x kind detail []).secEvent 4 (x.code + kind * 256)

/-- The job in work replaced. -/
def State.setJob (s : State) (j : Option RotJob) : State := s.setTrust { s.rot with job := j }

/-! ### Sessions -/

/-- The session has an authority bit (the Authority bits table). -/
def State.may (s : State) (i b : Nat) : Bool := bit (s.session i).authority b

/-- SEC_SESSIONS.OPEN: the sessions open besides 255. -/
def State.showSessions (s : State) : State :=
  s.put F.SEC_SESSIONS_OPEN (s.sess.filter fun e => e.1 != 255 && e.2.open_).length

/-- Key and salt as one number, the key first. -/
def keyOf (b : List Byte) : BitVec 288 := BitVec.ofNat 288 (beNat (b.take 36))

/-- The 120 bytes of R431 split: the keys of both directions, and the ratchet secret. DEDUCED, log 144. -/
def splitKeys (b : List Byte) : KeySet × BitVec 384 :=
  ({ rx := keyOf (bytesAt b 0 32 ++ bytesAt b 64 4), tx := keyOf (bytesAt b 32 32 ++ bytesAt b 68 4) },
   digestOf (bytesAt b 72 48))

/-- The keys of the handshake session (R429). -/
def handshakeKeys (id : BitVec 64) : KeySet :=
  { rx := keyOf (sha384 (ascii "AZ-HS-H2D" ++ beBytes 8 id.toNat))
    tx := keyOf (sha384 (ascii "AZ-HS-D2H" ++ beBytes 8 id.toNat)) }

/-- Session 255 open under its public keys. DESIGN CHOICE, log 139. -/
def State.openHandshake (s : State) : State :=
  s.setSession 255 { open_ := true, keys := #v[some (handshakeKeys s.rot.deviceId), none] }

/-- A private key or a per-message secret from the DRBG: 1 to n - 1. DESIGN CHOICE, log 139. -/
def State.drawScalar (s : State) : Nat × State :=
  let (x, s) := s.draw 384
  (x % (p384N - 1) + 1, s)

/-! ### Transfers -/

/-- A fragment put among others in order of offset. -/
def insertFrag (off : Nat) (b : List Byte) : List (Nat × List Byte) → List (Nat × List Byte)
  | [] => [(off, b)]
  | (o, c) :: t => if off < o then (off, b) :: (o, c) :: t else (o, c) :: insertFrag off b t

/-- The end of the bytes that a transfer holds. -/
def Transfer.top (t : Transfer) : Nat := t.frags.foldl (fun m f => max m (f.1 + f.2.length)) 0

/-- A transfer is complete: the fragment with LAST and every byte before its end have arrived (R436). -/
def Transfer.complete (t : Transfer) : Bool :=
  t.last == some (t.frags.foldl (fun n f => n + f.2.length) 0)

/-- A further fragment of a transfer; none where it overlaps bytes received or lies past the end (R436). -/
def Transfer.add (t : Transfer) (off : Nat) (last : Bool) (b : List Byte) (now : Nat) : Option Transfer :=
  let e := off + b.length
  let twice := t.frags.any fun f => decide (off < f.1 + f.2.length) && decide (f.1 < e)
  let past := (match t.last with | some x => decide (x < e) || last | none => false) || (last && decide (e < t.top))
  if twice || past then none
  else some { t with frags := insertFrag off b t.frags, last := if last then some e else t.last, since := now }

/-- XFER (R436): a fragment joins its transfer, opens one, restarts one (OFFSET 0) or discards one. DEDUCED, log 142. -/
def State.rotXfer (s : State) (r : RotReq) : State :=
  let b := r.body
  let id := beNat (b.take 2)
  let last := (b.getD 2 0).getLsbD 0
  let off := beNat (bytesAt b 4 4)
  let data := b.drop 8
  let x := s.session r.session
  let others := x.xfers.filter fun t => t.id != id
  let put (l : List Transfer) (y : RotResult) : State := (s.setSession r.session { x with xfers := l }).rotReply r y 0 0 []
  let fresh : Transfer :=
    { id := id, frags := [(off, data)], last := if last then some (off + data.length) else none, since := s.wt.cycle }
  if (b.getD 2 0).toNat / 2 ≠ 0 ∨ b.getD 3 0 ≠ 0 then s.rotReply r .format 0 0 []
  else if 65536 < off + data.length then put others .range
  else
    match x.xfers.find? fun t => t.id == id with
    | some t =>
      if off = 0 then put (others ++ [fresh]) .ok
      else
        match t.add off last data s.wt.cycle with
        | some t => put (others ++ [t]) .ok
        | none => put others .range
    | none => if 4 ≤ x.xfers.length then put x.xfers .state else put (others ++ [fresh]) .ok

/-! ### SUBMIT -/

/-- `len` bytes at `a` of quadrant `q`'s DRAM as a source: STATE where the controller is not READY, MEM_ERR where a word
reads as uncorrectable. DEDUCED, log 143. -/
def State.rotDram (s : State) (q a len : Nat) : Except RotResult (List Byte) × State :=
  if h : q < 4 then
    if s.dramReady ⟨q, h⟩ then
      let (b, bad, s) := s.readBytes ⟨q, h⟩ a len
      (if bad.isEmpty then .ok b else .error .memErr, s)
    else (.error .state, s)
  else (.error .range, s)

/-- The source that a SUBMIT names: a complete transfer, or DRAM (R435). DEDUCED, log 143. -/
def State.rotSource (s : State) (r : RotReq) : Except RotResult (List Byte) × State :=
  let b := r.body
  let id := beNat (bytesAt b 2 2)
  match (b.getD 0 0).toNat with
  | 0 =>
    let x := s.session r.session
    match x.xfers.find? fun t => t.id == id && t.complete with
    | some t => (.ok (t.frags.flatMap (·.2)), s)
    | none => (.error .state, s)
  | 1 => s.rotDram (b.getD 1 0).toNat (beNat (bytesAt b 4 4)) (beNat (bytesAt b 8 4))
  | _ => (.error .format, s)

/-- TOKEN_KIND of a token (R444). -/
def SignedObj.tokenKind (o : SignedObj) : Nat := le o.body 0 1

/-- The layout of a token body (R444). -/
def SignedObj.tokenOk (o : SignedObj) : Bool :=
  o.body.length == 96 && decide (1 ≤ o.tokenKind) && decide (o.tokenKind ≤ 3) && zeros (bytesAt o.body 1 3)
    && zeros (bytesAt o.body 92 4)

/-- An object that has passed step 1 is verified (R418). A bundle, a well-formed token and a session request then wait
for the checks and the action of their kind, the job in work; of any other kind nothing more is to be done. -/
def State.rotObject (s : State) (by_ : RotBy) (o : SignedObj) : State :=
  match s.verify o with
  | .ok =>
    match o.kind with
    | 2 => s.setJob (some (.verified by_ o))
    | 3 =>
      match s.certCheck o with
      | .ok => s.rotAnswer by_ .ok 3 s.timeDetail []
      | x => s.objectRefused by_ x 3 s.timeDetail
    | 4 => if o.tokenOk then s.setJob (some (.verified by_ o)) else s.objectRefused by_ .format 4 0
    | 6 => s.setJob (some (.verified by_ o))
    | k => s.rotAnswer by_ .ok k 0 []
  | x => s.objectRefused by_ x o.kind 0

/-- SUBMIT: the object is fetched and verified (R418, R435); the handshake session submits session requests alone
(R429), and a bundle needs BUNDLE. DEDUCED, log 142. -/
def State.rotSubmit (s : State) (r : RotReq) : State :=
  let (src, s) := s.rotSource r
  match src with
  | .error x => s.objectRefused (.request r) x 0 0
  | .ok b =>
    match parseObject b with
    | none => if r.session = 255 then s.queueMsg (r.reply 2 []) else s.objectRefused (.request r) .format 0 0
    | some o =>
      if r.session = 255 ∧ o.kind ≠ 6 then s.queueMsg (r.reply 2 [])
      else if o.kind = 2 ∧ ¬ s.may r.session 2 then s.objectRefused (.request r) .authority 2 0
      else s.rotObject (.request r) o

/-! ### Attestation -/

/-- Bottom-tree leaves (R439). -/
def bottomLeaves : Nat := 1024

/-- The top tree, of the device-unique key (R439). -/
def RotUnit.topTree (r : RotUnit) : LmsTree :=
  { id := beBytes 16 (Config.topId r.uniqueKey.toNat), seed := Config.topSeed r.uniqueKey.toNat, h := 15, typ := 7 }

/-- A bottom tree (R439). -/
def BottomTree.tree (b : BottomTree) : LmsTree := { id := b.id, seed := b.seed, h := 10, typ := 6 }

/-- The level of node `r` above the leaves of a tree of height `h`. -/
def nodeLevel (h r : Nat) : Nat := h - r.log2

/-- Nodes in a page of the node cache, before its MAC (R442). DESIGN CHOICE, log 199. -/
def pageNodes : Nat := 126

/-- The flash offset of page `i` of the node cache (R422, R442). -/
def nodePage (i : Nat) : Nat := 0x900000 + 4096 * i

/-- The MAC of a page's nodes (R442). -/
def RotUnit.pageMac (r : RotUnit) (b : List Byte) : List Byte := hmac384 (beBytes 48 (Config.nodeKey r.uniqueKey.toNat)) b

/-- Node `n` as the cache holds it, none where its page's MAC fails (R442). -/
def RotUnit.cachedNode (r : RotUnit) (n : Nat) : Option (List Byte) :=
  let b := r.flashRead (nodePage ((n - 1) / pageNodes)) 4096
  if r.pageMac (b.take (32 * pageNodes)) = bytesAt b (32 * pageNodes) 48 then
    some (bytesAt b (32 * ((n - 1) % pageNodes)) 32)
  else none

/-- Page `i` of the node cache as the tree gives it. -/
def RotUnit.freshPage (r : RotUnit) (i : Nat) : List Byte :=
  let nodes := (List.range pageNodes).flatMap fun j =>
    let n := i * pageNodes + j + 1
    if n < 65536 then r.topTree.node (nodeLevel 15 n) n else List.replicate 32 0
  nodes ++ r.pageMac nodes ++ List.replicate (4048 - 32 * pageNodes) 0

/-- The node cache rewritten from the tree that its seed gives (R442). -/
def State.rebuildCache (s : State) : State :=
  forAll (List.range (ceilDiv 65535 pageNodes)) s fun s i =>
    s.setTrust { s.rot with flash := storeFlash s.rot.flash (nodePage i) (s.rot.freshPage i) }

/-- The authentication path of top-tree leaf `j`, from the node cache; where a page that it needs is bad, the tree is
rebuilt from its seed and the cache rewritten first (R442). -/
def State.topPath (s : State) (j : Nat) : List Byte × State :=
  let l := (s.rot.topTree.pathNodes j).map s.rot.cachedNode
  if l.all Option.isSome then ((l.filterMap id).flatten, s) else (s.rot.topTree.path j, s.rebuildCache)

/-- The next bottom tree opens (R440): `weak` fuses read back weak and are abandoned, the next signs the tree's public
key; its identifier, its seed and the randomizer are free. None where no fuse is left. DESIGN CHOICE, log 149. -/
def State.openTree (s : State) (weak : Nat) : Option State :=
  let j := s.rot.leaf + weak
  if leafFuses ≤ j then none
  else
    let (id, s) := s.freeBytes 16
    let (seed, s) := s.draw 256
    let (c, s) := s.freeBytes 32
    let b : BottomTree := { id := id, seed := seed }
    let (path, s) := s.topPath j
    let pub := b.tree.public
    let tree := s.rot.topTree.sign j c pub path ++ pub
    let s := (s.setTrust { s.rot with leaf := j + 1, topLeaf := j, tree := tree, bottom := some b }).secShow
    let s := (s.put F.SEC_LEAF_TREES (s.get F.SEC_LEAF_TREES + 1)).put F.SEC_LEAF_BOTTOM 0
    some (s.secEvent 6 j)

/-- A leaf for a report: from the open bottom tree, or from the next (R440); LEAVES with its DETAIL where there is none, or
where every fuse is used (R443). DESIGN CHOICE, log 149. -/
def State.takeLeaf (s : State) (weak : Nat) : Except Nat Nat × State :=
  let use (s : State) : Except Nat Nat × State :=
    let i := s.get F.SEC_LEAF_BOTTOM
    (.ok i, s.put F.SEC_LEAF_BOTTOM (i + 1))
  if leafFuses ≤ s.rot.leaf then (.error 2, s)
  else if s.get F.SEC_LEAF_TREES ≠ 0 ∧ s.get F.SEC_LEAF_BOTTOM < bottomLeaves then use s
  else if 2 ≤ s.get F.SEC_LEAF_TREES then (.error 1, s)
  else
    match s.openTree weak with
    | some s => use s
    | none => (.error 2, (s.setTrust { s.rot with leaf := leafFuses }).secShow)

/-- The body of a report (R438). -/
def State.reportBody (s : State) (r : RotReq) (leaf : Nat) : List Byte :=
  let o := s.rot
  let flags := s.get F.SEC_STATUS_PARAM_DEFAULTED + 2 * b2n o.ownerSet + 4 * s.get F.SEC_STATUS_RECOVERY
    + 8 * s.get F.SEC_STATUS_JTAG_OPEN + 16 * b2n (s.flag F.SEC_STATUS_BOARD_READ || s.flag F.SEC_STATUS_BOARD_WRITE)
    + 32 * s.get F.KNL_STATUS_ACTIVE
  r.body.take 32 ++ leBytes 8 o.deviceId.toNat ++ leBytes 4 flags ++ leBytes 4 o.topLeaf ++ leBytes 4 leaf
    ++ leBytes 4 (s.rd A.SYS_CHIP_ID).toNat ++ leBytes 8 s.wallSec ++ leBytes 4 s.wallNsOfSec
    ++ leBytes 1 (s.get F.WT_STATUS_LEASH) ++ leBytes 3 0
    ++ leBytes 1 o.svn[0] ++ leBytes 1 o.svn[1] ++ leBytes 1 o.svn[2]
    ++ leBytes 1 (match o.activeOwner with | some i => i.val | none => 0) ++ leBytes 4 0
    ++ digestBytes (o.ownerHash.getD 0) ++ (List.range 8).flatMap s.meas
    ++ digestBytes (s.session r.session).th ++ List.replicate 16 0

/-- The signed report (R417, R438, R439): the ECDSA signature by the identity key, and the HSS signature by leaf `leaf` of
the open bottom tree; the secret of the one and the randomizer of the other are free. DESIGN CHOICE, log 149. -/
def State.report (s : State) (r : RotReq) (key leaf : Nat) : List Byte × State :=
  let body := s.reportBody r leaf
  let keys := bytesAt s.rot.cert 80 156
  let keys := keys ++ List.replicate (156 - keys.length) 0
  let hssLen := 4 + s.rot.tree.length + 2508
  let head := leBytes 4 0x4F535A41 ++ leBytes 2 5 ++ leBytes 2 1 ++ leBytes 4 576 ++ leBytes 4 (256 + hssLen)
    ++ leBytes 2 0 ++ leBytes 1 3 ++ leBytes 1 0 ++ leBytes 8 s.wallSec ++ leBytes 4 0
  let m := head ++ body ++ keys
  let (k, s) := s.drawScalar
  let (c, s) := s.freeBytes 32
  let sig := match s.rot.bottom with
    | some b => b.tree.sign leaf c m (b.tree.path leaf)
    | none => []
  (m ++ ecdsaSign key k (sha384 m) ++ leBytes 4 hssLen ++ beBytes 4 1 ++ s.rot.tree ++ sig, s)

/-- An object cut into fragments of 496 bytes from offset `off` on; `n` is at least their number. -/
def fragments (id off : Nat) : Nat → List Byte → List (List Byte)
  | 0, _ => []
  | n + 1, b =>
    let rest := b.drop 496
    (beBytes 2 id ++ [if rest.isEmpty then 1 else 0, 0] ++ beBytes 4 off ++ b.take 496)
      :: (if rest.isEmpty then [] else fragments id (off + 496) n rest)

/-- A transfer to the host, sent whole and in order ahead of the reply that names it (R436); its XFER_ID.
DEDUCED, log 148. -/
def State.sendXfer (s : State) (r : RotReq) (b : List Byte) : Nat × State :=
  let id := (s.rot.sent + 1) % 65536
  let s := s.setTrust { s.rot with sent := id }
  (id, forAll (fragments id 0 (b.length / 496 + 1) b) s fun s f =>
    s.sendMsg { dest := some r.dest, bytes := msgHeader 0x20 0 0 0 ++ f })

/-- ATTEST_REQ (R438 to R443). DEDUCED, log 148. -/
def State.rotAttest (s : State) (r : RotReq) : State :=
  let cert := bit (r.body.getD 32 0).toNat 0
  if !zeros (bytesAt r.body 33 3) || decide (2 ≤ (r.body.getD 32 0).toNat) then s.rotReply r .format 0 0 []
  else if !s.may r.session 5 then s.rotReply r .authority 0 0 []
  else
    match s.flag F.SEC_STATUS_IDENTITY_OK, s.rot.idKey with
    | true, some key =>
      match s.takeLeaf r.weak with
      | (.error d, s) => s.rotReply r .leaves 0 d []
      | (.ok leaf, s) =>
        let (b, s) := s.report r key leaf
        let (id, s) := s.sendXfer r b
        let (ids, s) := if cert then
            let (i, s) := s.sendXfer r s.rot.cert
            (beBytes 2 id ++ beBytes 2 i, s)
          else (beBytes 2 id, s)
        s.sendMsg (r.reply 0 (rotBody .ok 5 0 ++ ids))
    | _, _ => s.rotReply r .state 0 0 []

/-! ### Challenges and keys -/

/-- A fresh challenge; the one before it is no longer valid (R445). DESIGN CHOICE, log 139; DEDUCED, log 146. -/
def State.newChallenge (s : State) : List Byte × State :=
  let (x, s) := s.draw 128
  (beBytes 16 x, s.setTrust { s.rot with challenge := some (BitVec.ofNat 128 x) })

/-- CHALLENGE (R445). -/
def State.rotChallenge (s : State) (r : RotReq) : State :=
  let (n, s) := s.newChallenge
  s.rotReply r .ok 0 0 n

/-- KEY_UPDATE (R432): the keys of the other phase from the ratchet secret and the number of this update; the reply
still leaves under the old key. DEDUCED, log 144. -/
def State.rotUpdate (s : State) (r : RotReq) : State :=
  let x := s.session r.session
  let ph := (r.body.getD 0 0).toNat
  let old := x.phase
  if !zeros (bytesAt r.body 1 3) then s.rotReply r .format 0 0 []
  else if ph ≠ 1 - old.val then s.rotReply r .range 0 0 []
  else if (x.keys[1 - old]).isSome then s.rotReply r .state 0 0 []
  else
    let n := x.updates + 1
    let (k, ratchet) := splitKeys (kdf384 (digestBytes x.ratchet) (ascii "AZ-UPD-1" ++ beBytes 4 n) 120)
    let x := { x with keys := x.keys.set (1 - old) (some k), ratchet := ratchet, phase := 1 - old, updates := n }
    let m := { r.reply 0 (rotBody .ok 0 0) with rekey := true }
    if s.net.mtx.length < 64 then (s.setSession r.session x).queueMsg m
    else (s.setSession r.session { x with txPhase := x.phase, txSeq := 0 }).queueMsg m

/-- NBR_q_STATUS.KEYED: both directions are keyed (R313). -/
def State.showKeyed (s : State) (q : NbrId) : State :=
  s.put (F.NBR_STATUS_KEYED q) (b2n ((s.port q).txKey.isSome && (s.port q).rxKey.isSome))

/-- KEY_INSTALL (R433). DEDUCED, log 155. -/
def State.rotInstall (s : State) (r : RotReq) : State :=
  let b := r.body
  let i := (b.getD 1 0).toNat
  let key := keyOf (bytesAt b 8 36)
  if !zeros (bytesAt b 2 2) then s.rotReply r .format 0 0 []
  else if !s.may r.session 3 then s.rotReply r .authority 0 0 []
  else
    match (b.getD 0 0).toNat with
    | 0 =>
      if h : i < 2 then
        let d : Fin 2 := ⟨i, h⟩
        let k := (BitVec.ofNat 32 (beNat (bytesAt b 4 4)), BitVec.ofNat 256 (beNat (bytesAt b 8 32)))
        (s.setSlot d { s.slot d with keys := (k :: (s.slot d).keys).take 2 }).rotReply r .ok 0 0 []
      else s.rotReply r .range 0 0 []
    | 1 =>
      if h : i < 4 then
        let q : NbrId := ⟨i, h⟩
        ((s.setPort q { s.port q with txKey := some key }).showKeyed q).rotReply r .ok 0 0 []
      else s.rotReply r .range 0 0 []
    | 2 =>
      if h : i < 4 then
        let q : NbrId := ⟨i, h⟩
        let x := s.port q
        let x := { x with rxOld := x.rxKey.toList.map (fun k => (k, s.wt.cycle)) ++ x.rxOld, rxKey := some key }
        ((s.setPort q x).showKeyed q).rotReply r .ok 0 0 []
      else s.rotReply r .range 0 0 []
    | _ => s.rotReply r .range 0 0 []

/-- SESSION_CLOSE (R434): the reply leaves, then the session's keys are erased. DEDUCED, log 148. -/
def State.rotClose (s : State) (r : RotReq) : State :=
  let s := s.sendMsg (r.reply 0 (rotBody .ok 0 0))
  ((s.setSession r.session {}).showSessions).secEvent 2 r.session

/-! ### FLASH_WRITE -/

/-- Bytes rounded up to whole pages of 4 KiB. -/
def pages (n : Nat) : Nat := ceilDiv n 4096 * 4096

/-- The result of the boot bundles in `b`, each on a 4 KiB boundary, until one does not begin with MAGIC; `n` is at
least their number. -/
def State.bundlesOk (s : State) : Nat → List Byte → RotResult
  | 0, _ => .ok
  | n + 1, b =>
    if le b 0 4 ≠ 0x4F535A41 then .ok
    else
      match s.bootVerdict (parseObject b) with
      | .ok (o, _) => s.bundlesOk n (b.drop (pages o.bytes.length))
      | .error x => x

/-- The bytes `b` with the object at their start and those at the page boundaries after it, up to `n` of them, and every
other byte as erased: FLASH_WRITE writes only objects that verify (R435). DESIGN CHOICE, log 150. -/
def objectsOnly : Nat → List Byte → List Byte
  | 0, b => List.replicate b.length 0xFF
  | n + 1, b =>
    let len := 32 + le b 8 4 + le b 12 4
    if le b 0 4 = 0x4F535A41 ∧ len ≤ b.length then
      b.take len ++ List.replicate (min (pages len) b.length - len) 0xFF ++ objectsOnly n (b.drop (pages len))
    else List.replicate b.length 0xFF

/-- What FLASH_WRITE puts into a region: the objects of it alone, or the parameter image as it is (R435). -/
def flashImageOf (region : Nat) (b : List Byte) : List Byte :=
  match region with
  | 2 => b
  | 3 => objectsOnly (b.length / 4096 + 1) b
  | _ => objectsOnly 1 b

/-- What FLASH_WRITE demands of the data for a region (R435): firmware, boot bundles, nothing for the parameter
image. DESIGN CHOICE, log 150. -/
def State.flashCheck (s : State) (region : Nat) (b : List Byte) : RotResult :=
  match region with
  | 2 => .ok
  | 3 => if le b 0 4 = 0x4F535A41 then s.bundlesOk (b.length / 4096 + 1) b else .format
  | _ =>
    match parseObject b with
    | none => .format
    | some o => if o.kind = 1 then s.verify o else .format

/-- FLASH_WRITE (R422, R435). After a failure of the flash what it holds there is free.
DESIGN CHOICE, log 137; DESIGN CHOICE, log 150. -/
def State.rotFlash (s : State) (r : RotReq) : State :=
  let b := r.body
  let region := (b.getD 0 0).toNat
  let len := beNat (bytesAt b 8 4)
  if !zeros (bytesAt b 2 2) then s.rotReply r .format 0 0 []
  else if !s.may r.session 2 then s.rotReply r .authority 0 0 []
  else
    match flashRegion region with
    | none => s.rotReply r .range 0 0 []
    | some (base, size) =>
      if size < len then s.rotReply r .range 0 0 []
      else
        match s.rotDram (b.getD 1 0).toNat (beNat (bytesAt b 4 4)) len with
        | (.error x, s) => s.rotReply r x 0 0 []
        | (.ok data, s) =>
          match s.flashCheck region data with
          | .ok =>
            if r.flashOk then
              (s.setTrust { s.rot with flash := storeFlash s.rot.flash base (flashImageOf region data) }).rotReply r .ok 0 0 []
            else
              let (junk, s) := s.freeBytes len
              (s.setTrust { s.rot with flash := storeFlash s.rot.flash base junk }).rotReply r .flashErr 0 0 []
          | x => s.rotReply r x 0 0 []

/-! ### The request queue -/

/-- The length of a request's body (the Root-of-trust opcodes table). DEDUCED, log 141. -/
def rotLenOk (opcode n : Nat) : Bool :=
  match opcode with
  | 0x20 => decide (8 ≤ n) && decide (n ≤ 504)
  | 0x21 => n == 12
  | 0x22 => n == 36
  | 0x23 => n == 0
  | 0x24 => n == 4
  | 0x25 => n == 44
  | 0x26 => n == 0
  | 0x27 => n == 12
  | _ => false

/-- A request is executed (R435): one on the handshake session that R429 does not list is REFUSED, one of another
length is BAD_MSG. DEDUCED, log 141. -/
def State.rotRun (s : State) (r : RotReq) : State :=
  if r.session = 255 ∧ 0x21 < r.opcode then s.queueMsg (r.reply 2 [])
  else if !rotLenOk r.opcode r.body.length then s.queueMsg (r.reply 3 [])
  else
    match r.opcode with
    | 0x20 => s.rotXfer r
    | 0x21 => s.rotSubmit r
    | 0x22 => s.rotAttest r
    | 0x23 => s.rotChallenge r
    | 0x24 => s.rotUpdate r
    | 0x25 => s.rotInstall r
    | 0x26 => s.rotClose r
    | _ => s.rotFlash r

/-- The request is one that copies from a quadrant whose DRAM traffic calibration has interrupted: it waits as every
requester does (R409). -/
def State.rotWaits (s : State) (r : RotReq) : Bool :=
  let held := allQuads.any fun n => n.val == (r.body.getD 1 0).toNat && s.dramReady n && !s.dramServes n
  held && rotLenOk r.opcode r.body.length && (r.opcode == 0x21 && r.body.headD 0 == 1
    || r.opcode == 0x27 && r.session != 255 && zeros (bytesAt r.body 2 2) && s.may r.session 2)

/-- Requests that wait are executed while no object is in work; `n` bounds how many (R437). -/
def State.rotDrain : Nat → State → State
  | 0, s => s
  | n + 1, s =>
    match s.rot.job, s.rot.queue with
    | none, r :: t => if s.rotWaits r then s else State.rotDrain n ((s.setTrust { s.rot with queue := t }).rotRun r)
    | _, _ => s

/-- A request arrives: executed in its turn, up to 8 waiting; a further one is answered BUSY (R437).
DEDUCED, log 141. -/
def State.rotAccept (s : State) (r : RotReq) : State :=
  if s.rot.queue.length < 8 then State.rotDrain 9 (s.setTrust { s.rot with queue := s.rot.queue ++ [r] })
  else s.queueMsg (r.reply 1 [])

/-- The object in work is done with, and the requests that waited for it follow. -/
def State.rotDone (s : State) : State := State.rotDrain 9 (s.setJob none)

/-! ### The actions of verified objects -/

/-- Step 6 of R418 for a session request (R430), and the index of the session it opens. DEDUCED, log 145. -/
def State.sessionCheck (s : State) (o : SignedObj) : Except RotResult (Nat × SignedObj) :=
  let b := o.body
  let id := s.rot.deviceId.toNat
  if !s.flag F.SEC_STATUS_IDENTITY_OK || s.rot.idKey.isNone then .error .state
  else if b.length ≠ 144 + le b 140 4 ∨ ¬ zeros (bytesAt b 1 3) then .error .format
  else
    match requestCert b with
    | none => .error .format
    | some c =>
      if c.kind ≠ 3 ∨ le c.body 0 1 ≠ 2 then .error .format
      else
        match s.verify c, s.certCheck c with
        | .ok, .ok =>
          if (le c.body 40 8 ≠ 0 ∧ le c.body 40 8 ≠ id) ∨ le b 4 8 ≠ id then .error .binding
          else if le b 0 1 = 255 then .error .range
          else if le b 0 1 = 0 then
            match (List.range 254).find? fun i => !(s.session (i + 1)).open_ with
            | some i => .ok (i + 1, c)
            | none => .error .state
          else
            let x := s.session (le b 0 1)
            if x.open_ ∧ ¬ (x.subject.toNat = le c.body 12 8 ∧ x.stamp < o.stamp) then .error .state
            else .ok (le b 0 1, c)
        | .ok, x => .error x
        | x, _ => .error x

/-- SESSION_REQUEST: the verified session request in work opens a session (R430, R431). -/
def execSessionRequest (s : State) : Out :=
  match s.rot.job with
  | some (.verified by_ o) =>
    if o.kind = 6 then
      match s.sessionCheck o with
      | .error x => .next (s.objectRefused by_ x 6 s.timeDetail).rotDone
      | .ok (i, c) =>
        let (d, s) := s.drawScalar
        match ecdh d (bytesAt o.body 44 96) with
        | none => .next (s.objectRefused by_ .format 6 s.timeDetail).rotDone
        | some z =>
          let (n, s) := s.freeBytes 32
          let (k, s) := s.drawScalar
          let pub := publicKey d
          let th := sha384 (o.bytes ++ pub ++ n)
          let (keys, ratchet) := splitKeys (kdf384 z (ascii "AZ-SESS-1" ++ th) 120)
          let x : Session :=
            { open_ := true, subject := BitVec.ofNat 64 (le c.body 12 8), stamp := o.stamp, authority := le c.body 36 4
              keys := #v[some keys, none], ratchet := ratchet, th := digestOf th }
          let s := ((s.setSession i x).showSessions.measure 5 c.bytes).secEvent 1 i
          let sig := ecdsaSign (s.rot.idKey.getD 0) k (sha384 (ascii "AZ-ACCEPT-1" ++ th))
          .next (s.rotAnswer by_ .ok 6 s.timeDetail
            ([BitVec.ofNat 8 i, 0, 0, 0] ++ beBytes 8 s.rot.deviceId.toNat ++ pub ++ n ++ sig)).rotDone
    else .next s
  | _ => .next s

/-- BUNDLE_SUBMIT: the verified bundle in work is checked, and the loader begins its first segment (R88, R90, R426). -/
def execBundleSubmit (s : State) : Out :=
  match s.rot.job with
  | some (.verified by_ o) =>
    if o.kind = 2 then
      match s.bundleCheck o with
      | .error x => .next (s.objectRefused by_ x 2 0).rotDone
      | .ok b => .next ((s.setJob (some (.loading by_ o b b.segs s.wt.cycle))).segBegins b.segs)
    else .next s
  | _ => .next s

/-- The binding and the time of a token (R444, R419). DEDUCED, log 146. -/
def State.tokenCheck (s : State) (o : SignedObj) : RotResult :=
  let b := o.body
  let id := le b 4 8
  let nonce := beNat (bytesAt b 12 16)
  if id ≠ s.rot.deviceId.toNat ∧ ¬ (id = 0 ∧ o.tokenKind = 2) then .binding
  else if (if o.tokenKind = 1 then s.rot.challenge ≠ some (BitVec.ofNat 128 nonce) else nonce ≠ 0) then .binding
  else if s.outOfTime 0 (le b 28 8) then .time
  else .ok

/-- The token of kind `k` in work: refused, or applied by `act` and measured (R421, R444). DEDUCED, log 147. -/
def State.token (s : State) (k : Nat) (act : State → SignedObj → RotResult × State) : State :=
  match s.rot.job with
  | some (.verified by_ o) =>
    if o.kind = 4 ∧ o.tokenKind = k then
      match s.tokenCheck o with
      | .ok =>
        match act s o with
        | (.ok, s) => ((s.measure 4 o.bytes).rotAnswer by_ .ok 4 s.timeDetail []).rotDone
        | (x, _) => (s.objectRefused by_ x 4 s.timeDetail).rotDone
      | x => (s.objectRefused by_ x 4 s.timeDetail).rotDone
    else s
  | _ => s

/-- An UNLOCK opens the scopes of ARG0 and uses up its challenge (R445). DEDUCED, log 146; DEDUCED, log 154. -/
def unlockToken (s : State) (o : SignedObj) : RotResult × State :=
  let scopes := le o.body 36 4
  let s := s.setTrust { s.rot with challenge := none }
  let s := s.setIf (bit scopes 0) F.SEC_STATUS_BOARD_READ
  let s := s.setIf (bit scopes 1) F.SEC_STATUS_BOARD_WRITE
  (.ok, (s.setIf (bit scopes 2) F.SEC_STATUS_JTAG_OPEN).secEvent 5 scopes)

/-- UNLOCK. -/
def execUnlock (s : State) : Out := .next (s.token 1 unlockToken)

/-- An SVN_RAISE burns counter ARG0 up to ARG1 (R446). DEDUCED, log 147. -/
def svnToken (s : State) (o : SignedObj) : RotResult × State :=
  let v := le o.body 40 4
  if h : le o.body 36 4 < 3 then
    let i : Fin 3 := ⟨le o.body 36 4, h⟩
    if 64 < v then (.range, s)
    else if v ≤ s.rot.svn[i] then (.ok, s)
    else if i = 0 ∧ s.rot.fwSvn < v then (.range, s)
    else (.ok, (s.setTrust { s.rot with svn := s.rot.svn.set i v }).secShow)
  else (.range, s)

/-- SVN_RAISE. -/
def execSvnRaise (s : State) : Out := .next (s.token 2 svnToken)

/-- An OWNER_ROTATE writes ARG2 into slot ARG0, the lowest unwritten slot, and retires the slot that signed it
(R446). -/
def rotateToken (s : State) (o : SignedObj) : RotResult × State :=
  let r := s.rot
  match (fins 4).find? fun i => r.owners[i].isNone, r.activeOwner with
  | some i, some signer =>
    if le o.body 36 4 = i.val then
      (.ok, (s.setTrust { r with owners := r.owners.set i (some (digestOf (bytesAt o.body 44 48))),
                                 retired := max r.retired (signer.val + 1) }).secShow)
    else (.range, s)
  | _, _ => (.state, s)

/-- OWNER_ROTATE. -/
def execOwnerRotate (s : State) : Out := .next (s.token 3 rotateToken)

/-! ### The bundle loader -/

/-- SQS has been given an instruction segment by a boot bundle (R424). -/
def RotUnit.sqsLoaded (r : RotUnit) : Bool := r.bootSegs.any fun g => g.seq == sqsQ && !g.data

/-- SQS is started, or in recovery stays HALTED and the root of trust runs port A (R424, R498, R504).
DEDUCED, log 153. -/
def State.sqsRuns (s : State) : State :=
  if s.flag F.SEC_STATUS_RECOVERY then
    ((s.setSeq sqsQ { s.seq sqsQ with run := .halted }).put F.BRD_STATUS_STAGE 4).set (F.NET_PORT_MODE_EN 0)
  else (s.seqStart sqsQ).put F.BRD_STATUS_STAGE 3

/-- The boot bundles are read: without an instruction segment for SQS the device is in recovery (R424, R498).
DEDUCED, log 153. -/
def State.bootEnds (s : State) : State :=
  let s := s.setTrust { s.rot with boot := none }
  (s.setIf (!s.rot.sqsLoaded) F.SEC_STATUS_RECOVERY).sqsRuns

/-- The object whose header is `head` is refused among the boot bundles: SEC event 4. DEDUCED, log 151. -/
def State.bootRefused (s : State) (x : RotResult) (head : List Byte) : State :=
  s.secEvent 4 (x.code + le head 4 2 % 256 * 256)

/-- The boot object at flash offset `a` is loaded and measured, or refused (R421, R424). DEDUCED, log 151. -/
def State.bootObject (s : State) (a : Nat) : State :=
  let head := s.rot.flashRead a 32
  let next := a + pages (32 + le head 8 4 + le head 12 4)
  let s := s.setTrust { s.rot with boot := some next }
  match s.bootVerdict (s.rot.flashObject a (flashSize - a)) with
  | .ok (o, b) =>
    let s := (s.loadBundle b).measure 2 o.bytes
    ((s.setTrust { s.rot with bootSegs := s.rot.bootSegs ++ b.segs }).count F.SEC_BOOT_LOADED).secEvent 3 o.svn
  | .error x => (s.count F.SEC_BOOT_REFUSED).bootRefused x head

/-- A fetch that has stalled for 1 µs is repeated: the word has been written again, or fails once more (R477).
DESIGN CHOICE, log 173. -/
def State.refetch (s : State) (q : SeqId) : State :=
  let c := s.seq q
  match c.busy with
  | .refetch since again =>
    if s.passedUs since 1 then
      if again then
        let (off, s) := s.drawOff 7
        (s.parityErr 7 off).seqFault q .imemParity
      else (s.setSeq q { c with run := .running, busy := .none }).set F.BIST_FLAGS_IMEM_RETRY
    else s
  | _ => s

/-- WALL_TIME_TICK: one core cycle: of wall time, of the ports' transmitters (R303), of the bundle loader (R88), of the DRAM
controllers (R388), of stalled fetches (R477), and of requests to the root of trust that wait (R409, R437).
DESIGN CHOICE, log 46. -/
def execWallTimeTick (s : State) : Out :=
  .next (State.rotDrain 9 (forAll (fins 5) s.cycleEnds.tick.drainMtx.txRun.loadRun.dramRun State.refetch))

/-- BUNDLE_LOAD_DONE: the loader has written a bundle (R88): no segment of it is left. During boot, once the DRAM is
initialised (R498), it is the next boot bundle of the flash (R424); otherwise the bundle of a SUBMIT, then measured
(R421). DESIGN CHOICE, log 169. -/
def execBundleLoadDone (s : State) : Out :=
  match s.rot.boot, s.rot.job with
  | some a, _ =>
    if allQuads.any fun n => s.dramState n == 1 then .next s
    else if flashSize ≤ a then .next s.bootEnds
    else if le (s.rot.flashRead a 4) 0 4 = 0x4F535A41 then .next (s.bootObject a)
    else .next s.bootEnds
  | none, some (.loading by_ o b [] _) =>
    .next (((((s.bundleDone b).measure 3 o.bytes).secEvent 3 o.svn).rotAnswer by_ .ok 2 0 []).rotDone)
  | none, _ => .next s

/-! ### Time-driven events -/

/-- XFER_TIMEOUT: more than 1 s without a fragment discards an incomplete transfer (R436). DEDUCED, log 142. -/
def execXferTimeout (i : Fin 256) (id : BitVec 16) (s : State) : Out :=
  let x := s.session i
  match x.xfers.find? fun t => t.id == id.toNat with
  | some t =>
    if !t.complete && decide (t.since + cyclesPerSec < s.wt.cycle) then
      .next (s.setSession i { x with xfers := x.xfers.filter fun t => t.id != id.toNat })
    else .next s
  | none => .next s

/-- KEY_PHASE_ERASE: 1 s after the first packet under the new phase the old keys are erased (R432). -/
def execKeyPhaseErase (i : Fin 256) (s : State) : Out :=
  let x := s.session i
  match x.eraseAt with
  | some t =>
    if t ≤ s.wt.cycle then .next (s.setSession i { x with keys := x.keys.set (1 - x.phase) none, eraseAt := none })
    else .next s
  | none => .next s

/-- RX_KEY_EXPIRY: 1 s after its replacement a neighbour receive key is no longer valid (R433).
DEDUCED, log 57; DEDUCED, log 155. -/
def execRxKeyExpiry (p : NbrId) (s : State) : Out :=
  let x := s.port p
  .next (s.setPort p { x with rxOld := x.rxOld.filter fun k => decide (s.wt.cycle < k.2 + cyclesPerSec) })

end Sys2Proof.Machine
end

