-- ==== Sys2Proof/Machine/Boot.lean ====
section
/-!
DEFINITION. Sys2Proof/Machine/Boot.lean: the parameter image (R423, R519 to R523), the resets and what they keep
(R496, R497), the power-on self-test (R465, R466), the boot ROM (R420) and boot up to the boot bundles (R498).
-/

namespace Sys2Proof.Machine

/-! ### The parameter image -/

/-- Directory entry `i` of a parameter image: TYPE, OFFSET, SLEN. -/
def dirEntry (b : List Byte) (i : Nat) : Nat × Nat × Nat :=
  let d := b.drop (32 + 16 * i)
  (le d 0 2, le d 4 4, le d 8 4)

/-- The directory entries of a parameter image. -/
def directory (b : List Byte) : List (Nat × Nat × Nat) := (List.range (le b 6 2)).map (dirEntry b)

/-- A directory entry meets the conditions of R520 on itself. -/
def entryOk (sections len : Nat) (e : Nat × Nat × Nat) : Bool :=
  let (typ, off, n) := e
  off % 4 == 0 && decide (32 + 16 * sections ≤ off) && decide (off + n ≤ len - 4)
    && ((typ != 1 && typ != 2) || n % 8 == 0)

/-- Two sections overlap. -/
def sectionsOverlap (a b : Nat × Nat × Nat) : Bool :=
  decide (a.2.1 < b.2.1 + b.2.2) && decide (b.2.1 < a.2.1 + a.2.2)

/-- Some two entries of a directory overlap. -/
def anyOverlap : List (Nat × Nat × Nat) → Bool
  | [] => false
  | e :: t => t.any (sectionsOverlap e) || anyOverlap t

/-- The number of the first check of R520 that fails for the image that begins with `b`, 0 where it is valid: 1 MAGIC or
VERSION, 2 LENGTH or SECTIONS, 3 directory, 4 CHECK. -/
def imageReason (b : List Byte) : Nat :=
  let sections := le b 6 2
  let len := le b 8 4
  if le b 0 4 ≠ 0x4D524150 ∨ le b 4 2 ≠ 1 then 1
  else if len % 4 ≠ 0 ∨ len < 64 ∨ 1048576 < len ∨ sections < 1 ∨ 64 < sections then 2
  else if ¬ (directory b).all (entryOk sections len) ∨ anyOverlap (directory b) then 3
  else if (crc32c (b.take (len - 4))).toNat ≠ le b (len - 4) 4 then 4
  else 0

/-- The parameter image of the boot flash, cut to its LENGTH. -/
def RotUnit.flashImage (r : RotUnit) : List Byte :=
  let head := r.flashRead 0xD00000 32
  r.flashRead 0xD00000 (max 32 (min 1048576 (le head 8 4)))

/-- The factory default image for a device (R522): one REG_ROT section, IMAGE_ID 0. DESIGN CHOICE, log 138. -/
def defaultImage (id : BitVec 64) : List Byte :=
  let pair (a v : Nat) : List Byte := leBytes 4 a ++ leBytes 4 v
  let pairs := (List.range 4).flatMap (fun n => pair (A.DRAM_CFG n) (3 * 2 ^ 8))
    ++ pair (A.NET_PORT_MAC_HI 0) (0x0200 + id.toNat / 2 ^ 32 % 256) ++ pair (A.NET_PORT_MAC_LO 0) (id.toNat % 2 ^ 32)
    ++ pair (A.NET_PORT_MODE 0) 1
  let n := pairs.length
  let b := leBytes 4 0x4D524150 ++ leBytes 2 1 ++ leBytes 2 1 ++ leBytes 4 (52 + n) ++ leBytes 20 0
    ++ leBytes 2 1 ++ leBytes 2 0 ++ leBytes 4 48 ++ leBytes 4 n ++ leBytes 4 0 ++ pairs
  b ++ leBytes 4 (crc32c b).toNat

/-- The root of trust may apply a REG_ROT pair to address `a` (R521). -/
def rotMayWrite (a : Nat) : Bool :=
  (decide (0x1000000 ≤ a) && decide (a < 0x2000000) && a != A.DRAM_CTRL (quadAt a)
      && decide (0xD000 ≤ a % 0x400000) && decide (a % 0x400000 < 0xF000))
    || (decide (0xB0000 ≤ a) && decide (a < 0xB1000)) || (decide (0xF0000 ≤ a) && decide (a < 0xF1000))
    || a == A.WT_PORT_TRIM 0 || a == A.WT_PORT_TRIM 1

/-- One REG_ROT pair (R521): an ordinary write of the root of trust to the word at `a`, or skipped and counted. Each pair
takes a core cycle of its own. DESIGN CHOICE, log 209. -/
def State.applyPair (s : State) (a : Nat) (v : Word) : State :=
  let a := a / 4 * 4
  let s := s.freshCycle s.wt.cycle
  if rotMayWrite a then s.writeCore .rot a v else s.count F.SYS_PARAM_SKIP_ENTRIES

/-- The pairs of a REG_ROT section, in order; `n` is their number. -/
def State.applyPairs : Nat → List Byte → State → State
  | 0, _, s => s
  | n + 1, b, s => State.applyPairs n (b.drop 8) (s.applyPair (le b 0 4) (BitVec.ofNat 32 (le b 4 4)))

/-- The root of trust applies the parameter image in use (R519, R521): its REG_ROT sections, sections of unknown types
counted, then INIT to every controller that is OFF and RESUME to every one in SELF_REFRESH. -/
def State.applyImage (s : State) : State :=
  let b := s.rot.param
  let s := s.wr A.SYS_PARAM_LEN (BitVec.ofNat 32 b.length)
  let s := s.wr A.SYS_PARAM_ID (BitVec.ofNat 32 (le b 12 4))
  let s := forAll (directory b) s fun s e =>
    let (typ, off, n) := e
    if typ = 1 then State.applyPairs (n / 8) (b.drop off) s
    else if typ = 2 ∨ typ = 3 then s
    else s.count F.SYS_PARAM_SKIP_SECTIONS
  forAll allQuads s fun s n =>
    if s.dramState n = 0 then s.dramInit n
    else if s.dramState n = 3 then s.dramResume n
    else s

/-- The parameter image is read, or the default takes its place (R423, R520); M1 measures the one in use (R421).
DESIGN CHOICE, log 138. -/
def State.readImage (s : State) (readable : Bool) : State :=
  let b := s.rot.flashImage
  let reason := if readable then imageReason b else 5
  let s := s.put F.SYS_STATUS_PARAM_REASON reason
  let s :=
    if reason = 0 then s.setTrust { s.rot with param := b }
    else
      let s := s.setTrust { s.rot with param := defaultImage s.rot.deviceId }
      (s.set F.SEC_STATUS_PARAM_DEFAULTED).secEvent 7 0
  s.measure 1 s.rot.param

/-! ### What a reset keeps -/

/-- A register of the wall-time unit. DEDUCED, log 127. -/
def isWallReg (a : Nat) : Bool := decide (0x10000 ≤ a) && decide (a < 0x13000)

/-- A register of the wall-time unit that a reset keeps: not the capture FIFO's status, which restarts (R130). -/
def keptWall (a : Nat) : Bool := isWallReg a && a != A.WT_CAP_STATUS

/-- A register of the power manager. DEDUCED, log 127. -/
def isPwrReg (a : Nat) : Bool := decide (0x130000 ≤ a) && decide (a < 0x131000)

/-- The state of quadrant `n`'s controller that the always-on domain holds (R387). -/
def State.keepDram (s : State) (n : QuadId) (t : State) : State :=
  let d := s.dr n
  (t.put (F.DRAM_STATUS_STATE n) (s.dramState n)).setDr n
    { mem := d.mem, written := d.written, zeroed := d.zeroed, damaged := d.damaged, mr := d.mr }

/-- The main domain at reset; `keep` says which registers stay. What the model itself holds (the queue of commands,
the counter of free values), the wall-time unit, the power manager, OTP, the boot flash, the TAP and what the board drives
on balls stay too; every queue is lost (R130). DEDUCED, log 9; DEDUCED, log 167; DESIGN CHOICE, log 200. -/
def State.mainReset (s : State) (keep : Nat → Bool) : State :=
  { pending := s.pending, free := s.free, regs := s.regs.filter fun e => keep e.1
    wt := { s.wt with capFifo := [], capLast := {} }, power := s.power
    pins := { gpioIn := s.pins.gpioIn, gpioOpen := s.pins.gpioOpen, muzzleLow := s.pins.muzzleLow }
    round := { slotAt := s.wallNs }
    bist := { slotAt := s.bist.slotAt, fuses := s.bist.fuses, weak := s.bist.weak }
    frame := s.frame, tap := s.tap, board := { wire := s.board.wire }
    rot := { deviceId := s.rot.deviceId, uniqueKey := s.rot.uniqueKey, vendorHash := s.rot.vendorHash, owners := s.rot.owners
             retired := s.rot.retired, svn := s.rot.svn, leaf := s.rot.leaf, flash := s.rot.flash } }

/-- Muzzle after a reset (R259, R496): the thermal source is `therm`, FORCE and the Kennel source are cleared, and the
level of the ball is sensed. DEDUCED, log 9. -/
def State.muzzleReset (s : State) (therm : Bool) : State :=
  let x := s.muzzleSources therm false
  ((s.put ⟨A.MUZZLE_STATUS, 1, 4⟩ x).put F.MUZZLE_STATUS_ASSERTED (b2n (x != 0))).setIf (8 ≤ x) F.MUZZLE_STATUS_EXT_SEEN

/-- A reset of cause 2 system, 3 warm or 4 clock (the Reset scope table, R497). DEDUCED, log 167. -/
def State.resetMain (s : State) (cause : Nat) : State :=
  let t := s.mainReset fun a => isPwrReg a || (cause != 4 && keptWall a) || a == A.BIST_POWERON
  let t := if cause = 4 then
      { t with wt := { cycle := s.wt.cycle }, frame := {}, round := {}, bist := { t.bist with slotAt := 0 } }
    else t
  let t := { t with round := { t.round with carried := s.flag F.MUZZLE_STATUS_SRC_THERM } }
  let t := if cause = 3 then forAll allQuads t fun t n => s.keepDram n t else t
  let t := { t with power := { pnlAt := s.power.pnlAt, pgWire := s.power.pgWire } }
  let t := (t.put F.PWR_STATUS_STATE 0).put F.PWR_RESET_CAUSE_CAUSE cause
  t.muzzleReset (s.flag F.MUZZLE_STATUS_SRC_THERM)

/-- Power-on reset (R496): OTP and the boot flash, a device of the board's, are all that stays. DEDUCED, log 167. -/
def State.resetAll (s : State) : State :=
  let t := s.mainReset fun _ => false
  { t with wt := { cycle := s.wt.cycle }, frame := {}, round := {}, bist := { t.bist with slotAt := 0 }
           power := { pgWire := s.power.pgWire }, tap := { clocks := s.tap.clocks } }

/-! ### Manufacture -/

/-- The hard repair entries for the rows `l`: at most 512, none where no spare row of the slice is left (R473).
DESIGN CHOICE, log 116. -/
def hardEntries (l : List (Nat × Nat)) : List (Nat × Nat × Nat) :=
  ((l.take 512).foldl (fun t r => match unusedSpare t r.1 with | some i => (r.1, r.2, i) :: t | none => t) []).reverse

/-- The boot flash as manufacture leaves it but for the node cache: the pieces given, then the two copies of the wrapped
identity key and the device certificate (R427). DESIGN CHOICE, log 135. -/
def factoryFlash (f : Factory) (m : Sparse Byte) : Sparse Byte :=
  let m := f.flash.foldl (fun m p => storeFlash m (p.1 % flashSize) p.2) m
  let key := wrapKey f.uniqueKey f.idKey.toNat
  storeFlash (storeFlash (storeFlash m (identityCopy 0) key) (identityCopy 1) key) certOffset f.cert

/-- What manufacture writes (R416, R427, R473), where OTP has not been written yet; the top tree is built into the node
cache. DESIGN CHOICE, log 135. -/
def State.manufacture (s : State) (f : Factory) : State :=
  if s.rot.vendorHash.isNone then
    let s := { s with bist := { s.bist with fuses := hardEntries f.repairs } }
    (s.setTrust { s.rot with
      deviceId := f.deviceId, uniqueKey := f.uniqueKey, vendorHash := some f.vendorHash
      flash := factoryFlash f s.rot.flash }).rebuildCache
  else s

/-! ### Boot -/

/-- The device is held in reset: BRD_STATUS shows the reason at stage `stage` (R420, R466). -/
def State.bootHeld (s : State) (reason stage : Nat) : State :=
  (s.put F.BRD_STATUS_REASON reason).put F.BRD_STATUS_STAGE stage

/-- What the boot ROM makes of firmware slot `i`, which read back as `readable` says (R420). -/
def State.romSlot (s : State) (i : Nat) (readable : Bool) : Except RotResult SignedObj :=
  if !readable then .error .flashErr
  else
    match s.rot.flashObject (0x400000 * i) 0x400000 with
    | none => .error .format
    | some o =>
      if o.kind ≠ 1 then .error .format
      else
        match s.verify o with
        | .ok => .ok o
        | .rollback =>
          match (s.setTrust { s.rot with svn := Vector.replicate 3 0 }).verify o with
          | .ok => .error .rollback
          | x => .error x
        | x => .error x

/-- The reason for which both slots fail (the ROM failure reasons table). -/
def romReason : RotResult → RotResult → Nat
  | .flashErr, .flashErr => 1
  | .rollback, _ => 3
  | _, .rollback => 3
  | _, _ => 2

/-- The firmware has started: identity, parameter image, network and DRAM, session 255 on flow 0xFFFF; then the boot
bundles are read (R424, R429, R498). DESIGN CHOICE, log 134. -/
def State.rotBoots (s : State) (b : BootIn) : State :=
  let s := s.secShow
  let s := s.setTrust { s.rot with idKey := if b.identityOk then s.rot.unwrapped else none }
  let s := s.setIf s.rot.idKey.isSome F.SEC_STATUS_IDENTITY_OK
  let s := (s.readImage b.imageReads).applyImage
  let s := (s.put (F.FLOW_W0_KIND 0xFFFF) 3).put (F.FLOW_W0_SESSION 0xFFFF) 255
  let s := (s.setFlowState 0xFFFF 1).openHandshake
  s.setTrust { s.rot with boot := some 0xE00000 }

/-- The boot ROM (R420): the firmware of slot 0, else of slot 1, measured into M0 and started.
DESIGN CHOICE, log 134. -/
def State.romBoots (s : State) (b : BootIn) : State :=
  if !b.otpOk || s.rot.vendorHash.isNone then s.bootHeld 4 1
  else
    let starts (o : SignedObj) (slot : Nat) : State :=
      let s := ((s.measure 0 o.bytes).put F.SEC_BOOT_ROT_SLOT slot).put F.BRD_STATUS_STAGE 2
      (s.setTrust { s.rot with fwSvn := o.svn }).rotBoots b
    match s.romSlot 0 b.slot0Reads with
    | .ok o => starts o 0
    | .error x =>
      match s.romSlot 1 b.slot1Reads with
      | .ok o => starts o 1
      | .error y => s.bootHeld (romReason x y) 1

/-- A step of the self-test fails (R466). -/
def State.testFails (s : State) (reason : Nat) : State :=
  ((s.put F.BIST_POWERON_MEM_OK 0).put F.BIST_POWERON_REASON reason).bootHeld reason 0

/-- The self-test before the ROM (R465, R466): `logic` says whether logic BIST runs. A failure holds the device in
reset. DEDUCED, log 131; DESIGN CHOICE, log 134. -/
def State.selfTest (s : State) (b : BootIn) (logic : Bool) : State :=
  let s := if logic then s.put F.BIST_POWERON_LOGIC_OK (b2n b.logicOk) else s
  if logic && !b.logicOk then s.testFails 0x10
  else if !b.fuseOk then s.testFails 0x12
  else
    let s := s.loadFuses
    let (n, ok, s) := State.memBist (s.bist.weak ++ b.rows) s
    let s := s.put F.BIST_POWERON_REPAIRS (min n 1023)
    if ok then ((s.put F.BIST_POWERON_MEM_OK 1).put F.BIST_POWERON_REASON 0).romBoots b else s.testFails 0x11

/-- POWER_ON_RESET: PORST_N low and its release (R496, R498).
DEDUCED, log 122; DESIGN CHOICE, log 135; DESIGN CHOICE, log 169. -/
def execPowerOnReset (b : BootIn) (s : State) : Out :=
  let s := match b.factory with | some f => s.manufacture f | none => s
  let s := (s.resetAll.put F.PWR_RESET_CAUSE_CAUSE 1).put F.PWR_STATUS_PWR_OK 1
  .next ((s.muzzleReset false).selfTest b true)

/-- A system reset (R496); while REFCLK_SYS is lost the device is in reset already. DEDUCED, log 130. -/
def State.systemReset (s : State) (b : BootIn) : State :=
  if s.power.clkLost then s else (s.resetMain 2).selfTest b false

/-- SYSTEM_RESET: SYSRST_N low and its release. -/
def execSystemReset (b : BootIn) (s : State) : Out := .next (s.systemReset b)

/-- A free bit. -/
def State.drawBit (s : State) : Bool × State :=
  let (x, s) := s.draw 1
  (x == 1, s)

/-- `n` free rows of free slices. -/
def State.drawRows : Nat → State → List (Nat × Nat) × State
  | 0, s => ([], s)
  | n + 1, s =>
    let (x, s) := s.draw 13
    let (row, s) := s.draw 8
    let (l, s) := State.drawRows n s
    ((x, row) :: l, s)

/-- What a boot meets where no operand says it: the self-test's results and the reads of OTP and of the flash are free. -/
def State.drawBoot (s : State) : BootIn × State :=
  let (fuse, s) := s.drawBit
  let (n, s) := s.draw 13
  let (rows, s) := State.drawRows n s
  let (s0, s) := s.drawBit
  let (s1, s) := s.drawBit
  let (otp, s) := s.drawBit
  let (idn, s) := s.drawBit
  let (img, s) := s.drawBit
  ({ fuseOk := fuse, rows := rows, slot0Reads := s0, slot1Reads := s1, otpOk := otp, identityOk := idn, imageReads := img }, s)

/-- The warm reset itself (R496); what its self-test and its reads of the flash meet is free. DEDUCED, log 124. -/
def State.warmReset (s : State) : State :=
  let (b, s) := s.drawBoot
  (s.resetMain 3).selfTest b false

/-- The PWR event of a lost clock, while the logic that pushes it runs (R495): not in a reset, nor in Stay. -/
def State.clockLost (s : State) (x : Nat) : State := if s.held || s.inStay then s else s.sqsEvent 0x52 3 x

/-- REFCLK_LOSS: clock 0 REFCLK_NET, 1 REFCLK_CAB or 2 REFCLK_SYS has shown no edges for 2 µs (R495).
DEDUCED, log 130. -/
def execRefclkLoss (c : Fin 3) (s : State) : Out :=
  match c with
  | 0 =>
    let s := forAll (fins 2) s fun s p => s.portLink p 0 false false false
    .next ((s.set F.PWR_FLAGS_CLK_NET_LOST).clockLost 0)
  | 1 =>
    let s := forAll (fins 4) s fun s p => if s.nbrActive p then s.nbrDown p else s
    .next ((s.set F.PWR_FLAGS_CLK_CAB_LOST).clockLost 1)
  | 2 =>
    let s := s.resetMain 4
    .next { s with power := { s.power with clkLost := true } }

/-- REFCLK_RETURN: 1 ms after REFCLK_SYS has returned the device leaves the clock reset (R495), and no sequencer has kept
anything from it. -/
def execRefclkReturn (b : BootIn) (s : State) : Out :=
  if s.power.clkLost then
    .next ({ s with power := { s.power with clkLost := false }, seqs := Vector.replicate 5 {} }.selfTest b false)
  else .next s

end Sys2Proof.Machine
end

