-- ==== Sys2Proof/Machine/Stay.lean ====
section
/-!
DEFINITION. Sys2Proof/Machine/Stay.lean: the power manager: PWR_CTRL and the panel supplies (R493, R500), Stay and the
wake from it (R501 to R507), warm reset's first steps (R496), and what the root of trust reloads on leaving Kennel
(R481).
-/

namespace Sys2Proof.Machine

/-- A power event (the Power events table). -/
def State.pwrEvent (s : State) (code data : Nat) : State := s.sqsEvent 0x52 code data

/-! ### Panel supplies -/

/-- A write of PWR_PNL (R493): the EN bit of a quadrant that scans is not cleared. `pg` are the levels that the board
answers with; a supply that was good and stays enabled stays good. DESIGN CHOICE, log 132. -/
def State.writePnl (s : State) (v : Word) (pg : Nat) : State :=
  if s.held then s else
  let old := s.get F.PWR_PNL_EN
  let kept := allQuads.filter fun n => bit old n.val && !bit (field v 0 4) n.val && s.scans n
  let en (n : QuadId) : Bool := bit (field v 0 4) n.val || kept.contains n
  let good (n : QuadId) : Bool := bit old n.val && bit (s.get F.PWR_PNL_STATUS_PG) n.val
  let mask (f : QuadId → Bool) : Nat := (allQuads.map fun n => 2 ^ n.val * b2n (f n)).foldl (· + ·) 0
  let s := (s.put F.PWR_PNL_PG_TIMEOUT_MS (field v 8 8)).put F.PWR_PNL_EN (mask en)
  let s := s.put F.PWR_PNL_STATUS_PG (mask fun n => (en n && good n) || bit pg n.val)
  let s := forAll allQuads s fun s n =>
    let at_ := if !en n then none else if bit old n.val then s.power.pnlAt[n] else some s.wt.cycle
    { s with power := { s.power with pnlAt := s.power.pnlAt.set n at_ } }
  s.setIf (!kept.isEmpty) F.PWR_FLAGS_STALE_WRITE

/-- PWR_PNL_WRITE: PWR_PNL is written and the board answers with the levels `pg`. -/
def execPwrPnlWrite (v : Word) (pg : BitVec 4) (s : State) : Out := .next (s.writePnl v pg.toNat)

/-- PG_TIMEOUT: PNL_PG[n] is not high within PG_TIMEOUT_MS of its enable (R493). -/
def execPgTimeout (n : QuadId) (s : State) : Out :=
  match s.power.pnlAt[n] with
  | some t =>
    if !bit (s.get F.PWR_PNL_STATUS_PG) n.val && s.passedUs t (1000 * max 1 (s.get F.PWR_PNL_PG_TIMEOUT_MS)) then
      let s : State := { s with power := { s.power with pnlAt := s.power.pnlAt.set n none } }
      .next ((s.set F.PWR_FLAGS_PG_TIMEOUT).pwrEvent 1 n.val)
    else .next s
  | none => .next s

/-- PNL_PG[n] falls; while its enable is 1 that is PG_LOST (R493). -/
def State.pnlFalls (s : State) (n : QuadId) : State :=
  let s := s.put F.PWR_PNL_STATUS_PG (s.get F.PWR_PNL_STATUS_PG - 2 ^ n.val)
  if bit (s.get F.PWR_PNL_EN) n.val then (s.set F.PWR_FLAGS_PG_LOST).pwrEvent 2 n.val else s

/-- PG_LOST: PNL_PG[n] falls while its enable is 1 (R493). DESIGN CHOICE, log 132. -/
def execPgLost (n : QuadId) (s : State) : Out :=
  if bit (s.get F.PWR_PNL_EN) n.val ∧ bit (s.get F.PWR_PNL_STATUS_PG) n.val then .next (s.pnlFalls n) else .next s

/-- The board puts the levels `pg` on PNL_PG (R493). -/
def State.pnlLevels (s : State) (pg : BitVec 4) : State :=
  forAll allQuads s fun s n =>
    match bit (s.get F.PWR_PNL_STATUS_PG) n.val, pg.getLsbD n.val with
    | false, true => s.put F.PWR_PNL_STATUS_PG (withBit (s.get F.PWR_PNL_STATUS_PG) n.val)
    | true, false => s.pnlFalls n
    | _, _ => s

/-! ### Stay entry -/

/-- A request for Stay, or for the same steps before a warm reset (R496, R500, R506).
DESIGN CHOICE, log 75; DEDUCED, log 124. -/
def State.stayRequest (s : State) (warm : Bool) : State :=
  if s.get F.PWR_STATUS_STATE = 0 then
    let p := { s.power with entry := .waiting, warm := warm, retain := s.flag F.PWR_CTRL_RETAIN, woken := none }
    ({ s with power := p }.put F.PWR_STATUS_STATE 1).stayAdvance
  else s.set F.PWR_FLAGS_STALE_WRITE

/-- STAY is complete at group `x`: every CDIC of an ACTIVE group reports it (R289). -/
def State.groupStays (s : State) (x : GroupId) : Bool :=
  !s.tplActive x || (List.range (s.get (F.TPL_STATUS_NCDIC x.quad x.sub))).all fun i => (s.group x).stay.getD i false

/-- The flow-context region as bytes (R505). DESIGN CHOICE, log 133. -/
def State.contextBytes (s : State) : List Byte :=
  (List.range 0x80000).flatMap fun i => leBytes 4 (s.rd (0x600000 + 4 * i)).toNat

/-- The flow-context region as the bytes give it. -/
def State.putContexts (s : State) : Nat → List Byte → State
  | _, [] => s
  | i, b :: t => match t with
    | c :: d :: e :: t => (s.wr (0x600000 + 4 * i) (BitVec.ofNat 32 (leNat [b, c, d, e]))).putContexts (i + 1) t
    | _ => s

/-- Held packets are lost with the queues (R130). DEDUCED, log 125. -/
def State.loseHeld (s : State) : State := forAll (s.ing.held.map (·.flow)) s State.dropHeld

/-- Resident history windows are written back (R166), so that the windows in DRAM are whole (R387). DEDUCED, log 125. -/
def State.flushWindows (s : State) : State :=
  forAll (fins 4) s fun s i =>
    if s.dramReady (boundTo i.val) then s.writeBack i
    else s.setInflater i { s.inflater i with resident := none, win := [], made := [] }

/-- The root of trust saves the flow contexts with a MAC under a fresh key (R505). DESIGN CHOICE, log 133. -/
def State.saveContexts (s : State) : State :=
  let n : QuadId := ⟨s.get F.PWR_CTX_SAVE_QUAD % 4, Nat.mod_lt _ (by decide)⟩
  if s.flag F.PWR_CTX_SAVE_EN ∧ s.dramReady n then
    let base := s.get F.PWR_CTX_SAVE_BASE * 2 ^ 21
    let (key, s) := s.freeBytes 48
    let b := s.contextBytes
    let s := s.writeDram n base b
    { s with power := { s.power with saved := some { quad := n, base := base, key := key, mac := hmac384 key b } } }
  else { s with power := { s.power with saved := none } }

/-- Step 4 of R501: block-engine operations, camera frames, calibration and DEFLATE jobs are abandoned, and the flow
contexts are saved. DEDUCED, log 129. -/
def State.stayAbandons (s : State) : State :=
  let s := forAll allQuads s fun s n => if (s.blt[n]).isSome then s.bltAbandon n else s
  let s := s.camStay
  let s := forAll allQuads s fun s n => if (s.dr n).cal = .none then s else s.calAbandon n
  let s := if s.rxScan.isSome then { (s.clr F.CAL_RX_STATUS_BUSY) with rxScan := none } else s
  let s := { s with dfl := { s.dfl with queue := [], infl := Vector.replicate 4 none, defl := none } }
  s.loseHeld.flushWindows.saveContexts

/-- Every controller that was READY has entered self-refresh, and none is in INIT (R387, R501). -/
def State.refreshed (s : State) : Bool :=
  decide (s.power.entry = .refresh) && allQuads.all fun n => s.dramState n == 0 || s.dramState n == 3

/-- A warm reset follows its four steps (R496). DEDUCED, log 124. -/
def State.warmEnds (s : State) : State := if s.power.warm && s.refreshed then s.warmReset else s

/-- STAY_CDIC_ACK: every CDIC reports STAY = 1, or 1 ms has passed; the pairs are unpowered, every group is IDLE (R289),
and step 4 of R501 is done up to self-refresh. -/
def execStayCdicAck (s : State) : Out :=
  match s.power.entry with
  | .cdics since =>
    if allGroups.all s.groupStays || s.passedUs since 1000 then
      let s := (forAll allGroups s fun s x => s.tplIdle x).stayAbandons
      .next { s with power := { s.power with entry := .refresh } }.warmEnds
    else .next s
  | _ => .next s

/-- SELF_REFRESH_ENTRY: the controller of quadrant `n` performs its writes and enters self-refresh (R387). -/
def execSelfRefreshEntry (n : QuadId) (s : State) : Out :=
  if s.power.entry = .refresh then .next (s.selfRefresh n).warmEnds else .next s

/-- The eight words of flow `f`'s context. -/
def State.context (s : State) (f : Nat) : List Word := (List.range 8).map fun i => s.rd (0x600000 + 32 * f + 4 * i)

/-- The contexts that the root of trust copies into its retained memory (R502). DESIGN CHOICE, log 133. -/
def State.retainContexts (s : State) : List (Nat × List Word) :=
  let open_ := (List.range 0xFFFF).filter fun f => s.flowState f != 0 && s.get (F.FLOW_W0_KIND f) == 3
  ((open_.take 32) ++ [0xFFFF]).map fun f => (f, s.context f)

/-- Wall time has reached PWR_WAKE, and WAKE_EN is 1 (R503). DEDUCED, log 123. -/
def State.wakeDue (s : State) : Bool :=
  let sec := (s.rd A.PWR_WAKE_SEC_HI).toNat * 2 ^ 32 + (s.rd A.PWR_WAKE_SEC_LO).toNat
  s.flag F.PWR_CTRL_WAKE_EN && decide (sec * 1000000000 + (s.rd A.PWR_WAKE_NS).toNat ≤ s.wallNs)

/-- The wake begins: PWR_SLEEP_N and PWR_SRAM_EN go high (R504); source 1 time, 2 message. -/
def State.wakeNow (s : State) (src : Nat) : State :=
  let s := (s.put F.PWR_STATUS_STATE 3).put F.PWR_STATUS_WAKE_SRC src
  { s with power := { s.power with since := s.wt.cycle }, pins := { s.pins with sleepN := true, sramEn := true } }

/-- Slice `x` belongs to a scene store that Stay retains (R501). -/
def State.sliceRetained (s : State) (x : Nat) : Bool := s.flag F.PWR_STATUS_RETAINED && decide (x < 4480)

/-- An entry of the soft repair table that Stay keeps: a hard one, and that of a retained slice, which step 3 of R465 does not
test again at the wake (R467, R473). -/
def State.repairKept (s : State) (e : Nat × Nat × Nat) : Bool := s.bist.fuses.contains e || s.sliceRetained e.1

/-- What loses its power or its contents in Stay beside registers: every queue (R130), and the units of the main domain.
Keys of PTP slots and what always-on logic holds stay. DEDUCED, log 125; DEDUCED, log 128. -/
def State.coreOff (s : State) : State :=
  let t := s.mainReset fun _ => false
  let ing := { t.ing with scene := s.ing.scene, bad := s.ing.bad, hpos := s.ing.hpos, kinds := s.ing.kinds }
  let t := { t with regs := s.regs, sess := s.sess, rot := s.rot, board := s.board, kennel := s.kennel, ing := ing }
  let t := { t with pins := { t.pins with sleepN := s.pins.sleepN, sramEn := s.pins.sramEn }
                    bist := { t.bist with spares := s.bist.spares.filter s.repairKept } }
  let t := { t with seqs := s.seqs.map fun c => { entry := c.entry } }
  forAll allQuads t fun t n =>
    let d := s.dr n
    t.setDr n { mem := d.mem, written := d.written, zeroed := d.zeroed, damaged := d.damaged, mr := d.mr, resuming := d.resuming, since := d.since }

/-- A security register that shows what the root of trust keeps through Stay: its status, the bottom tree, the sessions and
the measurements (R421, R423, R434, R502). -/
def isSecKept (a : Nat) : Bool := decide (0x100000 ≤ a) && decide (a < 0x101000) && a != A.SEC_SVN && a != A.SEC_BOOT

/-- A register that keeps its value at a Stay wake: the always-on domain, the Muzzle logic (R259), the Kennel state
(R506), what the root of trust retains, the self-test's results, which no reset sets, and BRD_STATUS.
DEDUCED, log 127. -/
def keptAtWake (a : Nat) : Bool :=
  keptWall a || isPwrReg a || a == A.MUZZLE_CTRL || a == A.MUZZLE_STATUS || a == A.KNL_STATUS
    || isSecKept a || a == A.BIST_POWERON || a == A.BRD_STATUS

/-- A register that holds its value in Stay: those kept at a wake, and those of the ports, RKN_CFG and the thermal unit,
which port A and the holdover sensor use in Stay (R502). Every other register is unpowered; it takes its reset value at the
wake, and the model lets it take it at once. DEDUCED, log 126. -/
def keptInStay (a : Nat) : Bool :=
  keptAtWake a || a == A.RKN_CFG || (decide (0xB0000 ≤ a) && decide (a < 0xB1000))
    || (decide (0x110000 ≤ a) && decide (a < 0x111000))

/-- The registers that `keep` does not name take their reset values; a controller stays in self-refresh (R504).
DEDUCED, log 126. -/
def State.coreRegs (s : State) (keep : Nat → Bool) : State :=
  let t := { s with regs := s.regs.filter fun e => keep e.1, live := [], whistleHost := 0 }
  let t := t.put F.BIST_REPAIR_SOFT s.bist.spares.length
  forAll allQuads t fun t n => t.put (F.DRAM_STATUS_STATE n) (s.dramState n)

/-- STAY_ENTERED: steps 5 to 7 of R501, after the copy-back of a slice under test (R471); the rounds go on, for the holdover sensor (R502); a wake that came about
meanwhile begins at once (R503, R506). DEDUCED, log 107; DEDUCED, log 122; DEDUCED, log 126; DEDUCED, log 129. -/
def execStayEntered (s : State) : Out :=
  if s.refreshed ∧ ¬ s.power.warm ∧ s.bist.cur.isNone then
    let front := (allPlanes.map fun (p : Fin 16) => 2 ^ p.val * s.get (F.SST_PLANE_STATUS_FRONT p)).foldl (· + ·) 0
    let s := s.put F.PWR_PLANE_FRONT_FRONT front
    let s := ((s.clr F.SEC_STATUS_JTAG_OPEN).clr F.SEC_STATUS_BOARD_READ).clr F.SEC_STATUS_BOARD_WRITE
    let s := { s with power := { s.power with retained := s.retainContexts } }
    let s := if s.get (F.NET_PORT_MODE_MODE 0) = 0 then s else s.portLink 0 0 false false false
    let s := s.put F.PWR_STATUS_STATE 2
    let s := forAll (fins 4) s.portsCheck State.nbrStop
    let s := (s.put F.PWR_STATUS_RETAINED (b2n s.power.retain)).clr F.PWR_STATUS_PWR_OK
    let s := { s with pins := { s.pins with sleepN := false, sramEn := s.power.retain } }
    let s := s.put F.BRD_STATUS_STAGE 5
    let woken := s.power.woken
    let round := s.round
    let s := { s with power := { s.power with entry := .none, woken := none } }.coreOff.coreRegs keptInStay
    let s := { s with round := round }
    let late := s.wakeDue
    let s := s.setIf late F.PWR_FLAGS_WAKE_LATE
    match woken with
    | some src => .next (s.wakeNow src)
    | none => .next (if late then s.wakeNow 1 else s)
  else .next s

/-! ### Wake -/

/-- A wake trigger: at once in Stay, after entry while Stay is being entered (R503, R506). DEDUCED, log 123. -/
def State.wakeTrigger (s : State) (src : Nat) : State :=
  if s.get F.PWR_STATUS_STATE = 2 then s.wakeNow src
  else if s.power.entry ≠ .none ∧ ¬ s.power.warm ∧ s.power.woken.isNone then
    { s with power := { s.power with woken := some src } }
  else s

/-- A write of PWR_CTRL (R500, R503, R506): RETAIN and WAKE_EN first, then what its write-only bits ask for.
DESIGN CHOICE, log 75. -/
def State.writePwrCtrl (s : State) (v : Word) : State :=
  if s.held then s else
  let s := (s.put F.PWR_CTRL_RETAIN (field v 1 1)).put F.PWR_CTRL_WAKE_EN (field v 2 1)
  let s := if field v 0 1 = 1 then s.stayRequest false else s
  let s := if field v 3 1 = 1 then s.wakeTrigger 2 else s
  if field v 4 1 = 1 then s.stayRequest true else s

/-- STAY: PWR_CTRL is written with STAY = 1. -/
def execStay (v : Word) (s : State) : Out := .next (s.writePwrCtrl (v ||| 1))

/-- WAKE: PWR_CTRL is written with WAKE = 1. -/
def execWake (v : Word) (s : State) : Out := .next (s.writePwrCtrl (v ||| 8))

/-- WARM: PWR_CTRL is written with WARM = 1. -/
def execWarm (v : Word) (s : State) : Out := .next (s.writePwrCtrl (v ||| 16))

/-- WAKE_TIME: wall time reaches PWR_WAKE while WAKE_EN = 1 (R503). -/
def execWakeTime (s : State) : Out := .next (if s.wakeDue then s.wakeTrigger 1 else s)

/-- Every retained segment is written again, and its sequencer is READY (R504). DEDUCED, log 128. -/
def State.reloadSegs (s : State) (l : List Segment) : State :=
  let s := forAll l s State.writeSegment
  forAll l s fun s g => s.setSeq g.seq { s.seq g.seq with run := .ready }

/-- PWR_OK: the board raises PWR_OK after a wake began; SRAM is initialised, memory BIST finding the rows `rows` newly
failing (R466, R467), registers are reset, FRONT bits restored, the parameter image applied, segments reloaded and SQS
started (R504). DEDUCED, log 122. -/
def execPwrOk (rows : List (Nat × Nat)) (s : State) : Out :=
  if s.get F.PWR_STATUS_STATE = 3 then
    let retained := s.flag F.PWR_STATUS_RETAINED
    let s := (s.coreOff.coreRegs keptAtWake).set F.PWR_STATUS_PWR_OK
    let s := if retained then s else { s with ing := { s.ing with scene := [], bad := [] } }
    let (_, ok, s) := State.memBist ((s.bist.weak ++ rows).filter fun r => !s.sliceRetained r.1) s
    if ok then
      let front := s.get F.PWR_PLANE_FRONT_FRONT
      let s := forAll allPlanes s fun s p => s.put (F.SST_PLANE_STATUS_FRONT p) (b2n (bit front (p : Fin 16).val))
      let s := (s.applyImage.reloadSegs s.rot.segs).sqsRuns
      let s := (s.put F.PWR_STATUS_STATE 0).pwrEvent 4 (s.get F.PWR_STATUS_WAKE_SRC)
      .next { s with power := { s.power with restoring := true } }
    else .next ((s.put F.PWR_STATUS_STATE 0).testFails 0x11)
  else .next s

/-- A context written into the flow-context region. -/
def State.putContext (s : State) (f : Nat) (l : List Word) : State :=
  forAll (List.range 8) s fun s i => s.wr (0x600000 + 32 * f + 4 * i) (l.getD i 0)

/-- CTX_RESTORE_DONE: RESUME is complete; the saved flow contexts are read back and their MAC checked, those served in
Stay written over them, and ingress goes on (R505). -/
def execCtxRestoreDone (s : State) : Out :=
  if s.power.restoring ∧ allQuads.all (fun n => !(s.dr n).resuming) then
    let s := match s.power.saved with
      | some c =>
        let (b, _, s) := s.readBytes c.quad c.base 0x200000
        if hmac384 c.key b = c.mac then s.putContexts 0 b else s.set F.PWR_FLAGS_CTX_LOST
      | none => s.set F.PWR_FLAGS_CTX_LOST
    let s := forAll s.power.retained s fun s c => s.putContext c.1 c.2
    .next { s with power := { s.power with restoring := false, retained := [], saved := none } }
  else .next s

/-! ### Leaving Kennel -/

/-- Segments of the quadrant sequencers in the boot bundles from flash offset `a` on are reloaded from the flash, verified as
at boot, and measured into M3; `n` bounds the number of bundles (R481). DEDUCED, log 120; DESIGN CHOICE, log 136. -/
def State.kennelReload : Nat → Nat → State → State
  | 0, _, s => s
  | n + 1, a, s =>
    if flashSize ≤ a ∨ le (s.rot.flashRead a 4) 0 4 ≠ 0x4F535A41 then s
    else
      let head := s.rot.flashRead a 32
      let next := a + pages (32 + le head 8 4 + le head 12 4)
      match s.bootVerdict (s.rot.flashObject a (flashSize - a)) with
      | .error x => State.kennelReload n next (s.bootRefused x head)
      | .ok (o, b) =>
        let segs := b.segs.filter fun g => decide (g.seq.val < 4)
        let s := if segs.isEmpty then s else (s.reloadSegs segs).measure 3 o.bytes
        let s := forAll (b.entries.filter fun e => decide (e.1.val < 4)) s fun s e =>
          s.setSeq e.1 { s.seq e.1 with entry := BitVec.ofNat 15 e.2 }
        State.kennelReload n next s

/-- KENNEL_RELOAD_DONE: the segments of SQ0 to SQ3 are reloaded, EVT_N is released and a KNL event with CODE 0 is
pushed (R481). DEDUCED, log 120. -/
def execKennelReloadDone (s : State) : Out :=
  if s.kennel.leaving then
    let s := State.kennelReload 16384 0xE00000 s
    let s := (s.clr F.KNL_STATUS_ACTIVE).sqsEvent 0x51 0 0
    .next { s with kennel := {} }
  else .next s

end Sys2Proof.Machine
end

