-- ==== Sys2Proof/Machine/Access.lean ====
section
/-!
DEFINITION. Sys2Proof/Machine/Access.lean: accesses to register space by any master (R65, R70, R71, R509 to R512), the
accesses a sequencer has under way (R67, R73, R74, R102 to R107), starting and halting it (R87), and rows that are one
register access of a kind.
-/

namespace Sys2Proof.Machine

/-! ### One access -/

/-- A write of `v` by master `m` to the register at absolute address `a`. The levels with which the board answers a
write of PWR_PNL are free. -/
def State.writeReg (s : State) (m : Master) (a : Nat) (v : Word) : State :=
  if a = A.PWR_CTRL then s.writePwrCtrl v
  else if a = A.PWR_PNL then
    let (pg, s) := s.draw 4
    s.writePnl v pg
  else s.writeCore m a v

/-- An access to unmapped address `a` is recorded (R510). DEDUCED, log 34. -/
def State.unmapped (s : State) (m : Master) (a : Nat) (write : Bool) : State :=
  let s := s.set F.SYS_STATUS_UNMAPPED
  s.wr A.SYS_UNMAPPED_ADDR (BitVec.ofNat 32 (a % 2 ^ 26 + masterCode m * 2 ^ 26 + b2n write * 2 ^ 29 + 2 ^ 31))

/-- A pop window (R126). -/
def popWindow (a : Nat) : Bool := a == A.WT_CAP_W3 || a == A.DFL_CPL_W 3

/-- A master later in R68's order has popped at byte address `a` in this core cycle: pops of one cycle take successive
entries in that order, so this one waits for the next cycle (R126). -/
def State.popWaits (s : State) (m : Master) (a : Nat) : Bool :=
  match s.reach m a false with
  | .regs (x :: _) => popWindow x && (s.cyclePops x).any fun b => decide (masterRank m < b.rank)
  | _ => false

/-- A read by master `m` at byte address `a`: through Whistle the lowest selected quadrant answers (R71); an unmapped
address reads 0 (R510), and so does one that the master does not reach. -/
def State.readAt (s : State) (m : Master) (a : Nat) : Word × State :=
  match s.reach m a false with
  | .regs (x :: _) =>
    let s := if popWindow x then s.notePop { addr := x, rank := masterRank m, whistle := false, val := 0 } else s
    s.readReg m x
  | .unmapped x => (0, s.unmapped m x false)
  | _ => (0, s)

/-- The bits of the register at `a` that a write leaves as written. -/
def rwBits (a : Nat) : Word :=
  match regRow a with
  | some r => BitVec.ofNat 32 (r.rw ||| r.rws ||| r.rwl)
  | none => 0

/-- The later of two accesses of one cycle by R68's order comes behind. -/
def insertRank (b : BusAccess) : List BusAccess → List BusAccess
  | [] => [b]
  | x :: t => if x.rank ≤ b.rank then x :: insertRank b t else b :: x :: t

/-- Accesses of one cycle in R68's order. -/
def byRank (l : List BusAccess) : List BusAccess := l.foldl (fun t b => insertRank b t) []

/-- The bits of a register that the accesses `l` decide. -/
def decided (l : List BusAccess) : Word := l.foldl (fun m b => m ||| b.mask) 0

/-- The master at place `n` of R68's order. -/
def masterAt (n : Nat) : Master :=
  if h : n < 4 then .sq ⟨n, h⟩ else if n = 4 then .sqs else if n = 5 then .rot else if n = 6 then .host else .board

/-- A write of this cycle to a register that writes later in R68's order have already reached: the bits that those decide
keep their value, and what this one does beside it (a W1C bit, a cleared counter) is done. A write that does more than
change its register is done, and the later ones again after it in their order; one that adds to a queue finds its own place.
DEDUCED, log 203. -/
def State.writeUnder (s : State) (m : Master) (a : Nat) (v : Word) (later : List BusAccess) : State :=
  match writeTo a with
  | .plain => s.writeReg m a (mixWords (rwBits a &&& decided later) (s.rd a) v)
  | .seqPost _ => s.writeReg m a v
  | .jobPush => s.writeReg m a v
  | .mrxFree => s.writeReg m a v
  | .mreply => s.writeReg m a v
  | .mrw n =>
    let l := (s.dr n).mrw
    let t := s.writeReg m a v
    let i := l.length - later.length
    t.setDr n { t.dr n with mrw := l.take i ++ (t.dr n).mrw.drop l.length ++ l.drop i }
  | .mrr _ => s
  | .geoRecord x _ =>
    let at_ := 0x800000 + 8 * x
    ((s.writeReg m a v).wr at_ (s.rd at_)).wr (at_ + 4) (s.rd (at_ + 4))
  | _ => forAll (byRank later) (s.writeReg m a v) fun s b => s.writeReg (masterAt b.rank) a b.val

/-- What the GO register at `a` has started in this core cycle is undone. -/
def State.goUndo (s : State) (a : Nat) : State :=
  let s := forAll (goRegs.filter fun g => g.1 == a) s fun s g => s.clr g.2
  if a = A.GEO_LOAD_GO then { s with geo := { s.geo with load := none } }
  else if a = A.CAL_RX_GO then { s with rxScan := none }
  else
    let n := quadAt a
    if a = A.SYN_GO n then s.setSy n {}
    else if a = A.BLT_GO n then { s with blt := s.blt.set n none }
    else s.setDr n { s.dr n with cal := .none }

/-- The write of a GO register by which `b` started the engine finds it busy after all (R73, R357): SQS stalls with it, the
board port returns BUSY, and so does the reply to a message that is yet to leave. -/
def State.goBounced (s : State) (b : BusAccess) : State :=
  if b.rank = 4 then
    let c := s.seq sqsQ
    if c.run = .running then
      s.setSeq sqsQ { c with run := .stalled, busy := .go b.addr b.val s.wt.cycle false, pc := c.pc - 1 }
    else s
  else if b.rank = 6 then
    match s.net.mtx.reverse with
    | x :: t => if x.dest.isSome ∧ x.bytes.take 3 = [2, 1, 0] then
        let busy := x.bytes.take 2 ++ [1, 0] ++ bytesAt x.bytes 4 4 ++ beBytes 2 (beNat (bytesAt x.bytes 8 2) - 1) ++ [0, 0]
        { s with net := { s.net with mtx := ({ x with bytes := busy } :: t).reverse } }
      else s
    | [] => s
  else if b.rank = 7 then { s with board := { s.board with result := 3, data := [] } }
  else s

/-- A write to the GO register at `a` by a master whose place in R68's order is before that of the write that has started the
engine in this core cycle: this one starts it, and the other finds it busy (R357). -/
def State.goBefore (s : State) (m : Master) (a : Nat) (v : Word) (later : List BusAccess) : State :=
  match s.engineBusy a, byRank later with
  | true, b :: _ => ((s.goUndo a).writeReg m a v).goBounced b
  | _, _ => s.writeReg m a v

/-- A write of this cycle beside one of the same register that came the other way, one of them through Whistle (case
U04): the register holds a mix of the two, a W1C bit is cleared or not, a GO register starts its engine once, with a mix of
the two values, or not at all, and a write to a register that adds to a queue may have no further effect. -/
def State.writeMixed (s : State) (m : Master) (a : Nat) (v : Word) (other : BusAccess) : State :=
  let (x, s) := s.draw 32
  let (y, s) := s.draw 32
  let w := mixWords (BitVec.ofNat 32 x) v other.val
  match writeTo a with
  | .plain =>
    let w1c := match regRow a with | some r => BitVec.ofNat 32 r.w1c | none => 0
    let kept := other.old &&& (v ||| other.val) &&& w1c &&& BitVec.ofNat 32 y
    let s := s.writeReg m a (mixWords w1c (v ||| other.val) w)
    s.wr a (s.rd a ||| kept)
  | _ =>
    if isGo a then
      if s.engineBusy a then (if y % 2 = 1 then (s.goUndo a).writeReg m a w else s.goUndo a)
      else s
    else if y % 2 = 1 then s.writeReg m a w else s

/-- The lock of the register at `a` is open (R516). -/
def State.rowOpen (s : State) (a : Nat) : Bool :=
  match regRow a with
  | some r => r.rwl != 0 && !s.lockHolds r.lock a
  | none => false

/-- A write by master `m` reaches the register at `a`, through Whistle or directly, beside what the writes of this core
cycle have done to it, and what there is to note of it (R68, R484). -/
def State.writeHit (s : State) (m : Master) (whistle : Bool) (a : Nat) (v mask : Word) : State × BusAccess :=
  let x := bankedAddr m a
  let past := s.cycleWrites x
  let later := past.filter fun b => decide (masterRank m < b.rank)
  let t := match past.find? fun b => b.whistle != whistle && b.rank != masterRank m with
    | some b => s.writeMixed m a v b
    | none =>
      if later.isEmpty then s.writeReg m a v
      else if isGo a then s.goBefore m a v later
      else s.writeUnder m a v later
  (t, { addr := x, rank := masterRank m, whistle := whistle, val := v, mask := mask, old := s.rd a, opened := t.rowOpen a })

/-- One access by master `m` writes each word of `l` at its byte address, `mask` the bits that it decides: through Whistle
in every selected quadrant (R70); an unmapped address discards it (R510), and so does one that the master does not reach. -/
def State.writeWords (s : State) (m : Master) (l : List (Nat × Word)) (mask : Word) : State :=
  let (s, notes) := l.foldl (fun (s, notes) (a, v) =>
    match s.reach m a true with
    | .regs t => t.foldl (fun (s, notes) x =>
        let (s, b) := s.writeHit m (inWhistle a) x v mask
        (s, notes ++ [b])) (s, notes)
    | .unmapped x => (s.unmapped m x true, notes)
    | _ => (s, notes)) (s, [])
  s.noteWrites notes

/-- A write by master `m` at byte address `a`. -/
def State.writeAt (s : State) (m : Master) (a : Nat) (v : Word) : State := s.writeWords m [(a, v)] (BitVec.allOnes 32)

/-- A write by master `m` at byte address `a` that is merged, where `mask` is 1, with what the register holds (R69). -/
def State.mergeAt (s : State) (m : Master) (a : Nat) (mask v : Word) : State :=
  let (old, s) := s.readAt m a
  s.writeWords m [(a, mixWords mask v old)] mask

/-- A write that takes effect unless it would start an engine that is busy (R73). -/
def State.writeIdle (s : State) (m : Master) (a : Nat) (v : Word) : State :=
  if s.goBusy m a then s else s.writeAt m a v

/-- REGISTER_WRITE: a write by master `m` at byte address `a` takes effect. -/
def execRegisterWrite (m : Master) (a : BitVec 26) (v : Word) (s : State) : Out := .next (s.writeIdle m a.toNat v)

/-- WHISTLE_WRITE: a write through Whistle (R70, R512). -/
def execWhistleWrite (m : Master) (off : BitVec 22) (v : Word) (s : State) : Out :=
  .next (s.writeIdle m (0x2000000 + off.toNat) v)

/-- UNMAPPED_ACCESS: an access by master `m` to an unmapped address (R510). -/
def execUnmappedAccess (m : Master) (a : BitVec 26) (write : Bool) (v : Word) (s : State) : Out :=
  match s.reach m a.toNat write with
  | .unmapped _ => .next (if write then s.writeAt m a.toNat v else (s.readAt m a.toNat).2)
  | _ => .next s

/-- FIFO_POP: a read of a pop window (R126). -/
def execFifoPop (m : Master) (a : BitVec 26) (s : State) : Out :=
  match s.reach m a.toNat false with
  | .regs (x :: _) =>
    if popWindow x && !s.popWaits m a.toNat then .next (s.readAt m a.toNat).2 else .next s
  | _ => .next s

/-- DROP_WINDOW_WRITE: a write of 1 at byte address `a` (R129). The register index tables give no FIFO a drop window,
so it is the ordinary write of 1. -/
def execDropWindowWrite (m : Master) (a : BitVec 26) (s : State) : Out := .next (s.writeIdle m a.toNat 1)

/-- FLOW_STATE_WRITE: a write of word 0 of flow `f`'s context (R158). -/
def execFlowStateWrite (m : Master) (f : BitVec 16) (v : Word) (s : State) : Out :=
  .next (s.writeAt m (0x600000 + 32 * f.toNat) v)

/-- GEO_WINDOW_LOW_WRITE (R142). -/
def execGeoWindowLowWrite (m : Master) (x : Fin 262144) (v : Word) (s : State) : Out :=
  .next (s.writeAt m (0x800000 + 8 * x.val) v)

/-- GEO_WINDOW_HIGH_WRITE (R142). -/
def execGeoWindowHighWrite (m : Master) (x : Fin 262144) (v : Word) (s : State) : Out :=
  .next (s.writeAt m (0x800000 + 8 * x.val + 4) v)

/-- POST: a write of SEQs_POST (R84). -/
def execPost (m : Master) (q : SeqId) (v : Word) (s : State) : Out := .next (s.writeAt m (A.SEQ_POST q) v)

/-- MRX_FREE: a write of NET_MRX_FREE (R308). DEDUCED, log 160. -/
def execMrxFree (v : Word) (s : State) : Out := .next (s.writeKind .sqs A.NET_MRX_FREE v .mrxFree)

/-- MREPLY: a write of NET_MREPLY (R308). DEDUCED, log 160. -/
def execMreply (v : Word) (s : State) : Out := .next (s.programReply v)

/-! ### Starting and halting a sequencer -/

/-- START: a write of SEQs_CTRL with START = 1 (R87). -/
def execStart (q : SeqId) (v : Word) (s : State) : Out := .next (s.writeSeqCtrl q (v ||| 1))

/-- SEQ_HALT: a write of SEQs_CTRL with HALT = 1 (R87). -/
def execSeqHalt (q : SeqId) (v : Word) (s : State) : Out := .next (s.writeSeqCtrl q (v ||| 2))

/-! ### Accesses under way -/

/-- The access that sequencer `q` had under way is complete: it goes on with the next instruction, or halts where a
HALT waits for this boundary (R87). DEDUCED, log 28. -/
def Seq.accessDone (c : Seq) : Seq :=
  let run := if c.haltReq then SeqRun.halted else .running
  { c with run := run, busy := .none, haltReq := false, pc := c.pc + 1 }

/-- The blocks that `words` accesses of sequencer `q` from `a` on belong to, issued after its first `n` posted writes
(R67). -/
def State.blocksAt (s : State) (q : SeqId) (n a words : Nat) (write : Bool) : List Nat :=
  (List.range words).flatMap fun i => accessBlocks (s.maskAfter q n) (masterOf q) (a + 4 * i) write

/-- The blocks that the writes of posted entry `n` belong to (R67). -/
def State.postedBlocks (s : State) (q : SeqId) (n : Nat) : List Nat :=
  match (s.seq q).posted[n]? with
  | some p => s.blocksAt q n p.addr p.vals.length true
  | none => []

/-- Two lists of blocks have one in common. DEDUCED, log 32. -/
def blocksMeet (l r : List Nat) : Bool := l.any r.contains

/-- A pop by POP.Q finds an entry (R108, R126). DEDUCED, log 30. -/
def State.popFinds (s : State) (m : Master) (a : Nat) : Bool :=
  match s.reach m a false with
  | .regs (x :: _) =>
    if x = A.WT_CAP_W3 then s.capReady.isSome else if x = A.DFL_CPL_W 3 then s.cplReady.isSome else true
  | _ => true

/-- The read under way at `a` for destination `d` is performed and its data is in place (R102, R106, R107, R108). Of an RMW
the write half joins the posted writes with its mask: as it takes effect it is merged with what the register holds, so no
other write comes between (R69, R103). DEDUCED, log 33. -/
def State.readFor (s : State) (q : SeqId) (a : Nat) (d : ReadDest) : State :=
  let m := masterOf q
  match d with
  | .gen g =>
    let (v, s) := s.readAt m a
    s.setSeq q ((s.seq q).setGr g v)
  | .popQ g =>
    let p := s.popFinds m a
    let (v, s) := s.readAt m a
    s.setSeq q (((s.seq q).setGr g v).setP p)
  | .time t =>
    let (hi, s) := s.readAt m a
    let (lo, s) := s.readAt m (a + 4)
    let (ns, s) := s.readAt m (a + 8)
    s.setSeq q ((s.seq q).setTr t (timeOf hi lo ns))
  | .rmw mask v =>
    let c := s.seq q
    s.setSeq q { c with posted := c.posted ++ [{ addr := a, vals := [v], mask := some mask }] }

/-- How many words a read takes. -/
def ReadDest.words : ReadDest → Nat
  | .time _ => 3
  | _ => 1

/-- READ_RETURN: the data of the read under way returns, once every earlier write to its block has taken effect (R67,
R102). DEDUCED, log 33. -/
def execReadReturn (q : SeqId) (s : State) : Out :=
  let c := s.seq q
  match c.run, c.busy with
  | .stalled, .read a d =>
    let mine := s.blocksAt q c.posted.length a d.words false
    if (List.range c.posted.length).any (fun i => blocksMeet (s.postedBlocks q i) mine) || s.popWaits (masterOf q) a then
      .next s
    else
      let s := s.readFor q a d
      .next (s.setSeq q (s.seq q).accessDone)
  | _, _ => .next s

/-- A HALT that waits ends a stall of R73, whose write is abandoned (R87). DEDUCED, log 28. -/
def State.haltStall (s : State) (q : SeqId) : State :=
  let c := s.seq q
  if c.posted.isEmpty && c.haltReq && s.stalledOnBusy q then
    s.setSeq q { c with run := .halted, busy := .none, haltReq := false }
  else s

/-- A sequencer whose GO write waited for earlier writes: with the last of them gone the stall of R73 begins (R105). -/
def State.goWaits (s : State) (q : SeqId) : State :=
  let c := s.seq q
  match c.busy with
  | .go a v _ dogged =>
    if c.posted.isEmpty then (s.setSeq q { c with busy := .go a v s.wt.cycle dogged }).haltStall q else s
  | _ => s

/-- A posted write of sequencer `q` at `a` has met a busy engine: the sequencer, if it runs, stalls until the write takes
effect (R73). DEDUCED, log 31. -/
def State.holdOn (s : State) (q : SeqId) (a : Nat) : State :=
  let c := s.seq q
  if c.run = .running then s.setSeq q { c with run := .stalled, busy := .held a s.wt.cycle false } else s

/-- A stall of `holdOn` ends with the write at `a`. -/
def Seq.heldEnds (c : Seq) (a : Nat) : Seq :=
  match c.busy with
  | .held x _ _ => if x = a then { c with run := .running, busy := .none } else c
  | _ => c

/-- The writes of posted entry `p` of sequencer `q` take effect, that of an RMW merged with what its register holds. -/
def State.drain (s : State) (q : SeqId) (p : Posted) : State :=
  match p.mask with
  | none => s.writeWords (masterOf q) (p.vals.zipIdx.map fun (v, j) => (p.addr + 4 * j, v)) (BitVec.allOnes 32)
  | some mask => s.mergeAt (masterOf q) p.addr mask (p.vals.headD 0)

/-- POSTED_WRITE_DRAIN: entry `i` of the posted-write buffer takes effect and is free, unless an earlier entry writes
to one of its blocks or an engine it starts is busy (R67, R73, R102, R103). DEDUCED, log 31; DEDUCED, log 32. -/
def execPostedWriteDrain (q : SeqId) (i : Fin 8) (s : State) : Out :=
  let c := s.seq q
  match c.posted[i.val]? with
  | some p =>
    let mine := s.postedBlocks q i
    if (List.range i.val).any (fun j => blocksMeet (s.postedBlocks q j) mine) then .next s
    else if (List.range p.vals.length).any (fun j => s.goBusy (masterOf q) (p.addr + 4 * j)) then .next (s.holdOn q p.addr)
    else
      let s := s.setSeq q ({ c with posted := c.posted.eraseIdx i.val }.heldEnds p.addr)
      .next ((s.drain q p).goWaits q)
  | none => .next s

/-- GO_WRITE_COMPLETE: no earlier write is posted and the engine is idle; the GO write takes effect (R105). -/
def execGoWriteComplete (q : SeqId) (s : State) : Out :=
  let c := s.seq q
  match c.run, c.busy with
  | .stalled, .go a v _ _ =>
    if !c.posted.isEmpty then .next s
    else if s.goBusy (masterOf q) a then .next (s.haltStall q)
    else
      let s := s.writeAt (masterOf q) a v
      .next (s.setSeq q (s.seq q).accessDone)
  | _, _ => .next s

/-- WDOG: a stall under R73 has lasted SEQs_WDOG.LIMIT_US (R74). DEDUCED, log 37. -/
def execWdog (q : SeqId) (s : State) : Out :=
  let c := s.seq q
  let limit := s.get (F.SEQ_WDOG_LIMIT_US q)
  match c.run, c.busy with
  | .stalled, .go a v since false =>
    if c.posted.isEmpty && s.goBusy (masterOf q) a && limit != 0 && s.passedUs since limit then
      .next ((s.setSeq q { c with busy := .go a v since true }).sqsEvent 0x24 q c.pc.toNat)
    else .next s
  | .stalled, .held a since false =>
    if limit != 0 && s.passedUs since limit then
      .next ((s.setSeq q { c with busy := .held a since true }).sqsEvent 0x24 q c.pc.toNat)
    else .next s
  | _, _ => .next s

/-- IMEM_RETRY: the fetch of a RUNNING sequencer meets a parity error and stalls while the word is written again from the
retained copy; `again` says that the repeated fetch fails too (R477). DEDUCED, log 29. -/
def execImemRetry (q : SeqId) (again : Bool) (s : State) : Out :=
  if (s.seq q).run = .running then
    let (off, s) := s.drawOff 7
    let s := s.parityErr 7 off
    .next (s.setSeq q { s.seq q with run := .stalled, busy := .refetch s.wt.cycle again })
  else .next s

end Sys2Proof.Machine
end

