-- ==== Sys2Proof/Machine/Board.lean ====
section
/-!
DEFINITION. Sys2Proof/Machine/Board.lean: the commands of the board port (R445, R447, R537, R538). Each takes the
argument bytes as the board sends them.
-/

namespace Sys2Proof.Machine

/-- The transaction's RESULT byte and reply data (R537). DEDUCED, log 162. -/
def State.boardReply (s : State) (result : Nat) (data : List Byte) : State :=
  { s with board := { s.board with result := result, data := data } }

/-- What the device returns on BRD_MISO: 0xFF while it is busy, then 0x5A, the RESULT byte and the reply data (R537). -/
def BoardUnit.returned (b : BoardUnit) : List Byte :=
  if b.result = 0xFF then [0xFF] else [0x5A, BitVec.ofNat 8 b.result] ++ b.data

/-- The device is in a reset: the clock reset, or a self-test that failed (R466, R495). -/
def State.inReset (s : State) : Bool := s.power.clkLost || s.get F.BRD_STATUS_STAGE == 0

/-- The firmware of the root of trust runs (R420); in Stay it wakes for a command.
DEDUCED, log 162; DESIGN CHOICE, log 163. -/
def State.rotRuns (s : State) : Bool := !s.inReset && s.get F.BRD_STATUS_STAGE != 1

/-- BRD_STATUS: returns BRD_STATUS as it stands, then CLR clears LATCH, unless it was set in this core cycle (R536).
DEDUCED, log 162. -/
def execBrdStatus (args : List Byte) (s : State) : Out :=
  match args with
  | [] => .next (s.boardReply 1 [])
  | clr :: _ =>
    let s := s.boardReply 0 (beBytes 4 s.brdStatus.toNat)
    .next (if clr.getLsbD 0 then s.wipe F.BRD_EVT_LATCH else s)

/-- BRD_TEMP: THM_TMAX and THM_STATUS; in Stay the reading of the holdover sensor stands for TMAX.
DESIGN CHOICE, log 163. -/
def execBrdTemp (_args : List Byte) (s : State) : Out :=
  if s.inReset then .next (s.boardReply 4 [])
  else
    let x :=
      if s.inStay then
        let i := s.get F.WT_HO_CFG_SENSOR
        withField (withField (s.rd (A.THM_T i)) 29 1 0) 16 4 i
      else s.rd A.THM_TMAX
    .next (s.boardReply 0 (beBytes 4 x.toNat ++ beBytes 4 (s.rd A.THM_STATUS).toNat))

/-- BRD_RESET: a system reset when BRD_CS_N rises. -/
def execBrdReset (args : List Byte) (b : BootIn) (s : State) : Out :=
  if args.take 2 = [0x5A, 0xA5] then .next ((s.systemReset b).boardReply 0 []) else .next (s.boardReply 1 [])

/-- BRD_CHALLENGE: a fresh nonce (R445). -/
def execBrdChallenge (_args : List Byte) (s : State) : Out :=
  if s.rotRuns then
    let (n, s) := s.newChallenge
    .next (s.boardReply 0 n)
  else .next (s.boardReply 4 [])

/-- The size of the token window. -/
def tokenWindow : Nat := 32768

/-- Bytes stored from offset `a` of the token window. -/
def storeWindow (m : Sparse Byte) (a : Nat) : List Byte → Sparse Byte
  | [] => m
  | b :: t => storeWindow (sparseSet (fun _ => 0) m a b) (a + 1) t

/-- TOKEN_LOAD: OFFSET, then 1 to 256 bytes for the token window. -/
def execTokenLoad (args : List Byte) (s : State) : Out :=
  let off := beNat (args.take 2)
  let data := args.drop 2
  if !s.rotRuns then .next (s.boardReply 4 [])
  else if data.isEmpty || decide (256 < data.length) || decide (tokenWindow < off + data.length) then
    .next (s.boardReply 1 [])
  else
    .next ((s.setTrust { s.rot with window := storeWindow s.rot.window off data }).boardReply 0 [])

/-- TOKEN_SUBMIT: the first LEN bytes of the window as a token; its RESULT follows when the root of trust is done, and
until then the port returns 0xFF. -/
def execTokenSubmit (args : List Byte) (s : State) : Out :=
  let len := beNat (args.take 4)
  if !s.rotRuns then .next (s.boardReply 4 [])
  else if args.length < 4 ∨ tokenWindow < len then .next (s.boardReply 1 [])
  else if s.rot.job.isSome then .next (s.boardReply 3 [])
  else
    let b := (List.range len).map fun i => sparseGet (fun _ => 0) s.rot.window i
    let s := s.boardReply 0xFF []
    match parseObject b with
    | some o => if o.kind = 4 then .next (s.rotObject .board o) else .next (s.objectRefused .board .format o.kind 0)
    | none => .next (s.objectRefused .board .format 0 0)

/-- PROVISION: owner slot 0 is written while no owner slot is (R447). -/
def execProvision (args : List Byte) (s : State) : Out :=
  if !s.rotRuns then .next (s.boardReply 4 [])
  else if args.length < 48 then .next (s.boardReply 1 [])
  else if s.rot.ownerSet then .next (s.boardReply 0 [BitVec.ofNat 8 RotResult.state.code])
  else
    let s := s.setTrust { s.rot with owners := s.rot.owners.set 0 (some (digestOf (args.take 48))) }
    .next (s.secShow.boardReply 0 [0])

/-- The board port reaches address `a` as SQS does (R538). DESIGN CHOICE, log 161. -/
def State.boardReach (s : State) (a : Nat) (write : Bool) : Bool :=
  decide (a < 2 ^ 26) && a % 4 == 0
    && (match s.reach .board a write with | .regs _ => true | .unmapped _ => true | _ => false)

/-- REG_READ: one register while the READ scope is open (R538). DESIGN CHOICE, log 161. -/
def execRegRead (args : List Byte) (s : State) : Out :=
  let a := beNat (args.take 4)
  if s.inStay then .next (s.boardReply 4 [])
  else if !s.flag F.SEC_STATUS_BOARD_READ then .next (s.boardReply 2 [])
  else if args.length < 4 ∨ ¬ s.boardReach a false then .next (s.boardReply 1 [])
  else
    let (v, s) := s.readAt .board a
    .next (s.boardReply 0 (beBytes 4 v.toNat))

/-- REG_WRITE: one register while the WRITE scope is open (R538). -/
def execRegWrite (args : List Byte) (s : State) : Out :=
  let a := beNat (args.take 4)
  if s.inStay then .next (s.boardReply 4 [])
  else if !s.flag F.SEC_STATUS_BOARD_WRITE then .next (s.boardReply 2 [])
  else if args.length < 8 ∨ ¬ s.boardReach a true then .next (s.boardReply 1 [])
  else if s.goBusy .board a then .next (s.boardReply 3 [])
  else .next ((s.writeAt .board a (BitVec.ofNat 32 (beNat (bytesAt args 4 4)))).boardReply 0 [])

/-- A transaction of the board port (R537): the command that its first byte names, with the argument bytes after it; an
unknown command returns BAD_CMD. DESIGN CHOICE, log 161. -/
def State.transaction (s : State) : List Byte → Out
  | [] => .next s
  | c :: args =>
    match c.toNat with
    | 0x01 => execBrdStatus args s
    | 0x02 => execBrdTemp args s
    | 0x03 =>
      let (b, s) := s.drawBoot
      execBrdReset args b s
    | 0x04 => execBrdChallenge args s
    | 0x05 => execTokenLoad args s
    | 0x06 => execTokenSubmit args s
    | 0x07 => execProvision args s
    | 0x10 => execRegRead args s
    | 0x11 => execRegWrite args s
    | _ => .next (s.boardReply 1 [])

end Sys2Proof.Machine
end

