-- ==== Sys2Proof/Machine/Mgmt.lean ====
section
/-!
DEFINITION. Sys2Proof/Machine/Mgmt.lean: management packets (R304 to R308): READ, WRITE, RMW, program messages and the
messages to the root of trust (R435); what is served in Stay (R502); and the expiry of a flow's gap (R161).
-/

namespace Sys2Proof.Machine

/-! ### Requests -/

/-- A management request (R304): where its reply goes, the session of its flow, its header and its body. -/
structure MgmtReq where
  dest      : ReplyTo
  session : Nat
  opcode  : Nat
  fixed   : Bool
  tag     : Word
  body    : List Byte
deriving DecidableEq, Repr

/-- What the execution of a root-of-trust message meets: how many leaf fuses read weak (R440), and whether the flash
programs (R435). -/
structure RotEnv where
  weak    : Nat := 0
  flashOk : Bool := true
deriving DecidableEq, Repr

/-- The request that a packet carries. DEDUCED, log 157. -/
def mgmtReq (s : State) (p : RknMsg) : MgmtReq :=
  let b := p.body
  let f := p.hdr.flow.toNat
  { dest := { flow := f, port := p.frame.port, mac := p.frame.src, own := p.frame.dst, encap := p.frame.encap }
    session := s.flowSession f, opcode := (b.getD 0 0).toNat, fixed := (b.getD 1 0).getLsbD 1
    tag := BitVec.ofNat 32 (beNat (bytesAt b 4 4)), body := b.drop 8 }

/-- The reply to a request (R304, R306). -/
def State.mgmtReply (s : State) (r : MgmtReq) (status : Nat) (body : List Byte) : State :=
  s.queueMsg { dest := some r.dest, bytes := msgHeader r.opcode 1 status r.tag ++ body }

/-- The reply to a WRITE: DONE and two reserved bytes. DEDUCED, log 157. -/
def doneBody (n : Nat) : List Byte := beBytes 2 n ++ [0, 0]

/-- ADDR of a READ, WRITE or RMW. -/
def MgmtReq.addr (r : MgmtReq) : Nat := beNat (r.body.take 4)

/-- COUNT of a READ or WRITE. -/
def MgmtReq.words (r : MgmtReq) : Nat := beNat (bytesAt r.body 4 2)

/-- The address of each word (R305). -/
def MgmtReq.addrs (r : MgmtReq) : List Nat :=
  (List.range r.words).map fun i => if r.fixed then r.addr else r.addr + 4 * i

/-- The value of word `i` of a WRITE. -/
def MgmtReq.value (r : MgmtReq) (i : Nat) : Word := BitVec.ofNat 32 (beNat (bytesAt r.body (8 + 4 * i) 4))

/-- A READ or WRITE has COUNT 1 to 64, its length, and an aligned ADDR (R305). -/
def MgmtReq.shapeOk (r : MgmtReq) (write : Bool) : Bool :=
  decide (6 ≤ r.body.length) && decide (1 ≤ r.words) && decide (r.words ≤ 64)
    && r.body.length == 8 + (if write then 4 * r.words else 0) && r.addr % 4 == 0

/-! ### Authority -/

/-- A register of the wall-time unit that only reports: nothing of it can be written but flags by writing 1 to them.
These are the status registers of the always-on domain that Stay serves (R502). DEDUCED, log 159. -/
def isWallStatus (a : Nat) : Bool :=
  isWallReg a && (match regRow a with | some r => r.rw == 0 && r.rws == 0 && r.rwl == 0 && !r.wo | none => false)

/-- The host's access of session `i` to address `a` is within its authority and the host's reach (R65, R305), POWER alone
deciding over writes to PWR_CTRL (R500), and in Stay within what Stay serves (R502). DEDUCED, log 157. -/
def State.mgmtMay (s : State) (i a : Nat) (write : Bool) : Bool :=
  decide (a < 2 ^ 26)
    && (match s.reach .host a write with | .regs _ => true | .unmapped _ => true | _ => false)
    && (if write && a == A.PWR_CTRL then s.may i 4 else s.may i (if write then 1 else 0))
    && (!s.inStay || isPwrReg a || isWallStatus a)

/-! ### READ, WRITE and RMW -/

/-- The words at `l` read in order (R305). -/
def State.readAll : List Nat → State → List Byte × State
  | [], s => ([], s)
  | a :: t, s =>
    let (v, s) := s.readAt .host a
    let (b, s) := State.readAll t s
    (beBytes 4 v.toNat ++ b, s)

/-- A READ (R305). -/
def State.mgmtRead (s : State) (r : MgmtReq) : State :=
  if !r.shapeOk false then s.mgmtReply r 3 []
  else if !r.addrs.all fun a => s.mgmtMay r.session a false then s.mgmtReply r 2 []
  else
    let (b, s) := State.readAll r.addrs s
    s.mgmtReply r 0 b

/-- The words at `l` written in order, word `i` first, up to one addressed to a GO register whose engine is busy; how
many were written, and whether such a word ended it (R305, R512). DEDUCED, log 158. -/
def State.writeAll (r : MgmtReq) : List Nat → Nat → State → Nat × Bool × State
  | [], i, s => (i, false, s)
  | a :: t, i, s =>
    if s.goBusy .host a then (i, true, s) else State.writeAll r t (i + 1) (s.writeAt .host a (r.value i))

/-- A WRITE (R305). DEDUCED, log 158. -/
def State.mgmtWrite (s : State) (r : MgmtReq) : State :=
  if !r.shapeOk true then s.mgmtReply r 3 (doneBody 0)
  else if !r.addrs.all fun a => s.mgmtMay r.session a true then s.mgmtReply r 2 (doneBody 0)
  else
    let (n, busy, s) := State.writeAll r r.addrs 0 s
    s.mgmtReply r (b2n busy) (doneBody n)

/-- An RMW (R69, R305): read, merged and written as one. -/
def State.mgmtRmw (s : State) (r : MgmtReq) : State :=
  let a := r.addr
  let forbidden := rmwBars .host a
  if r.body.length ≠ 12 ∨ a % 4 ≠ 0 then s.mgmtReply r 3 []
  else if !s.mgmtMay r.session a true || forbidden then s.mgmtReply r 2 []
  else if s.goBusy .host a then s.mgmtReply r 1 []
  else
    let mask := BitVec.ofNat 32 (beNat (bytesAt r.body 4 4))
    let v := BitVec.ofNat 32 (beNat (bytesAt r.body 8 4))
    (s.mergeAt .host a mask v).mgmtReply r 0 []

/-! ### Messages -/

/-- A program message takes the lowest free receive buffer, or is answered NO_BUFFER (R308). -/
def State.programMsg (s : State) (r : MgmtReq) (bytes : List Byte) : State :=
  match s.freeMrx with
  | some b =>
    s.takeMrx b 0 r.dest.port { reply := some r.dest, opcode := BitVec.ofNat 8 r.opcode, tag := r.tag } bytes 0x22 r.dest.port
  | none => (s.countReg A.NET_MRX_DROP).mgmtReply r 4 []

/-- A message to the root of trust. -/
def State.rotMsg (s : State) (e : RotEnv) (r : MgmtReq) : State :=
  s.rotAccept { dest := r.dest, session := r.session, opcode := r.opcode, tag := r.tag, body := r.body
                weak := e.weak, flashOk := e.flashOk }

/-- An accepted request is executed (R304, R305, R435). Session 255 carries root-of-trust messages alone (R429), and in
recovery nothing else is answered (R424). DEDUCED, log 153; DEDUCED, log 156. -/
def State.mgmtRun (s : State) (e : RotEnv) (r : MgmtReq) (bytes : List Byte) : State :=
  if 0x20 ≤ r.opcode ∧ r.opcode < 0x28 then s.rotMsg e r
  else if s.flag F.SEC_STATUS_RECOVERY ∧ ¬ (0x28 ≤ r.opcode ∧ r.opcode < 0x30) then s
  else if r.session = 255 then s.mgmtReply r 2 []
  else if r.opcode = 1 then s.mgmtRead r
  else if r.opcode = 2 then s.mgmtWrite r
  else if r.opcode = 3 then s.mgmtRmw r
  else if 0x10 ≤ r.opcode ∧ r.opcode < 0x20 then s.programMsg r bytes
  else s.mgmtReply r 3 []

/-- What an accepted MGMT packet does. -/
def mgmtAccept (e : RotEnv) : Accept := fun s p => s.mgmtRun e (mgmtReq s p) p.body

/-- What an accepted packet of any TYPE does. -/
def acceptAll (e : RotEnv) : Accept := fun s p => if p.hdr.typ = 3 then mgmtAccept e s p else acceptScene s p

/-! ### In Stay -/

/-- A request is executed in Stay: READ and WRITE, BUSY for every other opcode (R502). DEDUCED, log 159. -/
def State.stayRun (s : State) (r : MgmtReq) : State :=
  if r.opcode = 1 then s.mgmtRead r
  else if r.opcode = 2 then s.mgmtWrite r
  else s.mgmtReply r 1 []

/-- The context of a retained flow replaced. -/
def State.setRetained (s : State) (f : Nat) (l : List Word) : State :=
  { s with power := { s.power with retained := s.power.retained.map fun c => if c.1 = f then (f, l) else c } }

/-- A MGMT packet on port A in Stay, its header right (R502): its flow among the retained copies, its tag, R160 without
holding, its request. DEDUCED, log 159. -/
def State.stayPkt (s : State) (p : RknPkt) : State :=
  let h := rknHdr p
  let f := h.flow.toNat
  match s.power.retained.find? fun c => c.1 == f with
  | none => s
  | some (_, l) =>
    let n := (l.getD 2 0).toNat + (l.getD 3 0).toNat % 65536 * 2 ^ 32
    let x := h.seq.toNat
    let w6 := l.getD 6 0
    if !seqAhead x n then s
    else
      match s.openPkt (s.flowSession f) p with
      | some m =>
        let next := (x + 1) % 2 ^ 48
        let l := (l.set 2 (BitVec.ofNat 32 next)).set 3 (withField (l.getD 3 0) 0 16 (next / 2 ^ 32))
        let l := (l.set 6 (withField w6 16 16 (min 65535 (field w6 16 16 + seqDist x n)))).set 5 (l.getD 5 0 + 1)
        let s := (s.verified (s.flowSession f) (RknPhase h)).setRetained f (l.set 7 h.frame)
        s.stayRun (mgmtReq s m)
      | none => s.setRetained f (l.set 6 (withField w6 0 16 (satInc 16 (field w6 0 16))))

/-- A MGMT packet arrives. -/
def State.mgmtArrives (s : State) (e : RotEnv) (p : RknPkt) : State :=
  if s.inStay then
    let (t, s) := s.rknTake p.frame ((rknHdr p).typ == 3)
    match t with
    | .drop => s
    | .take => if rknHeaderOk p then s.stayPkt p else s
  else State.rknArrives (mgmtAccept e) s p

/-- A packet is a MGMT packet whose message has an opcode that `ok` admits, where its tag verifies at all. -/
def State.mgmtIs (s : State) (ok : Nat → Bool) (p : RknPkt) : Bool :=
  (rknHdr p).typ == 3 && (match s.openPkt (s.flowSession (rknHdr p).flow.toNat) p with
    | some m => ok (m.body.getD 0 0).toNat
    | none => true)

/-- A row of the management family: a MGMT packet with its opcode arrives. DEDUCED, log 156. -/
def mgmtRow (ok : Nat → Bool) (e : RotEnv) (p : RknPkt) (s : State) : Out :=
  if s.mgmtIs ok p then .next (s.mgmtArrives e p) else .next s

/-- An opcode that no other row takes: READ, and those that R304 answers BAD_MSG. DEDUCED, log 156. -/
def readOpcode (o : Nat) : Bool :=
  !(o == 2 || o == 3 || (decide (0x10 ≤ o) && decide (o < 0x28)))

/-- MGMT_READ; a message of an opcode that no row has, which is answered BAD_MSG, arrives by this row too. -/
def execMgmtRead (p : RknPkt) (s : State) : Out := mgmtRow readOpcode {} p s
/-- MGMT_WRITE. -/
def execMgmtWrite (p : RknPkt) (s : State) : Out := mgmtRow (· == 2) {} p s
/-- MGMT_RMW. -/
def execMgmtRmw (p : RknPkt) (s : State) : Out := mgmtRow (· == 3) {} p s
/-- PROGRAM_MESSAGE. -/
def execProgramMessage (p : RknPkt) (s : State) : Out := mgmtRow (fun o => decide (0x10 ≤ o) && decide (o < 0x20)) {} p s
/-- XFER. -/
def execXfer (p : RknPkt) (s : State) : Out := mgmtRow (· == 0x20) {} p s
/-- SUBMIT. -/
def execSubmit (p : RknPkt) (s : State) : Out := mgmtRow (· == 0x21) {} p s
/-- ATTEST_REQ; `weak` leaf fuses read back weak before one burns (R440). -/
def execAttestReq (p : RknPkt) (weak : Nat) (s : State) : Out := mgmtRow (· == 0x22) { weak := weak } p s
/-- CHALLENGE. -/
def execChallenge (p : RknPkt) (s : State) : Out := mgmtRow (· == 0x23) {} p s
/-- KEY_UPDATE. -/
def execKeyUpdate (p : RknPkt) (s : State) : Out := mgmtRow (· == 0x24) {} p s
/-- KEY_INSTALL. -/
def execKeyInstall (p : RknPkt) (s : State) : Out := mgmtRow (· == 0x25) {} p s
/-- SESSION_CLOSE. -/
def execSessionClose (p : RknPkt) (s : State) : Out := mgmtRow (· == 0x26) {} p s
/-- FLASH_WRITE; `flashOk` says whether the flash programs and reads back (R435). -/
def execFlashWrite (p : RknPkt) (flashOk : Bool) (s : State) : Out := mgmtRow (· == 0x27) { flashOk := flashOk } p s

/-- GAP_EXPIRY: flow `f` has waited GAP_WAIT_US for a missing packet (R161). -/
def execGapExpiry (f : BitVec 16) (s : State) : Out :=
  if s.gapDue f.toNat then .next (State.expireGap (acceptAll {}) s f.toNat) else .next s

end Sys2Proof.Machine
end

