-- ==== Sys2Proof/Machine/PorowAlu.lean ====
section
/-!
DEFINITION. Sys2Proof/Machine/PorowAlu.lean: Porow arithmetic, compares, branches, calls, NOP and HALT (R98 to R100,
R114).
-/

namespace Sys2Proof.Machine

/-- An instruction that writes one general register from the sequencer's own state. -/
def State.alu (s : State) (q : SeqId) (i : POp) (d : GReg) (f : Seq → Word) : State :=
  s.issue q i fun s => s.step1 q fun c => c.setGr d (f c)

/-- The shift amount in bits [4:0] of a register (R98). -/
def shamt (w : Word) : Nat := w.toNat % 32

/-- ADD: gD = gA + gB. -/
def execAdd (q : SeqId) (d a b : GReg) (s : State) : Out :=
  .next (s.alu q (.add d a b) d fun c => c.gr a + c.gr b)
/-- SUB: gD = gA - gB. -/
def execSub (q : SeqId) (d a b : GReg) (s : State) : Out :=
  .next (s.alu q (.sub d a b) d fun c => c.gr a - c.gr b)
/-- AND: gD = gA AND gB. -/
def execAnd (q : SeqId) (d a b : GReg) (s : State) : Out :=
  .next (s.alu q (.and d a b) d fun c => c.gr a &&& c.gr b)
/-- OR: gD = gA OR gB. -/
def execOr (q : SeqId) (d a b : GReg) (s : State) : Out :=
  .next (s.alu q (.or d a b) d fun c => c.gr a ||| c.gr b)
/-- XOR: gD = gA XOR gB. -/
def execXor (q : SeqId) (d a b : GReg) (s : State) : Out :=
  .next (s.alu q (.xor d a b) d fun c => c.gr a ^^^ c.gr b)
/-- SHL: gD = gA shifted left by gB[4:0]. -/
def execShl (q : SeqId) (d a b : GReg) (s : State) : Out :=
  .next (s.alu q (.shl d a b) d fun c => c.gr a <<< shamt (c.gr b))
/-- SHR: gD = gA shifted right by gB[4:0], zeros in. -/
def execShr (q : SeqId) (d a b : GReg) (s : State) : Out :=
  .next (s.alu q (.shr d a b) d fun c => c.gr a >>> shamt (c.gr b))
/-- SAR: gD = gA shifted right by gB[4:0], sign bits in. -/
def execSar (q : SeqId) (d a b : GReg) (s : State) : Out :=
  .next (s.alu q (.sar d a b) d fun c => (c.gr a).sshiftRight (shamt (c.gr b)))
/-- MUL: gD = the low 32 bits of gA · gB. -/
def execMul (q : SeqId) (d a b : GReg) (s : State) : Out :=
  .next (s.alu q (.mul d a b) d fun c => c.gr a * c.gr b)
/-- MOV: gD = gA. -/
def execMov (q : SeqId) (d a : GReg) (s : State) : Out := .next (s.alu q (.mov d a) d fun c => c.gr a)
/-- ADDI: gD = gA + IMM. -/
def execAddi (q : SeqId) (d a : GReg) (imm : Word) (s : State) : Out :=
  .next (s.alu q (.addi d a imm) d fun c => c.gr a + imm)
/-- ANDI: gD = gA AND IMM. -/
def execAndi (q : SeqId) (d a : GReg) (imm : Word) (s : State) : Out :=
  .next (s.alu q (.andi d a imm) d fun c => c.gr a &&& imm)
/-- ORI: gD = gA OR IMM. -/
def execOri (q : SeqId) (d a : GReg) (imm : Word) (s : State) : Out :=
  .next (s.alu q (.ori d a imm) d fun c => c.gr a ||| imm)
/-- XORI: gD = gA XOR IMM. -/
def execXori (q : SeqId) (d a : GReg) (imm : Word) (s : State) : Out :=
  .next (s.alu q (.xori d a imm) d fun c => c.gr a ^^^ imm)
/-- SHLI: gD = gA shifted left by IMM. -/
def execShli (q : SeqId) (d a : GReg) (sh : Fin 32) (s : State) : Out :=
  .next (s.alu q (.shli d a sh) d fun c => c.gr a <<< sh.val)
/-- SHRI: gD = gA shifted right by IMM, zeros in. -/
def execShri (q : SeqId) (d a : GReg) (sh : Fin 32) (s : State) : Out :=
  .next (s.alu q (.shri d a sh) d fun c => c.gr a >>> sh.val)
/-- SARI: gD = gA shifted right by IMM, sign bits in. -/
def execSari (q : SeqId) (d a : GReg) (sh : Fin 32) (s : State) : Out :=
  .next (s.alu q (.sari d a sh) d fun c => (c.gr a).sshiftRight sh.val)
/-- LI: gD = IMM. -/
def execLi (q : SeqId) (d : GReg) (imm : Word) (s : State) : Out := .next (s.alu q (.li d imm) d fun _ => imm)

/-- CMP: P = (gA c gB). -/
def execCmp (q : SeqId) (c : Cond) (a b : GReg) (s : State) : Out :=
  .next (s.issue q (.cmp c a b) fun s => s.step1 q fun x => x.setP (condHolds c (x.gr a) (x.gr b)))
/-- CMPI: P = (gA c IMM). -/
def execCmpi (q : SeqId) (c : Cond) (a : GReg) (imm : Word) (s : State) : Out :=
  .next (s.issue q (.cmpi c a imm) fun s => s.step1 q fun x => x.setP (condHolds c (x.gr a) imm))

/-- A branch: the PC becomes the target where `taken` holds, moves on elsewhere. -/
def State.branch (s : State) (q : SeqId) (target : BitVec 15) (taken : Bool) : State :=
  let c := s.seq q
  s.setSeq q (if taken then { c with pc := target } else c.next)

/-- BR. -/
def execBr (q : SeqId) (target : BitVec 15) (s : State) : Out :=
  .next (s.issue q (.br target) fun s => s.branch q target true)
/-- BR.P. -/
def execBrP (q : SeqId) (target : BitVec 15) (s : State) : Out :=
  .next (s.issue q (.brP target) fun s => s.branch q target (s.seq q).p)
/-- BR.NP. -/
def execBrNp (q : SeqId) (target : BitVec 15) (s : State) : Out :=
  .next (s.issue q (.brNp target) fun s => s.branch q target (!(s.seq q).p))

/-- CALL: pushes PC + 1; with 16 entries in use, a STACK fault (R91, R100). -/
def execCall (q : SeqId) (target : BitVec 15) (s : State) : Out :=
  .next (s.issue q (.call target) fun s =>
    let c := s.seq q
    if c.stack.length < 16 then s.setSeq q { c with stack := (c.pc + 1) :: c.stack, pc := target }
    else s.seqFault q .stack)

/-- RET: pops the return stack into the PC; with none, a STACK fault (R91, R100). -/
def execRet (q : SeqId) (s : State) : Out :=
  .next (s.issue q .ret fun s =>
    let c := s.seq q
    match c.stack with
    | a :: t => s.setSeq q { c with stack := t, pc := a }
    | [] => s.seqFault q .stack)

/-- NOP. -/
def execNop (q : SeqId) (s : State) : Out := .next (s.issue q .nop fun s => s.step1 q id)

/-- HALT (R114): posted writes still take effect and armed alarms stay armed; the PC moves past it.
DESIGN CHOICE, log 188. -/
def execHalt (q : SeqId) (s : State) : Out :=
  .next (s.issue q .halt fun s => s.step1 q fun c => { c with run := .halted })

end Sys2Proof.Machine
end

