-- ==== Sys2Proof/Machine/PorowTime.lean ====
section
/-!
DEFINITION. Sys2Proof/Machine/PorowTime.lean: Porow time registers (R109, R110) and the waits on time, lines and
events (R76 to R79).
-/

namespace Sys2Proof.Machine

/-- An instruction that writes one time register from the sequencer's own state. -/
def State.timeOp (s : State) (q : SeqId) (i : POp) (d : TReg) (f : Seq → TimeVal) : State :=
  s.issue q i fun s => s.step1 q fun c => c.setTr d (f c)

/-- A time and `x` nanoseconds more, split again (R109). -/
def TimeVal.addNs (t : TimeVal) (x : Int) : TimeVal := timeOfNs ((t.toNs : Int) + x)

/-- TMOV. -/
def execTmov (q : SeqId) (d a : TReg) (s : State) : Out := .next (s.timeOp q (.tmov d a) d fun c => c.tr a)
/-- TADD: gG1 signed nanoseconds. -/
def execTadd (q : SeqId) (d a : TReg) (g : GReg) (s : State) : Out :=
  .next (s.timeOp q (.tadd d a g) d fun c => (c.tr a).addNs (c.gr g).toInt)
/-- TADDI: IMM signed nanoseconds. -/
def execTaddi (q : SeqId) (d a : TReg) (imm : Word) (s : State) : Out :=
  .next (s.timeOp q (.taddi d a imm) d fun c => (c.tr a).addNs imm.toInt)
/-- TADDS: IMM signed seconds. -/
def execTadds (q : SeqId) (d a : TReg) (imm : Word) (s : State) : Out :=
  .next (s.timeOp q (.tadds d a imm) d fun c => (c.tr a).addNs (imm.toInt * 1000000000))

/-- tA - tB in nanoseconds, saturated to a signed 32-bit value (R109). -/
def timeDiff (a b : TimeVal) : Word :=
  BitVec.ofInt 32 (clampInt (-2147483648) 2147483647 ((a.toNs : Int) - b.toNs))

/-- TSUB. -/
def execTsub (q : SeqId) (g : GReg) (a b : TReg) (s : State) : Out :=
  .next (s.alu q (.tsub g a b) g fun c => timeDiff (c.tr a) (c.tr b))

/-- TCMP (R99). -/
def execTcmp (q : SeqId) (c : Cond) (a b : TReg) (s : State) : Out :=
  .next (s.issue q (.tcmp c a b) fun s => s.step1 q fun x => x.setP (timeCondHolds c (x.tr a) (x.tr b)))

/-- A part of a time register (R109). -/
def TimeVal.part (t : TimeVal) : TPart → Word
  | .secLo => t.sec.setWidth 32
  | .secHi => (t.sec >>> 32).setWidth 32
  | .ns => t.ns

/-- A part of a time register replaced; nanoseconds carry into the seconds (R109). -/
def TimeVal.withPart (t : TimeVal) (p : TPart) (v : Word) : TimeVal :=
  match p with
  | .secLo => { t with sec := (t.part .secHi) ++ v }
  | .secHi => { t with sec := v ++ (t.part .secLo) }
  | .ns => timeOfNs ((t.sec.toNat * 1000000000 + v.toNat : Nat) : Int)

/-- TGET. -/
def execTget (q : SeqId) (g : GReg) (a : TReg) (p : TPart) (s : State) : Out :=
  .next (s.alu q (.tget g a p) g fun c => (c.tr a).part p)
/-- TPUT. -/
def execTput (q : SeqId) (d : TReg) (g : GReg) (p : TPart) (s : State) : Out :=
  .next (s.timeOp q (.tput d g p) d fun c => (c.tr d).withPart p (c.gr g))

/-- TLINE: the cadence counts as it stood at the end of the core cycle before (R110). -/
def execTline (q : SeqId) (d : TReg) (g1 g2 : GReg) (n : LineOff) (s : State) : Out :=
  .next (s.issue q (.tline d g1 g2 n) fun s =>
    let c := s.seq q
    let u := s.atCycleStart
    if u.cadenceOk then
      let x := u.lineAt (u.resolveFrame (c.gr g2)) (c.lineOff n)
      s.step1 q fun c => (c.setTr d (timeOfNs (x / 65536))).setGr g1 (BitVec.ofNat 32 (x % 65536).toNat)
    else s.step1 q fun c => (c.setTr d {}).setGr g1 0x80000000)

/-! ### Waits -/

/-- A sequencer waits. DEDUCED, log 25. -/
def State.wait (s : State) (q : SeqId) (b : SeqBusy) : State :=
  s.setSeq q { s.seq q with run := .waiting, busy := b }

/-- WAIT.T and WAIT.L for an instant: one that has passed lets it continue at once with P = 1, after the latch where it
is the instant of the latch that is due (R76 to R78). -/
def State.waitFor (s : State) (q : SeqId) (x : Int) (b : SeqBusy) : State :=
  if (s.wall16 : Int) ≤ x then s.wait q b
  else if s.latchHolds x then s
  else s.step1 q fun c => c.setP true

/-- WAIT.T (R76). -/
def execWaitT (q : SeqId) (t : TReg) (s : State) : Out :=
  .next (s.issue q (.waitT t) fun s => s.waitFor q ((s.seq q).tr t).units (.waitT ((s.seq q).tr t)))

/-- WAIT.L (R77). -/
def execWaitL (q : SeqId) (k : GReg) (n : LineOff) (s : State) : Out :=
  .next (s.issue q (.waitL k n) fun s =>
    let c := s.seq q
    let l := s.lineTarget (c.gr k) (c.lineOff n)
    match s.lineTargetAt l with
    | some x => s.waitFor q x (.waitL l)
    | none => s.wait q (.waitL l))

/-- WAIT.E: it does not set P (R79). -/
def execWaitE (q : SeqId) (s : State) : Out :=
  .next (s.issue q .waitE fun s => if (s.seq q).queue.isEmpty then s.wait q .waitE else s.step1 q id)

/-- A waiting sequencer goes on with its next instruction. DEDUCED, log 26. -/
def Seq.resume (c : Seq) : Seq := { c with run := .running, busy := .none }.next

/-- WAIT_RESUME: the wait of a WAITING sequencer ends (R76 to R79). A WAIT.T or WAIT.L that had to wait sets P = 0.
DEDUCED, log 26. -/
def execWaitResume (q : SeqId) (s : State) : Out :=
  let c := s.seq q
  match c.busy with
  | .waitT t => if s.instantDone t.units then .next (s.setSeq q (c.resume.setP false)) else .next s
  | .waitL (.line k n) =>
    if s.cadenceOk && s.instantDone (s.lineAt k n) then
      .next (s.setSeq q (c.resume.setP false))
    else .next s
  | .waitE => if c.queue.isEmpty then .next s else .next (s.setSeq q c.resume)
  | _ => .next s

end Sys2Proof.Machine
end

