-- ==== Sys2Proof/Machine/PorowFence.lean ====
section
/-!
DEFINITION. Sys2Proof/Machine/PorowFence.lean: FENCE (R86, R111, R181).
-/

namespace Sys2Proof.Machine

/-- The fences received cover every plane of `mask` for frame `k`. -/
def State.fencesCover (s : State) (k : Int) (mask : BitVec 16) : Bool :=
  allPlanes.all (fun p => !bit mask.toNat p.val || s.covered p k)

/-- FENCE: blocks until coverage (P = 1) or until wall time reaches tN (P = 0). -/
def execFence (q : SeqId) (k m : GReg) (t : TReg) (s : State) : Out :=
  .next (s.issue q (.fence k m t) fun s =>
    let c := s.seq q
    let f := s.resolveFrame (c.gr k)
    let mask := (c.gr m).setWidth 16
    if s.fencesCover f mask then s.step1 q fun c => c.setP true
    else if s.instantDone (c.tr t).units then s.step1 q fun c => c.setP false
    else s.wait q (.fence f mask (c.tr t)))

/-- FENCE_RESUME: a blocked FENCE ends. -/
def execFenceResume (q : SeqId) (s : State) : Out :=
  let c := s.seq q
  match c.busy with
  | .fence k mask t =>
    if s.fencesCover k mask then .next (s.setSeq q (c.resume.setP true))
    else if s.instantDone t.units then .next (s.setSeq q (c.resume.setP false))
    else .next s
  | _ => .next s

end Sys2Proof.Machine
end

