-- ==== Sys2Proof/Machine/Ptp.lean ====
section
/-!
DEFINITION. Sys2Proof/Machine/Ptp.lean: the PTP messages that reach the ports (R34 to R39): which slot takes one, what the
transparent clock forwards, the measurements they complete, and the requests and responses the device sends.
-/

namespace Sys2Proof.Machine

/-! ### Which slots take a message -/

/-- The TRANSPORT value of a frame with a PTP message (R34). -/
def ptpTransport (f : NetFrame) : Nat :=
  match f.encap with
  | .udp4 _ _ _ _ _ => 1
  | .udp6 _ _ _ _ _ => 2
  | _ => 0

/-- Slot `d` listens to the message: enabled, its domain, transport and port (R34). DEDUCED, log 15. -/
def State.slotHears (s : State) (d : Fin 2) (h : PtpHdr) : Bool :=
  s.flag (F.WT_DOM_CFG_ENABLE d)
    && decide (h.domain.toNat < 128) && s.get (F.WT_DOM_CFG_DOMAIN_NUM d) == h.domain.toNat
    && s.get (F.WT_DOM_CFG_TRANSPORT d) == ptpTransport h.frame
    && (match s.get (F.WT_DOM_CFG_PORT_SEL d) with
        | 0 => h.frame.port == 0
        | 1 => h.frame.port == 1
        | 2 => true
        | _ => false)

/-- The message comes from slot `d`'s master (R35). -/
def State.fromMaster (s : State) (d : Fin 2) (h : PtpHdr) : Bool :=
  decide ((s.rd (A.WT_DOM_MASTER_ID0 d)).toNat * 2 ^ 32 + (s.rd (A.WT_DOM_MASTER_ID1 d)).toNat = h.clockId.toNat)
    && decide ((s.rd (A.WT_DOM_MASTER_PORT d)).toNat = h.portNum.toNat)

/-- Slot `d` takes a message that the hardware processes (R34, R35). DEDUCED, log 15. -/
def State.slotTakes (s : State) (d : Fin 2) (h : PtpHdr) : Bool := s.slotHears d h && s.fromMaster d h

/-- The slot holds the key under which the message's AUTHENTICATION TLV is valid (R39). DEDUCED, log 155. -/
def PtpSlot.authentic (x : PtpSlot) (h : PtpHdr) : Bool := match h.auth with | some k => x.keys.contains k | none => false

/-- Slot `d` discards the message for want of a valid AUTHENTICATION TLV (R39). -/
def State.slotRefuses (s : State) (d : Fin 2) (h : PtpHdr) : Bool :=
  s.flag (F.WT_DOM_CFG_REQUIRE_AUTH d) && !(s.slot d).authentic h

/-- The work on a message of the slots that `takes` names: a message without the AUTHENTICATION TLV that slot `d`
requires is discarded and counted (R39), any other goes to `f`. -/
def State.forSlots (s : State) (h : PtpHdr) (takes : State → Fin 2 → Bool) (f : State → Fin 2 → State) : State :=
  forAll (fins 2) s fun s d =>
    if takes s d then
      if s.slotRefuses d h then s.count (F.WT_DOM_STATUS_AUTH_FAIL d) else f s d
    else s

/-- correctionField in units of 2^-16 ns. -/
def ptpCorr (h : PtpHdr) : Int := h.corrField.toInt

/-! ### Arrival -/

/-- A PTP message arrives (R295, R297, R299, R301): through the MAC and classification, forwarded where it has a group
address, with an own IP destination address under UDP and room in the 16 KiB part, general messages too (R118, R124); `f` is
the device's own work on it. A frame that carries no PTP message falls under `Anything else`.
DEDUCED, log 48; DEDUCED, log 49; DESIGN CHOICE, log 219. -/
def State.ptpArrives (s : State) (h : PtpHdr) (k : State → FwdKind) (f : State → State) : Out :=
  let (own, s) := s.classify h.frame fun s => if isPtp h.frame then k s else .plain
  .next (
    if !own then s
    else if h.frame.dst.toNat = broadcastMac ∨ ¬ isPtp h.frame ∨ ¬ s.ownIp h.frame then s.filtered h.frame.port
    else if !s.partRoom h.frame true then s.noRoom h.frame.port
    else f s)

/-- An event message as the transparent clock forwards it (R37). -/
def ptpEvent (h : PtpHdr) (varLat : Nat) (s : State) : FwdKind :=
  .event h.corrField h.cksum (s.rxStamp h.frame.port varLat)

/-- Slot `d` asks for its path delay by the port that its Sync came by: a Delay_Req or a Pdelay_Req as DELAY_MECH says, one
after each valid Sync (R35, R36). DESIGN CHOICE, log 183. -/
def State.askDelay (s : State) (d : Fin 2) (p : PortId) : State :=
  let body := if s.flag (F.WT_DOM_CFG_DELAY_MECH d) then 54 else 44
  s.waitTx p { cls := 1, len := frameLen (ptpOverhead (s.get (F.WT_DOM_CFG_TRANSPORT d)) + body), what := .request d }

/-! ### The messages -/

/-- SYNC: forwarded where the device is a transparent clock (R37); of a slot that takes it, one-step Sync completes
the measurement, two-step Sync waits for its Follow_Up (R34, R40), and the slot asks for its path delay (R36).
DEDUCED, log 49. -/
def execSync (h : PtpHdr) (twoStep : Bool) (origin : Int) (varLat : Nat) (s : State) : Out :=
  s.ptpArrives h (ptpEvent h varLat) fun s =>
  let stamp := s.rxStamp h.frame.port varLat
  s.forSlots h (·.slotTakes · h) fun s d =>
    let p := s.slot d
    if p.lastSeq == some h.seq && s.get (F.WT_DOM_CFG_PORT_SEL d) == 2 then s
    else
      let s := s.setSlot d { p with lastSeq := some h.seq, lastSync := s.wt.cycle, synced := true, timedOut := false }
      let s := s.clr (F.WT_DOM_STATUS_TIMEOUT d)
      let s :=
        if twoStep then s.setSlot d { s.slot d with twoStep := some (h.seq, stamp, ptpCorr h) }
        else s.sample d (origin + ptpCorr h) stamp
      s.askDelay d h.frame.port

/-- FOLLOW_UP: completes the two-step measurement of its slot (R35); it passes unchanged between ports (R37). -/
def execFollowUp (h : PtpHdr) (origin : Int) (s : State) : Out :=
  s.ptpArrives h (fun _ => .plain) fun s => s.forSlots h (·.slotTakes · h) fun s d =>
    match (s.slot d).twoStep with
    | some (seq, stamp, corr) =>
      if seq == h.seq then
        (s.setSlot d { s.slot d with twoStep := none }).sample d (origin + corr + ptpCorr h) stamp
      else s
    | none => s

/-- DELAY_RESP: the end-to-end path delay from the last Sync and the slot's own Delay_Req, whose sequenceId it repeats and
whose transmit stamp is kept; `ours` says whether it names this device as the requester (R31, R35). DEDUCED, log 49. -/
def execDelayResp (h : PtpHdr) (ours : Bool) (receipt : Int) (s : State) : Out :=
  s.ptpArrives h (fun _ => .plain) fun s => s.forSlots h (·.slotTakes · h) fun s d =>
    if s.flag (F.WT_DOM_CFG_DELAY_MECH d) || !ours then s
    else
      match (s.slot d).lastSyncT, (s.slot d).reqSent with
      | some (t1, t2), some (seq, t3) =>
        if seq == h.seq then
          (s.setSlot d { s.slot d with reqSent := none }).setMpd d (((t2 - t1) + (receipt - ptpCorr h - t3)) / 2)
        else s
      | _, _ => s

/-- The first slot that takes a message and does not discard it; every one that discards it counts it (R39). -/
def State.firstSlot (s : State) (h : PtpHdr) (takes : State → Fin 2 → Bool) : Option (Fin 2) × State :=
  (fins 2).foldl (fun (r, s) d =>
    if takes s d then
      if s.slotRefuses d h then (r, s.count (F.WT_DOM_STATUS_AUTH_FAIL d)) else (r.or (some d), s)
    else (r, s)) (none, s)

/-- PDELAY_REQ: of the link partner that a slot listens to, answered on its own port with its turnaround in
correctionField (R35, R36); never forwarded (R38). DEDUCED, log 49. -/
def execPdelayReq (h : PtpHdr) (varLat : Nat) (s : State) : Out :=
  s.ptpArrives h (fun _ => .peer) fun s =>
  let (d, s) := s.firstSlot h (·.slotTakes · h)
  match d with
  | some d =>
    s.waitTx h.frame.port { cls := 1, len := frameLen (ptpOverhead (s.get (F.WT_DOM_CFG_TRANSPORT d)) + 54)
                            what := .pdelayResp h.domain h.seq h.clockId h.portNum h.corrField
                              (s.rxStamp h.frame.port varLat) }
  | none => s

/-- The transmit stamp of slot `d`'s last request, where a response with `seq` answers it (R31, R35). -/
def State.asked (s : State) (d : Fin 2) (seq : BitVec 16) : Option Int :=
  match (s.slot d).reqSent with
  | some (q, t1) => if q == seq then some t1 else none
  | none => none

/-- PDELAY_RESP: a one-step response to the slot's own Pdelay_Req gives the peer delay; a two-step response waits for its
Follow_Up (R35). -/
def execPdelayResp (h : PtpHdr) (ours twoStep : Bool) (t2 : Int) (varLat : Nat) (s : State) : Out :=
  s.ptpArrives h (fun _ => .peer) fun s => s.forSlots h (·.slotTakes · h) fun s d =>
    let t4 := s.rxStamp h.frame.port varLat
    if s.flag (F.WT_DOM_CFG_DELAY_MECH d) && ours then
      match s.asked d h.seq with
      | some t1 =>
        let s := s.setSlot d { s.slot d with reqSent := none }
        if twoStep then s.setSlot d { s.slot d with pdelay := some (h.seq, t1, t2, t4 - ptpCorr h) }
        else s.setMpd d ((t4 - t1 - ptpCorr h) / 2)
      | none => s
    else s

/-- PDELAY_RESP_FOLLOW_UP: completes a two-step peer-delay measurement (R35). -/
def execPdelayRespFollowUp (h : PtpHdr) (ours : Bool) (t3 : Int) (s : State) : Out :=
  s.ptpArrives h (fun _ => .peer) fun s => s.forSlots h (·.slotTakes · h) fun s d =>
    match (s.slot d).pdelay with
    | some (seq, t1, t2, t4) =>
      if seq == h.seq && ours then
        (s.setSlot d { s.slot d with pdelay := none }).setMpd d (((t4 - t1) - (t3 - t2) - ptpCorr h) / 2)
      else s
    | none => s

/-- ANNOUNCE: an Announce, Signaling or Management message of a domain that a slot listens to, from whatever master, is
placed in a receive buffer and passed to SQS with its slot, the first of two (R35, R308); too long, or without a free
buffer, it is dropped and counted. DEDUCED, log 15. -/
def execAnnounce (h : PtpHdr) (body : List Byte) (s : State) : Out :=
  s.ptpArrives h (fun _ => .plain) fun s =>
  let (d, s) := s.firstSlot h (·.slotHears · h)
  match d with
  | some d =>
    if 512 < body.length then s.countReg A.NET_MRX_DROP
    else
      match s.freeMrx with
      | some b => s.takeMrx b 1 h.frame.port { reply := none, opcode := 0, tag := 0 } body 0x21 d
      | none => s.countReg A.NET_MRX_DROP
  | none => s

end Sys2Proof.Machine
end

