-- ==== Sys2Proof/Machine/Dispatch.lean ====
section
/-!
DEFINITION. Sys2Proof/Machine/Dispatch.lean: one arm for every command, each one call of its meaning.
-/

namespace Sys2Proof.Machine

def exec (i : Instr) (s : State) : Host.Outcome State Fault Refusal :=
  match i with
  | .wallTimeTick => Sys2Proof.Machine.execWallTimeTick s
  | .snap => Sys2Proof.Machine.execSnap s
  | .snapshotReady => Sys2Proof.Machine.execSnapshotReady s
  | .sync h twoStep origin varLat => Sys2Proof.Machine.execSync h twoStep origin varLat s
  | .followUp h origin => Sys2Proof.Machine.execFollowUp h origin s
  | .delayResp h ours receipt => Sys2Proof.Machine.execDelayResp h ours receipt s
  | .pdelayReq h varLat => Sys2Proof.Machine.execPdelayReq h varLat s
  | .pdelayResp h ours twoStep t2 varLat => Sys2Proof.Machine.execPdelayResp h ours twoStep t2 varLat s
  | .pdelayRespFollowUp h ours t3 => Sys2Proof.Machine.execPdelayRespFollowUp h ours t3 s
  | .announce h body => Sys2Proof.Machine.execAnnounce h body s
  | .slotTimeout d => Sys2Proof.Machine.execSlotTimeout d s
  | .activeDom d => Sys2Proof.Machine.execActiveDom d s
  | .servoEn en => Sys2Proof.Machine.execServoEn en s
  | .holdoverExpired => Sys2Proof.Machine.execHoldoverExpired s
  | .dswSlewStart => Sys2Proof.Machine.execDswSlewStart s
  | .dswSlewEnd => Sys2Proof.Machine.execDswSlewEnd s
  | .cadenceWrite r v => Sys2Proof.Machine.execCadenceWrite r v s
  | .evtArm e v => Sys2Proof.Machine.execEvtArm e v s
  | .evtDisarm e v => Sys2Proof.Machine.execEvtDisarm e v s
  | .eventFire e => Sys2Proof.Machine.execEventFire e s
  | .pulseEnd e => Sys2Proof.Machine.execPulseEnd e s
  | .capture src rising => Sys2Proof.Machine.execCapture src rising s
  | .capPop => Sys2Proof.Machine.execCapPop s
  | .latch k bad => Sys2Proof.Machine.execLatch k bad s
  | .lineStart k m => Sys2Proof.Machine.execLineStart k m s
  | .teEdge n => Sys2Proof.Machine.execTeEdge n s
  | .teMissing n => Sys2Proof.Machine.execTeMissing n s
  | .scanStop n v => Sys2Proof.Machine.execScanStop n v s
  | .add q d a b => Sys2Proof.Machine.execAdd q d a b s
  | .sub q d a b => Sys2Proof.Machine.execSub q d a b s
  | .and q d a b => Sys2Proof.Machine.execAnd q d a b s
  | .or q d a b => Sys2Proof.Machine.execOr q d a b s
  | .xor q d a b => Sys2Proof.Machine.execXor q d a b s
  | .shl q d a b => Sys2Proof.Machine.execShl q d a b s
  | .shr q d a b => Sys2Proof.Machine.execShr q d a b s
  | .sar q d a b => Sys2Proof.Machine.execSar q d a b s
  | .mul q d a b => Sys2Proof.Machine.execMul q d a b s
  | .mov q d a => Sys2Proof.Machine.execMov q d a s
  | .addi q d a imm => Sys2Proof.Machine.execAddi q d a imm s
  | .andi q d a imm => Sys2Proof.Machine.execAndi q d a imm s
  | .ori q d a imm => Sys2Proof.Machine.execOri q d a imm s
  | .xori q d a imm => Sys2Proof.Machine.execXori q d a imm s
  | .shli q d a sh => Sys2Proof.Machine.execShli q d a sh s
  | .shri q d a sh => Sys2Proof.Machine.execShri q d a sh s
  | .sari q d a sh => Sys2Proof.Machine.execSari q d a sh s
  | .li q d imm => Sys2Proof.Machine.execLi q d imm s
  | .cmp q c a b => Sys2Proof.Machine.execCmp q c a b s
  | .cmpi q c a imm => Sys2Proof.Machine.execCmpi q c a imm s
  | .br q target => Sys2Proof.Machine.execBr q target s
  | .brP q target => Sys2Proof.Machine.execBrP q target s
  | .brNp q target => Sys2Proof.Machine.execBrNp q target s
  | .call q target => Sys2Proof.Machine.execCall q target s
  | .ret q => Sys2Proof.Machine.execRet q s
  | .ld q d a off bad => Sys2Proof.Machine.execLd q d a off bad s
  | .st q d a off => Sys2Proof.Machine.execSt q d a off s
  | .rd q g w => Sys2Proof.Machine.execRd q g w s
  | .wr q w g => Sys2Proof.Machine.execWr q w g s
  | .wri q w imm => Sys2Proof.Machine.execWri q w imm s
  | .rmw q w m g => Sys2Proof.Machine.execRmw q w m g s
  | .rdIndirect q d a => Sys2Proof.Machine.execRdIndirect q d a s
  | .wrIndirect q a d => Sys2Proof.Machine.execWrIndirect q a d s
  | .trd q t w => Sys2Proof.Machine.execTrd q t w s
  | .twr q w t => Sys2Proof.Machine.execTwr q w t s
  | .pop q d => Sys2Proof.Machine.execPop q d s
  | .popQ q g w => Sys2Proof.Machine.execPopQ q g w s
  | .push q w g => Sys2Proof.Machine.execPush q w g s
  | .droppkt q w => Sys2Proof.Machine.execDroppkt q w s
  | .tmov q d a => Sys2Proof.Machine.execTmov q d a s
  | .tadd q d a g => Sys2Proof.Machine.execTadd q d a g s
  | .taddi q d a imm => Sys2Proof.Machine.execTaddi q d a imm s
  | .tadds q d a imm => Sys2Proof.Machine.execTadds q d a imm s
  | .tsub q g a b => Sys2Proof.Machine.execTsub q g a b s
  | .tcmp q c a b => Sys2Proof.Machine.execTcmp q c a b s
  | .tget q g a p => Sys2Proof.Machine.execTget q g a p s
  | .tput q d g p => Sys2Proof.Machine.execTput q d g p s
  | .tline q d g1 g2 n => Sys2Proof.Machine.execTline q d g1 g2 n s
  | .tld q d g off bad => Sys2Proof.Machine.execTld q d g off bad s
  | .tst q a g off => Sys2Proof.Machine.execTst q a g off s
  | .waitT q t => Sys2Proof.Machine.execWaitT q t s
  | .waitL q k n => Sys2Proof.Machine.execWaitL q k n s
  | .waitE q => Sys2Proof.Machine.execWaitE q s
  | .fence q k m t => Sys2Proof.Machine.execFence q k m t s
  | .waitResume q => Sys2Proof.Machine.execWaitResume q s
  | .fenceResume q => Sys2Proof.Machine.execFenceResume q s
  | .armT q t a => Sys2Proof.Machine.execArmT q t a s
  | .armL q k n a => Sys2Proof.Machine.execArmL q k n a s
  | .disarm q a => Sys2Proof.Machine.execDisarm q a s
  | .alarm q a => Sys2Proof.Machine.execAlarm q a s
  | .commit q mask => Sys2Proof.Machine.execCommit q mask s
  | .event q data dest g code => Sys2Proof.Machine.execEvent q data dest g code s
  | .halt q => Sys2Proof.Machine.execHalt q s
  | .nop q => Sys2Proof.Machine.execNop q s
  | .readReturn q => Sys2Proof.Machine.execReadReturn q s
  | .postedWriteDrain q n => Sys2Proof.Machine.execPostedWriteDrain q n s
  | .goWriteComplete q => Sys2Proof.Machine.execGoWriteComplete q s
  | .wdog q => Sys2Proof.Machine.execWdog q s
  | .start q v => Sys2Proof.Machine.execStart q v s
  | .seqHalt q v => Sys2Proof.Machine.execSeqHalt q v s
  | .post m q v => Sys2Proof.Machine.execPost m q v s
  | .whistleWrite m off v => Sys2Proof.Machine.execWhistleWrite m off v s
  | .bundleLoadDone => Sys2Proof.Machine.execBundleLoadDone s
  | .imemRetry q again => Sys2Proof.Machine.execImemRetry q again s
  | .fifoPop m a => Sys2Proof.Machine.execFifoPop m a s
  | .dropWindowWrite m a => Sys2Proof.Machine.execDropWindowWrite m a s
  | .geoWindowLowWrite m x v => Sys2Proof.Machine.execGeoWindowLowWrite m x v s
  | .geoWindowHighWrite m x v => Sys2Proof.Machine.execGeoWindowHighWrite m x v s
  | .geoLoad v => Sys2Proof.Machine.execGeoLoad v s
  | .geoLoadDone => Sys2Proof.Machine.execGeoLoadDone s
  | .patch p => Sys2Proof.Machine.execPatch p s
  | .fencePacket p => Sys2Proof.Machine.execFencePacket p s
  | .fenceComplete f => Sys2Proof.Machine.execFenceComplete f s
  | .gapExpiry f => Sys2Proof.Machine.execGapExpiry f s
  | .flowStateWrite m f v => Sys2Proof.Machine.execFlowStateWrite m f v s
  | .arenaBaseWrite n v => Sys2Proof.Machine.execArenaBaseWrite n v s
  | .historyWindowSwitch x => Sys2Proof.Machine.execHistoryWindowSwitch x s
  | .patchComplete x => Sys2Proof.Machine.execPatchComplete x s
  | .synGo n v => Sys2Proof.Machine.execSynGo n v s
  | .synLineStart n perr fails corr lut stall => Sys2Proof.Machine.execSynLineStart n perr fails corr lut stall s
  | .synLineComplete n => Sys2Proof.Machine.execSynLineComplete n s
  | .composeLine n lut bad corr => Sys2Proof.Machine.execComposeLine n lut bad corr s
  | .overlayRowRead n o => Sys2Proof.Machine.execOverlayRowRead n o s
  | .mapStreamFetch n => Sys2Proof.Machine.execMapStreamFetch n s
  | .lutWrite n x b ch y v => Sys2Proof.Machine.execLutWrite n x b ch y v s
  | .muzzleForce v => Sys2Proof.Machine.execMuzzleForce v s
  | .muzzlePinSense low => Sys2Proof.Machine.execMuzzlePinSense low s
  | .tplStart x v => Sys2Proof.Machine.execTplStart x v s
  | .tplStop x v => Sys2Proof.Machine.execTplStop x v s
  | .tplDetectDone x det => Sys2Proof.Machine.execTplDetectDone x det s
  | .backChannelLock x => Sys2Proof.Machine.execBackChannelLock x s
  | .tplStageTimeout x => Sys2Proof.Machine.execTplStageTimeout x s
  | .status x msg recovered => Sys2Proof.Machine.execStatus x msg recovered s
  | .caps x msg nc => Sys2Proof.Machine.execCaps x msg nc s
  | .laneFail x msg => Sys2Proof.Machine.execLaneFail x msg s
  | .swapAlignEnd x => Sys2Proof.Machine.execSwapAlignEnd x s
  | .rotationStep x => Sys2Proof.Machine.execRotationStep x s
  | .dwellEnd x => Sys2Proof.Machine.execDwellEnd x s
  | .tplLinkDown x => Sys2Proof.Machine.execTplLinkDown x s
  | .stayCdicAck => Sys2Proof.Machine.execStayCdicAck s
  | .portLinkChange p lock align fec hiBer => Sys2Proof.Machine.execPortLinkChange p lock align fec hiBer s
  | .macControlFrame f => Sys2Proof.Machine.execMacControlFrame f s
  | .arpRequest f v6 target => Sys2Proof.Machine.execArpRequest f v6 target s
  | .transitFrame f e => Sys2Proof.Machine.execTransitFrame f e s
  | .mgmtRead p => Sys2Proof.Machine.execMgmtRead p s
  | .mgmtWrite p => Sys2Proof.Machine.execMgmtWrite p s
  | .mgmtRmw p => Sys2Proof.Machine.execMgmtRmw p s
  | .programMessage p => Sys2Proof.Machine.execProgramMessage p s
  | .mrxFree v => Sys2Proof.Machine.execMrxFree v s
  | .mreply v => Sys2Proof.Machine.execMreply v s
  | .nbrStart p => Sys2Proof.Machine.execNbrStart p s
  | .nbrStop p => Sys2Proof.Machine.execNbrStop p s
  | .nbrStageTimeout p => Sys2Proof.Machine.execNbrStageTimeout p s
  | .nbrCaps p b => Sys2Proof.Machine.execNbrCaps p b s
  | .credit p b => Sys2Proof.Machine.execCredit p b s
  | .sleep p => Sys2Proof.Machine.execSleep p s
  | .sleepIdleTimeout p => Sys2Proof.Machine.execSleepIdleTimeout p s
  | .nbrLaneLockLoss p lane => Sys2Proof.Machine.execNbrLaneLockLoss p lane s
  | .strip p r => Sys2Proof.Machine.execStrip p r s
  | .nbrFenceFrame p r => Sys2Proof.Machine.execNbrFenceFrame p r s
  | .nbrFenceComplete p => Sys2Proof.Machine.execNbrFenceComplete p s
  | .metric p r => Sys2Proof.Machine.execMetric p r s
  | .dflJobPush m v => Sys2Proof.Machine.execDflJobPush m v s
  | .jobStart u => Sys2Proof.Machine.execJobStart u s
  | .jobComplete u => Sys2Proof.Machine.execJobComplete u s
  | .cplPop => Sys2Proof.Machine.execCplPop s
  | .bltGo n v => Sys2Proof.Machine.execBltGo n v s
  | .bltRowWritten n => Sys2Proof.Machine.execBltRowWritten n s
  | .csiFrameStart p ecc vc number => Sys2Proof.Machine.execCsiFrameStart p ecc vc number s
  | .csiLine p l rows tone => Sys2Proof.Machine.execCsiLine p l rows tone s
  | .csiFrameEnd p ecc vc number => Sys2Proof.Machine.execCsiFrameEnd p ecc vc number s
  | .camFrame c tone => Sys2Proof.Machine.execCamFrame c tone s
  | .dramInit n v => Sys2Proof.Machine.execDramInit n v s
  | .dramInitDone n => Sys2Proof.Machine.execDramInitDone n s
  | .resume n v => Sys2Proof.Machine.execResume n v s
  | .resumeDone n => Sys2Proof.Machine.execResumeDone n s
  | .selfRefreshEntry n => Sys2Proof.Machine.execSelfRefreshEntry n s
  | .dramReadRequest n a err => Sys2Proof.Machine.execDramReadRequest n a err s
  | .dramWriteRequest n by_ a en data => Sys2Proof.Machine.execDramWriteRequest n by_ a en data s
  | .refreshSlot n mrr => Sys2Proof.Machine.execRefreshSlot n mrr s
  | .refUnaligned n => Sys2Proof.Machine.execRefUnaligned n s
  | .mrw n v => Sys2Proof.Machine.execMrw n v s
  | .mrrReq n v => Sys2Proof.Machine.execMrrReq n v s
  | .calGo n v => Sys2Proof.Machine.execCalGo n v s
  | .sweepDone n errs now => Sys2Proof.Machine.execSweepDone n errs now s
  | .hold n v => Sys2Proof.Machine.execHold n v s
  | .holdActive n => Sys2Proof.Machine.execHoldActive n s
  | .holdRelease n v => Sys2Proof.Machine.execHoldRelease n v s
  | .holdExpired n => Sys2Proof.Machine.execHoldExpired n s
  | .calRxGo v => Sys2Proof.Machine.execCalRxGo v s
  | .nbrScanStart => Sys2Proof.Machine.execNbrScanStart s
  | .rxScanDone phase thr => Sys2Proof.Machine.execRxScanDone phase thr s
  | .xfer p => Sys2Proof.Machine.execXfer p s
  | .xferTimeout x id => Sys2Proof.Machine.execXferTimeout x id s
  | .submit p => Sys2Proof.Machine.execSubmit p s
  | .sessionRequest => Sys2Proof.Machine.execSessionRequest s
  | .bundleSubmit => Sys2Proof.Machine.execBundleSubmit s
  | .unlock => Sys2Proof.Machine.execUnlock s
  | .svnRaise => Sys2Proof.Machine.execSvnRaise s
  | .ownerRotate => Sys2Proof.Machine.execOwnerRotate s
  | .attestReq p weak => Sys2Proof.Machine.execAttestReq p weak s
  | .challenge p => Sys2Proof.Machine.execChallenge p s
  | .keyUpdate p => Sys2Proof.Machine.execKeyUpdate p s
  | .keyPhaseErase x => Sys2Proof.Machine.execKeyPhaseErase x s
  | .keyInstall p => Sys2Proof.Machine.execKeyInstall p s
  | .rxKeyExpiry p => Sys2Proof.Machine.execRxKeyExpiry p s
  | .sessionClose p => Sys2Proof.Machine.execSessionClose p s
  | .flashWrite p flashOk => Sys2Proof.Machine.execFlashWrite p flashOk s
  | .brdStatus args => Sys2Proof.Machine.execBrdStatus args s
  | .brdTemp args => Sys2Proof.Machine.execBrdTemp args s
  | .brdReset args b => Sys2Proof.Machine.execBrdReset args b s
  | .brdChallenge args => Sys2Proof.Machine.execBrdChallenge args s
  | .tokenLoad args => Sys2Proof.Machine.execTokenLoad args s
  | .tokenSubmit args => Sys2Proof.Machine.execTokenSubmit args s
  | .provision args => Sys2Proof.Machine.execProvision args s
  | .regRead args => Sys2Proof.Machine.execRegRead args s
  | .regWrite args => Sys2Proof.Machine.execRegWrite args s
  | .thermalRound smp => Sys2Proof.Machine.execThermalRound smp s
  | .thermalRoundEnd r => Sys2Proof.Machine.execThermalRoundEnd r s
  | .release v => Sys2Proof.Machine.execRelease v s
  | .vcoStep pll => Sys2Proof.Machine.execVcoStep pll s
  | .bistSlot => Sys2Proof.Machine.execBistSlot s
  | .sliceTestDone fails => Sys2Proof.Machine.execSliceTestDone fails s
  | .overrun => Sys2Proof.Machine.execOverrun s
  | .enter v => Sys2Proof.Machine.execEnter v s
  | .exit v => Sys2Proof.Machine.execExit v s
  | .kennelReloadDone => Sys2Proof.Machine.execKennelReloadDone s
  | .powerOnReset b => Sys2Proof.Machine.execPowerOnReset b s
  | .systemReset b => Sys2Proof.Machine.execSystemReset b s
  | .warm v => Sys2Proof.Machine.execWarm v s
  | .refclkLoss c => Sys2Proof.Machine.execRefclkLoss c s
  | .refclkReturn b => Sys2Proof.Machine.execRefclkReturn b s
  | .stay v => Sys2Proof.Machine.execStay v s
  | .stayEntered => Sys2Proof.Machine.execStayEntered s
  | .wake v => Sys2Proof.Machine.execWake v s
  | .wakeTime => Sys2Proof.Machine.execWakeTime s
  | .pwrOk rows => Sys2Proof.Machine.execPwrOk rows s
  | .ctxRestoreDone => Sys2Proof.Machine.execCtxRestoreDone s
  | .pwrPnlWrite v pg => Sys2Proof.Machine.execPwrPnlWrite v pg s
  | .pgTimeout n => Sys2Proof.Machine.execPgTimeout n s
  | .pgLost n => Sys2Proof.Machine.execPgLost n s
  | .unmappedAccess m a write v => Sys2Proof.Machine.execUnmappedAccess m a write v s
  | .registerWrite m a v => Sys2Proof.Machine.execRegisterWrite m a v s
  | .peerReceiversDetected p lanes => Sys2Proof.Machine.execPeerReceiversDetected p lanes s
  | .nbrReceiverLock p lanes refBad => Sys2Proof.Machine.execNbrReceiverLock p lanes refBad s
  | .apronStripSendEnd p => Sys2Proof.Machine.execApronStripSendEnd p s

end Sys2Proof.Machine
end

