-- ==== Sys2Proof/Machine/Tap.lean ====
section
/-!
DEFINITION. Sys2Proof/Machine/Tap.lean: boundary scan (R539): the TAP controller, its instructions while locked and
unlocked, IDCODE, the boundary cells and what the TAP makes of a ball. The opcode table has no row for JTAG_TCK, so the
periods of that clock wait in the state and a step on an empty queue takes them (log 200).
-/

namespace Sys2Proof.Machine

/-! ## Boundary cells -/

/-- The direction of a ball (R529, R530). -/
inductive BallDir
  | input | output | both | openDrain
deriving DecidableEq, Repr

/-- The direction of LVCMOS signal `k` (R530). -/
def lvcmosDir (k : Nat) : BallDir :=
  if k == 25 || k == 58 then .openDrain
  else if (30 ≤ k && k ≤ 37) || 61 ≤ k then .both
  else if k == 5 || k == 6 || (7 ≤ k && k ≤ 14) || k == 19 || k == 24 || k == 26 || k == 27 || k == 29
      || (38 ≤ k && k ≤ 45) || (50 ≤ k && k ≤ 53) || k == 59 || k == 60 then .output
  else .input

/-- The direction of LPDDR5X ball `j` of a channel, in the signal order of R527: CK, WCK, RDQS, CA with CS and RESET_N, DQ,
DMI (R529). -/
def lpddrDir (j : Nat) : BallDir :=
  if j < 6 then .output else if j < 10 then .input else if j < 19 then .output else .both

/-- The direction of the ball of boundary cell `i`: the 76 LVCMOS balls in the order of R530, then the 37 LPDDR5X balls of
each channel, Q0 to Q3, channel 0 first. The order along the register is the model's: DESIGN CHOICE, log 200. -/
def cellDir (i : Nat) : BallDir := if i < 76 then lvcmosDir (i + 1) else lpddrDir ((i - 76) % 37)

/-- The cell of JTAG_TDO, which the TAP itself drives. -/
def tdoCell : Nat := 18

/-! ## Instructions and registers -/

/-- IDCODE of B0: version 0xB, part 0x7128, manufacturer code 0x3A5, bit 0 a one (R539). -/
def tapIdcode : BitVec 32 := 0xB712874B

/-- Boundary scan is open: an UNLOCK has opened it (R445), or the firmware of the root of trust has not started (R420).
DEDUCED, log 154. -/
def State.tapOpen (s : State) : Bool := s.flag F.SEC_STATUS_JTAG_OPEN || decide (s.get F.BRD_STATUS_STAGE < 2)

/-- The instruction that acts: every one but IDCODE is BYPASS while the TAP is locked (R539, R445). -/
def State.tapActs (s : State) : TapInstr :=
  if s.tap.instr = .idcode then .idcode else if s.tapOpen then s.tap.instr else .bypass

/-- The bits of a vector, bit 0 first. -/
def bitList {w : Nat} (v : BitVec w) : List Bool := (List.range w).map v.getLsbD

/-- The instruction register's length. -/
def tapIrLength : Nat := Config.tapMore + 2

/-- The instruction of a code: all ones is BYPASS, and so is a code that stands for none (IEEE 1149.1). -/
def tapDecode (code : List Bool) : TapInstr :=
  if code.all id then .bypass
  else if code = Config.tapCode 0 then .idcode
  else if code = Config.tapCode 1 then .samplePreload
  else if code = Config.tapCode 2 then .extest
  else if code = Config.tapCode 3 then .highz
  else if code = Config.tapCode 4 then .clamp
  else .bypass

/-- What the selected data register captures: the identity, the levels at the balls, or the 0 of the bypass bit. -/
def State.tapCaptured (s : State) (balls : BitVec 372) : List Bool :=
  match s.tapActs with
  | .idcode => bitList tapIdcode
  | .samplePreload | .extest => bitList balls
  | .bypass | .highz | .clamp => [false]

/-- The code that the instruction register captures: 1 in its least significant bit, 0 in the next. -/
def tapIrCaptured : List Bool := true :: false :: (Config.tapCapture ++ List.replicate Config.tapMore false).take Config.tapMore

/-! ## The controller -/

/-- The controller's next state at JTAG_TMS (IEEE 1149.1). -/
def tapNext (c : TapCtl) (tms : Bool) : TapCtl :=
  match c with
  | .testLogicReset => if tms then .testLogicReset else .runTestIdle
  | .runTestIdle => if tms then .selectDr else .runTestIdle
  | .selectDr => if tms then .selectIr else .captureDr
  | .captureDr => if tms then .exit1Dr else .shiftDr
  | .shiftDr => if tms then .exit1Dr else .shiftDr
  | .exit1Dr => if tms then .updateDr else .pauseDr
  | .pauseDr => if tms then .exit2Dr else .pauseDr
  | .exit2Dr => if tms then .updateDr else .shiftDr
  | .updateDr => if tms then .selectDr else .runTestIdle
  | .selectIr => if tms then .testLogicReset else .captureIr
  | .captureIr => if tms then .exit1Ir else .shiftIr
  | .shiftIr => if tms then .exit1Ir else .shiftIr
  | .exit1Ir => if tms then .updateIr else .pauseIr
  | .pauseIr => if tms then .exit2Ir else .pauseIr
  | .exit2Ir => if tms then .updateIr else .shiftIr
  | .updateIr => if tms then .selectDr else .runTestIdle

/-- What the rising edge does in the present state: capture, or one shift towards JTAG_TDO. -/
def State.tapEdge (s : State) (k : TapClock) : List Bool :=
  match s.tap.ctl with
  | .captureDr => s.tapCaptured k.balls
  | .captureIr => tapIrCaptured
  | .shiftDr | .shiftIr => s.tap.shift.drop 1 ++ [k.tdi]
  | _ => s.tap.shift

/-- A vector of a list of bits, the first in bit 0. -/
def vectorOf (w : Nat) (l : List Bool) : BitVec w := BitVec.ofNat w (l.foldr (fun b a => 2 * a + b.toNat) 0)

/-- The TAP after one period of JTAG_TCK: JTAG_TRST_N low resets it; else the edge acts, the controller moves, and the
state it comes to updates the instruction or the held levels and drives JTAG_TDO in the shift states (R539). -/
def State.tapClock (s : State) (k : TapClock) : State :=
  let t := s.tap
  if !k.trstN then { s with tap := { t with ctl := .testLogicReset, instr := .idcode, tdo := none } }
  else
    let shift := s.tapEdge k
    let ctl := tapNext t.ctl k.tms
    let instr := match ctl with | .testLogicReset => .idcode | .updateIr => tapDecode shift | _ => t.instr
    let held := match ctl, s.tapActs with
      | .updateDr, .samplePreload | .updateDr, .extest => vectorOf 372 shift
      | _, _ => t.held
    let tdo := match ctl with | .shiftDr | .shiftIr => shift.head? | _ => none
    { s with tap := { t with ctl := ctl, instr := instr, shift := shift, held := held, tdo := tdo } }

/-- The TAP takes the oldest period that waits; with none it keeps its state. -/
def State.tapStep (s : State) : State :=
  match s.tap.clocks with
  | [] => s
  | k :: rest => { s with tap := { s.tap with clocks := rest } }.tapClock k

/-! ## The balls -/

/-- What the TAP makes of the ball of cell `i`: nothing, and the device's own logic drives it; no drive at all; or the
held level. An open-drain ball is driven low or released. R539; the one cell a ball has holds its level (log 200). -/
def State.tapBall (s : State) (i : Nat) : Option (Option Bool) :=
  if i = tdoCell then none
  else match s.tapActs, cellDir i with
    | _, .input => none
    | .highz, _ => some none
    | .extest, .openDrain | .clamp, .openDrain => some (if s.tap.held.getLsbD i then none else some false)
    | .extest, _ | .clamp, _ => some (some (s.tap.held.getLsbD i))
    | _, _ => none

end Sys2Proof.Machine
end

