-- ==== Sys2Proof/Machine/Idle.lean ====
section
/-!
DEFINITION. Sys2Proof/Machine/Idle.lean: what a step on an empty queue takes: what the board puts on balls for which the
opcode table has no row (log 200).
-/

namespace Sys2Proof.Machine

/-- The next levels of PNL_PG that the board puts on the balls, where any wait (R493). DESIGN CHOICE, log 132. -/
def State.pgStep (s : State) : State :=
  match s.power.pgWire with
  | [] => s
  | pg :: rest => { s with power := { s.power with pgWire := rest } }.pnlLevels pg

/-- The board port takes the oldest transaction that waits (R537). -/
def State.wireStep (s : State) : Out :=
  match s.board.wire with
  | [] => .next s
  | t :: rest => { s with board := { s.board with wire := rest } }.transaction t

/-- A step on an empty queue: the TAP takes a period of JTAG_TCK, PNL_PG takes its next levels and the board port a
transaction, each where one waits; with none the device idles. DESIGN CHOICE, log 200. -/
def State.idle (s : State) : Out := s.tapStep.pgStep.wireStep

end Sys2Proof.Machine
end

