-- ==== Sys2Proof/Machine/RowPins.lean ====
section
/-!
DEFINITION. Sys2Proof/Machine/RowPins.lean: the levels of the row timing balls ROW_STV, ROW_CK[5:0] and ROW_EN at the
present wall time (R244 to R246). No register reports them; they follow from the cadence, the timing-class registers
and the scan states.
-/

namespace Sys2Proof.Machine

/-- The row timing pins run: some quadrant is RUNNING or STOPPING (R246). -/
def State.rowPinsRun (s : State) : Bool :=
  s.cadenceOk && allQuads.any fun n => match (s.scan[n]).run with | .running => true | .stopping => true | _ => false

/-- Wall time less D_ROW, in units of 2^-16 ns: the instant at which the row now written was sent (R244). -/
def State.rowTime (s : State) : Int := (s.wall16 : Int) - s.get F.SCAN_ROWDLY_DLY * 65536

/-- The number of the row slot in progress, lines counted from L(0, 0) without regard to frames. -/
def State.rowLine (s : State) : Int :=
  let e : Int := (s.cadEpoch : Int) * secUnits
  let m := ((s.rowTime - e) * s.cadQ * s.vTotal) / ((s.cadP * secUnits : Nat) : Int)
  if s.lineAt 0 (m + 1) ≤ s.rowTime then m + 1 else m

/-- The line of the row slot in progress within its frame. -/
def State.rowOfFrame (s : State) : Nat := (s.rowLine % s.vTotal).toNat

/-- The row slot in progress is that of an active line, and lies from `lo` to below `hi` nanoseconds after its start. -/
def State.rowWindow (s : State) (lo hi : Nat) : Bool :=
  let x := s.rowTime - s.lineAt 0 s.rowLine
  decide (s.rowOfFrame < s.vActive) && decide ((lo : Int) * 65536 ≤ x) && decide (x < (hi : Int) * 65536)

/-- A pin that is active or not, as a level: active low where its bit of ROW_POL is 1 (R245). -/
def State.pinLevel (s : State) (pol : Fld) (active : Bool) : Bool := active != s.flag pol

/-- ROW_STV: active for WIDTH ns from OFS ns after the row slot of line 0 starts (R245). DEDUCED, log 82. -/
def State.rowStv (s : State) : Bool :=
  let k := s.rowLine / s.vTotal
  let ofs : Int := signed 16 (s.get F.ROW_STV_CFG_OFS) * 65536
  let width : Int := s.get F.ROW_STV_CFG_WIDTH * 65536
  let active (k : Int) : Bool :=
    decide (s.frameAt k + ofs ≤ s.rowTime) && decide (s.rowTime < s.frameAt k + ofs + width)
  s.pinLevel F.ROW_POL_STV (s.rowPinsRun && (active k || active (k + 1)))

/-- ROW_CK[i]: active in the row slots of the active lines n with n mod NPHASE = i, from RISE for WIDTH ns (R245).
DEDUCED, log 82. -/
def State.rowCk (s : State) (i : Fin 6) : Bool :=
  let rise := s.get F.ROW_CK_CFG_RISE
  s.pinLevel F.ROW_POL_CK (s.rowPinsRun && decide (s.rowOfFrame % s.get F.ROW_CK_CFG_NPHASE = i.val)
    && s.rowWindow rise (rise + s.get F.ROW_CK_CFG_WIDTH))

/-- ROW_EN: active in the row slot of every active line from RISE to FALL (R245). DEDUCED, log 82. -/
def State.rowEn (s : State) : Bool :=
  s.pinLevel F.ROW_POL_EN (s.rowPinsRun && s.rowWindow (s.get F.ROW_EN_CFG_RISE) (s.get F.ROW_EN_CFG_FALL))

end Sys2Proof.Machine
end

