-- ==== Sys2Proof/Safety.lean ====
section
/-!
DEFINITION. Sys2Proof/Safety.lean: what a run keeps, in the terms that claims use: the canonical form of every
store, which parts of the state a command leaves alone, what an event does, and when a sequencer issues an
instruction.
-/

namespace Sys2Proof.Machine

/-! ### Canonical form -/

/-- A sequencer's memories are in canonical form. -/
def Seq.wf (c : Seq) : Bool := sparseWf (fun _ => 0) c.imem && sparseWf (fun _ => 0) c.dmem

/-- Every store of the state is in canonical form: keys strictly rising, and no entry equal to what an unlisted key
reads as. Equal contents are then equal data. -/
def State.wf (s : State) : Bool :=
  sparseWf resetWord s.regs && sparseWf resetWord s.live && sparseWf (fun _ => {}) s.sess
    && sparseWf (fun _ => 0) s.ing.scene && sparseWf (fun _ => 0) s.ing.hpos && sparseWf (fun _ => 0) s.ing.kinds
    && sparseWf (fun _ => 0xFF) s.rot.flash && sparseWf (fun _ => 0) s.rot.window
    && (fins 5).all (fun q => (s.seq q).wf) && allQuads.all (fun n => sparseWf (fun _ => 0) (s.dr n).mem)

/-! ### Frames -/

/-- Every register keeps its word, but for those at the addresses `l`. -/
def RegsKept (l : List Nat) (s t : State) : Prop := ∀ a, a ∉ l → t.rd a = s.rd a

/-- Nothing but registers changes, and what the present core cycle notes of its own accesses and sets (R68, R513), not
what it began with (R516). -/
def OnlyCycle (s t : State) : Prop := t = { s with regs := t.regs, bus := t.bus } ∧ t.bus.before = s.bus.before

/-- Nothing but registers changes, and of those only the ones at the addresses `l`. -/
def OnlyRegs (l : List Nat) (s t : State) : Prop := OnlyCycle s t ∧ RegsKept l s t

/-- Nothing but registers changes, of those only the ones at the addresses `l`, and the record of the accesses of this
core cycle with the shadow words that a latch yet to be taken will take (R21, R68). -/
def Written (l : List Nat) (s t : State) : Prop :=
  t = { s with regs := t.regs, bus := t.bus, frame := { s.frame with keep := t.frame.keep } } ∧
    t.bus.before = s.bus.before ∧ RegsKept l s t

/-- No timed-event slot has placed a level on a TGPIO ball in this core cycle, where `r` is their register (R535). -/
def Undriven (r : Nat) (s : State) : Prop := r = A.GPIO_OUT → s.hitsAt r = []

/-- No write of this core cycle that comes later in the order of R68, or the other way (case U04), has reached the
register at `r` before a write of `m` at byte address `a`, nor a slot's edge that stands against it (R535). -/
def Unopposed (m : Master) (a r : Nat) (s : State) : Prop :=
  (∀ b ∈ s.cycleWrites (bankedAddr m r), b.rank ≤ masterRank m ∧ (b.whistle = inWhistle a ∨ b.rank = masterRank m)) ∧
    Undriven r s

/-- The whole register at `a`, as a field. -/
def whole (a : Nat) : Fld := ⟨a, 0, 32⟩

/-- Every bit of every register keeps its value, but for those of the fields `l`. -/
def BitsKept (l : List Fld) (s t : State) : Prop :=
  ∀ a i, i < 32 → (∀ f ∈ l, f.addr = a → i < f.lo ∨ f.lo + f.w ≤ i) → (t.rd a).getLsbD i = (s.rd a).getLsbD i

/-- Nothing but registers changes, and of those only bits of the fields `l`. -/
def OnlyBits (l : List Fld) (s t : State) : Prop := OnlyCycle s t ∧ BitsKept l s t

/-- Nothing changes but sequencer `q`. -/
def OnlySeq (q : SeqId) (s t : State) : Prop := t = s.setSeq q (t.seq q)

/-- What a push of an event into sequencer `q`'s queue does (R82, R83): with room, its entry is the newest, with the
wall time of the push; without, it is discarded and counted, and kept as long as its core cycle lasts (R81). No other
sequencer changes. -/
def Told (q : SeqId) (source code : Nat) (late : Bool) (data : Nat) (s t : State) : Prop :=
  (∀ r, r ≠ q → t.seq r = s.seq r) ∧
  if (s.seq q).queue.length < 256 then
    t.seq q = { s.seq q with queue := (s.seq q).queue ++
      [⟨BitVec.ofNat 8 source, BitVec.ofNat 8 code, late, BitVec.ofNat 32 data,
        BitVec.ofNat 32 (s.wallNs / 1000000000), BitVec.ofNat 32 (s.wallNs % 1000000000), some s.wt.cycle⟩] }
      ∧ t.rd (A.SEQ_EVQ_STATUS q) = s.rd (A.SEQ_EVQ_STATUS q)
  else t.seq q = { s.seq q with lost := (t.seq q).lost }
      ∧ t.get (F.SEQ_EVQ_STATUS_OVERFLOW q) = min (s.get (F.SEQ_EVQ_STATUS_OVERFLOW q) + 1) 65535

/-- An event pushed to the sequencer of quadrant `n` and then to SQS. -/
def ToldBoth (n : QuadId) (source code data : Nat) (s t : State) : Prop :=
  let q : SeqId := ⟨n.val, by omega⟩
  ∃ u : State, u.wt = s.wt ∧ Told q source code false data s u ∧ u.rd (A.SEQ_EVQ_STATUS 4) = s.rd (A.SEQ_EVQ_STATUS 4) ∧
    Told 4 source code false data u t ∧ t.rd (A.SEQ_EVQ_STATUS q) = u.rd (A.SEQ_EVQ_STATUS q)

/-- The counts of events lost by the sequencer of quadrant `n` and by SQS. -/
def evqFields (n : QuadId) : List Fld := [F.SEQ_EVQ_STATUS_OVERFLOW n.val, F.SEQ_EVQ_STATUS_OVERFLOW 4]

/-- The registers of lane group `g` of quadrant `n` that the device itself writes. -/
def groupFields (n : QuadId) (g : Fin 4) : List Fld :=
  [F.TPL_CTRL_AUTO n g, F.TPL_CTRL_ROT_EN n g, whole (A.TPL_STATUS n g), whole (A.TPL_MAP n g), whole (A.TPL_FLAGS n g),
    whole (A.TPL_CAPS n g), whole (A.TPL_CRCERR n g), whole (A.TPL_SWAPS n g)]
    ++ (List.range 7).map fun p => whole (A.TPL_PRBS n g p)

/-! ### Plain registers -/

/-- A write to the register at `r`, of row `row`, changes no more than the register, and every writable bit of it is a
plain RW or RWS bit. -/
def PlainReg (r : Nat) (row : RegRow) : Prop :=
  regRow r = some row ∧ writeTo r = .plain ∧ r ≠ A.PWR_CTRL ∧ r ≠ A.PWR_PNL ∧ row.rwl = 0 ∧ row.w1c = 0 ∧ row.ctr = []

/-- What a register of row `row` with plain bits alone holds after a write of `v`: its writable bits those of `v`, its
other bits as they were (R8, R9). -/
def written (row : RegRow) (old v : Word) : Word :=
  (old &&& ~~~BitVec.ofNat 32 (row.rw ||| row.rws)) ||| (v &&& BitVec.ofNat 32 (row.rw ||| row.rws))

/-! ### PTP messages -/

/-- A frame with a PTP message, to the transparent clock of kind `k`, comes through the MAC, classification and the ingress
packet buffer to the device, which does not forward it (R34, R124, R295, R297, R299, R301, R304). -/
def HeardPtp (f : NetFrame) (k : FwdKind) (s : State) : Prop :=
  s.portUp f.port = true ∧ s.scannedLane f.port = none ∧ badFrame f = false ∧ isPtp f = true ∧ s.isTransit f = false ∧
    f.dst.toNat ≠ broadcastMac ∧ s.ownIp f = true ∧ s.partRoom f true = true ∧
    (isGroupMac f.dst.toNat && s.forwards f k) = false

/-- A PTP message that reaches the device and that slot `d` alone takes, without an authentication that it would have to
pass (R34, R35, R39). -/
def TakenBy (d : Fin 2) (h : PtpHdr) (k : FwdKind) (s : State) : Prop :=
  HeardPtp h.frame k s ∧ s.slotTakes d h = true ∧
    (∀ e, e ≠ d → s.slotTakes e h = false) ∧ s.flag (F.WT_DOM_CFG_REQUIRE_AUTH d) = false

/-! ### Rekin packets -/

/-- A frame with a Rekin packet comes through the MAC, classification and the ingress packet buffer with a header that
passes, outside Stay (R124, R152, R154, R295, R297, R304, R413). -/
def Heard (p : RknPkt) (s : State) : Prop :=
  s.portUp p.frame.port = true ∧ s.scannedLane p.frame.port = none ∧ badFrame p.frame = false ∧
    s.isTransit p.frame = false ∧ p.frame.dst.toNat ≠ broadcastMac ∧ s.rknEncap p.frame = true ∧
    s.ownIp p.frame = true ∧ s.partRoom p.frame ((rknHdr p).typ == 3) = true ∧ encapFrag p.frame.encap = false ∧
    s.inStay = false ∧ rknHeaderOk p = true

/-- The packet is the next one of an ACTIVE flow that holds none, of a TYPE its KIND allows, its flow context reads well,
and its tag verifies and leaves `m` in the clear (R155, R160, R163, R477). -/
def InSequence (p : RknPkt) (m : RknMsg) (s : State) : Prop :=
  let h := rknHdr p
  let f := h.flow.toNat
  s.power.restoring = false ∧ p.perr = false ∧ s.flowState f = 1 ∧
    typeAllowed h.typ.toNat (s.get (F.FLOW_W0_KIND f)) = true ∧
    ¬ (RknEnc h = 2 ∧ 4096 ≤ f) ∧ h.seq.toNat = s.nextSeq f ∧
    s.heldOf f = [] ∧ s.openPkt (s.flowSession f) p = some m

/-- The descriptor queue has a credit and no scene packet waits for one (R116). -/
def Credited (s : State) : Prop := s.queueRoom = true ∧ s.ing.buffer = []

/-- What a frame that arrives, and is forwarded where it has a group address, writes of the port registers. -/
def frameFields (f : NetFrame) : List Fld :=
  [whole (A.NET_PORT_RX_FRAMES f.port), whole (A.NET_PORT_TX_FRAMES (otherPort f.port)), F.NET_STATUS_FWD_MODE_BAD,
    whole (A.NET_PORT_FWD_DROP f.port)]

/-- What the acceptance of a packet writes of the registers beside what its TYPE does. -/
def arrivalFields (p : RknPkt) : List Fld :=
  let f := (rknHdr p).flow.toNat
  frameFields p.frame ++ [whole (A.FLOW_NEXT_SEQ_LO f), F.FLOW_NEXT_SEQ_HI_HI f, whole (A.FLOW_ACCEPTED f),
    whole (A.FLOW_LAST_FRAME f), F.FLOW_W0_HELD f]

/-- A packet has been accepted (R160): the sequence moves on, and it is counted. -/
def Accepted (p : RknPkt) (s t : State) : Prop :=
  let f := (rknHdr p).flow.toNat
  t.nextSeq f = ((rknHdr p).seq.toNat + 1) % 2 ^ 48 ∧ t.flowState f = 1 ∧
    t.rd (A.FLOW_ACCEPTED f) = s.rd (A.FLOW_ACCEPTED f) + 1 ∧ t.rd (A.FLOW_LAST_FRAME f) = (rknHdr p).frame

/-! ### Memory repair -/

/-- What a memory test leaves of the repair table, which held `l`, where it finds the rows `rows` (slice, row) failing: each
is mapped to a spare row of its slice, unless the table of 1,024 or the slice's two spare rows are used up; `ok` says that
every one is mapped (R465, R472, R473). -/
def Repaired (l : List (Nat × Nat × Nat)) (rows : List (Nat × Nat)) (ok : Prop) (t : State) : Prop :=
  let mapped (r : Nat × Nat) : Prop := ∃ i, (r.1, r.2, i) ∈ t.bist.spares
  let inSram (r : Nat × Nat) : Prop := r.1 < 6144 ∧ r.2 < 256
  (∀ e ∈ l, e ∈ t.bist.spares) ∧ (∀ e ∈ t.bist.spares, e ∈ l ∨ ((e.1, e.2.1) ∈ rows ∧ e.2.2 < 2)) ∧
    (∀ r ∈ rows, inSram r → mapped r ∨ 1024 ≤ t.bist.spares.length ∨ ∀ i < 2, ∃ row, (r.1, row, i) ∈ t.bist.spares) ∧
    (ok ↔ ∀ r ∈ rows, inSram r → mapped r) ∧ t.get F.BIST_REPAIR_SOFT = t.bist.spares.length % 2048

/-! ### Neighbour frames -/

/-- What arrives at an open, awake neighbour port is frame `f`: its CRC holds, it verifies under the port's key or the one
before, and it is newer than the last accepted one (R312, R313, R314). -/
def TakenNbr (p : NbrId) (r : NbrRaw) (f : NbrFrame) (s : State) : Prop :=
  s.nbrOpen p = true ∧ s.flag (F.NBR_STATUS_RX_SLEEP p) = false ∧ nbrCrcOk r = true ∧
    (s.port p).openFrame r.data = some f ∧ ∀ n, (s.port p).rxSeq = some n → n < f.seq.toNat

/-- What a frame at neighbour port `p` writes of the registers beside what its TYPE does: frames lost, and the wake of
a transmitter that returns credits. -/
def nbrFields (p : NbrId) : List Fld :=
  [whole (A.NBR_CNT_LOSS p), F.NBR_STATUS_TX_SLEEP p, F.SEQ_EVQ_STATUS_OVERFLOW 4]

/-! ### Sequencers -/

/-- Sequencer `q` issues instruction `i` next: it is RUNNING, no HOT segment holds the fetch, and the word at its PC
is that of `i` (R90, R92 to R96). -/
def Fetches (s : State) (q : SeqId) (i : POp) : Prop :=
  (s.seq q).run = .running ∧ (s.seq q).fetchHeld = false ∧
    decodePorow ((s.seq q).imemRd (s.seq q).pc) = some i

/-- Of all the state, only sequencer `q` changes, of it only the general registers and the PC, which moves on by one
(R94), and of the general registers only `d`, which becomes `v`. -/
def WritesGen (q : SeqId) (d : GReg) (v : Word) (s t : State) : Prop :=
  OnlySeq q s t ∧ t.seq q = { s.seq q with g := (t.seq q).g, pc := (s.seq q).pc + 1 } ∧
    (t.seq q).gr d = v ∧ ∀ r, r ≠ d → (t.seq q).gr r = (s.seq q).gr r

/-- The same of the time registers. -/
def WritesTime (q : SeqId) (d : TReg) (v : TimeVal) (s t : State) : Prop :=
  OnlySeq q s t ∧ t.seq q = { s.seq q with t := (t.seq q).t, pc := (s.seq q).pc + 1 } ∧
    (t.seq q).tr d = v ∧ ∀ r, r ≠ d → (t.seq q).tr r = (s.seq q).tr r

/-- Of all the state, only P and the PC of sequencer `q` change: P becomes `b` and the PC moves on by one. -/
def WritesP (q : SeqId) (b : Bool) (s t : State) : Prop :=
  t = s.setSeq q { s.seq q with p := b, pc := (s.seq q).pc + 1 }

/-- The sequencer and the instruction of a row that is one instruction of a sequencer. -/
def porowRow : Instr → Option (SeqId × POp)
  | .add q d a b => some (q, .add d a b)
  | .sub q d a b => some (q, .sub d a b)
  | .and q d a b => some (q, .and d a b)
  | .or q d a b => some (q, .or d a b)
  | .xor q d a b => some (q, .xor d a b)
  | .shl q d a b => some (q, .shl d a b)
  | .shr q d a b => some (q, .shr d a b)
  | .sar q d a b => some (q, .sar d a b)
  | .mul q d a b => some (q, .mul d a b)
  | .mov q d a => some (q, .mov d a)
  | .addi q d a imm => some (q, .addi d a imm)
  | .andi q d a imm => some (q, .andi d a imm)
  | .ori q d a imm => some (q, .ori d a imm)
  | .xori q d a imm => some (q, .xori d a imm)
  | .shli q d a sh => some (q, .shli d a sh)
  | .shri q d a sh => some (q, .shri d a sh)
  | .sari q d a sh => some (q, .sari d a sh)
  | .li q d imm => some (q, .li d imm)
  | .cmp q c a b => some (q, .cmp c a b)
  | .cmpi q c a imm => some (q, .cmpi c a imm)
  | .br q target => some (q, .br target)
  | .brP q target => some (q, .brP target)
  | .brNp q target => some (q, .brNp target)
  | .call q target => some (q, .call target)
  | .ret q => some (q, .ret)
  | .ld q d a off _ => some (q, .ld d a off)
  | .st q d a off => some (q, .st d a off)
  | .rd q g w => some (q, .rd g w)
  | .wr q w g => some (q, .wr w g)
  | .wri q w imm => some (q, .wri w imm)
  | .rmw q w m g => some (q, .rmw w m g)
  | .rdIndirect q d a => some (q, .rdIndirect d a)
  | .wrIndirect q a d => some (q, .wrIndirect a d)
  | .trd q t w => some (q, .trd t w)
  | .twr q w t => some (q, .twr w t)
  | .pop q d => some (q, .pop d)
  | .popQ q g w => some (q, .popQ g w)
  | .push q w g => some (q, .push w g)
  | .droppkt q w => some (q, .droppkt w)
  | .tmov q d a => some (q, .tmov d a)
  | .tadd q d a g => some (q, .tadd d a g)
  | .taddi q d a imm => some (q, .taddi d a imm)
  | .tadds q d a imm => some (q, .tadds d a imm)
  | .tsub q g a b => some (q, .tsub g a b)
  | .tcmp q c a b => some (q, .tcmp c a b)
  | .tget q g a p => some (q, .tget g a p)
  | .tput q d g p => some (q, .tput d g p)
  | .tline q d g1 g2 n => some (q, .tline d g1 g2 n)
  | .tld q d g off _ => some (q, .tld d g off)
  | .tst q a g off => some (q, .tst a g off)
  | .waitT q t => some (q, .waitT t)
  | .waitL q k n => some (q, .waitL k n)
  | .waitE q => some (q, .waitE)
  | .fence q k m t => some (q, .fence k m t)
  | .armT q t a => some (q, .armT t a)
  | .armL q k n a => some (q, .armL k n a)
  | .disarm q a => some (q, .disarm a)
  | .commit q mask => some (q, .commit mask)
  | .event q data dest g code => some (q, .event data dest g code)
  | .halt q => some (q, .halt)
  | .nop q => some (q, .nop)
  | _ => none

end Sys2Proof.Machine
end

