-- ==== Sys2Proof/WellFormed.lean ====
section
/-!
DEFINITION. Sys2Proof/WellFormed.lean: which Porow instructions the encoding admits: the operand ranges of R96 that
the types of `POp` leave open.
-/

namespace Sys2Proof

/-- A well-formed instruction: POP names g0, g4, g8 or g12 (R108); TCMP accepts EQ, NE, LT and GE only (R99). -/
def POp.wellFormed : POp → Bool
  | .pop d => d.val % 4 == 0
  | .tcmp c _ _ => match c with | .ltu => false | .geu => false | _ => true
  | _ => true

end Sys2Proof
end

