-- ==== Sys2Proof/Certificates/Slice0/Obligations.lean ====
section
/-!
DEFINITION. Sys2Proof/Certificates/Slice0/Obligations.lean: the statements for the provers.
-/

open Sys2Proof Sys2Proof.Machine

/-- O1. When a running sequencer issues ADD, SUB, MUL, MOV, ADDI or LI, the command answers a next state in which
the destination register holds the sum, the difference, the low 32 bits of the product, the source or the immediate,
modulo 2^32, the PC has moved on by one modulo 32,768, and everything else, P among it, is as before. When a running
sequencer issues AND, OR, XOR, ANDI, ORI or XORI, the command answers a next state in which each bit of the
destination register is the AND, OR or XOR of the same bit of the source register and of the second source register
or all 32 bits of IMM, the PC has moved on by one, and everything else is as before. When a running sequencer issues
SHL, SHR or SAR, the command answers a next state in which the destination register holds the first source shifted
by bits [4:0] of the second: multiplied by a power of two modulo 2^32, divided as an unsigned number, or divided as
a signed number, both rounded down. SHLI, SHRI and SARI do the same by an immediate from 0 to 31. The PC has moved
on by one and everything else is as before. When a running sequencer issues CMP, CMPI or TCMP, the command answers a
next state in which P says whether the condition holds: equal, not equal, less or not less, signed for LT and GE,
unsigned for LTU and GEU, CMPI against IMM, and TCMP (EQ, NE, LT and GE only) between points in time of S·10^9 + N
nanoseconds. The PC has moved on by one and everything else is as before. (R92, R94, R98, R99, R109) -/
def Obligations.PorowAlu : Prop :=
  (∀ (s : State) (q : SeqId) (d a b : GReg) (imm : Word),
     let A := (s.seq q).gr a
     let B := (s.seq q).gr b
     (Fetches s q (.add d a b) →
       ∃ t, exec (.add q d a b) s = .next t ∧ WritesGen q d (BitVec.ofNat 32 (A.toNat + B.toNat)) s t) ∧
     (Fetches s q (.sub d a b) →
       ∃ t, exec (.sub q d a b) s = .next t ∧ WritesGen q d (BitVec.ofInt 32 ((A.toNat : Int) - B.toNat)) s t) ∧
     (Fetches s q (.mul d a b) →
       ∃ t, exec (.mul q d a b) s = .next t ∧ WritesGen q d (BitVec.ofNat 32 (A.toNat * B.toNat)) s t) ∧
     (Fetches s q (.mov d a) → ∃ t, exec (.mov q d a) s = .next t ∧ WritesGen q d A s t) ∧
     (Fetches s q (.addi d a imm) →
       ∃ t, exec (.addi q d a imm) s = .next t ∧ WritesGen q d (BitVec.ofInt 32 (A.toInt + imm.toInt)) s t) ∧
     (Fetches s q (.li d imm) → ∃ t, exec (.li q d imm) s = .next t ∧ WritesGen q d imm s t)) ∧
  (∀ (s : State) (q : SeqId) (d a b : GReg) (imm : Word),
     let A := (s.seq q).gr a
     let B := (s.seq q).gr b
     (Fetches s q (.and d a b) → ∃ t v, exec (.and q d a b) s = .next t ∧ WritesGen q d v s t ∧
       ∀ i, v.getLsbD i = (A.getLsbD i && B.getLsbD i)) ∧
     (Fetches s q (.or d a b) → ∃ t v, exec (.or q d a b) s = .next t ∧ WritesGen q d v s t ∧
       ∀ i, v.getLsbD i = (A.getLsbD i || B.getLsbD i)) ∧
     (Fetches s q (.xor d a b) → ∃ t v, exec (.xor q d a b) s = .next t ∧ WritesGen q d v s t ∧
       ∀ i, v.getLsbD i = (A.getLsbD i ^^ B.getLsbD i)) ∧
     (Fetches s q (.andi d a imm) → ∃ t v, exec (.andi q d a imm) s = .next t ∧ WritesGen q d v s t ∧
       ∀ i, v.getLsbD i = (A.getLsbD i && imm.getLsbD i)) ∧
     (Fetches s q (.ori d a imm) → ∃ t v, exec (.ori q d a imm) s = .next t ∧ WritesGen q d v s t ∧
       ∀ i, v.getLsbD i = (A.getLsbD i || imm.getLsbD i)) ∧
     (Fetches s q (.xori d a imm) → ∃ t v, exec (.xori q d a imm) s = .next t ∧ WritesGen q d v s t ∧
       ∀ i, v.getLsbD i = (A.getLsbD i ^^ imm.getLsbD i))) ∧
  (∀ (s : State) (q : SeqId) (d a b : GReg) (sh : Fin 32),
     let A := (s.seq q).gr a
     let n := ((s.seq q).gr b).toNat % 32
     (Fetches s q (.shl d a b) →
       ∃ t, exec (.shl q d a b) s = .next t ∧ WritesGen q d (BitVec.ofNat 32 (A.toNat * 2 ^ n)) s t) ∧
     (Fetches s q (.shr d a b) →
       ∃ t, exec (.shr q d a b) s = .next t ∧ WritesGen q d (BitVec.ofNat 32 (A.toNat / 2 ^ n)) s t) ∧
     (Fetches s q (.sar d a b) →
       ∃ t, exec (.sar q d a b) s = .next t ∧ WritesGen q d (BitVec.ofInt 32 (A.toInt / 2 ^ n)) s t) ∧
     (Fetches s q (.shli d a sh) →
       ∃ t, exec (.shli q d a sh) s = .next t ∧ WritesGen q d (BitVec.ofNat 32 (A.toNat * 2 ^ sh.val)) s t) ∧
     (Fetches s q (.shri d a sh) →
       ∃ t, exec (.shri q d a sh) s = .next t ∧ WritesGen q d (BitVec.ofNat 32 (A.toNat / 2 ^ sh.val)) s t) ∧
     (Fetches s q (.sari d a sh) →
       ∃ t, exec (.sari q d a sh) s = .next t ∧ WritesGen q d (BitVec.ofInt 32 (A.toInt / 2 ^ sh.val)) s t)) ∧
  (∀ (s : State) (q : SeqId) (a b : GReg) (x y : TReg) (imm : Word),
     let A := (s.seq q).gr a
     let B := (s.seq q).gr b
     let X := ((s.seq q).tr x).sec.toNat * 10 ^ 9 + ((s.seq q).tr x).ns.toNat
     let Y := ((s.seq q).tr y).sec.toNat * 10 ^ 9 + ((s.seq q).tr y).ns.toNat
     (∀ (c : Cond) (P : Bool),
       (P = true ↔ match c with
         | .eq => A = B | .ne => A ≠ B | .lt => A.toInt < B.toInt | .ge => B.toInt ≤ A.toInt
         | .ltu => A.toNat < B.toNat | .geu => B.toNat ≤ A.toNat) →
       Fetches s q (.cmp c a b) → ∃ t, exec (.cmp q c a b) s = .next t ∧ WritesP q P s t) ∧
     (∀ (c : Cond) (P : Bool),
       (P = true ↔ match c with
         | .eq => A = imm | .ne => A ≠ imm | .lt => A.toInt < imm.toInt | .ge => imm.toInt ≤ A.toInt
         | .ltu => A.toNat < imm.toNat | .geu => imm.toNat ≤ A.toNat) →
       Fetches s q (.cmpi c a imm) → ∃ t, exec (.cmpi q c a imm) s = .next t ∧ WritesP q P s t) ∧
     (∀ (c : Cond) (P : Bool), c = .eq ∨ c = .ne ∨ c = .lt ∨ c = .ge →
       (P = true ↔ match c with
         | .eq => X = Y | .ne => X ≠ Y | .lt => X < Y | .ge => Y ≤ X | .ltu => False | .geu => False) →
       Fetches s q (.tcmp c x y) → ∃ t, exec (.tcmp q c x y) s = .next t ∧ WritesP q P s t))

/-- O2. When a running sequencer issues BR, the PC becomes TARGET; BR.P does so where P is 1 and BR.NP where P is 0,
and else the PC moves on by one. CALL with fewer than 16 return entries pushes PC + 1 and goes to TARGET; RET with
an entry pops it into the PC. NOP only moves the PC on. HALT enters HALTED and leaves the posted writes and the
armed alarms as they are. Each answers a next state in which nothing else has changed. A word that is no instruction
(code 1), an LD, ST, TLD or TST at an address that is no multiple of 4 (code 2), CALL with 16 return entries and RET
with none (code 4) each answer a next state in which the sequencer is FAULTED, holds the fault's code and the PC,
has executed nothing, and issues nothing further whatever row of the instruction table is commanded of it; a fault
of SQ0 to SQ3 pushes SEQ_FAULT with the sequencer's number and the word of SEQs_FAULT to SQS. After a fault of SQS
outside Stay EVT_N is low, and, unless KNL_CTRL.SQS_FAULT makes it a Kennel reason, one message has joined the
transmit queue where that had room. (R91, R94, R95, R96, R98, R100, R101, R114) -/
def Obligations.PorowControlFlow : Prop :=
  (∀ (s : State) (q : SeqId) (x : BitVec 15),
     let c := s.seq q
     (Fetches s q (.br x) → ∃ t, exec (.br q x) s = .next t ∧ t = s.setSeq q { c with pc := x }) ∧
     (Fetches s q (.brP x) → ∃ t, exec (.brP q x) s = .next t ∧
       t = s.setSeq q { c with pc := if c.p = true then x else c.pc + 1 }) ∧
     (Fetches s q (.brNp x) → ∃ t, exec (.brNp q x) s = .next t ∧
       t = s.setSeq q { c with pc := if c.p = true then c.pc + 1 else x }) ∧
     (Fetches s q (.call x) → c.stack.length < 16 → ∃ t, exec (.call q x) s = .next t ∧
       t = s.setSeq q { c with pc := x, stack := (c.pc + 1) :: c.stack }) ∧
     (∀ (r : BitVec 15) (rest : List (BitVec 15)), c.stack = r :: rest → Fetches s q .ret →
       ∃ t, exec (.ret q) s = .next t ∧ t = s.setSeq q { c with pc := r, stack := rest }) ∧
     (Fetches s q .nop → ∃ t, exec (.nop q) s = .next t ∧ t = s.setSeq q { c with pc := c.pc + 1 }) ∧
     (Fetches s q .halt → ∃ t, exec (.halt q) s = .next t ∧
       OnlySeq q s t ∧ (t.seq q).run = .halted ∧ (t.seq q).alarms = c.alarms ∧ (t.seq q).posted = c.posted ∧
       (t.seq q).g = c.g ∧ (t.seq q).t = c.t ∧ (t.seq q).p = c.p ∧ (t.seq q).stack = c.stack ∧
       (t.seq q).queue = c.queue ∧ (t.seq q).imem = c.imem ∧ (t.seq q).dmem = c.dmem)) ∧
  (∀ (s : State) (q : SeqId) (f : SeqFault),
     let c := s.seq q
     let faulted := s.setSeq q { c with run := .faulted, busy := .none, fault := some (f, c.pc) }
     let told (t : State) : Prop := (t.seq q).run = .faulted ∧ (t.seq q).fault = some (f, c.pc) ∧
       (t.seq q).g = c.g ∧ (t.seq q).t = c.t ∧ (t.seq q).p = c.p ∧ (t.seq q).pc = c.pc ∧ (t.seq q).dmem = c.dmem ∧
       (t.seq q).stack = c.stack ∧
       (q ≠ 4 → Told 4 0x23 q false (2 ^ 31 + c.pc.toNat * 2 ^ 16 + f.code) faulted t) ∧
       (q = 4 → (s.inStay = false → t.evtN = true) ∧ (s.flag F.KNL_CTRL_SQS_FAULT = false → s.net.mtx.length < 64 →
         t.net.mtx.length = s.net.mtx.length + 1)) ∧
       (∀ r i, porowRow r = some (q, i) → exec r t = .next t)
     (f = .illegalOp → c.run = .running → c.fetchHeld = false → decodePorow (c.imemRd c.pc) = none →
       ∀ r i, porowRow r = some (q, i) → ∃ t, exec r s = .next t ∧ told t) ∧
     (∀ (d a : GReg) (x : TReg) (off : BitVec 16) (bad : Bool) (w : Option (Fin 3)), f = .dmemAlign →
       ((c.gr a).toNat + off.toInt) % 4 ≠ 0 →
       (Fetches s q (.tld x a off) → ∃ t, exec (.tld q x a off w) s = .next t ∧ told t) ∧
       (Fetches s q (.tst x a off) → ∃ t, exec (.tst q x a off) s = .next t ∧ told t) ∧
       (Fetches s q (.ld d a off) → ∃ t, exec (.ld q d a off bad) s = .next t ∧ told t) ∧
       (Fetches s q (.st d a off) → ∃ t, exec (.st q d a off) s = .next t ∧ told t)) ∧
     (∀ x : BitVec 15, f = .stack → c.stack.length = 16 → Fetches s q (.call x) →
       ∃ t, exec (.call q x) s = .next t ∧ told t) ∧
     (f = .stack → c.stack = [] → Fetches s q .ret → ∃ t, exec (.ret q) s = .next t ∧ told t))

/-- O3. With an address that is a multiple of 4, LD answers a next state whose destination holds the word there; ST
one in which that word holds gD; TLD one whose time register holds the three words NS, SEC_LO and SEC_HI at the
address, address + 4 and address + 8, each wrapping modulo 65,536, with the nanoseconds carried into the seconds;
TST one in which those three words hold the time register. Every other word of data memory, every other register and
P stay. An LD or TLD whose word fails its parity also completes: only the destination register and the PC of the
sequencer change beside its event queue, and BIST_FLAGS.DMEM_PERR is set. (R7, R94, R98, R101, R109, R477) -/
def Obligations.PorowLoadsStores : Prop :=
  ∀ (s : State) (q : SeqId) (d a : GReg) (x : TReg) (off : BitVec 16),
    let c := s.seq q
    let adr : Nat := ((((c.gr a).toNat : Int) + off.toInt) % 65536).toNat
    let adr4 : Nat := (adr + 4) % 65536
    let adr8 : Nat := (adr + 8) % 65536
    let stored (l : List Nat) (t : State) : Prop := OnlySeq q s t ∧
      t.seq q = { c with pc := c.pc + 1, dmem := (t.seq q).dmem } ∧
      ∀ w, w < 65536 → w / 4 * 4 ∉ l → (t.seq q).dmemRd w = c.dmemRd w
    adr % 4 = 0 →
    (Fetches s q (.ld d a off) → ∃ t, exec (.ld q d a off false) s = .next t ∧ WritesGen q d (c.dmemRd adr) s t) ∧
    (Fetches s q (.st d a off) → ∃ t, exec (.st q d a off) s = .next t ∧ stored [adr] t ∧
      (t.seq q).dmemRd adr = c.gr d) ∧
    (Fetches s q (.tld x a off) → ∃ t, exec (.tld q x a off none) s = .next t ∧
      WritesTime q x
        ⟨BitVec.ofNat 64 ((c.dmemRd adr8).toNat * 2 ^ 32 + (c.dmemRd adr4).toNat + (c.dmemRd adr).toNat / 1000000000),
          BitVec.ofNat 32 ((c.dmemRd adr).toNat % 1000000000)⟩ s t) ∧
    (Fetches s q (.tst x a off) → ∃ t, exec (.tst q x a off) s = .next t ∧ stored [adr, adr4, adr8] t ∧
      (t.seq q).dmemRd adr = (c.tr x).ns ∧
      (t.seq q).dmemRd adr4 = BitVec.ofNat 32 (c.tr x).sec.toNat ∧
      (t.seq q).dmemRd adr8 = BitVec.ofNat 32 ((c.tr x).sec.toNat / 2 ^ 32)) ∧
    (Fetches s q (.ld d a off) → ∃ t, exec (.ld q d a off true) s = .next t ∧
      t.flag F.BIST_FLAGS_DMEM_PERR = true ∧
      t.seq q = { c with pc := c.pc + 1, g := (t.seq q).g, queue := (t.seq q).queue } ∧
      ∀ r, r ≠ d → (t.seq q).gr r = c.gr r) ∧
    (∀ i, Fetches s q (.tld x a off) → ∃ t, exec (.tld q x a off (some i)) s = .next t ∧
      t.flag F.BIST_FLAGS_DMEM_PERR = true ∧
      t.seq q = { c with pc := c.pc + 1, t := (t.seq q).t, queue := (t.seq q).queue } ∧
      ∀ r, r ≠ x → (t.seq q).tr r = c.tr r)

/-- O4. TADD, TADDI and TADDS answer a next state whose time register holds the exact sum S·10^9 + N plus signed
nanoseconds or signed seconds, split again into seconds modulo 2^64 and nanoseconds. TMOV copies. TPUT replaces
SEC_LO or SEC_HI, or puts v mod 10^9 into NS and adds v/10^9 to the seconds; TGET reads one of the three parts. TSUB
puts tA - tB in nanoseconds, held to -2^31 to 2^31 - 1, into a general register. Nothing else changes but the PC.
TLINE answers a next state in which, with a valid cadence, tD holds the whole nanoseconds of L(k, n) and gG1 its
fraction in units of 2^-16 ns in bits [15:0] with bits [31:16] at 0, where k is the frame whose low 32 bits equal
gG2 and that lies from 2^31 behind to 2^31 - 1 ahead of the current frame, n the signed immediate or the low half of
a register, and the cadence is that of the end of the core cycle before; without a valid cadence tD holds 0 and gG1
0x8000_0000. Nothing else changes but the PC. (R53, R64, R77, R98, R109, R110, R558) -/
def Obligations.PorowTime : Prop :=
  (∀ (s : State) (q : SeqId) (g : GReg) (d a b : TReg) (imm : Word),
     let c := s.seq q
     let N (x : TReg) : Int := (((c.tr x).sec.toNat * 1000000000 + (c.tr x).ns.toNat : Nat) : Int)
     let split (x : Int) : TimeVal := ⟨BitVec.ofInt 64 (x / 1000000000), BitVec.ofInt 32 (x % 1000000000)⟩
     let D := N a - N b
     (Fetches s q (.tmov d a) → ∃ t, exec (.tmov q d a) s = .next t ∧ WritesTime q d (c.tr a) s t) ∧
     (Fetches s q (.tadd d a g) →
       ∃ t, exec (.tadd q d a g) s = .next t ∧ WritesTime q d (split (N a + (c.gr g).toInt)) s t) ∧
     (Fetches s q (.taddi d a imm) →
       ∃ t, exec (.taddi q d a imm) s = .next t ∧ WritesTime q d (split (N a + imm.toInt)) s t) ∧
     (Fetches s q (.tadds d a imm) →
       ∃ t, exec (.tadds q d a imm) s = .next t ∧ WritesTime q d (split (N a + imm.toInt * 1000000000)) s t) ∧
     (Fetches s q (.tput d g .secLo) → ∃ t, exec (.tput q d g .secLo) s = .next t ∧ WritesTime q d
       ⟨BitVec.ofNat 64 ((c.tr d).sec.toNat / 2 ^ 32 * 2 ^ 32 + (c.gr g).toNat), (c.tr d).ns⟩ s t) ∧
     (Fetches s q (.tput d g .secHi) → ∃ t, exec (.tput q d g .secHi) s = .next t ∧ WritesTime q d
       ⟨BitVec.ofNat 64 ((c.gr g).toNat * 2 ^ 32 + (c.tr d).sec.toNat % 2 ^ 32), (c.tr d).ns⟩ s t) ∧
     (Fetches s q (.tput d g .ns) → ∃ t, exec (.tput q d g .ns) s = .next t ∧ WritesTime q d
       ⟨BitVec.ofNat 64 ((c.tr d).sec.toNat + (c.gr g).toNat / 1000000000),
         BitVec.ofNat 32 ((c.gr g).toNat % 1000000000)⟩ s t) ∧
     (Fetches s q (.tget g a .secLo) → ∃ t, exec (.tget q g a .secLo) s = .next t ∧
       WritesGen q g (BitVec.ofNat 32 (c.tr a).sec.toNat) s t) ∧
     (Fetches s q (.tget g a .secHi) → ∃ t, exec (.tget q g a .secHi) s = .next t ∧
       WritesGen q g (BitVec.ofNat 32 ((c.tr a).sec.toNat / 2 ^ 32)) s t) ∧
     (Fetches s q (.tget g a .ns) → ∃ t, exec (.tget q g a .ns) s = .next t ∧ WritesGen q g (c.tr a).ns s t) ∧
     (Fetches s q (.tsub g a b) → ∃ t, exec (.tsub q g a b) s = .next t ∧
       WritesGen q g (if D < -2 ^ 31 then BitVec.ofInt 32 (-2 ^ 31) else
         if 2 ^ 31 - 1 < D then BitVec.ofInt 32 (2 ^ 31 - 1) else BitVec.ofInt 32 D) s t)) ∧
  (∀ (s : State) (q : SeqId) (d : TReg) (g1 g2 : GReg) (n : LineOff),
     let c := s.seq q
     let off : Int := match n with | .imm x => x.toInt | .reg r => ((c.gr r).setWidth 16).toInt
     let u := s.atCycleStart
     Fetches s q (.tline d g1 g2 n) →
     ∃ t, exec (.tline q d g1 g2 n) s = .next t ∧ OnlySeq q s t ∧
       t.seq q = { c with g := (t.seq q).g, t := (t.seq q).t, pc := c.pc + 1 } ∧
       (∀ r, r ≠ g1 → (t.seq q).gr r = c.gr r) ∧ (∀ r, r ≠ d → (t.seq q).tr r = c.tr r) ∧
       if u.cadenceOk = true then
         ∃ k L : Int, k % 2 ^ 32 = ((c.gr g2).toNat : Int) ∧ -2 ^ 31 ≤ k - u.frameIndex ∧ k - u.frameIndex < 2 ^ 31 ∧
           L = u.cadEpoch * 10 ^ 9 * 2 ^ 16
             + (k * u.cadP * u.vTotal + off * u.cadP) * (10 ^ 9 * 2 ^ 16) / (u.cadQ * u.vTotal) ∧
           (t.seq q).tr d = ⟨BitVec.ofInt 64 (L / 2 ^ 16 / 10 ^ 9), BitVec.ofInt 32 (L / 2 ^ 16 % 10 ^ 9)⟩ ∧
           (t.seq q).gr g1 = BitVec.ofInt 32 (L % 2 ^ 16)
       else (t.seq q).tr d = ⟨0, 0⟩ ∧ (t.seq q).gr g1 = 0x80000000)

/-- O5. Where what it addresses is within reach, RD, RD [gA] with gA[31:26] = 0, TRD with all three addresses,
POP.Q, and RMW with a free entry of the write buffer and no W1C, write-only or popping register (through Whistle: at
its offset, whatever the mask), answer a next state in which the sequencer is STALLED with WAIT_KIND 7, the read of
that address under way and the PC and every register as before. READ_RETURN brings the data. With a read under way,
no write of the sequencer posted, and no pop of this core cycle by a master later in the order of R68 (whose pop the
read would have to precede), READ_RETURN answers a next state in which the sequencer goes on at the next
instruction, or is HALTED where a HALT waited for this boundary. RD has put the value read into its general
register; POP.Q also sets P to whether the FIFO held an entry; TRD has put the three values read at the address,
address + 4 and address + 8 as SEC_HI, SEC_LO and NS, normalised, into its time register; no other register has
changed. RMW has posted its write half with its mask, and nothing else but the PC has changed; when the buffer
drains it, a register that is all plain RW or read-only bits takes (old AND NOT gM) OR (gG AND gM) in its RW bits,
every other register stays, and the entry is free. (R65, R67, R69, R87, R98, R102, R103, R104, R106, R107, R108,
R109) -/
def Obligations.PorowReads : Prop :=
  (∀ (s : State) (q : SeqId) (d a m : GReg) (x : TReg) (w : WAddr),
     let c := s.seq q
     let n := w.toNat * 4
     let inReach (adr : Nat) (write : Bool) : Prop := (s.reach (masterOf q) adr write).fault = none
     let under (adr : Nat) (dest : ReadDest) (t : State) : Prop :=
       t = s.setSeq q { c with run := .stalled, busy := .read adr dest }
     (Fetches s q (.rd d w) → inReach n false →
       ∃ t, exec (.rd q d w) s = .next t ∧ under n (.gen d) t) ∧
     (Fetches s q (.rdIndirect d a) → (c.gr a).toNat < 2 ^ 26 → inReach ((c.gr a).toNat / 4 * 4) false →
       ∃ t, exec (.rdIndirect q d a) s = .next t ∧ under ((c.gr a).toNat / 4 * 4) (.gen d) t) ∧
     (Fetches s q (.popQ d w) → inReach n false →
       ∃ t, exec (.popQ q d w) s = .next t ∧ under n (.popQ d) t) ∧
     (Fetches s q (.trd x w) → inReach n false → inReach (n + 4) false → inReach (n + 8) false →
       ∃ t, exec (.trd q x w) s = .next t ∧ under n (.time x) t) ∧
     (Fetches s q (.rmw w m d) → inReach n true → rmwBars (masterOf q) n = false → inReach n false →
       (c.posted.map fun p => p.vals.length).sum < 8 →
       ∃ t, exec (.rmw q w m d) s = .next t ∧ under n (.rmw (c.gr m) (c.gr d)) t)) ∧
  (∀ (s : State) (q : SeqId) (adr : Nat),
     let c := s.seq q
     let m := masterOf q
     let hi := s.readAt m adr
     let lo := hi.2.readAt m (adr + 4)
     let ns := lo.2.readAt m (adr + 8)
     let goesOn (t : State) : Prop := (t.seq q).run = (if c.haltReq = true then .halted else .running) ∧
       (t.seq q).busy = .none ∧ (t.seq q).pc = c.pc + 1 ∧ (t.seq q).stack = c.stack ∧
       (t.seq q).alarms = c.alarms ∧ (t.seq q).dmem = c.dmem ∧ ∀ r, r ≠ q → t.seq r = s.seq r
     c.run = .stalled → c.posted = [] → s.popWaits m adr = false →
     (∀ g, c.busy = .read adr (.gen g) → ∃ t, exec (.readReturn q) s = .next t ∧ goesOn t ∧
       (t.seq q).gr g = hi.1 ∧ (∀ r, r ≠ g → (t.seq q).gr r = c.gr r) ∧ (t.seq q).t = c.t ∧ (t.seq q).p = c.p ∧
       ∀ b, t.rd b = hi.2.rd b) ∧
     (∀ g, c.busy = .read adr (.popQ g) → ∃ t, exec (.readReturn q) s = .next t ∧ goesOn t ∧
       (t.seq q).gr g = hi.1 ∧ (∀ r, r ≠ g → (t.seq q).gr r = c.gr r) ∧ (t.seq q).t = c.t ∧
       (t.seq q).p = s.popFinds m adr ∧ ∀ b, t.rd b = hi.2.rd b) ∧
     (∀ g, c.busy = .read adr (.time g) → ∃ t, exec (.readReturn q) s = .next t ∧ goesOn t ∧
       (t.seq q).tr g =
         ⟨BitVec.ofNat 64 (hi.1.toNat * 2 ^ 32 + lo.1.toNat + ns.1.toNat / 1000000000),
           BitVec.ofNat 32 (ns.1.toNat % 1000000000)⟩ ∧
       (∀ r, r ≠ g → (t.seq q).tr r = c.tr r) ∧ (t.seq q).g = c.g ∧ (t.seq q).p = c.p ∧ ∀ b, t.rd b = ns.2.rd b) ∧
     (∀ mask v : Word, c.busy = .read adr (.rmw mask v) → ∃ t, exec (.readReturn q) s = .next t ∧ goesOn t ∧
       t = s.setSeq q { c with run := (t.seq q).run, busy := .none, haltReq := false, pc := c.pc + 1,
                               posted := [⟨adr, [v], some mask⟩] }) ∧
     (∀ (u : State) (i : Fin 8) (mask v : Word) (r : Nat) (row : RegRow), (u.seq q).posted = [⟨adr, [v], some mask⟩] →
       i = 0 → (∀ x y n d, (u.seq q).busy ≠ .go x y n d) → (∀ x n d, (u.seq q).busy ≠ .held x n d) →
       u.reach m adr true = .regs [r] → u.reach m adr false = .regs [r] → PlainReg r row → row.rws = 0 →
       r ≠ A.WT_CAP_W3 → r ≠ A.DFL_CPL_W 3 → Unopposed m adr r u →
       ∃ t, exec (.postedWriteDrain q i) u = .next t ∧ (t.seq q).posted = [] ∧
         t.rd r = (u.rd r &&& ~~~BitVec.ofNat 32 row.rw) |||
           ((((u.readAt m adr).1 &&& ~~~mask) ||| (v &&& mask)) &&& BitVec.ofNat 32 row.rw) ∧
         ∀ b, b ≠ r → t.rd b = u.rd b))

/-- O6. Within reach and with enough free entries among 8, WR, WRI, WR [gA] with gA[31:26] = 0, PUSH and DROPPKT
answer a next state in which one more write is posted, of gG, IMM, gD, gG or 1, and TWR one with the three words
SEC_HI, SEC_LO and NS posted at addr, addr + 4 and addr + 8; the PC has moved on by one and nothing else has
changed. With too few free entries the sequencer waits as it is. A WR, WRI or WR [gA] to a GO register is not
posted: the sequencer is STALLED with that write under way. (R65, R67, R98, R103, R104, R105, R106, R108) -/
def Obligations.PorowPostedWrites : Prop :=
  ∀ (s : State) (q : SeqId) (g a : GReg) (x : TReg) (w : WAddr) (imm : Word),
    let c := s.seq q
    let n := w.toNat * 4
    let na := (c.gr a).toNat / 4 * 4
    let used := (c.posted.map fun p => p.vals.length).sum
    let inReach (adr : Nat) : Prop := (s.reach (masterOf q) adr true).fault = none
    let posts (adr : Nat) (vals : List Word) (t : State) : Prop :=
      t = s.setSeq q { c with pc := c.pc + 1, posted := c.posted ++ [⟨adr, vals, none⟩] }
    let goes (adr : Nat) (v : Word) (t : State) : Prop :=
      t = s.setSeq q { c with run := .stalled, busy := .go adr v s.wt.cycle false }
    let does (adr : Nat) (v : Word) (t : State) : Prop :=
      if goAddr adr = true then goes adr v t else if used < 8 then posts adr [v] t else t = s
    (Fetches s q (.wr w g) → inReach n → ∃ t, exec (.wr q w g) s = .next t ∧ does n (c.gr g) t) ∧
    (Fetches s q (.wri w imm) → inReach n → ∃ t, exec (.wri q w imm) s = .next t ∧ does n imm t) ∧
    (Fetches s q (.wrIndirect a g) → (c.gr a).toNat < 2 ^ 26 → inReach na →
      ∃ t, exec (.wrIndirect q a g) s = .next t ∧ does na (c.gr g) t) ∧
    (Fetches s q (.push w g) → inReach n → ∃ t, exec (.push q w g) s = .next t ∧
      if used < 8 then posts n [c.gr g] t else t = s) ∧
    (Fetches s q (.droppkt w) → inReach n → ∃ t, exec (.droppkt q w) s = .next t ∧
      if used < 8 then posts n [1] t else t = s) ∧
    (Fetches s q (.twr w x) → inReach n → inReach (n + 4) → inReach (n + 8) →
      ∃ t, exec (.twr q w x) s = .next t ∧
        if used ≤ 5 then posts n [BitVec.ofNat 32 ((c.tr x).sec.toNat / 2 ^ 32), BitVec.ofNat 32 (c.tr x).sec.toNat,
          (c.tr x).ns] t
        else t = s)

/-- O7. Every instruction of SQ0 to SQ3 that accesses register space (RD, WR, WRI, RMW, RD [gA], WR [gA], TRD, TWR,
POP.Q, PUSH and DROPPKT) faults with code WHISTLE where its address lies in the Whistle window: the sequencer is
FAULTED with that code and its PC, no write is posted, and its registers are as before. (R72) -/
def Obligations.WhistleFaults : Prop :=
  ∀ (s : State) (q : SeqId) (g a : GReg) (x : TReg) (w : WAddr) (imm : Word) (r : Instr) (i : POp),
    let c := s.seq q
    let window (n : Nat) : Prop := 0x2000000 ≤ n ∧ n < 0x2400000
    q.val < 4 → Fetches s q i →
    ((window (w.toNat * 4) ∧ ((r = .rd q g w ∧ i = .rd g w) ∨ (r = .wr q w g ∧ i = .wr w g) ∨
        (r = .wri q w imm ∧ i = .wri w imm) ∨ (r = .rmw q w a g ∧ i = .rmw w a g) ∨
        (r = .trd q x w ∧ i = .trd x w) ∨ (r = .twr q w x ∧ i = .twr w x) ∨
        (r = .popQ q g w ∧ i = .popQ g w) ∨ (r = .push q w g ∧ i = .push w g) ∨
        (r = .droppkt q w ∧ i = .droppkt w))) ∨
      (window (c.gr a).toNat ∧ ((r = .rdIndirect q g a ∧ i = .rdIndirect g a) ∨
        (r = .wrIndirect q a g ∧ i = .wrIndirect a g)))) →
    ∃ t, exec r s = .next t ∧ (t.seq q).run = .faulted ∧ (t.seq q).fault = some (.whistle, c.pc) ∧
      SeqFault.whistle.code = 5 ∧ (t.seq q).posted = c.posted ∧ (t.seq q).g = c.g ∧ (t.seq q).t = c.t ∧
      (t.seq q).p = c.p

/-- O8. A WR of SQ0 to SQ3 at another quadrant's block or at a system register other than SEQs_POST, a WR of SQS at
the own-quadrant alias, an RD of either at a root-of-trust page, and an RD [gA] or WR [gA] with gA[31:26] not 0
answer a next state in which the sequencer is FAULTED with code ACCESS and its PC, no write is posted, and its
registers and every register of the device outside the queue status of SQS, KNL_STATUS and what Kennel entry changes
are as before. (R65, R66, R91, R104) -/
def Obligations.AccessesOutsideReach : Prop :=
  ∀ (s : State) (q : SeqId) (n : QuadId) (g a : GReg) (w : WAddr),
    let c := s.seq q
    let x := w.toNat * 4
    let refuses (t : State) : Prop := (t.seq q).run = .faulted ∧ (t.seq q).fault = some (.access, c.pc) ∧
      SeqFault.access.code = 3 ∧ (t.seq q).posted = c.posted ∧ (t.seq q).g = c.g ∧ (t.seq q).t = c.t ∧
      (t.seq q).p = c.p ∧ (q ≠ 4 → RegsKept [A.SEQ_EVQ_STATUS 4] s t)
    (q.val < 4 → n.val ≠ q.val → quadBase n ≤ x → x < quadBase n + 0x400000 → (blockOf x).isSome = true →
      Fetches s q (.wr w g) → ∃ t, exec (.wr q w g) s = .next t ∧ refuses t) ∧
    (q.val < 4 → x < 0x1000000 → (blockOf x).isSome = true → (∀ e : Fin 5, x ≠ A.SEQ_POST e) →
      Fetches s q (.wr w g) → ∃ t, exec (.wr q w g) s = .next t ∧ refuses t) ∧
    (q = 4 → 0x3000000 ≤ x → x < 0x3400000 →
      Fetches s q (.wr w g) → ∃ t, exec (.wr q w g) s = .next t ∧ refuses t) ∧
    (0xF00000 ≤ x → x < 0x1000000 → Fetches s q (.rd g w) → ∃ t, exec (.rd q g w) s = .next t ∧ refuses t) ∧
    (2 ^ 26 ≤ (c.gr a).toNat → Fetches s q (.rdIndirect g a) →
      ∃ t, exec (.rdIndirect q g a) s = .next t ∧ refuses t) ∧
    (2 ^ 26 ≤ (c.gr a).toNat → Fetches s q (.wrIndirect a g) →
      ∃ t, exec (.wrIndirect q a g) s = .next t ∧ refuses t)

/-- O9. A write of v to SEQs_POST (by the board port: with its write scope open) answers a next state in which a
POSTED entry with DATA = v, the writer's number as CODE and the wall time of the push has joined sequencer s's queue
as its newest, or before those that masters later in the order of R68 have posted in this core cycle; with 256
entries in it the last is discarded and counted in OVERFLOW. POP gN moves the head, but one pushed in this very core
cycle, into gN to gN+3 and sets P = 1; else it returns the last entry again, sets P = 0 and sets UNDERRUN. Nothing
else changes but the PC of the sequencer that pops. (R82, R84) -/
def Obligations.EventQueueRules : Prop :=
  ∀ (s : State) (q : SeqId) (m : Master) (v : Word) (d d1 d2 d3 : GReg),
    let c := s.seq q
    let takes (e : EvEntry) (t : State) : Prop :=
      (t.seq q).gr d = BitVec.ofNat 32 (e.source.toNat + e.code.toNat * 2 ^ 8 + if e.late = true then 2 ^ 16 else 0) ∧
      (t.seq q).gr d1 = e.data ∧ (t.seq q).gr d2 = e.secLo ∧ (t.seq q).gr d3 = e.ns ∧
      ∀ r, r ≠ d → r ≠ d1 → r ≠ d2 → r ≠ d3 → (t.seq q).gr r = c.gr r
    ((m = .board → s.flag F.SEC_STATUS_BOARD_WRITE = true) →
        (∀ b ∈ s.cycleWrites (A.SEQ_POST q), b.whistle = false) → c.queue.length ≤ 256 →
      let before := c.queue.takeWhile fun e => !s.postedAfter m e
      let after := c.queue.dropWhile fun e => !s.postedAfter m e
      let entry : EvEntry := ⟨3, match m with | .sq n => BitVec.ofNat 8 n.val | .sqs => 4 | _ => 5, false, v,
        BitVec.ofNat 32 (s.wallNs / 1000000000), BitVec.ofNat 32 (s.wallNs % 1000000000), some s.wt.cycle⟩
      ∃ t, exec (.post m q v) s = .next t ∧ t = { s with regs := t.regs, seqs := t.seqs, bus := t.bus } ∧
        (∀ r, r ≠ q → t.seq r = s.seq r) ∧ t.seq q = { c with queue := (before ++ [entry] ++ after).take 256, lost := (t.seq q).lost } ∧
        (c.queue.length < 256 → (t.seq q).lost = c.lost) ∧
        (c.queue.length < 256 → RegsKept [] s t) ∧
        (c.queue.length = 256 → RegsKept [A.SEQ_EVQ_STATUS q] s t ∧
          t.get (F.SEQ_EVQ_STATUS_OVERFLOW q) = min (s.get (F.SEQ_EVQ_STATUS_OVERFLOW q) + 1) 65535)) ∧
    (d1.val = d.val + 1 → d2.val = d.val + 2 → d3.val = d.val + 3 → Fetches s q (.pop d) →
      (∀ e rest, c.queue = e :: rest → e.born ≠ some s.wt.cycle → ∃ t, exec (.pop q d) s = .next t ∧ OnlySeq q s t ∧
        t.seq q = { c with queue := rest, last := e, p := true, pc := c.pc + 1, g := (t.seq q).g } ∧ takes e t) ∧
      (c.queue = [] ∨ (∃ e rest, c.queue = e :: rest ∧ e.born = some s.wt.cycle) → ∃ t, exec (.pop q d) s = .next t ∧ t = { s with regs := t.regs, bus := t.bus, seqs := t.seqs } ∧
        (∀ r, r ≠ q → t.seq r = s.seq r) ∧ RegsKept [A.SEQ_EVQ_STATUS q] s t ∧
        t.flag (F.SEQ_EVQ_STATUS_UNDERRUN q) = true ∧
        t.seq q = { c with p := false, pc := c.pc + 1, g := (t.seq q).g } ∧ takes c.last t))

/-- O10. While no latch is due that has yet to be taken, ARM.T and ARM.L answer a next state in which slot a waits
for the time in tN, or for line n of the frame that gK names (n the immediate or the low half of a register), and
its former target is gone, where that instant is not past; an instant up to 2^31 ns in the past instead leaves the
slot disarmed and pushes an ALARM entry with CODE a and LATE. DISARM clears the slot. An ALARM whose time has come
pushes an ALARM entry with CODE a and without LATE and disarms the slot. The other slots and every register stay. An
ALARM that the slot pushed in the core cycle of the ARM or DISARM is no longer in the queue, and one that this full
queue has discarded and counted in the same cycle is not counted. An instant at which a latch is due counts as
reached once that latch has been taken, and a WAIT.T or WAIT.L issued after it but before the latch leaves the
sequencer as it is. WAIT.T of a time that has passed, WAIT.L of a line that has passed (its offset the immediate or
the low half of a register), and FENCE whose planes are covered go on at once with P = 1; FENCE whose time is
reached without cover goes on with P = 0; WAIT.E with an entry in the queue goes on and leaves P. Otherwise each
answers a next state in which the sequencer is WAITING for that target and nothing else has changed. A WAITING
sequencer resumes at the next instruction: WAIT.T and WAIT.L when wall time reaches the target, with P = 0; WAIT.E
when the queue holds an entry, leaving P; FENCE when its planes are covered, with P = 1, or else when its time is
reached, with P = 0. (R76, R77, R79, R80, R81, R83, R86, R181) -/
def Obligations.PorowAlarmsAndWaits : Prop :=
  (∀ (s : State) (q : SeqId) (x : TReg) (k : GReg) (o : LineOff) (a : Fin 8),
     let c := s.seq q
     let now : Int := s.wall16
     let n : Int := match o with | .imm x => x.toInt | .reg r => ((c.gr r).setWidth 16).toInt
     let itsOwn (e : EvEntry) : Prop := e.born = some s.wt.cycle ∧ e.source = 1 ∧ e.code = BitVec.ofNat 8 a.val
     let kept := c.queue.filter fun e => !decide (itsOwn e)
     let noneLost : Prop := ∀ e ∈ c.lost, e.born ≠ some s.wt.cycle
     let armed (l : Option AlarmTarget) (t : State) : Prop :=
       t = s.setSeq q { c with pc := c.pc + 1, alarms := c.alarms.set a l, queue := kept, lost := [] }
     let arms (l : AlarmTarget) (t : State) : Prop := armed (some l) t
     let fires (late : Bool) (pc : BitVec 15) (queue lost : List EvEntry) (t : State) : Prop :=
       t = { s with regs := t.regs, bus := t.bus, seqs := t.seqs } ∧
       Told q 0x01 a late 0 (s.setSeq q { c with pc := pc, alarms := c.alarms.set a none, queue := queue, lost := lost }) t
     let lineDue (L : Int) : Prop := s.cadenceOk = true ∧ L = s.lineAt (s.resolveFrame (c.gr k)) n
     (s.latchDue = none → noneLost → Fetches s q (.armT x a) →
       (now ≤ (c.tr x).units → ∃ t, exec (.armT q x a) s = .next t ∧ arms (.time (c.tr x)) t) ∧
       ((c.tr x).units < now → now ≤ (c.tr x).units + 2 ^ 31 * 65536 →
         ∃ t, exec (.armT q x a) s = .next t ∧ fires true (c.pc + 1) kept [] t)) ∧
     (s.latchDue = none → noneLost → Fetches s q (.armL k o a) →
       (∀ L, lineDue L → now ≤ L → ∃ t, exec (.armL q k o a) s = .next t ∧
         arms (.line (.line (s.resolveFrame (c.gr k)) n)) t) ∧
       (∀ L, lineDue L → L < now → now ≤ L + 2 ^ 31 * 65536 →
         ∃ t, exec (.armL q k o a) s = .next t ∧ fires true (c.pc + 1) kept [] t) ∧
       (s.cadenceOk = false → ∃ t, exec (.armL q k o a) s = .next t ∧
         arms (.line (.unresolved (c.gr k) n)) t)) ∧
     (noneLost → Fetches s q (.disarm a) → ∃ t, exec (.disarm q a) s = .next t ∧ armed none t) ∧
     (∀ e, c.lost = [e] → itsOwn e → kept = c.queue → s.get (F.SEQ_EVQ_STATUS_OVERFLOW q) < 65535 →
       Fetches s q (.disarm a) → ∃ t, exec (.disarm q a) s = .next t ∧
         t.seq q = { c with pc := c.pc + 1, alarms := c.alarms.set a none, lost := [] } ∧
         t.get (F.SEQ_EVQ_STATUS_OVERFLOW q) = s.get (F.SEQ_EVQ_STATUS_OVERFLOW q) - 1) ∧
     (∀ v : TimeVal, c.alarms[a] = some (.time v) → v.units ≤ now → s.latchHolds v.units = false →
       ∃ t, exec (.alarm q a) s = .next t ∧ fires false c.pc c.queue c.lost t)) ∧
  (∀ (s : State) (q : SeqId) (x : TReg) (k m : GReg) (o : LineOff),
     let c := s.seq q
     let now : Int := s.wall16
     let n : Int := match o with | .imm x => x.toInt | .reg r => ((c.gr r).setWidth 16).toInt
     let T := (c.tr x).units
     let on (p : Bool) (t : State) : Prop := t = s.setSeq q { c with p := p, pc := c.pc + 1 }
     let waits (b : SeqBusy) (t : State) : Prop := t = s.setSeq q { c with run := .waiting, busy := b }
     let resumes (p : Bool) (t : State) : Prop :=
       t = s.setSeq q { c with run := .running, busy := .none, p := p, pc := c.pc + 1 }
     let f := s.resolveFrame (c.gr k)
     let covers (f : Int) (mask : BitVec 16) : Prop :=
       ∀ p : Fin 16, mask.getLsbD p.val = true → ∃ h, (s.ing.planes[p]).arrived = some h ∧ f ≤ h
     (Fetches s q (.waitT x) → ∃ t, exec (.waitT q x) s = .next t ∧
       if now ≤ T then waits (.waitT (c.tr x)) t else if s.latchHolds T = true then t = s else on true t) ∧
     (Fetches s q (.waitL k o) → ∃ t, exec (.waitL q k o) s = .next t ∧
       if s.cadenceOk = true then
         if now ≤ s.lineAt f n then waits (.waitL (.line f n)) t
         else if s.latchHolds (s.lineAt f n) = true then t = s else on true t
       else waits (.waitL (.unresolved (c.gr k) n)) t) ∧
     (Fetches s q .waitE → ∃ t, exec (.waitE q) s = .next t ∧ if c.queue = [] then waits .waitE t else on c.p t) ∧
     (Fetches s q (.fence k m x) → ∃ t, exec (.fence q k m x) s = .next t ∧
       (covers f ((c.gr m).setWidth 16) → on true t) ∧
       (¬ covers f ((c.gr m).setWidth 16) →
         if T ≤ now ∧ s.latchHolds T = false then on false t else waits (.fence f ((c.gr m).setWidth 16) (c.tr x)) t)) ∧
     (∀ v, c.busy = .waitT v → v.units ≤ now → s.latchHolds v.units = false → ∃ t, exec (.waitResume q) s = .next t ∧ resumes false t) ∧
     (∀ (j i : Int), c.busy = .waitL (.line j i) → s.cadenceOk = true → s.lineAt j i ≤ now →
       s.latchHolds (s.lineAt j i) = false → ∃ t, exec (.waitResume q) s = .next t ∧ resumes false t) ∧
     (c.busy = .waitE → c.queue ≠ [] → ∃ t, exec (.waitResume q) s = .next t ∧ resumes c.p t) ∧
     (∀ j mask v, c.busy = .fence j mask v →
       (covers j mask → ∃ t, exec (.fenceResume q) s = .next t ∧ resumes true t) ∧
       (¬ covers j mask → v.units ≤ now → s.latchHolds v.units = false → ∃ t, exec (.fenceResume q) s = .next t ∧ resumes false t)))

/-- O11. A write by any master that reaches one register with no effect beyond that register, where no write of this
core cycle by a master later in the order of R68 nor, the other way, through Whistle (case U04) has reached it,
answers a next state in which each RW or RWS bit, and each locked bit whose lock does not hold, takes the value
written, each W1C bit is cleared by a 1, unless the device has set it in this very core cycle, and kept by a 0, and
each read-only or reserved bit stays. A counter is cleared by a write of 0, but for what it has counted in this core
cycle, and stays at any other write. A shadowed register's live value stays, every other register stays, and nothing
else changes but the record of this cycle's accesses and, for a latch that is due, the shadow word it still takes.
Where one write of this cycle by a later master has reached it, the RW, RWS and unlocked bits that it decided keep
its value and W1C bits are still cleared. A write by the board port without its write scope open does nothing.
DROP_WINDOW_WRITE is the same write of 1. (R2, R8, R9, R68, R69, R129, R513, R515, R535) -/
def Obligations.RegisterWrite : Prop :=
  ∀ (s : State) (m : Master) (a : BitVec 26) (v : Word) (r : Nat) (row : RegRow),
    let writes (w v : Word) (t : State) : Prop := Written [r] s t ∧ ∀ i, i < 32 →
      (t.rd r).getLsbD i =
        if row.rw.testBit i || row.rws.testBit i || row.rwl.testBit i then w.getLsbD i
        else if row.w1c.testBit i then
          (s.rd r).getLsbD i && !(v.getLsbD i && !(s.hitsAt r).any fun f => decide (f.lo ≤ i) && decide (i < f.lo + f.w))
        else (s.rd r).getLsbD i
    (s.flag F.SEC_STATUS_BOARD_WRITE = false → exec (.registerWrite .board a v) s = .next s) ∧
    (s.reach m a.toNat true = .regs [r] → writeTo r = .plain → r ≠ A.PWR_CTRL → r ≠ A.PWR_PNL →
    regRow r = some row → (∀ lo w, row.ctr = [(lo, w)] → row.rw = 0 → row.rws = 0 → row.rwl = 0 → row.w1c = 0 →
      Unopposed m a.toNat r s → ∃ t, exec (.registerWrite m a v) s = .next t ∧ Written [r] s t ∧
        if field v lo w = 0 then t.rd r = withField (s.rd r) lo w (min ((s.hitsAt r).countP fun f => f.lo == lo) (2 ^ w - 1))
        else t.rd r = s.rd r) ∧
    (row.ctr = [] → row.w1c &&& (row.rw ||| row.rws ||| row.rwl) = 0 → (row.rwl ≠ 0 → s.locked m row.lock r = false) →
      (Unopposed m a.toNat r s → (∃ t, exec (.registerWrite m a v) s = .next t ∧ writes v v t) ∧
        (∃ t, exec (.dropWindowWrite m a) s = .next t ∧ writes 1 1 t)) ∧
      (∀ b, s.cycleWrites r = [b] → b.whistle = inWhistle a.toNat → masterRank m < b.rank → Undriven r s →
        ∃ t, exec (.registerWrite m a v) s = .next t ∧ writes (mixWords b.mask (s.rd r) v) v t)))

/-- O12. While any quadrant scans, or one did at the end of the core cycle before and the writer has not written in
this one, a write that reaches a scan timing register other than SCAN_VTIMING answers a next state in which the
register is as before and SCAN_TMG_FLAGS.STALE_WRITE is set; while a neighbour port is neither IDLE nor FAILED, a
write to its NBR_q_RATE keeps it and sets that port's STALE_WRITE; while a timed-event slot is armed, a write to its
target registers keeps them, sets WT_FLAGS.STALE_WRITE and, where that flag rises, pushes WT_FLAG with CODE 5 to
SQS. Where no failed self-test nor a lost clock holds the device, a write by SQS or the host to the Whistle window
at the offset of a plain quadrant register answers a next state in which that register of every quadrant selected in
the writer's own copy of WHISTLE_MASK has taken the value, that of every other quadrant and every other register is
as before, and nothing else has changed but the record of this cycle's accesses and, for a latch that is due, the
shadow words it still takes; with no quadrant selected nothing changes. (R70, R71, R512, R515, R516) -/
def Obligations.LockedAndWhistleWrites : Prop :=
  (∀ (s : State) (m : Master) (a : BitVec 26) (v : Word) (r : Nat) (row : RegRow),
     s.reach m a.toNat true = .regs [r] → regRow r = some row → writeTo r = .plain →
     row.rw = 0 → row.rws = 0 → row.w1c = 0 → row.ctr = [] → row.rwl ≠ 0 → Unopposed m a.toNat r s →
     (row.lock = .timing → 0xa0000 ≤ r → r < 0xa1000 →
       s.anyScans = true ∨ s.wroteBefore m = false ∧ s.atCycleStart.anyScans = true →
       ∃ t, exec (.registerWrite m a v) s = .next t ∧ Written [A.SCAN_TMG_FLAGS] s t ∧
         t.flag F.SCAN_TMG_FLAGS_STALE_WRITE = true) ∧
     (∀ q : Fin 4, r = A.NBR_RATE q → s.get (F.NBR_STATUS_STAGE q) ≠ 0 → s.get (F.NBR_STATUS_STAGE q) ≠ 7 →
       ∃ t, exec (.registerWrite m a v) s = .next t ∧ Written [A.NBR_FLAGS q] s t ∧
         t.flag (F.NBR_FLAGS_STALE_WRITE q) = true) ∧
     (∀ e : Fin 32, r = A.WT_EVT_SEC_HI e ∨ r = A.WT_EVT_SEC_LO e ∨ r = A.WT_EVT_NS e ∨ r = A.WT_EVT_FRAC e →
       s.flag (F.WT_EVT_CTRL_ARM e) = true →
       ∃ t, exec (.registerWrite m a v) s = .next t ∧ t = { s with regs := t.regs, seqs := t.seqs, bus := t.bus } ∧
         RegsKept [A.WT_FLAGS, A.SEQ_EVQ_STATUS 4] s t ∧ t.flag F.WT_FLAGS_STALE_WRITE = true ∧
         (s.flag F.WT_FLAGS_STALE_WRITE = false → Told 4 0x20 5 false 0 s t) ∧
         (s.flag F.WT_FLAGS_STALE_WRITE = true → Written [] s t))) ∧
  (∀ (s : State) (m : Master) (off : BitVec 22) (v : Word) (row : QuadId → RegRow),
     let at_ (n : QuadId) : Nat := 0x1000000 + 0x400000 * n.val + off.toNat
     let mask : Nat := match m with | .host => s.whistleHost | _ => s.get ⟨A.WHISTLE_MASK, 0, 4⟩
     s.held = false → m = .sqs ∨ m = .host → off.toNat % 4 = 0 → (blockIn quadBlocks off.toNat).isSome = true →
     (∀ n, PlainReg (at_ n) (row n) ∧ Unopposed m (0x2000000 + off.toNat) (at_ n) s) →
     ∃ t, exec (.whistleWrite m off v) s = .next t ∧ Written ((List.finRange 4).map at_) s t ∧
       (mask = 0 → t = s) ∧
       ∀ n : QuadId, t.rd (at_ n) = if mask.testBit n.val = true then written (row n) (s.rd (at_ n)) v else s.rd (at_ n))

/-- O13. Where no failed self-test nor a lost clock holds the device, an access by any master (the board port with
its scopes open) to an address that lies in no block, neither through Whistle nor through the own-quadrant alias,
answers a next state in which SYS_STATUS.UNMAPPED is set and SYS_UNMAPPED_ADDR holds the address, the master (0 to 3
SQn, 4 SQS, 5 the others), whether it was a write, and VALID; every other register and everything else is as before,
and a read of it returns 0. CAP_POP and CPL_POP, and FIFO_POP at WT_CAP_W3 or DFL_CPL_W3, answer a next state in
which the oldest entry of the capture FIFO, or of the completion FIFO, is gone and is kept as the last value
removed; where there is none but what was pushed in this very core cycle only UNDERRUN of its status is set. The
value read is the head's fourth word, or that of the last value removed; nothing else changes but the record of this
cycle's accesses. FIFO_POP waits, leaving everything as it is, where a master later in the order of R68 has popped
in this core cycle. (R62, R65, R126, R346, R510) -/
def Obligations.UnmappedAndPops : Prop :=
  (∀ (s : State) (m : Master) (a : BitVec 26) (w : Bool) (v : Word),
     s.held = false → blockOf (a.toNat / 4 * 4) = none → a.toNat < 0x2000000 ∨ 0x2400000 ≤ a.toNat ∧ a.toNat < 0x3000000 ∨ 0x3400000 ≤ a.toNat →
     (m = .board → s.flag F.SEC_STATUS_BOARD_READ = true ∧ s.flag F.SEC_STATUS_BOARD_WRITE = true) →
     (s.readAt m a.toNat).1 = 0 ∧
     ∃ t, exec (.unmappedAccess m a w v) s = .next t ∧ OnlyRegs [A.SYS_STATUS, A.SYS_UNMAPPED_ADDR] s t ∧
       t.flag F.SYS_STATUS_UNMAPPED = true ∧
       t.get F.SYS_UNMAPPED_ADDR_ADDR = a.toNat / 4 * 4 ∧
       t.get F.SYS_UNMAPPED_ADDR_MASTER = (match m with | .sq n => n.val | .sqs => 4 | _ => 5) ∧
       t.flag F.SYS_UNMAPPED_ADDR_WRITE = w ∧ t.flag F.SYS_UNMAPPED_ADDR_VALID = true) ∧
  (∀ (s : State) (m : Master) (a : BitVec 26),
     let capEmpty := match s.wt.capFifo with | e :: _ => e.born == some s.wt.cycle | [] => true
     let cplEmpty := match s.dfl.cpl with | e :: _ => e.born == some s.wt.cycle | [] => true
     let under (r : Nat) (f : Fld) (t : State) : Prop := OnlyRegs [r] s t ∧ t.flag f = true
     let cap (t : State) : Prop := if capEmpty = true then under A.WT_CAP_STATUS F.WT_CAP_STATUS_UNDERRUN t
       else t = { s with bus := t.bus, wt := { s.wt with capFifo := s.wt.capFifo.tail,
                                                         capLast := s.wt.capFifo.headD s.wt.capLast } }
     let cpl (t : State) : Prop := if cplEmpty = true then under A.DFL_CPL_STATUS F.DFL_CPL_STATUS_UNDERRUN t
       else t = { s with bus := t.bus, dfl := { s.dfl with cpl := s.dfl.cpl.tail,
                                                           last := (s.dfl.cpl.headD ⟨s.dfl.last, none⟩).words } }
     let word3 (e : CapEntry) : Word :=
       BitVec.ofNat 32 (e.stamp % 65536 + e.src * 2 ^ 16 + if e.rising = true then 2 ^ 21 else 0)
     (∃ t, exec .capPop s = .next t ∧ cap t ∧ (capEmpty = false → t.bus = s.bus)) ∧
     (∃ t, exec .cplPop s = .next t ∧ cpl t ∧ (cplEmpty = false → t.bus = s.bus)) ∧
     (s.reach m a.toNat false = .regs [A.WT_CAP_W3] → ∃ t, exec (.fifoPop m a) s = .next t ∧
       (if s.popWaits m a.toNat = true then t = s else cap t) ∧
       (s.readAt m a.toNat).1 = word3 (if capEmpty = true then s.wt.capLast else s.wt.capFifo.headD s.wt.capLast)) ∧
     (s.reach m a.toNat false = .regs [A.DFL_CPL_W 3] → ∃ t, exec (.fifoPop m a) s = .next t ∧
       (if s.popWaits m a.toNat = true then t = s else cpl t) ∧
       (s.readAt m a.toNat).1 =
         (if cplEmpty = true then s.dfl.last else (s.dfl.cpl.headD ⟨s.dfl.last, none⟩).words).2.2.2))

/-- O14. POSTED_WRITE_DRAIN of an entry whose writes reach plain registers, with no earlier entry for one of their
blocks and no write of this core cycle that overrules them, answers a next state in which those registers have taken
their values, the entry is gone, and nothing else has changed but the record of this cycle's accesses and, for a
latch that is due, the shadow words it still takes. An entry that meets a busy engine stays, and its sequencer, if
RUNNING, stalls until it takes effect. GO_WRITE_COMPLETE with no write posted and the engine idle answers the state
of the same register write by that sequencer, with the sequencer going on at the next instruction or, where a HALT
waited, HALTED. START of a READY sequencer that no bundle in work is loading, without HALT, answers a next state in
which it is RUNNING at its entry address with P = 0, every general and time register 0 and the return stack empty,
while a sequencer in another state stays as it is. SEQ_HALT of a READY, RUNNING, WAITING or FAULTED sequencer,
without START, answers one in which it is HALTED with no wait under way, its posted writes, alarms, registers and PC
as before. Both put HOT_OK as written and change no other register. IMEM_RETRY of a RUNNING sequencer sets
BIST_FLAGS.PARITY and stalls it with WAIT_KIND 6, its PC and registers as before. A stalled fetch is repeated when 1
µs has passed, not before: where it is good the sequencer RUNS on and BIST_FLAGS.IMEM_RETRY is set; where it fails
again the sequencer is FAULTED with IMEM_PARITY. (R67, R73, R87, R102, R103, R105, R106, R477) -/
def Obligations.WritesAndSequencerStates : Prop :=
  (∀ (s : State) (q : SeqId),
     let c := s.seq q
     let m := masterOf q
     (∀ (i : Fin 8) (p : Posted) (r : Nat) (row : Nat → RegRow), c.posted[i.val]? = some p →
       p.mask = none → (∀ j, j < i.val → blocksMeet (s.postedBlocks q j) (s.postedBlocks q i.val) = false) →
       (∀ j, j < p.vals.length → s.reach m (p.addr + 4 * j) true = .regs [r + 4 * j] ∧ PlainReg (r + 4 * j) (row j)) →
       (∀ j, j < p.vals.length → Unopposed m (p.addr + 4 * j) (r + 4 * j) s) →
       0 < p.vals.length → (∀ x v n d, c.busy ≠ .go x v n d) → (∀ x n d, c.busy ≠ .held x n d) →
       ∃ t, exec (.postedWriteDrain q i) s = .next t ∧
         t = { s with regs := t.regs, seqs := (s.setSeq q { c with posted := c.posted.eraseIdx i.val }).seqs, bus := t.bus,
                      frame := { s.frame with keep := t.frame.keep } } ∧
         RegsKept ((List.range p.vals.length).map fun j => r + 4 * j) s t ∧
         ∀ j, j < p.vals.length → t.rd (r + 4 * j) = written (row j) (s.rd (r + 4 * j)) (p.vals.getD j 0)) ∧
     (∀ (i : Fin 8) (p : Posted), c.posted[i.val]? = some p →
       (∀ j, j < i.val → blocksMeet (s.postedBlocks q j) (s.postedBlocks q i.val) = false) →
       (∃ j, j < p.vals.length ∧ s.goBusy m (p.addr + 4 * j) = true) →
       ∃ t, exec (.postedWriteDrain q i) s = .next t ∧
         t = if c.run = .running then s.setSeq q { c with run := .stalled, busy := .held p.addr s.wt.cycle false } else s) ∧
     (∀ (a : BitVec 26) (v : Word) (n : Nat) (d : Bool), c.run = .stalled → c.busy = .go a.toNat v n d → c.posted = [] →
       s.goBusy m a.toNat = false →
       ∃ t u, exec (.goWriteComplete q) s = .next t ∧ exec (.registerWrite m a v) s = .next u ∧
         t = u.setSeq q { u.seq q with run := if (u.seq q).haltReq = true then .halted else .running, busy := .none,
                                       haltReq := false, pc := (u.seq q).pc + 1 })) ∧
  (∀ (s : State) (q : SeqId) (v : Word),
     let c := s.seq q
     let ctrl (t : State) : Prop := t = { s with regs := t.regs, seqs := t.seqs } ∧
       (∀ r, r ≠ q → t.seq r = s.seq r) ∧ RegsKept [A.SEQ_CTRL q] s t ∧ t.flag (F.SEQ_CTRL_HOT_OK q) = v.getLsbD 31
     (v.getLsbD 1 = false → ∃ t, exec (.start q v) s = .next t ∧ ctrl t ∧
       if c.run = .ready ∧ s.beingLoaded q = false then
         t.seq q = { c with run := .running, busy := .none, pc := c.entry, p := false, stack := [],
                            g := Vector.replicate 16 0, t := Vector.replicate 4 ⟨0, 0⟩ }
       else t.seq q = c) ∧
     (v.getLsbD 0 = false → c.run = .ready ∨ c.run = .running ∨ c.run = .waiting ∨ c.run = .faulted →
       ∃ t, exec (.seqHalt q v) s = .next t ∧ ctrl t ∧ t.seq q = { c with run := .halted, busy := .none }) ∧
     (c.run = .running → ∀ again, ∃ t, exec (.imemRetry q again) s = .next t ∧ t.flag F.BIST_FLAGS_PARITY = true ∧
       t.seq q = { c with run := .stalled, busy := .refetch s.wt.cycle again, queue := (t.seq q).queue,
                          lost := (t.seq q).lost } ∧ (t.seq q).busy.waitKind = 6) ∧
     (∀ since again, c.busy = .refetch since again →
       (s.wt.cycle < since + 1600 → s.refetch q = s) ∧
       (since + 1600 ≤ s.wt.cycle → again = false → (s.refetch q).flag F.BIST_FLAGS_IMEM_RETRY = true ∧
         (s.refetch q).seq q = { c with run := .running, busy := .none }) ∧
       (since + 1600 ≤ s.wt.cycle → again = true → let t := s.refetch q; t.flag F.BIST_FLAGS_PARITY = true ∧
         (t.seq q).run = .faulted ∧ (t.seq q).fault = some (.imemParity, c.pc) ∧ SeqFault.imemParity.code = 6 ∧
         (t.seq q).g = c.g ∧ (t.seq q).t = c.t ∧ (t.seq q).pc = c.pc)))

/-- O15. With LIMIT_US not 0 and a GO write of a sequencer, or another posted write of it to a GO register, waiting
for a busy engine for at least that many microseconds, WDOG answers a next state in which a WDOG entry with the
sequencer's number as CODE and its PC as DATA has been pushed to SQS, the sequencer is still STALLED with the same
write under way, and no register but the status of that queue has changed. (R74) -/
def Obligations.WatchdogEvent : Prop :=
  ∀ (s : State) (q : SeqId) (a : Nat) (v : Word) (since : Nat) (b b' : SeqBusy),
    let c := s.seq q
    let limit := s.get (F.SEQ_WDOG_LIMIT_US q)
    c.run = .stalled → c.busy = b →
    (b = .go a v since false ∧ b' = .go a v since true ∧ c.posted = [] ∧ s.goBusy (masterOf q) a = true) ∨
      (b = .held a since false ∧ b' = .held a since true) →
    limit ≠ 0 → since + limit * 1600 ≤ s.wt.cycle →
    ∃ t, exec (.wdog q) s = .next t ∧ t = { s with regs := t.regs, bus := t.bus, seqs := t.seqs } ∧
      RegsKept [A.SEQ_EVQ_STATUS 4] s t ∧ (t.seq q).run = .stalled ∧ (t.seq q).busy = b' ∧
      (t.seq q).pc = c.pc ∧ Told 4 0x24 q false c.pc.toNat (s.setSeq q { c with busy := b' }) t

/-- O16. COMMIT with no posted write of the sequencer to a shadowed register of the quadrants it selects (SQn its
own, with MASK 0; SQS those of MASK), none of which a COMMIT of this core cycle has selected already (then only the
PC moves on), answers a next state in which PENDING of exactly those quadrants is set and, with no latch due that
has yet to be taken and with a valid cadence, k the frame whose start is the next after wall time and its latch
instant still ahead, their COMMIT_FRAME is k modulo 2^32 (before E too: log entry 174); no other register, and of
the sequencer only the PC, changes. At or after that latch instant their COMMIT_FRAME is k + 1, LATE_COMMIT is set
and CMP_LATE_COMMIT with k + 1 joins the queue, if it has room, of the quadrant's own sequencer. While a latch is
due, a COMMIT that was in time for it keeps its COMMIT_FRAME. EVENT answers a next state in which, with DEST HOST or
BOTH and room in the transmit queue, one message to the event flow has joined it, whose body begins with the
sequencer, CODE and DATA_FORM and holds the wall time of issue, gD as data in form 1, and the frame: gD resolved in
form 0, the current one in form 1; with DEST PIN or BOTH, outside Stay, EVT_N is low. (R85, R112, R113, R220, R221,
R307) -/
def Obligations.CommitAndEvent : Prop :=
  ∀ (s : State) (q : SeqId) (mask : BitVec 4) (data : Bool) (dest : EvDest) (g : GReg) (code : Byte),
    let c := s.seq q
    let sel (n : QuadId) : Prop := if q.val < 4 then n.val = q.val else mask.getLsbD n.val = true
    (Fetches s q (.commit mask) → (q.val < 4 → mask = 0) → c.posted = [] →
      (∀ n, sel n → (s.cm n).commitIn = some s.wt.cycle) →
      ∃ t, exec (.commit q mask) s = .next t ∧ t = s.setSeq q { c with pc := c.pc + 1 }) ∧
    (Fetches s q (.commit mask) → (q.val < 4 → mask = 0) → c.posted = [] →
      (∀ n, sel n → (s.cm n).commitIn ≠ some s.wt.cycle) →
      ∃ t, exec (.commit q mask) s = .next t ∧
        (∀ n, sel n → s.latchDue ≠ none → s.flag (F.CMP_STATUS_PENDING n) = true → (s.cm n).lateOnly = false →
          s.cadenceOk = true → t.rd (A.CMP_COMMIT_FRAME n) = s.rd (A.CMP_COMMIT_FRAME n) ∧ (t.cm n).lateOnly = false) ∧
        (∀ k : Int, s.cadenceOk = true → s.latchDue = none → s.frameAt (k - 1) ≤ s.wall16 → s.wall16 < s.frameAt k →
          s.reached (s.latchAt k) = false →
          t = { s with regs := t.regs, bus := t.bus, cmp := t.cmp, seqs := (s.setSeq q { c with pc := c.pc + 1 }).seqs } ∧
          RegsKept ([0, 1, 2, 3].flatMap fun n => [A.CMP_STATUS n, A.CMP_COMMIT_FRAME n]) s t ∧
          ∀ n : QuadId, (sel n → t.rd (A.CMP_COMMIT_FRAME n) = BitVec.ofInt 32 k) ∧
            (¬ sel n → t.rd (A.CMP_COMMIT_FRAME n) = s.rd (A.CMP_COMMIT_FRAME n) ∧
              t.rd (A.CMP_STATUS n) = s.rd (A.CMP_STATUS n))) ∧
        (∀ k : Int, s.cadenceOk = true → s.latchDue = none → s.frameAt (k - 1) ≤ s.wall16 → s.wall16 < s.frameAt k →
          s.reached (s.latchAt k) = true →
          ∀ n : QuadId, (sel n → t.rd (A.CMP_COMMIT_FRAME n) = BitVec.ofInt 32 (k + 1) ∧
              t.flag (F.CMP_STATUS_LATE_COMMIT n) = true ∧
              (let own : SeqId := ⟨n.val, by omega⟩;
               (s.seq own).queue.length < 256 → (t.seq own).queue = (s.seq own).queue ++
                [⟨0x31, BitVec.ofNat 8 n, false, BitVec.ofInt 32 (k + 1), BitVec.ofNat 32 (s.wallNs / 1000000000),
                  BitVec.ofNat 32 (s.wallNs % 1000000000), some s.wt.cycle⟩])) ∧
            (¬ sel n → t.rd (A.CMP_COMMIT_FRAME n) = s.rd (A.CMP_COMMIT_FRAME n) ∧
              t.rd (A.CMP_STATUS n) = s.rd (A.CMP_STATUS n))) ∧
        (∀ n : QuadId, sel n → t.flag (F.CMP_STATUS_PENDING n) = true) ∧ (t.seq q).pc = c.pc + 1) ∧
    (Fetches s q (.event data dest g code) →
      let k : Int := if data = true then s.frameIndex else s.resolveFrame (c.gr g)
      ∃ t, exec (.event q data dest g code) s = .next t ∧
        (∀ r, t.seq r = if r = q then { c with pc := c.pc + 1 } else s.seq r) ∧
        RegsKept [A.BRD_EVT, A.NET_MTX_DROP] s t ∧
        (dest = .pin → t.net = s.net) ∧ (dest ≠ .host → s.inStay = false → t.evtN = true) ∧
        (dest ≠ .pin → s.net.mtx.length < 64 → ∃ b : List Byte,
          t.net = { s.net with mtx := s.net.mtx ++ [⟨none, b, false⟩] } ∧ b.length = 48 ∧
          b.take 12 = [0x08, 0, 0, 0, 0, 0, 0, 0, BitVec.ofNat 8 q.val, code, if data = true then 1 else 0, 0] ∧
          beNat ((b.drop 12).take 8) = s.wallNs / 1000000000 % 2 ^ 64 ∧
          beNat ((b.drop 20).take 4) = s.wallNs % 1000000000 ∧
          beNat ((b.drop 24).take 4) = (if data = true then (c.gr g).toNat else 0) ∧
          (beNat ((b.drop 28).take 4) : Int) = k % 2 ^ 32 ∧
          (s.cadenceOk = false → (b.drop 32).take 15 = [0, 0, 0, 0, 0, 0, 0, 0, 0, 0, 0, 0, 0, 0, 1])))

/-- O17. A one-step Sync that only the active slot takes while LEASHED, with a mean path delay known, answers a next
state in which the slot's offset is the master's time with corrections, plus path delay and asymmetry, minus the
receive stamp truncated to 0.25 ns (its constant that of 10GBASE-R in Stay); the sum of its offsets from wall time
has grown by that offset less D_held; the adjustment is KP times that plus KI times the sum; it is locked after
LOCK_COUNT consecutive samples inside LOCK_NS, and stays so until one reaches four times LOCK_NS. A two-step Sync
holds its stamp and correction for the Follow_Up, which then gives the same kind of sample; without a path delay
only its times are kept. After either Sync a Delay_Req or Pdelay_Req of the slot waits for the port's transmitter
(one after each Sync is the model's choice: log entry 183). The other slot and wall time are as before. With the
end-to-end mechanism, a Delay_Resp that a slot takes, that names this device and repeats the sequenceId of the
slot's last Delay_Req, answers a next state whose mean path delay is half of (t2 - t1) + (t4 - t3) with t4 corrected
and t3 the transmit stamp of that request; with the peer-to-peer mechanism a one-step Pdelay_Resp to the slot's last
Pdelay_Req gives half of t4 - t1 less its correction, and a two-step one, with its Follow_Up, half of (t4 - t1) -
(t3 - t2) less both corrections. A Pdelay_Req that a slot takes is answered on its port, the answer waiting for the
transmitter with the request's receipt stamp. Wall time, the servo state and the other slot are as before. (R30,
R31, R32, R35, R36, R38, R40, R41, R43) -/
def Obligations.PtpSamples : Prop :=
  (∀ (s : State) (d : Fin 2) (h : PtpHdr) (origin : Int) (varLat : Nat),
     let p := s.slot d
     let port := h.frame.port
     let corr := h.corrField.toInt
     let const : Int := ((match (if s.inStay = true then 0 else s.get (F.NET_PORT_MODE_MODE port)) with
       | 0 => 3620 | 1 => 2510 | 2 => 10790 | 3 => 27140 | 4 => 3170 | 5 => 11620 | _ => 0 : Nat) * 65536 / 100 : Nat)
     let t2 : Int := ((s.wall16 : Int) - const - signed 16 (s.get (F.WT_PORT_TRIM_RX_TRIM port)) * 256 - varLat) / 16384 * 16384
     let asym := signed 32 (s.rd (A.WT_DOM_ASYM d)).toNat * 256
     let lockNs : Int := s.get F.WT_LOCK_CFG_LOCK_NS * 65536
     let sampled (t1 stamp : Int) (t : State) : Prop := (t.slot d).lastSyncT = some (t1, stamp) ∧
       ∀ mpd, p.mpd = some mpd →
         let raw := t1 + mpd + asym - stamp
         let err := raw - s.wt.dHeld / 2 ^ 32
         (t.slot d).offset = some raw ∧ (t.slot d).sum = p.sum + err ∧
         (t.slot d).adj = s.get F.WT_SERVO_CFG_KP * err * 16 + s.get F.WT_SERVO_CFG_KI * (p.sum + err) ∧
         ((t.slot d).locked = true ↔ if p.locked = true then -(4 * lockNs) < err ∧ err < 4 * lockNs
           else -lockNs < err ∧ err < lockNs ∧ s.get F.WT_LOCK_CFG_LOCK_COUNT ≤ p.small + 1) ∧
         t.flag (F.WT_DOM_STATUS_LOCKED d) = (t.slot d).locked
     let frame (t : State) : Prop := t = { s with regs := t.regs, wt := t.wt, free := t.free, net := t.net } ∧
       t.wt.wall = s.wt.wall ∧ t.wt.dHeld = s.wt.dHeld ∧ ∀ e, e ≠ d → t.slot e = s.slot e
     let header : Nat := match s.get (F.WT_DOM_CFG_TRANSPORT d) with | 0 => 0 | 1 => 28 | _ => 48
     let body : Nat := if s.flag (F.WT_DOM_CFG_DELAY_MECH d) = true then 54 else 44
     let request : TxItem := { cls := 1, len := max 64 (18 + (header + body)), what := .request d }
     let asks (t : State) : Prop := t.net = { s.net with tx := t.net.tx } ∧
       t.txPort (otherPort port) = s.txPort (otherPort port) ∧
       t.txPort port = { s.txPort port with queue := (s.txPort port).queue ++ [request] }
     TakenBy d h .plain s → s.activeSlot = d → s.leash = .leashed →
     (p.lastSeq ≠ some h.seq ∨ s.get (F.WT_DOM_CFG_PORT_SEL d) ≠ 2 →
       (∃ t, exec (.sync h false origin varLat) s = .next t ∧ frame t ∧ asks t ∧
         sampled (origin + corr) t2 t ∧ (t.slot d).lastSync = s.wt.cycle ∧ (t.slot d).timedOut = false) ∧
       (∃ t, exec (.sync h true origin varLat) s = .next t ∧ frame t ∧ asks t ∧
         (t.slot d).twoStep = some (h.seq, t2, corr) ∧ (t.slot d).lastSync = s.wt.cycle ∧
         (t.slot d).timedOut = false)) ∧
     (∀ stamp c, p.twoStep = some (h.seq, stamp, c) →
       ∃ t, exec (.followUp h origin) s = .next t ∧ frame t ∧ t.net = s.net ∧ sampled (origin + c + corr) stamp t ∧
         (t.slot d).twoStep = none)) ∧
  (∀ (s : State) (d : Fin 2) (h : PtpHdr) (t1 t2 t3 receipt : Int) (varLat : Nat),
     let p := s.slot d
     let port := h.frame.port
     let corr := h.corrField.toInt
     let t4 := s.rxStamp port varLat
     let delay (x : Int) (q : PtpSlot) (t : State) : Prop := t = { s with regs := t.regs, wt := t.wt, free := t.free } ∧
       RegsKept [A.NET_PORT_RX_FRAMES port, A.WT_DOM_MPD d] s t ∧
       (∀ e, t.slot e = if e = d then { q with mpd := some x } else s.slot e) ∧ t.wt.wall = s.wt.wall
     (TakenBy d h .plain s → s.flag (F.WT_DOM_CFG_DELAY_MECH d) = false → p.lastSyncT = some (t1, t2) →
       p.reqSent = some (h.seq, t3) →
       ∃ t, exec (.delayResp h true receipt) s = .next t ∧
         delay (((t2 - t1) + (receipt - corr - t3)) / 2) { p with reqSent := none } t) ∧
     (TakenBy d h .peer s → s.flag (F.WT_DOM_CFG_DELAY_MECH d) = true → p.reqSent = some (h.seq, t1) →
       (∃ t, exec (.pdelayResp h true false t2 varLat) s = .next t ∧
         delay ((t4 - t1 - corr) / 2) { p with reqSent := none } t) ∧
       (∃ t, exec (.pdelayResp h true true t2 varLat) s = .next t ∧
         (∀ e, t.slot e = if e = d then { p with reqSent := none, pdelay := some (h.seq, t1, t2, t4 - corr) }
           else s.slot e) ∧
         RegsKept [A.NET_PORT_RX_FRAMES port] s t)) ∧
     (∀ r, TakenBy d h .peer s → p.pdelay = some (h.seq, t1, t2, r) →
       ∃ t, exec (.pdelayRespFollowUp h true t3) s = .next t ∧
         delay (((r - t1) - (t3 - t2) - corr) / 2) { p with pdelay := none } t) ∧
     (TakenBy d h .peer s → ∃ t, exec (.pdelayReq h varLat) s = .next t ∧
       t = { s with regs := t.regs, net := { s.net with tx := t.net.tx } } ∧
       t.txPort (otherPort port) = s.txPort (otherPort port) ∧
       (∃ len, t.txPort port = { s.txPort port with queue := (s.txPort port).queue ++
         [{ cls := 1, len := len, what := .pdelayResp h.domain h.seq h.clockId h.portNum h.corrField t4 }] }) ∧
       RegsKept [A.NET_PORT_RX_FRAMES port] s t))

/-- O18. An Announce, Signaling or Management message of at most 512 bytes of a domain that slot d listens to, slot
0 not listening too where d is 1 and slot 1, where d is 0 and it listens too, not discarding it, from whatever
master, answers a next state in which it stands in the lowest free receive buffer, marked as PTP, and a PTP_MSG
entry with CODE d and the buffer's index has been pushed to SQS; without a free buffer, or longer, it is dropped and
counted. Where both slots listen and slot 1 discards it, slot 1 counts it in its AUTH_FAIL, whatever slot 0 does. A
message without the valid AUTHENTICATION TLV that the one slot which takes it requires is counted in AUTH_FAIL, and
neither slot nor wall time changes. (R35, R39, R308) -/
def Obligations.PtpFilter : Prop :=
  ∀ (s : State) (d : Fin 2) (h : PtpHdr) (body : List Byte) (origin : Int) (varLat : Nat),
    let heard : Prop := HeardPtp h.frame .plain s ∧ s.slotHears d h = true ∧ (∀ e, e < d → s.slotHears e h = false) ∧
      ∀ e, d < e → s.slotHears e h = true → s.slotRefuses e h = false
    (heard → s.slotRefuses d h = false → body.length ≤ 512 → ∀ b : Fin 32, (s.net.mrx[b]).isNone = true →
      (∀ c : Fin 32, c < b → (s.net.mrx[c]).isSome = true) →
      ∃ t, exec (.announce h body) s = .next t ∧ (t.net.mrx[b]).isSome = true ∧
        (∀ c : Fin 32, c ≠ b → t.net.mrx[c] = s.net.mrx[c]) ∧
        t.rd (A.NET_MRX_INFO b) = BitVec.ofNat 32 (body.length + 2 ^ 12 + h.frame.port.val * 2 ^ 16) ∧
        Told 4 0x21 d false b s t ∧ t = { s with regs := t.regs, bus := t.bus, seqs := t.seqs, net := t.net }) ∧
    (heard → s.slotRefuses d h = false → (512 < body.length ∨ ∀ c : Fin 32, (s.net.mrx[c]).isSome = true) →
      ∃ t, exec (.announce h body) s = .next t ∧
        OnlyRegs [A.NET_PORT_RX_FRAMES h.frame.port, A.NET_MRX_DROP] s t ∧
        (t.rd A.NET_MRX_DROP).toNat = min ((s.rd A.NET_MRX_DROP).toNat + 1) (2 ^ 32 - 1)) ∧
    (HeardPtp h.frame .plain s → (∀ e, s.slotHears e h = true) → s.slotRefuses 1 h = true →
      ∃ t, exec (.announce h body) s = .next t ∧ t.get (F.WT_DOM_STATUS_AUTH_FAIL 1) =
        min (s.get (F.WT_DOM_STATUS_AUTH_FAIL 1) + 1) (2 ^ (F.WT_DOM_STATUS_AUTH_FAIL 1).w - 1)) ∧
    (HeardPtp h.frame .plain s → s.slotTakes d h = true → (∀ e, e ≠ d → s.slotHears e h = false) →
      s.flag (F.WT_DOM_CFG_REQUIRE_AUTH d) = true → (s.slot d).authentic h = false →
      ∀ c : Instr, c = .sync h false origin varLat ∨ c = .sync h true origin varLat ∨
          c = .followUp h origin ∨ c = .announce h body →
        ∃ t, exec c s = .next t ∧ OnlyRegs [A.NET_PORT_RX_FRAMES h.frame.port, A.WT_DOM_STATUS d] s t ∧
          t.get (F.WT_DOM_STATUS_AUTH_FAIL d) =
            min (s.get (F.WT_DOM_STATUS_AUTH_FAIL d) + 1) (2 ^ (F.WT_DOM_STATUS_AUTH_FAIL d).w - 1))

/-- O19. SERVO_EN written 0 answers UNLEASHED from any state with wall time as it is; a slot that drove wall time is
followed from D_held on. SERVO_EN written 1 in UNLEASHED with a valid offset of the active slot answers ACQUIRING,
wall time having been stepped by that offset where no quadrant scans and it is over 1 us, and not otherwise. A slot
that times out is no longer locked and has no valid offset (log entry 17). A timeout of the active slot answers
UNLEASHED from ACQUIRING; from LEASHED a domain switch where the standby slot is usable and AUTO_SWITCH = 1, else
HOLDOVER with the average of its last adjustments held. HOLDOVER_EXPIRED at HO_LIMIT_S answers EXPIRED. Slot
timeouts that are due come before ACTIVE_DOM. With none due, ACTIVE_DOM to a usable standby slot makes it active and
holds the filtered D, with wall time as it is; to one that is not usable it sets DSW_REFUSED; to the active slot it
does nothing. With a rate other than 0 and D_held away from its target, DSW_SLEW_START at or after WT_DSW_SLEW_AT
answers a next state that differs only in SLEWING = 1; DSW_SLEW_END with D_held at WT_DSW_TARGET one in which
SLEWING is 0, WT_DSW_HELD shows D_held in units of 2^-8 ns, and nothing else has changed. (R28, R29, R42, R43, R46,
R47, R48, R50, R51, R52) -/
def Obligations.LeashAndSlew : Prop :=
  (∀ (s : State) (d : Fin 2),
     let a := s.activeSlot
     let usable : Prop := (s.slot s.standbySlot).locked = true ∧
       (s.slot s.standbySlot).lockedAt + s.get F.WT_DSW_CFG_MIN_S * 1600000000 ≤ s.wt.cycle
     let timesOut : Prop := (s.flag (F.WT_DOM_CFG_ENABLE d) = true ∨ (s.slot d).synced = true) ∧ (s.slot d).timedOut = false ∧
       (s.slot d).lastSync + max (s.get (F.WT_DOM_CFG_SYNC_TIMEOUT d)) 1 * s.syncCycles d ≤ s.wt.cycle
     let switched (t : State) : Prop := t.activeSlot = s.standbySlot ∧ t.wt.dHeld = (s.wt.dFilt.getD 0) * 2 ^ 32 ∧
       t.flag F.WT_FLAGS_DSW_DONE = true ∧ t.leash = s.leash ∧ t.wt.wall = s.wt.wall
     (∃ t, exec (.servoEn false) s = .next t ∧ t.leash = .unleashed ∧
       t = { s with regs := t.regs, wt := { s.wt with slots := t.wt.slots, stuck := false } } ∧
       RegsKept [A.WT_CTRL, A.WT_STATUS] s t ∧ (∀ e, e ≠ a → t.slot e = s.slot e) ∧
       t.slot a = if s.disciplined = true then { s.slot a with track := some s.wt.dHeld } else s.slot a) ∧
     (∀ x, s.leash = .unleashed → (s.slot a).offset = some x →
       ∃ t, exec (.servoEn true) s = .next t ∧ t.leash = .acquiring ∧
         t.wt.wall = if s.anyScans = false ∧ (65536000 < x ∨ x < -65536000) then (s.wt.wall + x * 2 ^ 32).toNat
           else s.wt.wall) ∧
     (timesOut → ∃ t, exec (.slotTimeout d) s = .next t ∧ (t.slot d).timedOut = true ∧ (t.slot d).locked = false ∧
       (t.slot d).offset = none ∧
       t.flag (F.WT_DOM_STATUS_TIMEOUT d) = true ∧ t.wt.wall = s.wt.wall ∧
       (d ≠ a → t.leash = s.leash ∧ t.activeSlot = a) ∧
       (d = a → s.leash = .acquiring → t.leash = .unleashed) ∧
       (d = a → s.leash = .leashed → usable → s.flag F.WT_CTRL_AUTO_SWITCH = true → switched t) ∧
       (d = a → s.leash = .leashed → ¬ (usable ∧ s.flag F.WT_CTRL_AUTO_SWITCH = true) → t.leash = .holdover ∧
         t.flag F.WT_FLAGS_HO_ENTER = true ∧ t.activeSlot = a ∧ t.wt.hoCycles = 0 ∧
         ((s.slot a).adjHist ≠ [] →
           t.wt.holdAdj = (s.slot a).adjHist.sum / ((s.slot a).adjHist.length : Int)))) ∧
     (s.leash = .holdover → s.get F.WT_HO_CFG_HO_LIMIT_S * 1600000000 ≤ s.wt.hoCycles →
       ∃ t, exec .holdoverExpired s = .next t ∧ t.leash = .expired ∧ t.flag F.WT_FLAGS_EXPIRED = true ∧ t.wt = s.wt) ∧
     (∀ u v, exec (.slotTimeout 0) s = .next u → exec (.slotTimeout 1) u = .next v →
       exec (.activeDom d) s = exec (.activeDom d) v) ∧
     ((∀ e, s.timeoutDue e = false) → d ≠ a → usable → ∃ t, exec (.activeDom d) s = .next t ∧ switched t) ∧
     ((∀ e, s.timeoutDue e = false) → d ≠ a → ¬ usable → ∃ t, exec (.activeDom d) s = .next t ∧ t.flag F.WT_FLAGS_DSW_REFUSED = true ∧ t.wt = s.wt ∧
       RegsKept [A.WT_FLAGS, A.SEQ_EVQ_STATUS 4] s t) ∧
     ((∀ e, s.timeoutDue e = false) → d = a → ∃ t, exec (.activeDom d) s = .next t ∧ t = s)) ∧
  (∀ s : State,
     let target := signed 32 (s.rd A.WT_DSW_TARGET).toNat * 2 ^ 40
     let slewAt := (((s.rd A.WT_DSW_SLEW_AT_SEC_HI).toNat * 2 ^ 32 + (s.rd A.WT_DSW_SLEW_AT_SEC_LO).toNat) * 10 ^ 9
       + (s.rd A.WT_DSW_SLEW_AT_NS).toNat) * 65536
     (slewAt ≤ s.wall16 → s.flag F.WT_STATUS_DSW_SLEWING = false → s.get F.WT_DSW_SLEW_RATE_RATE ≠ 0 →
       s.wt.dHeld ≠ target →
       ∃ t, exec .dswSlewStart s = .next t ∧ OnlyRegs [A.WT_STATUS] s t ∧ t.flag F.WT_STATUS_DSW_SLEWING = true) ∧
     (s.flag F.WT_STATUS_DSW_SLEWING = true → s.wt.dHeld = target →
       ∃ t, exec .dswSlewEnd s = .next t ∧ OnlyRegs [A.WT_STATUS, A.WT_DSW_HELD] s t ∧
         t.flag F.WT_STATUS_DSW_SLEWING = false ∧ t.rd A.WT_DSW_HELD = s.rd A.WT_DSW_TARGET))

/-- O20. A write to CAD_EPOCH_HI, CAD_EPOCH_LO, CAD_P or CAD_Q while any quadrant scans answers a next state in
which every register but WT_FLAGS and the status of SQS's event queue is as before and WT_FLAGS.STALE_WRITE is set;
while none scans, and none did at the end of the core cycle before, the register takes the value written and the
other three are as before; a latch that is due before the write and is not after it leaves no shadow word, COMMIT or
fence put off to wait for it. SCAN_VTIMING follows the same rule, with SCAN_TMG_FLAGS.STALE_WRITE. (R55) -/
def Obligations.CadenceWrites : Prop :=
  ∀ (s : State) (r : Fin 5) (v : Word),
    let cad : List Nat := [A.CAD_EPOCH_HI, A.CAD_EPOCH_LO, A.CAD_P, A.CAD_Q, A.SCAN_VTIMING]
    let locked : Prop := s.anyScans = true ∨ s.atCycleStart.anyScans = true
    (locked → r.val < 4 →
      ∃ t, exec (.cadenceWrite r v) s = .next t ∧ RegsKept [A.WT_FLAGS, A.SEQ_EVQ_STATUS 4] s t ∧
        t = { s with regs := t.regs, bus := t.bus, seqs := t.seqs } ∧ t.flag F.WT_FLAGS_STALE_WRITE = true) ∧
    (locked → r.val = 4 →
      ∃ t, exec (.cadenceWrite r v) s = .next t ∧ OnlyRegs [A.SCAN_TMG_FLAGS] s t ∧
        t.flag F.SCAN_TMG_FLAGS_STALE_WRITE = true) ∧
    (¬ locked →
      ∃ t, exec (.cadenceWrite r v) s = .next t ∧
        t = { s with regs := t.regs, bus := t.bus, seqs := t.seqs, frame := t.frame, cmp := t.cmp,
                     ing := { s.ing with planes := t.ing.planes } } ∧
        (t.latchDue ≠ s.latchDue → t.frame.keep = [] ∧ (∀ p : Fin 16, (t.ing.planes[p]).due = false) ∧
          ∀ n, (t.cm n).late = false ∧ (t.cm n).lateOnly = false) ∧
        t.rd (cad.getD r.val 0) = (if r.val = 4 then v &&& 0x3FFF3FFF else v) ∧
        ∀ a, a ≠ cad.getD r.val 0 → (∀ q : SeqId, a ≠ A.SEQ_EVQ_STATUS q) → t.rd a = s.rd a)

/-- O21. WALL_TIME_TICK always answers a next state. Where no request to the root of trust waits, no fetch stands
still after a parity error, no case U12 is open and no write of the cycle meets a lock that the cycle has taken,
that state is one core cycle later, with wall time strictly later, and the new cycle keeps what the locks look at as
it stood (log entry 209). The increment differs from 0.625 ns, held with 48 fraction bits, by no more than
WT_FREQ_LIMIT (at most 200,000) ppb, is exactly 0.625 ns in UNLEASHED (with a slew of D_held too, which is the
model's choice: log entry 210), and sets FREQ_CLAMP where more was asked for. The oldest message of the transmit
queue, if any, leaves it once no other message waits for a transmitter of its ports (the model's choice of the
instant, log entry 46). With none leaving, a port that is up and has finished its last frame starts the first
waiting frame of the first class that has one, and is busy for that frame's time at its rate. With no message,
frame, bundle segment or DRAM request waiting, no register but WT_FLAGS and the status of SQS's queue changes, and
nothing else but wall time and SQS does. No contents of DRAM and no pin change in any case. SNAP answers a next
state in which VALID reads 0 and the counter of that instant is held, nothing else having changed. SNAPSHOT_READY
four core cycles later or more answers a next state in which WT_SNAP_SEC_HI, _SEC_LO, _NS and _FRAC hold the
seconds, the nanoseconds from 0 to 999,999,999 and the fraction of that instant in units of 2^-16 ns, VALID reads 1,
and every other register is as before. (R27, R28, R29, R30, R303, R307) -/
def Obligations.TickAndSnapshot : Prop :=
  (∀ s : State, ∃ t, exec .wallTimeTick s = .next t ∧
    (s.rot.queue = [] → s.wild = Vector.replicate 4 none → s.lateLocks s.busNow.writes = [] →
     (∀ q since again, (s.seq q).busy ≠ .refetch since again) →
     let nominal : Int := 5 * 2 ^ 48 / 8
     let limit : Int := (min (s.get F.WT_FREQ_LIMIT_LIMIT) 200000 : Nat)
     let inc : Int := (t.wt.wall : Int) - s.wt.wall
     t.wt.cycle = s.wt.cycle + 1 ∧ s.wt.wall < t.wt.wall ∧
     10 ^ 9 * (inc - nominal) ≤ nominal * limit ∧ -(nominal * limit) - 10 ^ 9 < 10 ^ 9 * (inc - nominal) ∧
     (s.leash = .unleashed → inc = nominal) ∧
     t.bus.cycle = s.wt.cycle + 1 ∧ t.bus.writes = [] ∧ t.bus.pops = [] ∧
     t.bus.before = { regs := s.regs, live := s.live, scan := s.scan, planes := s.ing.planes, rxScan := s.rxScan } ∧
     (s.askedAdj ≠ s.appliedAdj → t.flag F.WT_FLAGS_FREQ_CLAMP = true) ∧
     t = { s with wt := t.wt, net := t.net, regs := t.regs, seqs := t.seqs, sess := t.sess, free := t.free,
                  bus := t.bus, rot := { s.rot with job := t.rot.job, loaded := t.rot.loaded }, dram := t.dram } ∧
     t.wt.evts = s.wt.evts ∧ t.wt.capFifo = s.wt.capFifo ∧ t.net.mrx = s.net.mrx ∧
     (∀ n : QuadId, (t.dr n).mem = (s.dr n).mem) ∧
     (∀ m rest, s.net.mtx = m :: rest →
       ((∀ p ∈ s.msgPorts m, ∀ x ∈ (s.txPort p).queue, x.cls ≠ 2) → t.net.mtx = rest) ∧
       ((∃ p ∈ s.msgPorts m, ∃ x ∈ (s.txPort p).queue, x.cls = 2) → t.net.mtx = m :: rest)) ∧
     (∀ p : PortId, s.net.mtx = [] → s.portUp p = true → (s.txPort p).busy ≤ s.wt.cycle + 1 → (s.txPort p).queue ≠ [] →
       (∀ x ∈ (s.txPort p).queue, 1 ≤ x.cls ∧ x.cls ≤ 3) →
       ∃ x ∈ (s.txPort p).queue, (∀ y ∈ (s.txPort p).queue, x.cls ≤ y.cls) ∧
         (t.txPort p).queue = (s.txPort p).queue.erase x ∧
         (t.txPort p).busy = s.wt.cycle + 1 + frameCycles (s.portMode p) x.len) ∧
     (s.net.mtx = [] → (∀ p : PortId, (s.txPort p).queue = []) → s.rot.job = none →
       (∀ n : QuadId, (s.dr n).rq = [] ∧ (s.dr n).wq = []) →
       RegsKept [A.WT_FLAGS, A.SEQ_EVQ_STATUS 4] s t ∧
         t = { s with wt := t.wt, bus := t.bus, regs := t.regs, seqs := t.seqs } ∧
         ∀ q : SeqId, q.val < 4 → t.seq q = s.seq q))) ∧
  (∀ s : State,
     (∃ t, exec .snap s = .next t ∧ t.get F.WT_SNAP_FRAC_VALID = 0 ∧ RegsKept [A.WT_SNAP_FRAC] s t ∧
       t = { s with regs := t.regs, wt := { s.wt with snapAt := some (s.wt.wall, s.wt.cycle) } }) ∧
     (∀ w c : Nat, s.wt.snapAt = some (w, c) → c + 4 ≤ s.wt.cycle →
       let ns := w / 2 ^ 48
       ∃ t, exec .snapshotReady s = .next t ∧
         t = { s with regs := t.regs, wt := { s.wt with snapAt := none } } ∧
         RegsKept [A.WT_SNAP_SEC_HI, A.WT_SNAP_SEC_LO, A.WT_SNAP_NS, A.WT_SNAP_FRAC] s t ∧
         (ns / 10 ^ 9 < 2 ^ 64 → (t.rd A.WT_SNAP_SEC_HI).toNat * 2 ^ 32 + (t.rd A.WT_SNAP_SEC_LO).toNat = ns / 10 ^ 9) ∧
         (t.rd A.WT_SNAP_NS).toNat = ns % 10 ^ 9 ∧
         t.get ⟨A.WT_SNAP_FRAC, 0, 16⟩ = w / 2 ^ 32 % 2 ^ 16 ∧ t.get F.WT_SNAP_FRAC_VALID = 1))

/-- O22. EVT_ARM of a slot that is disarmed, and was at the end of the core cycle before (R516), whose target lies
ahead answers a next state in which ARM reads 1, ACTION and TARGET are those written, its arming instant is the
present wall time, and no other register has changed; a target up to 2^31 ns in the past and not reserved instead
sets the slot's LATE and WT_FLAGS.EVT_LATE as it fires at once. EVT_ARM of an armed slot leaves ARM, ACTION, TARGET
and its arming as they are, and EVT_DISARM clears ARM and keeps ACTION and TARGET, both with STALE_WRITE where the
written ones differ. Scan-start targets have a statement of their own. EVENT_FIRE of an armed slot at or after its
target answers a next state in which an output TGPIO ball with no earlier edge is driven high (ACTION 0 and 2), low
(1) or toggled (3), with the end of a pulse set WIDTH later; a powered camera trigger likewise, with its time kept;
target 18 starts a thermal round; targets 23 to 27 push a TIMED entry with CODE e. Then the slot is disarmed where
its period is 0, and otherwise stays armed with the period added exactly to its target registers. Where the last
edge of the ball came from another slot less than 2.5 ns away, the higher-numbered slot's edge follows the other by
2.5 ns and its COLLIDE is set: the ball ends at that slot's level. A repeating slot whose target was passed already
when it last fired late sets LATE again (log entry 180). PULSE_END at that end drives low the ball or the trigger
that the pulse drove, whatever the slot's registers hold by then (log entry 175). (R57, R58, R59, R83, R370, R450,
R559) -/
def Obligations.TimedEvents : Prop :=
  (∀ (s : State) (e : Fin 32) (v : Word),
     let target := v.toNat / 2 ^ 8 % 64
     let action := v.toNat / 2 % 4
     let differs : Prop := target ≠ s.get (F.WT_EVT_CTRL_TARGET e) ∨ action ≠ s.get (F.WT_EVT_CTRL_ACTION e)
     (s.flag (F.WT_EVT_CTRL_ARM e) = false → s.atCycleStart.flag (F.WT_EVT_CTRL_ARM e) = false →
       (target < 19 ∨ 23 ≤ target) → (s.wall16 : Int) ≤ s.evtTarget e →
       ∃ t, exec (.evtArm e v) s = .next t ∧ t = { s with regs := t.regs, bus := t.bus, wt := t.wt } ∧
         RegsKept [A.WT_EVT_CTRL e] s t ∧ t.flag (F.WT_EVT_CTRL_ARM e) = true ∧
         t.get (F.WT_EVT_CTRL_TARGET e) = target ∧ t.get (F.WT_EVT_CTRL_ACTION e) = action ∧
         (t.evt e).armedAt = s.wt.wall ∧ (t.evt e).due = .target ∧ (∀ i, i ≠ e → t.evt i = s.evt i) ∧
         t.wt.wall = s.wt.wall) ∧
     (s.flag (F.WT_EVT_CTRL_ARM e) = false → s.atCycleStart.flag (F.WT_EVT_CTRL_ARM e) = false →
       (target < 19 ∨ 23 ≤ target) → target < 28 →
       s.evtTarget e < s.wall16 → (s.wall16 : Int) - s.evtTarget e ≤ 2 ^ 31 * 65536 →
       ∃ t, exec (.evtArm e v) s = .next t ∧ t.flag (F.WT_EVT_CTRL_LATE e) = true ∧
         t.flag F.WT_FLAGS_EVT_LATE = true ∧
         ((s.rd (A.WT_EVT_PERIOD_NS e)).toNat = 0 → (s.rd (A.WT_EVT_PERIOD_FRAC e)).toNat = 0 →
           t.flag (F.WT_EVT_CTRL_ARM e) = false)) ∧
     (s.flag (F.WT_EVT_CTRL_ARM e) = true →
       ∃ t, exec (.evtArm e v) s = .next t ∧ t = { s with regs := t.regs, bus := t.bus, seqs := t.seqs } ∧
         RegsKept [A.WT_EVT_CTRL e, A.WT_FLAGS, A.SEQ_EVQ_STATUS 4] s t ∧ t.flag (F.WT_EVT_CTRL_ARM e) = true ∧
         t.get (F.WT_EVT_CTRL_TARGET e) = s.get (F.WT_EVT_CTRL_TARGET e) ∧
         t.get (F.WT_EVT_CTRL_ACTION e) = s.get (F.WT_EVT_CTRL_ACTION e) ∧
         (differs → t.flag F.WT_FLAGS_STALE_WRITE = true) ∧ (¬ differs → RegsKept [A.WT_EVT_CTRL e] s t)) ∧
     (s.flag (F.WT_EVT_CTRL_ARM e) = true →
       (s.get (F.WT_EVT_CTRL_TARGET e) < 19 ∨ 23 ≤ s.get (F.WT_EVT_CTRL_TARGET e)) →
       ∃ t, exec (.evtDisarm e v) s = .next t ∧ t = { s with regs := t.regs, bus := t.bus, seqs := t.seqs } ∧
         RegsKept [A.WT_EVT_CTRL e, A.WT_FLAGS, A.SEQ_EVQ_STATUS 4] s t ∧ t.flag (F.WT_EVT_CTRL_ARM e) = false ∧
         t.get (F.WT_EVT_CTRL_TARGET e) = s.get (F.WT_EVT_CTRL_TARGET e) ∧
         t.get (F.WT_EVT_CTRL_ACTION e) = s.get (F.WT_EVT_CTRL_ACTION e) ∧
         (differs → t.flag F.WT_FLAGS_STALE_WRITE = true))) ∧
  (∀ (s : State) (e : Fin 32),
     let target := s.get (F.WT_EVT_CTRL_TARGET e)
     let action := s.get (F.WT_EVT_CTRL_ACTION e)
     let x := s.evtTarget e
     let period := (s.rd (A.WT_EVT_PERIOD_NS e)).toNat * 65536 + (s.rd (A.WT_EVT_PERIOD_FRAC e)).toNat
     let ends : Nat := x.toNat + s.get ⟨A.WT_EVT_WIDTH e, 0, 24⟩ * 65536
     let level (was : Bool) : Bool := match action with | 1 => false | 3 => !was | _ => true
     let after (t : State) : Prop := t.wt.wall = s.wt.wall ∧
       (period = 0 → t.flag (F.WT_EVT_CTRL_ARM e) = false ∧ t.evtTarget e = x) ∧
       (period ≠ 0 → x + period < 2 ^ 64 * 10 ^ 9 * 65536 → t.flag (F.WT_EVT_CTRL_ARM e) = true ∧ t.evtTarget e = x + period)
     (s.flag (F.WT_EVT_CTRL_ARM e) = true → (s.evt e).due = .target → x ≤ s.wall16 → (s.evt e).passed x = false →
       (∀ h : target < 16, (s.rd A.GPIO_DIR).getLsbD target = true → s.wt.edges[target]'h = none →
         ∃ t, exec (.eventFire e) s = .next t ∧ after t ∧ t = { s with regs := t.regs, bus := t.bus, wt := t.wt } ∧
           (t.rd A.GPIO_OUT).getLsbD target = level ((s.rd A.GPIO_OUT).getLsbD target) ∧
           (∀ i, i ≠ target → (t.rd A.GPIO_OUT).getLsbD i = (s.rd A.GPIO_OUT).getLsbD i) ∧
           (action = 2 → (t.evt e).pulseEnd = some ends ∧ (t.evt e).pulseTarget.val = target)) ∧
       (∀ h : target < 16, (s.rd A.GPIO_DIR).getLsbD target = true → ∀ o, s.wt.edges[target]'h = some o →
         o.slot ≠ e.val → o.slot < 32 → x - o.at_ < 5 * 65536 / 2 → (o.at_ : Int) - x < 5 * 65536 / 2 →
         let mine := level ((s.rd A.GPIO_OUT).getLsbD target)
         ∃ t, exec (.eventFire e) s = .next t ∧ after t ∧ t.flag F.WT_FLAGS_EVT_COLLIDE = true ∧
           (e.val < o.slot → t.wt.edges[target]'h = some { o with at_ := x.toNat + 5 * 65536 / 2 } ∧
             (t.rd A.GPIO_OUT).getLsbD target = o.level ∧ t.flag (F.WT_EVT_CTRL_COLLIDE o.slot) = true) ∧
           (o.slot < e.val → t.wt.edges[target]'h = some ⟨o.at_ + 5 * 65536 / 2, e.val, mine⟩ ∧
             (t.rd A.GPIO_OUT).getLsbD target = mine ∧ t.flag (F.WT_EVT_CTRL_COLLIDE e) = true)) ∧
       (∀ c : Fin 2, target = 16 + c.val → s.camOn = false → ∃ t, exec (.eventFire e) s = .next t ∧ after t ∧
         t.pins = s.pins) ∧
       (∀ c : Fin 2, target = 16 + c.val → s.camOn = true → ∃ t, exec (.eventFire e) s = .next t ∧ after t ∧
         t = { s with regs := t.regs, bus := t.bus, wt := t.wt, pins := t.pins } ∧
         t.pins.camTrig[c] = level s.pins.camTrig[c] ∧ t.pins.trigAt[c] = some x.toNat ∧
         (action = 2 → (t.evt e).pulseEnd = some ends ∧ (t.evt e).pulseTarget.val = target)) ∧
       (target = 18 → ∃ t, exec (.eventFire e) s = .next t ∧ after t ∧
         t = { s with regs := t.regs, bus := t.bus, wt := t.wt, round := t.round } ∧ t.flag F.THM_STATUS_ROUND_BUSY = true) ∧
       (∀ q : SeqId, target = 23 + q.val → ∃ t, exec (.eventFire e) s = .next t ∧ after t ∧
         t = { s with regs := t.regs, bus := t.bus, wt := t.wt, seqs := t.seqs } ∧ Told q 0x02 e false 0 s t)) ∧
     (s.flag (F.WT_EVT_CTRL_ARM e) = true → target < 28 → (s.evt e).due = .target → x ≤ s.wall16 →
       (s.evt e).passed x = true → period ≠ 0 → ∃ t, exec (.eventFire e) s = .next t ∧
         t.flag (F.WT_EVT_CTRL_LATE e) = true ∧ t.flag F.WT_FLAGS_EVT_LATE = true) ∧
     (let driven := (s.evt e).pulseTarget.val;
      ∀ y, (s.evt e).pulseEnd = some y → y ≤ s.wall16 →
       (∀ h : driven < 16, (s.rd A.GPIO_DIR).getLsbD driven = true → s.wt.edges[driven]'h = none →
         ∃ t, exec (.pulseEnd e) s = .next t ∧ t = { s with regs := t.regs, bus := t.bus, wt := t.wt } ∧
           RegsKept [A.GPIO_OUT] s t ∧ (t.rd A.GPIO_OUT).getLsbD driven = false ∧
           (∀ i, i ≠ driven → (t.rd A.GPIO_OUT).getLsbD i = (s.rd A.GPIO_OUT).getLsbD i) ∧
           (t.evt e).pulseEnd = none) ∧
       (∀ c : Fin 2, driven = 16 + c.val → ∃ t, exec (.pulseEnd e) s = .next t ∧ t.pins.camTrig[c] = false ∧
         t = { s with wt := t.wt, bus := t.bus, pins := t.pins } ∧ (t.evt e).pulseEnd = none)))

/-- O23. EVENT_FIRE of a due slot whose target is a TGPIO ball that GPIO_DIR does not make an output answers a next
state in which the slot's COLLIDE is set, GPIO_OUT and every pin are as before, and the slot has fired: disarmed
with a period of 0, and armed for a later target with another. (R60) -/
def Obligations.EventOnInputPin : Prop :=
  ∀ (s : State) (e : Fin 32),
    let target := s.get (F.WT_EVT_CTRL_TARGET e)
    let period := (s.rd (A.WT_EVT_PERIOD_NS e)).toNat * 65536 + (s.rd (A.WT_EVT_PERIOD_FRAC e)).toNat
    s.flag (F.WT_EVT_CTRL_ARM e) = true → (s.evt e).due = .target → s.evtTarget e ≤ s.wall16 →
    target < 16 → (s.rd A.GPIO_DIR).getLsbD target = false →
    ∃ t, exec (.eventFire e) s = .next t ∧ t.flag (F.WT_EVT_CTRL_COLLIDE e) = true ∧
      t.flag F.WT_FLAGS_EVT_COLLIDE = true ∧ t.rd A.GPIO_OUT = s.rd A.GPIO_OUT ∧ t.pins = s.pins ∧
      t.wt.edges = s.wt.edges ∧ (t.flag (F.WT_EVT_CTRL_ARM e) = true ↔ period ≠ 0)

/-- O24. CAPTURE of an edge of an enabled kind answers a next state in which, with room in the 256-entry FIFO and no
captured edge of that source less than 2.5 ns away, the newest entry is the source, the edge and its stamp: wall
time at the edge, so that no input latency is in it (log entry 21), truncated to a multiple of 0.25 ns; otherwise
OVERFLOW counts it and the FIFO stays. An edge of another kind or source leaves the FIFO and every register alone.
(R30, R61, R62) -/
def Obligations.Captures : Prop :=
  ∀ (s : State) (src : Fin 22) (rising : Bool),
    let wanted : Prop := s.flag (F.WT_CAP_CFG_ENABLE src) = true ∧
      (if rising = true then s.flag (F.WT_CAP_CFG_RISE src) else s.flag (F.WT_CAP_CFG_FALL src)) = true
    let stamp : Nat := s.wall16 / 2 ^ 14 * 2 ^ 14
    let near : Prop := ∃ y, s.wt.capPrev[src] = some y ∧ (stamp : Int) - y < 5 * 65536 / 2 ∧ y - (stamp : Int) < 5 * 65536 / 2
    ∃ t, exec (.capture src rising) s = .next t ∧ t = { s with regs := t.regs, bus := t.bus, wt := t.wt, pins := t.pins } ∧
      RegsKept [A.WT_CAP_STATUS] s t ∧ t.wt.wall = s.wt.wall ∧ t.pins.camTrig = s.pins.camTrig ∧
      (wanted → ¬ near → s.wt.capFifo.length < 256 →
        t.wt.capFifo = s.wt.capFifo ++ [⟨stamp, src.val, rising, some s.wt.cycle⟩] ∧ RegsKept [] s t ∧
        t.wt.capPrev[src] = some (stamp : Int)) ∧
      (wanted → (near ∨ 256 ≤ s.wt.capFifo.length) → t.wt.capFifo = s.wt.capFifo ∧
        t.get F.WT_CAP_STATUS_OVERFLOW = min (s.get F.WT_CAP_STATUS_OVERFLOW + 1) 65535) ∧
      (¬ wanted → t.wt = s.wt ∧ RegsKept [] s t)

/-- O25. EVT_ARM of a slot that is disarmed, and was at the end of the core cycle before (R516), with target 19 + n,
the only armed one of that quadrant, while the quadrant is STOPPED or ARMED and a valid cadence exists, answers a
next state in which quadrant n is ARMED and its start frame k0 is the first frame that starts at or after the slot's
target and whose latch lies after the arming instant; START_LATE is set where an earlier frame starts at or after
the target. While no valid cadence exists a STOPPED quadrant stays STOPPED, with REFUSED set and REASON 2. The other
quadrants stay as they are. (R239, R240, R558) -/
def Obligations.ScanStart : Prop :=
  ∀ (s : State) (e : Fin 32) (v : Word) (n : QuadId),
    let T := s.evtTarget e
    let others : Prop := ∀ i : Fin 32, i ≠ e →
      ¬ (s.flag (F.WT_EVT_CTRL_ARM i) = true ∧ s.get (F.WT_EVT_CTRL_TARGET i) = 19 + n.val)
    s.flag (F.WT_EVT_CTRL_ARM e) = false → s.atCycleStart.flag (F.WT_EVT_CTRL_ARM e) = false →
    v.toNat / 2 ^ 8 % 64 = 19 + n.val → others →
    (s.wall16 : Int) - T ≤ 2 ^ 31 * 65536 →
    (s.cadenceOk = true → (s.scan[n]).run = .stopped ∨ (s.scan[n]).run = .armed →
      ∃ (t : State) (k0 : Int), exec (.evtArm e v) s = .next t ∧ (t.scan[n]).run = .armed ∧
        (t.scan[n]).k0 = some k0 ∧ T ≤ s.frameAt k0 ∧ (s.wall16 : Int) < s.latchAt k0 ∧
        (∀ k < k0, s.frameAt k < T ∨ s.latchAt k ≤ s.wall16) ∧
        ((∃ k < k0, T ≤ s.frameAt k) → t.flag (F.SCAN_FLAGS_START_LATE n) = true) ∧
        t.get (F.SCAN_STATUS_STATE n) = 1 ∧ ∀ m : QuadId, m ≠ n → t.scan[m] = s.scan[m]) ∧
    (s.cadenceOk = false → (s.scan[n]).run = .stopped →
      ∃ t, exec (.evtArm e v) s = .next t ∧ t.scan = s.scan ∧ t.flag (F.SCAN_FLAGS_REFUSED n) = true ∧
        t.rd (A.SCAN_REFUSE n) = 0x80000002)

/-- O26. LATCH for frame k changes nothing unless that latch is due: its instant reached with the cadence as it
stands, and not yet taken. A latch that is due, outside Stay entry, answers a next state that has passed it, in
which a RUNNING quadrant runs on; a STOPPING one is STOPPED with the STOPPED flag, but one whose STOP came at this
very instant takes the latch and stops at the next; an ARMED one with start frame k is RUNNING with
Qn_SCAN_START_FRAME = k, or STOPPED with REFUSED and a reason from 1 to 8, which is 1 where GEO_STATUS.CONFIG_OK is
0; an ARMED one with another start frame stays ARMED; and a STOPPED one stays STOPPED. No instruction or data
memory, register file of a sequencer, key, fuse or session changes. At a LATCH for frame k, a RUNNING quadrant with
a pending COMMIT that did not complete at that very instant and that waits for no sync group, as COMMIT_GROUP stood
at the latch instant, takes the shadow value of every one of its RWS registers, as it was at the latch instant where
it has been written since, as its live value, and its PENDING is clear; a COMMIT that completed at that very instant
leaves PENDING set for frame k + 1. A RUNNING quadrant without a pending COMMIT, and a STOPPED quadrant whatever it
holds pending, keep every live value; no shadow value changes. (R9, R20, R21, R220, R221, R222, R239, R241, R242,
R243, R558) -/
def Obligations.Latch : Prop :=
  (∀ (s : State) (k : Int) (bad : List Nat),
     (s.latchDue ≠ some k → exec (.latch k bad) s = .next s) ∧
     (s.latchDue = some k → s.power.entry = .none →
     ∃ t, exec (.latch k bad) s = .next t ∧ t.frame.latch = some k ∧
       t.wt = s.wt ∧ t.rot = s.rot ∧ t.sess = s.sess ∧ t.pins = s.pins ∧
       (∀ q : SeqId, (t.seq q).imem = (s.seq q).imem ∧ (t.seq q).dmem = (s.seq q).dmem ∧ (t.seq q).g = (s.seq q).g ∧
         (t.seq q).t = (s.seq q).t ∧ (t.seq q).pc = (s.seq q).pc) ∧
       ∀ n : QuadId,
         ((s.scan[n]).run = .running → (t.scan[n]).run = .running) ∧
         ((s.scan[n]).run = .stopped → (t.scan[n]).run = .stopped) ∧
         ((s.scan[n]).run = .stopping → (s.scan[n]).stopNext = false →
           (t.scan[n]).run = .stopped ∧ t.flag (F.SCAN_FLAGS_STOPPED n) = true) ∧
         ((s.scan[n]).run = .stopping → (s.scan[n]).stopNext = true →
           (t.scan[n]).run = .stopping ∧ (t.scan[n]).stopNext = false) ∧
         ((s.scan[n]).run = .armed → (s.scan[n]).k0 ≠ some k → (t.scan[n]).run = .armed) ∧
         ((s.scan[n]).run = .armed → (s.scan[n]).k0 = some k →
           ((t.scan[n]).run = .running ∧ t.rd (A.SCAN_START_FRAME n) = BitVec.ofInt 32 k) ∨
           ((t.scan[n]).run = .stopped ∧ t.flag (F.SCAN_FLAGS_REFUSED n) = true ∧
             ∃ r, 1 ≤ r ∧ r ≤ 8 ∧ t.rd (A.SCAN_REFUSE n) = BitVec.ofNat 32 (r + 2 ^ 31) ∧
               (s.geoOk = false → r = 1))))) ∧
  (∀ (s : State) (k : Int) (bad : List Nat) (n : QuadId),
     s.latchDue = some k →
     ∃ t, exec (.latch k bad) s = .next t ∧
       (∀ m : QuadId, ∀ a ∈ shadowRegs m, t.rd a = s.rd a) ∧
       ((s.scan[n]).run = .running → s.flag (F.CMP_STATUS_PENDING n) = true → s.keptGet (F.CMP_CFG_COMMIT_GROUP n) = 0 →
         (s.cm n).lateOnly = false →
         (∀ a ∈ shadowRegs n, t.liveRd a = (s.frame.keep.lookup a).getD (s.rd a)) ∧
         t.flag (F.CMP_STATUS_PENDING n) = (s.cm n).late) ∧
       ((s.cm n).late = true → t.flag (F.CMP_STATUS_PENDING n) = true ∧
         t.rd (A.CMP_COMMIT_FRAME n) = BitVec.ofInt 32 (k + 1)) ∧
       ((s.scan[n]).run = .running → s.flag (F.CMP_STATUS_PENDING n) = false ∨ (s.cm n).lateOnly = true →
         ∀ a ∈ shadowRegs n, t.liveRd a = s.liveRd a) ∧
       ((s.scan[n]).run = .stopped → (∀ a ∈ shadowRegs n, t.liveRd a = s.liveRd a) ∧
         ((s.cm n).late = false → t.flag (F.CMP_STATUS_PENDING n) = s.flag (F.CMP_STATUS_PENDING n))))

/-- O27. At a LATCH for frame k that quadrant n takes as RUNNING, outside Stay entry: a plane that no sync group
names flips exactly when its fence is due, and a member in use of a group exactly when every member in use is due; a
flip swaps FRONT and writes FLIP_FRAME = k. A group with a due member that does not flip sets its bit of HELD.
EFF_PLANES of quadrant n follows NPLANES, PLANE_LIMIT and the thermal cap. An enabled overlay is live exactly where
it passes the line buffer, rectangle and format checks, each failure setting its flag. A map request takes effect
with MAP_FRAME = k, or leaves the live bank with RANGE_BAD or HELD. Where a temperature report has come since the
latch before, the panel temperature is formed from the reports; with ascending limits the band is the pinned one
while the temperature is within 8 °C of it, else the live one within the hysteresis, else the one that covers it; it
becomes live where its table fits the frame, with WAVE_BAD otherwise; limits that do not ascend keep the live band
with LIMIT_BAD. Every ACTIVE lane group of quadrant n on whose pairs no two lanes clash sends each CDIC the live
table with the smaller of its IREF and the cap. (R169, R180, R183, R213, R218, R219, R232, R250, R251, R252, R254,
R255) -/
def Obligations.LatchSamples : Prop :=
  ∀ (s : State) (k : Int) (bad : List Nat) (n : QuadId),
    s.latchDue = some k → s.power.entry = .none → (s.scan[n]).run = .running →
    let desc (p : Fin 16) : PlaneDesc := { s.planeRegs p with en := s.keptGet (F.SST_PLANE_CTRL_EN p) == 1 }
    let used (p : Fin 16) : Prop := (desc p).en = true ∧ (desc p).ok = true
    let names (g : Nat) (p : Fin 16) : Prop := g < 4 ∧ (s.keptGet (F.SST_SYNC_MASK g)).testBit p.val = true
    let group (g : Nat) (p : Fin 16) : Prop := names g p ∧ ∀ h < g, ¬ names h p
    let due (p : Fin 16) : Prop := s.flipDue p k = true
    let together (g : Nat) : Prop := (∃ p, group g p ∧ used p) ∧ ∀ p, group g p → used p → due p
    let flips (p : Fin 16) : Prop :=
      (∀ g, ¬ names g p) ∧ due p ∨ ∃ g, group g p ∧ used p ∧ together g
    let at_ : Word := BitVec.ofInt 32 k
    ∃ t, exec (.latch k bad) s = .next t ∧
      (∀ p : Fin 16,
        (flips p → t.get (F.SST_PLANE_STATUS_FRONT p) = 1 - s.get (F.SST_PLANE_STATUS_FRONT p) ∧
          t.rd (A.SST_PLANE_FLIP_FRAME p) = at_) ∧
        (¬ flips p → t.get (F.SST_PLANE_STATUS_FRONT p) = s.get (F.SST_PLANE_STATUS_FRONT p) ∧
          t.rd (A.SST_PLANE_FLIP_FRAME p) = s.rd (A.SST_PLANE_FLIP_FRAME p))) ∧
      (∀ g < 4, (∃ p, group g p ∧ due p) → ¬ together g → (t.get F.SST_SYNC_STATUS_HELD).testBit g = true) ∧
      t.get (F.SYN_STATUS_EFF_PLANES n) = min (min 16 (t.liveGet (F.SYN_CFG_NPLANES n)))
        (min (t.liveGet (F.SYN_CFG_PLANE_LIMIT n)) (s.get F.SYN_THERM_CAP_CAP)) ∧
      (∀ o : Fin 2,
        let v := t.ovl n o
        let en : Prop := t.liveFlag (F.OVL_CTRL_EN n o) = true
        let lb : Prop := v.scale = true ∧ 4096 < v.srcW
        let rect : Prop := v.srcW = 0 ∨ v.srcH = 0 ∨ v.w = 0 ∨ v.h = 0 ∨ s.geoOk = false ∨
          s.hogelCols / 4 < v.x + v.w ∨ s.hogelRows < v.y + v.h
        let fmt : Prop := if v.packed = true then 2 ≤ v.fmt else v.pitch = 0
        ((t.get (F.CMP_STATUS_OVL_LIVE n)).testBit o.val = true ↔ en ∧ ¬ lb ∧ ¬ rect ∧ ¬ fmt) ∧
        (en → (lb → (t.get (F.CMP_STATUS_LB_OVERFLOW n)).testBit o.val = true) ∧
          (rect → (t.get (F.CMP_STATUS_RECT_BAD n)).testBit o.val = true) ∧
          (fmt → (t.get (F.CMP_STATUS_FMT_BAD n)).testBit o.val = true))) ∧
      (let en : Prop := s.keptGet (F.MAP_CTRL_EN n) = 1
       let b := s.keptGet (F.MAP_CTRL_BANK n)
       let now : Prop := (en ↔ s.flag (F.MAP_STATUS_LIVE_EN n) = true) ∧ b = s.get (F.MAP_STATUS_LIVE_BANK n)
       let kept : Prop := t.get (F.MAP_STATUS_LIVE_EN n) = s.get (F.MAP_STATUS_LIVE_EN n) ∧
         t.get (F.MAP_STATUS_LIVE_BANK n) = s.get (F.MAP_STATUS_LIVE_BANK n)
       let served : Prop := (t.flag (F.MAP_STATUS_LIVE_EN n) = true ↔ en) ∧ t.get (F.MAP_STATUS_LIVE_BANK n) = b ∧
         t.rd (A.MAP_FRAME n) = at_
       let past : Prop := s.dramSize n < s.mapBase n b + s.mapBankSize
       (now → kept) ∧ (¬ now → ¬ en → served) ∧
       (¬ now → en → past → kept ∧ t.flag (F.MAP_STATUS_RANGE_BAD n) = true) ∧
       (¬ now → en → ¬ past → s.mapBusy n b = true → kept ∧ t.flag (F.MAP_STATUS_HELD n) = true) ∧
       (¬ now → en → ¬ past → s.mapBusy n b = false → served)) ∧
      (s.emw.reports ≠ [] →
        let T := if s.get F.EMW_CTRL_TEMP_SRC = 0 then maxOf s.emw.reports else meanOf s.emw.reports
        let limit (b : Nat) : Int := signed 16 (s.get (F.EMW_LIMIT_LIMIT b))
        let covers (b : Nat) (y : Int) : Prop := (b = 0 ∨ limit (b - 1) - y ≤ T) ∧ (b = 7 ∨ T < limit b + y)
        let live := s.get F.EMW_STATUS_LIVE_BAND
        let pin := s.get F.EMW_CTRL_PIN_BAND
        let choice (b : Nat) : Prop :=
          if s.flag F.EMW_CTRL_PIN_EN = true ∧ covers pin 128 then b = pin
          else if s.emw.chosen = true ∧ covers live (s.get F.EMW_HYST_HYST) then b = live else covers b 0
        let ascend : Prop := ∀ b < 6, limit b < limit (b + 1)
        t.emw.temp = some T ∧
        (ascend → ∀ b < 8, choice b →
          (s.waveOk bad b = true → t.get F.EMW_STATUS_LIVE_BAND = b ∧ (b ≠ live → t.rd A.EMW_BAND_FRAME = at_)) ∧
          (s.waveOk bad b = false → t.get F.EMW_STATUS_LIVE_BAND = live ∧ t.flag F.EMW_STATUS_WAVE_BAD = true)) ∧
        (¬ ascend → t.get F.EMW_STATUS_LIVE_BAND = live ∧ t.flag F.EMW_STATUS_LIMIT_BAD = true)) ∧
      (let band := t.get F.EMW_STATUS_LIVE_BAND
       ∀ x : GroupId, x.quad = n → s.tplActive x = true → s.mapClash x = false → ∀ d < s.cdics x,
         ∃ pairs v e p, TplTx.packet pairs v e p ∈ (t.group x).sent ∧ p.typ = 4 ∧ p.dest = d ∧
           beAt p.payload 2050 1 = band ∧
           beAt p.payload 2048 2 = min (s.tableIref bad band) (s.get F.EMW_IREF_CAP_CAP))

/-- O28. LINE_START of active line m of frame k in its slot, not yet passed, answers a next state in which each
quadrant's LINE reads m and, for a quadrant that is RUNNING or STOPPING and has not aborted k: where the line is
complete in staging and the SYN_GO of k came before its first deadline (R75), the underrun count and the abort
registers are as before; else Qn_SCAN_UNDERRUNS counts one, Qn_SCAN_ABORT_FRAME holds k, Qn_SCAN_ABORT m, and ABORT
is set. A quadrant that has aborted k counts nothing more for it. Scan states, memories and fuses stay. (R23, R244,
R247, R560) -/
def Obligations.LineDeadline : Prop :=
  ∀ (s : State) (k : Int) (m : Nat),
    s.cadenceOk = true → m < s.vActive → m < s.vTotal → s.lineAt k m ≤ s.wall16 →
    (s.wall16 : Int) < s.lineAt k ((m : Int) + 1) → s.frame.line ≠ some (k, m) →
    ∃ t, exec (.lineStart k m) s = .next t ∧ t.frame.line = some (k, m) ∧ t.wt = s.wt ∧ t.rot = s.rot ∧
      t.dram = s.dram ∧ t.ing = s.ing ∧
      ∀ n : QuadId, t.get (F.SCAN_STATUS_LINE n) = m ∧ (t.scan[n]).run = (s.scan[n]).run ∧
        let done : Prop := ∃ l ∈ (s.cmp[n]).staged, l.frame = k ∧ l.line = m
        let same : Prop := t.rd (A.SCAN_UNDERRUNS n) = s.rd (A.SCAN_UNDERRUNS n) ∧
          t.rd (A.SCAN_ABORT n) = s.rd (A.SCAN_ABORT n) ∧ t.rd (A.SCAN_ABORT_FRAME n) = s.rd (A.SCAN_ABORT_FRAME n)
        ((s.scan[n]).run = .stopped ∨ (s.scan[n]).run = .armed → same) ∧
        (done ∧ (s.syn[n]).missed ≠ some k ∨ (s.scan[n]).aborted = some k → same) ∧
        ((s.scan[n]).run = .running ∨ (s.scan[n]).run = .stopping → ¬ done ∨ (s.syn[n]).missed = some k → (s.scan[n]).aborted ≠ some k →
          (t.rd (A.SCAN_UNDERRUNS n)).toNat = min ((s.rd (A.SCAN_UNDERRUNS n)).toNat + 1) (2 ^ 32 - 1) ∧
          t.rd (A.SCAN_ABORT_FRAME n) = BitVec.ofInt 32 k ∧
          t.rd (A.SCAN_ABORT n) = BitVec.ofNat 32 (m + 2 ^ 31) ∧ t.flag (F.SCAN_FLAGS_ABORT n) = true ∧
          (t.scan[n]).aborted = some k)

/-- O29. While no quadrant is RUNNING or STOPPING every row timing ball is at its inactive level: low where its bit
of ROW_POL is 0 and high where it is 1. While one is and a valid cadence exists, ROW_EN is active x ns into the row
slot of an active line exactly for RISE up to FALL, ROW_CK[n mod NPHASE] from RISE for WIDTH ns, and neither in the
row slot of a blanking line, where wall time lies D_ROW and x ns after the start of that line; and ROW_STV for WIDTH
ns from OFS ns, which may be negative, after the start of the row slot of line 0 of that frame or the next.
SCAN_STOP of a RUNNING quadrant answers a next state in which it is STOPPING, for the latch after the one that is
due where one is, and one of a quadrant in any other state changes nothing. A TE_EDGE inside the search window of
the awaited frame within TOL of its instant writes the error in units of 0.25 ns and the frame and nothing else of
the scan; one outside TOL also counts a mismatch, sets TE_MISMATCH and pushes SCAN_TE with CODE 1 to the quadrant's
sequencer. TE_MISSING after the window counts, sets TE_MISSING and pushes CODE 2. Then the next frame is awaited.
(R30, R242, R244, R245, R246, R248) -/
def Obligations.RowPinsAndTearing : Prop :=
  (∀ (s : State) (k : Int) (m : Nat) (x : Nat) (i : Fin 6),
     let runs : Prop := ∃ n : QuadId, (s.scan[n]).run = .running ∨ (s.scan[n]).run = .stopping
     let frac : Int := (s.wall16 : Int) - s.get F.SCAN_ROWDLY_DLY * 65536 - s.lineAt k m
     let u : Int := (s.wall16 : Int) - s.get F.SCAN_ROWDLY_DLY * 65536
     let from_ (j : Int) : Int := s.frameAt j + signed 16 (s.get F.ROW_STV_CFG_OFS) * 65536
     let to_ (j : Int) : Int := from_ j + s.get F.ROW_STV_CFG_WIDTH * 65536
     let pin (pol : Fld) (level active : Bool) : Prop := level = (active != s.flag pol)
     (¬ runs → pin F.ROW_POL_STV s.rowStv false ∧ pin F.ROW_POL_CK (s.rowCk i) false ∧ pin F.ROW_POL_EN s.rowEn false) ∧
     (runs → s.cadenceOk = true → m < s.vTotal → 0 ≤ frac →
       (s.wall16 : Int) - s.get F.SCAN_ROWDLY_DLY * 65536 < s.lineAt k ((m : Int) + 1) → frac / 65536 = x →
       (pin F.ROW_POL_STV s.rowStv
         (decide (from_ k ≤ u ∧ u < to_ k) || decide (from_ (k + 1) ≤ u ∧ u < to_ (k + 1)))) ∧
       (pin F.ROW_POL_EN s.rowEn
         (decide (m < s.vActive) && decide (s.get F.ROW_EN_CFG_RISE ≤ x) && decide (x < s.get F.ROW_EN_CFG_FALL))) ∧
       (pin F.ROW_POL_CK (s.rowCk i)
         (decide (m < s.vActive) && decide (m % s.get F.ROW_CK_CFG_NPHASE = i.val) &&
           decide (s.get F.ROW_CK_CFG_RISE ≤ x) && decide (x < s.get F.ROW_CK_CFG_RISE + s.get F.ROW_CK_CFG_WIDTH))))) ∧
  (∀ (s : State) (n : QuadId) (v : Word) (k : Int),
     let q : SeqId := ⟨n.val, by omega⟩
     let X := s.frameAt k + ((s.get F.SCAN_ROWDLY_DLY : Int) + signed 12 (s.get F.SCAN_TE_CFG_OFS)) * 65536
     let search : Int := s.get F.SCAN_TE_CFG_SEARCH * s.cadP * (10 ^ 9 * 65536) / (s.cadQ * s.vTotal)
     let now : Int := s.wall16
     let err : Int := now / 2 ^ 14 * 2 ^ 14 - X
     let tol : Int := s.get F.SCAN_TE_CFG_TOL * 65536
     let judged (t : State) : Prop := t = { s with regs := t.regs, bus := t.bus, seqs := t.seqs, scan := t.scan, free := t.free } ∧
       (t.scan[n]).te = some (k + 1) ∧ (t.scan[n]).run = (s.scan[n]).run ∧
       (∀ m : QuadId, m ≠ n → t.scan[m] = s.scan[m])
     ((s.scan[n]).run = .running → ∃ t, exec (.scanStop n v) s = .next t ∧ (t.scan[n]).run = .stopping ∧
       (∀ m : QuadId, m ≠ n → t.scan[m] = s.scan[m]) ∧ t = { s with regs := t.regs, scan := t.scan } ∧
       (t.scan[n]).stopNext = s.latchDue.isSome ∧ RegsKept [A.SCAN_STATUS n] s t) ∧
     ((s.scan[n]).run ≠ .running → ∃ t, exec (.scanStop n v) s = .next t ∧ t = s) ∧
     (s.cadenceOk = true → (s.scan[n]).te = some k →
       (X - search ≤ now → now ≤ X + search → ∃ t, exec (.teEdge n) s = .next t ∧ judged t ∧
         t.rd (A.SCAN_TE_FRAME n) = BitVec.ofInt 32 k ∧
         (-(2 ^ 23) ≤ err / 2 ^ 14 → err / 2 ^ 14 < 2 ^ 23 →
           (t.rd (A.SCAN_TE_ERR n)).toNat = (err / 2 ^ 14 % 2 ^ 24).toNat + 2 ^ 31) ∧
         (-tol ≤ err ∧ err ≤ tol → t.seqs = s.seqs ∧
           RegsKept [A.SCAN_TE_ERR n, A.SCAN_TE_FRAME n, A.SCAN_STATUS n] s t) ∧
         (¬ (-tol ≤ err ∧ err ≤ tol) → t.flag (F.SCAN_FLAGS_TE_MISMATCH n) = true ∧
           Told q 0x36 1 false (k % 2 ^ 32).toNat s t)) ∧
       (X + search < now → ∃ t, exec (.teMissing n) s = .next t ∧ judged t ∧
         t.flag (F.SCAN_FLAGS_TE_MISSING n) = true ∧
         t.get (F.SCAN_TE_COUNT_MISSING n) = min (s.get (F.SCAN_TE_COUNT_MISSING n) + 1)
           (2 ^ (F.SCAN_TE_COUNT_MISSING n).w - 1) ∧
         Told q 0x36 2 false (k % 2 ^ 32).toNat s t)))

/-- O30. MUZZLE_FORCE answers a next state in which FORCE and SRC_SW are bit 0 of the value, the thermal and Kennel
sources are as before, SRC_EXT is the ball held low by the board while no internal source drives it, ASSERTED is
their disjunction, and a MUZZLE event has been pushed to SQS exactly where the sources changed. MUZZLE_PIN_SENSE
follows the ball the same way, and sets EXT_SEEN where SRC_EXT is 1. Nothing else changes. (R259, R260) -/
def Obligations.Muzzle : Prop :=
  ∀ (s : State) (v : Word) (low : Bool),
    let th := s.flag F.MUZZLE_STATUS_SRC_THERM
    let ken := s.flag F.MUZZLE_STATUS_SRC_KENNEL
    let after (force pin : Bool) (t : State) : Prop :=
      let ext := pin && !(force || th || ken)
      let code := (if force = true then 1 else 0) + (if th = true then 2 else 0) + (if ken = true then 4 else 0)
        + (if ext = true then 8 else 0)
      RegsKept [A.MUZZLE_CTRL, A.MUZZLE_STATUS, A.SEQ_EVQ_STATUS 4] s t ∧
      t.flag F.MUZZLE_STATUS_SRC_THERM = th ∧ t.flag F.MUZZLE_STATUS_SRC_KENNEL = ken ∧
      t.get ⟨A.MUZZLE_STATUS, 1, 4⟩ = code ∧ t.flag F.MUZZLE_STATUS_ASSERTED = (force || th || ken || ext) ∧
      (ext = true → t.flag F.MUZZLE_STATUS_EXT_SEEN = true) ∧
      t = { s with regs := t.regs, bus := t.bus, seqs := t.seqs, pins := { s.pins with muzzleLow := pin } } ∧
      if s.get ⟨A.MUZZLE_STATUS, 1, 4⟩ = code then t.seqs = s.seqs else Told 4 0x45 code false 0 s t
    (∃ t, exec (.muzzleForce v) s = .next t ∧ t.get ⟨A.MUZZLE_CTRL, 0, 1⟩ = v.toNat % 2 ∧
      after (v.getLsbD 0) s.pins.muzzleLow t) ∧
    (∃ t, exec (.muzzlePinSense low) s = .next t ∧ after (s.flag ⟨A.MUZZLE_CTRL, 0, 1⟩) low t)

/-- O31. While GEO_LOAD is idle, a low-word write through the window by SQS, the host, the root of trust or an
unlocked board port is held with its record index in the writer's holding register and changes no register; a
high-word write of the record that the writer holds places both words and empties the holding register, and one of
another record places its high word alone; either word mends the record's parity. While it is busy both are
discarded with STALE_WRITE. A write by a quadrant's sequencer, by a board port whose scope is not open, or to a
device that is held (log entry 212), changes nothing. GEO_LOAD of an idle engine with a range that fits sets
LOAD_BUSY, or completes where COUNT is 0; one whose range leaves the table sets LOAD_BAD; neither touches the table.
GEO_LOAD_DONE, with DRAM served, in range and without link or inline ECC, places record FIRST + i as the 8 bytes at
SRC + 8i for every record still to copy, and ends the load; no DRAM byte and no other record changes. (R2, R65,
R142, R145, R146, R147, R73) -/
def Obligations.GeometryTables : Prop :=
  ∀ (s : State) (m : Master) (x : Fin 262144) (v : Word),
    let lo := 0x800000 + 8 * x.val
    let busy := s.flag F.GEO_STATUS_LOAD_BUSY
    let may : Bool := !s.held && (match m with
      | .sq _ => false
      | .board => s.flag F.SEC_STATUS_BOARD_WRITE
      | _ => true)
    let discarded (t : State) : Prop :=
      t = { s with regs := t.regs, bus := t.bus } ∧ BitsKept [F.GEO_STATUS_STALE_WRITE] s t ∧
        t.flag F.GEO_STATUS_STALE_WRITE = true
    (may = false → exec (.geoWindowLowWrite m x v) s = .next s ∧ exec (.geoWindowHighWrite m x v) s = .next s) ∧
    (may = true → Unopposed m lo lo s → ∃ t, exec (.geoWindowLowWrite m x v) s = .next t ∧
      (busy = true → discarded t) ∧
      (busy = false → t = { s with geo := t.geo, bus := t.bus } ∧ t.geo.load = s.geo.load ∧ t.geo.bad = s.geo.bad ∧
        t.geo.hold[holdOf m] = some (x.val, v) ∧ ∀ j : Fin 7, j ≠ holdOf m → t.geo.hold[j] = s.geo.hold[j])) ∧
    (may = true → Unopposed m (lo + 4) (lo + 4) s → ∃ t, exec (.geoWindowHighWrite m x v) s = .next t ∧
      (busy = true → discarded t) ∧
      (busy = false → t = { s with regs := t.regs, geo := t.geo, bus := t.bus } ∧ t.geo.load = s.geo.load ∧
        t.geo.bad = s.geo.bad.filter (· ≠ x.val) ∧ t.rd (lo + 4) = v ∧ (∀ j : Fin 7, j ≠ holdOf m → t.geo.hold[j] = s.geo.hold[j]) ∧
        (∀ w, s.geo.hold[holdOf m] = some (x.val, w) →
          RegsKept [lo, lo + 4] s t ∧ t.rd lo = w ∧ t.geo.hold[holdOf m] = none) ∧
        ((∀ w, s.geo.hold[holdOf m] ≠ some (x.val, w)) →
          RegsKept [lo + 4] s t ∧ t.geo.hold[holdOf m] = s.geo.hold[holdOf m]))) ∧
    (busy = false → v.getLsbD 0 = true → ∃ t, exec (.geoLoad v) s = .next t ∧
      t = { s with regs := t.regs, geo := t.geo, bus := t.bus } ∧ t.geo.hold = s.geo.hold ∧
      let first := s.get F.GEO_LOAD_CFG_FIRST
      let count := s.get F.GEO_LOAD_COUNT_COUNT
      BitsKept [F.GEO_STATUS_LOAD_VALID, F.GEO_STATUS_LOAD_BAD, F.GEO_STATUS_LOAD_BUSY, whole A.GEO_LOAD_FRAME] s t ∧
      (262144 < first + count →
        t.flag F.GEO_STATUS_LOAD_BAD = true ∧ t.flag F.GEO_STATUS_LOAD_BUSY = false ∧ t.geo.load = none) ∧
      (first + count ≤ 262144 → 0 < count → t.flag F.GEO_STATUS_LOAD_BUSY = true ∧
        t.flag F.GEO_STATUS_LOAD_VALID = false ∧ t.rd A.GEO_LOAD_FRAME = s.rd A.GEO_LOAD_FRAME ∧
        ∃ g, t.geo.load = some g ∧ g.src = s.get F.GEO_LOAD_SRC_ADDR * 8 ∧ g.quad.val = s.get F.GEO_LOAD_CFG_QUAD ∧
          g.first = first ∧ g.count = count ∧ g.placed = 0) ∧
      (first + count ≤ 262144 → count = 0 → t.flag F.GEO_STATUS_LOAD_BUSY = false ∧ t.geo.load = none)) ∧
    (∀ g, s.geo.load = some g → busy = true → s.dramServes g.quad = true → s.inlineEcc g.quad = false →
      s.flag (F.DRAM_CFG_LINK_ECC g.quad) = false → (s.dr g.quad).u05 = [] → g.first + g.count ≤ 262144 → g.placed ≤ g.count →
      g.src + 8 * g.count ≤ s.dramSize g.quad →
      ∃ t, exec .geoLoadDone s = .next t ∧ t.flag F.GEO_STATUS_LOAD_BUSY = false ∧
        t = { s with regs := t.regs, geo := t.geo, dram := t.dram, free := t.free, bus := t.bus } ∧ t.geo.hold = s.geo.hold ∧
        (∀ n : QuadId, (t.dr n).mem = (s.dr n).mem) ∧
        (∀ i, g.placed ≤ i → i < g.count → t.geoRecord (g.first + i) =
          leNat ((List.range 8).map fun j => (s.dr g.quad).byte (g.src + 8 * i + j))) ∧
        BitsKept ([F.GEO_STATUS_LOAD_BUSY, F.GEO_STATUS_LOAD_VALID, whole A.GEO_LOAD_FRAME] ++
          (List.range (2 * (g.count - g.placed))).map fun j => whole (0x800000 + 8 * (g.first + g.placed) + 4 * j)) s t)

/-- O32. A write of word 0 of a flow context by a master that reaches it, but for flow 0xFFFF from another than the
root of trust, answers a next state in which: a flow that is DISABLED, and was at the end of the core cycle before
(R516), takes MODE, KIND and SESSION and is ACTIVE where STATE is written 1, unless it would stream at 4,096 or
above, which leaves it DISABLED with CFG_BAD; an open flow keeps them and sets STALE_WRITE, is DISABLED by 0 with
its held packets gone and NEXT_SEQ kept, and returned from GAP or BROKEN to ACTIVE by 1 with its held packets and
history gone; 2 and 3 leave STATE. ARENA_BASE_WRITE with no streaming flow open, now or at the end of the core cycle
before, writes the base and empties the history of each flow whose window lies in that quadrant; with one open it
only sets STALE_WRITE. GAP_EXPIRY of a streaming flow that is due makes it BROKEN, gives up every number through the
highest held, discards the held packets and pushes RKN_FLOW with CODE 1; of a flow of MODE 0 that holds one patch or
fence, with a credit of the descriptor queue and no map bank made live in this core cycle, it gives up the numbers
before that packet, accepts it, and is ACTIVE. HISTORY_WINDOW_SWITCH of an inflater that waits for a window, with no
flow resident, its DRAM served, in range, without link or inline ECC, answers a next state in which the inflater
holds the flow's last HIST_LEN history bytes as its arena window holds them before the flow's place in it, decoding
may start, and no byte of DRAM, no register and no other inflater has changed. (R2, R65, R116, R158, R159, R161,
R166, R515) -/
def Obligations.FlowsAndHistory : Prop :=
  (∀ (s : State) (m : Master) (fl : BitVec 16) (v : Word) (n : QuadId),
     let f := fl.toNat
     let st := s.flowState f
     let nx := s.nextSeq f
     let ingress (t : State) : Prop := t.ing = { s.ing with held := t.ing.held, gaps := t.ing.gaps, infl := t.ing.infl,
                                                            kinds := t.ing.kinds }
     let at_ := 0x600000 + 32 * f
     (s.reach m at_ true = .regs [at_] → Unopposed m at_ at_ s → f ≠ 0xFFFF ∨ m = .rot →
       ∃ t, exec (.flowStateWrite m fl v) s = .next t ∧
       t = { s with regs := t.regs, ing := t.ing, bus := t.bus } ∧ ingress t ∧
       BitsKept [F.FLOW_W0_STATE f, F.FLOW_W0_MODE f, F.FLOW_W0_KIND f, F.FLOW_W0_SESSION f, F.FLOW_W0_HELD f,
         F.FLOW_HIST_LEN_LEN f, F.RKN_STATUS_STALE_WRITE, F.RKN_STATUS_CFG_BAD] s t ∧
       (st = 0 → s.atCycleStart.flowState f = 0 → t.flowStreams f = v.getLsbD 4 ∧ t.get (F.FLOW_W0_KIND f) = field v 5 2 ∧
         t.get (F.FLOW_W0_SESSION f) = field v 8 8 ∧ t.get (F.FLOW_HIST_LEN_LEN f) = s.get (F.FLOW_HIST_LEN_LEN f) ∧
         (field v 0 2 = 1 → v.getLsbD 4 = true → 4096 ≤ f →
           t.flowState f = 0 ∧ t.flag F.RKN_STATUS_CFG_BAD = true) ∧
         (field v 0 2 = 1 → v.getLsbD 4 = false ∨ f < 4096 → t.flowState f = 1) ∧
         (field v 0 2 ≠ 1 → t.flowState f = 0)) ∧
       (st ≠ 0 → t.flowStreams f = s.flowStreams f ∧ t.get (F.FLOW_W0_KIND f) = s.get (F.FLOW_W0_KIND f) ∧
         t.get (F.FLOW_W0_SESSION f) = s.get (F.FLOW_W0_SESSION f) ∧ t.flag F.RKN_STATUS_STALE_WRITE = true ∧
         (field v 0 2 = 0 → t.flowState f = 0 ∧ t.heldOf f = [] ∧
           t.get (F.FLOW_HIST_LEN_LEN f) = s.get (F.FLOW_HIST_LEN_LEN f)) ∧
         (field v 0 2 = 1 → st = 1 → t.flowState f = 1 ∧ t.ing = s.ing) ∧
         (field v 0 2 = 1 → st ≠ 1 → t.flowState f = 1 ∧ t.heldOf f = [] ∧ t.get (F.FLOW_HIST_LEN_LEN f) = 0) ∧
         (2 ≤ field v 0 2 → t.flowState f = st ∧ t.ing = s.ing))) ∧
     (∃ t, exec (.arenaBaseWrite n v) s = .next t ∧ t = { s with regs := t.regs, ing := t.ing, bus := t.bus } ∧ ingress t ∧
       (s.streamOpen = true →
         OnlyBits [F.RKN_STATUS_STALE_WRITE] s t ∧ t.flag F.RKN_STATUS_STALE_WRITE = true) ∧
       (s.streamOpen = false → s.atCycleStart.streamOpen = false → t.get (F.RKN_ARENA_BASE_BASE n) = field v 15 17 ∧
         (∀ i, i < 4096 → i % 4 = n.val → t.get (F.FLOW_HIST_LEN_LEN i) = 0) ∧
         BitsKept (F.RKN_ARENA_BASE_BASE n :: (List.range 1024).map fun i => F.FLOW_HIST_LEN_LEN (4 * i + n.val)) s t)) ∧
     (s.gapDue f = true → s.flowStreams f = true → s.heldOf f ≠ [] → ∃ t, exec (.gapExpiry fl) s = .next t ∧
       t = { s with regs := t.regs, ing := t.ing, seqs := t.seqs, bus := t.bus } ∧ ingress t ∧ t.flowState f = 3 ∧ t.heldOf f = [] ∧
       BitsKept [F.FLOW_W0_STATE f, F.FLOW_W0_HELD f, whole (A.FLOW_NEXT_SEQ_LO f), F.FLOW_NEXT_SEQ_HI_HI f,
         F.FLOW_ERRS_LOST f, F.RKN_STATUS_FLOW_BROKEN, F.RKN_STATUS_LOST, whole A.RKN_LAST_ERR,
         F.SEQ_EVQ_STATUS_OVERFLOW 4] s t ∧
       Told 4 0x40 1 false f s t ∧ t.flag F.RKN_STATUS_FLOW_BROKEN = true ∧ t.flag F.RKN_STATUS_LOST = true ∧
       ∃ h ∈ s.heldOf f, (∀ g ∈ s.heldOf f, seqDist g.seq.toNat nx ≤ seqDist h.seq.toNat nx) ∧
         t.nextSeq f = (h.seq.toNat + 1) % 2 ^ 48 ∧
         t.get (F.FLOW_ERRS_LOST f) = min 65535 (s.get (F.FLOW_ERRS_LOST f) + seqDist h.seq.toNat nx + 1)) ∧
     (∀ h, s.gapDue f = true → s.queueRoom = true → (∀ q : QuadId, s.flippedTo q = none) → s.flowStreams f = false → s.flowState f = 2 → s.heldOf f = [h] → h.pkt.hdr.typ ≠ 3 →
       h.pkt.hdr.seq = h.seq → h.pkt.hdr.flow = fl →
       ∃ t, exec (.gapExpiry fl) s = .next t ∧ t.flowState f = 1 ∧ t.heldOf f = [] ∧ t.seqs = s.seqs ∧ t.dram = s.dram ∧
         t.nextSeq f = (h.seq.toNat + 1) % 2 ^ 48 ∧
         t.rd (A.FLOW_ACCEPTED f) = s.rd (A.FLOW_ACCEPTED f) + 1 ∧
         t.get (F.FLOW_ERRS_LOST f) = min 65535 (s.get (F.FLOW_ERRS_LOST f) + seqDist h.seq.toNat nx))) ∧
  (∀ (s : State) (i : Fin 4) (d : InflDesc),
     let n := boundTo d.flow
     let len := s.get (F.FLOW_HIST_LEN_LEN d.flow)
     (s.inflater i).cur = some d → d.enc = 2 → (s.inflater i).ready = false → (s.inflater i).resident = none →
     s.dramServes n = true → s.inlineEcc n = false → s.flag (F.DRAM_CFG_LINK_ECC n) = false →
     (s.dr n).u05 = [] → len ≤ 32768 →
     s.windowAt d.flow + 32768 ≤ s.dramSize n →
     ∃ t, exec (.historyWindowSwitch i) s = .next t ∧
       t = { s with ing := t.ing, dram := t.dram, free := t.free } ∧ t.ing = { s.ing with infl := t.ing.infl } ∧
       (∀ q : QuadId, (t.dr q).mem = (s.dr q).mem) ∧ (∀ j, j ≠ i → t.inflater j = s.inflater j) ∧
       t.inflater i = { s.inflater i with ready := true, resident := some d.flow, win := (t.inflater i).win,
                                          made := [] } ∧
       (t.inflater i).win = (List.range len).map fun j =>
         (s.dr n).byte (s.windowAt d.flow + (s.histPos d.flow + 32768 - len + j) % 32768))

/-- O33. PATCH or FENCE_PACKET with a packet that is heard, in sequence and verified, with a credit of the
descriptor queue and, for a patch, no map bank made live in this core cycle, is accepted with the payload that its
tag verifies. A fence then waits; a patch within its target waits with its payload for an inflater and makes its
plane BUSY, LATE_PATCH where the plane last flipped for its frame or later; one outside its target is counted in
PATCH_BAD and, unless streaming, dropped. PATCH_COMPLETE of a raw patch of the rectangle's length, no packet waiting
for its credit, writes exactly the rectangle's pixels to the back bank. FENCE_COMPLETE of a flow's oldest fence,
every earlier descriptor complete, counts once for each plane that its mask and SURF_MASK name: a later frame
restarts the count at 1, an earlier one is discarded, and at FENCE_NEED the plane is PENDING and covered. (R116,
R153, R160, R165, R172, R173, R174, R178, R179, R181) -/
def Obligations.ScenePackets : Prop :=
  ∀ (s : State) (p : RknPkt) (r : RknMsg) (i : Fin 4) (d : InflDesc) (fl : BitVec 16) (x : FencePkt),
    let hd := rknHdr p
    let f := hd.flow.toNat
    let m := s.resolveFrame hd.frame
    let dest := s.patchTarget r
    let plane : List Fld := match dest with
      | .colour q _ => [F.SST_PLANE_STATUS_BUSY q, F.SST_PLANE_STATUS_LATE_PATCH q]
      | .relief q _ => [F.SST_PLANE_STATUS_BUSY q, F.SST_PLANE_STATUS_LATE_PATCH q]
      | _ => []
    let touched (q : Fin 16) (t : State) : Prop := t.flag (F.SST_PLANE_STATUS_BUSY q) = true ∧
      ∀ k, (s.plane q).flipped = some k → m ≤ k → t.flag (F.SST_PLANE_STATUS_LATE_PATCH q) = true
    (hd.typ = 1 → Heard p s → InSequence p r s → Credited s → (∀ q : QuadId, s.flippedTo q = none) → ∃ t, exec (.patch p) s = .next t ∧
      Accepted p s t ∧ t = { s with regs := t.regs, net := t.net, sess := t.sess, ing := t.ing, bus := t.bus } ∧
      t.ing.scene = s.ing.scene ∧ t.ing.fences = s.ing.fences ∧ t.ing.planes = s.ing.planes ∧
      BitsKept (arrivalFields p ++ plane ++ [whole A.RKN_CNT_PATCH_BAD, F.RKN_STATUS_PATCH_BAD, whole A.RKN_LAST_ERR,
        ⟨A.DFL_STATUS, 0, 4⟩]) s t ∧
      (dest = .nowhere → t.flag F.RKN_STATUS_PATCH_BAD = true ∧
        t.rd A.RKN_LAST_ERR = BitVec.ofNat 32 (f + 0x02 * 2 ^ 16 + 2 ^ 31) ∧
        t.get (whole A.RKN_CNT_PATCH_BAD) = min (s.get (whole A.RKN_CNT_PATCH_BAD) + 1) (2 ^ 32 - 1) ∧
        (RknEnc hd ≠ 2 → t.ing.queue = s.ing.queue ∧ t.ing.infl = s.ing.infl)) ∧
      (dest ≠ .nowhere → t.rd A.RKN_LAST_ERR = s.rd A.RKN_LAST_ERR ∧
        ∃ e ∈ t.descs, e.flow = f ∧ e.ord = s.ing.ord ∧ e.enc = RknEnc hd ∧ e.dest = dest ∧ e.x = hd.x.toNat ∧
          e.y = hd.y.toNat ∧ e.w = hd.w.toNat ∧ e.h = hd.h.toNat ∧ e.bytes = r.body ∧ e.rows = 0) ∧
      (∀ q c, dest = .colour q c → touched q t) ∧ (∀ q c, dest = .relief q c → touched q t)) ∧
    (hd.typ = 2 → Heard p s → InSequence p r s → Credited s → ∃ t, exec (.fencePacket p) s = .next t ∧
      Accepted p s t ∧ t = { s with regs := t.regs, net := t.net, sess := t.sess, ing := t.ing, bus := t.bus } ∧
      t.ing = { s.ing with fences := t.ing.fences, ord := s.ing.ord + 1, gaps := t.ing.gaps,
                             kinds := t.ing.kinds } ∧
      t.ing.fences = s.ing.fences ++ [⟨f, s.ing.ord, m, BitVec.ofNat 16 (beNat r.body)⟩] ∧
      BitsKept (arrivalFields p) s t) ∧
    (∀ (q : Fin 16) (c : PlaneDesc),
      let b := 1 - s.front q
      (s.inflater i).cur = some d → (s.inflater i).ready = true → s.descBlocked d = false → d.dest = .colour q c →
      s.ing.buffer = [] → (∀ h ∈ s.ing.held, s.stalled h.flow = false) → d.enc = 0 → d.rows = 0 → d.bytes.length = 4 * d.w * d.h → d.x + d.w ≤ c.width →
      ∃ t, exec (.patchComplete i) s = .next t ∧ t = { s with regs := t.regs, ing := t.ing } ∧
        BitsKept [⟨A.DFL_STATUS, 0, 4⟩, F.SST_PLANE_STATUS_BUSY q] s t ∧ t.ing.planes = s.ing.planes ∧
        (∀ y c' k, y < d.h → c' < d.w → k < 4 →
          t.sceneByte (c.pixelAt b (d.x + c') (d.y + y) + k) = d.bytes.getD ((y * d.w + c') * 4 + k) 0) ∧
        ∀ a, (∀ y c' k, y < d.h → c' < d.w → k < 4 → a ≠ c.pixelAt b (d.x + c') (d.y + y) + k) →
          t.sceneByte a = s.sceneByte a) ∧
    (s.ing.fences.find? (fun y => y.flow == fl.toNat) = some x → (∀ e ∈ s.descs, e.flow = x.flow → x.ord ≤ e.ord) →
      ∃ t, exec (.fenceComplete fl) s = .next t ∧ t.ing.scene = s.ing.scene ∧ t.dram = s.dram ∧
        t.ing.fences = s.ing.fences.filter (fun y => y.ord != x.ord) ∧
        ∀ q : Fin 16,
          let named := bit ((s.rd (A.FLOW_SURF_MASK x.flow)).toNat &&& x.mask.toNat) q.val
          let count := s.get (F.SST_PLANE_STATUS_COUNT q)
          let same : Prop := t.plane q = s.plane q ∧ t.rd (A.SST_PLANE_STATUS q) = s.rd (A.SST_PLANE_STATUS q) ∧
            t.rd (A.SST_PLANE_FENCE q) = s.rd (A.SST_PLANE_FENCE q)
          (named = false → same) ∧
          (∀ c, named = true → (s.plane q).counted = some c →
            (x.frame < c → same) ∧
            (x.frame = c → t.get (F.SST_PLANE_STATUS_COUNT q) = min (count + 1) 15 ∧
              (count + 1 = s.fenceNeed q → (s.plane q).arrived ≠ some x.frame →
                t.flag (F.SST_PLANE_STATUS_PENDING q) = true ∧ t.covered q x.frame = true))) ∧
          (named = true → (∀ c, (s.plane q).counted = some c → c < x.frame) →
            t.rd (A.SST_PLANE_FENCE q) = BitVec.ofInt 32 x.frame ∧ t.get (F.SST_PLANE_STATUS_COUNT q) = 1 ∧
            t.flag (F.SST_PLANE_STATUS_PENDING q) = decide (s.fenceNeed q = 1) ∧
            (s.fenceNeed q = 1 → t.covered q x.frame = true)))

/-- O34. SYN_GO of an idle synthesiser with a valid cadence and geometry makes it busy with the frame that the value
resolves to and line 0 next, LATE_GO where L(k, -RUNAHEAD) has passed; without them it only sets GO_BAD.
SYN_LINE_START of a due line, no line being in work, takes it into work with one ray per hogel column and direction,
no alpha above 65,536 and no colour above 131,071, and every ray transparent at no cost but its stall where N_eff is
0. SYN_LINE_COMPLETE of the oldest line, its cycles having passed, with a credit of the output staging (log entry
66), hands its rays to composition; the last line of the frame also writes SYN_FRAME and the sample counters, clears
BUSY and pushes SYN_DONE. Other quadrants' synthesis, and every byte of scene store and DRAM, stay. (R22, R75, R182,
R187, R192, R193, R199, R517, R558) -/
def Obligations.SynthesisLines : Prop :=
  ∀ (s : State) (n : QuadId) (v : Word) (k : Int) (perr fails corr lut : List Nat) (stall : Nat) (l : SynLine)
    (rest : List SynLine),
    let only (t : State) : Prop := (∀ m, m ≠ n → t.sy m = s.sy m) ∧ (∀ m, m ≠ n → t.cm m = s.cm m)
    let samples := (s.sy n).samples
    (s.flag (F.SYN_STATUS_BUSY n) = false →
      (s.cadenceOk = true → s.geoOk = true → ∃ t, exec (.synGo n v) s = .next t ∧
        t = { s with regs := t.regs, syn := t.syn, bus := t.bus } ∧ only t ∧
        (t.sy n).frame = some (s.resolveFrame v) ∧ (t.sy n).next = 0 ∧ (t.sy n).work = [] ∧
        t.flag (F.SYN_STATUS_BUSY n) = true ∧ t.flag (F.SYN_SAMPLES_HI_VALID n) = false ∧
        (s.lineAt (s.resolveFrame v) (-(s.runahead : Int)) < (s.wall16 : Int) →
          t.flag (F.SYN_STATUS_LATE_GO n) = true) ∧
        BitsKept [F.SYN_STATUS_BUSY n, F.SYN_STATUS_LATE_GO n, F.SYN_SAMPLES_HI_VALID n] s t) ∧
      (s.cadenceOk = false ∨ s.geoOk = false → ∃ t, exec (.synGo n v) s = .next t ∧
        OnlyBits [F.SYN_STATUS_GO_BAD n] s t ∧ t.flag (F.SYN_STATUS_GO_BAD n) = true)) ∧
    ((s.sy n).frame = some k → s.lineDue k (s.sy n).next = true → (s.sy n).work = [] →
      ∃ t, exec (.synLineStart n perr fails corr lut stall) s = .next t ∧ only t ∧ t.cmp = s.cmp ∧
        t.ing.scene = s.ing.scene ∧ (∀ m : QuadId, (t.dr m).mem = (s.dr m).mem) ∧ t.wt = s.wt ∧
        (t.sy n).frame = some k ∧ (t.sy n).next = (s.sy n).next + 1 ∧
        ∃ x : SynLine, (t.sy n).work = [x] ∧ x.line = (s.sy n).next ∧ x.since = s.wt.cycle ∧
          x.rays.length = s.hogelCols / 4 * s.dirCols ∧
          (∀ r ∈ x.rays, r.c0 ≤ 131071 ∧ r.c1 ≤ 131071 ∧ r.c2 ≤ 131071 ∧ r.a ≤ 65536) ∧
          (s.geo.load = none → s.get (F.SYN_STATUS_EFF_PLANES n) = 0 → (∀ r ∈ x.rays, r = {}) ∧ x.cost = stall)) ∧
    ((s.sy n).frame = some k → (s.sy n).work = l :: rest →
      max l.since (s.sy n).doneAt + (if l.fill = true then 48 else 0) + l.cost ≤ s.wt.cycle →
      (s.cm n).ready.length + (s.cm n).staged.length ≤ s.runahead →
      ∃ t, exec (.synLineComplete n) s = .next t ∧ only t ∧ (t.sy n).work = rest ∧ (t.sy n).doneAt = s.wt.cycle ∧
        t.cm n = { s.cm n with ready := (s.cm n).ready ++ [⟨k, l.line, l.rays⟩] } ∧
        (l.line + 1 ≠ s.vActive → t = { s with syn := t.syn, cmp := t.cmp } ∧ (t.sy n).frame = some k) ∧
        (l.line + 1 = s.vActive → t = { s with syn := t.syn, cmp := t.cmp, regs := t.regs, seqs := t.seqs, bus := t.bus } ∧
          (t.sy n).frame = none ∧ t.flag (F.SYN_STATUS_BUSY n) = false ∧
          t.rd (A.SYN_FRAME n) = BitVec.ofInt 32 k ∧ (t.rd (A.SYN_SAMPLES_LO n)).toNat = samples % 2 ^ 32 ∧
          (t.rd (A.SYN_SAMPLES_HI n)).toNat = samples / 2 ^ 32 % 16 + 2 ^ 31 ∧
          BitsKept [whole (A.SYN_FRAME n), whole (A.SYN_SAMPLES_LO n), whole (A.SYN_SAMPLES_HI n),
            whole (A.SYN_XSTALL n), whole (A.SYN_MAXLINE n), F.SYN_STATUS_BUSY n, F.SEQ_EVQ_STATUS_OVERFLOW n.val] s t ∧
          Told ⟨n.val, by omega⟩ 0x12 0 false (k % 2 ^ 32).toNat s t))

/-- O35. COMPOSE_LINE of a line of an aborted frame discards that frame's lines; of the oldest waiting line of
another frame, once composable, it moves the line to staging with one code per emitter; with no overlay and no map
live and no parity error, the code of colour k is e[i] + ((e[i+1] - e[i])·f + 16 >> 5) of the post-blend LUT for the
ray's colour k held to 131,071. OVERLAY_ROW_READ buffers the next row that is missing, on a linear surface the pixel
codes at BASE + y·PITCH + x·bytes. MAP_STREAM_FETCH appends the next header or slice with the bytes of its place in
the live bank, LEVEL following, and sets STREAM_DONE with the last. LUT_WRITE places the word, ten bits of each half
for the post-blend set, or sets LUT_STALE alone where the bank is locked. (R201, R202, R203, R205, R206, R211, R212,
R228, R229, R231, R247) -/
def Obligations.CompositionLines : Prop :=
  ∀ (s : State) (n : QuadId) (lut : List Nat) (bad corr : List (Nat × Bool)) (l : CmpLine) (rest : List CmpLine),
    let clean : Prop := s.inlineEcc n = false ∧ s.flag (F.DRAM_CFG_LINK_ECC n) = false ∧ (s.dr n).u05 = []
    let others (t : State) : Prop := (∀ m, m ≠ n → t.cm m = s.cm m) ∧ (∀ m, m ≠ n → t.mp m = s.mp m) ∧
      ∀ m : QuadId, (t.dr m).mem = (s.dr m).mem
    ((s.cm n).ready = l :: rest → (s.scanU n).aborted = some l.frame →
      ∃ t, exec (.composeLine n lut bad corr) s = .next t ∧ others t ∧
        t = { s with regs := t.regs, syn := t.syn, cmp := t.cmp, map := t.map, bus := t.bus } ∧
        BitsKept [F.SYN_STATUS_ABANDON n, F.SYN_STATUS_BUSY n, F.MAP_LEVEL_LEVEL n] s t ∧
        t.flag (F.SYN_STATUS_ABANDON n) = true ∧
        (t.cm n).ready = (s.cm n).ready.filter (fun x => decide (x.frame ≠ l.frame)) ∧
        (t.cm n).staged = (s.cm n).staged.filter (fun x => decide (x.frame ≠ l.frame))) ∧
    ((s.cm n).ready = l :: rest → (s.scanU n).aborted ≠ some l.frame → s.composable n l = true →
      ∃ t codes, exec (.composeLine n lut bad corr) s = .next t ∧ others t ∧ t.ing = s.ing ∧ t.syn = s.syn ∧
        t.cm n = { s.cm n with frame := some l.frame, next := l.line + 1, ready := rest,
                               staged := (s.cm n).staged ++ [⟨l.frame, l.line, codes⟩] } ∧
        codes.length = s.hogelCols / 4 * s.dirCols * 3 ∧
        (lut = [] → s.get (F.CMP_STATUS_OVL_LIVE n) = 0 → s.flag (F.MAP_STATUS_LIVE_EN n) = false →
          t = { s with cmp := t.cmp, map := t.map } ∧
          ∀ i k, i < s.hogelCols / 4 * s.dirCols → k < 3 →
            let W := min ((l.rays.getD i {}).ch k) 131071
            let e (j : Nat) : Int := s.postLut n [] k (min j 4095)
            codes.getD (3 * i + k) 0 =
              BitVec.ofInt 10 (e (W / 32) + ((e (W / 32 + 1) - e (W / 32)) * (W % 32 : Nat) + 16) / 32))) ∧
    (∀ (o : Fin 2) (y : Nat) (ys : List Nat), s.ovlMissing n o (s.cmpRow n) = y :: ys → s.dramServes n = true →
      (s.cm n).next < s.vActive →
      let v := s.ovl n o
      let at_ (x : Nat) := v.base / 64 * 64 + y * v.pitch + x * v.bytes
      ∃ t r, exec (.overlayRowRead n o) s = .next t ∧ others t ∧ t.ing = s.ing ∧ t.map = s.map ∧
        r ∈ (t.cm n).ovl[o] ∧ r.y = y ∧ y ∉ t.ovlMissing n o (s.cmpRow n) ∧
        t.cm n = { s.cm n with ovl := (t.cm n).ovl } ∧ (t.cm n).ovl[1 - o] = (s.cm n).ovl[1 - o] ∧
        (clean → v.packed = false → (∀ x ∈ v.cols, at_ x < s.dramSize n) →
          t = { s with cmp := t.cmp, dram := t.dram, free := t.free } ∧
          r.px = v.cols.map fun x => (x, some (leNat ((List.range v.bytes).map fun j => (s.dr n).byte (at_ x + j)))))) ∧
    (let m := s.mp n
      let w := s.hogelCols / 4
      let group := (1 + s.dirRows) * w
      let part := m.pos % group / w
      let at_ := s.mapBase n (s.get (F.MAP_STATUS_LIVE_BANK n)) + (m.pos / group * w + m.pos % w) * s.recSize
        + (if part = 0 then 0 else 64 + (part - 1) * s.sliceBytes)
      let len := if part = 0 then 64 else s.sliceBytes
      m.frame.isSome = true → s.geoOk = true → m.pos / group < s.hogelRows → s.dramServes n = true →
      s.mapLevel n + len / 64 ≤ 32768 → clean → at_ + len ≤ s.dramSize n →
      ∃ t, exec (.mapStreamFetch n) s = .next t ∧ others t ∧
        t = { s with regs := t.regs, map := t.map, dram := t.dram, free := t.free, bus := t.bus } ∧
        t.mp n = { m with pos := m.pos + 1, items := m.items ++ [⟨m.pos / group, part, m.pos % w,
          some (leNat ((List.range len).map fun j => (s.dr n).byte (at_ + j)))⟩] } ∧
        BitsKept [F.MAP_LEVEL_LEVEL n, F.MAP_STATUS_STREAM_DONE n] s t ∧
        t.get (F.MAP_LEVEL_LEVEL n) = s.mapLevel n + len / 64 ∧
        (m.pos + 1 = s.hogelRows * group → t.flag (F.MAP_STATUS_STREAM_DONE n) = true)) ∧
    (∀ (x : Fin 19) (b : Fin 2) (ch : Fin 3) (i : Fin 2048) (v : Word),
      let a := lutAddr n x b ch i
      x.val < 18 → i.val < 512 → ∃ t, exec (.lutWrite n x b ch i v) s = .next t ∧
        (s.lutLocked n x b = true → OnlyBits [F.CMP_STATUS_LUT_STALE n] s t ∧ t.flag (F.CMP_STATUS_LUT_STALE n) = true) ∧
        (s.lutLocked n x b = false → OnlyRegs [a] s t ∧ t.rd a = v)) ∧
    (∀ (b : Fin 2) (ch : Fin 3) (i : Fin 2048) (v : Word),
      let a := lutAddr n 18 b ch i
      ∃ t, exec (.lutWrite n 18 b ch i v) s = .next t ∧
        (s.lutLocked n 18 b = true → OnlyBits [F.CMP_STATUS_LUT_STALE n] s t ∧ t.flag (F.CMP_STATUS_LUT_STALE n) = true) ∧
        (s.lutLocked n 18 b = false → OnlyRegs [a] s t ∧ t.get ⟨a, 0, 10⟩ = v.toNat % 1024 ∧
          t.get ⟨a, 16, 10⟩ = v.toNat / 65536 % 1024 ∧ t.get ⟨a, 10, 6⟩ = 0 ∧ t.get ⟨a, 26, 6⟩ = 0))

/-- O36. For every lane group: START in IDLE or FAILED enters DETECT with TARGET = 0, elsewhere only AUTO and ROT_EN
are taken; STOP enters IDLE, and while the quadrant scans only sets STALE_WRITE; DETECT that has lasted 10 us with
the clock pair and at least six data pairs enters TRAIN with DET, and the pair that no lane names free, a lane on an
excluded pair moved to it with NOSPARE; else FAILED with TRAIN_FAIL and CODE 5; a back-channel lock takes TRAIN to
BIT_LOCK; a stage that times out fails; STATUS of CDIC 0 takes LOCK, counts CRC errors, notes a valid temperature,
and takes BIT_LOCK to SYMBOL_LOCK and SYMBOL_LOCK to CAPS or ACTIVE; CAPS with every report in, the conditions of
R280 and a map that places no two lanes on one pair sends CMD RATE in TPL1 on logical lane 0 and enters TRAIN at
that version and rate; symbols that carry no message whose framing, length and CRC-16 hold only set BC_ERR; and the
loss of an ACTIVE group's link pushes CODE 3 and leaves FAILED, or DETECT with AUTO. No other group and no other
register of the panel link changes. (R264, R277, R279, R280, R281, R562, R563) -/
def Obligations.LaneGroupBringUp : Prop :=
  ∀ (s : State) (x : Fin 16) (v : Word),
    let n := GroupId.quad x
    let g := GroupId.sub x
    let st := s.tplStage x
    let frame (t : State) : Prop :=
      t = { s with regs := t.regs, bus := t.bus, tpl := t.tpl, seqs := t.seqs, emw := t.emw, free := t.free } ∧
        (∀ y, y ≠ x → t.group y = s.group y) ∧ BitsKept (groupFields n g ++ evqFields n) s t
    let enters (stage : Nat) (t : State) : Prop :=
      t.tplStage x = stage ∧ (t.group x).since = s.wt.cycle ∧ t.emw = s.emw
    let told (code : Nat) (t : State) : Prop := ToldBoth n 0x37 code x.val s t
    let fails (t : State) : Prop := enters 7 t ∧ t.flag (F.TPL_FLAGS_TRAIN_FAIL n g) = true ∧ told 5 t
    (∃ t, exec (.tplStart x v) s = .next t ∧ frame t ∧ t.seqs = s.seqs ∧
      t.flag (F.TPL_CTRL_AUTO n g) = v.getLsbD 2 ∧ t.flag (F.TPL_CTRL_ROT_EN n g) = v.getLsbD 3 ∧
      (st = 0 ∨ st = 7 → enters 1 t ∧ t.flag (F.TPL_STATUS_TARGET n g) = false) ∧
      (st ≠ 0 → st ≠ 7 → t.tpl = s.tpl ∧ BitsKept [F.TPL_CTRL_AUTO n g, F.TPL_CTRL_ROT_EN n g] s t)) ∧
    (∃ t, exec (.tplStop x v) s = .next t ∧
      (s.scans n = true → OnlyBits [F.TPL_FLAGS_STALE_WRITE n g] s t ∧ t.flag (F.TPL_FLAGS_STALE_WRITE n g) = true) ∧
      (s.scans n = false → frame t ∧ t.seqs = s.seqs ∧ enters 0 t)) ∧
    (∀ det : Byte, st = 1 → s.passedUs (s.group x).since 10 = true → s.mapClash x = false →
      let found (p : Nat) : Bool := bit det.toNat p
      let count := ((List.range 7).filter found).length
      ∃ t, exec (.tplDetectDone x det) s = .next t ∧ frame t ∧
        (found 7 = false ∨ count < 6 → fails t) ∧
        (found 7 = true → 6 ≤ count → (∀ l < 6, s.lanePair x l ≠ 7) → ∀ f < 7, (∀ l < 6, s.lanePair x l ≠ f) →
          t.seqs = s.seqs ∧ enters 2 t ∧ t.get (F.TPL_STATUS_DET n g) = det.toNat % 128 ∧ t.get (F.TPL_STATUS_VER n g) = 1 ∧
          ((∀ l < 6, found (s.lanePair x l) = true) → t.freePair x = f ∧ t.noSpare x = decide (count < 7) ∧
            ∀ l < 6, t.lanePair x l = s.lanePair x l) ∧
          (∀ l < 6, found (s.lanePair x l) = false → (∀ m < l, found (s.lanePair x m) = true) →
            t.freePair x = s.lanePair x l ∧ t.noSpare x = true ∧ t.lanePair x l = f ∧
            ∀ m < 6, m ≠ l → t.lanePair x m = s.lanePair x m))) ∧
    (st = 2 → ∃ t, exec (.backChannelLock x) s = .next t ∧ frame t ∧ t.seqs = s.seqs ∧ enters 3 t) ∧
    (2 ≤ st → st ≤ 5 → s.passedUs (s.group x).since (if st = 5 then 2000 else 1000) = true →
      ∃ t, exec (.tplStageTimeout x) s = .next t ∧ frame t ∧ fails t) ∧
    (st = 6 → ∃ t, exec (.tplLinkDown x) s = .next t ∧ frame t ∧ told 3 t ∧
      t.flag (F.TPL_FLAGS_LINK_DOWN n g) = true ∧ enters (if s.flag (F.TPL_CTRL_AUTO n g) = true then 1 else 7) t) ∧
    (∀ (msg : List (BitVec 10)) (recovered : Bool), bcMsg msg = none →
      ∃ t, exec (.status x msg recovered) s = .next t ∧
        OnlyBits [F.TPL_FLAGS_BC_ERR n g] s t ∧ t.flag (F.TPL_FLAGS_BC_ERR n g) = true) ∧
    (∀ (msg : List (BitVec 10)) (m : BcMsg) (src : Fin 6) (recovered : Bool),
      let lock := beAt m.body 3 1
      let flags := beAt m.body 4 1
      bcMsg msg = some m → m.typ = 1 → m.src = src.val → m.body.length = 12 → 3 ≤ st → st ≤ 6 →
      ∃ t, exec (.status x msg recovered) s = .next t ∧ frame t ∧
          (t.rd (A.TPL_CRCERR n g)).toNat = min ((s.rd (A.TPL_CRCERR n g)).toNat + beAt m.body 5 2) (2 ^ 32 - 1) ∧
          (bit flags 0 = true → t.flag (F.TPL_FLAGS_WAVE_MISS n g) = true) ∧
          t.emw = { s.emw with reports :=
            s.emw.reports ++ if bit flags 3 = true then [signed 16 (beAt m.body 1 2)] else [] } ∧
          (t.tplStage x ≠ 6 ∨ st = 6 → (t.group x).stay[src] = bit flags 2) ∧
          (src.val ≠ 0 → t.tplStage x = st ∧ t.get (F.TPL_STATUS_LOCK n g) = s.get (F.TPL_STATUS_LOCK n g)) ∧
          (src.val = 0 → t.get (F.TPL_STATUS_LOCK n g) = lock % 128 ∧
            let det := s.get (F.TPL_STATUS_DET n g)
            let locked : Prop := ∀ p < 7, bit det p = true → bit lock p = true
            (st = 3 → t.tplStage x = if recovered = true then 4 else 3) ∧
            (st = 4 → locked → s.flag (F.TPL_STATUS_TARGET n g) = false → t.tplStage x = 5 ∧ t.seqs = s.seqs) ∧
            (st = 4 → locked → s.flag (F.TPL_STATUS_TARGET n g) = true → t.tplStage x = 6 ∧ told 4 t) ∧
            (st = 4 → ¬ locked → t.tplStage x = 4) ∧ (5 ≤ st → t.tplStage x = st))) ∧
    (∀ (msg : List (BitVec 10)) (nc : Nat), bcMsg msg = none → ∃ t, exec (.caps x msg nc) s = .next t ∧
      OnlyBits [F.TPL_FLAGS_BC_ERR n g] s t ∧ t.flag (F.TPL_FLAGS_BC_ERR n g) = true) ∧
    (∀ (msg : List (BitVec 10)) (m : BcMsg) (src : Fin 6) (nc : Nat),
      let report : CdicCaps := { verMax := beAt m.body 0 1, rateMax := beAt m.body 1 1, colsMax := beAt m.body 2 2 }
      let all := ((s.group x).caps.set src (some report)).toList.take nc
      let got := all.filterMap id
      let vm := s.get (F.TPL_RATE_VER_MAX n g)
      let ver := if vm ≠ 0 then vm else if got.all (fun c => c.verMax == 2) = true then 2 else 1
      let low := (got.map (·.rateMax)).foldl min 255
      let rate := if s.get (F.TPL_RATE_RATE n g) = 0 then low else s.get (F.TPL_RATE_RATE n g)
      let meets : Prop := vm ≠ 3 ∧ 20 ≤ rate ∧ rate ≤ low ∧ rate ≤ (if ver = 2 then 225 else 112) ∧
        (vm = 2 → ∀ c ∈ got, 2 ≤ c.verMax) ∧
        (s.geoOk = true → s.colsOk nc ((got.map (·.colsMax)).foldl min 65535) = true)
      bcMsg msg = some m → m.typ = 2 → m.src = src.val → m.body.length = 8 → st = 5 →
      nc = 1 ∨ nc = 2 ∨ nc = 3 ∨ nc = 6 → ∃ t, exec (.caps x msg nc) s = .next t ∧ frame t ∧
          (got.length < nc → t = { s with tpl := t.tpl } ∧ t.tplStage x = 5) ∧
          (got.length = nc → ¬ meets → fails t) ∧
          (got.length = nc → meets → s.mapClash x = false → t.seqs = s.seqs ∧ enters 2 t ∧ (t.group x).rate = rate ∧
            t.flag (F.TPL_STATUS_TARGET n g) = true ∧ t.get (F.TPL_STATUS_VER n g) = ver ∧
            t.get (F.TPL_STATUS_NCDIC n g) = nc ∧ ∃ e, (t.group x).sent.head? = some (.packet (s.lanePairs x 0) false e (s.cmdPacket 15 0 (.rate ver rate)))))

/-- O37. In an ACTIVE group whose map places no two lanes on one pair, without a swap or step under way: LANE_FAIL
of a pair that carries a lane begins ALIGN on the free pair, or with no usable free pair sets LANE_LOST and pushes
CODE 2; of the free pair, marks it BAD with NOSPARE and PRBS_BAD and pushes CODE 6; ROTATION_STEP with ROT_EN and a
free pair begins ALIGN for the lane on the first usable pair after it. SWAP_ALIGN_END 6.0 us later sends SWAP on the
new pair for the next line. DWELL_END writes the error total, and marks the pair BAD where it lies above PRBS_LIMIT,
else ends the step and after a failure clears NOSPARE. No other group changes. (R284, R285, R287, R288, R564) -/
def Obligations.LaneSwaps : Prop :=
  ∀ (s : State) (x : Fin 16) (pair : Fin 7) (l : Nat) (msg : List (BitVec 10)) (b : BcMsg),
    let n := GroupId.quad x
    let g := GroupId.sub x
    let f := s.freePair x
    let frame (t : State) : Prop := t = { s with regs := t.regs, bus := t.bus, tpl := t.tpl, seqs := t.seqs, free := t.free } ∧
      (∀ y, y ≠ x → t.group y = s.group y)
    let status (l : List Fld) (t : State) : Prop := BitsKept l s t ∧ t.tplStage x = s.tplStage x
    let bad (p : Nat) (l : List Fld) (t : State) : Prop := t.flag (F.TPL_PRBS_BAD n g p) = true ∧ t.noSpare x = true ∧
      t.flag (F.TPL_FLAGS_PRBS_BAD n g) = true ∧ (t.group x).rot = .none ∧ ToldBoth n 0x37 6 (x.val + p * 65536) s t ∧
      status ([F.TPL_PRBS_BAD n g p, F.TPL_STATUS_NOSPARE n g, F.TPL_STATUS_ROT_PHASE n g, F.TPL_FLAGS_PRBS_BAD n g]
        ++ l ++ evqFields n) t
    let aligns (lane old : Nat) (fail : Bool) (t : State) : Prop := t.seqs = s.seqs ∧
      (t.group x).rot = .align lane old f s.wt.cycle fail ∧ t.get (F.TPL_STATUS_ROT_PHASE n g) = 1 ∧
      (∃ e c, (t.group x).sent = .align f (s.tpl2 x) e c :: (s.group x).sent) ∧
      status [F.TPL_STATUS_ROT_PHASE n g] t
    (s.tplActive x = true → s.mapClash x = false → (s.group x).rot = .none → bcMsg msg = some b → b.typ = 3 →
      b.body.length = 2 → beAt b.body 0 1 = pair.val →
      (l < 6 → s.lanePair x l = pair.val → ∃ t, exec (.laneFail x msg) s = .next t ∧ frame t ∧
        (s.noSpare x = false → aligns l pair.val true t) ∧
        (s.noSpare x = true → t.tpl = s.tpl ∧ t.flag (F.TPL_FLAGS_LANE_LOST n g) = true ∧
          ToldBoth n 0x37 2 (x.val + l * 256 + pair.val * 65536) s t ∧
          status (F.TPL_FLAGS_LANE_LOST n g :: evqFields n) t)) ∧
      ((∀ m < 6, s.lanePair x m ≠ pair.val) → pair.val = f → s.flag (F.TPL_PRBS_BAD n g pair.val) = false →
        ∃ t, exec (.laneFail x msg) s = .next t ∧ frame t ∧ bad pair.val [] t)) ∧
    (s.tplActive x = true → s.mapClash x = false → (s.group x).rot = .none →
      (∀ j < 6, let p := (f + 1 + j) % 7
        let usable (p : Nat) : Bool := bit (s.get (F.TPL_STATUS_DET n g)) p && !s.flag (F.TPL_PRBS_BAD n g p)
        l < 6 → s.lanePair x l = p → usable p = true → (∀ i < j, usable ((f + 1 + i) % 7) = false) →
        s.flag (F.TPL_CTRL_ROT_EN n g) = true → s.noSpare x = false →
        ∃ t, exec (.rotationStep x) s = .next t ∧ frame t ∧ aligns l p false t)) ∧
    (∀ lane old new since fail, s.tplActive x = true → s.mapClash x = false → (s.group x).rot = .align lane old new since fail →
      s.passedUs since 6 = true → ∃ t, exec (.swapAlignEnd x) s = .next t ∧ frame t ∧ t.seqs = s.seqs ∧
        (t.group x).rot = .duplicate lane old new (s.nextLine x) 0 fail ∧
        (∃ e, (t.group x).sent = .packet [new] (s.tpl2 x) e (s.cmdPacket 0 lane (.swap lane new (s.nextLine x)))
          :: (s.group x).sent) ∧
        t.get (F.TPL_STATUS_ROT_PHASE n g) = 2 ∧ status [F.TPL_STATUS_ROT_PHASE n g] t) ∧
    (∀ p since errors fail, p < 7 → (s.group x).rot = .dwell p since errors fail →
      s.passedUs since (1000 * max 1 (s.get (F.TPL_ROT_CFG_DWELL_MS n))) = true →
      ∃ t, exec (.dwellEnd x) s = .next t ∧ frame t ∧ t.get (F.TPL_PRBS_ERRORS n g p) = errors % 2 ^ 24 ∧
        t.flag (F.TPL_PRBS_VALID n g p) = true ∧
        (s.get (F.TPL_ROT_CFG_PRBS_LIMIT n) < errors → bad p [F.TPL_PRBS_ERRORS n g p, F.TPL_PRBS_VALID n g p] t) ∧
        (errors ≤ s.get (F.TPL_ROT_CFG_PRBS_LIMIT n) → t.seqs = s.seqs ∧ (t.group x).rot = .none ∧
          t.noSpare x = (s.noSpare x && !fail) ∧
          status [F.TPL_PRBS_ERRORS n g p, F.TPL_PRBS_VALID n g p, F.TPL_STATUS_NOSPARE n g,
            F.TPL_STATUS_ROT_PHASE n g] t))

/-- O38. PORT_LINK_CHANGE makes UP what R293 says of the lock, alignment, FEC alignment and hi_ber of a powered
port, with the lane locks of its mode, and pushes NET_LINK exactly where UP changes. On an up port outside a
receiver scan: MAC_CONTROL_FRAME counts in RX_CTRL, or in RX_ERR where the MAC drops it; ARP_REQUEST or solicitation
for the port's own address that the port admits and has room for is answered with one reply, of class 2, to the
requester with the port's MAC address; one that finds no room is counted in CRD_NET_DROP, another to the port in
RX_FILT; TRANSIT_FRAME with a foreign destination waits for the other port where R301 asks and R302 allows it, a PTP
event message in class 1 with its ingress stamp and any other in class 3, and else is counted in FWD_DROP, flagged
in FWD_MODE_BAD or counted in RX_FILT. (R124, R293, R295, R296, R297, R298, R299, R301, R302, R303) -/
def Obligations.NetworkPorts : Prop :=
  ∀ (s : State) (p : PortId) (f : NetFrame),
    let one (a : Nat) (t : State) : Prop := (t.rd a).toNat = min ((s.rd a).toNat + 1) (2 ^ 32 - 1)
    let o := otherPort f.port
    let hears : Prop := s.portUp f.port = true ∧ s.scannedLane f.port = none
    let took (l : List Fld) (t : State) : Prop := t = { s with regs := t.regs, bus := t.bus, net := t.net } ∧
      t.net = { s.net with tx := t.net.tx } ∧
      t.rd (A.NET_PORT_RX_FRAMES f.port) = s.rd (A.NET_PORT_RX_FRAMES f.port) + 1 ∧ BitsKept (frameFields f ++ l) s t
    let waits (q : PortId) (x : TxItem) (t : State) : Prop :=
      t.txPort q = { s.txPort q with queue := (s.txPort q).queue ++ [x] }
    let drops : Nat := if f.port = 0 then A.CRD_NET_DROP_A else A.CRD_NET_DROP_B
    (∀ (lock : BitVec 4) (align fec hiBer : Bool),
      let m := s.portMode p
      let on := s.portPowered p && decide (m < 6)
      let four := m == 4 || m == 5
      let withFec := m == 2 || m == 3 || m == 5
      let up := on && (if four = true then lock == 15 && align else lock.getLsbD 0) && (fec || !withFec) && !hiBer
      ∃ t, exec (.portLinkChange p lock align fec hiBer) s = .next t ∧ t = { s with regs := t.regs, bus := t.bus, seqs := t.seqs } ∧
        BitsKept [F.NET_PORT_STATUS_UP p, F.NET_PORT_STATUS_LANE_LOCK p, F.NET_PORT_STATUS_FEC_LOCK p,
          F.NET_PORT_STATUS_HI_BER p, F.SEQ_EVQ_STATUS_OVERFLOW 4] s t ∧ t.portUp p = up ∧
        t.get (F.NET_PORT_STATUS_LANE_LOCK p) =
          (if on = true then (if four = true then lock.toNat else lock.toNat % 2) else 0) ∧
        t.flag (F.NET_PORT_STATUS_HI_BER p) = (on && hiBer) ∧
        if up = s.portUp p then t.seqs = s.seqs
        else Told 4 0x46 (if up = true then 1 else 0) false (p.val + 2 * s.get (F.NET_PORT_MODE_MODE p)) s t) ∧
    (hears → ∃ t, exec (.macControlFrame f) s = .next t ∧
      let a := if badFrame f = true then A.NET_PORT_RX_ERR f.port else A.NET_PORT_RX_CTRL f.port
      OnlyRegs [a] s t ∧ one a t) ∧
    (∀ (v6 : Bool) (target : BitVec 128), hears → badFrame f = false →
      let own := if v6 = true then s.ownIp6 f.port else s.ownIp4 f.port
      let ours : Prop := f.dst.toNat = s.ownMac f.port ∨ s.groupMac f.port f.dst.toNat = true ∨
        f.dst.toNat = broadcastMac
      let reply : NetTx := .resolution f.port v6 (BitVec.ofNat 48 (s.ownMac f.port)) f.src target
      let asks : Prop := own ≠ 0 ∧ target.toNat = own ∧ (v6 = true → f.dst.toNat ≠ broadcastMac)
      ours → ∃ t, exec (.arpRequest f v6 target) s = .next t ∧
        took [whole (A.NET_PORT_RX_FILT f.port), whole drops] t ∧
        (asks → s.partRoom f false = true → waits f.port { cls := 2, len := resolutionLen v6, what := .ready reply } t) ∧
        (asks → s.partRoom f false = false → one drops t ∧ t.txPort f.port = s.txPort f.port) ∧
        (¬ asks → one (A.NET_PORT_RX_FILT f.port) t ∧ t.txPort f.port = s.txPort f.port)) ∧
    (∀ e : PtpEvent, hears → badFrame f = false → s.isTransit f = true →
      ∃ t, exec (.transitFrame f e) s = .next t ∧ took [whole (A.NET_PORT_RX_FILT f.port)] t ∧
        let same := s.get (F.NET_PORT_MODE_MODE 0) = s.get (F.NET_PORT_MODE_MODE 1)
        let kind := s.fwdKind f e
        (s.forwards f kind = false → one (A.NET_PORT_RX_FILT f.port) t ∧ t.net = s.net) ∧
        (s.forwards f kind = true → ¬ same → t.flag F.NET_STATUS_FWD_MODE_BAD = true ∧ t.net = s.net) ∧
        (s.forwards f kind = true → same → s.fwdUsed o + f.len ≤ 65536 → s.portUp o = true →
          (∀ c u x, kind = .event c u x →
            waits o { cls := 1, len := f.len, fwd := true, what := .ptpForward f c u x } t) ∧
          (kind = .plain → waits o { cls := 3, len := f.len, fwd := true, what := .ready (.forward o f) } t)) ∧
        (s.forwards f kind = true → same → 65536 < s.fwdUsed o + f.len ∨ s.portUp o = false →
          one (A.NET_PORT_FWD_DROP f.port) t ∧ t.net = s.net))

/-- O39. A management packet that is heard, in sequence and verified, outside Stay and recovery and not of session
255, is accepted. READ of one register without effect on reading is answered OK with its word; WRITE of one plain
register writes it and is answered OK with DONE 1; RMW merges the masked value and is answered OK; a request of a
bad shape is answered BAD_MSG and one with an address outside reach or authority REFUSED, with nothing accessed. A
program message fills the lowest free receive buffer and pushes NET_MSG, or is counted in MRX_DROP and answered
NO_BUFFER. MRX_FREE frees a buffer; MREPLY answers the message of a buffer with STATUS and DATA and frees it. A
reply that finds 64 messages waiting is counted in MTX_DROP. (R69, R304, R305, R306, R307, R308, R502) -/
def Obligations.ManagementMessages : Prop :=
  ∀ (s : State) (p : RknPkt) (m : RknMsg) (a : BitVec 26) (row : RegRow) (v : Word),
    let r := mgmtReq s m
    let f := (rknHdr p).flow.toNat
    let queued (x : HostMsg) (t : State) : Prop :=
      if s.net.mtx.length < 64 then t.net.mtx = s.net.mtx ++ [x]
      else t.net.mtx = s.net.mtx ∧
        (t.rd A.NET_MTX_DROP).toNat = min ((s.rd A.NET_MTX_DROP).toNat + 1) (2 ^ 32 - 1)
    let replies (status : Nat) (body : List Byte) (t : State) : Prop :=
      queued ⟨some r.dest, msgHeader r.opcode 1 status r.tag ++ body, false⟩ t
    let comes : Prop := (rknHdr p).typ = 3 ∧ Heard p s ∧ InSequence p m s ∧ s.flag F.SEC_STATUS_RECOVERY = false ∧
      s.flowSession f ≠ 255
    let took (l : List Fld) (t : State) : Prop := Accepted p s t ∧
      t = { s with regs := t.regs, net := t.net, sess := t.sess, ing := t.ing, seqs := t.seqs, bus := t.bus,
                   frame := { s.frame with keep := t.frame.keep } } ∧
      t.ing = { s.ing with gaps := t.ing.gaps } ∧ BitsKept (arrivalFields p ++ whole A.NET_MTX_DROP :: l) s t
    let only (write : Bool) : Prop := r.shapeOk write = true ∧ r.words = 1 ∧ r.addr = a.toNat ∧
      s.mgmtMay r.session a.toNat write = true
    let apart : Prop := a.toNat ≠ A.NET_MTX_DROP ∧ ∀ g ∈ arrivalFields p, g.addr ≠ a.toNat
    let plain : Prop := PlainReg a.toNat row ∧ s.reach .host a.toNat true = .regs [a.toNat] ∧
      Unopposed .host a.toNat a.toNat s ∧ apart
    let readable : Prop := (∀ u : State, u.readReg .host a.toNat = (u.rd a.toNat, u)) ∧
      s.reach .host a.toNat false = .regs [a.toNat] ∧ apart
    (comes → r.opcode = 1 → only false → readable → ∃ t, exec (.mgmtRead p) s = .next t ∧ took [] t ∧
      t.seqs = s.seqs ∧ replies 0 (beBytes 4 (s.rd a.toNat).toNat) t) ∧
    (comes → r.opcode = 2 → only true → plain → ∃ t, exec (.mgmtWrite p) s = .next t ∧ took [whole a.toNat] t ∧
      t.seqs = s.seqs ∧ t.rd a.toNat = written row (s.rd a.toNat) (r.value 0) ∧ replies 0 (beBytes 2 1 ++ [0, 0]) t) ∧
    (comes → r.opcode = 3 → r.body.length = 12 → r.addr = a.toNat → a.toNat % 4 = 0 → plain → readable →
      rmwBars .host a.toNat = false → s.mgmtMay r.session a.toNat true = true →
      let mask := BitVec.ofNat 32 (beNat (bytesAt r.body 4 4))
      let val := BitVec.ofNat 32 (beNat (bytesAt r.body 8 4))
      ∃ t, exec (.mgmtRmw p) s = .next t ∧ took [whole a.toNat] t ∧ t.seqs = s.seqs ∧
        t.rd a.toNat = written row (s.rd a.toNat) ((s.rd a.toNat &&& ~~~mask) ||| (val &&& mask)) ∧ replies 0 [] t) ∧
    (comes → (r.opcode = 1 → r.shapeOk false = false → ∃ t, exec (.mgmtRead p) s = .next t ∧ took [] t ∧ replies 3 [] t) ∧
      (r.opcode = 2 → r.shapeOk true = false →
        ∃ t, exec (.mgmtWrite p) s = .next t ∧ took [] t ∧ replies 3 [0, 0, 0, 0] t) ∧
      (∀ x ∈ r.addrs, (r.opcode = 1 → r.shapeOk false = true → s.mgmtMay r.session x false = false →
          ∃ t, exec (.mgmtRead p) s = .next t ∧ took [] t ∧ replies 2 [] t) ∧
        (r.opcode = 2 → r.shapeOk true = true → s.mgmtMay r.session x true = false →
          ∃ t, exec (.mgmtWrite p) s = .next t ∧ took [] t ∧ replies 2 [0, 0, 0, 0] t))) ∧
    (comes → 0x10 ≤ r.opcode → r.opcode < 0x20 → ∃ t, exec (.programMessage p) s = .next t ∧
      (s.freeMrx = none → took [whole A.NET_MRX_DROP] t ∧ t.net.mrx = s.net.mrx ∧ t.seqs = s.seqs ∧ replies 4 [] t ∧
        (t.rd A.NET_MRX_DROP).toNat = min ((s.rd A.NET_MRX_DROP).toNat + 1) (2 ^ 32 - 1)) ∧
      (∀ b, s.freeMrx = some b →
        took (F.SEQ_EVQ_STATUS_OVERFLOW 4 :: whole (A.NET_MRX_INFO b) ::
          (List.range 128).map fun i => whole (A.NET_MRX_BUF b i)) t ∧ t.net.mtx = s.net.mtx ∧
        Told 4 0x22 p.frame.port.val false b.val s t ∧
        t.net.mrx = s.net.mrx.set b (some ⟨some r.dest, BitVec.ofNat 8 r.opcode, r.tag⟩) ∧
        t.get (F.NET_MRX_INFO_LEN b) = m.body.length ∧ t.get (F.NET_MRX_INFO_KIND b) = 0 ∧
        t.get (F.NET_MRX_INFO_PORT b) = p.frame.port.val ∧
        ∀ j < m.body.length,
          t.get ⟨A.NET_MRX_BUF b (j / 4), 8 * (j % 4), 8⟩ = (m.body.getD j 0).toNat)) ∧
    (∀ b : Fin 32, field v 0 5 = b.val →
      (∃ t, exec (.mrxFree v) s = .next t ∧ t = { s with net := { s.net with mrx := s.net.mrx.set b none } }) ∧
      (∀ dest op tag, s.net.mrx[b] = some ⟨some dest, op, tag⟩ → ∃ t, exec (.mreply v) s = .next t ∧
        t = { s with regs := t.regs, bus := t.bus, net := t.net } ∧ BitsKept [whole A.NET_MTX_DROP] s t ∧
        t.net = { s.net with mtx := t.net.mtx, mrx := s.net.mrx.set b none } ∧
        queued ⟨some dest, msgHeader op.toNat 1 (field v 8 8) tag ++ beBytes 4 (s.rd A.NET_MREPLY_DATA).toNat, false⟩ t))

/-- O40. For every neighbour port: START in IDLE or FAILED outside Stay enters DETECT with no lanes and no credits,
and elsewhere changes nothing; STOP enters IDLE, with LINK_DOWN from ACTIVE and ABANDON for a strip under way;
detected receivers take DETECT to TRAIN, on one lane with DEGRADED and CODE 3; receiver lock takes TRAIN to
BIT_LOCK, BIT_LOCK to SYMBOL_LOCK, and SYMBOL_LOCK to CAPS with the CAPS block of the tile, or after retraining to
ACTIVE with 256 credits and CODE 1; a stage that times out, or a rate above either end's or below 2.5 Gb/s, fails
with TRAIN_FAIL and CODE 4; CAPS else trains again at the agreed rate; a peer more than 100 ppm off sets REF_BAD; a
lost lane degrades the link and the last takes it down with CODE 2; a failed or downed port begins again where AUTO
is 1. SLEEP, SLEEP_IDLE_TIMEOUT and CREDIT set RX_SLEEP, set TX_SLEEP, and add credits up to 256. (R309, R310, R311,
R314, R315, R316, R317, R324, R414) -/
def Obligations.NeighbourLinks : Prop :=
  ∀ (s : State) (p : NbrId),
    let st := s.nbrStage p
    let used := s.get (F.NBR_STATUS_LANES p)
    let sends := (s.port p).sends
    let frame (t : State) : Prop := t = { s with regs := t.regs, bus := t.bus, nbr := t.nbr, seqs := t.seqs, free := t.free } ∧
      (∀ q, q ≠ p → t.port q = s.port q) ∧
      BitsKept [whole (A.NBR_STATUS p), whole (A.NBR_FLAGS p), whole (A.NBR_PEER_ID p), F.SEQ_EVQ_STATUS_OVERFLOW 4] s t
    let told (code : Nat) (t : State) : Prop := Told 4 0x47 code false p.val s t
    let enters (stage : Nat) (t : State) : Prop := t.nbrStage p = stage ∧ (t.port p).since = s.wt.cycle
    let sent (w : NbrSends) (t : State) : Prop := ∃ x l, (t.port p).sent = x :: l ∧ x.what = w
    let rests (stage : Nat) (t : State) : Prop :=
      enters (if s.flag (F.NBR_CTRL_AUTO p) = true then 1 else stage) t ∧ (t.port p).sends = [] ∧
        (sends ≠ [] → t.flag (F.NBR_FLAGS_ABANDON p) = true) ∧
        t.get (F.NBR_STATUS_LANES p) = 0 ∧ t.get (F.NBR_STATUS_CREDITS p) = 0
    let fails (t : State) : Prop := t.flag (F.NBR_FLAGS_TRAIN_FAIL p) = true ∧ told 4 t ∧ rests 7 t
    (∃ t, exec (.nbrStart p) s = .next t ∧ frame t ∧ t.seqs = s.seqs ∧
      (st = 0 ∨ st = 7 → s.inStay = false → enters 1 t ∧ t.get (F.NBR_STATUS_LANES p) = 0 ∧ t.get (F.NBR_STATUS_CREDITS p) = 0) ∧
      ((st ≠ 0 ∧ st ≠ 7) ∨ s.inStay = true → t = s)) ∧
    (∃ t, exec (.nbrStop p) s = .next t ∧ frame t ∧ t.seqs = s.seqs ∧ enters 0 t ∧ (t.port p).sends = [] ∧
      (sends ≠ [] → t.flag (F.NBR_FLAGS_ABANDON p) = true) ∧
      (st = 6 → t.flag (F.NBR_FLAGS_LINK_DOWN p) = true)) ∧
    (∀ lanes : BitVec 2,
      (st = 1 → lanes ≠ 0 → ∃ t, exec (.peerReceiversDetected p lanes) s = .next t ∧ frame t ∧ enters 2 t ∧ sent .idle t ∧
        t.get (F.NBR_STATUS_LANES p) = lanes.toNat ∧
        if lanes = 3 then t.seqs = s.seqs else told 3 t ∧ t.flag (F.NBR_FLAGS_DEGRADED p) = true) ∧
      (let all : Prop := ∀ l < 2, bit used l = true → lanes.getLsbD l = true
        let any : Prop := ∃ l < 2, bit used l = true ∧ lanes.getLsbD l = true
        ∃ t, exec (.nbrReceiverLock p lanes false) s = .next t ∧ frame t ∧
          (st = 2 → any → enters 3 t ∧ t.seqs = s.seqs) ∧ (st = 3 → all → enters 4 t ∧ t.seqs = s.seqs ∧ ∃ c, sent (.align c) t) ∧
          (st = 4 → all → (s.port p).retrain = false → enters 5 t ∧ t.seqs = s.seqs ∧
            sent (.caps (capsBytes 128 (s.rd A.NBR_ID).toNat used)) t) ∧
          (st = 4 → all → (s.port p).retrain = true →
            enters 6 t ∧ t.get (F.NBR_STATUS_CREDITS p) = 256 ∧ told 1 t) ∧
          (st = 6 → all → OnlyBits [F.NBR_STATUS_RX_SLEEP p] s t ∧ t.flag (F.NBR_STATUS_RX_SLEEP p) = false)) ∧
      (2 ≤ st → st ≤ 6 → ∃ t, exec (.nbrReceiverLock p lanes true) s = .next t ∧ frame t ∧
        t.flag (F.NBR_FLAGS_REF_BAD p) = true ∧ rests 7 t ∧
        if st = 6 then told 2 t ∧ t.flag (F.NBR_FLAGS_LINK_DOWN p) = true else t.seqs = s.seqs)) ∧
    (1 ≤ st → st ≤ 5 → s.passedUs (s.port p).since (if st = 1 then 10 else 1000) = true →
      ∃ t, exec (.nbrStageTimeout p) s = .next t ∧ frame t ∧ fails t) ∧
    (∀ blk : List Byte,
      let rateMax := beAt blk 0 2
      let rate := if s.get (F.NBR_RATE_RATE p) ≠ 0 then s.get (F.NBR_RATE_RATE p) else min 128 rateMax
      ∃ t, exec (.nbrCaps p blk) s = .next t ∧
        (st = 5 → frame t ∧ t.rd (A.NBR_PEER_ID p) = BitVec.ofNat 32 (beAt blk 2 4) ∧
          (128 < rate ∨ rateMax < rate ∨ rate < 20 → fails t) ∧
          (rate ≤ 128 → rate ≤ rateMax → 20 ≤ rate → enters 2 t ∧ (t.port p).retrain = true ∧
            t.get (F.NBR_STATUS_RATE p) = rate ∧ t.seqs = s.seqs)) ∧
        (st = 6 → t = { s with nbr := t.nbr } ∧ (∀ q, q ≠ p → t.port q = s.port q) ∧
          t.port p = { s.port p with peerOk := beAt blk 6 1 % 4 })) ∧
    (∀ lane : Fin 2, st = 6 → s.nbrLane p lane = true → ∃ t, exec (.nbrLaneLockLoss p lane) s = .next t ∧ frame t ∧
      (used = 2 ^ lane.val → t.flag (F.NBR_FLAGS_LINK_DOWN p) = true ∧ told 2 t ∧ rests 0 t) ∧
      (used ≠ 2 ^ lane.val → t.nbrStage p = 6 ∧ t.get (F.NBR_STATUS_LANES p) = used - 2 ^ lane.val ∧
        t.flag (F.NBR_FLAGS_DEGRADED p) = true ∧ told 3 t)) ∧
    (st = 6 → ∃ t, exec (.sleep p) s = .next t ∧ OnlyBits [F.NBR_STATUS_RX_SLEEP p] s t ∧
      t.flag (F.NBR_STATUS_RX_SLEEP p) = true) ∧
    (st = 6 → s.flag (F.NBR_CTRL_SLEEP_EN p) = true → s.flag (F.NBR_STATUS_TX_SLEEP p) = false → sends = [] →
      (s.port p).idle + 1600 * max 1 (s.get (F.NBR_CTRL_IDLE_US p)) < s.wt.cycle →
      ∃ t, exec (.sleepIdleTimeout p) s = .next t ∧ frame t ∧ BitsKept [F.NBR_STATUS_TX_SLEEP p] s t ∧
        t.flag (F.NBR_STATUS_TX_SLEEP p) = true ∧ t.seqs = s.seqs ∧
        ∃ x, t.port p = { s.port p with sent := x :: (s.port p).sent } ∧ x.what = .sleep) ∧
    (∀ blk : List Byte, st = 6 → s.flag (F.NBR_STATUS_RX_SLEEP p) = false → sends = [] →
      ∃ t, exec (.credit p blk) s = .next t ∧ OnlyBits [F.NBR_STATUS_CREDITS p] s t ∧
        t.get (F.NBR_STATUS_CREDITS p) = min 256 (s.get (F.NBR_STATUS_CREDITS p) + beAt blk 0 2))

/-- O41. A frame that an open, awake port takes is the last accepted one. A STRIP whose plane and rectangle the port
admits writes exactly its colour pixels, or its relief nibbles, into the plane's back bank, is counted for its
fence, and sets LATE_PATCH after a flip; one that it does not admit, or whose PLANE names none, is counted with
WIN_BAD and writes nothing. A FENCE frame waits; once it completes, it counts for its plane, and STRIP_LOSS is set
where COUNT differs from the strips written. A METRIC writes the peer's LEASH and band, and SKEW and DELAY from the
two launches and arrivals where its COUNT names an own launch and its T_RX is not 0 (log 195). At the end of a strip
a FENCE frame with the count of STRIP frames, sealed with the port's transmit key, is sent under the next SEQ for
one credit. A frame with a bad CRC or tag is counted and nothing more. (R171, R172, R312, R313, R314, R315, R318,
R320, R321, R323) -/
def Obligations.NeighbourFrames : Prop :=
  ∀ (s : State) (p : NbrId) (r : NbrRaw) (f : NbrFrame) (q : Fin 16),
    let d := (s.plane q).live
    let b := 1 - s.front q
    let (x, y, w, h) := (f.x.toNat, f.y.toNat, f.w.toNat, f.h.toNat)
    let m := s.resolveFrame f.frame
    let others (t : State) : Prop := ∀ o, o ≠ p → t.port o = s.port o
    let frame (l : List Fld) (t : State) : Prop := others t ∧ BitsKept (nbrFields p ++ l) s t ∧
      t = { s with regs := t.regs, bus := t.bus, nbr := t.nbr, ing := t.ing, seqs := t.seqs, free := t.free } ∧
      t.ing = { s.ing with scene := t.ing.scene, bad := t.ing.bad }
    let last (t : State) : Prop := (t.port p).rxSeq = some f.seq.toNat
    (TakenNbr p r f s → f.typ = 1 →
      ((∀ n, nbrPlane f = some n → s.stripAllowed p n f = false) → ∃ t, exec (.strip p r) s = .next t ∧
        frame [whole (A.NBR_CNT_WIN p), F.NBR_FLAGS_WIN_BAD p] t ∧ last t ∧ t.ing = s.ing ∧
        t.flag (F.NBR_FLAGS_WIN_BAD p) = true ∧ Told 4 0x48 3 false (p.val + f.frame.toNat % 2 ^ 24 * 256) s t ∧
        (t.rd (A.NBR_CNT_WIN p)).toNat = min ((s.rd (A.NBR_CNT_WIN p)).toNat + 1) (2 ^ 32 - 1)) ∧
      (nbrPlane f = some q → s.stripAllowed p q f = true → ∃ t, exec (.strip p r) s = .next t ∧
        frame [F.SST_PLANE_STATUS_LATE_PATCH q] t ∧ last t ∧ t.seqs = s.seqs ∧
        rowCount (t.port p).rows q m = rowCount (s.port p).rows q m + 1 ∧
        (∀ k, (s.plane q).flipped = some k → m ≤ k → t.flag (F.SST_PLANE_STATUS_LATE_PATCH q) = true) ∧
        (f.relief = false → f.payload.length = 4 * w * h →
          (∀ i j k, j < h → i < w → k < 4 →
            t.sceneByte (d.pixelAt b (x + i) (y + j) + k) = f.payload.getD ((j * w + i) * 4 + k) 0) ∧
          ∀ a, (∀ i j k, j < h → i < w → k < 4 → a ≠ d.pixelAt b (x + i) (y + j) + k) →
            t.sceneByte a = s.sceneByte a) ∧
        (f.relief = true → d.relief = true → f.payload.length = (w + 1) / 2 * h →
          (∀ i j, j < h → i < w →
            (t.sceneByte (d.reliefAt b (x + i) (y + j))).toNat / (if (x + i) % 2 = 0 then 1 else 16) % 16 =
              (f.payload.getD (j * ((w + 1) / 2) + i / 2) 0).toNat / (if i % 2 = 0 then 1 else 16) % 16) ∧
          ∀ a, (∀ i j, j < h → i < w → a ≠ d.reliefAt b (x + i) (y + j)) → t.sceneByte a = s.sceneByte a) ∧
        (f.relief = true → d.relief = false → t.ing.scene = s.ing.scene))) ∧
    (TakenNbr p r f s → f.typ = 2 → nbrPlane f = some q → ∃ t, exec (.nbrFenceFrame p r) s = .next t ∧
      t = { s with regs := t.regs, bus := t.bus, nbr := t.nbr } ∧ others t ∧ BitsKept [whole (A.NBR_CNT_LOSS p)] s t ∧
      t.port p = { s.port p with rxSeq := some f.seq.toNat,
                                 fences := (s.port p).fences ++ [⟨q, m, f.count.toNat⟩] }) ∧
    (∀ (g : NbrFence) (rest : List NbrFence), (s.port p).fences = g :: rest →
      let got := rowCount (s.port p).rows g.plane g.frame
      let count := s.get (F.SST_PLANE_STATUS_COUNT g.plane)
      ∃ t, exec (.nbrFenceComplete p) s = .next t ∧ (t.port p).fences = rest ∧ t.ing.scene = s.ing.scene ∧
        t.dram = s.dram ∧ rowCount (t.port p).rows g.plane g.frame = 0 ∧
        (got ≠ g.count → t.flag (F.NBR_FLAGS_STRIP_LOSS p) = true) ∧
        (got = g.count → t.get (F.NBR_FLAGS_STRIP_LOSS p) = s.get (F.NBR_FLAGS_STRIP_LOSS p)) ∧
        ((s.plane g.plane).counted = some g.frame → t.get (F.SST_PLANE_STATUS_COUNT g.plane) = min (count + 1) 15) ∧
        ((∀ k, (s.plane g.plane).counted = some k → k < g.frame) →
          t.get (F.SST_PLANE_STATUS_COUNT g.plane) = 1 ∧
          t.rd (A.SST_PLANE_FENCE g.plane) = BitVec.ofInt 32 g.frame)) ∧
    (TakenNbr p r f s → f.typ = 3 → ∃ t, exec (.metric p r) s = .next t ∧ last t ∧ others t ∧
      t = { s with regs := t.regs, bus := t.bus, nbr := t.nbr, seqs := t.seqs, free := t.free } ∧
      BitsKept (nbrFields p ++ [whole (A.NBR_PEER_INFO p), whole (A.NBR_SKEW p), whole (A.NBR_DELAY p),
        F.NBR_FLAGS_SKEW p]) s t ∧
      let t4 : Int := s.wall16 / 16384 * 16384
      let t3 : Int := metricTimeOf (f.payload.take 14)
      let t2 : Int := metricTimeOf (bytesAt f.payload 16 14)
      let asym := signed 16 (s.get (F.NBR_ASYM_ASYM p))
      (t.port p).metricIn = some (f.seq.toNat, s.wall16 / 16384 * 16384) ∧
      (t.rd (A.NBR_PEER_INFO p)).toNat =
        beAt f.payload 14 1 % 8 + beAt f.payload 15 1 % 8 * 16 + 2 ^ 31 ∧
      ((∀ e ∈ (s.port p).launches, e.1 ≠ f.count.toNat) ∨ t2 = 0 →
        t.rd (A.NBR_SKEW p) = s.rd (A.NBR_SKEW p) ∧ t.rd (A.NBR_DELAY p) = s.rd (A.NBR_DELAY p) ∧ t.seqs = s.seqs) ∧
      (∀ e, (s.port p).launches.find? (fun l => l.1 == f.count.toNat) = some e → t2 ≠ 0 →
        let skew := ((t2 - e.2) - (t4 - t3)) / 2 / 16384 - asym
        let delay := ((t2 - e.2) + (t4 - t3)) / 2 / 16384 - asym
        (-(2 ^ 23) ≤ skew → skew < 2 ^ 23 →
          (t.rd (A.NBR_SKEW p)).toNat = (skew % 2 ^ 24).toNat + 2 ^ 31) ∧
        (0 ≤ delay → delay < 2 ^ 24 → ((t.rd (A.NBR_DELAY p)).toNat : Int) = delay + 2 ^ 31) ∧
        ((s.get F.NBR_SEAM_CFG_SKEW_LIMIT : Int) < skew ∨ skew < -(s.get F.NBR_SEAM_CFG_SKEW_LIMIT : Int) →
          t.flag (F.NBR_FLAGS_SKEW p) = true ∨ (s.port p).told = some s.frameIndex))) ∧
    (∀ (z : StripSend) (k : BitVec 288), (s.port p).sends = [z] → s.nbrOpen p = true → (s.port p).txKey = some k →
      z.turn.rows = 0 →
      1 ≤ s.get (F.NBR_STATUS_CREDITS p) →
      ∃ t, exec (.apronStripSendEnd p) s = .next t ∧ t = { s with regs := t.regs, nbr := t.nbr, free := t.free } ∧ others t ∧
        BitsKept [F.NBR_STATUS_CREDITS p, F.NBR_STATUS_TX_SLEEP p] s t ∧ (t.port p).sends = [] ∧
        t.get (F.NBR_STATUS_CREDITS p) = s.get (F.NBR_STATUS_CREDITS p) - 1 ∧
        (t.port p).txSeq = (s.port p).txSeq + 1 ∧
        ∃ x l, (t.port p).sent = x :: l ∧ x.what = .frame (nbrSeal k ⟨2, false, BitVec.ofNat 8 z.plane,
          BitVec.ofNat 64 (s.port p).txSeq, BitVec.ofInt 32 z.frame, 0, 0, 0, 0, BitVec.ofNat 32 z.count, []⟩)) ∧
    (s.nbrOpen p = true → s.flag (F.NBR_STATUS_RX_SLEEP p) = false →
      nbrCrcOk r = false ∨ (s.port p).openFrame r.data = none → ∃ t, exec (.strip p r) s = .next t ∧ frame [whole (A.NBR_CNT_AUTH p), F.NBR_FLAGS_AUTH_FAIL p] t ∧
        t.ing = s.ing ∧ (t.port p).rxSeq = (s.port p).rxSeq ∧
        let a := if nbrCrcOk r = false then A.NBR_CNT_LOSS p else A.NBR_CNT_AUTH p
        (t.rd a).toNat = min ((s.rd a).toNat + 1) (2 ^ 32 - 1) ∧
        (nbrCrcOk r = true → t.flag (F.NBR_FLAGS_AUTH_FAIL p) = true ∧
          Told 4 0x48 4 false (p.val + beAt r.data 12 4 % 2 ^ 24 * 256) s t))

/-- O42. For every state, job and input, level and flush mode: the raw stream of a job decodes, after the job's
window, to exactly the input, without an error and with no byte left over; the stream written is that raw stream,
behind 0x78 and the FLG byte of the level where the wrapper is on and the job does not continue a stream, and before
the Adler-32, most significant byte first, where the wrapper is on and the job is FINAL; and it is no longer than
SRC_LEN + 5·ceil(SRC_LEN / 65,535) + 8 bytes. (R164, R336, R337, R338, R339, R340, R341) -/
def Obligations.DeflateStreams : Prop :=
  (∀ (level : Nat) (sync : Bool) (win b : List Byte),
    inflate (rawStream level sync win b) win none sync = { bytes := b, err := none, rest := 0 }) ∧
  (∀ (s : State) (j : DflJob) (b : List Byte),
    let sync := j.f0 9 1 == 1
    let cont := j.f0 10 1 == 1
    let zlib := if j.program = true then s.dfl.zlib else j.f0 8 1 == 1
    let win := if j.program = true then s.dfl.win else []
    let raw := rawStream j.level sync win b
    let sum := if j.program = true then adler32 s.dfl.adler b else adler32 1 b
    (zlib = false → s.deflateStream j b = raw) ∧
    (zlib = true → cont = true → sync = true → s.deflateStream j b = raw) ∧
    (zlib = true → cont = true → sync = false → s.deflateStream j b = raw ++ beBytes 4 sum) ∧
    (zlib = true → cont = false → sync = true → s.deflateStream j b = 0x78 :: zlibFlg j.level :: raw) ∧
    (zlib = true → cont = false → sync = false →
      s.deflateStream j b = 0x78 :: zlibFlg j.level :: (raw ++ beBytes 4 sum)) ∧
    (s.deflateStream j b).length ≤ b.length + 5 * ((b.length + 65534) / 65535) + 8)

/-- O43. With credit left, a pushed word joins its submitter's bank, and the eighth completes a job at the end of
the queue, before the jobs that a later place in the order of this core cycle has put there. An idle inflater with
no Rekin descriptor waiting takes the oldest inflate job that names it or ENGINE 4, the idle deflater the oldest
deflate job; the unit is then busy; a program deflate job without CONT restarts the stream context. A job with a bad
descriptor completes at once with DESC_BAD, one whose CONT finds no stream with CONT_BAD, each with the Adler-32 of
no bytes (log 65), and neither touches DRAM. With Rekin descriptors waiting and PROG_EVERY 0 no job is taken. An
inflate job whose stream decodes within its first buffer completes OK: its output stands at DST_ADDR, the entry
gives bytes out, bytes in and Adler-32, and TRAILING tells of whole bytes left. A deflate job whose stream fits
likewise, and a program's moves the context on; a camera's completion goes to DFL_CAM_LAST, DFL_LEN and the CAM_DFL
event. No other byte of DRAM changes. (R328, R329, R330, R331, R332, R334, R339, R341, R342, R343, R346, R380) -/
def Obligations.EngineJobs : Prop :=
  ∀ (s : State) (i : Fin 4) (j : DflJob) (pre rest : List DflJob),
    let u : Fin 5 := ⟨i.val, by omega⟩
    let busy : Fld := ⟨A.DFL_STATUS, i.val, 1⟩
    let mems (l : List QuadId) (t : State) : Prop := ∀ n : QuadId, n ∉ l → (t.dr n).mem = (s.dr n).mem
    let mine (x : DflJob) : Prop := x.isDeflate = false ∧ (x.f0 16 3 = i.val ∨ 4 ≤ x.f0 16 3)
    let quiet : Prop := s.ing.buffer = [] ∧ ∀ h ∈ s.ing.held, s.stalled h.flow = false
    let atOnce (status : Nat) (t : State) : Prop := ∃ e : Word × Word × Word × Word,
      t = { s with dfl := t.dfl, regs := t.regs, seqs := t.seqs, bus := t.bus, free := t.free } ∧
        t.dfl.queue = pre ++ rest ∧ t.dfl.infl = s.dfl.infl ∧ t.dfl.defl = s.dfl.defl ∧
        t.dfl.cpl = s.dfl.cpl ++ [⟨e, some s.wt.cycle⟩] ∧ e.2.1 = 0 ∧ e.2.2.1 = 0 ∧ e.2.2.2 = BitVec.ofNat 32 (adler32 1 []) ∧
        e.1 = BitVec.ofNat 32 (j.f0 24 8 + status * 2 ^ 8 + j.f0 0 1 * 2 ^ 16 + (if j.by_ = .host then 2 ^ 17 else 0)) ∧
        t.flag F.DFL_STATUS_JOB_ERR = true ∧ BitsKept [F.DFL_STATUS_JOB_ERR, F.SEQ_EVQ_STATUS_OVERFLOW 4] s t ∧
        (if j.f0 11 1 = 1 then
          Told 4 0x49 status false (j.f0 24 8 + j.f0 0 1 * 2 ^ 8 + if j.by_ = .host then 2 ^ 9 else 0) s t
        else t.seqs = s.seqs)
    let input := (List.range (j.word 2).toNat).map fun k => (s.dr j.srcQuad).byte ((j.word 1).toNat + k)
    let sound (n : QuadId) : Prop := s.dramServes n = true ∧ s.inlineEcc n = false ∧
      s.flag (F.DRAM_CFG_LINK_ECC n) = false ∧ (s.dr n).u05 = []
    let ends : Prop := sound j.srcQuad ∧ sound j.dstQuad ∧
      (j.word 1).toNat + (j.word 2).toNat ≤ s.dramSize j.srcQuad ∧
      s.bufferBad j (j.word 3).toNat (j.word 4).toNat = false
    let stands (out : List Byte) (t : State) : Prop := mems [j.dstQuad] t ∧
      ∀ a, (t.dr j.dstQuad).byte a =
        if (j.word 3).toNat ≤ a ∧ a < (j.word 3).toNat + out.length then out.getD (a - (j.word 3).toNat) 0
        else (s.dr j.dstQuad).byte a
    let late (by_ : JobBy) (x : DflJob) : Prop := x.born = some s.wt.cycle ∧ by_.place < x.by_.place
    let joined (words : List Word) (by_ : JobBy) (t : State) : Prop := ∃ front back, s.dfl.queue = front ++ back ∧
      t.dfl.queue = front ++ { words := words, by_ := by_, born := some s.wt.cycle } :: back ∧
      (∀ x ∈ front, ¬ late by_ x) ∧ ∀ x, back.head? = some x → late by_ x
    (∀ v : Word, s.jobCredit ≠ 0 →
      (∃ t, exec (.dflJobPush .sqs v) s = .next t ∧ t = { s with dfl := { s.dfl with stageSqs := t.dfl.stageSqs, queue := t.dfl.queue } } ∧
        (s.dfl.stageSqs.length < 7 → t.dfl.stageSqs = s.dfl.stageSqs ++ [v] ∧ t.dfl.queue = s.dfl.queue) ∧
        (s.dfl.stageSqs.length = 7 → t.dfl.stageSqs = [] ∧ joined (s.dfl.stageSqs ++ [v]) .sqs t)) ∧
      ∃ t, exec (.dflJobPush .host v) s = .next t ∧ t = { s with dfl := { s.dfl with stageHost := t.dfl.stageHost, queue := t.dfl.queue } } ∧
        (s.dfl.stageHost.length < 7 → t.dfl.stageHost = s.dfl.stageHost ++ [v] ∧ t.dfl.queue = s.dfl.queue) ∧
        (s.dfl.stageHost.length = 7 → t.dfl.stageHost = [] ∧ joined (s.dfl.stageHost ++ [v]) .host t)) ∧
    ((∃ d ∈ s.ing.queue, d.bound = none ∨ d.bound = some i) → s.get F.DFL_CFG_PROG_EVERY = 0 →
      exec (.jobStart u) s = .next s) ∧
    (s.ing.queue = [] → quiet → (s.inflater i).cur = none → s.dfl.infl[i] = none → s.dfl.past = false → s.cplRoom = true →
      s.dfl.queue = pre ++ j :: rest → (∀ x ∈ pre, ¬ mine x) → mine j → j.program = true →
      ∃ t, exec (.jobStart u) s = .next t ∧
        (j.descBad = true → atOnce 0x23 t) ∧
        (j.descBad = false → t = { s with dfl := t.dfl, ing := t.ing, regs := t.regs } ∧ OnlyBits [busy] s { s with regs := t.regs } ∧
          t.dfl = { s.dfl with queue := pre ++ rest, infl := s.dfl.infl.set i (some j) } ∧ t.get busy = 1)) ∧
    (s.dfl.defl = none → s.dfl.past = false → s.cplRoom = true → s.dfl.queue = pre ++ j :: rest →
      (∀ x ∈ pre, x.isDeflate = false) → j.isDeflate = true →
      ∃ t, exec (.jobStart 4) s = .next t ∧
        (j.program = true → j.descBad = true → atOnce 0x23 t ∧ t.dfl.contOk = false) ∧
        (j.program = true → j.descBad = false → j.f0 10 1 = 1 → s.dfl.contOk = false → atOnce 0x22 t) ∧
        (j.descBad = false → (j.program = false ∨ j.f0 10 1 = 0 ∨ s.dfl.contOk = true) →
          t = { s with dfl := t.dfl, regs := t.regs, bus := t.bus } ∧ BitsKept [F.DFL_STATUS_DEFL_BUSY] s t ∧
          t.flag F.DFL_STATUS_DEFL_BUSY = true ∧ t.dfl.queue = pre ++ rest ∧ t.dfl.defl = some j ∧
          t.dfl.infl = s.dfl.infl ∧ t.dfl.cpl = s.dfl.cpl ∧
          (if j.program = true ∧ j.f0 10 1 = 0 then
            t.dfl.win = [] ∧ t.dfl.adler = 1 ∧ t.dfl.zlib = decide (j.f0 8 1 = 1)
          else t.dfl.win = s.dfl.win ∧ t.dfl.adler = s.dfl.adler ∧ t.dfl.zlib = s.dfl.zlib))) ∧
    (s.dfl.infl[i] = some j → j.program = true → s.ing.queue = [] → quiet → ends →
      let limit := if (j.word 6).toNat = 0 then none else some (j.word 6).toNat
      let o := inflate input [] limit false
      o.err = none → o.bytes.length ≤ (j.word 4).toNat →
      ∃ t, exec (.jobComplete u) s = .next t ∧ stands o.bytes t ∧ t.get busy = 0 ∧ t.dfl.infl = s.dfl.infl.set i none ∧
        t.dfl.queue = s.dfl.queue ∧
        t.dfl.cpl = s.dfl.cpl ++
          [⟨(BitVec.ofNat 32 (j.f0 24 8 + j.f0 0 1 * 2 ^ 16 + (if j.by_ = .host then 2 ^ 17 else 0)),
            BitVec.ofNat 32 o.bytes.length, BitVec.ofNat 32 (input.length - o.rest), BitVec.ofNat 32 (adler32 1 o.bytes)),
            some s.wt.cycle⟩] ∧
        (0 < o.rest → t.flag F.DFL_STATUS_TRAILING = true)) ∧
    (s.dfl.defl = some j → ends →
      let out := s.deflateStream j input
      out.length ≤ (j.word 4).toNat →
      ∃ t, exec (.jobComplete 4) s = .next t ∧ stands out t ∧ t.flag F.DFL_STATUS_DEFL_BUSY = false ∧
        t.dfl.defl = none ∧ t.dfl.queue = s.dfl.queue ∧ t.dfl.infl = s.dfl.infl ∧
        (j.program = true →
          t.dfl.cpl = s.dfl.cpl ++
            [⟨(BitVec.ofNat 32 (j.f0 24 8 + j.f0 0 1 * 2 ^ 16 + (if j.by_ = .host then 2 ^ 17 else 0)),
              BitVec.ofNat 32 out.length, BitVec.ofNat 32 input.length, BitVec.ofNat 32 (adler32 1 input)),
              some s.wt.cycle⟩] ∧
          t.dfl.contOk = decide (j.f0 9 1 = 1) ∧ t.dfl.win = lastBytes 32768 (s.dfl.win ++ input) ∧
          t.dfl.adler = adler32 s.dfl.adler input) ∧
        (∀ port ctx set, j.by_ = .cam port ctx set → s.geo.load = none → s.flippedTo j.dstQuad = none →
          t.dfl.cpl = s.dfl.cpl ∧ t.dfl.win = s.dfl.win ∧ t.dfl.contOk = s.dfl.contOk ∧
          (t.rd A.DFL_CAM_LAST).toNat = port.val * 2 ^ 8 + 2 ^ 31 ∧
          t.rd (A.CAM_CTX_DFL_LEN ctx) = BitVec.ofNat 32 out.length ∧
          Told 4 0x4C 0 false (ctx.val + set.val * 4) s t))

/-- O44. BLT_GO with GO = 0 does nothing. With GO = 1 and the engine idle it clears ROWS_DONE (but in case U12, log
89); a HEIGHT of 0 completes at once with BLT_DONE, its fence counted where the destination is a plane; an operation
that a check refuses sets PARAM_BAD and pushes BLT_DONE, its fence uncounted; any other sets BUSY with every
parameter as sampled. BLT_ROW_WRITTEN of an operation in DRAM or in planes writes the next row, from the top or,
with YDIR, from the bottom, one span after another, from the right with XDIR: the spans cut the row at the
destination's 64-byte words, and every pixel of a span gets the ROP3 code of pattern, source and destination as they
stood after the spans before it. No other byte of the destination's store changes, and no other store; a failing
word of the scene store that a row reads as source counts as 0 and sets MEM_ERR. ROWS_DONE counts the row, the
watermark row pushes BLT_WMARK, and the last row clears BUSY, pushes BLT_DONE and, on a plane, counts its fence.
(R347, R348, R351, R352, R353, R354, R356, R357, R358, R359) -/
def Obligations.BlockOperations : Prop :=
  (∀ dx w bytes : Nat, 0 < w → bytes = 1 ∨ bytes = 2 ∨ bytes = 4 →
    (bltSpans dx w bytes).flatMap (fun x => List.range' x.1 (x.2 - x.1)) = List.range w ∧
    ∀ x ∈ bltSpans dx w bytes, x.1 < x.2 ∧ (dx + x.1) * bytes / 64 = (dx + x.2 - 1) * bytes / 64 ∧
      (x.1 = 0 ∨ (dx + x.1) * bytes % 64 = 0) ∧ (x.2 = w ∨ (dx + x.2) * bytes % 64 = 0)) ∧
  ∀ (s : State) (n : QuadId) (v : Word),
    let q : SeqId := ⟨n.val, by omega⟩
    let o := s.bltSample n
    let lost := F.SEQ_EVQ_STATUS_OVERFLOW n.val
    let done := F.BLT_STATUS_ROWS_DONE n
    let fenced (o : BltOp) (u : State) : State := match o.dst, o.fence with
      | .plane p _ _ _, some f => u.countFence p (u.resolveFrame f)
      | _, _ => u
    (s.flag (F.BLT_STATUS_BUSY n) = false → ∃ t, exec (.bltGo n v) s = .next t ∧
      (v.getLsbD 0 = false → t = s) ∧
      (v.getLsbD 0 = true → 0 < o.h → s.bltRefused n o = true ∨ o.isU12 = false → t.get done = 0) ∧
      (v.getLsbD 0 = true → o.h = 0 → ∃ u, t = fenced o u ∧ u.get done = 0 ∧
        u = { s with regs := u.regs, seqs := u.seqs, bus := u.bus, blt := s.blt.set n none } ∧ BitsKept [done, lost] s u ∧
          Told q 0x10 0 false 0 s u) ∧
      (v.getLsbD 0 = true → 0 < o.h → s.bltRefused n o = true →
        t = { s with regs := t.regs, seqs := t.seqs, bus := t.bus } ∧ BitsKept [done, F.BLT_STATUS_PARAM_BAD n, lost] s t ∧
          t.flag (F.BLT_STATUS_PARAM_BAD n) = true ∧ Told q 0x10 0 false 0 s t) ∧
      (v.getLsbD 0 = true → 0 < o.h → s.bltRefused n o = false → o.isU12 = false →
        t = { s with regs := t.regs, bus := t.bus, blt := s.blt.set n (some o) } ∧
          BitsKept [done, F.BLT_STATUS_BUSY n] s t ∧ t.flag (F.BLT_STATUS_BUSY n) = true) ∧
      (v.getLsbD 0 = true → 0 < o.h → s.bltRefused n o = false → o.isU12 = true →
        t.blt[n] = some { o with u12 := true } ∧ t.flag (F.BLT_STATUS_BUSY n) = true)) ∧
    (∀ o : BltOp, s.blt[n] = some o → o.u12 = false → o.bytes = 1 ∨ o.bytes = 2 ∨ o.bytes = 4 → 0 < o.w → o.rows < o.h →
      s.geo.load = none → s.flippedTo n = none →
      let inPlane (b : BltSurf) : Bool := match b with | .plane _ _ _ _ => true | .dram _ _ => false
      let source := ropSource o.rop
      let r := if o.ydir = true then o.h - 1 - o.rows else o.rows
      let spans := if o.xdir = true then (bltSpans o.dx o.w o.bytes).reverse else bltSpans o.dx o.w o.bytes
      let da (x : Nat) := o.dst.at_ o.bytes (o.dx + x) (o.dy + r)
      let sa (x : Nat) := o.src.at_ o.bytes (o.sx + x) (o.sy + r)
      let byte (t : State) (b : BltSurf) : Nat → Byte := if inPlane b = true then t.sceneByte else (t.dr n).byte
      let good (b : BltSurf) (a : Nat) : Byte := if inPlane b = true ∧ s.sceneBad a = true then 0 else byte s b a
      let same := inPlane o.src = inPlane o.dst
      let pixel (m : Nat → Byte) (a : Nat) := leNat ((List.range o.bytes).map fun k => m (a + k))
      let span (m : Nat → Byte) (x : Nat × Nat) (a : Nat) : Byte :=
        if da x.1 ≤ a ∧ a < da x.1 + (x.2 - x.1) * o.bytes then
          let i := (a - da x.1) / o.bytes
          (leBytes o.bytes (rop3 o.rop (o.pattern (o.dx + x.1 + i) (o.dy + r))
            (pixel (if same then m else good o.src) (sa x.1 + i * o.bytes)) (pixel m (da x.1 + i * o.bytes))
            (8 * o.bytes))).getD ((a - da x.1) % o.bytes) 0
        else m a
      let reads := (List.range (o.w * o.bytes)).map (sa 0 + ·)
      let fits (b : BltSurf) (a : Nat) : Prop := if inPlane b = true then o.bytes = 4
        else s.dramServes n = true ∧ s.inlineEcc n = false ∧ s.flag (F.DRAM_CFG_LINK_ECC n) = false ∧ (s.dr n).u05 = [] ∧
          a + o.w * o.bytes ≤ s.dramSize n
      fits o.dst (da 0) → (source = true → fits o.src (sa 0)) → (inPlane o.dst = true → s.ing.bad = []) →
      ∃ t u w, exec (.bltRowWritten n) s = .next t ∧ t = (if o.rows + 1 = o.h then fenced o u else u) ∧
        (∀ a, byte u o.dst a = spans.foldl span (byte s o.dst) a) ∧
        (∀ m, m ≠ n ∨ inPlane o.dst = true → (u.dr m).mem = (s.dr m).mem) ∧
        u.ing = { s.ing with scene := u.ing.scene } ∧ (inPlane o.dst = false → u.ing = s.ing) ∧ u.scan = s.scan ∧
        u.get done = (o.rows + 1) % 65536 ∧ (∀ m, m ≠ n → u.blt[m] = s.blt[m]) ∧
        (source = true → inPlane o.src = true → (∃ a ∈ reads, s.sceneBad a = true) →
          u.flag (F.BLT_STATUS_MEM_ERR n) = true) ∧
        ((source = true → inPlane o.src = true → ∀ a ∈ reads, s.sceneBad a = false) →
          BitsKept [done, F.BLT_STATUS_BUSY n, lost, F.BIST_COUNT_CORR, whole A.BIST_ERR_ADDR, F.BIST_STATUS_RETEST] s u ∧
          w.wt = s.wt ∧
          (if o.wmark = some r then Told q 0x11 0 false r s w
            else w.seqs = s.seqs ∧ w.rd (A.SEQ_EVQ_STATUS n.val) = s.rd (A.SEQ_EVQ_STATUS n.val)) ∧
          (if o.rows + 1 = o.h then Told q 0x10 0 false 0 w u
            else u.seqs = w.seqs ∧ u.rd (A.SEQ_EVQ_STATUS n.val) = w.rd (A.SEQ_EVQ_STATUS n.val))) ∧
        (o.rows + 1 < o.h → u.blt[n] = some { o with rows := o.rows + 1 } ∧
          u.flag (F.BLT_STATUS_BUSY n) = s.flag (F.BLT_STATUS_BUSY n)) ∧
        (o.rows + 1 = o.h → u.blt[n] = none ∧ u.flag (F.BLT_STATUS_BUSY n) = false)) ∧
    (∀ o : BltOp, s.blt[n] = some o → o.u12 = true → o.rows < o.h → s.bltServed n o = true →
      ∃ t, exec (.bltRowWritten n) s = .next t ∧
        t.blt[n] = if o.rows + 1 = o.h then none else some { o with rows := o.rows + 1 })

/-- O45. On an enabled and powered port, a Frame Start of a mapped and enabled context samples its registers and
drops the frame with its reason, or takes it in progress; it first ends a frame that still arrives, with FE_MISSING;
the frame of a higher context that started in the same core cycle is judged after it, and is dropped with reason 1
where the two rates exceed 1,200; one whose header is uncorrectable is only counted. A line of the frame's data
type, with no row to process, is held as 12-bit codes with the place of its packet in time: padded with its last
pixel or cut to the width with LINE_ERR, marked with CRC_ERR where its CRC fails, discarded with LONG beyond the
height; without a free entry the frame is dropped whole with reason 2 and counted, and is not in progress any more.
A Frame End closes the frame: without a line it is dropped with reason 3, with too few SHORT_FRAME is set, and it
then waits to complete. CAM_FRAME processes the rows that are due, and of the oldest ended frame, all its rows then
processed and its outputs within DRAM, advances SEQ, writes LAST, pushes CAM_FRAME with the set and the flags,
places the record at the set's base and queues the camera job where one is asked for, before the other jobs of its
core cycle, or skips it with no entry free. No other context changes. (R125, R363, R364, R365, R366, R367, R368,
R370, R378, R379, R380, R334) -/
def Obligations.CameraFrames : Prop :=
  ∀ (s : State) (p : Fin 2) (vc : Fin 16) (num : BitVec 16) (c : Fin 4) (f : CamFrame) (rest : List CamFrame),
    let others (t : State) : Prop := ∀ d : Fin 4, d ≠ c → t.cx d = s.cx d
    let st (b : Nat) : Fld := ⟨A.CAM_CTX_STATUS c, b, 1⟩
    let lost := F.SEQ_EVQ_STATUS_OVERFLOW 4
    let counted (x : Fld) (t : State) : Prop := t.get x = min (s.get x + 1) (2 ^ x.w - 1)
    let now := 4 * s.wt.cycle + c.val
    s.camOn = true → s.flag (F.CAM_PORT_CTRL_EN p) = true → s.camMap p vc = some c → s.camMixed c = false →
    ((∃ t, exec (.csiFrameStart p .bad vc num) s = .next t ∧ OnlyBits [F.CAM_PORT_ERR0_ECC_BAD p] s t ∧
        counted (F.CAM_PORT_ERR0_ECC_BAD p) t) ∧
      ∃ t, exec (.csiFrameEnd p .bad vc num) s = .next t ∧ OnlyBits [F.CAM_PORT_ERR0_ECC_BAD p] s t ∧
        counted (F.CAM_PORT_ERR0_ECC_BAD p) t) ∧
    ((s.cx c).cur = none → s.flag (F.CAM_CTX_CTRL_EN c) = true →
      let x : CamFrame := { words := s.camSample c, port := p, number := num.toNat, stamp := s.wall16 / 16384 * 16384,
                            trig := s.pins.trigAt[p], inProg := false, dropped := true,
                            flags := if (s.pins.trigAt[p]).isSome = true then 32 else 0
                            born := some (s.wt.cycle, (s.rd (A.CAM_CTX_STATUS c)).toNat) }
      (∀ (d : Fin 4) (y : CamFrame), c < d → s.camJust d = some y → (∀ e, e ≠ c → e ≠ d → (s.cx e).cur = none) →
        s.camBad x = false → s.camBad y = false → y.inProg = true → y.dropped = false →
        ∃ t, exec (.csiFrameStart p .ok vc num) s = .next t ∧
          (t.cx c).cur = some { x with inProg := true, dropped := false } ∧
          if 1200 < x.mpx + y.mpx then
            (t.cx d).cur = some { y with inProg := false, dropped := true } ∧ t.get ⟨A.CAM_CTX_STATUS d, 5, 1⟩ = 1 ∧
              counted (F.CAM_CTX_DROPS_RATE d) t ∧ Told 4 0x4B d.val false 1 s t
          else (t.cx d).cur = some y ∧ t.regs = s.regs ∧ t.seqs = s.seqs) ∧
      ((∀ d, c < d → s.camJust d = none) → ∃ t, exec (.csiFrameStart p .ok vc num) s = .next t ∧ others t ∧
        t = { s with cam := t.cam, pins := { s.pins with trigAt := s.pins.trigAt.set p none },
                     regs := t.regs, seqs := t.seqs, bus := t.bus } ∧ (t.cx c).ended = (s.cx c).ended ∧
        (s.camBad x = true → (t.cx c).cur = some x ∧ t.get (st 7) = 1 ∧ Told 4 0x4B c.val false 4 s t ∧
          counted (F.CAM_CTX_DROPS_EMPTY c) t ∧ BitsKept [st 7, F.CAM_CTX_DROPS_EMPTY c, lost] s t) ∧
        (s.camBad x = false → 1200 < s.camLoad + x.mpx → (t.cx c).cur = some x ∧ t.get (st 5) = 1 ∧
          counted (F.CAM_CTX_DROPS_RATE c) t ∧
          Told 4 0x4B c.val false 1 s t ∧ BitsKept [st 5, F.CAM_CTX_DROPS_RATE c, lost] s t) ∧
        (s.camBad x = false → s.camLoad + x.mpx ≤ 1200 →
          (t.cx c).cur = some { x with inProg := true, dropped := false } ∧ t.regs = s.regs ∧ t.seqs = s.seqs))) ∧
    ((s.cx c).cur = some f → f.dropped = false → (∀ d, c < d → s.camJust d = none) →
      ∃ t, exec (.csiFrameStart p .ok vc num) s = .next t ∧ others t ∧
      t.get (st 4) = 1 ∧
      (f.got = 0 → (t.cx c).ended = (s.cx c).ended ∧ t.get (st 6) = 1) ∧
      (0 < f.got → (t.cx c).ended = (s.cx c).ended ++ [{ f with inProg := false, endOrd := some now
                                                                flags := if f.got < f.height
                                                                  then withBit (withBit f.flags 4) 0
                                                                  else withBit f.flags 4 }])) ∧
    (∀ (l : CsiLine) (rows : Nat), (s.cx c).cur = some f → f.dropped = false → l.ecc = .ok → l.vc = vc →
      l.dt.toNat = (if f.flag F.CAM_CTX_CTRL_DT = true then 0x2C else 0x2B) → rows = 0 ∨ s.camNext = none →
      let codes := l.pixels.map fun v => if f.flag F.CAM_CTX_CTRL_DT = true then v.toNat else v.toNat % 1024 * 4
      let bad := st 3 :: (if l.crcOk = true then [] else [F.CAM_PORT_ERR1_CRC_ERR p])
      let crc (x : CamFrame) : CamFrame := if l.crcOk = true then x else { x with flags := withBit x.flags 3 }
      let g := crc { f with got := f.got + 1 }
      ∃ t, exec (.csiLine p l rows []) s = .next t ∧ others t ∧ (t.cx c).ended = (s.cx c).ended ∧
        t = { s with cam := t.cam, regs := t.regs, seqs := t.seqs, bus := t.bus, free := t.free } ∧
        (l.crcOk = false → t.get (st 3) = 1 ∧ counted (F.CAM_PORT_ERR1_CRC_ERR p) t) ∧
        (f.height ≤ f.got → (t.cx c).cur = some { g with flags := withBit g.flags 1 } ∧ t.get (st 1) = 1 ∧
          t.seqs = s.seqs ∧ BitsKept (st 1 :: bad) s t) ∧
        (f.got < f.height → s.camHeld c < 24 → codes ≠ [] →
          (t.cx c).cur = some { g with
            flags := if codes.length = f.width then g.flags else withBit g.flags 2
            lines := f.lines ++ [⟨now, (codes ++ List.replicate (f.width - codes.length) (codes.getLast?.getD 0)).take f.width⟩] } ∧
          (codes.length ≠ f.width → t.get (st 2) = 1) ∧ t.seqs = s.seqs ∧
          BitsKept (bad ++ if codes.length = f.width then [] else [st 2]) s t ∧
          (codes.length = f.width → l.crcOk = true → t.regs = s.regs)) ∧
        (f.got < f.height → 24 ≤ s.camHeld c →
          let drop := if p.val = 0 then F.CRD_CAM_DROP_PORT0 else F.CRD_CAM_DROP_PORT1
          Told 4 0x4B c.val false 2 s t ∧ (f.port = p → counted drop t) ∧
          ∃ x, (t.cx c).cur = some x ∧ x.dropped = true ∧ x.inProg = false ∧ x.lines = [] ∧ x.cells = [])) ∧
    ((s.cx c).cur = some f → f.dropped = false → ∃ t, exec (.csiFrameEnd p .ok vc num) s = .next t ∧ others t ∧
      t = { s with cam := t.cam, regs := t.regs, seqs := t.seqs, bus := t.bus } ∧ (t.cx c).cur = none ∧
      (f.got = 0 → (t.cx c).ended = (s.cx c).ended ∧ t.get (st 6) = 1 ∧ Told 4 0x4B c.val false 3 s t ∧
        counted (F.CAM_CTX_DROPS_EMPTY c) t ∧ BitsKept [st 6, F.CAM_CTX_DROPS_EMPTY c, lost] s t) ∧
      (0 < f.got → f.got < f.height → t.get (st 0) = 1 ∧ t.seqs = s.seqs ∧ BitsKept [st 0] s t ∧
        (t.cx c).ended = (s.cx c).ended ++ [{ f with inProg := false, endOrd := some now, flags := withBit f.flags 0 }]) ∧
      (0 < f.got → f.height ≤ f.got → t = { s with cam := t.cam } ∧
        (t.cx c).ended = (s.cx c).ended ++ [{ f with inProg := false, endOrd := some now }])) ∧
    (let u := s.camFinish c [] s.camRowsLeft;
      (u.cx c).ended = f :: rest → f.hc ≤ f.cells.length → u.camMixed c = false →
      let seq := f.seq.getD (u.get (F.CAM_CTX_SEQ_SEQ c))
      let b := seq % 2
      let flags := f.flags + b * 64
      let rec_ := f.base A.CAM_CTX_REC_BASE b
      let head := leBytes 2 f.number ++ [BitVec.ofNat 8 c.val, BitVec.ofNat 8 flags] ++ leBytes 2 (min f.got 65535)
        ++ leBytes 2 0 ++ timeBytes f.stamp
      let job := f.flag F.CAM_CTX_CTRL_CODE_EN = true ∧ f.flag F.CAM_CTX_CTRL_CODE_DFL = true
      u.dramServes f.quad = true → (u.dr f.quad).u05 = [] → u.geo.load = none → u.flippedTo f.quad = none →
      (∀ r ∈ f.outputs b, r.1 + r.2 ≤ u.dramSize f.quad) →
      ∃ t, exec (.camFrame c []) s = .next t ∧ (∀ d : Fin 4, d ≠ c → t.cx d = u.cx d) ∧
        t.cx c = { u.cx c with ended := rest } ∧
        (u.inlineEcc f.quad = false → Told 4 0x4A (c.val + b * 4) false (f.number + flags * 2 ^ 16) u t) ∧
        t.get (F.CAM_CTX_SEQ_SEQ c) = (u.get (F.CAM_CTX_SEQ_SEQ c) + 1) % 2 ^ 32 ∧
        t.rd (A.CAM_CTX_LAST c) = BitVec.ofNat 32 (f.number + b * 2 ^ 16 + 2 ^ 31) ∧
        (∀ i < 24, (t.dr f.quad).byte (rec_ + i) = head.getD i 0) ∧ (∀ n : QuadId, n ≠ f.quad → (t.dr n).mem = (u.dr n).mem) ∧
        (¬ job → t.dfl = u.dfl) ∧
        (job → 16 ≤ u.cameraJobs → t.dfl = u.dfl ∧ t.flag F.DFL_STATUS_CAM_SKIP = true ∧
          (t.rd A.DFL_CAM_SKIP).toNat = min ((u.rd A.DFL_CAM_SKIP).toNat + 1) (2 ^ 32 - 1)) ∧
        (job → u.cameraJobs < 16 →
          ∃ (x : DflJob) (front back : List DflJob), u.dfl.queue = front ++ back ∧
            t.dfl = { u.dfl with queue := front ++ x :: back } ∧
            (∀ y ∈ front, y.born ≠ some s.wt.cycle ∨ y.program = false) ∧
            (∀ y, back.head? = some y → y.born = some s.wt.cycle ∧ y.program = true) ∧
            x.by_ = .cam f.port c ⟨b, Nat.mod_lt _ (by decide)⟩ ∧ x.isDeflate = true ∧
            x.word 1 = BitVec.ofNat 32 (f.base A.CAM_CTX_CODE_BASE b) ∧ x.word 2 = BitVec.ofNat 32 f.codeLen ∧
            x.word 3 = BitVec.ofNat 32 (f.word (A.CAM_CTX_DFL_BASE 0 b)) ∧
            x.word 4 = BitVec.ofNat 32 (f.word (A.CAM_CTX_DFL_SIZE 0 b))))

/-- O46. Where a row of cells is due as a line arrives, each of its cells has the values that the mosaic, the black
levels, the IR subtraction, the matrix and the tone LUT give it, and is saturated where a sample of it is. The NV12
output then holds the luma of the row, and with an odd row the chroma of its two rows; the IR plane its I; the
display output, once a block row is whole or the frame has no further row, blocks that decode to the pixels of the
frame's cells, encoded in the sectors of the smallest widths or raw beyond 224 bytes. No byte of DRAM outside the
outputs of the frame's set changes. The record of a completed frame holds the saturated cells, SEQ, the sums, the
histogram and, for each region, its entry: the sums over the cells above THRESH, the centroid rounded to the nearest
2^-8, the peak, SAT and EDGE, and VALID only of an enabled region with a positive sum; its last 160 bytes are 0.
(R214, R215, R367, R371, R372, R373, R374, R375, R376, R377, R378) -/
def Obligations.CameraOutputs : Prop :=
  ∀ (s : State) (p : Fin 2) (l : CsiLine) (c d : Fin 4) (f g : CamFrame) (rest : List CamFrame),
    let sound (t : State) (n : QuadId) : Prop := t.dramServes n = true ∧ (t.dr n).u05 = [] ∧ t.geo.load = none
    let apart (t : State) (x : CamFrame) (b : Nat) : Prop :=
      (∀ r ∈ x.outputs b, r.1 + r.2 ≤ t.dramSize x.quad) ∧
        (x.outputs b).Pairwise fun y z => y.1 + y.2 ≤ z.1 ∨ z.1 + z.2 ≤ y.1
    (s.camOn = true → s.flag (F.CAM_PORT_CTRL_EN p) = true → s.camMap p l.vc = some c → s.camMixed c = false →
      l.ecc = .ok → (s.cx c).cur = some f → f.dropped = false →
      l.dt.toNat = (if f.flag F.CAM_CTX_CTRL_DT = true then 0x2C else 0x2B) → s.camHeld c < 24 →
      s.camNext = some d → s.camFirst d = some g → sound s g.quad → s.inlineEcc g.quad = false → 4 ≤ g.wc → 2 ≤ g.hc →
      let j := g.cells.length
      let b := g.seq.getD (s.get (F.CAM_CTX_SEQ_SEQ d)) % 2
      let rccb := g.flag F.CAM_CTX_CTRL_MOSAIC
      let px := g.get F.CAM_CTX_CTRL_PX
      let py := g.get F.CAM_CTX_CTRL_PY
      let colour (x y : Nat) : Nat :=
        if rccb = true then ([[0, 1], [1, 2]].getD ((y + py) % 2) []).getD ((x + px) % 2) 0
        else ([[2, 1, 0, 1], [1, 3, 1, 3], [0, 1, 2, 1], [1, 3, 1, 3]].getD ((y + py) % 4) []).getD ((x + px) % 4) 0
      let black := [g.get F.CAM_CTX_BLACK0_R, g.get F.CAM_CTX_BLACK0_G, g.get F.CAM_CTX_BLACK1_B, g.get F.CAM_CTX_BLACK1_I]
      let sum4 (v : Nat → Nat → Nat) (x y : Nat) : Nat :=
        v (2 * x) (2 * y) + v (2 * x + 1) (2 * y) + v (2 * x) (2 * y + 1) + v (2 * x + 1) (2 * y + 1)
      let of_ (k x y : Nat) : Nat :=
        sum4 (fun u v => if colour u v = k then g.code u v - black.getD k 0 else 0) x y
      let holds (k x y : Nat) : Prop := 0 < sum4 (fun u v => if colour u v = k then 1 else 0) x y
      let west (x : Nat) := if x = 0 then 1 else x - 1
      let east (x n : Nat) := if x + 1 = n then n - 2 else x + 1
      let redBlue (k x : Nat) : Nat := if holds k x j then of_ k x j
        else (of_ k (west x) j + of_ k (east x g.wc) j + of_ k x (west j) + of_ k x (east j g.hc) + 2) / 4
      let green (x : Nat) : Nat := (of_ 1 x j + 1) / 2
      let infra (x : Nat) : Nat := if rccb = true then green x else of_ 3 x j
      let lessIr (v k x : Nat) : Nat := if rccb = true then v else v - (k * infra x + 2048) / 4096
      let triple (x : Nat) : Nat × Nat × Nat :=
        (lessIr (redBlue 0 x) (g.get F.CAM_CTX_IRK0_KR) x, lessIr (green x) (g.get F.CAM_CTX_IRK0_KG) x,
          lessIr (redBlue 2 x) (g.get F.CAM_CTX_IRK1_KB) x)
      let row3 (i : Nat) (v : Nat × Nat × Nat) : Nat :=
        (clampInt 0 4095 ((signed 16 (g.ccm (3 * i)) * v.1 + signed 16 (g.ccm (3 * i + 1)) * v.2.1
          + signed 16 (g.ccm (3 * i + 2)) * v.2.2 + 2048) / 4096)).toNat
      let tone (i : Nat) : Nat := field (s.rd (A.CAM_TONE (i / 2))) (16 * (i % 2)) 10
      let full := if g.flag F.CAM_CTX_CTRL_DT = true then 4095 else 4092
      j < g.hc → apart s g b →
      ∃ (t : State) (g' : CamFrame) (row : List CamCell), exec (.csiLine p l 1 []) s = .next t ∧ t.camFirst d = some g' ∧
        g'.cells = g.cells ++ [row] ∧ row.length = g.wc ∧
        (∀ n : QuadId, n ≠ g.quad → (t.dr n).mem = (s.dr n).mem) ∧
        (∀ a, (∀ r ∈ g.outputs b, a < r.1 ∨ r.1 + r.2 ≤ a) → (t.dr g.quad).byte a = (s.dr g.quad).byte a) ∧
        (∀ x y, row[x]? = some y → y.c = triple x ∧ y.ir = infra x ∧
          y.t = (tone (row3 0 (triple x)), tone (row3 1 (triple x)), tone (row3 2 (triple x))) ∧
          (y.sat = true ↔ ∃ u v, u < 2 ∧ v < 2 ∧ g.code (2 * x + u) (2 * j + v) = full)) ∧
        (g.flag F.CAM_CTX_CTRL_CODE_EN = true →
          let base := g.base A.CAM_CTX_CODE_BASE b
          (∀ x y, row[x]? = some y → (t.dr g.quad).byte (base + g.pc * j + x) =
            BitVec.ofNat 8 ((54 * (y.t.1 / 4) + 184 * (y.t.2.1 / 4) + 18 * (y.t.2.2 / 4) + 128) / 256)) ∧
          (∀ i a0 a1 a2 a3 up, j % 2 = 1 → g.cells[j - 1]? = some up → up[2 * i]? = some a0 → up[2 * i + 1]? = some a1 →
            row[2 * i]? = some a2 → row[2 * i + 1]? = some a3 →
            let mean (h : CamCell → Nat) : Int := ((h a0 / 4 + h a1 / 4 + h a2 / 4 + h a3 / 4 + 2) / 4 : Nat)
            let (R, G, B) := (mean fun a => a.t.1, mean fun a => a.t.2.1, mean fun a => a.t.2.2)
            let at_ := base + g.pc * g.hc + g.pc * (j / 2) + 2 * i
            (t.dr g.quad).byte at_ = BitVec.ofInt 8 (clampInt 0 255 (128 + (-29 * R - 99 * G + 128 * B + 128) / 256)) ∧
            (t.dr g.quad).byte (at_ + 1) = BitVec.ofInt 8 (clampInt 0 255 (128 + (128 * R - 116 * G - 12 * B + 128) / 256)))) ∧
        (g.flag F.CAM_CTX_CTRL_MV_EN = true → ∀ x y, row[x]? = some y →
          let base := g.base A.CAM_CTX_MV_BASE b
          (g.flag F.CAM_CTX_CTRL_MV_16 = false → (t.dr g.quad).byte (base + j * (ceilDiv g.wc 64 * 64) + x)
            = BitVec.ofNat 8 (y.ir / 16)) ∧
          (g.flag F.CAM_CTX_CTRL_MV_16 = true →
            leNat ((List.range 2).map fun i => (t.dr g.quad).byte (base + j * (ceilDiv (g.wc * 2) 64 * 64) + 2 * x + i))
              = y.ir % 2 ^ 16)) ∧
        (g.flag F.CAM_CTX_CTRL_DISP_EN = true → j % 4 = 3 ∨ j + 1 = g.hc → ∀ bx < ceilDiv g.wc 16,
          let i := j / 4 * ceilDiv g.wc 16 + bx
          let slot := g.base A.CAM_CTX_DISP_BASE b + 256 * i
          let size := ((t.dr g.quad).byte (g.base A.CAM_CTX_DISP_SIZEBASE b + i)).toNat
          let stored (k : Nat) : Nat := ((t.dr g.quad).byte (slot + k)).toNat
          let pixel (y : CamCell) : Nat := if g.flag F.CAM_CTX_CTRL_DISP_FMT = true
            then y.t.1 + y.t.2.1 * 2 ^ 10 + y.t.2.2 * 2 ^ 20 + 3 * 2 ^ 30
            else y.t.1 / 4 + y.t.2.1 / 4 * 2 ^ 8 + y.t.2.2 / 4 * 2 ^ 16 + 255 * 2 ^ 24
          let value (q : Nat) : Nat := match packedPixel (fun i => some (stored i)) size q with
            | some (.code v) => v
            | _ => 0
          let lane (l : Nat) := (List.range 64).map fun q => value q / 256 ^ l % 256
          let bits (l : Nat) : Nat :=
            let m := (lane l).foldl max 0 - (lane l).foldl min 255
            if m = 0 then 0 else Nat.log2 m + 1
          let length := 6 + 8 * (bits 0 + bits 1 + bits 2 + bits 3)
          size = (if 224 < length then 0x88 else ceilDiv length 32) ∧
          (∀ k x y cells, k < 4 → g'.cells[j / 4 * 4 + k]? = some cells → cells[16 * bx + x]? = some y → x < 16 →
            packedPixel (fun i => some (stored i)) size (16 * k + x) = some (.code (pixel y % 2 ^ 32))))) ∧
    (let u := s.camFinish c [] s.camRowsLeft;
      (u.cx c).ended = g :: rest → g.hc ≤ g.cells.length → u.camMixed c = false → sound u g.quad →
      let b := g.seq.getD (u.get (F.CAM_CTX_SEQ_SEQ c)) % 2
      let base := g.base A.CAM_CTX_REC_BASE b
      let cells := g.cells.flatMap id
      let total (h : CamCell → Nat) : Nat := (cells.map h).foldl (· + ·) 0
      apart u g b → ∃ t, exec (.camFrame c []) s = .next t ∧
        let num (a k : Nat) : Nat := leNat ((List.range k).map fun i => (t.dr g.quad).byte (base + a + i))
        let region (r : Nat) : Bool × Nat × Nat × Nat × Nat :=
          let pos := g.word (A.CAM_CTX_ROI_POS 0 r)
          let end_ := g.word (A.CAM_CTX_ROI_END 0 r)
          (bit end_ 31, pos % 4096, min (end_ % 4096) g.wc, pos / 65536 % 4096, min (end_ / 65536 % 4096) g.hc)
        let thresh := g.get F.CAM_CTX_THRESH_THRESH
        let inside (r : Nat) : List (Nat × Nat × CamCell) :=
          let (_, x0, x1, y0, y1) := region r
          (List.range (y1 - y0)).flatMap fun i => (List.range (x1 - x0)).filterMap fun k =>
            ((g.cells.getD (y0 + i) [])[x0 + k]?).map fun e => (x0 + k, y0 + i, e)
        let aboveSum (r : Nat) (h : Nat → Nat → Nat → Nat) : Nat :=
          (((inside r).filter fun e => decide (thresh < e.2.2.ir)).map fun e => h e.1 e.2.1 e.2.2.ir).foldl (· + ·) 0
        let weight (r : Nat) := aboveSum r fun _ _ v => v - thresh
        let valid (r : Nat) : Prop := (region r).1 = true ∧ 0 < weight r
        num 44 4 = (cells.filter (·.sat)).length % 2 ^ 32 ∧ num 48 4 = g.seq.getD 0 % 2 ^ 32 ∧
        num 64 8 = total (·.c.1) % 2 ^ 64 ∧ num 72 8 = total (·.c.2.1) % 2 ^ 64 ∧ num 80 8 = total (·.c.2.2) % 2 ^ 64 ∧
        num 88 8 = total (·.ir) % 2 ^ 64 ∧
        (∀ m < 64, num (96 + 4 * m) 4 = (cells.filter fun e => e.luma / 4 == m).length % 2 ^ 32) ∧
        num 864 160 = 0 ∧ num 41 1 = ((List.range 32).filter fun r => num (352 + 16 * r) 4 / 2 ^ 29 % 2 == 1).length ∧
        ∀ r < 32, let w0 := num (352 + 16 * r) 4
          let w1 := num (356 + 16 * r) 4
          (w0 / 2 ^ 29 % 2 = 1 ↔ valid r) ∧ (valid r → w0 / 2 ^ 24 % 32 = r ∧
            (∃ x, w0 % 2 ^ 24 = x % 2 ^ 24 ∧ 2 * weight r * x ≤ 256 * aboveSum r (fun x _ v => (2 * x + 1) * (v - thresh)) + weight r ∧
              256 * aboveSum r (fun x _ v => (2 * x + 1) * (v - thresh)) + weight r < 2 * weight r * (x + 1)) ∧
            (∃ y, w1 = y % 2 ^ 24 ∧ 2 * weight r * y ≤ 256 * aboveSum r (fun _ y v => (2 * y + 1) * (v - thresh)) + weight r ∧
              256 * aboveSum r (fun _ y v => (2 * y + 1) * (v - thresh)) + weight r < 2 * weight r * (y + 1)) ∧
            num (360 + 16 * r) 4 = min (weight r) (2 ^ 32 - 1) ∧
            num (364 + 16 * r) 2 = min (aboveSum r fun _ _ _ => 1) 65535 ∧
            num (366 + 16 * r) 2 = (((inside r).map fun e => if thresh < e.2.2.ir then e.2.2.ir else 0).foldl max 0) % 2 ^ 16 ∧
            (w0 / 2 ^ 30 % 2 = 1 ↔ ∃ e ∈ inside r, e.2.2.sat = true) ∧
            (w0 / 2 ^ 31 = 1 ↔ 0 < aboveSum r fun x y _ => let (_, x0, x1, y0, y1) := region r
              if x = x0 ∨ y = y0 ∨ x + 1 = x1 ∨ y + 1 = y1 then 1 else 0)))

/-- O47. For every quadrant of a device that is not held (log 212): INIT in OFF with a supported DENSITY and RATE
enters INIT, in INIT and READY it only sets STALE_WRITE, and so does RESUME but in SELF_REFRESH, where it begins the
resume; INIT that has lasted its time enters READY with its size, the queued mode writes performed and memory zeroed
where ZERO_INIT is 1, and a resume of 20 us enters READY with memory intact; a controller told to enter self-refresh
does so with its queues empty. A read that a controller takes enters the read queue with its word, as it stood
before the writes of its core cycle: in range the bytes, and where marked 64 zeros with its count, address and
source; a forwarded read meets no error of the devices, one whose youngest queued write is partial waits for the
writes up to it, behind the reads of their words; link errors count of a word that fails too, and a corrected word
is written back; a word at or beyond DRAM_SIZE is marked, and a write there is discarded, with RANGE and CODE 5; a
write stores exactly the enabled bytes that no higher-numbered requester wrote in this core cycle, over zeros where
the word was uncorrectable or, with inline SECDED, its read for a merge is; a full queue, or a controller that
serves nothing, takes neither. At a slot the accumulator takes in the time times M, a new M takes effect, and a unit
is issued per TREFI_NS; at 4 TREFI_NS between slots one unit is issued with REF_UNALIGNED and CODE 4. Mode-register
writes but MR4 queue, and a read clears VALID until its slot. (R386, R387, R388, R389, R391, R392, R393, R394, R396,
R397, R399, R400) -/
def Obligations.DramController : Prop :=
  ∀ (s : State) (n : QuadId) (v : Word),
    let st := s.dramState n
    let d := s.dr n
    let others (t : State) : Prop := ∀ m, m ≠ n → t.dr m = s.dr m
    let only (t : State) : Prop := t = { s with regs := t.regs, dram := t.dram } ∧ others t
    let stale (t : State) : Prop :=
      OnlyBits [F.DRAM_STATUS_STALE_WRITE n] s t ∧ t.flag (F.DRAM_STATUS_STALE_WRITE n) = true
    let size := 2 ^ (14 + s.get (F.DRAM_CFG_DENSITY n))
    let ready (t : State) : Prop := only t ∧ t.dramState n = 2 ∧
      BitsKept [F.DRAM_STATUS_STATE n, whole (A.DRAM_SIZE n)] s t ∧
      (t.rd (A.DRAM_SIZE n)).toNat = (if s.inlineEcc n = true then size / 8 * 7 else size)
    let clean : Prop := d.u05 = [] ∧ s.geo.load = none ∧ s.flippedTo n = none
    (s.held = true → exec (.dramInit n v) s = .next s ∧ exec (.resume n v) s = .next s) ∧
    (s.held = false → ∃ t, exec (.dramInit n v) s = .next t ∧
      (st = 0 → s.get (F.DRAM_CFG_DENSITY n) ≠ 3 → s.get (F.DRAM_CFG_RATE n) < 4 → only t ∧ t.dramState n = 1 ∧
        BitsKept [F.DRAM_STATUS_STATE n] s t ∧ t.dr n = { d with since := s.wt.cycle, u05 := [] }) ∧
      (st = 0 → s.get (F.DRAM_CFG_DENSITY n) = 3 ∨ 4 ≤ s.get (F.DRAM_CFG_RATE n) → t = s) ∧
      (st = 1 ∨ st = 2 → stale t) ∧ (st = 3 → v.getLsbD 1 = false → t = s)) ∧
    (s.held = false → ∃ t, exec (.resume n v) s = .next t ∧
      (st = 3 → d.resuming = false →
        t = { s with dram := t.dram } ∧ others t ∧ t.dr n = { d with resuming := true, since := s.wt.cycle, u05 := [] }) ∧
      (st = 1 ∨ st = 2 ∨ st = 0 ∧ v.getLsbD 0 = false → stale t)) ∧
    (st = 1 → s.passedUs d.since (s.initUs n) = true → ∃ t, exec (.dramInitDone n) s = .next t ∧ ready t ∧
      (t.dr n).mrw = [] ∧ (t.dr n).mem = if s.flag (F.DRAM_CFG_ZERO_INIT n) = true then [] else d.mem) ∧
    (st = 3 → d.resuming = true → s.passedUs d.since 20 = true →
      ∃ t, exec (.resumeDone n) s = .next t ∧ ready t ∧ (t.dr n).mem = d.mem) ∧
    (s.power.entry = .refresh → st = 2 → (∃ m, m ≠ n ∧ s.dramReady m = true) →
      ∃ t, exec (.selfRefreshEntry n) s = .next t ∧ only t ∧ t.dramState n = 3 ∧
        BitsKept [F.DRAM_STATUS_STATE n] s t ∧ t.dr n =
          { d with wq := [], rq := [], drain := false, resuming := false, out := (d.rq.getLast?.map DramRead.word).or d.out }) ∧
    (∀ (a : BitVec 32) (err : DramErr), s.dramServes n = true → d.rq.length < 64 →
      let w := a.toNat / 64
      let c := s.dramNow n
      let before := c.before.find? (fun e => e.1 == w)
      let bad : Bool := before.elim (s.dramBad n w) (·.2.1)
      let bytes := before.elim ((List.range 64).map fun i => d.byte (64 * w + i)) (·.2.2)
      let k := d.wq.length - c.writes.length
      let older := d.wq.take k
      let hit := ({ d with wq := older } : DramUnit).forwards w
      let waits : Prop := 64 * w < s.dramSize n ∧ older.reverse.find? (fun e => e.1 == w) = some (w, false)
      let answers (marked : Bool) (t : State) : Prop := (∀ m : QuadId, (t.dr m).mem = (s.dr m).mem) ∧
        ∃ r front back, d.rq = front ++ back ∧ (t.dr n).rq = back ++ [r] ∧
          (¬ waits → (err = .corr → d.wq.length < 64) → front = [] ∧ (t.dr n).out = d.out) ∧
          r.word = ⟨64 * w, marked, if marked = true then List.replicate 64 0 else bytes⟩
      let marked (src : Nat) (t : State) : Prop := answers true t ∧
        t.get (F.DRAM_ECC_CNT_UNCORR n) = min (s.get (F.DRAM_ECC_CNT_UNCORR n) + 1) 65535 ∧
        (t.rd (A.DRAM_ECC_ADDR n)).toNat = w + src * 2 ^ 28 + 2 ^ 31 ∧ t.flag (F.DRAM_STATUS_ECC_UNCORR n) = true
      let corrected (t : State) : Prop :=
        t.get (F.DRAM_ECC_CNT_CORR n) = min (s.get (F.DRAM_ECC_CNT_CORR n) + 1) 65535
      let link := s.flag (F.DRAM_CFG_LINK_ECC n)
      ∃ t, exec (.dramReadRequest n a err) s = .next t ∧ others t ∧
        (s.dramSize n ≤ 64 * w → marked 2 t ∧ t.flag (F.DRAM_STATUS_RANGE n) = true ∧
          (d.told = some s.frameIndex → ToldBoth n 0x38 5 w s t)) ∧
        (64 * w < s.dramSize n → bad = true →
          marked (if err = .linkUncorr ∧ hit = false ∧ link = true then 1 else 0) t) ∧
        (64 * w < s.dramSize n → err = .linkCorr → hit = false → link = true → corrected t) ∧
        (64 * w < s.dramSize n → bad = false → d.u05 = [] → hit = true ∨ s.inlineEcc n = false ∨ w ∉ d.stale →
          (err = .ok ∨ hit = true → answers false t ∧ t = { s with dram := t.dram } ∧
            (¬ waits → (t.dr n).wq = d.wq) ∧
            (waits → ∃ gone rest, older = gone ++ rest ∧ (t.dr n).wq = rest ++ d.wq.drop k ∧
              (∀ e ∈ rest, e.1 ≠ w) ∧ gone.getLast?.map (·.1) = some w)) ∧
          (err = .linkUncorr → hit = false → link = true → marked 1 t) ∧
          (err = .uncorr → hit = false → s.inlineEcc n = true → marked 0 t ∧ t.dramBad n w = true) ∧
          (err = .corr → hit = false → s.inlineEcc n = true → answers false t ∧ corrected t ∧
            (d.wq.length < 64 → (∀ e ∈ older, e.1 ≠ w) →
              (t.dr n).wq = older ++ (w, true) :: d.wq.drop k)))) ∧
    (∀ (a : BitVec 32) (err : DramErr) (by_ : Nat) (en : BitVec 64) (data : BitVec 512),
      (s.dramServes n = false ∨ 64 ≤ d.rq.length → exec (.dramReadRequest n a err) s = .next s) ∧
      (s.dramServes n = false ∨ 64 ≤ d.wq.length → exec (.dramWriteRequest n by_ a en data) s = .next s)) ∧
    (∀ (a : BitVec 32) (by_ : Nat) (en : BitVec 64) (data : BitVec 512), s.dramServes n = true → clean →
      d.wq.length < 64 →
      let w := a.toNat / 64
      let after := (s.dramNow n).later w by_
      ∃ t, exec (.dramWriteRequest n by_ a en data) s = .next t ∧ others t ∧
        (s.dramSize n ≤ 64 * w → t = { s with regs := t.regs, seqs := t.seqs, map := t.map, bus := t.bus } ∧
          t.flag (F.DRAM_STATUS_RANGE n) = true ∧ ToldBoth n 0x38 5 w s t) ∧
        (64 * w < s.dramSize n → ∃ lost : Bool, (s.dramBad n w = true → lost = true) ∧
          (s.inlineEcc n = false ∨ d.forwards w = true ∨ en = BitVec.allOnes 64 ∧ after = 0 → lost = s.dramBad n w) ∧
          ∀ x, (t.dr n).byte x =
            if 64 * w ≤ x ∧ x < 64 * w + 64 then
              if en.getLsbD (x - 64 * w) = true ∧ bit after (x - 64 * w) = false then data.extractLsb' (8 * (x - 64 * w)) 8
              else if lost = true then 0 else d.byte x
            else d.byte x) ∧
        (64 * w < s.dramSize n → t.dramBad n w = false)) ∧
    (∀ mrr : Byte, st = 2 → d.lastSlot < s.slotNow → 0 < s.trefi n →
      let acc := d.acc + (s.slotNow - d.accAt) * s.refM n
      ∃ t, exec (.refreshSlot n mrr) s = .next t ∧ only t ∧ (t.dr n).lastSlot = s.slotNow ∧ (t.dr n).mem = d.mem ∧
        (t.dr n).acc < s.trefi n ∧ (t.dr n).acc + ((t.dr n).units - d.units) * s.trefi n = acc ∧ d.units ≤ (t.dr n).units ∧
        (s.calIdle n = true → (t.dr n).mrw = d.mrw.drop 8 ∧ (t.dr n).mrr = none) ∧
        (s.calIdle n = true → d.mrr.isSome = true →
          (t.rd (A.DRAM_MRR n)).toNat = mrr.toNat + 2 ^ 31) ∧
        (s.calIdle n = false ∨ d.mrr = none → t.rd (A.DRAM_MRR n) = s.rd (A.DRAM_MRR n)) ∧
        BitsKept [whole (A.DRAM_MRR n), F.DRAM_REF_STATUS_M n] s t ∧ (t.dr n).mNew = none ∧
        t.get (F.DRAM_REF_STATUS_M n) = (d.mNew.getD (s.get (F.DRAM_REF_STATUS_M n))) % 4 ∧
        (s.calIdle n = false → (t.dr n).mrw = d.mrw ∧ (t.dr n).mrr = d.mrr)) ∧
    (let acc := d.acc + (s.wall16 - d.accAt) * s.refM n;
      st = 2 → 0 < s.trefi n → 4 * s.trefi n ≤ acc → ∃ t, exec (.refUnaligned n) s = .next t ∧ others t ∧
        t = { s with regs := t.regs, dram := t.dram, seqs := t.seqs, bus := t.bus } ∧
        t.flag (F.DRAM_STATUS_REF_UNALIGNED n) = true ∧
        t.dr n = { d with acc := acc - s.trefi n, accAt := max s.wall16 d.accAt, units := d.units + 1 } ∧
        BitsKept (F.DRAM_STATUS_REF_UNALIGNED n :: evqFields n) s t ∧ ToldBoth n 0x38 4 s.frameNo s t) ∧
    (∃ t, exec (.mrw n v) s = .next t ∧ (v.toNat % 256 = 4 → t = s) ∧
      (v.toNat % 256 ≠ 4 → t = { s with dram := t.dram } ∧ others t ∧ t.dr n = { d with mrw :=
        d.mrw ++ [(v.toNat % 256, v.toNat / 256 % 256, v.toNat / 65536 % 4)] })) ∧
    ∃ t, exec (.mrrReq n v) s = .next t ∧ only t ∧ BitsKept [F.DRAM_MRR_VALID n] s t ∧
      t.flag (F.DRAM_MRR_VALID n) = false ∧ t.dr n = { d with mrr := some (v.toNat % 256, v.toNat / 65536 % 2) }

/-- O48. HOLD with its checks passing asks for a hold, which then opens with HOLD_ACTIVE and CODE 0, ends at HOLD =
0 and expires after 10 us with HOLD cleared and HOLD_EXPIRED set; a hold, a sweep or a scan that a check refuses, as
a hold asked for during a sweep is, only sets REFUSED and REASON and tells it. CAL_GO with its checks passing and no
calibration under way makes the engine busy with a sweep of the sampled lane, kind and scratch region, clears VALID
of the old results, and touches no DRAM byte outside that region. After 80 us the sweep ends: it writes for each
entry the ends and width of the eye, the longest run of points within ERR_LIMIT, and all zeros but VALID where no
point passes, pushes CODE 0 and leaves every delay and reference setting. A receiver scan starts at once on a
network lane and on a neighbour lane 20 us after the CAPS that drops it; 40 us later it writes its results and
pushes CODE 0. (R402, R403, R406, R407, R408, R409, R412, R413, R414) -/
def Obligations.CalibrationRuns : Prop :=
  ∀ (s : State) (n : QuadId) (v : Word),
    let d := s.dr n
    let st := s.dramState n
    let others (t : State) : Prop := ∀ m, m ≠ n → t.dr m = s.dr m
    let pressed : Prop := s.scans n = true ∧ s.get (F.MAP_LEVEL_LEVEL n) < s.get (F.CAL_LEVEL_MIN_LEVEL n)
    let overlaid : Prop := s.scans n = true ∧ s.get (F.CMP_STATUS_OVL_LIVE n) ≠ 0
    let ended (t : State) : Prop := (t.dr n).cal = .none ∧ t.flag (F.CAL_STATUS_HOLD_ACTIVE n) = false ∧
      t.flag (F.CAL_STATUS_BUSY n) = false ∧ (t.dr n).mem = d.mem
    let calOver := [F.CAL_STATUS_BUSY n, F.CAL_STATUS_HOLD_ACTIVE n]
    let wakes (l : Fin 16) : List Fld := if l.val < 8 then [] else [F.NBR_STATUS_TX_SLEEP (rxPort l)]
    let eye (left width points limit : Nat) (errs : List Nat) : Prop :=
      let passes (i : Nat) : Prop := i < points ∧ errs.getD i 0 ≤ limit
      left + width ≤ points ∧ (∀ i, left ≤ i → i < left + width → passes i) ∧ (width = 0 → left = 0) ∧
        ∀ l w, (∀ i, l ≤ i → i < l + w → passes i) → w ≤ width ∧ (w = width → 0 < w → left ≤ l)
    let running : Prop := ∃ since lane kind limit base, d.cal = .sweep since lane kind limit base
    (d.cal = .none ∨ running → ∃ t, exec (.hold n v) s = .next t ∧ others t ∧ t.flag (F.CAL_CTRL_HOLD n) = true ∧
      (st = 2 → ¬ running → ¬ pressed → ¬ overlaid → t = { s with regs := t.regs, dram := t.dram } ∧
        BitsKept [F.CAL_CTRL_HOLD n] s t ∧ t.dr n = { d with cal := .asked }) ∧
      ∀ r, (st ≠ 2 ∧ r = 1 ∨ st = 2 ∧ running ∧ r = 2 ∨ st = 2 ∧ ¬ running ∧ pressed ∧ r = 3 ∨
          st = 2 ∧ ¬ running ∧ ¬ pressed ∧ overlaid ∧ r = 4) →
        t = { s with regs := t.regs, seqs := t.seqs, free := t.free, bus := t.bus } ∧
        BitsKept ([F.CAL_CTRL_HOLD n, F.CAL_STATUS_REFUSED n, F.CAL_STATUS_REASON n] ++ evqFields n) s t ∧
        t.flag (F.CAL_STATUS_REFUSED n) = true ∧ t.get (F.CAL_STATUS_REASON n) = r ∧
        ∃ k l, k < 4 ∧ l < 4 ∧ ToldBoth n 0x39 r (k + l * 16 + 256) s t) ∧
    (d.cal = .asked → ∃ t, exec (.holdActive n) s = .next t ∧ others t ∧
      t = { s with regs := t.regs, dram := t.dram, seqs := t.seqs, free := t.free, bus := t.bus } ∧
      BitsKept (F.CAL_STATUS_HOLD_ACTIVE n :: evqFields n) s t ∧ t.flag (F.CAL_STATUS_HOLD_ACTIVE n) = true ∧
      t.dr n = { d with cal := .hold s.wt.cycle } ∧ ∃ k l, k < 4 ∧ l < 4 ∧ ToldBoth n 0x39 0 (k + l * 16 + 256) s t) ∧
    (∀ since, d.cal = .asked ∨ d.cal = .hold since → ∃ t, exec (.holdRelease n v) s = .next t ∧ others t ∧ ended t ∧
      t.flag (F.CAL_CTRL_HOLD n) = false ∧ (d.mr4 = none → t = { s with regs := t.regs, dram := t.dram } ∧
        BitsKept (F.CAL_CTRL_HOLD n :: calOver) s t)) ∧
    (∀ since, d.cal = .hold since → s.passedUs since 10 = true → ∃ t, exec (.holdExpired n) s = .next t ∧ others t ∧
      ended t ∧ t.flag (F.CAL_CTRL_HOLD n) = false ∧ t.flag (F.CAL_STATUS_HOLD_EXPIRED n) = true ∧
      (d.mr4 = none → t = { s with regs := t.regs, dram := t.dram, bus := t.bus } ∧
        BitsKept ([F.CAL_CTRL_HOLD n, F.CAL_STATUS_HOLD_EXPIRED n] ++ calOver) s t)) ∧
    (d.cal = .none → s.flag (F.CAL_STATUS_BUSY n) = false → v.getLsbD 0 = true →
      let kind := s.get (F.CAL_CFG_KIND n)
      let lane := s.get (F.CAL_CFG_LANE n)
      let base := s.get (F.CAL_SCRATCH_BASE n) * 4096
      ∃ t, exec (.calGo n v) s = .next t ∧
        (st = 2 → ¬ pressed → ¬ overlaid → base + 4096 ≤ s.dramSize n → kind ≠ 3 →
          (∀ m, m ≠ n → (t.dr m).mem = (s.dr m).mem) ∧ t.flag (F.CAL_STATUS_BUSY n) = true ∧
          (∀ i < 9, t.flag (F.CAL_RES_VALID n i) = false) ∧ (t.dr n).cal = .sweep s.wt.cycle lane kind (s.get (F.CAL_CFG_ERR_LIMIT n)) base ∧
          (∀ x, x < base ∨ base + 4096 ≤ x → (t.dr n).byte x = d.byte x) ∧
          (s.inlineEcc n = true → ∀ x, base ≤ x → x < base + 4096 → t.dramBad n (x / 64) = true)) ∧
        (∀ r, (st ≠ 2 ∧ r = 1 ∨ st = 2 ∧ pressed ∧ r = 3 ∨ st = 2 ∧ ¬ pressed ∧ overlaid ∧ r = 4 ∨
            st = 2 ∧ ¬ pressed ∧ ¬ overlaid ∧ s.dramSize n < base + 4096 ∧ r = 5 ∨
            st = 2 ∧ ¬ pressed ∧ ¬ overlaid ∧ base + 4096 ≤ s.dramSize n ∧ kind = 3 ∧ r = 6) →
          t = { s with regs := t.regs, seqs := t.seqs, bus := t.bus } ∧
          BitsKept ([F.CAL_STATUS_REFUSED n, F.CAL_STATUS_REASON n] ++ evqFields n) s t ∧
          t.flag (F.CAL_STATUS_REFUSED n) = true ∧ t.get (F.CAL_STATUS_REASON n) = r ∧
          ToldBoth n 0x39 r (kind + lane * 16) s t)) ∧
    (∀ (since lane kind limit base : Nat) (errs : List (List Nat)) (now : List Nat),
      d.cal = .sweep since lane kind limit base → s.passedUs since 80 = true → d.mr4 = none →
      let entries := if kind = 2 then 1 else 9
      ∃ t, exec (.sweepDone n errs now) s = .next t ∧ others t ∧ ended t ∧
        t = { s with regs := t.regs, dram := t.dram, seqs := t.seqs, free := t.free, bus := t.bus } ∧
        (t.rd (A.CAL_FRAME n)).toNat = s.frameNo ∧ ToldBoth n 0x39 0 (kind + lane * 16) s t ∧
        BitsKept (calOver ++ [whole (A.CAL_FRAME n)] ++ evqFields n ++
          (List.range entries).flatMap fun i => [whole (A.CAL_RES n i), whole (A.CAL_EYE n i)]) s t ∧
        ∀ i < entries, ∃ left width, eye left width 128 limit (errs.getD i []) ∧
          (t.rd (A.CAL_RES n i)).toNat =
            left + (if width = 0 then 0 else left + width - 1) * 2 ^ 8 + width * 2 ^ 16 + 2 ^ 31 ∧
          t.get (F.CAL_EYE_ERRS n i) = min (now.getD i 0) 65535 ∧ (width = 0 → t.get (F.CAL_EYE_SIZE n i) = 0) ∧
          (kind = 2 → t.get (F.CAL_EYE_SIZE n i) = width * 40)) ∧
    (s.flag F.CAL_RX_STATUS_BUSY = false →
      let l : Fin 16 := ⟨v.toNat % 16, by omega⟩
      ∃ t, exec (.calRxGo v) s = .next t ∧
        (s.rxCheck l = 0 → t = { s with regs := t.regs, rxScan := t.rxScan, nbr := t.nbr, free := t.free, bus := t.bus } ∧
          BitsKept ([F.CAL_RX_STATUS_BUSY, F.CAL_RX_STATUS_LANE, F.CAL_RX_RES_VALID l] ++ wakes l) s t ∧
          t.flag (F.CAL_RX_RES_VALID l) = false ∧ t.flag F.CAL_RX_STATUS_BUSY = true ∧
          t.get F.CAL_RX_STATUS_LANE = l.val ∧
          t.rxScan = some { lane := l, since := s.wt.cycle, runs := decide (l.val < 8) }) ∧
        (s.rxCheck l ≠ 0 → t = { s with regs := t.regs, seqs := t.seqs, bus := t.bus } ∧ t.get F.CAL_RX_STATUS_REASON = s.rxCheck l ∧
          t.flag F.CAL_RX_STATUS_REFUSED = true ∧ Told 4 0x4D (s.rxCheck l) false l.val s t ∧
          BitsKept [F.CAL_RX_STATUS_REFUSED, F.CAL_RX_STATUS_REASON, F.SEQ_EVQ_STATUS_OVERFLOW 4] s t)) ∧
    (∀ x : RxScan, s.rxScan = some x → x.runs = false → s.passedUs x.since 20 = true →
      exec .nbrScanStart s = .next { s with rxScan := some { x with since := s.wt.cycle, runs := true } }) ∧
    ∀ (x : RxScan) (phase thr : List Nat), s.rxScan = some x → x.runs = true → s.passedUs x.since 40 = true →
      let l := x.lane
      let limit := s.get F.CAL_RX_CFG_ERR_LIMIT
      let code (i : Nat) : Nat := (i + 32) % 64
      ∃ t, exec (.rxScanDone phase thr) s = .next t ∧ t.rxScan = none ∧ t.flag F.CAL_RX_STATUS_BUSY = false ∧
        t = { s with regs := t.regs, rxScan := none, nbr := t.nbr, seqs := t.seqs, free := t.free, bus := t.bus } ∧
        Told 4 0x4D 0 false l.val s t ∧
        BitsKept ([F.CAL_RX_STATUS_BUSY, whole (A.CAL_RX_RES l), whole (A.CAL_RX_EYE l), F.CAL_RX_ERR_ERRS l,
          F.SEQ_EVQ_STATUS_OVERFLOW 4] ++ wakes l) s t ∧
        ∃ left width low height, eye left width 64 limit phase ∧ eye low height 32 limit thr ∧
          (width = 0 → (t.rd (A.CAL_RX_RES l)).toNat = 2 ^ 31) ∧
          (0 < width → (t.rd (A.CAL_RX_RES l)).toNat =
            code left + code (left + width - 1) * 2 ^ 8 + width * 2 ^ 16 + 2 ^ 31) ∧
          t.get (F.CAL_RX_EYE_HEIGHT l) = height * 4

/-- O49. A message to the root of trust that is heard, in sequence and verified, not of session 255, with no object
in work and none waiting, is executed. XFER with a new id and room opens a transfer with its fragment, and one with
reserved bits set is answered FORMAT. SUBMIT of no complete transfer is refused with STATE, of bytes that are no
object with FORMAT, of an object that fails to verify with its result, each with SEC event 4 and the transfer kept;
a verified session request becomes the object in work. CHALLENGE answers a nonce that then stands. KEY_UPDATE naming
the other phase installs its keys and ratchets, and is refused with STATE while the old keys stand. KEY_INSTALL
without KEYS is refused, and else places the key where its target says. SESSION_CLOSE gives its reply to the port,
under the session's key, and erases the session. ATTEST_REQ takes one leaf, opening a bottom tree, its public key
signed by the next leaf of the top tree, where none is open, and is refused without ATTEST, with LEAVES at a third
tree of one start, and with every fuse used. FLASH_WRITE of the parameter image copies DRAM, read without link ECC,
to its region. With eight requests waiting a further one is answered BUSY. No other session changes. (R418, R429,
R432, R433, R434, R435, R436, R437, R440, R443, R445) -/
def Obligations.RootOfTrustRequests : Prop :=
  ∀ (s : State) (p : RknPkt) (m : RknMsg),
    let r := mgmtReq s m
    let port := p.frame.port
    let i := r.session
    let x := s.session i
    let b := r.body
    let queued (h : HostMsg) (t : State) : Prop :=
      if s.net.mtx.length < 64 then t.net.mtx = s.net.mtx ++ [h]
      else t.net.mtx = s.net.mtx ∧
        (t.rd A.NET_MTX_DROP).toNat = min ((s.rd A.NET_MTX_DROP).toNat + 1) (2 ^ 32 - 1)
    let replies (status : Nat) (body : List Byte) (t : State) : Prop :=
      queued ⟨some r.dest, msgHeader r.opcode 1 status r.tag ++ body, false⟩ t
    let answers (y : RotResult) (kind : Nat) (t : State) : Prop := replies 0 (rotBody y kind 0) t
    let comes (op : Nat) : Prop := (rknHdr p).typ = 3 ∧ Heard p s ∧ InSequence p m s ∧ r.opcode = op ∧ s.rot.job = none ∧
      s.rot.queue = [] ∧ i ≠ 255 ∧ rotLenOk op b.length = true
    let took (l : List Fld) (t : State) : Prop := Accepted p s t ∧ (∀ k, k ≠ i → t.session k = s.session k) ∧
      t = { s with regs := t.regs, net := t.net, sess := t.sess, ing := t.ing, seqs := t.seqs, rot := t.rot,
                   free := t.free, nbr := t.nbr, wt := t.wt, dram := t.dram, bus := t.bus } ∧
      t.ing = { s.ing with gaps := t.ing.gaps } ∧ (∀ n : QuadId, (t.dr n).mem = (s.dr n).mem) ∧
      BitsKept (arrivalFields p ++ [whole A.NET_MTX_DROP, F.SEQ_EVQ_STATUS_OVERFLOW 4] ++ l) s t
    let quiet (t : State) : Prop := t.seqs = s.seqs ∧ t.rot = s.rot
    let refused (y : RotResult) (kind : Nat) (t : State) : Prop := took [] t ∧ answers y kind t ∧ t.rot = s.rot ∧
      Told 4 0x4E 4 false (y.code + kind * 256) s t
    ((rknHdr p).typ = 3 → Heard p s → InSequence p m s → r.opcode = 0x20 → 8 ≤ s.rot.queue.length →
      ∃ t, exec (.xfer p) s = .next t ∧ took [] t ∧ quiet t ∧ replies 1 [] t) ∧
    (let id := beNat (b.take 2)
     let off := beNat (bytesAt b 4 4)
     let data := b.drop 8
     comes 0x20 → (∃ t, exec (.xfer p) s = .next t ∧ took [] t ∧ quiet t ∧
      ((b.getD 2 0).toNat / 2 ≠ 0 ∨ b.getD 3 0 ≠ 0 → answers .format 0 t) ∧
      ((b.getD 2 0).toNat / 2 = 0 → b.getD 3 0 = 0 → off + data.length ≤ 65536 → (∀ y ∈ x.xfers, y.id ≠ id) →
        (x.xfers.length < 4 → answers .ok 0 t ∧ (t.session i).xfers = x.xfers ++
          [⟨id, [(off, data)], if (b.getD 2 0).getLsbD 0 = true then some (off + data.length) else none, s.wt.cycle⟩]) ∧
        (4 ≤ x.xfers.length → answers .state 0 t ∧ (t.session i).xfers = x.xfers)))) ∧
    (comes 0x21 → b.getD 0 0 = 0 → ∃ t, exec (.submit p) s = .next t ∧
      let id := beNat (bytesAt b 2 2)
      ((∀ y ∈ x.xfers, y.id = id → y.complete = false) → refused .state 0 t) ∧
      (∀ y, x.xfers.find? (fun z => z.id == id && z.complete) = some y →
        let src := y.frags.flatMap (·.2)
        (parseObject src = none → refused .format 0 t ∧ (t.session i).xfers = x.xfers) ∧
        ∀ o, parseObject src = some o → o.kind ≠ 2 →
          if s.verify o ≠ .ok then refused (s.verify o) o.kind t ∧ (t.session i).xfers = x.xfers
          else (o.kind = 1 → took [] t ∧ quiet t ∧ answers .ok 1 t ∧
              (t.session i).xfers = x.xfers.filter (fun z => z.id != id)) ∧
            (o.kind = 6 → took [] t ∧ t.seqs = s.seqs ∧ t.net.mtx = s.net.mtx ∧ (t.session i).xfers = x.xfers ∧
              ∃ q, q.dest = r.dest ∧ q.session = i ∧ q.opcode = 0x21 ∧ q.tag = r.tag ∧ q.body = b ∧
                t.rot = { s.rot with job := some (.verified (.request q) o) }))) ∧
    (comes 0x23 → ∃ t, exec (.challenge p) s = .next t ∧ took [] t ∧ t.seqs = s.seqs ∧
      ∃ n : BitVec 128, t.rot = { s.rot with challenge := some n } ∧ replies 0 (rotBody .ok 0 0 ++ beBytes 16 n.toNat) t) ∧
    (comes 0x24 → ∃ t, exec (.keyUpdate p) s = .next t ∧ took [] t ∧ quiet t ∧
      let ph := (b.getD 0 0).toNat
      let keys := splitKeys (kdf384 (digestBytes x.ratchet) (ascii "AZ-UPD-1" ++ beBytes 4 (x.updates + 1)) 120)
      (zeros (bytesAt b 1 3) = false → answers .format 0 t) ∧
      (zeros (bytesAt b 1 3) = true → ph ≠ 1 - x.phase.val → answers .range 0 t) ∧
      (zeros (bytesAt b 1 3) = true → ph = 1 - x.phase.val → (x.keys[1 - x.phase]).isSome = true → answers .state 0 t) ∧
      (zeros (bytesAt b 1 3) = true → ph = 1 - x.phase.val → x.keys[1 - x.phase] = none → s.net.mtx.length < 64 →
        t.net.mtx = s.net.mtx ++ [⟨some r.dest, msgHeader r.opcode 1 0 r.tag ++ rotBody .ok 0 0, true⟩] ∧
        t.session i = { x with keys := x.keys.set (1 - x.phase) (some keys.1), ratchet := keys.2, phase := 1 - x.phase,
                               updates := x.updates + 1 })) ∧
    (comes 0x25 → zeros (bytesAt b 2 2) = true → ∃ t, exec (.keyInstall p) s = .next t ∧
      t.seqs = s.seqs ∧ t.rot = s.rot ∧
      let key := keyOf (bytesAt b 8 36)
      let target := (b.getD 0 0).toNat
      let index := (b.getD 1 0).toNat
      (s.may i 3 = false → took [] t ∧ answers .authority 0 t ∧ t.nbr = s.nbr ∧ t.wt = s.wt) ∧
      (s.may i 3 = true → target = 0 → ∀ d : Fin 2, d.val = index → took [] t ∧ answers .ok 0 t ∧ t.nbr = s.nbr ∧
        t.wt = { s.wt with slots := s.wt.slots.set d (t.slot d) } ∧
        t.slot d = { s.slot d with keys :=
          ((BitVec.ofNat 32 (beNat (bytesAt b 4 4)), BitVec.ofNat 256 (beNat (bytesAt b 8 32))) :: (s.slot d).keys).take 2 }) ∧
      (s.may i 3 = true → target = 1 → ∀ q : NbrId, q.val = index → took [F.NBR_STATUS_KEYED q] t ∧ answers .ok 0 t ∧
        t.wt = s.wt ∧ (∀ k, k ≠ q → t.port k = s.port k) ∧ t.port q = { s.port q with txKey := some key } ∧
        t.flag (F.NBR_STATUS_KEYED q) = (s.port q).rxKey.isSome) ∧
      (s.may i 3 = true → target = 2 → ∀ q : NbrId, q.val = index → took [F.NBR_STATUS_KEYED q] t ∧ answers .ok 0 t ∧
        t.wt = s.wt ∧ (∀ k, k ≠ q → t.port k = s.port k) ∧
        t.port q = { s.port q with rxOld := (s.port q).rxKey.toList.map (fun k => (k, s.wt.cycle)) ++ (s.port q).rxOld, rxKey := some key } ∧
        t.flag (F.NBR_STATUS_KEYED q) = (s.port q).txKey.isSome)) ∧
    (comes 0x26 → ∃ t, exec (.sessionClose p) s = .next t ∧ t.rot = s.rot ∧ t.session i = {} ∧
      took [F.SEC_SESSIONS_OPEN] t ∧ Told 4 0x4E 2 false i s t ∧
      let h : HostMsg := ⟨some r.dest, msgHeader r.opcode 1 0 r.tag ++ rotBody .ok 0 0, false⟩
      ∀ k, x.txKey = some k → x.txSeq ≠ BitVec.allOnes 48 →
        t.txPort port = { s.txPort port with queue := (s.txPort port).queue ++ [s.msgFrame h port 0
          (rknSeal k (msgHdr r.dest.flow x.txSeq s.frameIndex x.txPhase h.bytes.length) h.bytes)] }) ∧
    (∀ weak, comes 0x22 → zeros (bytesAt b 33 3) = true → (b.getD 32 0).toNat < 2 →
      ∃ t, exec (.attestReq p weak) s = .next t ∧
        let trees := s.get F.SEC_LEAF_TREES
        let bottom := s.get F.SEC_LEAF_BOTTOM
        let leafOnly := [whole A.SEC_STATUS, whole A.SEC_SVN, whole A.SEC_LEAF, whole A.SEC_DEVICE_ID_LO,
          whole A.SEC_DEVICE_ID_HI]
        (s.may i 5 = false → took [] t ∧ quiet t ∧ answers .authority 0 t) ∧
        (s.may i 5 = true → s.flag F.SEC_STATUS_IDENTITY_OK = true → s.rot.idKey.isSome = true →
          took leafOnly t ∧
          (s.rot.leaf < 32768 → trees ≠ 0 → bottom < 1024 → t.get F.SEC_LEAF_TREES = trees ∧ t.get F.SEC_LEAF_BOTTOM = bottom + 1 ∧
            t.rot.leaf = s.rot.leaf ∧ t.rot.bottom = s.rot.bottom ∧ t.rot.flash = s.rot.flash ∧ t.seqs = s.seqs) ∧
          (trees < 2 → trees = 0 ∨ 1024 ≤ bottom → s.rot.leaf + weak < 32768 →
            t.get F.SEC_LEAF_TREES = trees + 1 ∧ t.get F.SEC_LEAF_BOTTOM = 1 ∧ t.rot.leaf = s.rot.leaf + weak + 1 ∧
            t.rot.topLeaf = s.rot.leaf + weak ∧ Told 4 0x4E 6 false (s.rot.leaf + weak) s t ∧
            ∃ new c path, t.rot.bottom = some new ∧
              t.rot.tree = s.rot.topTree.sign (s.rot.leaf + weak) c new.tree.public path ++ new.tree.public) ∧
          (s.rot.leaf < 32768 → 2 ≤ trees → 1024 ≤ bottom → quiet t ∧ replies 0 (rotBody .leaves 0 1) t) ∧
          (32768 ≤ s.rot.leaf → quiet t ∧ replies 0 (rotBody .leaves 0 2) t) ∧
          (s.rot.leaf < 32768 → trees < 2 → trees = 0 ∨ 1024 ≤ bottom → 32768 ≤ s.rot.leaf + weak →
            t.rot = { s.rot with leaf := 32768 } ∧ t.seqs = s.seqs ∧ t.flag F.SEC_STATUS_HSS_EXHAUSTED = true ∧
            replies 0 (rotBody .leaves 0 2) t))) ∧
    (comes 0x27 → zeros (bytesAt b 2 2) = true → s.may i 2 = true → b.getD 0 0 = 2 →
      ∀ n : QuadId, (b.getD 1 0).toNat = n.val → s.dramServes n = true → s.inlineEcc n = false →
      s.flag (F.DRAM_CFG_LINK_ECC n) = false → (s.dr n).u05 = [] →
      let a := beNat (bytesAt b 4 4)
      let len := beNat (bytesAt b 8 4)
      len ≤ 0x100000 → a + len ≤ s.dramSize n →
      ∃ t, exec (.flashWrite p true) s = .next t ∧ took [] t ∧ t.seqs = s.seqs ∧ answers .ok 0 t ∧
        t.rot = { s.rot with flash := t.rot.flash } ∧
        ∀ k, t.rot.flashByte k = if 0xD00000 ≤ k ∧ k < 0xD00000 + len then (s.dr n).byte (a + (k - 0xD00000))
          else s.rot.flashByte k)

/-- O50. With a verified object in work and nothing waiting: a token of any kind is refused with BINDING where its
device or its nonce is wrong and with TIME where its time is over, and else applied, measured into M4 and answered
OK: UNLOCK opens the scopes of ARG0 and uses up the challenge, SVN_RAISE burns its counter up to ARG1 and is refused
above 64 or above the firmware's SVN, OWNER_ROTATE writes the lowest unwritten slot and retires the signer's. A
session request that passes its checks opens its session with the certificate's subject and authority under keys
derived from the shared secret and the transcript. A bundle that passes begins to load, a refused one is answered
with its result; a segment stands in its memory at the core cycle at which its time is over, fetches from a HOT
one's range held meanwhile, and with none left the sequencers that it loaded while they were HALTED or READY, and
that are HALTED now, are READY, the bundle is measured into M3 and event 3 tells its SVN. A refusal changes nothing
else, and an object that has acted uses up the transfer it came by (log 143). A transfer that waits more than 1 s is
discarded, an old phase's key and an old receive key are erased at their second. (R419, R421, R426, R428, R430,
R431, R432, R433, R436, R444, R445, R446) -/
def Obligations.RootOfTrustObjects : Prop :=
  ∀ (s : State) (by_ : RotBy) (o : SignedObj),
    let b := o.body
    let id := s.rot.deviceId.toNat
    let queued (m : HostMsg) (t : State) : Prop :=
      if s.net.mtx.length < 64 then t.net.mtx = s.net.mtx ++ [m]
      else t.net.mtx = s.net.mtx ∧
        (t.rd A.NET_MTX_DROP).toNat = min ((s.rd A.NET_MTX_DROP).toNat + 1) (2 ^ 32 - 1)
    let answers (y : RotResult) (kind detail : Nat) (extra : List Byte) (t : State) : Prop := match by_ with
      | .request r => t.board = s.board ∧ t.net = { s.net with mtx := t.net.mtx } ∧
        queued ⟨some r.dest, msgHeader r.opcode 1 0 r.tag ++ (rotBody y kind detail ++ extra), false⟩ t
      | .board => t.net = s.net ∧ t.board = { s.board with result := 0, data := [BitVec.ofNat 8 y.code] }
    let used (k : Nat) : Session := match by_ with
      | .request r => if r.opcode = 0x21 ∧ r.body.headD 0 = 0 ∧ r.session = k then
          { s.session k with xfers := (s.session k).xfers.filter fun z => z.id != beNat (bytesAt r.body 2 2) }
        else s.session k
      | .board => s.session k
    let lost := [whole A.NET_MTX_DROP, F.SEQ_EVQ_STATUS_OVERFLOW 4]
    let refused (y : RotResult) (kind detail : Nat) (t : State) : Prop :=
      t = { s with regs := t.regs, net := t.net, board := t.board, seqs := t.seqs, bus := t.bus, rot := { s.rot with job := none } } ∧
        BitsKept lost s t ∧ answers y kind detail [] t ∧ Told 4 0x4E 4 false (y.code + kind * 256) s t
    let meas (m : Nat) : List Fld := (List.range 12).map fun w => whole (A.SEC_MEAS m w)
    let measured (m : Nat) (x : List Byte) (t : State) : Prop := t.meas m = sha384 (s.meas m ++ sha384 x)
    let detail := if s.get F.WT_STATUS_LEASH = 2 ∨ s.get F.WT_STATUS_LEASH = 3 then 0 else 2 ^ 31
    let nonce := beNat (bytesAt b 12 16)
    let late : Prop := detail = 0 ∧ le b 28 8 < s.wallSec
    let applied (l : List Fld) (t : State) : Prop :=
      t = { s with regs := t.regs, net := t.net, board := t.board, seqs := t.seqs, rot := t.rot, bus := t.bus, sess := t.sess } ∧
        (∀ k, t.session k = used k) ∧ BitsKept (lost ++ meas 4 ++ l) s t ∧ measured 4 o.bytes t ∧ answers .ok 4 detail [] t
    let otp : List Fld := [whole A.SEC_STATUS, whole A.SEC_SVN, whole A.SEC_LEAF, whole A.SEC_DEVICE_ID_LO,
      whole A.SEC_DEVICE_ID_HI]
    let begun (l : List Segment) : List SeqId := match l with
      | g :: _ => if (s.seq g.seq).run = .halted ∨ (s.seq g.seq).run = .ready then g.seq :: s.rot.loaded else s.rot.loaded
      | [] => s.rot.loaded
    let ready : Prop := s.rot.job = some (.verified by_ o) ∧ s.rot.queue = []
    (ready → o.kind = 4 → o.tokenKind = 1 → ∃ t, exec .unlock s = .next t ∧
      (le b 4 8 ≠ id ∨ s.rot.challenge ≠ some (BitVec.ofNat 128 nonce) → refused .binding 4 detail t) ∧
      (le b 4 8 = id → s.rot.challenge = some (BitVec.ofNat 128 nonce) →
        (late → refused .time 4 detail t) ∧
        (¬ late → applied [F.SEC_STATUS_BOARD_READ, F.SEC_STATUS_BOARD_WRITE, F.SEC_STATUS_JTAG_OPEN] t ∧
          t.rot = { s.rot with job := none, challenge := none } ∧ Told 4 0x4E 5 false (le b 36 4) s t ∧
          (bit (le b 36 4) 0 = true → t.flag F.SEC_STATUS_BOARD_READ = true) ∧
          (bit (le b 36 4) 1 = true → t.flag F.SEC_STATUS_BOARD_WRITE = true) ∧
          (bit (le b 36 4) 2 = true → t.flag F.SEC_STATUS_JTAG_OPEN = true)))) ∧
    (ready → o.kind = 4 → o.tokenKind = 2 → ∃ t, exec .svnRaise s = .next t ∧
      (le b 4 8 ≠ id ∧ le b 4 8 ≠ 0 ∨ nonce ≠ 0 → refused .binding 4 detail t) ∧
      (le b 4 8 = id ∨ le b 4 8 = 0 → nonce = 0 → late → refused .time 4 detail t) ∧
      (le b 4 8 = id ∨ le b 4 8 = 0 → nonce = 0 → ¬ late →
        (3 ≤ le b 36 4 ∨ 64 < le b 40 4 → refused .range 4 detail t) ∧
        ∀ i : Fin 3, i.val = le b 36 4 → le b 40 4 ≤ 64 →
          (le b 40 4 ≤ s.rot.svn[i] → applied [] t ∧ t.rot = { s.rot with job := none } ∧ t.seqs = s.seqs) ∧
          (s.rot.svn[i] < le b 40 4 → i = 0 → s.rot.fwSvn < le b 40 4 → refused .range 4 detail t) ∧
          (s.rot.svn[i] < le b 40 4 → (i = 0 → le b 40 4 ≤ s.rot.fwSvn) → applied otp t ∧ t.seqs = s.seqs ∧
            t.rot = { s.rot with job := none, svn := s.rot.svn.set i (le b 40 4) }))) ∧
    (ready → o.kind = 4 → o.tokenKind = 3 → ∃ t, exec .ownerRotate s = .next t ∧
      (le b 4 8 ≠ id ∨ nonce ≠ 0 → refused .binding 4 detail t) ∧
      (le b 4 8 = id → nonce = 0 → late → refused .time 4 detail t) ∧
      (le b 4 8 = id → nonce = 0 → ¬ late →
        ((∀ i : Fin 4, (s.rot.owners[i]).isSome = true) → refused .state 4 detail t) ∧
        ∀ i j : Fin 4, s.rot.owners[i] = none → (∀ k : Fin 4, k < i → (s.rot.owners[k]).isSome = true) →
          s.rot.activeOwner = some j →
          (le b 36 4 ≠ i.val → refused .range 4 detail t) ∧
          (le b 36 4 = i.val → applied otp t ∧ t.seqs = s.seqs ∧
            t.rot = { s.rot with job := none, owners := s.rot.owners.set i (some (digestOf (bytesAt b 44 48))),
                                 retired := max s.rot.retired (j.val + 1) }))) ∧
    (ready → o.kind = 6 → ∃ t, exec .sessionRequest s = .next t ∧
      match s.sessionCheck o with
      | .error y => refused y 6 detail t
      | .ok (i, c) => ∃ d n, 0 < d ∧ d < p384N ∧ n.length = 32 ∧
        match ecdh d (bytesAt b 44 96) with
        | none => t.sess = s.sess ∧ answers .format 6 detail [] t ∧ Told 4 0x4E 4 false (RotResult.format.code + 6 * 256) s t
        | some z =>
          let th := sha384 (o.bytes ++ publicKey d ++ n)
          let keys := splitKeys (kdf384 z (ascii "AZ-SESS-1" ++ th) 120)
          t.session i = { open_ := true, subject := BitVec.ofNat 64 (le c.body 12 8), stamp := o.stamp,
                          authority := le c.body 36 4, keys := #v[some keys.1, none], ratchet := keys.2, th := digestOf th } ∧
          (∀ k, k ≠ i → t.session k = used k) ∧ measured 5 c.bytes t ∧ Told 4 0x4E 1 false i s t ∧
          t.rot = { s.rot with job := none } ∧ BitsKept (lost ++ meas 5 ++ [F.SEC_SESSIONS_OPEN]) s t ∧
          ∃ sig, answers .ok 6 detail ([BitVec.ofNat 8 i, 0, 0, 0] ++ beBytes 8 id ++ publicKey d ++ n ++ sig) t) ∧
    (ready → o.kind = 2 → ∃ t, exec .bundleSubmit s = .next t ∧
      (∀ y, s.bundleCheck o = .error y → refused y 2 0 t) ∧
      ∀ x, s.bundleCheck o = .ok x →
        t = { s with seqs := t.seqs, rot := { s.rot with
          job := some (.loading by_ o x x.segs s.wt.cycle), loaded := begun x.segs } } ∧
        ∀ q : SeqId, t.seq q = { s.seq q with hot := (t.seq q).hot } ∧
          ((t.seq q).hot = match x.segs with
            | g :: _ => if g.hot = true ∧ g.seq = q then [(g.addr, g.addr + g.body.length / 8)] else (s.seq q).hot
            | [] => (s.seq q).hot)) ∧
    (∀ (x : Bundle) (g : Segment) (l : List Segment) (since : Nat),
      s.rot.job = some (.loading by_ o x (g :: l) since) → ∃ t, exec .wallTimeTick s = .next t ∧
        (s.wt.cycle + 1 < since + g.cycles → t.rot = s.rot ∧
          ∀ q : SeqId, (t.seq q).imem = (s.seq q).imem ∧ (t.seq q).dmem = (s.seq q).dmem) ∧
        (since + g.cycles ≤ s.wt.cycle + 1 →
          t.rot = { s.rot with job := some (.loading by_ o x l (since + g.cycles)), loaded := begun l } ∧
          (∀ q : SeqId, q ≠ g.seq ∨ g.data = true → (t.seq q).imem = (s.seq q).imem) ∧
          (∀ q : SeqId, q ≠ g.seq ∨ g.data = false → (t.seq q).dmem = (s.seq q).dmem) ∧
          (g.tooFar = false → g.body.length % 8 = 0 → g.data = false → ∀ k < g.body.length / 8,
            (t.seq g.seq).imemRd (g.addr + k) = BitVec.ofNat 64 (leNat ((g.body.drop (8 * k)).take 8))))) ∧
    (∀ (x : Bundle) (since : Nat), s.rot.boot = none → s.rot.job = some (.loading by_ o x [] since) → s.rot.queue = [] →
      ∃ t, exec .bundleLoadDone s = .next t ∧ measured 3 o.bytes t ∧ answers .ok 2 0 [] t ∧
        BitsKept (lost ++ meas 3) s t ∧ (∀ k, t.session k = used k) ∧
        t.rot = { s.rot with job := none, segs := s.rot.segs ++ x.segs, loaded := [] } ∧
        (∀ q : SeqId, (t.seq q).imem = (s.seq q).imem ∧ (t.seq q).dmem = (s.seq q).dmem) ∧
        (∀ q e, x.entries = [(q, e)] → (t.seq q).entry = BitVec.ofNat 15 e) ∧
        (∀ q : SeqId, (t.seq q).run = if q ∈ s.rot.loaded ∧ (s.seq q).run = .halted then .ready else (s.seq q).run) ∧
        ((s.seq 4).queue.length < 256 → ∃ sec ns,
          (t.seq 4).queue = (s.seq 4).queue ++ [⟨0x4E, 3, false, BitVec.ofNat 32 o.svn, sec, ns, some s.wt.cycle⟩])) ∧
    (∀ (i : Fin 256) (x : BitVec 16) (y : Transfer), (s.session i).xfers.find? (fun z => z.id == x.toNat) = some y →
      y.complete = false → y.since + cyclesPerSec < s.wt.cycle →
      ∃ t, exec (.xferTimeout i x) s = .next t ∧ t = { s with sess := t.sess } ∧
        (∀ k, k ≠ i.val → t.session k = s.session k) ∧
        t.session i = { s.session i with xfers := (s.session i).xfers.filter fun z => z.id != x.toNat }) ∧
    (∀ (i : Fin 256) (at_ : Nat), (s.session i).eraseAt = some at_ → at_ ≤ s.wt.cycle →
      ∃ t, exec (.keyPhaseErase i) s = .next t ∧ t = { s with sess := t.sess } ∧
        (∀ k, k ≠ i.val → t.session k = s.session k) ∧
        t.session i = { s.session i with keys := (s.session i).keys.set (1 - (s.session i).phase) none, eraseAt := none }) ∧
    ∀ p : NbrId, ∃ t, exec (.rxKeyExpiry p) s = .next t ∧ t = { s with nbr := t.nbr } ∧
      (∀ q, q ≠ p → t.port q = s.port q) ∧
      t.port p = { s.port p with rxOld := (s.port p).rxOld.filter fun k => decide (s.wt.cycle < k.2 + cyclesPerSec) }

/-- O51. STATUS answers BRD_STATUS as it stands, with KENNEL, LEASH, OWNER_SET and EVT as their units show them, and
CLR clears LATCH; without its argument it is BAD_CMD. CLR leaves a LATCH set in the same core cycle. TEMP answers
THM_TMAX and THM_STATUS outside resets and Stay. RESET without 0x5A, 0xA5 is BAD_CMD and resets nothing, and else
makes the system reset and answers OK: unless REFCLK_SYS is lost the cause is then system, every sequencer is HALTED
with its registers at reset and wall time stands. While the root of trust runs, CHALLENGE answers a fresh nonce that
then stands, TOKEN_LOAD places 1 to 256 bytes in the window and nothing elsewhere, TOKEN_SUBMIT of a window that
holds no token is refused with FORMAT and of a token that fails to verify with its result, and PROVISION writes
owner slot 0 while no slot is written and answers STATE ever after; before it runs each is UNAVAILABLE. REG_READ and
REG_WRITE are UNAVAILABLE in Stay, LOCKED without their scope, BAD_CMD outside SQS's reach, BUSY at a busy GO
register, and else read the register or write it. (R416, R435, R445, R447, R536, R537, R538) -/
def Obligations.BoardPort : Prop :=
  ∀ (s : State) (args : List Byte),
    let answers (result : Nat) (data : List Byte) (t : State) : Prop := t.board = { s.board with result := result, data := data }
    let only (result : Nat) (data : List Byte) (t : State) : Prop := t = { s with board := { s.board with result := result, data := data } }
    let unavailable : State := { s with board := { s.board with result := 4, data := [] } }
    (∃ t, exec (.brdStatus args) s = .next t ∧ (args = [] → only 1 [] t) ∧
      ∀ clr rest, args = clr :: rest → ∃ v : Word, answers 0 (beBytes 4 v.toNat) t ∧
        t = { s with board := t.board, regs := t.regs } ∧ BitsKept [F.BRD_EVT_LATCH] s t ∧
        (clr.getLsbD 0 = true → t.flag F.BRD_EVT_LATCH = (s.flag F.BRD_EVT_LATCH && (s.hitsAt A.BRD_EVT).contains F.BRD_EVT_LATCH)) ∧ (clr.getLsbD 0 = false → t.regs = s.regs) ∧
        field v 0 11 = field (s.rd A.BRD_STATUS) 0 11 ∧ field v 11 1 = s.get F.KNL_STATUS_ACTIVE ∧
        field v 12 3 = s.get F.WT_STATUS_LEASH ∧ field v 15 1 = s.get F.SEC_STATUS_PARAM_DEFAULTED ∧
        field v 16 1 = s.get F.SEC_STATUS_OWNER_SET ∧
        (field v 17 1 = 1 ↔ s.inStay = false ∧
          (s.flag F.BRD_EVT_LATCH = true ∨ (s.seq 4).run = .faulted ∨ s.flag F.KNL_STATUS_ACTIVE = true)) ∧
        field v 20 4 = s.get F.PWR_RESET_CAUSE_CAUSE) ∧
    (∃ t, exec (.brdTemp args) s = .next t ∧ (s.inReset = true → only 4 [] t) ∧
      (s.inReset = false → s.inStay = false →
        only 0 (beBytes 4 (s.rd A.THM_TMAX).toNat ++ beBytes 4 (s.rd A.THM_STATUS).toNat) t)) ∧
    (∀ b, ∃ t, exec (.brdReset args b) s = .next t ∧ (args.take 2 ≠ [0x5A, 0xA5] → only 1 [] t) ∧
      (args.take 2 = [0x5A, 0xA5] → ∃ u, exec (.systemReset b) s = .next u ∧
        t = { u with board := { u.board with result := 0, data := [] } } ∧
        (s.power.clkLost = false → t.get F.PWR_RESET_CAUSE_CAUSE = 2 ∧ t.wt.wall = s.wt.wall ∧
          ∀ q, (t.seq q).run = .halted ∧ (t.seq q).g = ({} : Seq).g ∧ (t.seq q).imem = []))) ∧
    (s.rotRuns = false → exec (.brdChallenge args) s = .next unavailable ∧
      exec (.tokenLoad args) s = .next unavailable ∧
      exec (.tokenSubmit args) s = .next unavailable ∧
      exec (.provision args) s = .next unavailable) ∧
    (s.rotRuns = true →
      (∃ t, exec (.brdChallenge args) s = .next t ∧ ∃ n : BitVec 128, answers 0 (beBytes 16 n.toNat) t ∧
        t = { s with board := t.board, free := t.free, rot := { s.rot with challenge := some n } }) ∧
      (let off := beNat (args.take 2);
       let data := args.drop 2;
       ∃ t, exec (.tokenLoad args) s = .next t ∧
        (data = [] ∨ 256 < data.length ∨ 32768 < off + data.length → only 1 [] t) ∧
        (data ≠ [] → data.length ≤ 256 → off + data.length ≤ 32768 → answers 0 [] t ∧
          t = { s with board := t.board, rot := { s.rot with window := t.rot.window } } ∧
          ∀ k, sparseGet (fun _ => 0) t.rot.window k =
            if off ≤ k ∧ k < off + data.length then data.getD (k - off) 0 else sparseGet (fun _ => 0) s.rot.window k)) ∧
      (let len := beNat (args.take 4);
       let b := (List.range len).map fun k => sparseGet (fun _ => 0) s.rot.window k;
       let refused (y : RotResult) (kind : Nat) (t : State) : Prop := answers 0 [BitVec.ofNat 8 y.code] t ∧
        t = { s with board := t.board, regs := t.regs, seqs := t.seqs, bus := t.bus } ∧
        BitsKept [F.SEQ_EVQ_STATUS_OVERFLOW 4] s t ∧ Told 4 0x4E 4 false (y.code + kind * 256) s t;
       ∃ t, exec (.tokenSubmit args) s = .next t ∧
        (args.length < 4 ∨ 32768 < len → only 1 [] t) ∧
        (4 ≤ args.length → len ≤ 32768 → s.rot.job.isSome = true → only 3 [] t) ∧
        (4 ≤ args.length → len ≤ 32768 → s.rot.job = none →
          (parseObject b = none → refused .format 0 t) ∧
          ∀ o, parseObject b = some o → (o.kind ≠ 4 → refused .format o.kind t) ∧
            (o.kind = 4 →
              if s.verify o ≠ .ok then refused (s.verify o) 4 t
              else if o.tokenOk = false then refused .format 4 t
              else answers 0xFF [] t ∧
                t = { s with board := t.board, rot := { s.rot with job := some (.verified .board o) } }))) ∧
      ∃ t, exec (.provision args) s = .next t ∧ (args.length < 48 → only 1 [] t) ∧
        (48 ≤ args.length → s.rot.ownerSet = true → only 0 [10] t) ∧
        (48 ≤ args.length → s.rot.ownerSet = false → answers 0 [0] t ∧ t.flag F.SEC_STATUS_OWNER_SET = true ∧
          t = { s with board := t.board, regs := t.regs,
                       rot := { s.rot with owners := s.rot.owners.set 0 (some (digestOf (args.take 48))) } } ∧
          BitsKept [whole A.SEC_STATUS, whole A.SEC_SVN, whole A.SEC_LEAF, whole A.SEC_DEVICE_ID_LO,
            whole A.SEC_DEVICE_ID_HI] s t)) ∧
    (let a := beNat (args.take 4);
     let scope (f : Fld) : Prop := s.inStay = false ∧ s.flag f = true;
     (∃ t, exec (.regRead args) s = .next t ∧ (s.inStay = true → only 4 [] t) ∧
      (s.inStay = false → s.flag F.SEC_STATUS_BOARD_READ = false → only 2 [] t) ∧
      (scope F.SEC_STATUS_BOARD_READ → args.length < 4 ∨ a % 4 ≠ 0 ∨ 2 ^ 26 ≤ a → only 1 [] t) ∧
      (scope F.SEC_STATUS_BOARD_READ → 4 ≤ args.length → a % 4 = 0 → s.reach .board a false = .regs [a] → a < 2 ^ 26 →
        (∀ u : State, u.readReg .board a = (u.rd a, u)) → popWindow a = false → only 0 (beBytes 4 (s.rd a).toNat) t)) ∧
     ∃ t, exec (.regWrite args) s = .next t ∧ (s.inStay = true → only 4 [] t) ∧
      (s.inStay = false → s.flag F.SEC_STATUS_BOARD_WRITE = false → only 2 [] t) ∧
      (scope F.SEC_STATUS_BOARD_WRITE → args.length < 8 ∨ a % 4 ≠ 0 ∨ 2 ^ 26 ≤ a → only 1 [] t) ∧
      (scope F.SEC_STATUS_BOARD_WRITE → 8 ≤ args.length → a % 4 = 0 → s.reach .board a true = .regs [a] → a < 2 ^ 26 →
        s.goBusy .board a = true → only 3 [] t) ∧
      ∀ row, scope F.SEC_STATUS_BOARD_WRITE → 8 ≤ args.length → a % 4 = 0 → s.reach .board a true = .regs [a] → a < 2 ^ 26 →
        s.goBusy .board a = false → PlainReg a row → Unopposed .board a a s → answers 0 [] t ∧
        t = { s with board := t.board, regs := t.regs, bus := t.bus, frame := { s.frame with keep := t.frame.keep } } ∧
        RegsKept [a] s t ∧ t.rd a = written row (s.rd a) (BitVec.ofNat 32 (beNat ((args.drop 4).take 4))))

/-- O52. THERMAL_ROUND at a slot that wall time has reached starts a round with the levels' registers as they stand,
or asks for one more while a round runs. THERMAL_ROUND_END, 20 us after the start and with every conversion
complete, or 40 us after it, stores each enabled sensor's reading as a multiple of 0.25 °C; a sensor without one,
with one past 40 us, or with one outside −55 °C to +150 °C fails with FAIL and SENSOR_FAIL (log entry 176); until
then the round goes on. The last valid reading of the sensor that the holdover compensation uses is taken at the
end, and TMAX is the largest reading of those enabled and not failed. Each level is entered at its threshold, which
is no more than its reset value, left below threshold less hysteresis, and else stays; with no valid sensor shutdown
is entered, and entry activates the thermal source of Muzzle and the THERMAL reason of Kennel and sets SHUTDOWN; a
Kennel that shutdown enters is in black mode, whatever MODE says. A thermal source that a reset has kept clears at
the first round below the level's hysteresis. The throttle moves by the branches of R456, its plane cap held to 16
(R463; log entry 112), and AVS moves VID by one within its bounds. A round that changes no shutdown and has a margin
of 0 or more touches only thermal state and the two caps. RELEASE clears the thermal source unless shutdown is
entered, when it sets STALE_WRITE; each VCO_STEP counts one, at the end of a round, or for the core and the
panel-lane PLLs each on its own once 2 line periods after a latch while a quadrant scans. (R393, R404, R449, R450,
R451, R452, R453, R454, R455, R456, R459, R460) -/
def Obligations.ThermalRounds : Prop :=
  ∀ (s : State) (smp : SlotSample) (r : ThmRound) (v : Word),
    let round := s.round
    (let due := (round.slotAt / (max round.period 100 * 1000) + 1) * (max round.period 100 * 1000);
     due ≤ s.wallNs → s.held = false → s.inStay = true ∨ smp.mr4 = [] → ∃ t, exec (.thermalRound smp) s = .next t ∧
      t.round.slotAt = due ∧ t.round.period = s.get F.THM_CTRL_PERIOD_US ∧ t.flag F.THM_STATUS_ROUND_BUSY = true ∧
      t = { s with regs := t.regs, round := t.round, bus := t.bus } ∧
      BitsKept (F.THM_STATUS_ROUND_BUSY :: (fins 4).map fun n => whole (A.CAL_TAP (n : Fin 4).val)) s t ∧
      (s.flag F.THM_STATUS_ROUND_BUSY = false → t.round.since = s.wt.cycle ∧ t.round.again = false ∧
        t.round.levels = (s.rd A.THM_WARN, s.rd A.THM_THROT, s.rd A.THM_SHUT)) ∧
      (s.flag F.THM_STATUS_ROUND_BUSY = true → t.round.again = true ∧ t.round.since = round.since) ∧
      ∀ n : QuadId, s.inStay = false → n.val < smp.taps.length →
        t.get (F.CAL_TAP_PS n) = (smp.taps.getD n.val 0).toNat ∧ t.flag (F.CAL_TAP_VALID n) = true) ∧
    let enabled (i : Fin 16) : Prop := bit (s.get F.THM_SENSOR_EN_MASK) i.val = true ∧ s.flag (F.THM_T_FAIL i) = false
    let complete : Prop := ∀ i, enabled i → (r.sensors[i.val]?).join ≠ none
    (s.inStay = false → s.flag F.THM_STATUS_ROUND_BUSY = false ∨ s.passedUs round.since 20 = false ∨
      (s.passedUs round.since 40 = false ∧ ¬ complete) → exec (.thermalRoundEnd r) s = .next s) ∧
    (s.flag F.THM_STATUS_ROUND_BUSY = true → s.passedUs round.since 20 = true →
      s.passedUs round.since 40 = true ∨ complete → s.inStay = false →
      ∃ t, exec (.thermalRoundEnd r) s = .next t ∧
        let got (i : Fin 16) : Option (BitVec 16) :=
          match (r.sensors[i.val]?).join with
          | some w => if round.since + 40 * cyclesPerUs < s.wt.cycle then none else if -55 * 16 ≤ w.toInt ∧ w.toInt ≤ 150 * 16 then some (w &&& 0xFFFC) else none
          | none => none
        let valid (i : Fin 16) (x : Int) : Prop := enabled i ∧ ∃ w, got i = some w ∧ x = w.toInt
        let level (w : Word) (reset : Int) (was now : Bool) (x : Int) : Prop :=
          let th := min (w.extractLsb' 0 16).toInt reset
          (th ≤ x → now = true) ∧ (x < th - (w.extractLsb' 16 8).toNat → now = false) ∧
            (x < th → th - (w.extractLsb' 16 8).toNat ≤ x → now = was)
        let stage := s.get F.THM_STATUS_STAGE
        let icap := s.get F.EMW_IREF_CAP_CAP
        let pcap := s.get F.SYN_THERM_CAP_CAP
        let ifloor := s.get F.THM_THR_CFG_IFLOOR
        let step := s.get F.THM_THR_CFG_STEP
        let pfloor := max 1 (s.get F.THM_THR_CFG_PFLOOR)
        let live := s.tableIref [] (s.get F.EMW_STATUS_LIVE_BAND)
        let caps (stage icap pcap n : Nat) (clamp : Bool) : Prop := t.get F.THM_STATUS_STAGE = stage ∧
          t.get F.EMW_IREF_CAP_CAP = icap ∧ t.get F.SYN_THERM_CAP_CAP = pcap ∧ t.round.n = n ∧
          (clamp = true → t.flag F.THM_FLAGS_THR_CLAMP = true)
        let vid := s.get F.THM_VID_VID
        let lo := max (s.get F.THM_AVS_CFG_VID_MIN) 90
        let hi := min (s.get F.THM_AVS_CFG_VID_MAX) 120
        let margin := r.margin.toInt
        let kept (x : Int) : Prop := let th := min (round.levels.2.2.extractLsb' 0 16).toInt 1920
          round.carried = true ∧ x < th - (round.levels.2.2.extractLsb' 16 8).toNat
        t.flag F.THM_STATUS_ROUND_BUSY = round.again ∧
        t.wt = { s.wt with valid := t.wt.valid, hoTemp := t.wt.valid.toList.getD (s.get F.WT_HO_CFG_SENSOR) 0 } ∧
        (∀ i, (∀ w, enabled i → got i = some w → t.wt.valid[i] = w.toInt) ∧
          (¬ enabled i ∨ got i = none → t.wt.valid[i] = s.wt.valid[i])) ∧
        (∀ i x, valid i x → (∀ j y, valid j y → y ≤ x) → kept x → t.flag F.MUZZLE_STATUS_SRC_THERM = false) ∧
        (∀ i, enabled i → (∀ w, got i = some w → t.get (F.THM_T_TEMP i) = w.toNat ∧ t.flag (F.THM_T_VALID i) = true) ∧
          (got i = none → t.flag (F.THM_T_FAIL i) = true ∧ t.flag (F.THM_T_VALID i) = false ∧
            t.flag F.THM_FLAGS_SENSOR_FAIL = true)) ∧
        ((∀ i, enabled i → got i = none) → t.flag F.THM_TMAX_VALID = false ∧ t.round.shut = true) ∧
        (∀ i x, valid i x → (∀ j y, valid j y → y ≤ x) →
          t.flag F.THM_TMAX_VALID = true ∧ t.get F.THM_TMAX_TEMP = (x % 65536).toNat ∧
          (∃ j : Fin 16, valid j x ∧ t.get F.THM_TMAX_SENSOR = j.val) ∧
          level round.levels.1 1600 round.warn t.round.warn x ∧ level round.levels.2.1 1728 round.throt t.round.throt x ∧
          level round.levels.2.2 1920 round.shut t.round.shut x ∧
          (let th := min (round.levels.2.1.extractLsb' 0 16).toInt 1728;
           let below := th - (round.levels.2.1.extractLsb' 16 8).toNat;
           (th ≤ x →
              (stage = 0 → caps 1 (max live ifloor) pcap 0 false) ∧
              (stage = 1 → ifloor < icap → caps 1 (max (icap - step) ifloor) pcap round.n false) ∧
              (stage = 1 → icap ≤ ifloor → round.n + 1 < max 1 (s.get F.THM_THR_TIME_STAGE2_ROUNDS) →
                caps 1 icap pcap (round.n + 1) false) ∧
              (stage = 1 → icap ≤ ifloor → max 1 (s.get F.THM_THR_TIME_STAGE2_ROUNDS) ≤ round.n + 1 →
                caps 2 icap (min (max 15 pfloor) 16) 0 (decide (16 ≤ pfloor))) ∧
              (stage = 2 → round.n + 1 < max 1 (s.get F.THM_THR_TIME_PLANE_ROUNDS) → caps 2 icap pcap (round.n + 1) false) ∧
              (stage = 2 → max 1 (s.get F.THM_THR_TIME_PLANE_ROUNDS) ≤ round.n + 1 →
                (pfloor < pcap → caps 2 icap (pcap - 1) 0 false) ∧ (pcap ≤ pfloor → caps 2 icap pcap 0 true))) ∧
           (below ≤ x → x < th → caps stage icap pcap round.n false) ∧
           (x < below → below ≤ th →
              (stage = 0 → caps 0 icap pcap 0 false) ∧
              (stage = 1 → 0x3FF ≤ icap + step → caps 0 0x3FF pcap 0 false) ∧
              (stage = 1 → icap + step < 0x3FF → caps 1 (icap + step) pcap 0 false) ∧
              (stage = 2 → pcap < 16 → caps (if pcap + 1 = 16 then 1 else 2) icap (pcap + 1) 0 false) ∧
              (stage = 2 → 16 ≤ pcap → caps 1 icap 16 0 true)))) ∧
        (t.round.shut = true → round.shut = false → t.flag F.MUZZLE_STATUS_SRC_THERM = true ∧
          t.flag F.THM_FLAGS_SHUTDOWN = true ∧ bit (t.get F.KNL_STATUS_REASONS) 0 = true ∧
          (bit (s.get F.KNL_STATUS_REASONS) 0 = false → t.flag F.KNL_STATUS_ACTIVE = true ∧
            (s.flag F.KNL_STATUS_ACTIVE = false → t.kennel.black = true ∧ t.flag F.MUZZLE_STATUS_SRC_KENNEL = true))) ∧
        (s.flag F.THM_CTRL_AVS_EN = true → lo ≤ hi →
          let ask : Int := if margin < (BitVec.ofNat 8 (s.get F.THM_AVS_CFG_MARGIN_LO)).toInt then vid + 1
            else if (BitVec.ofNat 8 (s.get F.THM_AVS_CFG_MARGIN_HI)).toInt < margin then (vid : Int) - 1 else vid
          (lo ≤ ask → ask ≤ hi → (t.get F.THM_VID_VID : Int) = ask) ∧ (ask < lo → t.get F.THM_VID_VID = lo) ∧
            (hi < ask → t.get F.THM_VID_VID = hi)) ∧
        (s.flag F.THM_CTRL_AVS_EN = false → t.get F.THM_VID_VID = vid) ∧
        (margin < 0 → bit (t.get F.KNL_STATUS_REASONS) 1 = true) ∧
        (t.round.shut = round.shut → 0 ≤ margin → round.carried = false → s.flag F.THM_CTRL_AUTO_RELEASE = false ∨ round.shut = false ∨ t.round.shut = true →
          t = { s with regs := t.regs, round := t.round, wt := t.wt, seqs := t.seqs, free := t.free, bus := t.bus } ∧
          BitsKept ([whole A.THM_STATUS, whole A.THM_FLAGS, whole A.THM_TMAX, F.EMW_IREF_CAP_CAP, F.SYN_THERM_CAP_CAP,
            whole A.THM_AVS_MARGIN, F.THM_VID_VID, F.THM_MISC_BG_BAND, F.SEQ_EVQ_STATUS_OVERFLOW 4] ++
            (fins 16).map fun i => whole (A.THM_T (i : Fin 16).val)) s t)) ∧
    (∃ t, exec (.release v) s = .next t ∧ field (t.rd A.THM_CTRL) 0 18 = field v 0 18 ∧
      (v.getLsbD 31 = false → OnlyBits [⟨A.THM_CTRL, 0, 18⟩] s t) ∧
      (v.getLsbD 31 = true → round.shut = true → t.flag F.THM_FLAGS_STALE_WRITE = true ∧
        OnlyBits [⟨A.THM_CTRL, 0, 18⟩, F.THM_FLAGS_STALE_WRITE] s t) ∧
      (v.getLsbD 31 = true → round.shut = false → t.flag F.MUZZLE_STATUS_SRC_THERM = false ∧
        (s.flag F.MUZZLE_STATUS_SRC_THERM = false → OnlyBits [⟨A.THM_CTRL, 0, 18⟩] s t) ∧
        (s.flag F.MUZZLE_STATUS_SRC_THERM = true → bit (t.get F.KNL_STATUS_REASONS) 0 = false))) ∧
    (∀ pll : Fin 4, (2 ≤ pll.val ∨ s.anyScans = false) → round.endedAt = some s.wt.cycle →
      ∃ t, exec (.vcoStep pll) s = .next t ∧ OnlyBits [F.THM_MISC_VCO_STEPS] s t ∧
        t.get F.THM_MISC_VCO_STEPS = (s.get F.THM_MISC_VCO_STEPS + 1) % 65536) ∧
    (s.anyScans = true → ∀ (i : Fin 2) (k : Int), s.frame.latch = some k →
      let pll : Fin 4 := ⟨i.val, by omega⟩
      (s.reached (s.latchAt k + 2 * s.linePeriod) = false ∨ round.vcoAt[i] = some k → exec (.vcoStep pll) s = .next s) ∧
      (s.reached (s.latchAt k + 2 * s.linePeriod) = true → round.vcoAt[i] ≠ some k →
        ∃ t, exec (.vcoStep pll) s = .next t ∧ t.get F.THM_MISC_VCO_STEPS = (s.get F.THM_MISC_VCO_STEPS + 1) % 65536 ∧
          t = { s with regs := t.regs, round := { round with vcoAt := round.vcoAt.set i (some k) } } ∧
          BitsKept [F.THM_MISC_VCO_STEPS] s t))

/-- O53. BIST_SLOT at a slot not yet taken, every 260 us or, while a quadrant scans, at SLICES lines of each frame,
tests the oldest slice that waits for a retest, else the slice at POS, which moves on modulo 6,144; while a slice is
under test the slot is skipped. A test that ends in time without a failing row leaves the slice; a failing row is
recorded, mapped to a spare row of its slice that no soft or hard entry uses while the table of 1,024 has room, and
queued for a retest, or, with none, sets UNREPAIRABLE, ends periodic testing and enters Kennel; a test not complete
at 8 us sets OVERRUN and waits for a retest. ENTER outside Kennel makes it ACTIVE with FIRST and SOFTWARE, stops
every quadrant, halts SQ0 to SQ3 and pushes KNL; in Kennel it adds the reason and keeps FIRST; ENTER with EXIT
leaves SOFTWARE active. EXIT clears SOFTWARE; the SRAM reason stays, and with no reason left the device begins to
leave. At the end of the reload ACTIVE clears and KNL CODE 0 is pushed; a boot bundle in the flash that verifies as
at boot has the segments and entries of SQ0 to SQ3 reloaded, those sequencers READY and itself measured into M3, and
one that does not is told in a SEC event and loads nothing. (R468, R469, R470, R472, R474, R479, R480, R481, R561)
-/
def Obligations.SelfTestAndKennel : Prop :=
  ∀ (s : State) (x : Nat) (again : Bool),
    let b := s.bist
    let pos := s.get F.BIST_STATUS_POS
    let due := s.wallNs / 260000 * 260000
    let slot (c : BistUnit) : Prop := ∃ t, exec .bistSlot s = .next t ∧
        (b.stopped = true ∨ b.cur.isSome = true → t = { s with bist := c }) ∧
        (b.stopped = false → b.cur = none →
          t = { s with regs := t.regs, bus := t.bus,
                       bist := { c with cur := t.bist.cur, retest := t.bist.retest, since := s.wt.cycle } } ∧
          t.flag F.BIST_STATUS_BUSY = true ∧
          BitsKept [F.BIST_STATUS_BUSY, F.BIST_STATUS_POS, F.BIST_STATUS_RETEST] s t ∧
          (b.retest = [] → t.bist.cur = some (pos, false) ∧ t.bist.retest = [] ∧ t.get F.BIST_STATUS_POS = (pos + 1) % 6144) ∧
          ∀ y l, b.retest = y :: l → t.bist.cur = some (y, true) ∧ t.bist.retest = l ∧ t.get F.BIST_STATUS_POS = pos ∧
            (t.flag F.BIST_STATUS_RETEST = true ↔ l ≠ []))
    (s.flag F.BIST_CTRL_EN = true → s.get F.PWR_STATUS_STATE < 2 → s.held = false →
      (s.anyScans = false → b.slotAt < due → slot { b with slotAt := due }) ∧
      (s.anyScans = false → due ≤ b.slotAt → exec .bistSlot s = .next s) ∧
      (s.anyScans = true → ∀ m : Nat, let count := max 1 (min 48 (s.get F.BIST_CTRL_SLICES))
        let passed (i : Nat) : Prop := s.reached (s.lineAt s.frameNow ((i * (s.vTotal / count) : Nat) : Int)) = true
        m < count → passed m → (∀ i, m < i → i < count → ¬ passed i) →
          (b.lastSlot = some (s.frameNow, m) → exec .bistSlot s = .next s) ∧
          (b.lastSlot ≠ some (s.frameNow, m) → slot { b with lastSlot := some (s.frameNow, m) }))) ∧
    (s.flag F.BIST_CTRL_EN = false ∨ s.held = true → exec .bistSlot s = .next s) ∧
    (b.cur = some (x, again) → s.power.entry = .none →
      let past (t : State) : Prop := t.bist.cur = none ∧ t.flag F.BIST_STATUS_BUSY = false ∧
        (t.rd A.BIST_COVER) = s.rd A.BIST_COVER + (if x = 6143 ∧ again = false then 1 else 0)
      let spare : Prop := b.spares.length < 1024 ∧ ∃ i < 2, ∀ e ∈ b.spares, ¬ (e.1 = x ∧ e.2.2 = i)
      (b.since + 5696 ≤ s.wt.cycle → s.wt.cycle < b.since + 8 * cyclesPerUs →
        (∃ t, exec (.sliceTestDone []) s = .next t ∧ past t ∧ t = { s with regs := t.regs, bist := t.bist } ∧
          BitsKept [F.BIST_STATUS_BUSY, F.BIST_STATUS_RETEST, whole A.BIST_COVER] s t) ∧
        (b.stopped = false → ∀ row bad, row < 256 → bad < 512 → x < 6144 →
          ∃ t, exec (.sliceTestDone [(row, bad)]) s = .next t ∧ past t ∧ t.flag F.BIST_FLAGS_FAIL = true ∧
            (t.rd A.BIST_FAIL_SLICE).toNat = x + 2 ^ 31 ∧
            (t.rd A.BIST_FAIL_POS).toNat % 2 ^ 31 = row + bad * 256 ∧
            (∀ r, r ∈ t.bist.weak ↔ r = (x, row) ∨ r ∈ b.weak) ∧
            (spare → t.flag F.BIST_FLAGS_REPAIRED = true ∧ t.get F.BIST_REPAIR_SOFT = b.spares.length + 1 ∧
              (t.rd A.BIST_FAIL_POS).getLsbD 31 = true ∧ x ∈ t.bist.retest ∧
              ∃ i < 2, t.bist.spares = (x, row, i) :: b.spares ∧ ∀ e ∈ b.spares, ¬ (e.1 = x ∧ e.2.2 = i)) ∧
            (¬ spare → t.flag F.BIST_FLAGS_UNREPAIRABLE = true ∧ t.bist.stopped = true ∧
              t.flag F.KNL_STATUS_ACTIVE = (s.flag F.KNL_STATUS_ACTIVE || !bit (s.get F.KNL_STATUS_REASONS) 2) ∧
              bit (t.get F.KNL_STATUS_REASONS) 2 = true))) ∧
      (s.passedUs b.since 8 = true → ∃ t, exec .overrun s = .next t ∧ past t ∧ t.flag F.BIST_FLAGS_OVERRUN = true ∧
        t.bist.retest = x :: b.retest.filter (fun y => decide (y ≠ x)) ∧ Told 4 0x50 5 false x s t ∧
        t = { s with regs := t.regs, bist := t.bist, seqs := t.seqs, bus := t.bus } ∧
        BitsKept [F.BIST_FLAGS_OVERRUN, F.BIST_STATUS_BUSY, F.BIST_STATUS_RETEST, whole A.BIST_COVER,
          F.SEQ_EVQ_STATUS_OVERFLOW 4] s t)) ∧
    (∀ v : Word, v.getLsbD 0 = true → s.held = false → s.flag F.KNL_STATUS_ACTIVE = false → s.get F.KNL_STATUS_REASONS = 0 →
      s.power.entry = .none → ∃ t, exec (.enter v) s = .next t ∧ t.flag F.KNL_STATUS_ACTIVE = true ∧
        t.get F.KNL_STATUS_FIRST = 4 ∧ t.get F.KNL_STATUS_REASONS = 8 ∧
        t.kennel = { black := s.flag ⟨A.SCAN_KENNEL_CFG, 0, 1⟩, leaving := false } ∧
        (∀ n : QuadId, (t.scanU n).run = .stopped) ∧
        (∀ q : SeqId, q.val < 4 → (s.seq q).run ≠ .stalled → (t.seq q).run = .halted) ∧
        (t.seq 4).run = (s.seq 4).run ∧ t.ing = s.ing ∧ t.dram = s.dram ∧ t.wt = s.wt ∧
        (s.flag ⟨A.SCAN_KENNEL_CFG, 0, 1⟩ = true → t.flag F.MUZZLE_STATUS_SRC_KENNEL = true) ∧
        (s.flag ⟨A.SCAN_KENNEL_CFG, 0, 1⟩ = false → (s.seq 4).queue.length < 256 → ∃ sec ns,
          (t.seq 4).queue = (s.seq 4).queue ++ [⟨0x51, 4, false, 8, sec, ns, some s.wt.cycle⟩]) ∧
        (s.net.mtx.length < 64 → ∃ m, t.net.mtx = s.net.mtx ++ [m])) ∧
    (∀ v : Word, v.getLsbD 0 = true → s.held = false → s.flag F.KNL_STATUS_ACTIVE = true →
      ∃ t, exec (.enter v) s = .next t ∧ t.flag F.KNL_STATUS_ACTIVE = true ∧
        t.get F.KNL_STATUS_FIRST = s.get F.KNL_STATUS_FIRST ∧ bit (t.get F.KNL_STATUS_REASONS) 3 = true ∧
        (v.getLsbD 1 = false → t.get F.KNL_STATUS_REASONS = s.get F.KNL_STATUS_REASONS ||| 8)) ∧
    (s.held = true → ∀ v, exec (.enter v) s = .next s ∧ exec (.exit v) s = .next s) ∧
    (∀ v : Word, v.getLsbD 0 = false → v.getLsbD 1 = true → s.held = false → ∃ t, exec (.exit v) s = .next t ∧
      bit (t.get F.KNL_STATUS_REASONS) 3 = false ∧
      bit (t.get F.KNL_STATUS_REASONS) 2 = bit (s.get F.KNL_STATUS_REASONS) 2 ∧
      bit (t.get F.KNL_STATUS_REASONS) 0 = bit (s.get F.KNL_STATUS_REASONS) 0 ∧
      ((s.seq 4).run ≠ .faulted → bit (t.get F.KNL_STATUS_REASONS) 4 = false) ∧
      (s.get F.THM_AVS_MARGIN_MARGIN < 128 → bit (t.get F.KNL_STATUS_REASONS) 1 = false) ∧
      (s.get F.KNL_STATUS_REASONS = 8 → t.kennel = { s.kennel with leaving := true } ∧
        t.flag F.MUZZLE_STATUS_SRC_KENNEL = false ∧ t.get F.KNL_STATUS_REASONS = 0 ∧
        t.flag F.KNL_STATUS_ACTIVE = s.flag F.KNL_STATUS_ACTIVE) ∧
      (bit (s.get F.KNL_STATUS_REASONS) 2 = true → t.kennel = s.kennel)) ∧
    (s.kennel.leaving = true →
      let magic (a : Nat) : Prop := a + 4 ≤ flashSize ∧ leNat ((List.range 4).map fun k => s.rot.flashByte (a + k)) = 0x4F535A41
      let head : List Byte := (List.range 32).map fun k => s.rot.flashByte (0xE00000 + k)
      let after := 0xE00000 + pages (32 + le head 8 4 + le head 12 4)
      let left (t : State) : Prop := exec .kennelReloadDone s = .next t ∧ t.flag F.KNL_STATUS_ACTIVE = false ∧
        t = { s with regs := t.regs, seqs := t.seqs, kennel := {}, bus := t.bus } ∧ (t.seq 4).imem = (s.seq 4).imem ∧
        (t.seq 4).dmem = (s.seq 4).dmem ∧ (t.seq 4).run = (s.seq 4).run
      let fields : List Fld := [F.KNL_STATUS_ACTIVE, F.SEQ_EVQ_STATUS_OVERFLOW 4]
      let m3 : List Fld := (List.range 12).map fun w => whole (A.SEC_MEAS 3 w)
      (¬ magic 0xE00000 → ∃ t, left t ∧ BitsKept fields s t ∧ Told 4 0x51 0 false 0 s t) ∧
      (magic 0xE00000 → ¬ magic after →
        match s.bootVerdict (s.rot.flashObject 0xE00000 (flashSize - 0xE00000)) with
        | .error y => ∃ t, left t ∧ BitsKept fields s t ∧ (∀ q : SeqId, q ≠ 4 → t.seq q = s.seq q) ∧
          ((s.seq 4).queue.length < 255 → (t.seq 4).queue.map (fun e => (e.source, e.code, e.data)) =
            (s.seq 4).queue.map (fun e => (e.source, e.code, e.data)) ++
              [(0x4E, 4, BitVec.ofNat 32 (y.code + le head 4 2 % 256 * 256)), (0x51, 0, 0)])
        | .ok (o, c) => ∃ t, left t ∧ Told 4 0x51 0 false 0 { s with seqs := t.seqs.set 4 (s.seq 4) } t ∧
          BitsKept (fields ++ m3) s t ∧
          ((∃ g ∈ c.segs, g.seq ≠ 4) → t.meas 3 = sha384 (s.meas 3 ++ sha384 o.bytes)) ∧
          ((∀ g ∈ c.segs, g.seq = 4) → t.meas 3 = s.meas 3) ∧
          ∀ q : SeqId, q ≠ 4 →
            let mine := c.segs.filter fun g => decide (g.seq = q);
            (t.seq q).run = (if mine = [] then (s.seq q).run else .ready) ∧
            (t.seq q).entry = ((c.entries.filter fun e => decide (e.1 = q)).getLast?.map fun e => BitVec.ofNat 15 e.2).getD (s.seq q).entry ∧
            (t.seq q).imem = mine.foldl (fun m g => if g.data then m
              else storeWords m g.addr (leWords 8 (g.body.length / 8) g.body)) (s.seq q).imem ∧
            (t.seq q).dmem = mine.foldl (fun m g => if g.data then
              storeWords m (g.addr / 4) (leWords 4 (g.body.length / 4) g.body) else m) (s.seq q).dmem))

/-- O54. The first POWER_ON_RESET with what manufacture writes puts it into OTP, a later one does not (log entry
135). POWER_ON_RESET leaves only OTP and the flash; every register has its reset value but those that report the
cause, the power, Muzzle and the self-test. SYSTEM_RESET keeps wall time and the registers of the wall-time unit,
but for the status of the capture queue, which it empties, and of the power manager, unless REFCLK_SYS is lost, when
the device is in reset already. A self-test that fails holds the device in reset with its reason at stage 0: the
first of logic BIST, which only a power-on reset runs, the fuse load and the memory test. Unreadable OTP and two
unreadable slots hold it at stage 1 with reasons 4 and 1. The fuse load takes the hard entries into the repair
table, the memory test repairs each row it finds failing with a spare row of its slice while the table of 1,024 has
room, and fails for a row without one (log entry 116). Firmware in slot 0 that verifies is started at stage 2, opens
flow 0xFFFF with session 255 and goes on to the boot bundles; firmware that does not, with slot 1 unreadable, leaves
reason 2 or 3 at stage 1. The loss of REFCLK_SYS resets the wall-time unit too, and the device stays so until
REFCLK_RETURN, which tests the memory and boots as a system reset does; that of REFCLK_NET takes both ports down,
that of REFCLK_CAB takes every ACTIVE neighbour port out of ACTIVE, each with its flag, and with an event unless the
device is held or in Stay. That the queues of commands and of clock periods of JTAG_TCK, the counter of free values
and the levels on balls stay, and that the TAP is reset by a power-on reset alone, is the model's choice (log
entries 3, 4, 9, 200). (R259, R420, R427, R465, R466, R473, R495, R496, R497, R498) -/
def Obligations.Resets : Prop :=
  ∀ (s : State) (b : BootIn),
    let rot : RotUnit := { s.rot with fwSvn := 0, param := [], boot := none, segs := [], bootSegs := [], challenge := none, idKey := none, loaded := [] }
    let rot : RotUnit := { rot with window := [], queue := [], job := none, topLeaf := 0, tree := [], bottom := none, sent := 0 }
    let pins : PinUnit := { gpioIn := s.pins.gpioIn, gpioOpen := s.pins.gpioOpen, muzzleLow := s.pins.muzzleLow }
    let clock : WallUnit := { cycle := s.wt.cycle }
    let cold : State := { State.reset with pending := s.pending, free := s.free, rot := rot, pins := pins, wt := clock, tap := s.tap }
    let cold : State := { cold with power := { pgWire := s.power.pgWire }, board := { wire := s.board.wire } }
    let cold : State := { cold with bist := { fuses := s.bist.fuses, weak := s.bist.weak } }
    let therm := s.flag F.MUZZLE_STATUS_SRC_THERM
    let wt : WallUnit := { s.wt with capFifo := [], capLast := {} }
    let kept : State := { cold with frame := s.frame, wt := wt, power := { cold.power with pnlAt := s.power.pnlAt } }
    let kept : State := { kept with bist := { cold.bist with slotAt := s.bist.slotAt }, round := { slotAt := s.wallNs, carried := therm } }
    let shown : List Nat := [A.PWR_RESET_CAUSE, A.PWR_STATUS, A.MUZZLE_STATUS, A.BIST_POWERON, A.BIST_REPAIR, A.BRD_STATUS]
    let early (logic : Bool) : Nat := if logic = true ∧ b.logicOk = false then 0x10 else if b.fuseOk = false then 0x12 else 0
    let rows := s.bist.weak ++ b.rows
    let mended : Prop := ∀ r ∈ rows, r.1 < 6144 → r.2 < 256 → ∃ i, (r.1, r.2, i) ∈ s.bist.fuses
    let reason (logic : Bool) (t : State) : Nat :=
      if early logic ≠ 0 then early logic else if t.flag F.BIST_POWERON_MEM_OK then 0 else 0x11
    let spared (t : State) : BistUnit := { cold.bist with spares := t.bist.spares, weak := t.bist.weak }
    let tested (logic : Bool) (t : State) : Prop := t.get F.BIST_POWERON_REASON = reason logic t ∧
      t.flag F.BIST_POWERON_LOGIC_OK = (if logic then b.logicOk else s.flag F.BIST_POWERON_LOGIC_OK) ∧
      (early logic ≠ 0 → t.flag F.BIST_POWERON_MEM_OK = false ∧ t.bist.spares = [] ∧ t.bist.weak = s.bist.weak) ∧
      (early logic = 0 → Repaired s.bist.fuses rows (t.flag F.BIST_POWERON_MEM_OK = true) t ∧
        (∀ r, (r ∈ s.bist.weak → r ∈ t.bist.weak) ∧ (r ∈ t.bist.weak → r ∈ rows)) ∧
        t.get F.BIST_REPAIR_HARD = s.bist.fuses.length % 1024 ∧
        t.get F.BIST_POWERON_REPAIRS = min (t.bist.spares.length - s.bist.fuses.length) 1023 ∧
        (mended → t.flag F.BIST_POWERON_MEM_OK = true ∧ t.bist.spares = s.bist.fuses))
    let heldAt (why stage : Nat) (t : State) : Prop := t.get F.BRD_STATUS_REASON = why ∧ t.get F.BRD_STATUS_STAGE = stage
    let muzzle (therm : Bool) (t : State) : Prop := t.flag F.MUZZLE_STATUS_SRC_THERM = therm ∧
      t.flag F.MUZZLE_STATUS_SRC_SW = false ∧ t.flag F.MUZZLE_STATUS_SRC_KENNEL = false ∧
      t.flag F.MUZZLE_STATUS_SRC_EXT = (s.pins.muzzleLow && !therm) ∧
      t.flag F.MUZZLE_STATUS_ASSERTED = (s.pins.muzzleLow || therm)
    let boots (t : State) : Prop := ∀ o, s.rot.flashObject 0 0x400000 = some o → o.kind = 1 →
      if { s with rot := rot }.verify o = .ok then
        t.get F.BRD_STATUS_STAGE = 2 ∧ t.rot.boot = some 0xE00000 ∧ (∀ q, (t.seq q).run = .halted) ∧ t.get (F.FLOW_W0_KIND 0xFFFF) = 3 ∧ t.get (F.FLOW_W0_SESSION 0xFFFF) = 255 ∧
          t.get (F.FLOW_W0_STATE 0xFFFF) = 1 ∧ (t.session 255).open_ = true
      else b.slot1Reads = false → heldAt 2 1 t ∨ heldAt 3 1 t
    (b.factory = none → ∃ t, exec (.powerOnReset b) s = .next t ∧
      let report : Prop := t = { cold with regs := t.regs, bus := t.bus, bist := spared t, tap := { clocks := s.tap.clocks } } ∧ RegsKept shown State.reset t ∧ tested true t ∧
        t.get F.PWR_RESET_CAUSE_CAUSE = 1 ∧ t.flag F.PWR_STATUS_PWR_OK = true ∧ muzzle false t
      (reason true t ≠ 0 → report ∧ heldAt (reason true t) 0 t) ∧
      (reason true t = 0 → b.otpOk = false ∨ s.rot.vendorHash = none → report ∧ heldAt 4 1 t) ∧
      (reason true t = 0 → b.otpOk = true → s.rot.vendorHash ≠ none → b.slot0Reads = false → b.slot1Reads = false →
        report ∧ heldAt 1 1 t) ∧
      (early true = 0 → mended → b.otpOk = true → s.rot.vendorHash ≠ none → b.slot0Reads = true → tested true t ∧ boots t)) ∧
    (∀ f, b.factory = some f → ∃ t, exec (.powerOnReset b) s = .next t ∧
      (s.rot.vendorHash ≠ none → exec (.powerOnReset { b with factory := none }) s = .next t) ∧
      (s.rot.vendorHash = none → t.rot.vendorHash = some f.vendorHash ∧ t.rot.deviceId = f.deviceId ∧
        t.rot.uniqueKey = f.uniqueKey ∧ t.bist.fuses.length ≤ 512 ∧ ∀ e ∈ t.bist.fuses, (e.1, e.2.1) ∈ f.repairs)) ∧
    (∃ t, exec (.systemReset b) s = .next t ∧ (s.power.clkLost = true → t = s) ∧
      (s.power.clkLost = false → reason false t ≠ 0 →
        t = { kept with regs := t.regs, bus := t.bus, bist := { spared t with slotAt := s.bist.slotAt } } ∧ tested false t ∧
        heldAt (reason false t) 0 t ∧ t.get F.PWR_RESET_CAUSE_CAUSE = 2 ∧ t.get F.PWR_STATUS_STATE = 0 ∧ muzzle therm t ∧
        (∀ a, a ∉ shown → t.rd a = if keptWall a || isPwrReg a then s.rd a else State.reset.rd a)) ∧
      (s.power.clkLost = false → reason false t = 0 → tested false t ∧ t.get F.PWR_RESET_CAUSE_CAUSE = 2 ∧
        (b.otpOk = true → s.rot.vendorHash ≠ none → b.slot0Reads = true → boots t))) ∧
    (∃ t, exec (.refclkLoss 2) s = .next t ∧ t.get F.PWR_RESET_CAUSE_CAUSE = 4 ∧ t.get F.PWR_STATUS_STATE = 0 ∧
      t = { cold with regs := t.regs, bus := t.bus, power := { kept.power with clkLost := true }, round := { carried := therm } } ∧ muzzle therm t ∧
      ∀ a, a ∉ [A.PWR_RESET_CAUSE, A.PWR_STATUS, A.MUZZLE_STATUS] →
        t.rd a = if isPwrReg a || a == A.BIST_POWERON then s.rd a else State.reset.rd a) ∧
    (∃ t, exec (.refclkReturn b) s = .next t ∧ (s.power.clkLost = false → t = s) ∧
      (s.power.clkLost = true →
        let here (t : State) : State := { s with regs := t.regs, power := { s.power with clkLost := false }
                                                 seqs := Vector.replicate 5 {}, bist := { s.bist with spares := t.bist.spares, weak := t.bist.weak } }
        (early false = 0 → tested false t) ∧ t.power.clkLost = false ∧
        (t.get F.BIST_POWERON_REASON ≠ 0 → heldAt (t.get F.BIST_POWERON_REASON) 0 t ∧ t = here t ∧
          RegsKept [A.BIST_POWERON, A.BIST_REPAIR, A.BRD_STATUS] s t) ∧
        (early false ≠ 0 → t.get F.BIST_POWERON_REASON = 0x12) ∧
        (early false = 0 → mended → t.get F.BIST_POWERON_REASON = 0 ∧
          (b.otpOk = false ∨ s.rot.vendorHash = none → heldAt 4 1 t ∧ t = here t) ∧
          (b.otpOk = true → s.rot.vendorHash ≠ none → b.slot0Reads = false → b.slot1Reads = false → heldAt 1 1 t ∧ t = here t) ∧
          (b.otpOk = true → s.rot.vendorHash ≠ none → b.slot0Reads = true → s.rot = rot → boots t)))) ∧
    (let lostTold (x : Nat) (t : State) : Prop := if s.held = false ∧ s.inStay = false then Told 4 0x52 3 false x s t else t.seqs = s.seqs
    (∃ t, exec (.refclkLoss 0) s = .next t ∧ t = { s with regs := t.regs, seqs := t.seqs, bus := t.bus } ∧
      t.flag F.PWR_FLAGS_CLK_NET_LOST = true ∧ (∀ p : PortId, t.flag (F.NET_PORT_STATUS_UP p) = false ∧
        t.get (F.NET_PORT_STATUS_LANE_LOCK p) = 0) ∧
      ((∀ p : PortId, s.flag (F.NET_PORT_STATUS_UP p) = false) → lostTold 0 t) ∧
      BitsKept ([F.PWR_FLAGS_CLK_NET_LOST, F.SEQ_EVQ_STATUS_OVERFLOW 4] ++
        (fins 2).map fun p => whole (A.NET_PORT_STATUS (p : Fin 2).val)) s t) ∧
    ∃ t, exec (.refclkLoss 1) s = .next t ∧ t.flag F.PWR_FLAGS_CLK_CAB_LOST = true ∧
      (∀ q : NbrId, t.nbrActive q = false ∧ (s.nbrActive q = true → t.flag (F.NBR_FLAGS_LINK_DOWN q) = true)) ∧
      ((∀ q : NbrId, s.nbrActive q = false) → t = { s with regs := t.regs, seqs := t.seqs, bus := t.bus } ∧
        lostTold 1 t ∧ BitsKept [F.PWR_FLAGS_CLK_CAB_LOST, F.SEQ_EVQ_STATUS_OVERFLOW 4] s t))

/-- O55. STAY, WARM, WAKE and PWR_PNL_WRITE do nothing to a device that is held in reset (log entry 212). STAY and
WARM while ON make STATE ENTERING with RETAIN as written: a slice under test is waited for, else every RUNNING
quadrant is set to stop at its latch and every ARMED one is STOPPED, and once none runs every ACTIVE group sends
STAY; while not ON they only set STALE_WRITE. STAY_CDIC_ACK waits for every CDIC or 1 ms and then abandons DEFLATE
jobs, camera frames and the receiver scan. STAY_ENTERED with every controller in self-refresh and no slice under
test drives PWR_SLEEP_N low, and PWR_SRAM_EN unless the scene store is retained, saves FRONT, closes the scopes,
halts the sequencers, keeps wall time, DRAM, sessions and the root of trust, and makes STATE STAY, or WAKING with a
trigger met meanwhile or a time already passed. WAKE and WAKE_TIME begin the wake in Stay, with both outputs high,
and are remembered during entry. PWR_OK tests and repairs the memory that lost power, resets the device and starts
SQS from its retained segments, with STATE ON; a row that cannot be repaired holds it. CTX_RESTORE_DONE without a
saved copy sets CTX_LOST and writes the contexts served in Stay. PWR_PNL_WRITE keeps the EN bit of a quadrant that
scans, PG_TIMEOUT and PG_LOST report their supply. That RETAIN and WAKE_EN of a write count before its STAY is the
model's choice (log entry 75). (R387, R493, R496, R500, R501, R502, R503, R504, R505, R506) -/
def Obligations.StayAndWake : Prop :=
  ∀ (s : State) (v : Word) (n : QuadId),
    let p := s.power
    let state := s.get F.PWR_STATUS_STATE
    let ctrl (t : State) : Prop := t.flag F.PWR_CTRL_RETAIN = v.getLsbD 1 ∧ t.flag F.PWR_CTRL_WAKE_EN = v.getLsbD 2
    let ctrlBits : List Fld := [F.PWR_CTRL_RETAIN, F.PWR_CTRL_WAKE_EN]
    (s.held = true → exec (.stay v) s = .next s ∧ exec (.warm v) s = .next s ∧ exec (.wake v) s = .next s ∧
      ∀ pg, exec (.pwrPnlWrite v pg) s = .next s) ∧
    (∀ warm : Bool, s.held = false → v.getLsbD 3 = false → (if warm then v.getLsbD 0 else v.getLsbD 4) = false →
      ∃ t, exec (if warm then .warm v else .stay v) s = .next t ∧ ctrl t ∧
        (state ≠ 0 → t.flag F.PWR_FLAGS_STALE_WRITE = true ∧ OnlyBits (F.PWR_FLAGS_STALE_WRITE :: ctrlBits) s t) ∧
        (state = 0 → t = { s with regs := t.regs, power := t.power, scan := t.scan, tpl := t.tpl, free := t.free } ∧
          t.get F.PWR_STATUS_STATE = 1 ∧ BitsKept (F.PWR_STATUS_STATE :: ctrlBits) s t ∧
          t.power = { p with entry := t.power.entry, warm := warm, retain := v.getLsbD 1, woken := none } ∧
          (s.bist.cur ≠ none → t.power.entry = .waiting ∧ t.scan = s.scan ∧ t.tpl = s.tpl) ∧
          (s.bist.cur = none →
            (∀ m, t.scanU m = match (s.scanU m).run with
              | .running => { s.scanU m with run := .stopping, stopNext := s.latchDue.isSome }
              | .armed => { s.scanU m with run := .stopped, k0 := none }
              | _ => s.scanU m) ∧
            ((∃ m, (t.scanU m).run = .stopping) → t.power.entry = .stopping ∧ t.tpl = s.tpl) ∧
            ((∀ m, (t.scanU m).run = .stopped) → t.power.entry = .cdics s.wt.cycle ∧
              ∀ x, ∃ seed pay, (s.mapClash x = false → pay = TplCmd.stay.bytes) ∧
                let tx : TplTx := .packet (s.lanePairs x 0) (s.tpl2 x) seed { s.cmdPacket 15 0 .stay with payload := pay }
                t.group x = if s.tplActive x = true then { s.group x with sent := tx :: (s.group x).sent }
                  else s.group x)))) ∧
    (∀ since, p.entry = .cdics since → p.warm = false →
      ∃ t, exec .stayCdicAck s = .next t ∧
        ((∃ x, s.groupStays x = false) → s.passedUs since 1000 = false → t = s) ∧
        ((∀ x, s.groupStays x = true) ∨ s.passedUs since 1000 = true → t.power.entry = .refresh ∧ t.dfl.queue = [] ∧
          t.dfl.defl = none ∧ (∀ i : Fin 4, t.dfl.infl[i] = none ∧ t.cam[i] = {}) ∧ t.rxScan = none ∧ t.ing.held = [] ∧
          (s.flag F.PWR_CTX_SAVE_EN = false → t.power.saved = none) ∧ t.wt = s.wt)) ∧
    (p.entry = .refresh → p.warm = false → s.bist.cur = none → (∀ m, s.dramState m = 0 ∨ s.dramState m = 3) →
      ∃ t, exec .stayEntered s = .next t ∧ t.wt = { s.wt with capFifo := [], capLast := {} } ∧ t.rot = s.rot ∧
        t.sess = s.sess ∧ t.board = s.board ∧ t.kennel = s.kennel ∧ t.power.entry = .none ∧ t.round = s.round ∧
        (∀ q, t.seq q = { entry := (s.seq q).entry }) ∧ (∀ m, (t.dr m).mem = (s.dr m).mem ∧ t.dramState m = s.dramState m) ∧
        (∀ a, keptWall a = true → t.rd a = s.rd a) ∧
        (∀ a, keptInStay a = false → (∀ m : QuadId, a ≠ A.DRAM_STATUS m) → a ≠ A.BIST_REPAIR → t.rd a = State.reset.rd a) ∧
        t.bist.fuses = s.bist.fuses ∧ t.bist.weak = s.bist.weak ∧ t.get F.BIST_REPAIR_SOFT = t.bist.spares.length % 2048 ∧
        t.bist.spares = s.bist.spares.filter (fun e => s.bist.fuses.contains e || (p.retain && decide (e.1 < 4480))) ∧
        (let woken : Bool := p.woken.isSome || s.wakeDue;
         t.pins = { gpioIn := s.pins.gpioIn, gpioOpen := s.pins.gpioOpen, muzzleLow := s.pins.muzzleLow
                    sleepN := woken, sramEn := woken || p.retain }) ∧
        (∀ x : Fin 16, bit (t.get F.PWR_PLANE_FRONT_FRONT) x.val = s.flag (F.SST_PLANE_STATUS_FRONT x)) ∧
        t.flag F.SEC_STATUS_JTAG_OPEN = false ∧ t.flag F.SEC_STATUS_BOARD_READ = false ∧
        t.flag F.SEC_STATUS_BOARD_WRITE = false ∧ t.flag F.PWR_STATUS_RETAINED = p.retain ∧
        t.flag F.PWR_STATUS_PWR_OK = false ∧ t.get F.BRD_STATUS_STAGE = 5 ∧
        (s.wakeDue = true → t.flag F.PWR_FLAGS_WAKE_LATE = true) ∧
        (p.woken = none → s.wakeDue = false → t.get F.PWR_STATUS_STATE = 2) ∧
        (p.woken = none → s.wakeDue = true → t.get F.PWR_STATUS_STATE = 3 ∧ t.get F.PWR_STATUS_WAKE_SRC = 1) ∧
        (∀ src, p.woken = some src → src < 4 → t.get F.PWR_STATUS_STATE = 3 ∧ t.get F.PWR_STATUS_WAKE_SRC = src)) ∧
    (let woke (src : Nat) (t : State) : Prop := t.get F.PWR_STATUS_STATE = 3 ∧ t.get F.PWR_STATUS_WAKE_SRC = src ∧
       t = { s with regs := t.regs, power := { p with since := s.wt.cycle }, pins := { s.pins with sleepN := true, sramEn := true } };
     (s.held = false → v.getLsbD 0 = false → v.getLsbD 4 = false → ∃ t, exec (.wake v) s = .next t ∧ ctrl t ∧
       (state = 2 → woke 2 t ∧ BitsKept (F.PWR_STATUS_STATE :: F.PWR_STATUS_WAKE_SRC :: ctrlBits) s t) ∧
       (state ≠ 2 → BitsKept ctrlBits s t ∧
         (p.entry ≠ .none → p.warm = false → p.woken = none →
           t = { s with regs := t.regs, power := { p with woken := some 2 } }) ∧
         (p.entry = .none ∨ p.warm = true ∨ p.woken ≠ none → t = { s with regs := t.regs }))) ∧
     ∃ t, exec .wakeTime s = .next t ∧ (s.wakeDue = false → t = s) ∧
       (s.wakeDue = true → state = 2 → woke 1 t ∧ BitsKept [F.PWR_STATUS_STATE, F.PWR_STATUS_WAKE_SRC] s t) ∧
       (s.wakeDue = true → state ≠ 2 → p.entry ≠ .none → p.warm = false → p.woken = none →
         t = { s with power := { p with woken := some 1 } })) ∧
    (state = 3 → ∀ rows : List (Nat × Nat), ∃ t, exec (.pwrOk rows) s = .next t ∧
        let retained := s.flag F.PWR_STATUS_RETAINED;
        let kept := s.bist.spares.filter (fun e => s.bist.fuses.contains e || (retained && decide (e.1 < 4480)));
        let tested := (s.bist.weak ++ rows).filter (fun r => !(retained && decide (r.1 < 4480)));
        let bad := t.get F.BRD_STATUS_STAGE = 0;
        Repaired kept tested (¬ bad) t ∧ t.get F.PWR_STATUS_STATE = 0 ∧ t.flag F.PWR_STATUS_PWR_OK = true ∧ t.rot = s.rot ∧
        ((∀ r ∈ tested, r.1 < 6144 → r.2 < 256 → ∃ i, (r.1, r.2, i) ∈ kept) → ¬ bad ∧ t.bist.spares = kept) ∧
        (retained = false → t.ing.scene = []) ∧ (retained = true → t.ing.scene = s.ing.scene) ∧
        (bad → t.get F.BRD_STATUS_REASON = 0x11 ∧ t.flag F.BIST_POWERON_MEM_OK = false ∧
          (∀ a, keptWall a = true → t.rd a = s.rd a) ∧ (∀ q, (t.seq q).run = .halted) ∧
          ∀ a, keptAtWake a = false → (∀ m : QuadId, a ≠ A.DRAM_STATUS m) → a ≠ A.BIST_REPAIR → t.rd a = State.reset.rd a) ∧
        (¬ bad → t.power.restoring = true ∧ ((∃ g ∈ s.rot.segs, g.seq = 4) → (t.seq 4).run = .running) ∧
          (t.get F.BRD_STATUS_STAGE = 3 ∨ t.get F.BRD_STATUS_STAGE = 4))) ∧
    (p.restoring = true → p.saved = none → (∀ m, (s.dr m).resuming = false) →
      ∃ t, exec .ctxRestoreDone s = .next t ∧ t.flag F.PWR_FLAGS_CTX_LOST = true ∧
        t = { s with regs := t.regs, bus := t.bus, power := { p with restoring := false, retained := [], saved := none } } ∧
        (∀ a, (∀ c ∈ p.retained, ∀ i < 8, a ≠ 0x600000 + 32 * c.1 + 4 * i) → a ≠ A.PWR_FLAGS → t.rd a = s.rd a) ∧
        ((p.retained.map (·.1)).Nodup → ∀ c ∈ p.retained, ∀ i < 8, t.rd (0x600000 + 32 * c.1 + 4 * i) = c.2.getD i 0)) ∧
    (s.held = false → ∀ pg : BitVec 4, ∃ t, exec (.pwrPnlWrite v pg) s = .next t ∧
      let stays (m : QuadId) : Prop := bit (s.get F.PWR_PNL_EN) m.val = true ∧ s.scans m = true
      t.get F.PWR_PNL_PG_TIMEOUT_MS = (v.extractLsb' 8 8).toNat ∧
      (∀ m : QuadId, (bit (t.get F.PWR_PNL_EN) m.val = true ↔ v.getLsbD m.val = true ∨ stays m) ∧
        (bit (t.get F.PWR_PNL_STATUS_PG) m.val = true ↔ pg.getLsbD m.val = true ∨
          (bit (s.get F.PWR_PNL_EN) m.val = true ∧ bit (s.get F.PWR_PNL_STATUS_PG) m.val = true ∧
            bit (t.get F.PWR_PNL_EN) m.val = true)) ∧
        (bit (t.get F.PWR_PNL_EN) m.val = false → t.power.pnlAt[m] = none) ∧
        (bit (t.get F.PWR_PNL_EN) m.val = true →
          t.power.pnlAt[m] = if bit (s.get F.PWR_PNL_EN) m.val then p.pnlAt[m] else some s.wt.cycle)) ∧
      (t.flag F.PWR_FLAGS_STALE_WRITE = true ↔
        s.flag F.PWR_FLAGS_STALE_WRITE = true ∨ ∃ m : QuadId, v.getLsbD m.val = false ∧ stays m) ∧
      t = { s with regs := t.regs, bus := t.bus, power := { p with pnlAt := t.power.pnlAt } } ∧
      BitsKept [F.PWR_PNL_EN, F.PWR_PNL_PG_TIMEOUT_MS, F.PWR_PNL_STATUS_PG, F.PWR_FLAGS_STALE_WRITE] s t) ∧
    (∀ at_, p.pnlAt[n] = some at_ → bit (s.get F.PWR_PNL_STATUS_PG) n.val = false →
      s.passedUs at_ (1000 * max 1 (s.get F.PWR_PNL_PG_TIMEOUT_MS)) = true →
      ∃ t, exec (.pgTimeout n) s = .next t ∧ t.flag F.PWR_FLAGS_PG_TIMEOUT = true ∧ Told 4 0x52 1 false n.val s t ∧
        t = { s with regs := t.regs, bus := t.bus, seqs := t.seqs, power := { p with pnlAt := p.pnlAt.set n none } } ∧
        BitsKept [F.PWR_FLAGS_PG_TIMEOUT, F.SEQ_EVQ_STATUS_OVERFLOW 4] s t) ∧
    (bit (s.get F.PWR_PNL_EN) n.val = true → bit (s.get F.PWR_PNL_STATUS_PG) n.val = true →
      ∃ t, exec (.pgLost n) s = .next t ∧ t.flag F.PWR_FLAGS_PG_LOST = true ∧ Told 4 0x52 2 false n.val s t ∧
        (∀ m : QuadId, bit (t.get F.PWR_PNL_STATUS_PG) m.val = (decide (m ≠ n) && bit (s.get F.PWR_PNL_STATUS_PG) m.val)) ∧
        t = { s with regs := t.regs, seqs := t.seqs, bus := t.bus } ∧
        BitsKept [F.PWR_FLAGS_PG_LOST, F.PWR_PNL_STATUS_PG, F.SEQ_EVQ_STATUS_OVERFLOW 4] s t)

/-- O56. For every command and state with that command at the front of its queue, a step is the command's execution
on the state with the queue's rest. On an empty queue a step answers next with the state unchanged where nothing
waits that the board puts on balls without a row of the table; else it takes one period of JTAG_TCK, one set of
levels of PNL_PG, each level that rises or falls shown in PNL_STATUS and one that falls under its enable in PG_LOST,
and one transaction of the board port, whose first byte names the board command and of which an unknown byte is
BAD_CMD: the model's choice (log entries 3, 132, 161 and 200). (00_scope.md, R493, R537) -/
def Obligations.StepRunsFrontCommand : Prop :=
  ∀ (c : Instr) (rest : List Instr) (s : State),
    (s.pending = c :: rest → step s = exec c { s with pending := rest }) ∧
    (s.pending = [] → s.tap.clocks = [] → s.power.pgWire = [] → s.board.wire = [] → step s = .next s) ∧
    (s.pending = [] → s.power.pgWire = [] → s.board.wire = [] → step s = .next s.tapStep) ∧
    (s.pending = [] → s.tap.clocks = [] → s.board.wire = [] → ∀ pg l, s.power.pgWire = pg :: l → ∃ t, step s = .next t ∧
      t = { s with regs := t.regs, seqs := t.seqs, bus := t.bus, power := { s.power with pgWire := l } } ∧
      (∀ n : QuadId, bit (t.get F.PWR_PNL_STATUS_PG) n.val = pg.getLsbD n.val) ∧
      let falls (n : QuadId) : Prop :=
        bit (s.get F.PWR_PNL_EN) n.val = true ∧ bit (s.get F.PWR_PNL_STATUS_PG) n.val = true ∧ pg.getLsbD n.val = false
      (t.flag F.PWR_FLAGS_PG_LOST = true ↔ s.flag F.PWR_FLAGS_PG_LOST = true ∨ ∃ n, falls n) ∧
      (∀ n, falls n → (∀ m, m ≠ n → ¬ falls m) → Told 4 0x52 2 false n.val s t) ∧ ((∀ n, ¬ falls n) → t.seqs = s.seqs)) ∧
    (s.pending = [] → s.tap.clocks = [] → s.power.pgWire = [] → ∀ (code : Byte) (args : List Byte) (l : List (List Byte)),
      s.board.wire = (code :: args) :: l →
      let u : State := { s with board := { s.board with wire := l } }
      (code = 0x01 → step s = exec (.brdStatus args) u) ∧ (code = 0x02 → step s = exec (.brdTemp args) u) ∧
      (code = 0x03 → ∃ b v, v = { u with free := v.free } ∧ step s = exec (.brdReset args b) v) ∧
      (code = 0x04 → step s = exec (.brdChallenge args) u) ∧ (code = 0x05 → step s = exec (.tokenLoad args) u) ∧
      (code = 0x06 → step s = exec (.tokenSubmit args) u) ∧ (code = 0x07 → step s = exec (.provision args) u) ∧
      (code = 0x10 → step s = exec (.regRead args) u) ∧ (code = 0x11 → step s = exec (.regWrite args) u) ∧
      (code ∉ [0x01, 0x02, 0x03, 0x04, 0x05, 0x06, 0x07, 0x10, 0x11] →
        step s = .next { u with board := { u.board with result := 1, data := [] } }))

/-- O57. While no command waits, and nothing else that the board puts on balls, each step takes one waiting period
of JTAG_TCK and changes the TAP alone. Five periods with JTAG_TMS high lead to Test-Logic-Reset and IDCODE from any
state of the controller (PRESUMED from IEEE 1149.1, log entry 200), and so does JTAG_TRST_N low. With IDCODE the
bits that JTAG_TDO shows from Capture-DR on are those of 0xB712_874B, bit 0 first. The TAP is locked from the start
of the root of trust's firmware on, unless an UNLOCK has opened it. While it is locked, with any instruction but
IDCODE, JTAG_TDO shows a 0 and then JTAG_TDI one period late, the held levels stay and no ball is driven by the TAP.
While it is unlocked, EXTEST and CLAMP put the held levels on output and two-way balls, HIGHZ releases them, and
SAMPLE/PRELOAD and EXTEST capture the levels at the balls and take the held levels from the cells. (R420, R445,
R539) -/
def Obligations.BoundaryScan : Prop :=
  ∀ s : State,
    let locked : Bool := !s.flag F.SEC_STATUS_JTAG_OPEN && decide (2 ≤ s.get F.BRD_STATUS_STAGE)
    let cells : Prop := s.tap.instr = .samplePreload ∨ s.tap.instr = .extest
    (∀ k l, s.pending = [] → s.power.pgWire = [] → s.board.wire = [] → s.tap.clocks = k :: l → ∃ t, step s = .next t ∧ t = { s with tap := t.tap } ∧ t.tap.clocks = l ∧
      (k.trstN = false → t.tap.ctl = .testLogicReset ∧ t.tap.instr = .idcode ∧ t.tap.tdo = none) ∧
      (k.trstN = true → s.tap.ctl = .captureDr → cells → locked = false →
        ∀ i < 372, t.tap.shift.getD i false = k.balls.getLsbD i) ∧
      (k.trstN = true → tapNext s.tap.ctl k.tms = .updateDr →
        (locked = true ∨ ¬ cells → t.tap.held = s.tap.held) ∧
        (locked = false → cells → ∀ i < 372, t.tap.held.getLsbD i = (s.tapEdge k).getD i false))) ∧
    (5 ≤ s.tap.clocks.length → (∀ k ∈ s.tap.clocks.take 5, k.trstN = true ∧ k.tms = true) →
      (Nat.repeat State.tapStep 5 s).tap.ctl = .testLogicReset ∧ (Nat.repeat State.tapStep 5 s).tap.instr = .idcode) ∧
    (∀ n, n < s.tap.clocks.length → s.tap.ctl = .captureDr →
      (∀ k ∈ s.tap.clocks.take (n + 1), k.trstN = true ∧ k.tms = false) →
      (s.tap.instr = .idcode → n < 32 →
        (Nat.repeat State.tapStep (n + 1) s).tap.tdo = some ((0xB712874B : BitVec 32).getLsbD n)) ∧
      (s.tap.instr ≠ .idcode → locked = true →
        (Nat.repeat State.tapStep (n + 1) s).tap.tdo = if n = 0 then some false else s.tap.clocks[n]?.map (·.tdi))) ∧
    ∀ i < 372, i ≠ tdoCell →
      (locked = true → s.tapBall i = none) ∧
      (locked = false → cellDir i = .output ∨ cellDir i = .both →
        (s.tap.instr = .extest ∨ s.tap.instr = .clamp → s.tapBall i = some (some (s.tap.held.getLsbD i))) ∧
        (s.tap.instr = .highz → s.tapBall i = some none) ∧
        (s.tap.instr = .samplePreload ∨ s.tap.instr = .bypass → s.tapBall i = none))

/-- O58. For every command of the table and every state the command answers a next state: no command is refused and
none faults, since the spec gives every illegal instruction word, access, value and packet an effect. (R96, R484,
R509, R510, R511, R512, R514, R515) -/
def Obligations.EveryCommandAnswers : Prop :=
  ∀ (c : Instr) (s : State), ∃ t, exec c s = .next t

/-- O59. For every well-formed Porow instruction, with every operand at every value that its encoding admits, the
decoder reads the encoder's word as that instruction. A word that the decoder reads is the encoder's word of the
well-formed instruction read, so that no two words have one meaning and no reserved or unused bit is dropped. (R94,
R95, R96, R97, R98, R99, R108, R109, R110, R111, R112, R113) -/
def Obligations.PorowRoundTrip : Prop :=
  (∀ i : POp, i.wellFormed = true → decodePorow (encodePorow i) = some i) ∧
  ∀ (w : IWord) (i : POp), decodePorow w = some i → i.wellFormed = true ∧ encodePorow i = w

/-- O60. Whatever command or step runs, in whatever state, the vendor hash, device number, device-unique key and
hard repair entries that manufacture wrote stay, an owner slot once written keeps its hash, the bound of the retired
slots does not fall, and, where the version counters are at most 64 and the leaf fuses used at most 32,768, they
stay within that and none falls. (R416, R440, R443, R446, R447, R473, R496) -/
def Obligations.OtpOnlyBurns : Prop :=
  ∀ s t : State, (∃ c, exec c s = .next t) ∨ step s = .next t →
    (∀ h, s.rot.vendorHash = some h →
      t.rot.vendorHash = some h ∧ t.rot.deviceId = s.rot.deviceId ∧ t.rot.uniqueKey = s.rot.uniqueKey ∧
        t.bist.fuses = s.bist.fuses) ∧
    (∀ (i : Fin 4) (h : BitVec 384), s.rot.owners[i] = some h → t.rot.owners[i] = some h) ∧
    s.rot.retired ≤ t.rot.retired ∧
    ((∀ i : Fin 3, s.rot.svn[i] ≤ 64) → ∀ i : Fin 3, s.rot.svn[i] ≤ t.rot.svn[i] ∧ t.rot.svn[i] ≤ 64) ∧
    (s.rot.leaf ≤ 32768 → s.rot.leaf ≤ t.rot.leaf ∧ t.rot.leaf ≤ 32768)
end

