-- ==== Sys2Proof/Laws/Cadence.lean ====
section
/-!
SUPPORT. Sys2Proof/Laws/Cadence.lean: the current frame: it is the only k with F(k) ≤ wall time < F(k + 1).
-/

namespace Sys2Proof.Machine

/-- F(k), with the lines of a frame taken out of its fraction. -/
theorem State.frameAt_eq (s : State) (k : Int) (h : 0 < s.vTotal) :
    s.frameAt k = (s.cadEpoch : Int) * secUnits + k * (s.cadP * secUnits : Nat) / (s.cadQ : Int) := by
  unfold State.frameAt State.lineAt
  have e : (k * s.cadP * s.vTotal + 0 * s.cadP) * (secUnits : Int)
      = (s.vTotal : Int) * (k * (s.cadP * secUnits : Nat)) := by
    rw [Int.natCast_mul, Int.zero_mul, Int.add_zero]; ac_rfl
  have d : ((s.cadQ * s.vTotal : Nat) : Int) = (s.vTotal : Int) * s.cadQ := by rw [Int.natCast_mul, Int.mul_comm]
  rw [e, d, Int.mul_ediv_mul_of_pos _ _ (by omega)]

/-- Wall time has reached F(k): the same without a division. -/
theorem State.frameAt_le_iff (s : State) (k w : Int) (hv : 0 < s.vTotal) (hq : 0 < s.cadQ) :
    s.frameAt k ≤ w ↔
      k * (s.cadP * secUnits : Nat) < (w - (s.cadEpoch : Int) * secUnits + 1) * (s.cadQ : Int) := by
  rw [s.frameAt_eq k hv, ← Int.ediv_lt_iff_lt_mul (by omega)]
  omega

/-- While a valid cadence exists, the one k with F(k) ≤ wall time < F(k + 1) is `frameNow` (R558). -/
theorem State.frameNow_eq (s : State) (k : Int) (hc : s.cadenceOk = true) (h1 : s.frameAt k ≤ s.wall16)
    (h2 : (s.wall16 : Int) < s.frameAt (k + 1)) : s.frameNow = k := by
  simp only [State.cadenceOk, Bool.and_eq_true, decide_eq_true_eq] at hc
  obtain ⟨⟨⟨⟨⟨⟨hp, hq⟩, _⟩, hr⟩, _⟩, hv⟩, _⟩ := hc
  have iff (j : Int) := s.frameAt_le_iff j s.wall16 (by omega) (by omega)
  have hQ : (0 : Int) < s.cadQ := by omega
  have hn : (0 : Int) < (s.cadP * secUnits : Nat) := by unfold secUnits; omega
  have hqn : (s.cadQ : Int) ≤ (s.cadP * secUnits : Nat) := by unfold secUnits; omega
  have h1 := (iff k).mp h1
  have h2 : ¬ _ := fun h => absurd ((iff (k + 1)).mpr h) (by omega)
  unfold State.frameNow
  generalize hA : (s.wall16 : Int) - (s.cadEpoch : Int) * secUnits = A at *
  generalize ((s.cadP * secUnits : Nat) : Int) = N at *
  generalize (s.cadQ : Int) = Q at *
  have lo := Int.ediv_mul_le (A * Q) (Int.ne_of_gt hn)
  have hi := Int.lt_ediv_add_one_mul_self (A * Q) hn
  generalize A * Q / N = m at *
  have lt {a b : Int} (h : a * N < b * N) : a < b := Int.lt_of_mul_lt_mul_right h (Int.le_of_lt hn)
  have hA1 : (A + 1) * Q = A * Q + Q := by rw [Int.add_mul, Int.one_mul]
  have hk : (k + 1) * N = k * N + N := by rw [Int.add_mul, Int.one_mul]
  have hm : (m + 1) * N = m * N + N := by rw [Int.add_mul, Int.one_mul]
  have hm2 : (m + 2) * N = m * N + N + N := by rw [Int.add_mul]; omega
  simp only
  split
  · rename_i h
    have h := (iff (m + 1)).mp h
    have a : k < m + 2 := lt (by omega)
    have b : m + 1 < k + 1 := lt (by omega)
    omega
  · rename_i h
    have h : ¬ _ := fun x => h ((iff (m + 1)).mpr x)
    have a : k < m + 1 := lt (by omega)
    have b : m < k + 1 := lt (by omega)
    omega

end Sys2Proof.Machine
end

