-- ==== Sys2Proof/Laws/Sparse.lean ====
section
/-!
SUPPORT. Sys2Proof/Laws/Sparse.lean: the sparse stores that hold registers and memories: what a read after a write
gives, and that every operation keeps the canonical form.
-/

namespace Sys2Proof.Machine

variable {α : Type} [DecidableEq α] {d : Nat → α}

/-- A store is canonical exactly when its keys rise strictly and no entry is the default. -/
theorem sparseWf_iff (m : Sparse α) :
    sparseWf d m = true ↔ m.Pairwise (fun a b => a.1 < b.1) ∧ ∀ e ∈ m, e.2 ≠ d e.1 := by
  induction m with
  | nil => simp [sparseWf]
  | cons a t ih =>
    cases t with
    | nil => simp [sparseWf]
    | cons b t =>
      simp only [sparseWf, Bool.and_eq_true, decide_eq_true_eq, ih, List.pairwise_cons, List.mem_cons, forall_eq_or_imp]
      constructor
      · rintro ⟨⟨h1, h2⟩, ⟨h3, h4⟩, h5, h6⟩
        exact ⟨⟨⟨h2, fun e he => lt_trans h2 (h3 e he)⟩, h3, h4⟩, h1, h5, h6⟩
      · rintro ⟨⟨⟨h2, -⟩, h3, h4⟩, h1, h5, h6⟩
        exact ⟨⟨h1, h2⟩, ⟨h3, h4⟩, h5, h6⟩

/-- The empty store is canonical. -/
@[simp] theorem sparseWf_nil : sparseWf d ([] : Sparse α) = true := rfl

/-- A store with entries taken out stays canonical. -/
theorem sparseWf_filter (p : Nat × α → Bool) (m : Sparse α) (h : sparseWf d m = true) :
    sparseWf d (m.filter p) = true := by
  rw [sparseWf_iff] at h ⊢
  exact ⟨h.1.filter p, fun e he => h.2 e (List.mem_of_mem_filter he)⟩

/-- The keys of a store after a write are among those before and the one written. -/
theorem mem_sparseSet {m : Sparse α} {k : Nat} {v : α} {e : Nat × α} (h : e ∈ sparseSet d m k v) :
    e ∈ m ∨ e = (k, v) := by
  induction m with
  | nil =>
    simp only [sparseSet] at h
    split at h
    · simp at h
    · simp at h; exact Or.inr h
  | cons a t ih =>
    obtain ⟨k', v'⟩ := a
    simp only [sparseSet] at h
    split at h
    · rcases List.mem_cons.mp h with h | h
      · exact Or.inl (by simp [h])
      · rcases ih h with h | h
        · exact Or.inl (by simp [h])
        · exact Or.inr h
    · split at h
      · exact Or.inl (List.mem_of_mem_filter h)
      · rcases List.mem_cons.mp h with h | h
        · exact Or.inr h
        · exact Or.inl (List.mem_of_mem_filter h)

/-- A write keeps the canonical form. -/
theorem sparseWf_set (m : Sparse α) (k : Nat) (v : α) (h : sparseWf d m = true) :
    sparseWf d (sparseSet d m k v) = true := by
  induction m with
  | nil =>
    simp only [sparseSet]
    split
    · rfl
    · simpa [sparseWf]
  | cons a t ih =>
    obtain ⟨k', v'⟩ := a
    have hp := (sparseWf_iff _).mp h
    have ht : sparseWf d t = true := (sparseWf_iff _).mpr
      ⟨(List.pairwise_cons.mp hp.1).2, fun e he => hp.2 e (List.mem_cons_of_mem _ he)⟩
    simp only [sparseSet]
    split
    · rename_i hlt
      rw [sparseWf_iff]
      have hr := (sparseWf_iff _).mp (ih ht)
      refine ⟨List.pairwise_cons.mpr ⟨fun e he => ?_, hr.1⟩, ?_⟩
      · rcases mem_sparseSet he with he | he
        · exact (List.pairwise_cons.mp hp.1).1 e he
        · simpa [he] using hlt
      · intro e he
        rcases List.mem_cons.mp he with he | he
        · exact hp.2 e (by simp [he])
        · exact hr.2 e he
    · rename_i hge
      split
      · exact sparseWf_filter _ _ h
      · rename_i hv
        rw [sparseWf_iff]
        have hf := (sparseWf_iff _).mp (sparseWf_filter (fun e => decide (e.1 ≠ k)) _ h)
        refine ⟨List.pairwise_cons.mpr ⟨fun e he => ?_, hf.1⟩, ?_⟩
        · have hm := List.mem_of_mem_filter he
          have hne : e.1 ≠ k := by simpa using (List.mem_filter.mp he).2
          rcases List.mem_cons.mp hm with hm | hm
          · simp only [hm] at hne ⊢; omega
          · have := (List.pairwise_cons.mp hp.1).1 e hm
            simp only at this ⊢; omega
        · intro e he
          rcases List.mem_cons.mp he with he | he
          · simpa [he] using hv
          · exact hf.2 e he

omit [DecidableEq α] in
/-- A key that no entry names reads as the default. -/
theorem sparseGet_of_not_mem (m : Sparse α) (k : Nat) (h : ∀ e ∈ m, e.1 ≠ k) : sparseGet d m k = d k := by
  induction m with
  | nil => rfl
  | cons a t ih =>
    obtain ⟨k', v'⟩ := a
    simp only [sparseGet]
    rw [if_neg (h (k', v') (by simp)), ih (fun e he => h e (List.mem_cons_of_mem _ he))]

omit [DecidableEq α] in
/-- Entries of key `j` taken out change no other key. -/
theorem sparseGet_filter_ne (m : Sparse α) (j k : Nat) (h : k ≠ j) :
    sparseGet d (m.filter (fun e => decide (e.1 ≠ j))) k = sparseGet d m k := by
  induction m with
  | nil => rfl
  | cons a t ih =>
    obtain ⟨k', v'⟩ := a
    by_cases hk : k' = j
    · subst hk
      simp only [sparseGet, List.filter_cons, ne_eq, not_true_eq_false, decide_false, Bool.false_eq_true, if_false]
      rw [if_neg (Ne.symm h)]; exact ih
    · simp only [sparseGet, List.filter_cons, ne_eq, hk, not_false_eq_true, decide_true, if_true]
      split
      · rfl
      · exact ih

/-- A read of the key just written gives the value written. -/
@[simp] theorem sparseGet_set_same (m : Sparse α) (k : Nat) (v : α) : sparseGet d (sparseSet d m k v) k = v := by
  induction m with
  | nil =>
    simp only [sparseSet]
    split
    · rename_i h; simpa [sparseGet] using h.symm
    · simp [sparseGet]
  | cons a t ih =>
    obtain ⟨k', v'⟩ := a
    simp only [sparseSet]
    split
    · rename_i h
      simp only [sparseGet]
      rw [if_neg (by omega)]; exact ih
    · split
      · rename_i h
        rw [sparseGet_of_not_mem _ _ (fun e he => by simpa using (List.mem_filter.mp he).2)]; exact h.symm
      · simp [sparseGet]

/-- A write leaves every other key as it was. -/
theorem sparseGet_set_other (m : Sparse α) (j k : Nat) (v : α) (h : k ≠ j) :
    sparseGet d (sparseSet d m j v) k = sparseGet d m k := by
  induction m with
  | nil =>
    simp only [sparseSet]
    split
    · rfl
    · simp [sparseGet, Ne.symm h]
  | cons a t ih =>
    obtain ⟨k', v'⟩ := a
    simp only [sparseSet]
    split
    · simp only [sparseGet]
      split
      · rfl
      · exact ih
    · split
      · exact sparseGet_filter_ne _ _ _ h
      · rw [sparseGet, if_neg (Ne.symm h)]; exact sparseGet_filter_ne _ _ _ h

/-- What a write leaves at any key. -/
theorem sparseGet_set (m : Sparse α) (j k : Nat) (v : α) :
    sparseGet d (sparseSet d m j v) k = if k = j then v else sparseGet d m k := by
  split
  · rename_i h; subst h; exact sparseGet_set_same m k v
  · rename_i h; exact sparseGet_set_other m j k v h

end Sys2Proof.Machine
end

