-- ==== Sys2Proof/Laws/State.lean ====
section
/-!
SUPPORT. Sys2Proof/Laws/State.lean: what each named update of the state leaves as it was: one lemma for every field
and every update, so that no later proof unfolds a record update.
-/

namespace Sys2Proof.Machine

variable (s : State)

@[simp] theorem State.wr_pending (a : Nat) (v : Word) : (s.wr a v).pending = s.pending := rfl
@[simp] theorem State.wr_free (a : Nat) (v : Word) : (s.wr a v).free = s.free := rfl
@[simp] theorem State.wr_live (a : Nat) (v : Word) : (s.wr a v).live = s.live := rfl
@[simp] theorem State.wr_whistleHost (a : Nat) (v : Word) : (s.wr a v).whistleHost = s.whistleHost := rfl
@[simp] theorem State.wr_bus (a : Nat) (v : Word) : (s.wr a v).bus = s.bus := rfl
@[simp] theorem State.wr_seqs (a : Nat) (v : Word) : (s.wr a v).seqs = s.seqs := rfl
@[simp] theorem State.wr_wt (a : Nat) (v : Word) : (s.wr a v).wt = s.wt := rfl
@[simp] theorem State.wr_net (a : Nat) (v : Word) : (s.wr a v).net = s.net := rfl
@[simp] theorem State.wr_pins (a : Nat) (v : Word) : (s.wr a v).pins = s.pins := rfl
@[simp] theorem State.wr_round (a : Nat) (v : Word) : (s.wr a v).round = s.round := rfl
@[simp] theorem State.wr_scan (a : Nat) (v : Word) : (s.wr a v).scan = s.scan := rfl
@[simp] theorem State.wr_emw (a : Nat) (v : Word) : (s.wr a v).emw = s.emw := rfl
@[simp] theorem State.wr_tpl (a : Nat) (v : Word) : (s.wr a v).tpl = s.tpl := rfl
@[simp] theorem State.wr_kennel (a : Nat) (v : Word) : (s.wr a v).kennel = s.kennel := rfl
@[simp] theorem State.wr_bist (a : Nat) (v : Word) : (s.wr a v).bist = s.bist := rfl
@[simp] theorem State.wr_frame (a : Nat) (v : Word) : (s.wr a v).frame = s.frame := rfl
@[simp] theorem State.wr_dram (a : Nat) (v : Word) : (s.wr a v).dram = s.dram := rfl
@[simp] theorem State.wr_geo (a : Nat) (v : Word) : (s.wr a v).geo = s.geo := rfl
@[simp] theorem State.wr_sess (a : Nat) (v : Word) : (s.wr a v).sess = s.sess := rfl
@[simp] theorem State.wr_rot (a : Nat) (v : Word) : (s.wr a v).rot = s.rot := rfl
@[simp] theorem State.wr_board (a : Nat) (v : Word) : (s.wr a v).board = s.board := rfl
@[simp] theorem State.wr_ing (a : Nat) (v : Word) : (s.wr a v).ing = s.ing := rfl
@[simp] theorem State.wr_nbr (a : Nat) (v : Word) : (s.wr a v).nbr = s.nbr := rfl
@[simp] theorem State.wr_dfl (a : Nat) (v : Word) : (s.wr a v).dfl = s.dfl := rfl
@[simp] theorem State.wr_power (a : Nat) (v : Word) : (s.wr a v).power = s.power := rfl
@[simp] theorem State.wr_syn (a : Nat) (v : Word) : (s.wr a v).syn = s.syn := rfl
@[simp] theorem State.wr_cmp (a : Nat) (v : Word) : (s.wr a v).cmp = s.cmp := rfl
@[simp] theorem State.wr_map (a : Nat) (v : Word) : (s.wr a v).map = s.map := rfl
@[simp] theorem State.wr_blt (a : Nat) (v : Word) : (s.wr a v).blt = s.blt := rfl
@[simp] theorem State.wr_wild (a : Nat) (v : Word) : (s.wr a v).wild = s.wild := rfl
@[simp] theorem State.wr_cam (a : Nat) (v : Word) : (s.wr a v).cam = s.cam := rfl
@[simp] theorem State.wr_rxScan (a : Nat) (v : Word) : (s.wr a v).rxScan = s.rxScan := rfl
@[simp] theorem State.wr_tap (a : Nat) (v : Word) : (s.wr a v).tap = s.tap := rfl

@[simp] theorem State.put_pending (f : Fld) (v : Nat) : (s.put f v).pending = s.pending := rfl
@[simp] theorem State.put_free (f : Fld) (v : Nat) : (s.put f v).free = s.free := rfl
@[simp] theorem State.put_live (f : Fld) (v : Nat) : (s.put f v).live = s.live := rfl
@[simp] theorem State.put_whistleHost (f : Fld) (v : Nat) : (s.put f v).whistleHost = s.whistleHost := rfl
@[simp] theorem State.put_bus (f : Fld) (v : Nat) : (s.put f v).bus = s.bus := rfl
@[simp] theorem State.put_seqs (f : Fld) (v : Nat) : (s.put f v).seqs = s.seqs := rfl
@[simp] theorem State.put_wt (f : Fld) (v : Nat) : (s.put f v).wt = s.wt := rfl
@[simp] theorem State.put_net (f : Fld) (v : Nat) : (s.put f v).net = s.net := rfl
@[simp] theorem State.put_pins (f : Fld) (v : Nat) : (s.put f v).pins = s.pins := rfl
@[simp] theorem State.put_round (f : Fld) (v : Nat) : (s.put f v).round = s.round := rfl
@[simp] theorem State.put_scan (f : Fld) (v : Nat) : (s.put f v).scan = s.scan := rfl
@[simp] theorem State.put_emw (f : Fld) (v : Nat) : (s.put f v).emw = s.emw := rfl
@[simp] theorem State.put_tpl (f : Fld) (v : Nat) : (s.put f v).tpl = s.tpl := rfl
@[simp] theorem State.put_kennel (f : Fld) (v : Nat) : (s.put f v).kennel = s.kennel := rfl
@[simp] theorem State.put_bist (f : Fld) (v : Nat) : (s.put f v).bist = s.bist := rfl
@[simp] theorem State.put_frame (f : Fld) (v : Nat) : (s.put f v).frame = s.frame := rfl
@[simp] theorem State.put_dram (f : Fld) (v : Nat) : (s.put f v).dram = s.dram := rfl
@[simp] theorem State.put_geo (f : Fld) (v : Nat) : (s.put f v).geo = s.geo := rfl
@[simp] theorem State.put_sess (f : Fld) (v : Nat) : (s.put f v).sess = s.sess := rfl
@[simp] theorem State.put_rot (f : Fld) (v : Nat) : (s.put f v).rot = s.rot := rfl
@[simp] theorem State.put_board (f : Fld) (v : Nat) : (s.put f v).board = s.board := rfl
@[simp] theorem State.put_ing (f : Fld) (v : Nat) : (s.put f v).ing = s.ing := rfl
@[simp] theorem State.put_nbr (f : Fld) (v : Nat) : (s.put f v).nbr = s.nbr := rfl
@[simp] theorem State.put_dfl (f : Fld) (v : Nat) : (s.put f v).dfl = s.dfl := rfl
@[simp] theorem State.put_power (f : Fld) (v : Nat) : (s.put f v).power = s.power := rfl
@[simp] theorem State.put_syn (f : Fld) (v : Nat) : (s.put f v).syn = s.syn := rfl
@[simp] theorem State.put_cmp (f : Fld) (v : Nat) : (s.put f v).cmp = s.cmp := rfl
@[simp] theorem State.put_map (f : Fld) (v : Nat) : (s.put f v).map = s.map := rfl
@[simp] theorem State.put_blt (f : Fld) (v : Nat) : (s.put f v).blt = s.blt := rfl
@[simp] theorem State.put_wild (f : Fld) (v : Nat) : (s.put f v).wild = s.wild := rfl
@[simp] theorem State.put_cam (f : Fld) (v : Nat) : (s.put f v).cam = s.cam := rfl
@[simp] theorem State.put_rxScan (f : Fld) (v : Nat) : (s.put f v).rxScan = s.rxScan := rfl
@[simp] theorem State.put_tap (f : Fld) (v : Nat) : (s.put f v).tap = s.tap := rfl

@[simp] theorem State.noteHit_pending (f : Fld) : (s.noteHit f).pending = s.pending := rfl
@[simp] theorem State.noteHit_free (f : Fld) : (s.noteHit f).free = s.free := rfl
@[simp] theorem State.noteHit_regs (f : Fld) : (s.noteHit f).regs = s.regs := rfl
@[simp] theorem State.noteHit_live (f : Fld) : (s.noteHit f).live = s.live := rfl
@[simp] theorem State.noteHit_whistleHost (f : Fld) : (s.noteHit f).whistleHost = s.whistleHost := rfl
@[simp] theorem State.noteHit_seqs (f : Fld) : (s.noteHit f).seqs = s.seqs := rfl
@[simp] theorem State.noteHit_wt (f : Fld) : (s.noteHit f).wt = s.wt := rfl
@[simp] theorem State.noteHit_net (f : Fld) : (s.noteHit f).net = s.net := rfl
@[simp] theorem State.noteHit_pins (f : Fld) : (s.noteHit f).pins = s.pins := rfl
@[simp] theorem State.noteHit_round (f : Fld) : (s.noteHit f).round = s.round := rfl
@[simp] theorem State.noteHit_scan (f : Fld) : (s.noteHit f).scan = s.scan := rfl
@[simp] theorem State.noteHit_emw (f : Fld) : (s.noteHit f).emw = s.emw := rfl
@[simp] theorem State.noteHit_tpl (f : Fld) : (s.noteHit f).tpl = s.tpl := rfl
@[simp] theorem State.noteHit_kennel (f : Fld) : (s.noteHit f).kennel = s.kennel := rfl
@[simp] theorem State.noteHit_bist (f : Fld) : (s.noteHit f).bist = s.bist := rfl
@[simp] theorem State.noteHit_frame (f : Fld) : (s.noteHit f).frame = s.frame := rfl
@[simp] theorem State.noteHit_dram (f : Fld) : (s.noteHit f).dram = s.dram := rfl
@[simp] theorem State.noteHit_geo (f : Fld) : (s.noteHit f).geo = s.geo := rfl
@[simp] theorem State.noteHit_sess (f : Fld) : (s.noteHit f).sess = s.sess := rfl
@[simp] theorem State.noteHit_rot (f : Fld) : (s.noteHit f).rot = s.rot := rfl
@[simp] theorem State.noteHit_board (f : Fld) : (s.noteHit f).board = s.board := rfl
@[simp] theorem State.noteHit_ing (f : Fld) : (s.noteHit f).ing = s.ing := rfl
@[simp] theorem State.noteHit_nbr (f : Fld) : (s.noteHit f).nbr = s.nbr := rfl
@[simp] theorem State.noteHit_dfl (f : Fld) : (s.noteHit f).dfl = s.dfl := rfl
@[simp] theorem State.noteHit_power (f : Fld) : (s.noteHit f).power = s.power := rfl
@[simp] theorem State.noteHit_syn (f : Fld) : (s.noteHit f).syn = s.syn := rfl
@[simp] theorem State.noteHit_cmp (f : Fld) : (s.noteHit f).cmp = s.cmp := rfl
@[simp] theorem State.noteHit_map (f : Fld) : (s.noteHit f).map = s.map := rfl
@[simp] theorem State.noteHit_blt (f : Fld) : (s.noteHit f).blt = s.blt := rfl
@[simp] theorem State.noteHit_wild (f : Fld) : (s.noteHit f).wild = s.wild := rfl
@[simp] theorem State.noteHit_cam (f : Fld) : (s.noteHit f).cam = s.cam := rfl
@[simp] theorem State.noteHit_rxScan (f : Fld) : (s.noteHit f).rxScan = s.rxScan := rfl
@[simp] theorem State.noteHit_tap (f : Fld) : (s.noteHit f).tap = s.tap := rfl

@[simp] theorem State.set_pending (f : Fld) : (s.set f).pending = s.pending := rfl
@[simp] theorem State.set_free (f : Fld) : (s.set f).free = s.free := rfl
@[simp] theorem State.set_live (f : Fld) : (s.set f).live = s.live := rfl
@[simp] theorem State.set_whistleHost (f : Fld) : (s.set f).whistleHost = s.whistleHost := rfl
@[simp] theorem State.set_seqs (f : Fld) : (s.set f).seqs = s.seqs := rfl
@[simp] theorem State.set_wt (f : Fld) : (s.set f).wt = s.wt := rfl
@[simp] theorem State.set_net (f : Fld) : (s.set f).net = s.net := rfl
@[simp] theorem State.set_pins (f : Fld) : (s.set f).pins = s.pins := rfl
@[simp] theorem State.set_round (f : Fld) : (s.set f).round = s.round := rfl
@[simp] theorem State.set_scan (f : Fld) : (s.set f).scan = s.scan := rfl
@[simp] theorem State.set_emw (f : Fld) : (s.set f).emw = s.emw := rfl
@[simp] theorem State.set_tpl (f : Fld) : (s.set f).tpl = s.tpl := rfl
@[simp] theorem State.set_kennel (f : Fld) : (s.set f).kennel = s.kennel := rfl
@[simp] theorem State.set_bist (f : Fld) : (s.set f).bist = s.bist := rfl
@[simp] theorem State.set_frame (f : Fld) : (s.set f).frame = s.frame := rfl
@[simp] theorem State.set_dram (f : Fld) : (s.set f).dram = s.dram := rfl
@[simp] theorem State.set_geo (f : Fld) : (s.set f).geo = s.geo := rfl
@[simp] theorem State.set_sess (f : Fld) : (s.set f).sess = s.sess := rfl
@[simp] theorem State.set_rot (f : Fld) : (s.set f).rot = s.rot := rfl
@[simp] theorem State.set_board (f : Fld) : (s.set f).board = s.board := rfl
@[simp] theorem State.set_ing (f : Fld) : (s.set f).ing = s.ing := rfl
@[simp] theorem State.set_nbr (f : Fld) : (s.set f).nbr = s.nbr := rfl
@[simp] theorem State.set_dfl (f : Fld) : (s.set f).dfl = s.dfl := rfl
@[simp] theorem State.set_power (f : Fld) : (s.set f).power = s.power := rfl
@[simp] theorem State.set_syn (f : Fld) : (s.set f).syn = s.syn := rfl
@[simp] theorem State.set_cmp (f : Fld) : (s.set f).cmp = s.cmp := rfl
@[simp] theorem State.set_map (f : Fld) : (s.set f).map = s.map := rfl
@[simp] theorem State.set_blt (f : Fld) : (s.set f).blt = s.blt := rfl
@[simp] theorem State.set_wild (f : Fld) : (s.set f).wild = s.wild := rfl
@[simp] theorem State.set_cam (f : Fld) : (s.set f).cam = s.cam := rfl
@[simp] theorem State.set_rxScan (f : Fld) : (s.set f).rxScan = s.rxScan := rfl
@[simp] theorem State.set_tap (f : Fld) : (s.set f).tap = s.tap := rfl

@[simp] theorem State.setBit_pending (f : Fld) (o : Nat) : (s.setBit f o).pending = s.pending := rfl
@[simp] theorem State.setBit_free (f : Fld) (o : Nat) : (s.setBit f o).free = s.free := rfl
@[simp] theorem State.setBit_live (f : Fld) (o : Nat) : (s.setBit f o).live = s.live := rfl
@[simp] theorem State.setBit_whistleHost (f : Fld) (o : Nat) : (s.setBit f o).whistleHost = s.whistleHost := rfl
@[simp] theorem State.setBit_seqs (f : Fld) (o : Nat) : (s.setBit f o).seqs = s.seqs := rfl
@[simp] theorem State.setBit_wt (f : Fld) (o : Nat) : (s.setBit f o).wt = s.wt := rfl
@[simp] theorem State.setBit_net (f : Fld) (o : Nat) : (s.setBit f o).net = s.net := rfl
@[simp] theorem State.setBit_pins (f : Fld) (o : Nat) : (s.setBit f o).pins = s.pins := rfl
@[simp] theorem State.setBit_round (f : Fld) (o : Nat) : (s.setBit f o).round = s.round := rfl
@[simp] theorem State.setBit_scan (f : Fld) (o : Nat) : (s.setBit f o).scan = s.scan := rfl
@[simp] theorem State.setBit_emw (f : Fld) (o : Nat) : (s.setBit f o).emw = s.emw := rfl
@[simp] theorem State.setBit_tpl (f : Fld) (o : Nat) : (s.setBit f o).tpl = s.tpl := rfl
@[simp] theorem State.setBit_kennel (f : Fld) (o : Nat) : (s.setBit f o).kennel = s.kennel := rfl
@[simp] theorem State.setBit_bist (f : Fld) (o : Nat) : (s.setBit f o).bist = s.bist := rfl
@[simp] theorem State.setBit_frame (f : Fld) (o : Nat) : (s.setBit f o).frame = s.frame := rfl
@[simp] theorem State.setBit_dram (f : Fld) (o : Nat) : (s.setBit f o).dram = s.dram := rfl
@[simp] theorem State.setBit_geo (f : Fld) (o : Nat) : (s.setBit f o).geo = s.geo := rfl
@[simp] theorem State.setBit_sess (f : Fld) (o : Nat) : (s.setBit f o).sess = s.sess := rfl
@[simp] theorem State.setBit_rot (f : Fld) (o : Nat) : (s.setBit f o).rot = s.rot := rfl
@[simp] theorem State.setBit_board (f : Fld) (o : Nat) : (s.setBit f o).board = s.board := rfl
@[simp] theorem State.setBit_ing (f : Fld) (o : Nat) : (s.setBit f o).ing = s.ing := rfl
@[simp] theorem State.setBit_nbr (f : Fld) (o : Nat) : (s.setBit f o).nbr = s.nbr := rfl
@[simp] theorem State.setBit_dfl (f : Fld) (o : Nat) : (s.setBit f o).dfl = s.dfl := rfl
@[simp] theorem State.setBit_power (f : Fld) (o : Nat) : (s.setBit f o).power = s.power := rfl
@[simp] theorem State.setBit_syn (f : Fld) (o : Nat) : (s.setBit f o).syn = s.syn := rfl
@[simp] theorem State.setBit_cmp (f : Fld) (o : Nat) : (s.setBit f o).cmp = s.cmp := rfl
@[simp] theorem State.setBit_map (f : Fld) (o : Nat) : (s.setBit f o).map = s.map := rfl
@[simp] theorem State.setBit_blt (f : Fld) (o : Nat) : (s.setBit f o).blt = s.blt := rfl
@[simp] theorem State.setBit_wild (f : Fld) (o : Nat) : (s.setBit f o).wild = s.wild := rfl
@[simp] theorem State.setBit_cam (f : Fld) (o : Nat) : (s.setBit f o).cam = s.cam := rfl
@[simp] theorem State.setBit_rxScan (f : Fld) (o : Nat) : (s.setBit f o).rxScan = s.rxScan := rfl
@[simp] theorem State.setBit_tap (f : Fld) (o : Nat) : (s.setBit f o).tap = s.tap := rfl

@[simp] theorem State.clr_pending (f : Fld) : (s.clr f).pending = s.pending := rfl
@[simp] theorem State.clr_free (f : Fld) : (s.clr f).free = s.free := rfl
@[simp] theorem State.clr_live (f : Fld) : (s.clr f).live = s.live := rfl
@[simp] theorem State.clr_whistleHost (f : Fld) : (s.clr f).whistleHost = s.whistleHost := rfl
@[simp] theorem State.clr_bus (f : Fld) : (s.clr f).bus = s.bus := rfl
@[simp] theorem State.clr_seqs (f : Fld) : (s.clr f).seqs = s.seqs := rfl
@[simp] theorem State.clr_wt (f : Fld) : (s.clr f).wt = s.wt := rfl
@[simp] theorem State.clr_net (f : Fld) : (s.clr f).net = s.net := rfl
@[simp] theorem State.clr_pins (f : Fld) : (s.clr f).pins = s.pins := rfl
@[simp] theorem State.clr_round (f : Fld) : (s.clr f).round = s.round := rfl
@[simp] theorem State.clr_scan (f : Fld) : (s.clr f).scan = s.scan := rfl
@[simp] theorem State.clr_emw (f : Fld) : (s.clr f).emw = s.emw := rfl
@[simp] theorem State.clr_tpl (f : Fld) : (s.clr f).tpl = s.tpl := rfl
@[simp] theorem State.clr_kennel (f : Fld) : (s.clr f).kennel = s.kennel := rfl
@[simp] theorem State.clr_bist (f : Fld) : (s.clr f).bist = s.bist := rfl
@[simp] theorem State.clr_frame (f : Fld) : (s.clr f).frame = s.frame := rfl
@[simp] theorem State.clr_dram (f : Fld) : (s.clr f).dram = s.dram := rfl
@[simp] theorem State.clr_geo (f : Fld) : (s.clr f).geo = s.geo := rfl
@[simp] theorem State.clr_sess (f : Fld) : (s.clr f).sess = s.sess := rfl
@[simp] theorem State.clr_rot (f : Fld) : (s.clr f).rot = s.rot := rfl
@[simp] theorem State.clr_board (f : Fld) : (s.clr f).board = s.board := rfl
@[simp] theorem State.clr_ing (f : Fld) : (s.clr f).ing = s.ing := rfl
@[simp] theorem State.clr_nbr (f : Fld) : (s.clr f).nbr = s.nbr := rfl
@[simp] theorem State.clr_dfl (f : Fld) : (s.clr f).dfl = s.dfl := rfl
@[simp] theorem State.clr_power (f : Fld) : (s.clr f).power = s.power := rfl
@[simp] theorem State.clr_syn (f : Fld) : (s.clr f).syn = s.syn := rfl
@[simp] theorem State.clr_cmp (f : Fld) : (s.clr f).cmp = s.cmp := rfl
@[simp] theorem State.clr_map (f : Fld) : (s.clr f).map = s.map := rfl
@[simp] theorem State.clr_blt (f : Fld) : (s.clr f).blt = s.blt := rfl
@[simp] theorem State.clr_wild (f : Fld) : (s.clr f).wild = s.wild := rfl
@[simp] theorem State.clr_cam (f : Fld) : (s.clr f).cam = s.cam := rfl
@[simp] theorem State.clr_rxScan (f : Fld) : (s.clr f).rxScan = s.rxScan := rfl
@[simp] theorem State.clr_tap (f : Fld) : (s.clr f).tap = s.tap := rfl

@[simp] theorem State.wipe_pending (f : Fld) : (s.wipe f).pending = s.pending := by unfold State.wipe; split <;> rfl
@[simp] theorem State.wipe_free (f : Fld) : (s.wipe f).free = s.free := by unfold State.wipe; split <;> rfl
@[simp] theorem State.wipe_live (f : Fld) : (s.wipe f).live = s.live := by unfold State.wipe; split <;> rfl
@[simp] theorem State.wipe_whistleHost (f : Fld) : (s.wipe f).whistleHost = s.whistleHost := by unfold State.wipe; split <;> rfl
@[simp] theorem State.wipe_bus (f : Fld) : (s.wipe f).bus = s.bus := by unfold State.wipe; split <;> rfl
@[simp] theorem State.wipe_seqs (f : Fld) : (s.wipe f).seqs = s.seqs := by unfold State.wipe; split <;> rfl
@[simp] theorem State.wipe_wt (f : Fld) : (s.wipe f).wt = s.wt := by unfold State.wipe; split <;> rfl
@[simp] theorem State.wipe_net (f : Fld) : (s.wipe f).net = s.net := by unfold State.wipe; split <;> rfl
@[simp] theorem State.wipe_pins (f : Fld) : (s.wipe f).pins = s.pins := by unfold State.wipe; split <;> rfl
@[simp] theorem State.wipe_round (f : Fld) : (s.wipe f).round = s.round := by unfold State.wipe; split <;> rfl
@[simp] theorem State.wipe_scan (f : Fld) : (s.wipe f).scan = s.scan := by unfold State.wipe; split <;> rfl
@[simp] theorem State.wipe_emw (f : Fld) : (s.wipe f).emw = s.emw := by unfold State.wipe; split <;> rfl
@[simp] theorem State.wipe_tpl (f : Fld) : (s.wipe f).tpl = s.tpl := by unfold State.wipe; split <;> rfl
@[simp] theorem State.wipe_kennel (f : Fld) : (s.wipe f).kennel = s.kennel := by unfold State.wipe; split <;> rfl
@[simp] theorem State.wipe_bist (f : Fld) : (s.wipe f).bist = s.bist := by unfold State.wipe; split <;> rfl
@[simp] theorem State.wipe_frame (f : Fld) : (s.wipe f).frame = s.frame := by unfold State.wipe; split <;> rfl
@[simp] theorem State.wipe_dram (f : Fld) : (s.wipe f).dram = s.dram := by unfold State.wipe; split <;> rfl
@[simp] theorem State.wipe_geo (f : Fld) : (s.wipe f).geo = s.geo := by unfold State.wipe; split <;> rfl
@[simp] theorem State.wipe_sess (f : Fld) : (s.wipe f).sess = s.sess := by unfold State.wipe; split <;> rfl
@[simp] theorem State.wipe_rot (f : Fld) : (s.wipe f).rot = s.rot := by unfold State.wipe; split <;> rfl
@[simp] theorem State.wipe_board (f : Fld) : (s.wipe f).board = s.board := by unfold State.wipe; split <;> rfl
@[simp] theorem State.wipe_ing (f : Fld) : (s.wipe f).ing = s.ing := by unfold State.wipe; split <;> rfl
@[simp] theorem State.wipe_nbr (f : Fld) : (s.wipe f).nbr = s.nbr := by unfold State.wipe; split <;> rfl
@[simp] theorem State.wipe_dfl (f : Fld) : (s.wipe f).dfl = s.dfl := by unfold State.wipe; split <;> rfl
@[simp] theorem State.wipe_power (f : Fld) : (s.wipe f).power = s.power := by unfold State.wipe; split <;> rfl
@[simp] theorem State.wipe_syn (f : Fld) : (s.wipe f).syn = s.syn := by unfold State.wipe; split <;> rfl
@[simp] theorem State.wipe_cmp (f : Fld) : (s.wipe f).cmp = s.cmp := by unfold State.wipe; split <;> rfl
@[simp] theorem State.wipe_map (f : Fld) : (s.wipe f).map = s.map := by unfold State.wipe; split <;> rfl
@[simp] theorem State.wipe_blt (f : Fld) : (s.wipe f).blt = s.blt := by unfold State.wipe; split <;> rfl
@[simp] theorem State.wipe_wild (f : Fld) : (s.wipe f).wild = s.wild := by unfold State.wipe; split <;> rfl
@[simp] theorem State.wipe_cam (f : Fld) : (s.wipe f).cam = s.cam := by unfold State.wipe; split <;> rfl
@[simp] theorem State.wipe_rxScan (f : Fld) : (s.wipe f).rxScan = s.rxScan := by unfold State.wipe; split <;> rfl
@[simp] theorem State.wipe_tap (f : Fld) : (s.wipe f).tap = s.tap := by unfold State.wipe; split <;> rfl

@[simp] theorem State.setIf_pending (b : Bool) (f : Fld) : (s.setIf b f).pending = s.pending := by cases b <;> rfl
@[simp] theorem State.setIf_free (b : Bool) (f : Fld) : (s.setIf b f).free = s.free := by cases b <;> rfl
@[simp] theorem State.setIf_live (b : Bool) (f : Fld) : (s.setIf b f).live = s.live := by cases b <;> rfl
@[simp] theorem State.setIf_whistleHost (b : Bool) (f : Fld) : (s.setIf b f).whistleHost = s.whistleHost := by cases b <;> rfl
@[simp] theorem State.setIf_seqs (b : Bool) (f : Fld) : (s.setIf b f).seqs = s.seqs := by cases b <;> rfl
@[simp] theorem State.setIf_wt (b : Bool) (f : Fld) : (s.setIf b f).wt = s.wt := by cases b <;> rfl
@[simp] theorem State.setIf_net (b : Bool) (f : Fld) : (s.setIf b f).net = s.net := by cases b <;> rfl
@[simp] theorem State.setIf_pins (b : Bool) (f : Fld) : (s.setIf b f).pins = s.pins := by cases b <;> rfl
@[simp] theorem State.setIf_round (b : Bool) (f : Fld) : (s.setIf b f).round = s.round := by cases b <;> rfl
@[simp] theorem State.setIf_scan (b : Bool) (f : Fld) : (s.setIf b f).scan = s.scan := by cases b <;> rfl
@[simp] theorem State.setIf_emw (b : Bool) (f : Fld) : (s.setIf b f).emw = s.emw := by cases b <;> rfl
@[simp] theorem State.setIf_tpl (b : Bool) (f : Fld) : (s.setIf b f).tpl = s.tpl := by cases b <;> rfl
@[simp] theorem State.setIf_kennel (b : Bool) (f : Fld) : (s.setIf b f).kennel = s.kennel := by cases b <;> rfl
@[simp] theorem State.setIf_bist (b : Bool) (f : Fld) : (s.setIf b f).bist = s.bist := by cases b <;> rfl
@[simp] theorem State.setIf_frame (b : Bool) (f : Fld) : (s.setIf b f).frame = s.frame := by cases b <;> rfl
@[simp] theorem State.setIf_dram (b : Bool) (f : Fld) : (s.setIf b f).dram = s.dram := by cases b <;> rfl
@[simp] theorem State.setIf_geo (b : Bool) (f : Fld) : (s.setIf b f).geo = s.geo := by cases b <;> rfl
@[simp] theorem State.setIf_sess (b : Bool) (f : Fld) : (s.setIf b f).sess = s.sess := by cases b <;> rfl
@[simp] theorem State.setIf_rot (b : Bool) (f : Fld) : (s.setIf b f).rot = s.rot := by cases b <;> rfl
@[simp] theorem State.setIf_board (b : Bool) (f : Fld) : (s.setIf b f).board = s.board := by cases b <;> rfl
@[simp] theorem State.setIf_ing (b : Bool) (f : Fld) : (s.setIf b f).ing = s.ing := by cases b <;> rfl
@[simp] theorem State.setIf_nbr (b : Bool) (f : Fld) : (s.setIf b f).nbr = s.nbr := by cases b <;> rfl
@[simp] theorem State.setIf_dfl (b : Bool) (f : Fld) : (s.setIf b f).dfl = s.dfl := by cases b <;> rfl
@[simp] theorem State.setIf_power (b : Bool) (f : Fld) : (s.setIf b f).power = s.power := by cases b <;> rfl
@[simp] theorem State.setIf_syn (b : Bool) (f : Fld) : (s.setIf b f).syn = s.syn := by cases b <;> rfl
@[simp] theorem State.setIf_cmp (b : Bool) (f : Fld) : (s.setIf b f).cmp = s.cmp := by cases b <;> rfl
@[simp] theorem State.setIf_map (b : Bool) (f : Fld) : (s.setIf b f).map = s.map := by cases b <;> rfl
@[simp] theorem State.setIf_blt (b : Bool) (f : Fld) : (s.setIf b f).blt = s.blt := by cases b <;> rfl
@[simp] theorem State.setIf_wild (b : Bool) (f : Fld) : (s.setIf b f).wild = s.wild := by cases b <;> rfl
@[simp] theorem State.setIf_cam (b : Bool) (f : Fld) : (s.setIf b f).cam = s.cam := by cases b <;> rfl
@[simp] theorem State.setIf_rxScan (b : Bool) (f : Fld) : (s.setIf b f).rxScan = s.rxScan := by cases b <;> rfl
@[simp] theorem State.setIf_tap (b : Bool) (f : Fld) : (s.setIf b f).tap = s.tap := by cases b <;> rfl

@[simp] theorem State.count_pending (f : Fld) : (s.count f).pending = s.pending := rfl
@[simp] theorem State.count_free (f : Fld) : (s.count f).free = s.free := rfl
@[simp] theorem State.count_live (f : Fld) : (s.count f).live = s.live := rfl
@[simp] theorem State.count_whistleHost (f : Fld) : (s.count f).whistleHost = s.whistleHost := rfl
@[simp] theorem State.count_seqs (f : Fld) : (s.count f).seqs = s.seqs := rfl
@[simp] theorem State.count_wt (f : Fld) : (s.count f).wt = s.wt := rfl
@[simp] theorem State.count_net (f : Fld) : (s.count f).net = s.net := rfl
@[simp] theorem State.count_pins (f : Fld) : (s.count f).pins = s.pins := rfl
@[simp] theorem State.count_round (f : Fld) : (s.count f).round = s.round := rfl
@[simp] theorem State.count_scan (f : Fld) : (s.count f).scan = s.scan := rfl
@[simp] theorem State.count_emw (f : Fld) : (s.count f).emw = s.emw := rfl
@[simp] theorem State.count_tpl (f : Fld) : (s.count f).tpl = s.tpl := rfl
@[simp] theorem State.count_kennel (f : Fld) : (s.count f).kennel = s.kennel := rfl
@[simp] theorem State.count_bist (f : Fld) : (s.count f).bist = s.bist := rfl
@[simp] theorem State.count_frame (f : Fld) : (s.count f).frame = s.frame := rfl
@[simp] theorem State.count_dram (f : Fld) : (s.count f).dram = s.dram := rfl
@[simp] theorem State.count_geo (f : Fld) : (s.count f).geo = s.geo := rfl
@[simp] theorem State.count_sess (f : Fld) : (s.count f).sess = s.sess := rfl
@[simp] theorem State.count_rot (f : Fld) : (s.count f).rot = s.rot := rfl
@[simp] theorem State.count_board (f : Fld) : (s.count f).board = s.board := rfl
@[simp] theorem State.count_ing (f : Fld) : (s.count f).ing = s.ing := rfl
@[simp] theorem State.count_nbr (f : Fld) : (s.count f).nbr = s.nbr := rfl
@[simp] theorem State.count_dfl (f : Fld) : (s.count f).dfl = s.dfl := rfl
@[simp] theorem State.count_power (f : Fld) : (s.count f).power = s.power := rfl
@[simp] theorem State.count_syn (f : Fld) : (s.count f).syn = s.syn := rfl
@[simp] theorem State.count_cmp (f : Fld) : (s.count f).cmp = s.cmp := rfl
@[simp] theorem State.count_map (f : Fld) : (s.count f).map = s.map := rfl
@[simp] theorem State.count_blt (f : Fld) : (s.count f).blt = s.blt := rfl
@[simp] theorem State.count_wild (f : Fld) : (s.count f).wild = s.wild := rfl
@[simp] theorem State.count_cam (f : Fld) : (s.count f).cam = s.cam := rfl
@[simp] theorem State.count_rxScan (f : Fld) : (s.count f).rxScan = s.rxScan := rfl
@[simp] theorem State.count_tap (f : Fld) : (s.count f).tap = s.tap := rfl

@[simp] theorem State.uncount_pending (f : Fld) (n : Nat) : (s.uncount f n).pending = s.pending := by unfold State.uncount; split <;> rfl
@[simp] theorem State.uncount_free (f : Fld) (n : Nat) : (s.uncount f n).free = s.free := by unfold State.uncount; split <;> rfl
@[simp] theorem State.uncount_live (f : Fld) (n : Nat) : (s.uncount f n).live = s.live := by unfold State.uncount; split <;> rfl
@[simp] theorem State.uncount_whistleHost (f : Fld) (n : Nat) : (s.uncount f n).whistleHost = s.whistleHost := by unfold State.uncount; split <;> rfl
@[simp] theorem State.uncount_seqs (f : Fld) (n : Nat) : (s.uncount f n).seqs = s.seqs := by unfold State.uncount; split <;> rfl
@[simp] theorem State.uncount_wt (f : Fld) (n : Nat) : (s.uncount f n).wt = s.wt := by unfold State.uncount; split <;> rfl
@[simp] theorem State.uncount_net (f : Fld) (n : Nat) : (s.uncount f n).net = s.net := by unfold State.uncount; split <;> rfl
@[simp] theorem State.uncount_pins (f : Fld) (n : Nat) : (s.uncount f n).pins = s.pins := by unfold State.uncount; split <;> rfl
@[simp] theorem State.uncount_round (f : Fld) (n : Nat) : (s.uncount f n).round = s.round := by unfold State.uncount; split <;> rfl
@[simp] theorem State.uncount_scan (f : Fld) (n : Nat) : (s.uncount f n).scan = s.scan := by unfold State.uncount; split <;> rfl
@[simp] theorem State.uncount_emw (f : Fld) (n : Nat) : (s.uncount f n).emw = s.emw := by unfold State.uncount; split <;> rfl
@[simp] theorem State.uncount_tpl (f : Fld) (n : Nat) : (s.uncount f n).tpl = s.tpl := by unfold State.uncount; split <;> rfl
@[simp] theorem State.uncount_kennel (f : Fld) (n : Nat) : (s.uncount f n).kennel = s.kennel := by unfold State.uncount; split <;> rfl
@[simp] theorem State.uncount_bist (f : Fld) (n : Nat) : (s.uncount f n).bist = s.bist := by unfold State.uncount; split <;> rfl
@[simp] theorem State.uncount_frame (f : Fld) (n : Nat) : (s.uncount f n).frame = s.frame := by unfold State.uncount; split <;> rfl
@[simp] theorem State.uncount_dram (f : Fld) (n : Nat) : (s.uncount f n).dram = s.dram := by unfold State.uncount; split <;> rfl
@[simp] theorem State.uncount_geo (f : Fld) (n : Nat) : (s.uncount f n).geo = s.geo := by unfold State.uncount; split <;> rfl
@[simp] theorem State.uncount_sess (f : Fld) (n : Nat) : (s.uncount f n).sess = s.sess := by unfold State.uncount; split <;> rfl
@[simp] theorem State.uncount_rot (f : Fld) (n : Nat) : (s.uncount f n).rot = s.rot := by unfold State.uncount; split <;> rfl
@[simp] theorem State.uncount_board (f : Fld) (n : Nat) : (s.uncount f n).board = s.board := by unfold State.uncount; split <;> rfl
@[simp] theorem State.uncount_ing (f : Fld) (n : Nat) : (s.uncount f n).ing = s.ing := by unfold State.uncount; split <;> rfl
@[simp] theorem State.uncount_nbr (f : Fld) (n : Nat) : (s.uncount f n).nbr = s.nbr := by unfold State.uncount; split <;> rfl
@[simp] theorem State.uncount_dfl (f : Fld) (n : Nat) : (s.uncount f n).dfl = s.dfl := by unfold State.uncount; split <;> rfl
@[simp] theorem State.uncount_power (f : Fld) (n : Nat) : (s.uncount f n).power = s.power := by unfold State.uncount; split <;> rfl
@[simp] theorem State.uncount_syn (f : Fld) (n : Nat) : (s.uncount f n).syn = s.syn := by unfold State.uncount; split <;> rfl
@[simp] theorem State.uncount_cmp (f : Fld) (n : Nat) : (s.uncount f n).cmp = s.cmp := by unfold State.uncount; split <;> rfl
@[simp] theorem State.uncount_map (f : Fld) (n : Nat) : (s.uncount f n).map = s.map := by unfold State.uncount; split <;> rfl
@[simp] theorem State.uncount_blt (f : Fld) (n : Nat) : (s.uncount f n).blt = s.blt := by unfold State.uncount; split <;> rfl
@[simp] theorem State.uncount_wild (f : Fld) (n : Nat) : (s.uncount f n).wild = s.wild := by unfold State.uncount; split <;> rfl
@[simp] theorem State.uncount_cam (f : Fld) (n : Nat) : (s.uncount f n).cam = s.cam := by unfold State.uncount; split <;> rfl
@[simp] theorem State.uncount_rxScan (f : Fld) (n : Nat) : (s.uncount f n).rxScan = s.rxScan := by unfold State.uncount; split <;> rfl
@[simp] theorem State.uncount_tap (f : Fld) (n : Nat) : (s.uncount f n).tap = s.tap := by unfold State.uncount; split <;> rfl

@[simp] theorem State.countReg_pending (a : Nat) : (s.countReg a).pending = s.pending := rfl
@[simp] theorem State.countReg_free (a : Nat) : (s.countReg a).free = s.free := rfl
@[simp] theorem State.countReg_live (a : Nat) : (s.countReg a).live = s.live := rfl
@[simp] theorem State.countReg_whistleHost (a : Nat) : (s.countReg a).whistleHost = s.whistleHost := rfl
@[simp] theorem State.countReg_seqs (a : Nat) : (s.countReg a).seqs = s.seqs := rfl
@[simp] theorem State.countReg_wt (a : Nat) : (s.countReg a).wt = s.wt := rfl
@[simp] theorem State.countReg_net (a : Nat) : (s.countReg a).net = s.net := rfl
@[simp] theorem State.countReg_pins (a : Nat) : (s.countReg a).pins = s.pins := rfl
@[simp] theorem State.countReg_round (a : Nat) : (s.countReg a).round = s.round := rfl
@[simp] theorem State.countReg_scan (a : Nat) : (s.countReg a).scan = s.scan := rfl
@[simp] theorem State.countReg_emw (a : Nat) : (s.countReg a).emw = s.emw := rfl
@[simp] theorem State.countReg_tpl (a : Nat) : (s.countReg a).tpl = s.tpl := rfl
@[simp] theorem State.countReg_kennel (a : Nat) : (s.countReg a).kennel = s.kennel := rfl
@[simp] theorem State.countReg_bist (a : Nat) : (s.countReg a).bist = s.bist := rfl
@[simp] theorem State.countReg_frame (a : Nat) : (s.countReg a).frame = s.frame := rfl
@[simp] theorem State.countReg_dram (a : Nat) : (s.countReg a).dram = s.dram := rfl
@[simp] theorem State.countReg_geo (a : Nat) : (s.countReg a).geo = s.geo := rfl
@[simp] theorem State.countReg_sess (a : Nat) : (s.countReg a).sess = s.sess := rfl
@[simp] theorem State.countReg_rot (a : Nat) : (s.countReg a).rot = s.rot := rfl
@[simp] theorem State.countReg_board (a : Nat) : (s.countReg a).board = s.board := rfl
@[simp] theorem State.countReg_ing (a : Nat) : (s.countReg a).ing = s.ing := rfl
@[simp] theorem State.countReg_nbr (a : Nat) : (s.countReg a).nbr = s.nbr := rfl
@[simp] theorem State.countReg_dfl (a : Nat) : (s.countReg a).dfl = s.dfl := rfl
@[simp] theorem State.countReg_power (a : Nat) : (s.countReg a).power = s.power := rfl
@[simp] theorem State.countReg_syn (a : Nat) : (s.countReg a).syn = s.syn := rfl
@[simp] theorem State.countReg_cmp (a : Nat) : (s.countReg a).cmp = s.cmp := rfl
@[simp] theorem State.countReg_map (a : Nat) : (s.countReg a).map = s.map := rfl
@[simp] theorem State.countReg_blt (a : Nat) : (s.countReg a).blt = s.blt := rfl
@[simp] theorem State.countReg_wild (a : Nat) : (s.countReg a).wild = s.wild := rfl
@[simp] theorem State.countReg_cam (a : Nat) : (s.countReg a).cam = s.cam := rfl
@[simp] theorem State.countReg_rxScan (a : Nat) : (s.countReg a).rxScan = s.rxScan := rfl
@[simp] theorem State.countReg_tap (a : Nat) : (s.countReg a).tap = s.tap := rfl

@[simp] theorem State.liveWr_pending (a : Nat) (v : Word) : (s.liveWr a v).pending = s.pending := rfl
@[simp] theorem State.liveWr_free (a : Nat) (v : Word) : (s.liveWr a v).free = s.free := rfl
@[simp] theorem State.liveWr_regs (a : Nat) (v : Word) : (s.liveWr a v).regs = s.regs := rfl
@[simp] theorem State.liveWr_whistleHost (a : Nat) (v : Word) : (s.liveWr a v).whistleHost = s.whistleHost := rfl
@[simp] theorem State.liveWr_bus (a : Nat) (v : Word) : (s.liveWr a v).bus = s.bus := rfl
@[simp] theorem State.liveWr_seqs (a : Nat) (v : Word) : (s.liveWr a v).seqs = s.seqs := rfl
@[simp] theorem State.liveWr_wt (a : Nat) (v : Word) : (s.liveWr a v).wt = s.wt := rfl
@[simp] theorem State.liveWr_net (a : Nat) (v : Word) : (s.liveWr a v).net = s.net := rfl
@[simp] theorem State.liveWr_pins (a : Nat) (v : Word) : (s.liveWr a v).pins = s.pins := rfl
@[simp] theorem State.liveWr_round (a : Nat) (v : Word) : (s.liveWr a v).round = s.round := rfl
@[simp] theorem State.liveWr_scan (a : Nat) (v : Word) : (s.liveWr a v).scan = s.scan := rfl
@[simp] theorem State.liveWr_emw (a : Nat) (v : Word) : (s.liveWr a v).emw = s.emw := rfl
@[simp] theorem State.liveWr_tpl (a : Nat) (v : Word) : (s.liveWr a v).tpl = s.tpl := rfl
@[simp] theorem State.liveWr_kennel (a : Nat) (v : Word) : (s.liveWr a v).kennel = s.kennel := rfl
@[simp] theorem State.liveWr_bist (a : Nat) (v : Word) : (s.liveWr a v).bist = s.bist := rfl
@[simp] theorem State.liveWr_frame (a : Nat) (v : Word) : (s.liveWr a v).frame = s.frame := rfl
@[simp] theorem State.liveWr_dram (a : Nat) (v : Word) : (s.liveWr a v).dram = s.dram := rfl
@[simp] theorem State.liveWr_geo (a : Nat) (v : Word) : (s.liveWr a v).geo = s.geo := rfl
@[simp] theorem State.liveWr_sess (a : Nat) (v : Word) : (s.liveWr a v).sess = s.sess := rfl
@[simp] theorem State.liveWr_rot (a : Nat) (v : Word) : (s.liveWr a v).rot = s.rot := rfl
@[simp] theorem State.liveWr_board (a : Nat) (v : Word) : (s.liveWr a v).board = s.board := rfl
@[simp] theorem State.liveWr_ing (a : Nat) (v : Word) : (s.liveWr a v).ing = s.ing := rfl
@[simp] theorem State.liveWr_nbr (a : Nat) (v : Word) : (s.liveWr a v).nbr = s.nbr := rfl
@[simp] theorem State.liveWr_dfl (a : Nat) (v : Word) : (s.liveWr a v).dfl = s.dfl := rfl
@[simp] theorem State.liveWr_power (a : Nat) (v : Word) : (s.liveWr a v).power = s.power := rfl
@[simp] theorem State.liveWr_syn (a : Nat) (v : Word) : (s.liveWr a v).syn = s.syn := rfl
@[simp] theorem State.liveWr_cmp (a : Nat) (v : Word) : (s.liveWr a v).cmp = s.cmp := rfl
@[simp] theorem State.liveWr_map (a : Nat) (v : Word) : (s.liveWr a v).map = s.map := rfl
@[simp] theorem State.liveWr_blt (a : Nat) (v : Word) : (s.liveWr a v).blt = s.blt := rfl
@[simp] theorem State.liveWr_wild (a : Nat) (v : Word) : (s.liveWr a v).wild = s.wild := rfl
@[simp] theorem State.liveWr_cam (a : Nat) (v : Word) : (s.liveWr a v).cam = s.cam := rfl
@[simp] theorem State.liveWr_rxScan (a : Nat) (v : Word) : (s.liveWr a v).rxScan = s.rxScan := rfl
@[simp] theorem State.liveWr_tap (a : Nat) (v : Word) : (s.liveWr a v).tap = s.tap := rfl

@[simp] theorem State.draw_pending (w : Nat) : (s.draw w).2.pending = s.pending := rfl
@[simp] theorem State.draw_regs (w : Nat) : (s.draw w).2.regs = s.regs := rfl
@[simp] theorem State.draw_live (w : Nat) : (s.draw w).2.live = s.live := rfl
@[simp] theorem State.draw_whistleHost (w : Nat) : (s.draw w).2.whistleHost = s.whistleHost := rfl
@[simp] theorem State.draw_bus (w : Nat) : (s.draw w).2.bus = s.bus := rfl
@[simp] theorem State.draw_seqs (w : Nat) : (s.draw w).2.seqs = s.seqs := rfl
@[simp] theorem State.draw_wt (w : Nat) : (s.draw w).2.wt = s.wt := rfl
@[simp] theorem State.draw_net (w : Nat) : (s.draw w).2.net = s.net := rfl
@[simp] theorem State.draw_pins (w : Nat) : (s.draw w).2.pins = s.pins := rfl
@[simp] theorem State.draw_round (w : Nat) : (s.draw w).2.round = s.round := rfl
@[simp] theorem State.draw_scan (w : Nat) : (s.draw w).2.scan = s.scan := rfl
@[simp] theorem State.draw_emw (w : Nat) : (s.draw w).2.emw = s.emw := rfl
@[simp] theorem State.draw_tpl (w : Nat) : (s.draw w).2.tpl = s.tpl := rfl
@[simp] theorem State.draw_kennel (w : Nat) : (s.draw w).2.kennel = s.kennel := rfl
@[simp] theorem State.draw_bist (w : Nat) : (s.draw w).2.bist = s.bist := rfl
@[simp] theorem State.draw_frame (w : Nat) : (s.draw w).2.frame = s.frame := rfl
@[simp] theorem State.draw_dram (w : Nat) : (s.draw w).2.dram = s.dram := rfl
@[simp] theorem State.draw_geo (w : Nat) : (s.draw w).2.geo = s.geo := rfl
@[simp] theorem State.draw_sess (w : Nat) : (s.draw w).2.sess = s.sess := rfl
@[simp] theorem State.draw_rot (w : Nat) : (s.draw w).2.rot = s.rot := rfl
@[simp] theorem State.draw_board (w : Nat) : (s.draw w).2.board = s.board := rfl
@[simp] theorem State.draw_ing (w : Nat) : (s.draw w).2.ing = s.ing := rfl
@[simp] theorem State.draw_nbr (w : Nat) : (s.draw w).2.nbr = s.nbr := rfl
@[simp] theorem State.draw_dfl (w : Nat) : (s.draw w).2.dfl = s.dfl := rfl
@[simp] theorem State.draw_power (w : Nat) : (s.draw w).2.power = s.power := rfl
@[simp] theorem State.draw_syn (w : Nat) : (s.draw w).2.syn = s.syn := rfl
@[simp] theorem State.draw_cmp (w : Nat) : (s.draw w).2.cmp = s.cmp := rfl
@[simp] theorem State.draw_map (w : Nat) : (s.draw w).2.map = s.map := rfl
@[simp] theorem State.draw_blt (w : Nat) : (s.draw w).2.blt = s.blt := rfl
@[simp] theorem State.draw_wild (w : Nat) : (s.draw w).2.wild = s.wild := rfl
@[simp] theorem State.draw_cam (w : Nat) : (s.draw w).2.cam = s.cam := rfl
@[simp] theorem State.draw_rxScan (w : Nat) : (s.draw w).2.rxScan = s.rxScan := rfl
@[simp] theorem State.draw_tap (w : Nat) : (s.draw w).2.tap = s.tap := rfl

@[simp] theorem State.setSeq_pending (q : SeqId) (c : Seq) : (s.setSeq q c).pending = s.pending := rfl
@[simp] theorem State.setSeq_free (q : SeqId) (c : Seq) : (s.setSeq q c).free = s.free := rfl
@[simp] theorem State.setSeq_regs (q : SeqId) (c : Seq) : (s.setSeq q c).regs = s.regs := rfl
@[simp] theorem State.setSeq_live (q : SeqId) (c : Seq) : (s.setSeq q c).live = s.live := rfl
@[simp] theorem State.setSeq_whistleHost (q : SeqId) (c : Seq) : (s.setSeq q c).whistleHost = s.whistleHost := rfl
@[simp] theorem State.setSeq_bus (q : SeqId) (c : Seq) : (s.setSeq q c).bus = s.bus := rfl
@[simp] theorem State.setSeq_wt (q : SeqId) (c : Seq) : (s.setSeq q c).wt = s.wt := rfl
@[simp] theorem State.setSeq_net (q : SeqId) (c : Seq) : (s.setSeq q c).net = s.net := rfl
@[simp] theorem State.setSeq_pins (q : SeqId) (c : Seq) : (s.setSeq q c).pins = s.pins := rfl
@[simp] theorem State.setSeq_round (q : SeqId) (c : Seq) : (s.setSeq q c).round = s.round := rfl
@[simp] theorem State.setSeq_scan (q : SeqId) (c : Seq) : (s.setSeq q c).scan = s.scan := rfl
@[simp] theorem State.setSeq_emw (q : SeqId) (c : Seq) : (s.setSeq q c).emw = s.emw := rfl
@[simp] theorem State.setSeq_tpl (q : SeqId) (c : Seq) : (s.setSeq q c).tpl = s.tpl := rfl
@[simp] theorem State.setSeq_kennel (q : SeqId) (c : Seq) : (s.setSeq q c).kennel = s.kennel := rfl
@[simp] theorem State.setSeq_bist (q : SeqId) (c : Seq) : (s.setSeq q c).bist = s.bist := rfl
@[simp] theorem State.setSeq_frame (q : SeqId) (c : Seq) : (s.setSeq q c).frame = s.frame := rfl
@[simp] theorem State.setSeq_dram (q : SeqId) (c : Seq) : (s.setSeq q c).dram = s.dram := rfl
@[simp] theorem State.setSeq_geo (q : SeqId) (c : Seq) : (s.setSeq q c).geo = s.geo := rfl
@[simp] theorem State.setSeq_sess (q : SeqId) (c : Seq) : (s.setSeq q c).sess = s.sess := rfl
@[simp] theorem State.setSeq_rot (q : SeqId) (c : Seq) : (s.setSeq q c).rot = s.rot := rfl
@[simp] theorem State.setSeq_board (q : SeqId) (c : Seq) : (s.setSeq q c).board = s.board := rfl
@[simp] theorem State.setSeq_ing (q : SeqId) (c : Seq) : (s.setSeq q c).ing = s.ing := rfl
@[simp] theorem State.setSeq_nbr (q : SeqId) (c : Seq) : (s.setSeq q c).nbr = s.nbr := rfl
@[simp] theorem State.setSeq_dfl (q : SeqId) (c : Seq) : (s.setSeq q c).dfl = s.dfl := rfl
@[simp] theorem State.setSeq_power (q : SeqId) (c : Seq) : (s.setSeq q c).power = s.power := rfl
@[simp] theorem State.setSeq_syn (q : SeqId) (c : Seq) : (s.setSeq q c).syn = s.syn := rfl
@[simp] theorem State.setSeq_cmp (q : SeqId) (c : Seq) : (s.setSeq q c).cmp = s.cmp := rfl
@[simp] theorem State.setSeq_map (q : SeqId) (c : Seq) : (s.setSeq q c).map = s.map := rfl
@[simp] theorem State.setSeq_blt (q : SeqId) (c : Seq) : (s.setSeq q c).blt = s.blt := rfl
@[simp] theorem State.setSeq_wild (q : SeqId) (c : Seq) : (s.setSeq q c).wild = s.wild := rfl
@[simp] theorem State.setSeq_cam (q : SeqId) (c : Seq) : (s.setSeq q c).cam = s.cam := rfl
@[simp] theorem State.setSeq_rxScan (q : SeqId) (c : Seq) : (s.setSeq q c).rxScan = s.rxScan := rfl
@[simp] theorem State.setSeq_tap (q : SeqId) (c : Seq) : (s.setSeq q c).tap = s.tap := rfl

@[simp] theorem State.event_pending (q : SeqId) (x y : Nat) (l : Bool) (d : Nat) : (s.event q x y l d).pending = s.pending := by simp only [State.event]; split <;> rfl
@[simp] theorem State.event_free (q : SeqId) (x y : Nat) (l : Bool) (d : Nat) : (s.event q x y l d).free = s.free := by simp only [State.event]; split <;> rfl
@[simp] theorem State.event_live (q : SeqId) (x y : Nat) (l : Bool) (d : Nat) : (s.event q x y l d).live = s.live := by simp only [State.event]; split <;> rfl
@[simp] theorem State.event_whistleHost (q : SeqId) (x y : Nat) (l : Bool) (d : Nat) : (s.event q x y l d).whistleHost = s.whistleHost := by simp only [State.event]; split <;> rfl
@[simp] theorem State.event_wt (q : SeqId) (x y : Nat) (l : Bool) (d : Nat) : (s.event q x y l d).wt = s.wt := by simp only [State.event]; split <;> rfl
@[simp] theorem State.event_net (q : SeqId) (x y : Nat) (l : Bool) (d : Nat) : (s.event q x y l d).net = s.net := by simp only [State.event]; split <;> rfl
@[simp] theorem State.event_pins (q : SeqId) (x y : Nat) (l : Bool) (d : Nat) : (s.event q x y l d).pins = s.pins := by simp only [State.event]; split <;> rfl
@[simp] theorem State.event_round (q : SeqId) (x y : Nat) (l : Bool) (d : Nat) : (s.event q x y l d).round = s.round := by simp only [State.event]; split <;> rfl
@[simp] theorem State.event_scan (q : SeqId) (x y : Nat) (l : Bool) (d : Nat) : (s.event q x y l d).scan = s.scan := by simp only [State.event]; split <;> rfl
@[simp] theorem State.event_emw (q : SeqId) (x y : Nat) (l : Bool) (d : Nat) : (s.event q x y l d).emw = s.emw := by simp only [State.event]; split <;> rfl
@[simp] theorem State.event_tpl (q : SeqId) (x y : Nat) (l : Bool) (d : Nat) : (s.event q x y l d).tpl = s.tpl := by simp only [State.event]; split <;> rfl
@[simp] theorem State.event_kennel (q : SeqId) (x y : Nat) (l : Bool) (d : Nat) : (s.event q x y l d).kennel = s.kennel := by simp only [State.event]; split <;> rfl
@[simp] theorem State.event_bist (q : SeqId) (x y : Nat) (l : Bool) (d : Nat) : (s.event q x y l d).bist = s.bist := by simp only [State.event]; split <;> rfl
@[simp] theorem State.event_frame (q : SeqId) (x y : Nat) (l : Bool) (d : Nat) : (s.event q x y l d).frame = s.frame := by simp only [State.event]; split <;> rfl
@[simp] theorem State.event_dram (q : SeqId) (x y : Nat) (l : Bool) (d : Nat) : (s.event q x y l d).dram = s.dram := by simp only [State.event]; split <;> rfl
@[simp] theorem State.event_geo (q : SeqId) (x y : Nat) (l : Bool) (d : Nat) : (s.event q x y l d).geo = s.geo := by simp only [State.event]; split <;> rfl
@[simp] theorem State.event_sess (q : SeqId) (x y : Nat) (l : Bool) (d : Nat) : (s.event q x y l d).sess = s.sess := by simp only [State.event]; split <;> rfl
@[simp] theorem State.event_rot (q : SeqId) (x y : Nat) (l : Bool) (d : Nat) : (s.event q x y l d).rot = s.rot := by simp only [State.event]; split <;> rfl
@[simp] theorem State.event_board (q : SeqId) (x y : Nat) (l : Bool) (d : Nat) : (s.event q x y l d).board = s.board := by simp only [State.event]; split <;> rfl
@[simp] theorem State.event_ing (q : SeqId) (x y : Nat) (l : Bool) (d : Nat) : (s.event q x y l d).ing = s.ing := by simp only [State.event]; split <;> rfl
@[simp] theorem State.event_nbr (q : SeqId) (x y : Nat) (l : Bool) (d : Nat) : (s.event q x y l d).nbr = s.nbr := by simp only [State.event]; split <;> rfl
@[simp] theorem State.event_dfl (q : SeqId) (x y : Nat) (l : Bool) (d : Nat) : (s.event q x y l d).dfl = s.dfl := by simp only [State.event]; split <;> rfl
@[simp] theorem State.event_power (q : SeqId) (x y : Nat) (l : Bool) (d : Nat) : (s.event q x y l d).power = s.power := by simp only [State.event]; split <;> rfl
@[simp] theorem State.event_syn (q : SeqId) (x y : Nat) (l : Bool) (d : Nat) : (s.event q x y l d).syn = s.syn := by simp only [State.event]; split <;> rfl
@[simp] theorem State.event_cmp (q : SeqId) (x y : Nat) (l : Bool) (d : Nat) : (s.event q x y l d).cmp = s.cmp := by simp only [State.event]; split <;> rfl
@[simp] theorem State.event_map (q : SeqId) (x y : Nat) (l : Bool) (d : Nat) : (s.event q x y l d).map = s.map := by simp only [State.event]; split <;> rfl
@[simp] theorem State.event_blt (q : SeqId) (x y : Nat) (l : Bool) (d : Nat) : (s.event q x y l d).blt = s.blt := by simp only [State.event]; split <;> rfl
@[simp] theorem State.event_wild (q : SeqId) (x y : Nat) (l : Bool) (d : Nat) : (s.event q x y l d).wild = s.wild := by simp only [State.event]; split <;> rfl
@[simp] theorem State.event_cam (q : SeqId) (x y : Nat) (l : Bool) (d : Nat) : (s.event q x y l d).cam = s.cam := by simp only [State.event]; split <;> rfl
@[simp] theorem State.event_rxScan (q : SeqId) (x y : Nat) (l : Bool) (d : Nat) : (s.event q x y l d).rxScan = s.rxScan := by simp only [State.event]; split <;> rfl
@[simp] theorem State.event_tap (q : SeqId) (x y : Nat) (l : Bool) (d : Nat) : (s.event q x y l d).tap = s.tap := by simp only [State.event]; split <;> rfl

@[simp] theorem State.sqsEvent_pending (x y d : Nat) : (s.sqsEvent x y d).pending = s.pending := s.event_pending _ _ _ _ _
@[simp] theorem State.sqsEvent_free (x y d : Nat) : (s.sqsEvent x y d).free = s.free := s.event_free _ _ _ _ _
@[simp] theorem State.sqsEvent_live (x y d : Nat) : (s.sqsEvent x y d).live = s.live := s.event_live _ _ _ _ _
@[simp] theorem State.sqsEvent_whistleHost (x y d : Nat) : (s.sqsEvent x y d).whistleHost = s.whistleHost := s.event_whistleHost _ _ _ _ _
@[simp] theorem State.sqsEvent_wt (x y d : Nat) : (s.sqsEvent x y d).wt = s.wt := s.event_wt _ _ _ _ _
@[simp] theorem State.sqsEvent_net (x y d : Nat) : (s.sqsEvent x y d).net = s.net := s.event_net _ _ _ _ _
@[simp] theorem State.sqsEvent_pins (x y d : Nat) : (s.sqsEvent x y d).pins = s.pins := s.event_pins _ _ _ _ _
@[simp] theorem State.sqsEvent_round (x y d : Nat) : (s.sqsEvent x y d).round = s.round := s.event_round _ _ _ _ _
@[simp] theorem State.sqsEvent_scan (x y d : Nat) : (s.sqsEvent x y d).scan = s.scan := s.event_scan _ _ _ _ _
@[simp] theorem State.sqsEvent_emw (x y d : Nat) : (s.sqsEvent x y d).emw = s.emw := s.event_emw _ _ _ _ _
@[simp] theorem State.sqsEvent_tpl (x y d : Nat) : (s.sqsEvent x y d).tpl = s.tpl := s.event_tpl _ _ _ _ _
@[simp] theorem State.sqsEvent_kennel (x y d : Nat) : (s.sqsEvent x y d).kennel = s.kennel := s.event_kennel _ _ _ _ _
@[simp] theorem State.sqsEvent_bist (x y d : Nat) : (s.sqsEvent x y d).bist = s.bist := s.event_bist _ _ _ _ _
@[simp] theorem State.sqsEvent_frame (x y d : Nat) : (s.sqsEvent x y d).frame = s.frame := s.event_frame _ _ _ _ _
@[simp] theorem State.sqsEvent_dram (x y d : Nat) : (s.sqsEvent x y d).dram = s.dram := s.event_dram _ _ _ _ _
@[simp] theorem State.sqsEvent_geo (x y d : Nat) : (s.sqsEvent x y d).geo = s.geo := s.event_geo _ _ _ _ _
@[simp] theorem State.sqsEvent_sess (x y d : Nat) : (s.sqsEvent x y d).sess = s.sess := s.event_sess _ _ _ _ _
@[simp] theorem State.sqsEvent_rot (x y d : Nat) : (s.sqsEvent x y d).rot = s.rot := s.event_rot _ _ _ _ _
@[simp] theorem State.sqsEvent_board (x y d : Nat) : (s.sqsEvent x y d).board = s.board := s.event_board _ _ _ _ _
@[simp] theorem State.sqsEvent_ing (x y d : Nat) : (s.sqsEvent x y d).ing = s.ing := s.event_ing _ _ _ _ _
@[simp] theorem State.sqsEvent_nbr (x y d : Nat) : (s.sqsEvent x y d).nbr = s.nbr := s.event_nbr _ _ _ _ _
@[simp] theorem State.sqsEvent_dfl (x y d : Nat) : (s.sqsEvent x y d).dfl = s.dfl := s.event_dfl _ _ _ _ _
@[simp] theorem State.sqsEvent_power (x y d : Nat) : (s.sqsEvent x y d).power = s.power := s.event_power _ _ _ _ _
@[simp] theorem State.sqsEvent_syn (x y d : Nat) : (s.sqsEvent x y d).syn = s.syn := s.event_syn _ _ _ _ _
@[simp] theorem State.sqsEvent_cmp (x y d : Nat) : (s.sqsEvent x y d).cmp = s.cmp := s.event_cmp _ _ _ _ _
@[simp] theorem State.sqsEvent_map (x y d : Nat) : (s.sqsEvent x y d).map = s.map := s.event_map _ _ _ _ _
@[simp] theorem State.sqsEvent_blt (x y d : Nat) : (s.sqsEvent x y d).blt = s.blt := s.event_blt _ _ _ _ _
@[simp] theorem State.sqsEvent_wild (x y d : Nat) : (s.sqsEvent x y d).wild = s.wild := s.event_wild _ _ _ _ _
@[simp] theorem State.sqsEvent_cam (x y d : Nat) : (s.sqsEvent x y d).cam = s.cam := s.event_cam _ _ _ _ _
@[simp] theorem State.sqsEvent_rxScan (x y d : Nat) : (s.sqsEvent x y d).rxScan = s.rxScan := s.event_rxScan _ _ _ _ _
@[simp] theorem State.sqsEvent_tap (x y d : Nat) : (s.sqsEvent x y d).tap = s.tap := s.event_tap _ _ _ _ _

@[simp] theorem State.quadEvent_pending (n : QuadId) (x y d : Nat) : (s.quadEvent n x y d).pending = s.pending := s.event_pending _ _ _ _ _
@[simp] theorem State.quadEvent_free (n : QuadId) (x y d : Nat) : (s.quadEvent n x y d).free = s.free := s.event_free _ _ _ _ _
@[simp] theorem State.quadEvent_live (n : QuadId) (x y d : Nat) : (s.quadEvent n x y d).live = s.live := s.event_live _ _ _ _ _
@[simp] theorem State.quadEvent_whistleHost (n : QuadId) (x y d : Nat) : (s.quadEvent n x y d).whistleHost = s.whistleHost := s.event_whistleHost _ _ _ _ _
@[simp] theorem State.quadEvent_wt (n : QuadId) (x y d : Nat) : (s.quadEvent n x y d).wt = s.wt := s.event_wt _ _ _ _ _
@[simp] theorem State.quadEvent_net (n : QuadId) (x y d : Nat) : (s.quadEvent n x y d).net = s.net := s.event_net _ _ _ _ _
@[simp] theorem State.quadEvent_pins (n : QuadId) (x y d : Nat) : (s.quadEvent n x y d).pins = s.pins := s.event_pins _ _ _ _ _
@[simp] theorem State.quadEvent_round (n : QuadId) (x y d : Nat) : (s.quadEvent n x y d).round = s.round := s.event_round _ _ _ _ _
@[simp] theorem State.quadEvent_scan (n : QuadId) (x y d : Nat) : (s.quadEvent n x y d).scan = s.scan := s.event_scan _ _ _ _ _
@[simp] theorem State.quadEvent_emw (n : QuadId) (x y d : Nat) : (s.quadEvent n x y d).emw = s.emw := s.event_emw _ _ _ _ _
@[simp] theorem State.quadEvent_tpl (n : QuadId) (x y d : Nat) : (s.quadEvent n x y d).tpl = s.tpl := s.event_tpl _ _ _ _ _
@[simp] theorem State.quadEvent_kennel (n : QuadId) (x y d : Nat) : (s.quadEvent n x y d).kennel = s.kennel := s.event_kennel _ _ _ _ _
@[simp] theorem State.quadEvent_bist (n : QuadId) (x y d : Nat) : (s.quadEvent n x y d).bist = s.bist := s.event_bist _ _ _ _ _
@[simp] theorem State.quadEvent_frame (n : QuadId) (x y d : Nat) : (s.quadEvent n x y d).frame = s.frame := s.event_frame _ _ _ _ _
@[simp] theorem State.quadEvent_dram (n : QuadId) (x y d : Nat) : (s.quadEvent n x y d).dram = s.dram := s.event_dram _ _ _ _ _
@[simp] theorem State.quadEvent_geo (n : QuadId) (x y d : Nat) : (s.quadEvent n x y d).geo = s.geo := s.event_geo _ _ _ _ _
@[simp] theorem State.quadEvent_sess (n : QuadId) (x y d : Nat) : (s.quadEvent n x y d).sess = s.sess := s.event_sess _ _ _ _ _
@[simp] theorem State.quadEvent_rot (n : QuadId) (x y d : Nat) : (s.quadEvent n x y d).rot = s.rot := s.event_rot _ _ _ _ _
@[simp] theorem State.quadEvent_board (n : QuadId) (x y d : Nat) : (s.quadEvent n x y d).board = s.board := s.event_board _ _ _ _ _
@[simp] theorem State.quadEvent_ing (n : QuadId) (x y d : Nat) : (s.quadEvent n x y d).ing = s.ing := s.event_ing _ _ _ _ _
@[simp] theorem State.quadEvent_nbr (n : QuadId) (x y d : Nat) : (s.quadEvent n x y d).nbr = s.nbr := s.event_nbr _ _ _ _ _
@[simp] theorem State.quadEvent_dfl (n : QuadId) (x y d : Nat) : (s.quadEvent n x y d).dfl = s.dfl := s.event_dfl _ _ _ _ _
@[simp] theorem State.quadEvent_power (n : QuadId) (x y d : Nat) : (s.quadEvent n x y d).power = s.power := s.event_power _ _ _ _ _
@[simp] theorem State.quadEvent_syn (n : QuadId) (x y d : Nat) : (s.quadEvent n x y d).syn = s.syn := s.event_syn _ _ _ _ _
@[simp] theorem State.quadEvent_cmp (n : QuadId) (x y d : Nat) : (s.quadEvent n x y d).cmp = s.cmp := s.event_cmp _ _ _ _ _
@[simp] theorem State.quadEvent_map (n : QuadId) (x y d : Nat) : (s.quadEvent n x y d).map = s.map := s.event_map _ _ _ _ _
@[simp] theorem State.quadEvent_blt (n : QuadId) (x y d : Nat) : (s.quadEvent n x y d).blt = s.blt := s.event_blt _ _ _ _ _
@[simp] theorem State.quadEvent_wild (n : QuadId) (x y d : Nat) : (s.quadEvent n x y d).wild = s.wild := s.event_wild _ _ _ _ _
@[simp] theorem State.quadEvent_cam (n : QuadId) (x y d : Nat) : (s.quadEvent n x y d).cam = s.cam := s.event_cam _ _ _ _ _
@[simp] theorem State.quadEvent_rxScan (n : QuadId) (x y d : Nat) : (s.quadEvent n x y d).rxScan = s.rxScan := s.event_rxScan _ _ _ _ _
@[simp] theorem State.quadEvent_tap (n : QuadId) (x y d : Nat) : (s.quadEvent n x y d).tap = s.tap := s.event_tap _ _ _ _ _

end Sys2Proof.Machine
end

