-- ==== Sys2Proof/Laws/Regs.lean ====
section
/-!
SUPPORT. Sys2Proof/Laws/Regs.lean: registers, fields and sequencers: what a read after a write gives, what an event
does, and what a free value can be.
-/

namespace Sys2Proof.Machine

/-! ### Fields of a word -/

/-- Bit `i` of a field. -/
theorem testBit_field (x : Word) (lo w i : Nat) :
    (field x lo w).testBit i = (decide (i < w) && x.toNat.testBit (lo + i)) := by
  simp [field, Nat.testBit_mod_two_pow, Nat.testBit_div_two_pow, Nat.add_comm]

/-- Bit `i` of a word after a field of it was written. -/
theorem testBit_withField (x : Word) (lo w v i : Nat) :
    (withField x lo w v).toNat.testBit i =
      (decide (i < 32) && if i < lo then x.toNat.testBit i
        else if i < lo + w then v.testBit (i - lo) else x.toNat.testBit i) := by
  have e : x.toNat / 2 ^ (lo + w) * 2 ^ (lo + w) + v % 2 ^ w * 2 ^ lo + x.toNat % 2 ^ lo
      = 2 ^ lo * (2 ^ w * (x.toNat / 2 ^ (lo + w)) + v % 2 ^ w) + x.toNat % 2 ^ lo := by
    rw [Nat.pow_add]; ring
  unfold withField
  rw [BitVec.toNat_ofNat, Nat.testBit_mod_two_pow, e,
    Nat.testBit_two_pow_mul_add _ (Nat.mod_lt _ (by positivity)),
    Nat.testBit_two_pow_mul_add _ (Nat.mod_lt _ (by positivity))]
  congr 1
  by_cases h1 : i < lo
  · simp [h1, Nat.testBit_mod_two_pow]
  · by_cases h2 : i < lo + w
    · have : i - lo < w := by omega
      simp [h1, h2, this, Nat.testBit_mod_two_pow]
    · have h3 : ¬ i - lo < w := by omega
      simp only [h1, h2, h3, if_false, Nat.testBit_div_two_pow]
      congr 1; omega

/-- A field read back from the word it was written to. -/
theorem field_withField_same {x : Word} {lo w v : Nat} (h : lo + w ≤ 32) :
    field (withField x lo w v) lo w = v % 2 ^ w := by
  apply Nat.eq_of_testBit_eq
  intro i
  rw [testBit_field, testBit_withField, Nat.testBit_mod_two_pow]
  by_cases hi : i < w
  · have h1 : lo + i < 32 := by omega
    have h2 : ¬ lo + i < lo := by omega
    have h3 : lo + i < lo + w := by omega
    simp [hi, h1]
  · simp [hi]

/-- A field that shares no bit with the one written. -/
theorem field_withField_other {x : Word} {lo w lo' w' v : Nat} (h' : lo' + w' ≤ 32)
    (h : lo' + w' ≤ lo ∨ lo + w ≤ lo') : field (withField x lo w v) lo' w' = field x lo' w' := by
  apply Nat.eq_of_testBit_eq
  intro i
  rw [testBit_field, testBit_field, testBit_withField]
  by_cases hi : i < w'
  · have h1 : lo' + i < 32 := by omega
    rcases h with h | h
    · have h2 : lo' + i < lo := by omega
      simp [hi, h1, h2]
    · have h2 : ¬ lo' + i < lo := by omega
      have h3 : ¬ lo' + i < lo + w := by omega
      simp [hi, h1, h2, h3]
  · simp [hi]

/-- A field is below its power of two. -/
theorem field_lt (x : Word) (lo w : Nat) : field x lo w < 2 ^ w := Nat.mod_lt _ (by positivity)

/-! ### Registers -/

variable (s : State)

@[simp] theorem State.rd_wr_same (a : Nat) (v : Word) : (s.wr a v).rd a = v := sparseGet_set_same _ _ _

theorem State.rd_wr_other {a b : Nat} (v : Word) (h : b ≠ a) : (s.wr a v).rd b = s.rd b :=
  sparseGet_set_other _ _ _ _ h

theorem State.rd_wr (a b : Nat) (v : Word) : (s.wr a v).rd b = if b = a then v else s.rd b := sparseGet_set _ _ _ _

@[simp] theorem State.liveRd_liveWr_same (a : Nat) (v : Word) : (s.liveWr a v).liveRd a = v := sparseGet_set_same _ _ _

/-- A register of another address keeps its word. -/
theorem State.rd_put_other {f : Fld} {b : Nat} (v : Nat) (h : b ≠ f.addr) : (s.put f v).rd b = s.rd b :=
  s.rd_wr_other _ h

/-- A field read back after it was written. -/
theorem State.get_put_same {f : Fld} (v : Nat) (h : f.lo + f.w ≤ 32) : (s.put f v).get f = v % 2 ^ f.w := by
  simp [State.get, State.put, field_withField_same h]

/-- A field of another register keeps its value. -/
theorem State.get_put_addr {f g : Fld} (v : Nat) (h : g.addr ≠ f.addr) : (s.put f v).get g = s.get g := by
  simp [State.get, s.rd_put_other v h]

/-- Another field of the same register keeps its value. -/
theorem State.get_put_field {f g : Fld} (v : Nat) (h' : g.lo + g.w ≤ 32) (h : g.lo + g.w ≤ f.lo ∨ f.lo + f.w ≤ g.lo) :
    (s.put f v).get g = s.get g := by
  by_cases e : g.addr = f.addr
  · simp [State.get, State.put, e, field_withField_other h' h]
  · exact s.get_put_addr v e

@[simp] theorem State.rd_noteHit (f : Fld) (a : Nat) : (s.noteHit f).rd a = s.rd a := rfl
@[simp] theorem State.get_noteHit (f g : Fld) : (s.noteHit f).get g = s.get g := rfl
@[simp] theorem State.flag_noteHit (f g : Fld) : (s.noteHit f).flag g = s.flag g := rfl
@[simp] theorem State.seq_noteHit (f : Fld) (q : SeqId) : (s.noteHit f).seq q = s.seq q := rfl
@[simp] theorem State.rd_set (f : Fld) (a : Nat) : (s.set f).rd a = (s.put f 1).rd a := rfl
@[simp] theorem State.get_set (f g : Fld) : (s.set f).get g = (s.put f 1).get g := rfl
@[simp] theorem State.rd_count (f : Fld) (a : Nat) : (s.count f).rd a = (s.put f (satInc f.w (s.get f))).rd a := rfl

/-- What a lock looks at stays as the core cycle began. -/
@[simp] theorem State.noteHit_before (f : Fld) : (s.noteHit f).bus.before = s.bus.before := by
  unfold State.noteHit State.busNow
  split <;> rfl
@[simp] theorem State.set_before (f : Fld) : (s.set f).bus.before = s.bus.before := (s.put f 1).noteHit_before f
@[simp] theorem State.count_before (f : Fld) : (s.count f).bus.before = s.bus.before := (s.put f _).noteHit_before f

/-- A one-bit field that is set reads 1. -/
theorem State.flag_set {f : Fld} (h : f.lo + f.w ≤ 32) (hw : 0 < f.w) : (s.set f).flag f = true := by
  have : 1 < 2 ^ f.w := Nat.one_lt_two_pow (by omega)
  simp [State.flag, s.get_put_same 1 h, Nat.mod_eq_of_lt this]

/-- A field that is cleared reads 0. -/
theorem State.get_clr {f : Fld} (h : f.lo + f.w ≤ 32) : (s.clr f).get f = 0 := by
  simp [State.clr, s.get_put_same 0 h]

/-- A counter that counts: one more, or its greatest number. -/
theorem State.get_count {f : Fld} (h : f.lo + f.w ≤ 32) : (s.count f).get f = min (s.get f + 1) (2 ^ f.w - 1) := by
  have hp : 0 < 2 ^ f.w := by positivity
  have hg : s.get f < 2 ^ f.w := field_lt _ _ _
  unfold State.count
  rw [State.get_noteHit, s.get_put_same _ h]
  unfold satInc
  split
  · rw [Nat.mod_eq_of_lt (by omega), Nat.min_eq_left (by omega)]
  · rw [Nat.mod_eq_of_lt (by omega), Nat.min_eq_right (by omega)]

/-! ### Sequencers and events -/

@[simp] theorem State.seq_setSeq_same (q : SeqId) (c : Seq) : (s.setSeq q c).seq q = c := by
  simp [State.seq, State.setSeq]

theorem State.seq_setSeq_other {q r : SeqId} (c : Seq) (h : r ≠ q) : (s.setSeq q c).seq r = s.seq r := by
  have : (q : Nat) ≠ (r : Nat) := fun e => h (Fin.ext e.symm)
  simp [State.seq, State.setSeq, Vector.getElem_set_ne, this]

theorem State.seq_setSeq (q r : SeqId) (c : Seq) : (s.setSeq q c).seq r = if r = q then c else s.seq r := by
  split
  · next h => subst h; simp
  · next h => exact s.seq_setSeq_other c h

@[simp] theorem State.setSeq_setSeq (q : SeqId) (c e : Seq) : (s.setSeq q c).setSeq q e = s.setSeq q e := by
  unfold State.setSeq
  congr 1
  apply Vector.ext
  intro i hi
  by_cases h : (q : Nat) = i
  · subst h; simp
  · simp [Vector.getElem_set_ne, h]

@[simp] theorem State.rd_setSeq (q : SeqId) (c : Seq) (a : Nat) : (s.setSeq q c).rd a = s.rd a := rfl
@[simp] theorem State.get_setSeq (q : SeqId) (c : Seq) (f : Fld) : (s.setSeq q c).get f = s.get f := rfl
@[simp] theorem State.flag_setSeq (q : SeqId) (c : Seq) (f : Fld) : (s.setSeq q c).flag f = s.flag f := rfl
@[simp] theorem State.seq_wr (a : Nat) (v : Word) (q : SeqId) : (s.wr a v).seq q = s.seq q := rfl
@[simp] theorem State.seq_put (f : Fld) (v : Nat) (q : SeqId) : (s.put f v).seq q = s.seq q := rfl

/-- An event that finds room is the newest entry of its queue; one that finds none is counted (R82, R83). -/
theorem State.event_cases (q : SeqId) (x y : Nat) (l : Bool) (d : Nat) :
    ((s.seq q).queue.length < 256 ∧ s.event q x y l d = s.setSeq q { s.seq q with queue := (s.seq q).queue ++
        [{ source := BitVec.ofNat 8 x, code := BitVec.ofNat 8 y, late := l, data := BitVec.ofNat 32 d,
           secLo := BitVec.ofNat 32 s.wallSec, ns := BitVec.ofNat 32 s.wallNsOfSec, born := some s.wt.cycle }] }) ∨
    (256 ≤ (s.seq q).queue.length ∧ ∃ lost, s.event q x y l d =
      (s.setSeq q { s.seq q with lost := lost }).count (F.SEQ_EVQ_STATUS_OVERFLOW q)) := by
  simp only [State.event]
  split
  · exact Or.inl ⟨‹_›, rfl⟩
  · exact Or.inr ⟨by omega, _, rfl⟩

/-- An event changes no register but the status of its queue. -/
theorem State.rd_event {q : SeqId} {x y : Nat} {l : Bool} {d a : Nat} (h : a ≠ A.SEQ_EVQ_STATUS q) :
    (s.event q x y l d).rd a = s.rd a := by
  rcases s.event_cases q x y l d with ⟨-, e⟩ | ⟨-, lost, e⟩
  · rw [e]; rfl
  · rw [e, State.rd_count]; exact State.rd_put_other _ _ h

/-- An event leaves the other sequencers as they are. -/
theorem State.seq_event_other {q r : SeqId} {x y : Nat} {l : Bool} {d : Nat} (h : r ≠ q) :
    (s.event q x y l d).seq r = s.seq r := by
  rcases s.event_cases q x y l d with ⟨-, e⟩ | ⟨-, lost, e⟩
  · rw [e]; exact s.seq_setSeq_other _ h
  · rw [e]; exact s.seq_setSeq_other _ h

/-- An event leaves what a lock looks at. -/
@[simp] theorem State.event_before (q : SeqId) (x y : Nat) (l : Bool) (d : Nat) :
    (s.event q x y l d).bus.before = s.bus.before := by
  rcases s.event_cases q x y l d with ⟨-, e⟩ | ⟨-, lost, e⟩
  · rw [e]; rfl
  · rw [e, State.count_before]; rfl

/-- A free value fits its width. -/
theorem State.draw_lt (w : Nat) : (s.draw w).1 < 2 ^ w := Nat.mod_lt _ (by positivity)

end Sys2Proof.Machine
end

