-- ==== Sys2Proof/Laws/Frames.lean ====
section
/-!
SUPPORT. Sys2Proof/Laws/Frames.lean: the frames of Safety.lean: that they are reflexive, compose and weaken, and what
frame each shared operation on registers has.
-/

namespace Sys2Proof.Machine

variable {s t u : State} {l m : List Fld}

theorem BitsKept.refl (l : List Fld) (s : State) : BitsKept l s s := fun _ _ _ _ => rfl

theorem BitsKept.trans (h : BitsKept l s t) (h' : BitsKept l t u) : BitsKept l s u :=
  fun a i hi hf => (h' a i hi hf).trans (h a i hi hf)

theorem BitsKept.mono (hs : l ⊆ m) (h : BitsKept l s t) : BitsKept m s t :=
  fun a i hi hf => h a i hi fun f hl => hf f (hs hl)

/-- States with the same registers keep every bit. -/
theorem BitsKept.of_regs (h : t.regs = s.regs) : BitsKept l s t := by
  intro a i _ _; simp [State.rd, h]

/-- A register that no field of the frame lies in keeps its word. -/
theorem BitsKept.rd_eq (h : BitsKept l s t) {a : Nat} (ha : ∀ f ∈ l, f.addr ≠ a) : t.rd a = s.rd a := by
  apply BitVec.eq_of_getLsbD_eq
  intro i hi
  exact h a i hi fun f hf e => absurd e (ha f hf)

/-- A field that no field of the frame overlaps keeps its value. -/
theorem BitsKept.get_eq (h : BitsKept l s t) {g : Fld} (hg : g.lo + g.w ≤ 32)
    (hd : ∀ f ∈ l, f.addr = g.addr → g.lo + g.w ≤ f.lo ∨ f.lo + f.w ≤ g.lo) : t.get g = s.get g := by
  apply Nat.eq_of_testBit_eq
  intro i
  unfold State.get
  rw [testBit_field, testBit_field]
  by_cases hi : i < g.w
  · have := h g.addr (g.lo + i) (by omega) fun f hf e => by
      rcases hd f hf e with h1 | h1 <;> omega
    simpa [hi, ← BitVec.testBit_toNat] using this
  · simp [hi]

theorem BitsKept.flag_eq (h : BitsKept l s t) {g : Fld} (hg : g.lo + g.w ≤ 32)
    (hd : ∀ f ∈ l, f.addr = g.addr → g.lo + g.w ≤ f.lo ∨ f.lo + f.w ≤ g.lo) : t.flag g = s.flag g := by
  simp [State.flag, h.get_eq hg hd]

/-- Writing a register touches it alone. -/
theorem State.wr_bitsKept (s : State) (a : Nat) (v : Word) : BitsKept [whole a] s (s.wr a v) := by
  intro b i hi hf
  have : b ≠ a := fun e => by
    have := hf (whole a) (by simp) (by simp [whole, e])
    simp [whole] at this; omega
  rw [s.rd_wr_other _ this]

/-- Writing a field touches it alone. -/
theorem State.put_bitsKept (s : State) (f : Fld) (v : Nat) : BitsKept [f] s (s.put f v) := by
  intro a i hi hf
  unfold State.put
  by_cases ha : a = f.addr
  · subst ha
    rw [State.rd_wr_same]
    have := hf f (by simp) rfl
    have h := testBit_withField (s.rd f.addr) f.lo f.w v i
    rw [BitVec.getLsbD, BitVec.getLsbD, h]
    rcases this with h1 | h1
    · simp [hi]; omega
    · simp [hi]; omega
  · rw [s.rd_wr_other _ ha]

/-- Noting what the device sets touches no register. -/
theorem State.noteHit_bitsKept (s : State) (f : Fld) (h : BitsKept l s t) : BitsKept l s (t.noteHit f) := h

theorem State.set_bitsKept (s : State) (f : Fld) : BitsKept [f] s (s.set f) := s.put_bitsKept f 1
theorem State.clr_bitsKept (s : State) (f : Fld) : BitsKept [f] s (s.clr f) := s.put_bitsKept f 0
theorem State.count_bitsKept (s : State) (f : Fld) : BitsKept [f] s (s.count f) := s.put_bitsKept f _
theorem State.countReg_bitsKept (s : State) (a : Nat) : BitsKept [whole a] s (s.countReg a) := s.put_bitsKept _ _
theorem State.wrapReg_bitsKept (s : State) (a : Nat) : BitsKept [whole a] s (s.wrapReg a) := s.wr_bitsKept _ _

theorem State.setIf_bitsKept (s : State) (b : Bool) (f : Fld) : BitsKept [f] s (s.setIf b f) := by
  unfold State.setIf
  split
  · exact s.set_bitsKept f
  · exact .refl _ _

/-- An event pushed touches at most the count of events lost. -/
theorem State.event_bitsKept (s : State) (q : SeqId) (x y : Nat) (late : Bool) (d : Nat) :
    BitsKept [F.SEQ_EVQ_STATUS_OVERFLOW q] s (s.event q x y late d) := by
  unfold State.event
  simp only
  split
  · exact .of_regs rfl
  · exact (BitsKept.of_regs rfl).trans (State.count_bitsKept _ _)

theorem State.sqsEvent_bitsKept (s : State) (x y d : Nat) :
    BitsKept [F.SEQ_EVQ_STATUS_OVERFLOW 4] s (s.sqsEvent x y d) := s.event_bitsKept sqsQ x y false d

/-- An operation applied for every item of a list touches what its applications touch. -/
theorem forAll_bitsKept {α : Type} {f : State → α → State} (items : List α) (h : ∀ s, ∀ x ∈ items, BitsKept l s (f s x)) :
    BitsKept l s (forAll items s f) := by
  induction items generalizing s with
  | nil => exact .refl _ _
  | cons x xs ih =>
    exact (h s x (by simp)).trans (ih fun s y hy => h s y (by simp [hy]))

theorem OnlyCycle.refl (s : State) : OnlyCycle s s := ⟨rfl, rfl⟩

theorem OnlyCycle.trans (h : OnlyCycle s t) (h' : OnlyCycle t u) : OnlyCycle s u := by
  refine ⟨?_, h'.2.trans h.2⟩
  have h1 := h.1
  have h2 := h'.1
  rw [h1] at h2
  exact h2

theorem State.put_onlyCycle (s : State) (f : Fld) (v : Nat) : OnlyCycle s (s.put f v) := ⟨rfl, rfl⟩
theorem State.noteHit_onlyCycle (s : State) (f : Fld) : OnlyCycle s (s.noteHit f) := ⟨rfl, s.noteHit_before f⟩
theorem State.set_onlyCycle (s : State) (f : Fld) : OnlyCycle s (s.set f) := ⟨rfl, s.set_before f⟩
theorem State.count_onlyCycle (s : State) (f : Fld) : OnlyCycle s (s.count f) := ⟨rfl, s.count_before f⟩

theorem OnlyBits.refl (l : List Fld) (s : State) : OnlyBits l s s := ⟨.refl s, .refl l s⟩

theorem OnlyBits.trans (h : OnlyBits l s t) (h' : OnlyBits l t u) : OnlyBits l s u := ⟨h.1.trans h'.1, h.2.trans h'.2⟩

theorem OnlyBits.mono (hs : l ⊆ m) (h : OnlyBits l s t) : OnlyBits m s t := ⟨h.1, h.2.mono hs⟩

theorem State.wr_onlyBits (s : State) (a : Nat) (v : Word) : OnlyBits [whole a] s (s.wr a v) :=
  ⟨⟨rfl, rfl⟩, s.wr_bitsKept a v⟩
theorem State.put_onlyBits (s : State) (f : Fld) (v : Nat) : OnlyBits [f] s (s.put f v) :=
  ⟨s.put_onlyCycle f v, s.put_bitsKept f v⟩
theorem State.set_onlyBits (s : State) (f : Fld) : OnlyBits [f] s (s.set f) := ⟨s.set_onlyCycle f, s.set_bitsKept f⟩
theorem State.clr_onlyBits (s : State) (f : Fld) : OnlyBits [f] s (s.clr f) := s.put_onlyBits f 0
theorem State.count_onlyBits (s : State) (f : Fld) : OnlyBits [f] s (s.count f) := ⟨s.count_onlyCycle f, s.count_bitsKept f⟩

theorem State.setIf_onlyBits (s : State) (b : Bool) (f : Fld) : OnlyBits [f] s (s.setIf b f) := by
  unfold State.setIf
  split
  · exact s.set_onlyBits f
  · exact .refl _ _

/-- A push of an event is what `Told` says. -/
theorem State.event_told (s : State) (q : SeqId) (x y : Nat) (late : Bool) (d : Nat) :
    Told q x y late d s (s.event q x y late d) := by
  refine ⟨fun r hr => s.seq_event_other hr, ?_⟩
  unfold State.event
  simp only
  split
  · refine ⟨?_, rfl⟩
    rw [State.seq_setSeq_same]
    rfl
  · refine ⟨?_, State.get_count _ (show 16 + 16 ≤ 32 by omega)⟩
    simp [State.count, State.seq_put]

theorem State.sqsEvent_told (s : State) (x y d : Nat) : Told 4 x y false d s (s.sqsEvent x y d) := s.event_told sqsQ x y false d

end Sys2Proof.Machine
end

