-- ==== Sys2Proof/Laws/Memory.lean ====
section
/-!
SUPPORT. Sys2Proof/Laws/Memory.lean: the memories: what a byte or a word reads as after each store, and that every
store keeps the canonical form.
-/

namespace Sys2Proof.Machine

/-! ### Runs of bytes and words -/

/-- The element at key `k` of `l` laid from key `a` on, `old` outside it. -/
def laid {α : Type} (a : Nat) (l : List α) (old : α) (k : Nat) : α := if a ≤ k then l.getD (k - a) old else old

theorem laid_nil {α : Type} (a k : Nat) (old : α) : laid a [] old k = old := by simp [laid]

/-- The run laid after its first element has been written. -/
theorem laid_cons {α : Type} (a k : Nat) (x : α) (t : List α) (old : α) :
    laid (a + 1) t (if k = a then x else old) k = laid a (x :: t) old k := by
  unfold laid
  by_cases h : k = a
  · subst h; simp
  · by_cases h2 : a ≤ k
    · have h3 : a + 1 ≤ k := by omega
      obtain ⟨j, rfl⟩ : ∃ j, k = a + 1 + j := ⟨k - (a + 1), by omega⟩
      have h4 : a + 1 + j - a = j + 1 := by omega
      simp [h, h2, h3, h4]
    · have h3 : ¬ a + 1 ≤ k := by omega
      simp [h, h2, h3]

/-- Outside the run nothing changes. -/
theorem laid_outside {α : Type} {a k : Nat} {l : List α} {old : α} (h : k < a ∨ a + l.length ≤ k) : laid a l old k = old := by
  unfold laid
  split
  · rw [List.getD_eq_default]; omega
  · rfl

/-- Within the run its element stands. -/
theorem laid_inside {α : Type} {a k : Nat} {l : List α} {old : α} (h1 : a ≤ k) (h2 : k - a < l.length) :
    laid a l old k = l[k - a] := by
  simp [laid, h1, h2]

/-- What a byte of the scene store reads as after a store of bytes (R168). -/
theorem storeBytes_get (b : List Byte) (m : Sparse Byte) (a k : Nat) :
    sparseGet (fun _ => 0) (storeBytes m a b) k = laid a b (sparseGet (fun _ => 0) m k) k := by
  induction b generalizing m a with
  | nil => simp [storeBytes, laid_nil]
  | cons x t ih => rw [storeBytes, ih, sparseGet_set, laid_cons]

theorem storeBytes_wf (b : List Byte) (m : Sparse Byte) (a : Nat) (h : sparseWf (fun _ => 0) m = true) :
    sparseWf (fun _ => 0) (storeBytes m a b) = true := by
  induction b generalizing m a with
  | nil => exact h
  | cons x t ih => exact ih _ _ (sparseWf_set _ _ _ h)

/-- What a byte of the token window reads as after a load (R537). -/
theorem storeWindow_get (b : List Byte) (m : Sparse Byte) (a k : Nat) :
    sparseGet (fun _ => 0) (storeWindow m a b) k = laid a b (sparseGet (fun _ => 0) m k) k := by
  induction b generalizing m a with
  | nil => simp [storeWindow, laid_nil]
  | cons x t ih => rw [storeWindow, ih, sparseGet_set, laid_cons]

theorem storeWindow_wf (b : List Byte) (m : Sparse Byte) (a : Nat) (h : sparseWf (fun _ => 0) m = true) :
    sparseWf (fun _ => 0) (storeWindow m a b) = true := by
  induction b generalizing m a with
  | nil => exact h
  | cons x t ih => exact ih _ _ (sparseWf_set _ _ _ h)

/-- What a byte of the boot flash reads as after a write (R422). -/
theorem storeFlash_get (b : List Byte) (m : Sparse Byte) (a k : Nat) :
    sparseGet (fun _ => 0xFF) (storeFlash m a b) k = laid a b (sparseGet (fun _ => 0xFF) m k) k := by
  induction b generalizing m a with
  | nil => simp [storeFlash, laid_nil]
  | cons x t ih => rw [storeFlash, ih, sparseGet_set, laid_cons]

theorem storeFlash_wf (b : List Byte) (m : Sparse Byte) (a : Nat) (h : sparseWf (fun _ => 0xFF) m = true) :
    sparseWf (fun _ => 0xFF) (storeFlash m a b) = true := by
  induction b generalizing m a with
  | nil => exact h
  | cons x t ih => exact ih _ _ (sparseWf_set _ _ _ h)

/-- What a word of instruction or data memory reads as after a segment is stored (R425). -/
theorem storeWords_get {w : Nat} (l : List Nat) (m : Sparse (BitVec w)) (a k : Nat) :
    sparseGet (fun _ => 0) (storeWords m a l) k = laid a (l.map (BitVec.ofNat w)) (sparseGet (fun _ => 0) m k) k := by
  induction l generalizing m a with
  | nil => simp [storeWords, laid_nil]
  | cons x t ih => rw [storeWords, ih, sparseGet_set, List.map_cons, laid_cons]

theorem storeWords_wf {w : Nat} (l : List Nat) (m : Sparse (BitVec w)) (a : Nat) (h : sparseWf (fun _ => 0) m = true) :
    sparseWf (fun _ => 0) (storeWords m a l) = true := by
  induction l generalizing m a with
  | nil => exact h
  | cons x t ih => exact ih _ _ (sparseWf_set _ _ _ h)

/-! ### DRAM -/

/-- What a byte reads as after the bytes of one word that `en` selects are stored. -/
theorem DramUnit.store_byte (b : List Byte) (d : DramUnit) (w en i k : Nat) :
    (d.store w en i b).byte k =
      if 64 * w + i ≤ k ∧ k - 64 * w < i + b.length ∧ bit en (k - 64 * w) = true then b.getD (k - 64 * w - i) 0 else d.byte k := by
  induction b generalizing d i with
  | nil =>
    rw [DramUnit.store, if_neg]
    simp only [List.length_nil]; omega
  | cons x t ih =>
    rw [DramUnit.store, ih]
    have hb : (if bit en i = true then { d with mem := sparseSet (fun _ => 0) d.mem (64 * w + i) x } else d).byte k =
        if k = 64 * w + i ∧ bit en i = true then x else d.byte k := by
      by_cases hi : bit en i = true
      · simp [hi, DramUnit.byte, sparseGet_set]
      · simp [hi]
    simp only [hb, List.length_cons]
    by_cases hk : k = 64 * w + i
    · subst hk
      have : ¬ 64 * w + (i + 1) ≤ 64 * w + i := by omega
      by_cases hi : bit en i = true <;> simp [hi, this]
    · simp only [hk, false_and, if_false]
      by_cases h1 : 64 * w + (i + 1) ≤ k
      · obtain ⟨j, rfl⟩ : ∃ j, k = 64 * w + (i + 1) + j := ⟨k - (64 * w + (i + 1)), by omega⟩
        have e1 : 64 * w + (i + 1) + j - 64 * w = i + 1 + j := by omega
        have e2 : i + 1 + j - i = j + 1 := by omega
        have e3 : i + 1 + j - (i + 1) = j := by omega
        have e4 : 64 * w + i ≤ 64 * w + (i + 1) + j := by omega
        rw [e1, e2, e3]
        simp only [e4, h1, true_and, List.getD_cons_succ]
        congr 1
        simp only [eq_iff_iff, and_congr_left_iff]
        intro; omega
      · rw [if_neg (by omega), if_neg (by omega)]

theorem DramUnit.store_wf (b : List Byte) (d : DramUnit) (w en i : Nat) (h : sparseWf (fun _ => 0) d.mem = true) :
    sparseWf (fun _ => 0) (d.store w en i b).mem = true := by
  induction b generalizing d i with
  | nil => exact h
  | cons x t ih =>
    rw [DramUnit.store]
    apply ih
    split
    · exact sparseWf_set _ _ _ h
    · exact h

/-- A store changes nothing but the bytes. -/
theorem DramUnit.store_rest (b : List Byte) (d : DramUnit) (w en i : Nat) :
    d.store w en i b = { d with mem := (d.store w en i b).mem } := by
  induction b generalizing d i with
  | nil => rfl
  | cons x t ih =>
    rw [DramUnit.store]
    split <;> · conv_lhs => rw [ih]

/-! ### Sequencer memories -/

/-- What a word of data memory reads as after a store (R101): the one written, else as before. -/
theorem Seq.dmemRd_dmemWr (c : Seq) (a b : Nat) (v : Word) :
    (c.dmemWr a v).dmemRd b = if b % 65536 / 4 = a % 65536 / 4 then v else c.dmemRd b := by
  simp [Seq.dmemRd, Seq.dmemWr, sparseGet_set]

theorem Seq.dmemWr_wf (c : Seq) (a : Nat) (v : Word) (h : c.wf = true) : (c.dmemWr a v).wf = true := by
  simp only [Seq.wf, Bool.and_eq_true] at h ⊢
  exact ⟨h.1, sparseWf_set _ _ _ h.2⟩

/-! ### The whole state -/

theorem State.wf_iff (s : State) :
    s.wf = true ↔ sparseWf resetWord s.regs = true ∧ sparseWf resetWord s.live = true ∧
      sparseWf (fun _ => {}) s.sess = true ∧ sparseWf (fun _ => 0) s.ing.scene = true ∧
      sparseWf (fun _ => 0) s.ing.hpos = true ∧ sparseWf (fun _ => 0) s.ing.kinds = true ∧
      sparseWf (fun _ => 0xFF) s.rot.flash = true ∧ sparseWf (fun _ => 0) s.rot.window = true ∧
      (∀ q, (s.seq q).wf = true) ∧ ∀ n, sparseWf (fun _ => 0) (s.dr n).mem = true := by
  have hq : ∀ p : QuadId → Bool, allQuads.all p = true ↔ ∀ n, p n = true := by
    intro p
    simp only [allQuads, List.all_cons, List.all_nil, Bool.and_true, Bool.and_eq_true]
    refine ⟨fun ⟨h0, h1, h2, h3⟩ n => ?_, fun h => ⟨h 0, h 1, h 2, h 3⟩⟩
    match n with | 0 => exact h0 | 1 => exact h1 | 2 => exact h2 | 3 => exact h3
  have h5 : ∀ p : SeqId → Bool, (fins 5).all p = true ↔ ∀ n, p n = true := by
    intro p; simp [fins, List.all_eq_true]
  simp only [State.wf, Bool.and_eq_true, hq, h5]
  tauto

/-- The stores of the device at reset are canonical. -/
theorem State.reset_wf : State.reset.wf = true := by decide

variable {s : State}

/-- Writing a register keeps the canonical form. -/
theorem State.wr_wf (a : Nat) (v : Word) (h : s.wf = true) : (s.wr a v).wf = true := by
  rw [State.wf_iff] at h ⊢
  exact ⟨sparseWf_set _ _ _ h.1, h.2⟩

theorem State.put_wf (f : Fld) (v : Nat) (h : s.wf = true) : (s.put f v).wf = true := State.wr_wf _ _ h

/-- Writing a live value keeps the canonical form. -/
theorem State.liveWr_wf (a : Nat) (v : Word) (h : s.wf = true) : (s.liveWr a v).wf = true := by
  rw [State.wf_iff] at h ⊢
  exact ⟨h.1, sparseWf_set _ _ _ h.2.1, h.2.2⟩

/-- Writing a session keeps the canonical form. -/
theorem State.setSession_wf (i : Nat) (x : Session) (h : s.wf = true) : (s.setSession i x).wf = true := by
  rw [State.wf_iff] at h ⊢
  exact ⟨h.1, h.2.1, sparseWf_set _ _ _ h.2.2.1, h.2.2.2⟩

/-- A sequencer with canonical memories may replace one. -/
theorem State.setSeq_wf (q : SeqId) (c : Seq) (h : s.wf = true) (hc : c.wf = true) : (s.setSeq q c).wf = true := by
  rw [State.wf_iff] at h ⊢
  obtain ⟨h1, h2, h3, h4, h5, h6, h7, h8, h9, h10⟩ := h
  refine ⟨h1, h2, h3, h4, h5, h6, h7, h8, fun r => ?_, h10⟩
  rw [State.seq_setSeq]
  split
  · exact hc
  · exact h9 r

/-- What quadrant `m`'s controller is after quadrant `n`'s has been replaced. -/
theorem State.dr_setDr (n m : QuadId) (d : DramUnit) : (s.setDr n d).dr m = if m = n then d else s.dr m := by
  unfold State.dr State.setDr
  simp only [Fin.getElem_fin, Vector.getElem_set]
  by_cases h : m = n
  · subst h; simp
  · have : n.val ≠ m.val := fun e => h (Fin.ext e.symm)
    simp [h, this]

/-- A controller with a canonical memory may replace one. -/
theorem State.setDr_wf (n : QuadId) (d : DramUnit) (h : s.wf = true) (hd : sparseWf (fun _ => 0) d.mem = true) :
    (s.setDr n d).wf = true := by
  rw [State.wf_iff] at h ⊢
  obtain ⟨h1, h2, h3, h4, h5, h6, h7, h8, h9, h10⟩ := h
  refine ⟨h1, h2, h3, h4, h5, h6, h7, h8, h9, fun m => ?_⟩
  rw [State.dr_setDr]
  split
  · exact hd
  · exact h10 m

/-- A write to the scene store gives its bytes there and leaves every other byte. -/
theorem State.sceneByte_sceneWrite (a k : Nat) (b : List Byte) :
    (s.sceneWrite a b).sceneByte k = laid a b (s.sceneByte k) k := storeBytes_get _ _ _ _

theorem State.sceneWrite_wf (a : Nat) (b : List Byte) (h : s.wf = true) : (s.sceneWrite a b).wf = true := by
  rw [State.wf_iff] at h ⊢
  obtain ⟨h1, h2, h3, h4, h⟩ := h
  exact ⟨h1, h2, h3, storeBytes_wf _ _ _ h4, h⟩

/-- A segment written keeps the canonical form. -/
theorem State.writeSegment_wf (g : Segment) (h : s.wf = true) : (s.writeSegment g).wf = true := by
  have hc : (s.seq g.seq).wf = true := ((State.wf_iff s).mp h).2.2.2.2.2.2.2.2.1 _
  apply State.setSeq_wf _ _ h
  simp only [Seq.wf, Bool.and_eq_true] at hc
  split
  · simp only [Seq.wf, Bool.and_eq_true]; exact ⟨hc.1, storeWords_wf _ _ _ hc.2⟩
  · simp only [Seq.wf, Bool.and_eq_true]; exact ⟨storeWords_wf _ _ _ hc.1, hc.2⟩

/-- An event pushed keeps the canonical form. -/
theorem State.event_wf (q : SeqId) (x y : Nat) (l : Bool) (d : Nat) (h : s.wf = true) : (s.event q x y l d).wf = true := by
  have hc : (s.seq q).wf = true := ((State.wf_iff s).mp h).2.2.2.2.2.2.2.2.1 _
  unfold State.event
  simp only
  split
  · exact State.setSeq_wf _ _ h hc
  · exact State.put_wf _ _ (State.setSeq_wf _ _ h hc)

/-- An operation that is applied for every item of a list keeps what each application keeps. -/
theorem forAll_keeps {α : Type} {P : State → Prop} {f : State → α → State} (hf : ∀ s x, P s → P (f s x)) (l : List α)
    (s : State) (h : P s) : P (forAll l s f) := by
  induction l generalizing s with
  | nil => exact h
  | cons x t ih => exact ih (f s x) (hf s x h)

end Sys2Proof.Machine
end

