-- ==== Sys2Proof/Laws/Porow.lean ====
section
/-!
SUPPORT. Sys2Proof/Laws/Porow.lean: what each shared operation of the sequencers does: issuing, writing a register,
faulting.
-/

namespace Sys2Proof.Machine

variable {s : State} {q : SeqId}

/-- An instruction that is fetched runs. -/
theorem State.issue_of_fetches {i : POp} {body : State → State} (h : Fetches s q i) : s.issue q i body = body s := by
  obtain ⟨h1, h2, h3⟩ := h
  simp [State.issue, h1, h2, h3]

/-- A sequencer that is not RUNNING issues nothing. -/
theorem State.issue_of_not_running {i : POp} {body : State → State} (h : (s.seq q).run ≠ .running) :
    s.issue q i body = s := by simp [State.issue, h]

/-- A word that is no instruction faults. -/
theorem State.issue_of_illegal {i : POp} {body : State → State} (h1 : (s.seq q).run = .running)
    (h2 : (s.seq q).fetchHeld = false) (h3 : decodePorow ((s.seq q).imemRd (s.seq q).pc) = none) :
    s.issue q i body = s.seqFault q .illegalOp := by simp [State.issue, h1, h2, h3]

/-- What any issue does: nothing, a stalled fetch, an illegal word's fault, or the instruction. -/
theorem State.issue_cases (i : POp) (body : State → State) :
    s.issue q i body = s ∨ s.issue q i body = s.setSeq q { s.seq q with run := .stalled, busy := .fetch } ∨
      s.issue q i body = s.seqFault q .illegalOp ∨ (Fetches s q i ∧ s.issue q i body = body s) := by
  unfold State.issue
  by_cases h1 : (s.seq q).run = .running <;> simp only [h1, ne_eq, not_true_eq_false, if_false, not_false_eq_true, if_true,
    true_or]
  by_cases h2 : (s.seq q).fetchHeld = true <;> simp only [h2, if_true, true_or, or_true]
  simp only [Bool.false_eq_true, if_false]
  split
  · simp
  · next j hj =>
    split
    · next e => subst e; exact Or.inr (Or.inr (Or.inr ⟨⟨h1, by simpa using h2, hj⟩, rfl⟩))
    · simp

@[simp] theorem Seq.gr_setGr_same (c : Seq) (d : GReg) (v : Word) : (c.setGr d v).gr d = v := by
  simp [Seq.gr, Seq.setGr]

theorem Seq.gr_setGr_other (c : Seq) {d r : GReg} (v : Word) (h : r ≠ d) : (c.setGr d v).gr r = c.gr r := by
  have : (d : Nat) ≠ (r : Nat) := fun e => h (Fin.ext e.symm)
  simp [Seq.gr, Seq.setGr, Vector.getElem_set_ne, this]

@[simp] theorem Seq.tr_setTr_same (c : Seq) (d : TReg) (v : TimeVal) : (c.setTr d v).tr d = v := by
  simp [Seq.tr, Seq.setTr]

theorem Seq.tr_setTr_other (c : Seq) {d r : TReg} (v : TimeVal) (h : r ≠ d) : (c.setTr d v).tr r = c.tr r := by
  have : (d : Nat) ≠ (r : Nat) := fun e => h (Fin.ext e.symm)
  simp [Seq.tr, Seq.setTr, Vector.getElem_set_ne, this]

/-- An instruction that writes one general register. -/
theorem State.alu_writesGen {i : POp} {d : GReg} {f : Seq → Word} (h : Fetches s q i) :
    WritesGen q d (f (s.seq q)) s (s.alu q i d f) := by
  unfold State.alu
  rw [State.issue_of_fetches h]
  refine ⟨by simp [OnlySeq, State.step1], ?_, ?_, ?_⟩
  · simp [State.step1, Seq.next, Seq.setGr]
  · simp [State.step1, Seq.next, Seq.setGr, Seq.gr]
  · intro r hr
    simpa [State.step1, Seq.next, Seq.gr, Seq.setGr] using Seq.gr_setGr_other (s.seq q) (f (s.seq q)) hr

end Sys2Proof.Machine
end

