-- ==== Sys2Proof/Tests/Slice0.lean ====
section
/-!
SUPPORT. Sys2Proof/Tests/Slice0.lean: the model's own tests: ill-formed terms refused, instruction words written out
from the encoding tables, results from the spec's examples, and, for every statement with hypotheses, a concrete state
and operands that meet them.
-/

namespace Sys2Proof.Tests

open Sys2Proof Sys2Proof.Machine

set_option Elab.async false

/-! ### Helpers -/

/-- The device after reset with sequencer `q` as `c`. -/
def withSeq (q : SeqId) (c : Seq) : State := State.reset.setSeq q c

/-- Sequencer state `c`, RUNNING at address 0 with the word of `i` there. -/
def runs (i : POp) (c : Seq := {}) : Seq := { c with run := .running, imem := [(0, encodePorow i)] }

/-- The device after reset with sequencer `q` about to issue `i`. -/
def issuing (q : SeqId) (i : POp) : State := withSeq q (runs i)

/-- The device after reset with registers holding `l`, in order of address. -/
def withRegs (l : List (Nat × Word)) : State := { State.reset with regs := l }

/-- What `exec` answers, where it is a next state. -/
def after (c : Instr) (s : State) : State := match exec c s with | .next t => t | _ => State.reset

/-! ### Well-formedness -/

theorem test_pop_of_g1_ill_formed : (POp.pop 1).wellFormed = false := by decide
theorem test_pop_of_g4_well_formed : (POp.pop 4).wellFormed = true := by decide
theorem test_tcmp_ltu_ill_formed : (POp.tcmp .ltu 0 1).wellFormed = false := by decide
theorem test_tcmp_geu_ill_formed : (POp.tcmp .geu 0 1).wellFormed = false := by decide
theorem test_tcmp_lt_well_formed : (POp.tcmp .lt 0 1).wellFormed = true := by decide

/-! ### Instruction words, written out from the encoding tables (R97 to R114) and the spec's worked encodings -/

theorem test_word_wri : decodePorow 0x520040C16553F10B = some (.wri 0x0040C1 0x6553F10B) := by decide +kernel
theorem test_word_wr : decodePorow 0x5100800500000002 = some (.wr 0x008005 2) := by decide +kernel
theorem test_word_waitL : decodePorow 0x811000000000FFC0 = some (.waitL 1 (.imm (-64))) := by decide +kernel
theorem test_word_armL : decodePorow 0x858000000000FFF0 = some (.armL 8 (.imm (-16)) 0) := by decide +kernel
theorem test_word_pop : decodePorow 0x6040000000000000 = some (.pop 4) := by decide +kernel
theorem test_word_cmpi : decodePorow 0x2109000000000011 = some (.cmpi .eq 9 0x11) := by decide +kernel
theorem test_word_event : decodePorow 0x9180000100000000 = some (.event false .host 8 0) := by decide +kernel
theorem test_word_commit : decodePorow 0x9000000F00000000 = some (.commit 0xF) := by decide +kernel
theorem test_word_tline : decodePorow 0x7840C2000000FFC0 = some (.tline 1 12 2 (.imm (-64))) := by decide +kernel
theorem test_word_add : decodePorow 0x0112300000000000 = some (.add 1 2 3) := by decide +kernel
theorem test_word_brNp : decodePorow 0x3200000000007FFF = some (.brNp 0x7FFF) := by decide +kernel
theorem test_word_ld : decodePorow 0x401200000000FFFC = some (.ld 1 2 0xFFFC) := by decide +kernel
theorem test_word_fence : decodePorow 0x8321800000000000 = some (.fence 2 1 2) := by decide +kernel
theorem test_word_with_reserved_bit : decodePorow 0x0112300100000000 = none := by decide +kernel
theorem test_word_undefined_condition : decodePorow 0x2001206000000000 = none := by decide +kernel
theorem test_word_shift_of_32 : decodePorow 0x1612000000000020 = none := by decide +kernel
theorem test_word_zero : decodePorow 0 = none := by decide +kernel

/-! ### Hypotheses that are met: instructions of the sequencers -/

theorem test_met_PorowAlu :
    Fetches (issuing 0 (.add 1 2 3)) 0 (.add 1 2 3) ∧ Fetches (issuing 1 (.sub 1 2 3)) 1 (.sub 1 2 3) ∧
    Fetches (issuing 2 (.mul 15 15 15)) 2 (.mul 15 15 15) ∧ Fetches (issuing 3 (.mov 0 1)) 3 (.mov 0 1) ∧
    Fetches (issuing 4 (.addi 1 1 (-1))) 4 (.addi 1 1 (-1)) ∧ Fetches (issuing 4 (.li 0 7)) 4 (.li 0 7) ∧
    Fetches (issuing 0 (.and 1 2 3)) 0 (.and 1 2 3) ∧ Fetches (issuing 0 (.or 1 2 3)) 0 (.or 1 2 3) ∧
    Fetches (issuing 0 (.xor 1 2 3)) 0 (.xor 1 2 3) ∧ Fetches (issuing 0 (.andi 1 2 3)) 0 (.andi 1 2 3) ∧
    Fetches (issuing 0 (.ori 1 2 3)) 0 (.ori 1 2 3) ∧ Fetches (issuing 0 (.xori 1 2 3)) 0 (.xori 1 2 3) ∧
    Fetches (issuing 0 (.shl 1 2 3)) 0 (.shl 1 2 3) ∧ Fetches (issuing 0 (.shr 1 2 3)) 0 (.shr 1 2 3) ∧
    Fetches (issuing 0 (.sar 1 2 3)) 0 (.sar 1 2 3) ∧ Fetches (issuing 0 (.shli 1 2 31)) 0 (.shli 1 2 31) ∧
    Fetches (issuing 0 (.shri 1 2 0)) 0 (.shri 1 2 0) ∧ Fetches (issuing 0 (.sari 1 2 31)) 0 (.sari 1 2 31) := by
  unfold Fetches; decide +kernel

/-- ADD of 0xFFFFFFFF and 2 wraps to 1 (R98). -/
theorem test_add_wraps : (((after (.add 0 1 2 3)
    (withSeq 0 (runs (.add 1 2 3) { g := #v[0, 0, 0xFFFFFFFF, 2, 0, 0, 0, 0, 0, 0, 0, 0, 0, 0, 0, 0] }))).seq 0).gr 1) = 1 := by
  decide +kernel

/-- SAR keeps the sign, and takes only five bits of the count (R98). -/
theorem test_sar_keeps_sign : (((after (.sar 0 1 2 3)
    (withSeq 0 (runs (.sar 1 2 3) { g := #v[0, 0, 0x80000000, 0x24, 0, 0, 0, 0, 0, 0, 0, 0, 0, 0, 0, 0] }))).seq 0).gr 1)
      = 0xF8000000 := by
  decide +kernel

theorem test_met_compares :
    Fetches (issuing 0 (.cmp .ltu 2 3)) 0 (.cmp .ltu 2 3) ∧ Fetches (issuing 0 (.cmpi .ge 2 3)) 0 (.cmpi .ge 2 3) ∧
    Fetches (issuing 0 (.tcmp .lt 2 3)) 0 (.tcmp .lt 2 3) := by
  unfold Fetches; decide +kernel

/-- LT compares as signed, LTU as unsigned (R99). -/
theorem test_cmp_signed : ((after (.cmpi 0 .lt 2 0)
    (withSeq 0 (runs (.cmpi .lt 2 0) { g := Vector.replicate 16 0x80000000 }))).seq 0).p = true := by decide +kernel

theorem test_met_branches :
    Fetches (issuing 0 (.br 0x7FFF)) 0 (.br 0x7FFF) ∧ Fetches (issuing 0 (.brP 1)) 0 (.brP 1) ∧
    Fetches (issuing 0 (.brNp 1)) 0 (.brNp 1) ∧ Fetches (issuing 0 .nop) 0 .nop ∧ Fetches (issuing 0 .halt) 0 .halt ∧
    (let s := withSeq 0 (runs (.call 9) { stack := List.replicate 15 0 });
     Fetches s 0 (.call 9) ∧ (s.seq 0).stack.length < 16) ∧
    (let s := withSeq 0 (runs .ret { stack := [5] });
     Fetches s 0 .ret ∧ (s.seq 0).stack = [5]) := by
  unfold Fetches; decide +kernel

/-- CALL pushes the address after it, and RET pops it (R100). -/
theorem test_call : ((after (.call 0 9) (issuing 0 (.call 9))).seq 0).stack = [1]
    ∧ ((after (.call 0 9) (issuing 0 (.call 9))).seq 0).pc = 9 := by decide +kernel

theorem test_met_PorowControlFlow :
    (let s := withSeq 4 { run := .running };
     (s.seq 4).fetchHeld = false ∧ decodePorow ((s.seq 4).imemRd (s.seq 4).pc) = none ∧
       porowRow (.nop 4) = some (4, .nop) ∧ s.flag F.KNL_CTRL_SQS_FAULT = false ∧ s.net.mtx.length < 64) ∧
    (let s := issuing 1 (.ld 0 1 1); Fetches s 1 (.ld 0 1 1) ∧
      (((s.seq 1).gr 1).toNat + (1 : BitVec 16).toInt) % 4 ≠ 0) ∧
    (let s := issuing 1 (.tld 0 1 2); Fetches s 1 (.tld 0 1 2) ∧ (((s.seq 1).gr 1).toNat + (2 : BitVec 16).toInt) % 4 ≠ 0) ∧
    (let s := issuing 1 (.tst 0 1 3); Fetches s 1 (.tst 0 1 3) ∧ (((s.seq 1).gr 1).toNat + (3 : BitVec 16).toInt) % 4 ≠ 0) ∧
    (let s := issuing 1 (.st 0 1 0xFFFF); Fetches s 1 (.st 0 1 0xFFFF) ∧
      (((s.seq 1).gr 1).toNat + (0xFFFF : BitVec 16).toInt) % 4 ≠ 0) ∧
    (let s := withSeq 0 (runs (.call 9) { stack := List.replicate 16 0 });
     Fetches s 0 (.call 9) ∧ (s.seq 0).stack.length = 16) ∧
    (Fetches (issuing 0 .ret) 0 .ret ∧ ((issuing 0 .ret).seq 0).stack = []) := by
  unfold Fetches; decide +kernel

theorem test_met_PorowLoadsStores :
    Fetches (issuing 0 (.ld 1 2 0xFFFC)) 0 (.ld 1 2 0xFFFC) ∧ Fetches (issuing 0 (.st 1 2 0)) 0 (.st 1 2 0) ∧
    Fetches (issuing 0 (.tld 3 2 0xFFFC)) 0 (.tld 3 2 0xFFFC) ∧ Fetches (issuing 0 (.tst 3 2 0xFFF8)) 0 (.tst 3 2 0xFFF8) ∧
    ((((issuing 0 (.ld 1 2 0xFFFC)).seq 0).gr 2).toNat + (0xFFFC : BitVec 16).toInt) % 65536 % 4 = 0 := by
  unfold Fetches; decide +kernel

/-- TST at the top of data memory wraps: SEC_LO goes to address 0 (R101). -/
theorem test_tst_wraps : (((after (.tst 0 1 0 0xFFFC)
    (withSeq 0 (runs (.tst 1 0 0xFFFC) { t := #v[{}, ⟨0x500000007, 3⟩, {}, {}] }))).seq 0).dmem)
      = [(0, 7), (1, 5), (16383, 3)] := by decide +kernel

theorem test_met_PorowTime :
    Fetches (issuing 0 (.tmov 1 2)) 0 (.tmov 1 2) ∧ Fetches (issuing 0 (.tadd 1 2 3)) 0 (.tadd 1 2 3) ∧
    Fetches (issuing 0 (.taddi 1 2 3)) 0 (.taddi 1 2 3) ∧ Fetches (issuing 0 (.tadds 1 2 3)) 0 (.tadds 1 2 3) ∧
    Fetches (issuing 0 (.tput 1 2 .secLo)) 0 (.tput 1 2 .secLo) ∧ Fetches (issuing 0 (.tput 1 2 .secHi)) 0 (.tput 1 2 .secHi) ∧
    Fetches (issuing 0 (.tput 1 2 .ns)) 0 (.tput 1 2 .ns) ∧ Fetches (issuing 0 (.tget 1 2 .ns)) 0 (.tget 1 2 .ns) ∧
    Fetches (issuing 0 (.tget 1 2 .secLo)) 0 (.tget 1 2 .secLo) ∧ Fetches (issuing 0 (.tget 1 2 .secHi)) 0 (.tget 1 2 .secHi) ∧
    Fetches (issuing 0 (.tsub 1 2 3)) 0 (.tsub 1 2 3) ∧
    Fetches (issuing 0 (.tline 1 12 2 (.imm (-64)))) 0 (.tline 1 12 2 (.imm (-64))) ∧
    Fetches (issuing 0 (.tline 1 12 2 (.reg 5))) 0 (.tline 1 12 2 (.reg 5)) ∧
    (issuing 0 (.tline 1 12 2 (.reg 5))).atCycleStart.cadenceOk = false ∧
    (let s : State := { issuing 0 (.tline 1 12 2 (.imm 0)) with bus := { before := { regs := [(A.SCAN_VTIMING, 0x00100008)] } } };
     Fetches s 0 (.tline 1 12 2 (.imm 0)) ∧ s.cadenceOk = false ∧ s.atCycleStart.cadenceOk = true) := by
  unfold Fetches; decide +kernel

/-- TADDI of -1 to 0 borrows a second, modulo 2^64 (R109). -/
theorem test_taddi_borrows : ((after (.taddi 0 1 2 0xFFFFFFFF) (issuing 0 (.taddi 1 2 0xFFFFFFFF))).seq 0).tr 1
    = ⟨0xFFFFFFFFFFFFFFFF, 999999999⟩ := by decide +kernel

/-- Without a cadence TLINE gives 0 and 0x80000000 (R110). -/
theorem test_tline_without_cadence : (((after (.tline 0 1 12 2 (.imm 0)) (issuing 0 (.tline 1 12 2 (.imm 0)))).seq 0).gr 12)
    = 0x80000000 := by decide +kernel

theorem test_met_PorowReads :
    (let s := issuing 4 (.rd 1 0x004001); Fetches s 4 (.rd 1 0x004001) ∧ (s.reach (masterOf 4) 0x10004 false).fault = none) ∧
    (let s := issuing 4 (.rdIndirect 1 2); Fetches s 4 (.rdIndirect 1 2) ∧ ((s.seq 4).gr 2).toNat < 2 ^ 26 ∧
      (s.reach (masterOf 4) 0 false).fault = none) ∧
    (let s := issuing 4 (.popQ 1 0x004001); Fetches s 4 (.popQ 1 0x004001)) ∧
    (let s := issuing 4 (.trd 1 0x004001); Fetches s 4 (.trd 1 0x004001) ∧
      (s.reach (masterOf 4) 0x10008 false).fault = none ∧ (s.reach (masterOf 4) 0x1000C false).fault = none) ∧
    (let s := issuing 4 (.rmw (BitVec.ofNat 24 (A.PWR_WAKE_NS / 4)) 2 3); Fetches s 4 (.rmw (BitVec.ofNat 24 (A.PWR_WAKE_NS / 4)) 2 3) ∧
      s.reach (masterOf 4) A.PWR_WAKE_NS true = .regs [A.PWR_WAKE_NS] ∧ rmwBars (masterOf 4) A.PWR_WAKE_NS = false ∧
      (s.reach (masterOf 4) A.PWR_WAKE_NS false).fault = none ∧ (s.seq 4).posted = []) := by
  unfold Fetches; decide +kernel

theorem test_met_read_returns :
    (let s := withSeq 4 { run := .stalled, busy := .read 0x10004 (.gen 1), haltReq := true };
     (s.seq 4).run = .stalled ∧ (s.seq 4).posted = [] ∧ (s.seq 4).busy = .read 0x10004 (.gen 1) ∧
     s.popWaits (masterOf 4) 0x10004 = false) ∧
    (let s := withSeq 4 { run := .stalled, busy := .read 0x10004 (.popQ 1) }; (s.seq 4).busy = .read 0x10004 (.popQ 1)) ∧
    (let s := withSeq 4 { run := .stalled, busy := .read 0x10004 (.time 1) }; (s.seq 4).busy = .read 0x10004 (.time 1)) ∧
    (let s := withSeq 4 { run := .stalled, busy := .read A.PWR_WAKE_NS (.rmw 0xFF 1) };
     (s.seq 4).busy = .read A.PWR_WAKE_NS (.rmw 0xFF 1) ∧ s.popWaits (masterOf 4) A.PWR_WAKE_NS = false) ∧
    (let u := withSeq 4 { posted := [⟨A.PWR_WAKE_NS, [1], some 0xFF⟩] };
     (u.seq 4).posted = [⟨A.PWR_WAKE_NS, [1], some 0xFF⟩] ∧ (u.seq 4).busy = .none ∧
     u.reach (masterOf 4) A.PWR_WAKE_NS true = .regs [A.PWR_WAKE_NS] ∧
     u.reach (masterOf 4) A.PWR_WAKE_NS false = .regs [A.PWR_WAKE_NS] ∧ writeTo A.PWR_WAKE_NS = .plain ∧
     ((regRow A.PWR_WAKE_NS).map fun row => (row.rwl, row.rws, row.w1c, row.ctr)) = some (0, 0, 0, []) ∧
     Unopposed (masterOf 4) A.PWR_WAKE_NS A.PWR_WAKE_NS u) := by
  unfold Unopposed Undriven; decide +kernel

/-- Under a WHISTLE_MASK of 0 an RMW of a write-1-to-clear register through Whistle is still forbidden (R69). -/
theorem test_rmw_whistle_w1c : rmwBars .sqs (0x2000000 + A.SCAN_FLAGS 0 % 0x400000) = true := by decide +kernel

theorem test_met_PorowPostedWrites :
    (let s := issuing 4 (.wr 0x04C006 1); Fetches s 4 (.wr 0x04C006 1) ∧ (s.reach (masterOf 4) 0x130018 true).fault = none) ∧
    (let s := issuing 4 (.wri 0x04C006 1); Fetches s 4 (.wri 0x04C006 1)) ∧
    (let s := withSeq 4 (runs (.wrIndirect 1 2) { g := Vector.replicate 16 0x130018 });
     Fetches s 4 (.wrIndirect 1 2) ∧ ((s.seq 4).gr 1).toNat < 2 ^ 26 ∧ (s.reach (masterOf 4) 0x130018 true).fault = none) ∧
    Fetches (issuing 4 (.push 0x04C006 1)) 4 (.push 0x04C006 1) ∧ Fetches (issuing 4 (.droppkt 0x04C006)) 4 (.droppkt 0x04C006) ∧
    (let s := issuing 4 (.twr 0x04C004 1); Fetches s 4 (.twr 0x04C004 1) ∧ (s.reach (masterOf 4) 0x130010 true).fault = none ∧
      (s.reach (masterOf 4) 0x130014 true).fault = none) := by
  unfold Fetches; decide +kernel

/-- A ninth write finds no free entry of eight, and the sequencer waits (R67). -/
theorem test_ninth_write_waits :
    after (.wr 4 0x04C006 1) (withSeq 4 (runs (.wr 0x04C006 1) { posted := List.replicate 8 ⟨0x130018, [0], none⟩ }))
      = withSeq 4 (runs (.wr 0x04C006 1) { posted := List.replicate 8 ⟨0x130018, [0], none⟩ }) := by decide +kernel

theorem test_met_WhistleFaults :
    Fetches (issuing 3 (.wri 0x8FFFFF 1)) 3 (.wri 0x8FFFFF 1) ∧ (0x2000000 ≤ 0x8FFFFF * 4 ∧ 0x8FFFFF * 4 < 0x2400000) ∧
    (let s := withSeq 3 (runs (.wrIndirect 1 2) { g := Vector.replicate 16 0x2000000 });
     Fetches s 3 (.wrIndirect 1 2) ∧ 0x2000000 ≤ ((s.seq 3).gr 1).toNat ∧ ((s.seq 3).gr 1).toNat < 0x2400000) := by
  unfold Fetches; decide +kernel

theorem test_met_AccessesOutsideReach :
    (let s := issuing 0 (.wr (BitVec.ofNat 24 (A.DRAM_CFG 1 / 4)) 1); Fetches s 0 (.wr (BitVec.ofNat 24 (A.DRAM_CFG 1 / 4)) 1) ∧
      quadBase 1 ≤ A.DRAM_CFG 1 ∧ A.DRAM_CFG 1 < quadBase 1 + 0x400000 ∧ (blockOf (A.DRAM_CFG 1)).isSome = true) ∧
    (Fetches (issuing 0 (.wr 0x04C006 1)) 0 (.wr 0x04C006 1) ∧ (blockOf 0x130018).isSome = true ∧
      ∀ e : Fin 5, 0x130018 ≠ A.SEQ_POST e) ∧
    Fetches (issuing 4 (.wr 0xCFFFFF 1)) 4 (.wr 0xCFFFFF 1) ∧ Fetches (issuing 0 (.rd 1 0x3FFFFF)) 0 (.rd 1 0x3FFFFF) ∧
    (let s := withSeq 0 (runs (.rdIndirect 1 2) { g := Vector.replicate 16 0x4000000 });
     Fetches s 0 (.rdIndirect 1 2) ∧ 2 ^ 26 ≤ ((s.seq 0).gr 2).toNat) ∧
    (let s := withSeq 0 (runs (.wrIndirect 1 2) { g := Vector.replicate 16 0xFFFFFFFF });
     Fetches s 0 (.wrIndirect 1 2) ∧ 2 ^ 26 ≤ ((s.seq 0).gr 1).toNat) := by
  unfold Fetches; decide +kernel

theorem test_met_EventQueueRules :
    (let s := withSeq 2 (runs (.pop 12) { queue := [{ source := 3, code := 4, data := 5 }] });
     Fetches s 2 (.pop 12) ∧ (s.seq 2).queue = [{ source := 3, code := 4, data := 5 }] ∧
     ({ source := 3, code := 4, data := 5 } : EvEntry).born ≠ some s.wt.cycle ∧ s.cycleWrites (A.SEQ_POST 2) = []) ∧
    (let s := withSeq 2 (runs (.pop 12) { queue := [{ source := 3, born := some 0 }] });
     Fetches s 2 (.pop 12) ∧ (s.seq 2).queue = [{ source := 3, born := some 0 }] ∧ s.wt.cycle = 0) ∧
    (Fetches (issuing 2 (.pop 12)) 2 (.pop 12) ∧ ((issuing 2 (.pop 12)).seq 2).queue = []) ∧
    (13 : GReg).val = (12 : GReg).val + 1 ∧ (14 : GReg).val = (12 : GReg).val + 2 ∧ (15 : GReg).val = (12 : GReg).val + 3 := by
  unfold Fetches; decide +kernel

/-- POP on an empty queue sets UNDERRUN and P = 0 (R84). -/
theorem test_pop_empty : (after (.pop 2 12) (issuing 2 (.pop 12))).flag (F.SEQ_EVQ_STATUS_UNDERRUN 2) = true := by
  decide +kernel

/-- The device after reset with a cadence of 120 Hz, 8 active lines of 16, and wall time `ns` nanoseconds. -/
def cadenced (ns : Nat) (l : List (Nat × Word) := []) : State :=
  { State.reset with regs := (A.SCAN_VTIMING, 0x00100008) :: l, wt := { wall := ns * 2 ^ 48 } }

theorem test_met_PorowAlarmsAndWaits :
    Fetches (issuing 1 (.armT 2 7)) 1 (.armT 2 7) ∧ ((issuing 1 (.armT 2 7)).seq 1).lost = [] ∧ (issuing 1 (.armT 2 7)).latchDue = none ∧ (((issuing 1 (.armT 2 7)).wall16 : Int) ≤ (((issuing 1 (.armT 2 7)).seq 1).tr 2).units) ∧
    (let s : State := { issuing 1 (.armT 2 7) with wt := { wall := 2 ^ 48 } };
     Fetches s 1 (.armT 2 7) ∧ ((s.seq 1).tr 2).units < s.wall16 ∧ (s.wall16 : Int) ≤ ((s.seq 1).tr 2).units + 2 ^ 31 * 65536) ∧
    (let s := (cadenced 0).setSeq 1 (runs (.armL 2 (.imm 15) 7));
     Fetches s 1 (.armL 2 (.imm 15) 7) ∧ s.latchDue = none ∧ s.cadenceOk = true ∧ (s.wall16 : Int) ≤ s.lineAt (s.resolveFrame 0) 15) ∧
    (let s := (cadenced 9).setSeq 1 (runs (.armL 2 (.imm 0) 7));
     Fetches s 1 (.armL 2 (.imm 0) 7) ∧ s.latchDue = none ∧ s.lineAt (s.resolveFrame 0) 0 < s.wall16 ∧
       (s.wall16 : Int) ≤ s.lineAt (s.resolveFrame 0) 0 + 2 ^ 31 * 65536) ∧
    (Fetches (issuing 1 (.armL 2 (.imm 0) 7)) 1 (.armL 2 (.imm 0) 7) ∧ (issuing 1 (.armL 2 (.imm 0) 7)).cadenceOk = false) ∧
    (let s := (cadenced 0).setSeq 1 (runs (.armL 2 (.reg 3) 7) { g := Vector.replicate 16 15 });
     Fetches s 1 (.armL 2 (.reg 3) 7) ∧ s.latchDue = none ∧ s.cadenceOk = true ∧ (((s.seq 1).gr 3).setWidth 16).toInt = 15 ∧
       (s.wall16 : Int) ≤ s.lineAt (s.resolveFrame 15) 15) ∧
    Fetches (issuing 1 (.disarm 7)) 1 (.disarm 7) ∧
    (let e : EvEntry := { source := 1, code := 7, born := some 0 };
     let s := withSeq 1 (runs (.disarm 7) { lost := [e] });
     Fetches s 1 (.disarm 7) ∧ (s.seq 1).lost = [e] ∧ e.born = some s.wt.cycle ∧ e.source = 1 ∧ e.code = BitVec.ofNat 8 (7 : Fin 8).val ∧
       (s.seq 1).queue = [] ∧ s.get (F.SEQ_EVQ_STATUS_OVERFLOW 1) < 65535) ∧
    (let s := withSeq 1 { alarms := #v[none, none, none, none, none, none, none, some (.time {})] };
     (s.seq 1).alarms[7] = some (.time {}) ∧ ({} : TimeVal).units ≤ s.wall16 ∧ s.latchHolds ({} : TimeVal).units = false) := by
  unfold Fetches; decide +kernel

theorem test_met_waits :
    Fetches (issuing 1 (.waitL 2 (.reg 3))) 1 (.waitL 2 (.reg 3)) ∧ Fetches (issuing 1 (.waitT 2)) 1 (.waitT 2) ∧ Fetches (issuing 1 (.waitL 2 (.imm 3))) 1 (.waitL 2 (.imm 3)) ∧
    Fetches (issuing 1 .waitE) 1 .waitE ∧ Fetches (issuing 1 (.fence 2 3 1)) 1 (.fence 2 3 1) ∧
    (({} : TimeVal).units ≤ State.reset.wall16 ∧ State.reset.latchHolds ({} : TimeVal).units = false) ∧
    ((cadenced 9000000).cadenceOk = true ∧ (cadenced 9000000).lineAt 1 0 ≤ (cadenced 9000000).wall16 ∧
      (cadenced 9000000).latchHolds ((cadenced 9000000).lineAt 1 0) = false) ∧
    (let s := withSeq 1 { run := .waiting, busy := .waitE, queue := [{}] }; (s.seq 1).busy = .waitE ∧ (s.seq 1).queue ≠ []) ∧
    ((1 : BitVec 16).getLsbD 0 = true ∧ (State.reset.ing.planes[0]).arrived = none) := by
  unfold Fetches; decide +kernel

/-- FENCE with no plane in its mask goes on at once with P = 1 (R181). -/
theorem test_fence_of_no_plane : ((after (.fence 1 2 3 1) (issuing 1 (.fence 2 3 1))).seq 1).p = true := by decide +kernel

theorem test_met_RegisterWrite :
    State.reset.reach .sqs A.GPIO_OUT true = .regs [A.GPIO_OUT] ∧ writeTo A.GPIO_OUT = .plain ∧ A.GPIO_OUT ≠ A.PWR_CTRL ∧
    ((regRow A.GPIO_OUT).map fun row => (row.ctr, row.w1c &&& (row.rw ||| row.rws ||| row.rwl), row.rwl)) = some ([], 0, 0) ∧
    Unopposed .sqs A.GPIO_OUT A.GPIO_OUT State.reset ∧ State.reset.flag F.SEC_STATUS_BOARD_WRITE = false ∧
    (let b : BusAccess := { addr := A.GPIO_OUT, rank := 6, whistle := false, val := 5 };
     let s : State := { State.reset with bus := { writes := [b] } };
     s.cycleWrites A.GPIO_OUT = [b] ∧ b.whistle = inWhistle A.GPIO_OUT ∧ masterRank .sqs < b.rank ∧ Undriven A.GPIO_OUT s) ∧
    (State.reset.reach .sqs A.CRD_NET_DROP_A true = .regs [A.CRD_NET_DROP_A] ∧ writeTo A.CRD_NET_DROP_A = .plain ∧
     (regRow A.CRD_NET_DROP_A).map (fun row => (row.rw, row.rws, row.rwl, row.w1c)) = some (0, 0, 0, 0) ∧
     ((regRow A.CRD_NET_DROP_A).map fun row => row.ctr.length) = some 1 ∧ Unopposed .sqs A.CRD_NET_DROP_A A.CRD_NET_DROP_A State.reset) := by
  unfold Unopposed Undriven; decide +kernel

/-- A W1C bit that the device sets in the core cycle of the write stays 1 (R513). -/
theorem test_w1c_set_in_cycle :
    (after (.registerWrite .sqs (BitVec.ofNat 26 A.PWR_FLAGS) 1) (State.reset.set ⟨A.PWR_FLAGS, 0, 1⟩)).rd A.PWR_FLAGS = 1 := by decide +kernel

/-- Of two writes of one core cycle the host's stands, whichever comes first (R68). -/
theorem test_host_after_sqs : (let a := BitVec.ofNat 26 A.GPIO_OUT
    (after (.registerWrite .sqs a 1) (after (.registerWrite .host a 2) State.reset)).rd A.GPIO_OUT) = 2 := by decide +kernel

/-- W1C: a 1 clears, a 0 keeps (R9). -/
theorem test_w1c : (after (.registerWrite .sqs (BitVec.ofNat 26 A.PWR_FLAGS) 1) (withRegs [(A.PWR_FLAGS, 3)])).rd A.PWR_FLAGS = 2 := by
  decide +kernel

/-- The device after reset with every quadrant's scan in state `r`. -/
def scanning (r : ScanRun) : State := { State.reset with scan := Vector.replicate 4 { run := r } }

/-- The row of the register at `a`: its RW, RWS, W1C and locked bits, and how many of its fields are counters. -/
def shape (a : Nat) : List Nat :=
  match regRow a with | some r => [r.rw, r.rws, r.w1c, r.rwl, r.ctr.length] | none => []

theorem test_met_LockedAndWhistleWrites :
    (let s := scanning .armed;
     s.reach .sqs A.SCAN_ROWDLY true = .regs [A.SCAN_ROWDLY] ∧ s.anyScans = true ∧ writeTo A.SCAN_ROWDLY = .plain ∧
     (regRow A.SCAN_ROWDLY).map (·.lock) = some .timing ∧ shape A.SCAN_ROWDLY = [0, 0, 0, 0xFFFF, 0] ∧
     Unopposed .sqs A.SCAN_ROWDLY A.SCAN_ROWDLY s) ∧
    (let s : State := { State.reset with bus := { before := { scan := Vector.replicate 4 { run := .running } } } };
     s.reach .sqs A.SCAN_ROWDLY true = .regs [A.SCAN_ROWDLY] ∧ s.anyScans = false ∧ s.wroteBefore .sqs = false ∧ s.atCycleStart.anyScans = true ∧
     Unopposed .sqs A.SCAN_ROWDLY A.SCAN_ROWDLY s) ∧
    (let s := withRegs [(A.NBR_STATUS 3, 6)];
     s.reach .sqs (A.NBR_RATE 3) true = .regs [A.NBR_RATE 3] ∧ s.get (F.NBR_STATUS_STAGE 3) ≠ 0 ∧
     s.get (F.NBR_STATUS_STAGE 3) ≠ 7 ∧ writeTo (A.NBR_RATE 3) = .plain ∧ shape (A.NBR_RATE 3) = [0, 0, 0, 0xFF, 0] ∧ Unopposed .sqs (A.NBR_RATE 3) (A.NBR_RATE 3) s) ∧
    (let s := withRegs [(A.WT_EVT_CTRL 31, 1)];
     s.reach .sqs (A.WT_EVT_FRAC 31) true = .regs [A.WT_EVT_FRAC 31] ∧ s.flag (F.WT_EVT_CTRL_ARM 31) = true ∧
     writeTo (A.WT_EVT_FRAC 31) = .plain ∧ shape (A.WT_EVT_FRAC 31) = [0, 0, 0, 0xFFFF, 0] ∧
     Unopposed .sqs (A.WT_EVT_FRAC 31) (A.WT_EVT_FRAC 31) s) := by
  unfold Unopposed Undriven; decide +kernel

theorem test_met_whistle_write :
    State.reset.held = false ∧ (blockIn quadBlocks 0x5008).isSome = true ∧ (0x5008 : BitVec 22).toNat % 4 = 0 ∧
    ∀ n : QuadId, writeTo (0x1005008 + 0x400000 * n.val) = .plain ∧ shape (0x1005008 + 0x400000 * n.val) = [0x3F, 0, 0, 0, 0] ∧
      Unopposed .sqs (0x2000000 + 0x5008) (0x1005008 + 0x400000 * n.val) State.reset := by
  unfold Unopposed Undriven; decide +kernel

theorem test_met_UnmappedAndPops :
    State.reset.held = false ∧     blockOf 0x1F00000 = none ∧ blockOf 0x3FFFFFC = none ∧ (State.reset.readAt .host 0x3FFFFFF).1 = 0 ∧
    (let s := withRegs [(A.SEC_STATUS, 0x60)];
     s.flag F.SEC_STATUS_BOARD_READ = true ∧ s.flag F.SEC_STATUS_BOARD_WRITE = true) := by decide +kernel

theorem test_met_fifo_pops :
    State.reset.reach .sqs A.WT_CAP_W3 false = .regs [A.WT_CAP_W3] ∧
    State.reset.reach .sqs (A.DFL_CPL_W 3) false = .regs [A.DFL_CPL_W 3] := by decide +kernel

theorem test_met_WritesAndSequencerStates :
    (let s := withSeq 4 { posted := [⟨A.PWR_WAKE_NS, [5], none⟩] };
     (s.seq 4).posted[0]? = some ⟨A.PWR_WAKE_NS, [5], none⟩ ∧ s.reach .sqs A.PWR_WAKE_NS true = .regs [A.PWR_WAKE_NS] ∧
     writeTo A.PWR_WAKE_NS = .plain ∧ shape A.PWR_WAKE_NS = [0xFFFFFFFF, 0, 0, 0, 0] ∧ (s.seq 4).busy = .none ∧
     Unopposed .sqs A.PWR_WAKE_NS A.PWR_WAKE_NS s) ∧
    (let s : State := { withSeq 4 { run := .running, posted := [⟨A.SYN_GO 0, [5], none⟩] } with regs := [(A.SYN_STATUS 0, 1)] };
     (s.seq 4).posted[0]? = some ⟨A.SYN_GO 0, [5], none⟩ ∧ s.goBusy (masterOf 4) (A.SYN_GO 0) = true) ∧
    (let s := withSeq 4 { run := .stalled, busy := .go (A.SYN_GO 0) 1 0 false };
     (s.seq 4).busy = .go (A.SYN_GO 0) 1 0 false ∧ (s.seq 4).posted = [] ∧ s.goBusy .sqs (A.SYN_GO 0) = false) := by
  unfold Unopposed Undriven; decide +kernel

theorem test_met_WatchdogEvent :
    let s : State := { withSeq 4 { run := .stalled, busy := .go (A.SYN_GO 0) 1 0 false } with
      regs := [(A.SEQ_WDOG 4, 1), (A.SYN_STATUS 0, 1)], wt := { cycle := 1600 } }
    (s.seq 4).busy = .go (A.SYN_GO 0) 1 0 false ∧ s.goBusy (masterOf 4) (A.SYN_GO 0) = true ∧
      s.get (F.SEQ_WDOG_LIMIT_US 4) = 1 ∧ 0 + 1 * 1600 ≤ s.wt.cycle ∧
      ((withSeq 4 { run := .stalled, busy := .held (A.SYN_GO 0) 0 false }).seq 4).busy = .held (A.SYN_GO 0) 0 false := by
  decide +kernel

theorem test_met_sequencer_states :
    (let s := withSeq 3 { run := .stalled, busy := .refetch 0 true }; (s.seq 3).busy = .refetch 0 true ∧ s.wt.cycle < 0 + 1600) ∧
    (let s : State := { withSeq 3 { run := .stalled, busy := .refetch 0 false } with wt := { cycle := 1600 } };
     (s.seq 3).busy = .refetch 0 false ∧ 0 + 1600 ≤ s.wt.cycle) ∧
        (0 : Word).getLsbD 1 = false ∧ ((withSeq 3 { run := .ready }).seq 3).run = .ready ∧ (withSeq 3 { run := .ready }).beingLoaded 3 = false ∧
    ((withSeq 3 { run := .faulted }).seq 3).run = .faulted ∧ ((withSeq 3 { run := .running }).seq 3).run = .running := by
  decide +kernel

theorem test_met_CommitAndEvent :
    Fetches (issuing 4 (.commit 0xF)) 4 (.commit 0xF) ∧ Fetches (issuing 0 (.commit 0)) 0 (.commit 0) ∧
    ((issuing 0 (.commit 0)).seq 0).posted = [] ∧ ((issuing 0 (.commit 0)).cm 0).commitIn ≠ some 0 ∧
    (let s : State := { issuing 0 (.commit 0) with cmp := Vector.replicate 4 { commitIn := some 0 } };
     Fetches s 0 (.commit 0) ∧ (s.cm 0).commitIn = some s.wt.cycle) ∧
    (let s := cadenced 0; s.cadenceOk = true ∧ s.latchDue = none ∧ s.frameAt (1 - 1) ≤ s.wall16 ∧ s.wall16 < s.frameAt 1 ∧ s.reached (s.latchAt 1) = false) ∧
    (let s : State := { cadenced 4166667 with frame := { latch := some 1 } }; s.cadenceOk = true ∧ s.latchDue = none ∧ s.frameAt (1 - 1) ≤ s.wall16 ∧ s.wall16 < s.frameAt 1 ∧ s.reached (s.latchAt 1) = true) ∧
    Fetches (issuing 0 (.event true .both 8 255)) 0 (.event true .both 8 255) ∧
    (issuing 0 (.event true .both 8 255)).net.mtx.length < 64 := by
  unfold Fetches; decide +kernel

/-- One second before E at 120 Hz the frame is -120 and the current frame index is 0 (R558). -/
theorem test_before_epoch : (let s := cadenced 0 [(A.CAD_EPOCH_LO, 1)]; (s.frameNow, s.frameIndex)) = (-120, 0) := by decide +kernel

/-- A PTP header on port A, EtherType transport, domain 0, from master 0. -/
def ptp : PtpHdr :=
  { frame := { port := 0, len := 86, fcsOk := true, tags := 0, src := 5, dst := 0, encap := .other 0x88F7 }
    domain := 0, clockId := 0, portNum := 0, seq := 7, corrField := 0, cksum := 0, auth := none }

/-- Port A up and slot 0 enabled, end to end, in the Leash state of code `leash`. -/
def ptpState (leash cfg : Word) (p : PtpSlot) : State :=
  { State.reset with regs := [(A.WT_STATUS, leash), (A.WT_DOM_CFG 0, 0x80000000 ||| cfg), (A.NET_PORT_STATUS 0, 1)],
                     wt := { slots := #v[p, {}] } }

theorem test_met_PtpSamples :
    (let s := ptpState 2 0 { mpd := some 65536 };
     TakenBy 0 ptp .plain s ∧ s.activeSlot = 0 ∧ s.leash = .leashed ∧ (s.slot 0).lastSeq ≠ some ptp.seq ∧ (s.slot 0).mpd = some 65536) ∧
    (let s := ptpState 2 0 { twoStep := some (7, 0, 0) }; TakenBy 0 ptp .plain s ∧ (s.slot 0).twoStep = some (ptp.seq, 0, 0)) ∧
    (let s := ptpState 0 0 { lastSyncT := some (5, 6), reqSent := some (7, 9) };
     TakenBy 0 ptp .plain s ∧ s.flag (F.WT_DOM_CFG_DELAY_MECH 0) = false ∧ (s.slot 0).lastSyncT = some (5, 6) ∧
     (s.slot 0).reqSent = some (ptp.seq, 9)) ∧
    (let s := ptpState 0 0x400 { reqSent := some (7, 9) };
     TakenBy 0 ptp .peer s ∧ s.flag (F.WT_DOM_CFG_DELAY_MECH 0) = true ∧ (s.slot 0).reqSent = some (ptp.seq, 9)) ∧
    (let s := ptpState 0 0x400 { pdelay := some (7, 1, 2, 3) }; TakenBy 0 ptp .peer s ∧ (s.slot 0).pdelay = some (ptp.seq, 1, 2, 3) ∧
      s.portUp 0 = true ∧ s.scannedLane 0 = none) := by
  unfold TakenBy HeardPtp
  refine ⟨?_, ?_, ?_, ?_, ?_⟩ <;> decide +kernel

theorem test_met_PtpFilter :
    HeardPtp ptp.frame .plain (ptpState 0 0 {}) ∧ (ptpState 0 0 {}).slotHears 0 ptp = true ∧
    (ptpState 0 0 {}).slotRefuses 0 ptp = false ∧ ((ptpState 0 0 {}).net.mrx[0]).isNone = true ∧
    (List.replicate 513 (0 : Byte)).length = 513 ∧
    (∀ e, (0 : Fin 2) < e → (ptpState 0 0 {}).slotHears e ptp = true → (ptpState 0 0 {}).slotRefuses e ptp = false) ∧
    (let s : State := { ptpState 0 0 {} with
       regs := [(A.WT_DOM_CFG 0, 0x80000000), (A.WT_DOM_CFG 1, 0x81000000), (A.NET_PORT_STATUS 0, 1)] };
     HeardPtp ptp.frame .plain s ∧ (∀ e, s.slotHears e ptp = true) ∧ s.slotRefuses 1 ptp = true) ∧
    (let s := ptpState 0 0x1000000 {};
     HeardPtp ptp.frame .plain s ∧ s.slotTakes 0 ptp = true ∧ s.slotHears 1 ptp = false ∧
       s.flag (F.WT_DOM_CFG_REQUIRE_AUTH 0) = true ∧ (s.slot 0).authentic ptp = false) := by
  unfold HeardPtp; decide +kernel

theorem test_met_LeashAndSlew :
    (let s := ptpState 0 0 { offset := some 65536001 }; s.leash = .unleashed ∧ (s.slot s.activeSlot).offset = some 65536001 ∧
      s.anyScans = false) ∧
    (let s : State := { ptpState 1 0x100000 {} with wt := { cycle := 1600000000 } };
     s.leash = .acquiring ∧ s.flag (F.WT_DOM_CFG_ENABLE 0) = true ∧ (s.slot 0).timedOut = false ∧ s.timeoutDue 0 = true ∧
     (s.slot 0).lastSync + max (s.get (F.WT_DOM_CFG_SYNC_TIMEOUT 0)) 1 * s.syncCycles 0 ≤ s.wt.cycle) ∧
    (let s : State := { withRegs [(A.WT_CTRL, 2), (A.WT_STATUS, 2)] with
       wt := { cycle := 60 * 1600000000, slots := #v[{}, { locked := true }] } };
     s.leash = .leashed ∧ s.flag F.WT_CTRL_AUTO_SWITCH = true ∧ (s.slot s.standbySlot).locked = true ∧
     (s.slot s.standbySlot).lockedAt + s.get F.WT_DSW_CFG_MIN_S * 1600000000 ≤ s.wt.cycle ∧ (1 : Fin 2) ≠ s.activeSlot ∧
     ∀ e, s.timeoutDue e = false) ∧
    (let s : State := { withRegs [(A.WT_STATUS, 3)] with wt := { hoCycles := 600 * 1600000000 } };
     s.leash = .holdover ∧ s.get F.WT_HO_CFG_HO_LIMIT_S * 1600000000 ≤ s.wt.hoCycles) ∧
    (let s : State := { withRegs [(A.WT_DSW_SLEW_RATE, 1)] with wt := { dHeld := 1 } };
     s.flag F.WT_STATUS_DSW_SLEWING = false ∧ s.get F.WT_DSW_SLEW_RATE_RATE ≠ 0 ∧
     s.wt.dHeld ≠ signed 32 (s.rd A.WT_DSW_TARGET).toNat * 2 ^ 40) ∧
    (let s := withRegs [(A.WT_STATUS, 0x20)];
     s.flag F.WT_STATUS_DSW_SLEWING = true ∧ s.wt.dHeld = signed 32 (s.rd A.WT_DSW_TARGET).toNat * 2 ^ 40) := by
  decide +kernel

theorem test_met_CadenceWrites :
    (scanning .running).anyScans = true ∧ (State.reset.anyScans = false ∧ State.reset.atCycleStart.anyScans = false) ∧
    (let s : State := { State.reset with bus := { before := { scan := Vector.replicate 4 { run := .stopping } } } };
     s.anyScans = false ∧ s.atCycleStart.anyScans = true) ∧
    (let s := cadenced 4166667; s.latchDue = some 1 ∧ (after (.cadenceWrite 3 0) s).latchDue ≠ s.latchDue) := by decide +kernel

/-- One core cycle is 0.625 ns (R28). -/
theorem test_tick : (after .wallTimeTick State.reset).wt.wall = 5 * 2 ^ 48 / 8 := by decide +kernel

theorem test_met_TickAndSnapshot :
    (let s : State := { State.reset with wt := { cycle := 4, snapAt := some (0, 0) } }; s.wt.snapAt = some (0, 0) ∧ 0 + 4 ≤ s.wt.cycle) ∧
    (State.reset.rot.queue = [] ∧ State.reset.wild = Vector.replicate 4 none ∧ State.reset.lateLocks State.reset.busNow.writes = [] ∧
      ∀ q : SeqId, (State.reset.seq q).busy = .none) ∧
    State.reset.leash = .unleashed ∧ State.reset.flag F.WT_STATUS_DSW_SLEWING = false ∧ State.reset.net.mtx = [] ∧
    (∀ p : PortId, (State.reset.txPort p).queue = []) ∧ State.reset.rot.job = none ∧
    (∀ n : QuadId, (State.reset.dr n).rq = [] ∧ (State.reset.dr n).wq = []) ∧
    (let s : State := { withRegs [(A.NET_PORT_STATUS 0, 1)] with
       net := { tx := #v[{ queue := [{ cls := 2, len := 64, what := .request 0 }, { cls := 1, len := 90, what := .request 1 }] }, {}] } };
     s.portUp 0 = true ∧ (s.txPort 0).busy ≤ s.wt.cycle + 1 ∧ (s.txPort 0).queue ≠ [] ∧
       ∀ x ∈ (s.txPort 0).queue, 1 ≤ x.cls ∧ x.cls ≤ 3) := by
  decide +kernel

/-- The device after reset with timed-event slot 31 armed by the control word `v`, wall time 1 ns. -/
def slotted (v : Word) (l : List (Nat × Word) := []) : State :=
  { State.reset with regs := (A.WT_EVT_CTRL 31, v) :: l, wt := { wall := 2 ^ 48 } }

theorem test_met_TimedEvents :
    (State.reset.flag (F.WT_EVT_CTRL_ARM 31) = false ∧ State.reset.atCycleStart.flag (F.WT_EVT_CTRL_ARM 31) = false ∧ (State.reset.wall16 : Int) ≤ State.reset.evtTarget 31) ∧
    (let s := slotted 0; s.evtTarget 31 < s.wall16 ∧ (s.wall16 : Int) - s.evtTarget 31 ≤ 2 ^ 31 * 65536) ∧
    (slotted 1).flag (F.WT_EVT_CTRL_ARM 31) = true ∧ (slotted 1).get (F.WT_EVT_CTRL_TARGET 31) < 19 ∧
    (let s := slotted 0xF01 [(A.GPIO_DIR, 0x8000)];
     (s.evt 31).due = .target ∧ s.evtTarget 31 ≤ s.wall16 ∧ (s.evt 31).passed (s.evtTarget 31) = false ∧
       s.get (F.WT_EVT_CTRL_TARGET 31) = 15 ∧ (s.rd A.GPIO_DIR).getLsbD 15 = true ∧ s.wt.edges[15] = none) ∧
    (let o : PinEdge := { at_ := 65536, slot := 3, level := false };
     let s : State := { slotted 0xF01 [(A.GPIO_DIR, 0x8000)] with wt := { wall := 2 ^ 48, edges := Vector.replicate 16 (some o) } };
     s.flag (F.WT_EVT_CTRL_ARM 31) = true ∧ (s.evt 31).due = .target ∧ s.evtTarget 31 ≤ s.wall16 ∧ (s.rd A.GPIO_DIR).getLsbD 15 = true ∧
       ({ s with regs := [(A.WT_EVT_CTRL 2, 0xF01), (A.GPIO_DIR, 0x8000)] } : State).flag (F.WT_EVT_CTRL_ARM 2) = true ∧ (2 : Fin 32).val < o.slot ∧
       s.wt.edges[15] = some o ∧ o.slot ≠ (31 : Fin 32).val ∧ o.slot < 32 ∧ o.slot < (31 : Fin 32).val ∧ s.wall16 - o.at_ < 5 * 65536 / 2 ∧ (o.at_ : Int) - s.wall16 < 5 * 65536 / 2) ∧
    (slotted 0x1101).get (F.WT_EVT_CTRL_TARGET 31) = 16 + (1 : Fin 2).val ∧ (slotted 0x1101).camOn = true ∧
    (slotted 0x1101 [(A.PWR_STATUS, 2)]).camOn = false ∧
    (let s : State := { slotted 0x1B01 [(A.WT_EVT_PERIOD_NS 31, 1)] with
       wt := { wall := 2 ^ 48, evts := Vector.replicate 32 { lateTo := some 65536 } } };
     (s.evt 31).passed (s.evtTarget 31) = true ∧ s.rd (A.WT_EVT_PERIOD_NS 31) ≠ 0) ∧ (slotted 0x1201).get (F.WT_EVT_CTRL_TARGET 31) = 18 ∧
    (slotted 0x1B01).get (F.WT_EVT_CTRL_TARGET 31) = 23 + (4 : SeqId).val ∧
    (let s : State := { slotted 0xF01 [(A.GPIO_DIR, 0x8000)] with
       wt := { wall := 2 ^ 48, evts := Vector.replicate 32 { pulseEnd := some 0, pulseTarget := 15 } } };
     (s.evt 31).pulseEnd = some 0 ∧ 0 ≤ s.wall16 ∧ (s.evt 31).pulseTarget.val = 15 ∧ s.wt.edges[15] = none ∧
       (s.rd A.GPIO_DIR).getLsbD 15 = true) := by decide +kernel

theorem test_met_EventOnInputPin :
    let s := slotted 0xF01
    s.flag (F.WT_EVT_CTRL_ARM 31) = true ∧ (s.evt 31).due = .target ∧ s.evtTarget 31 ≤ s.wall16 ∧
      s.get (F.WT_EVT_CTRL_TARGET 31) = 15 ∧ (s.rd A.GPIO_DIR).getLsbD 15 = false := by decide +kernel

theorem test_met_Captures :
    (let s := withRegs [(A.WT_CAP_CFG 21, 3)];
     s.flag (F.WT_CAP_CFG_ENABLE 21) = true ∧ s.flag (F.WT_CAP_CFG_RISE 21) = true ∧ s.wt.capPrev[21] = none ∧ s.wt.capFifo.length < 256) ∧
    (let s : State := { withRegs [(A.WT_CAP_CFG 0, 5)] with
       wt := { wall := 10 * 2 ^ 48, capPrev := Vector.replicate 22 (some (8 * 65536)) } };
     s.flag (F.WT_CAP_CFG_FALL 0) = true ∧ (s.wall16 / 2 ^ 14 * 2 ^ 14 : Int) - 8 * 65536 < 5 * 65536 / 2 ∧
     8 * 65536 - (s.wall16 / 2 ^ 14 * 2 ^ 14 : Int) < 5 * 65536 / 2) := by
  decide +kernel

theorem test_met_ScanStart :
    (let s := cadenced 0; s.flag (F.WT_EVT_CTRL_ARM 0) = false ∧ s.atCycleStart.flag (F.WT_EVT_CTRL_ARM 0) = false ∧ (0x1600 : Word).toNat / 2 ^ 8 % 64 = 19 + (3 : QuadId).val ∧
      (∀ i : Fin 32, i ≠ 0 → ¬ (s.flag (F.WT_EVT_CTRL_ARM i) = true ∧ s.get (F.WT_EVT_CTRL_TARGET i) = 19 + (3 : QuadId).val)) ∧
      (s.wall16 : Int) - s.evtTarget 0 ≤ 2 ^ 31 * 65536 ∧ s.cadenceOk = true ∧ (s.scan[3]).run = .stopped) ∧
    State.reset.cadenceOk = false := by decide +kernel

/-- Wall time just after the latch for frame 1, L(0, 8): 4,166,666.67 ns. -/
def atLatch (l : List (Nat × Word)) (r : ScanRun) : State :=
  { cadenced 4166667 l with scan := Vector.replicate 4 { run := r, k0 := some 1 } }

theorem test_met_Latch :
    (let s := atLatch [] .armed;
     s.latchDue = some 1 ∧ (cadenced 0).latchDue ≠ some 1 ∧ s.power.entry = .none ∧ (s.scan[0]).stopNext = false ∧
     (s.scan[0]).k0 = some 1 ∧ s.geoOk = false) ∧
    (let s := atLatch [(A.CMP_STATUS 3, 1)] .running;
     s.flag (F.CMP_STATUS_PENDING 3) = true ∧ s.keptGet (F.CMP_CFG_COMMIT_GROUP 3) = 0 ∧ (s.cm 3).lateOnly = false ∧ (s.cm 3).late = false ∧
     s.flag (F.CMP_STATUS_PENDING 0) = false) := by decide +kernel

/-- An ARMED quadrant without valid geometry is REFUSED with reason 1 (R242). -/
theorem test_latch_refuses : (after (.latch 1 []) (atLatch [] .armed)).rd (A.SCAN_REFUSE 0) = 0x80000001 := by decide +kernel

theorem test_met_LineDeadline :
    let s := cadenced 520834
    s.cadenceOk = true ∧ 1 < s.vActive ∧ s.lineAt 0 1 ≤ s.wall16 ∧ (s.wall16 : Int) < s.lineAt 0 2 ∧ s.frame.line ≠ some (0, 1) := by
  decide +kernel

theorem test_met_RowPinsAndTearing :
    (let s : State := { cadenced 520834 with scan := #v[{ run := .running }, {}, {}, {}] };
     (s.scan[0]).run = .running ∧ s.cadenceOk = true ∧ 1 < s.vTotal ∧
     0 ≤ (s.wall16 : Int) - s.get F.SCAN_ROWDLY_DLY * 65536 - s.lineAt 0 1 ∧
     (s.wall16 : Int) - s.get F.SCAN_ROWDLY_DLY * 65536 < s.lineAt 0 2 ∧ (s.scan[1]).run ≠ .running) ∧
    (let s : State := { cadenced 0 with scan := #v[{ te := some 0 }, {}, {}, {}] };
     (s.scan[0]).te = some 0 ∧ s.cadenceOk = true ∧ s.frameAt 0 + ((s.get F.SCAN_ROWDLY_DLY : Int) + signed 12 (s.get F.SCAN_TE_CFG_OFS)) * 65536 = s.wall16) ∧
    (let s : State := { cadenced 200000000 with scan := #v[{ te := some 0 }, {}, {}, {}] };
     s.frameAt 0 + ((s.get F.SCAN_ROWDLY_DLY : Int) + signed 12 (s.get F.SCAN_TE_CFG_OFS)) * 65536
       + s.get F.SCAN_TE_CFG_SEARCH * s.cadP * (10 ^ 9 * 65536) / (s.cadQ * s.vTotal) < s.wall16) := by
  decide +kernel

/-- Without a running quadrant ROW_EN is at its inactive level, high where ROW_POL.EN is 1 (R246). -/
theorem test_row_en_inactive : State.reset.rowEn = false := by decide +kernel

/-- Quadrant 0's DRAM READY with one 64 KiB unit. -/
def dramUp (l : List (Nat × Word) := []) : State := withRegs ((A.DRAM_STATUS 0, 2) :: (A.DRAM_SIZE 0, 16) :: l)

theorem test_met_GeometryTables :
    State.reset.flag F.GEO_STATUS_LOAD_BUSY = false ∧ State.reset.held = false ∧ (withRegs [(A.GEO_STATUS, 0x10)]).flag F.GEO_STATUS_LOAD_BUSY = true ∧
    ((1 : Word).getLsbD 0 = true) ∧ Unopposed .sqs 0x9FFFF8 0x9FFFF8 State.reset ∧ Unopposed .sqs 0x9FFFFC 0x9FFFFC State.reset ∧
    (withRegs [(A.SEC_STATUS, 0x40)]).flag F.SEC_STATUS_BOARD_WRITE = true ∧
    (let s : State := { State.reset with geo := { hold := #v[none, none, none, none, some (262143, 7), none, none] } };
     s.geo.hold[holdOf .sqs] = some (262143, 7)) ∧
    ((withRegs [(A.GEO_LOAD_COUNT, 262144)]).get F.GEO_LOAD_CFG_FIRST + (withRegs [(A.GEO_LOAD_COUNT, 262144)]).get F.GEO_LOAD_COUNT_COUNT = 262144) ∧
    (262144 < (withRegs [(A.GEO_LOAD_CFG, 1), (A.GEO_LOAD_COUNT, 262144)]).get F.GEO_LOAD_CFG_FIRST
      + (withRegs [(A.GEO_LOAD_CFG, 1), (A.GEO_LOAD_COUNT, 262144)]).get F.GEO_LOAD_COUNT_COUNT) ∧
    (let g : GeoLoad := { src := 0, quad := 0, first := 262143, count := 1 };
     let s : State := { dramUp [(A.GEO_STATUS, 0x10)] with geo := { load := some g } };
     s.geo.load = some g ∧ s.flag F.GEO_STATUS_LOAD_BUSY = true ∧ s.dramServes 0 = true ∧ s.inlineEcc 0 = false ∧
       s.flag (F.DRAM_CFG_LINK_ECC 0) = false ∧ g.placed ≤ g.count ∧
       (s.dr 0).u05 = [] ∧ g.first + g.count ≤ 262144 ∧ g.src + 8 * g.count ≤ s.dramSize 0) := by
  unfold Unopposed Undriven; decide +kernel

/-- A header of a packet of flow 5 and SEQ 0. -/
def hdr (typ : BitVec 4) (len : BitVec 16) : RknHdr :=
  { ver := 2, typ := typ, flags := 0, flow := 5, seq := 0, frame := 0, surface := 0, res1 := 0, x := 0, y := 0,
    w := if typ = 1 then 1 else 0, h := if typ = 1 then 1 else 0, len := len, res2 := 0 }

/-- A raw frame on port A. -/
def rawFrame : NetFrame := { port := 0, len := 100, fcsOk := true, tags := 0, src := 1, dst := 0, encap := .raw }

/-- That packet in a raw frame on port A, with payload `b`, under a key and salt of zeros. -/
def packet (typ : BitVec 4) (b : List Byte) : RknPkt :=
  { frame := rawFrame, data := rknSeal 0 (hdr typ (BitVec.ofNat 16 b.length)) b }

/-- The same in the clear. -/
def message (typ : BitVec 4) (b : List Byte) : RknMsg :=
  { frame := rawFrame, hdr := hdr typ (BitVec.ofNat 16 b.length), body := b }

/-- Port A up, flow 5 ACTIVE with its context's word 0 as `w`, and session 1 with its key of phase 0. -/
def listening (w : Word) : State :=
  { withRegs [(A.NET_PORT_STATUS 0, 1), (A.FLOW_W0 5, w)] with
    sess := [(1, { keys := #v[some { rx := 0, tx := 0 }, none] })] }

theorem test_met_FlowsAndHistory :
    (withRegs [(A.FLOW_W0 5, 1)]).flowState 5 = 1 ∧ (withRegs [(A.FLOW_W0 5, 1)]).streamOpen = false ∧
    State.reset.atCycleStart.flowState 5 = 0 ∧ State.reset.flowState 5 = 0 ∧
    (withRegs [(A.FLOW_W0 5, 1)]).atCycleStart.streamOpen = false ∧ (withRegs [(A.FLOW_W0 5, 0x11)]).streamOpen = true ∧
    (withRegs [(A.FLOW_W0 5, 1)]).reach .host (A.FLOW_W0 5) true = .regs [A.FLOW_W0 5] ∧
    Unopposed .host (A.FLOW_W0 5) (A.FLOW_W0 5) (withRegs [(A.FLOW_W0 5, 1)]) ∧
    (let s : State := { withRegs [(A.FLOW_W0 5, 0x12)] with
       wt := { cycle := 80000 }, ing := { held := [⟨5, 3, message 1 []⟩], gaps := [(5, 0)] } };
     s.gapDue 5 = true ∧ s.flowStreams 5 = true ∧ s.heldOf 5 ≠ []) ∧
    (let h : HeldPkt := ⟨5, 2, { message 1 [] with hdr := { hdr 1 0 with seq := 2 } }⟩;
     let s : State := { withRegs [(A.FLOW_W0 5, 2)] with
       wt := { cycle := 80000 }, ing := { held := [h], gaps := [(5, 0)] } };
     s.gapDue 5 = true ∧ s.queueRoom = true ∧ (∀ q : QuadId, s.flippedTo q = none) ∧ s.flowStreams 5 = false ∧ s.flowState 5 = 2 ∧
       s.heldOf 5 = [h] ∧ h.pkt.hdr.typ ≠ 3 ∧ h.pkt.hdr.seq = h.seq ∧ h.pkt.hdr.flow = 5) ∧
    (let d : InflDesc := { flow := 0, ord := 0, mode := true, enc := 2, sos := false, dest := .nowhere, x := 0, y := 0, w := 1, h := 1, bytes := [] };
     let s : State := { dramUp with ing := { infl := #v[{ cur := some d }, {}, {}, {}] } };
     (s.inflater 0).cur = some d ∧ (s.inflater 0).ready = false ∧ (s.inflater 0).resident = none ∧
       s.dramServes (boundTo 0) = true ∧ s.inlineEcc (boundTo 0) = false ∧
       s.flag (F.DRAM_CFG_LINK_ECC (boundTo 0)) = false ∧ s.windowAt 0 + 32768 ≤ s.dramSize (boundTo 0)) := by
  unfold Unopposed Undriven; decide +kernel

theorem test_heard_patch : Heard (packet 1 [1, 2, 3, 4]) (listening 0x101) ∧
    InSequence (packet 1 [1, 2, 3, 4]) (message 1 [1, 2, 3, 4]) (listening 0x101) ∧ Credited (listening 0x101) ∧
    (∀ q : QuadId, (listening 0x101).flippedTo q = none) ∧ (rknHdr (packet 1 [1, 2, 3, 4])).typ = 1 := by
  unfold Heard InSequence Credited
  refine ⟨?_, ?_, ?_, ?_, ?_⟩ <;> decide +kernel

/-- A packet with one bit of its ciphertext changed does not verify (R155). -/
theorem test_forged : (let p := packet 1 [1, 2, 3, 4]
    (listening 0x101).openPkt 1 { p with data := p.data.set 28 (p.data.getD 28 0 ^^^ 1) }) = none := by decide +kernel

theorem test_heard_fence : Heard (packet 2 [0, 0, 0, 1]) (listening 0x101) ∧ Credited (listening 0x101) ∧
    InSequence (packet 2 [0, 0, 0, 1]) (message 2 [0, 0, 0, 1]) (listening 0x101) ∧
    (rknHdr (packet 2 [0, 0, 0, 1])).typ = 2 := by
  unfold Heard InSequence Credited
  refine ⟨?_, ?_, ?_, ?_⟩ <;> decide +kernel

theorem test_met_ScenePackets :
    (let c : PlaneDesc := { en := true, width := 1, height := 1 };
     let d : InflDesc := { flow := 5, ord := 0, mode := false, enc := 0, sos := false, dest := .colour 15 c, x := 0, y := 0, w := 1, h := 1, bytes := [1, 2, 3, 4] };
     let s : State := { State.reset with ing := { infl := #v[{ cur := some d, ready := true }, {}, {}, {}] } };
     (s.inflater 0).cur = some d ∧ (s.inflater 0).ready = true ∧ s.ing.buffer = [] ∧ s.ing.held = [] ∧ s.descBlocked d = false ∧ d.bytes.length = 4 * d.w * d.h ∧
       d.x + d.w ≤ c.width) ∧
    (let x : FencePkt := ⟨5, 1, 9, 1⟩;
     let s : State := { withRegs [(0x600000 + 32 * 5 + 4, 1)] with ing := { fences := [x] } };
     s.ing.fences.find? (fun y => y.flow == 5) = some x ∧ s.descs = []) := by decide +kernel

/-! ### Synthesis, composition and the panel link -/

/-- The device after reset with fields holding `l`. -/
def having (l : List (Fld × Nat)) (s : State := State.reset) : State := l.foldl (fun s x => s.put x.1 x.2) s

/-- A cadence of 8 active lines of 16 at 120 Hz, and one hogel a quadrant with 2 by 8 directions, at wall time `ns`. -/
def panelled (ns : Nat) (l : List (Fld × Nat) := []) : State :=
  having ([(F.GEO_PANEL_HCOLS, 4), (F.GEO_PANEL_VROWS, 1), (F.GEO_DIRS_NU, 2), (F.GEO_DIRS_NV, 8)] ++ l) (cadenced ns)

theorem test_panelled : (panelled 0).geoOk = true ∧ (panelled 0).cadenceOk = true ∧ (panelled 0).vActive = 8 := by
  decide +kernel

theorem test_met_SynthesisLines :
    ((panelled 0).flag (F.SYN_STATUS_BUSY 0) = false ∧
      (panelled 0).lineAt ((panelled 0).resolveFrame 0) (-((panelled 0).runahead : Int)) < ((panelled 0).wall16 : Int)) ∧
    State.reset.geoOk = false ∧
    (let s : State := { panelled 0 [(F.SYN_STATUS_EFF_PLANES 0, 0)] with syn := #v[{ frame := some 0 }, {}, {}, {}] };
     (s.sy 0).frame = some 0 ∧ s.lineDue 0 (s.sy 0).next = true ∧ (s.sy 0).work = [] ∧ s.geo.load = none ∧ s.get (F.SYN_STATUS_EFF_PLANES 0) = 0) ∧
    (let l : SynLine := { line := 7, rays := [{}, {}], cost := 2, fill := true, since := 0 };
     let s : State := { panelled 0 with syn := #v[{ frame := some 0, next := 8, work := [l] }, {}, {}, {}], wt := { cycle := 50 } };
     (s.sy 0).frame = some 0 ∧ (s.sy 0).work = [l] ∧
       max l.since (s.sy 0).doneAt + (if l.fill = true then 48 else 0) + l.cost ≤ s.wt.cycle ∧
       (s.cm 0).ready.length + (s.cm 0).staged.length ≤ s.runahead ∧ l.line + 1 = s.vActive) ∧
    (let l : SynLine := { line := 0, rays := [{}, {}], cost := 0, fill := false, since := 0 };
     let s : State := { panelled 0 with syn := #v[{ frame := some 0, next := 1, work := [l] }, {}, {}, {}] };
     (s.sy 0).frame = some 0 ∧ (s.sy 0).work = [l] ∧
       max l.since (s.sy 0).doneAt + (if l.fill = true then 48 else 0) + l.cost ≤ s.wt.cycle ∧
       (s.cm 0).ready.length + (s.cm 0).staged.length ≤ s.runahead ∧ l.line + 1 ≠ s.vActive) := by
  refine ⟨?_, ?_, ?_, ?_, ?_⟩ <;> decide +kernel

theorem test_met_CompositionLines :
    (let l : CmpLine := ⟨0, 0, [{}, {}]⟩;
     let s : State := { panelled 0 with cmp := #v[{ ready := [l] }, {}, {}, {}], scan := #v[{ aborted := some 0 }, {}, {}, {}] };
     (s.cm 0).ready = [l] ∧ (s.scanU 0).aborted = some l.frame) ∧
    (let l : CmpLine := ⟨0, 0, [{}, {}]⟩;
     let s : State := { panelled 0 with cmp := #v[{ ready := [l] }, {}, {}, {}] };
     (s.cm 0).ready = [l] ∧ (s.scanU 0).aborted ≠ some l.frame ∧ s.composable 0 l = true ∧ s.get (F.CMP_STATUS_OVL_LIVE 0) = 0 ∧ s.flag (F.MAP_STATUS_LIVE_EN 0) = false) ∧
    (let s := panelled 0 [(F.DRAM_STATUS_STATE 0, 2), (F.DRAM_SIZE_UNITS 0, 16), (F.CMP_STATUS_OVL_LIVE 0, 1)]
     let s := (s.liveWr (A.OVL_SRC 0 0) 0x00010001).liveWr (A.OVL_DSTSIZE 0 0) 0x00010001
     s.ovlMissing 0 0 (s.cmpRow 0) = [0] ∧ s.dramServes 0 = true ∧ (s.cm 0).next < s.vActive ∧ s.inlineEcc 0 = false ∧ s.flag (F.DRAM_CFG_LINK_ECC 0) = false ∧
       (s.dr 0).u05 = [] ∧ (s.ovl 0 0).packed = false ∧ ∀ x ∈ (s.ovl 0 0).cols, (s.ovl 0 0).base / 64 * 64 + 0 + x * (s.ovl 0 0).bytes < s.dramSize 0) ∧
    (let s : State := { panelled 0 [(F.DRAM_STATUS_STATE 0, 2), (F.DRAM_SIZE_UNITS 0, 16)] with
       map := #v[{ frame := some 0, pos := 8 }, {}, {}, {}] };
     let m := s.mp 0
     let group := (1 + s.dirRows) * 1
     m.frame.isSome = true ∧ s.geoOk = true ∧ m.pos / group < s.hogelRows ∧ s.dramServes 0 = true ∧
       s.mapLevel 0 + s.sliceBytes / 64 ≤ 32768 ∧ s.inlineEcc 0 = false ∧ s.flag (F.DRAM_CFG_LINK_ECC 0) = false ∧ (s.dr 0).u05 = [] ∧ m.pos + 1 = s.hogelRows * group ∧
       s.mapBase 0 0 + 64 + 7 * s.sliceBytes + s.sliceBytes ≤ s.dramSize 0) ∧
    State.reset.lutLocked 0 17 0 = true ∧ State.reset.lutLocked 0 17 1 = false ∧
    State.reset.lutLocked 3 18 0 = true ∧ State.reset.lutLocked 3 18 1 = false := by
  refine ⟨?_, ?_, ?_, ?_, ?_, ?_, ?_, ?_⟩ <;> decide +kernel

/-- At the latch for frame 1, every quadrant RUNNING: plane 0 alone with a due fence, planes 4 and 5 of group 0 in use with 4 due, a
temperature report, ascending limits, overlay 0 of quadrant 3 enabled and group 15 ACTIVE. -/
def sampled (l : List (Fld × Nat) := []) : State :=
  let s := having ([(F.SST_PLANE_CTRL_EN 4, 1), (F.SST_PLANE_CTRL_WIDTH 4, 1), (F.SST_PLANE_CTRL_HEIGHT 4, 1), (F.SST_PLANE_CTRL_EN 5, 1),
    (F.SST_PLANE_CTRL_WIDTH 5, 1), (F.SST_PLANE_CTRL_HEIGHT 5, 1), (F.SST_SYNC_MASK 0, 0x30), (F.SST_PLANE_STATUS_PENDING 0, 1),
    (F.SST_PLANE_STATUS_PENDING 4, 1), (F.TPL_STATUS_STAGE 3 3, 6), (F.TPL_STATUS_NCDIC 3 3, 1), (F.MAP_CTRL_EN 3, 1)] ++
    ((List.range 7).map fun b => (F.EMW_LIMIT_LIMIT b, 16 * b)) ++ l) (atLatch [] .running)
  { s with emw := { reports := [5, 7] }, ing := { planes := (Vector.replicate 16 {}).set 0 { counted := some 1 } |>.set 4 { counted := some 1 } } }

theorem test_met_LatchSamples :
    (let s := sampled;
     s.latchDue = some 1 ∧ s.power.entry = .none ∧ (s.scan[3]).run = .running ∧ s.flipDue 0 1 = true ∧ s.flipDue 4 1 = true ∧ s.flipDue 5 1 = false ∧
       (∀ p ∈ [4, 5], ({ s.planeRegs p with en := s.keptGet (F.SST_PLANE_CTRL_EN p) == 1 } : PlaneDesc).en = true ∧
         ({ s.planeRegs p with en := s.keptGet (F.SST_PLANE_CTRL_EN p) == 1 } : PlaneDesc).ok = true) ∧
       (s.keptGet (F.SST_SYNC_MASK 0)).testBit 4 = true ∧ (s.keptGet (F.SST_SYNC_MASK 0)).testBit 0 = false) ∧
    (let s := sampled [(F.SST_PLANE_STATUS_PENDING 5, 1)];
     let s : State := { s with ing := { s.ing with planes := s.ing.planes.set 5 { counted := some 1 } } };
     s.latchDue = some 1 ∧ s.flipDue 4 1 = true ∧ s.flipDue 5 1 = true) ∧
    (let s := sampled;
     s.keptGet (F.MAP_CTRL_EN 3) = 1 ∧ s.flag (F.MAP_STATUS_LIVE_EN 3) = false ∧ s.dramSize 3 < s.mapBase 3 0 + s.mapBankSize + 1 ∧
       s.mapBusy 3 0 = false) ∧
    (let s := sampled; s.emw.reports ≠ [] ∧ (∀ b < 6, signed 16 (s.get (F.EMW_LIMIT_LIMIT b)) < signed 16 (s.get (F.EMW_LIMIT_LIMIT (b + 1)))) ∧
      s.waveOk [] 0 = true ∧ s.emw.chosen = false ∧ maxOf s.emw.reports = 7 ∧ s.get F.EMW_CTRL_TEMP_SRC = 0) ∧
    (let s := sampled [(F.EMW_LIMIT_LIMIT 1, 0)]; ¬ ∀ b < 6, signed 16 (s.get (F.EMW_LIMIT_LIMIT b)) < signed 16 (s.get (F.EMW_LIMIT_LIMIT (b + 1)))) ∧
    (let s := sampled ((List.range 6).map fun l => (⟨A.TPL_MAP 3 3, 3 * l, 3⟩, l));
     GroupId.quad 15 = 3 ∧ s.tplActive 15 = true ∧ s.mapClash 15 = false ∧ 0 < s.cdics 15) := by
  refine ⟨?_, ?_, ?_, ?_, ?_, ?_⟩ <;> decide +kernel

/-- A message of type `typ` from CDIC `src` as the back channel's symbols (R277). -/
def backMessage (typ src : Byte) (b : List Byte) : List (BitVec 10) :=
  let b := [typ, src, BitVec.ofNat 8 b.length] ++ b
  symbols10 false ([k281] ++ (b ++ beBytes 2 (crc16 b).toNat).map (Char8.mk false) ++ [k297])

/-- Lane group 15 in stage `st` with fields `l`, at core cycle `c`. -/
def grouped (st : Nat) (c : Nat) (g : TplGroup := {}) (l : List (Fld × Nat) := []) : State :=
  { having ((F.TPL_STATUS_STAGE 3 3, st) :: l) with wt := { cycle := c }, tpl := Vector.replicate 16 g }

theorem test_met_LaneGroupBringUp :
    (bcMsg [] = none ∧ bcMsg ((backMessage 3 5 [7, 0]).set 4 0) = none) ∧
    bcMsg (backMessage 1 5 (List.replicate 12 255)) = some ⟨1, (5 : Fin 6).val, List.replicate 12 255⟩ ∧
    bcMsg (backMessage 2 0 [2, 225, 0, 100, 0, 0, 0, 0]) = some ⟨2, (0 : Fin 6).val, [2, 225, 0, 100, 0, 0, 0, 0]⟩ ∧
    State.reset.tplStage 15 = 0 ∧ (grouped 7 0).tplStage 15 = 7 ∧ (grouped 6 0).tplStage 15 = 6 ∧
    (scanning .running).scans 3 = true ∧ State.reset.scans 3 = false ∧
    (let s := grouped 1 16000;
     s.tplStage 15 = 1 ∧ s.passedUs (s.group 15).since 10 = true ∧ s.mapClash 15 = false ∧
       (∀ l < 6, s.lanePair 15 l ≠ 7) ∧ (∀ l < 6, s.lanePair 15 l ≠ 6) ∧
       (∀ l < 6, bit 0xFF (s.lanePair 15 l) = true) ∧
       bit 0xFE (s.lanePair 15 0) = false ∧ ((List.range 7).filter (bit 0xFE)).length = 6 ∧ bit 0xFE 7 = true ∧ bit 0x7F 7 = false) ∧
    (let s := grouped 5 3200000; s.tplStage 15 = 5 ∧ s.passedUs (s.group 15).since 2000 = true) ∧
    (let s := grouped 2 1600000; s.tplStage 15 = 2 ∧ s.passedUs (s.group 15).since 1000 = true) ∧
    (let s := grouped 4 0 {} [(F.TPL_STATUS_DET 3 3, 0x7F)];
     s.tplStage 15 = 4 ∧ s.flag (F.TPL_STATUS_TARGET 3 3) = false ∧ (∀ p < 7, bit 0x7F p = true → bit (0x7F : Byte).toNat p = true)) ∧
    (let s := grouped 4 0 {} [(F.TPL_STATUS_TARGET 3 3, 1)]; s.flag (F.TPL_STATUS_TARGET 3 3) = true ∧ s.get (F.TPL_STATUS_DET 3 3) = 0) ∧
    (let s := grouped 5 0;
     s.tplStage 15 = 5 ∧ s.mapClash 15 = false ∧ s.get (F.TPL_RATE_VER_MAX 3 3) = 0 ∧ s.get (F.TPL_RATE_RATE 3 3) = 0 ∧ s.geoOk = false ∧
       (((s.group 15).caps.set 0 (some ⟨2, 225, 100⟩)).toList.take 1).filterMap id = [⟨2, 225, 100⟩] ∧
       (((s.group 15).caps.set 0 (some ⟨2, 225, 100⟩)).toList.take 2).filterMap id = [⟨2, 225, 100⟩]) ∧
    (let s := grouped 5 0 {} [(F.TPL_RATE_VER_MAX 3 3, 3)]; s.tplStage 15 = 5 ∧ s.get (F.TPL_RATE_VER_MAX 3 3) = 3) := by
  refine ⟨?_, ?_, ?_, ?_, ?_, ?_, ?_, ?_, ?_, ?_, ?_, ?_, ?_, ?_, ?_⟩ <;> decide +kernel

theorem test_met_LaneSwaps :
    bcMsg (backMessage 3 0 [5, 1]) = some ⟨3, 0, [5, 1]⟩ ∧ beAt [5, 1] 0 1 = (5 : Fin 7).val ∧
    (let s := grouped 6 0 {} [(F.TPL_STATUS_DET 3 3, 0x7F), (F.TPL_STATUS_FREE 3 3, 6), (F.TPL_CTRL_ROT_EN 3 3, 1)];
     s.tplActive 15 = true ∧ s.mapClash 15 = false ∧ (s.group 15).rot = .none ∧ s.lanePair 15 5 = (5 : Fin 7).val ∧
       s.noSpare 15 = false ∧ (∀ m < 6, s.lanePair 15 m ≠ 6) ∧ s.freePair 15 = 6 ∧ s.flag (F.TPL_PRBS_BAD 3 3 6) = false ∧
       s.lanePair 15 0 = (s.freePair 15 + 1 + 0) % 7 ∧ bit (s.get (F.TPL_STATUS_DET 3 3)) 0 = true ∧
       s.flag (F.TPL_PRBS_BAD 3 3 0) = false ∧ s.flag (F.TPL_CTRL_ROT_EN 3 3) = true) ∧
    (let s := grouped 6 0 {} [(F.TPL_STATUS_NOSPARE 3 3, 1)];
     s.tplActive 15 = true ∧ s.mapClash 15 = false ∧ (s.group 15).rot = .none ∧ s.lanePair 15 5 = (5 : Fin 7).val ∧ s.noSpare 15 = true) ∧
    (let s := grouped 6 9600 { rot := .align 0 0 6 0 true };
     s.tplActive 15 = true ∧ s.mapClash 15 = false ∧ (s.group 15).rot = .align 0 0 6 0 true ∧ s.passedUs 0 6 = true) ∧
    (let s := grouped 6 (1000 * 1600 * 1000) { rot := .dwell 6 0 17 false };
     (s.group 15).rot = .dwell 6 0 17 false ∧ s.passedUs 0 (1000 * max 1 (s.get (F.TPL_ROT_CFG_DWELL_MS 3))) = true ∧
       s.get (F.TPL_ROT_CFG_PRBS_LIMIT 3) < 17) ∧
    (let s := grouped 6 (1000 * 1600 * 1000) { rot := .dwell 6 0 16 true };
     (s.group 15).rot = .dwell 6 0 16 true ∧ s.passedUs 0 (1000 * max 1 (s.get (F.TPL_ROT_CFG_DWELL_MS 3))) = true ∧
       16 ≤ s.get (F.TPL_ROT_CFG_PRBS_LIMIT 3)) := by
  refine ⟨?_, ?_, ?_, ?_, ?_, ?_, ?_⟩ <;> decide +kernel

/-! ### Network, management and neighbours -/

/-- A good frame of 64 bytes on port A for destination `d`. -/
def macFrame (d : BitVec 48) : NetFrame :=
  { port := 0, len := 64, fcsOk := true, tags := 0, src := 1, dst := d, encap := .raw }

/-- Port A up with fields holding `l`. -/
def heardOn (l : List (Fld × Nat) := []) : State := having ((F.NET_PORT_STATUS_UP 0, 1) :: l)

theorem test_met_NetworkPorts :
    ((heardOn).portUp 0 = true ∧ (heardOn).scannedLane 0 = none) ∧ badFrame (macFrame 0) = false ∧
    badFrame { macFrame 0 with len := 63 } = true ∧
    ((macFrame 0xFFFFFFFFFFFF).dst.toNat = broadcastMac ∧ (heardOn [(whole (A.NET_PORT_IPV4 0), 5)]).ownIp4 0 = (5 : BitVec 128).toNat ∧
      State.reset.ownIp4 0 = 0) ∧
    ((macFrame 5).dst.toNat = (heardOn [(whole (A.NET_PORT_MAC_LO 0), 5)]).ownMac 0 ∧ (heardOn).partRoom (macFrame 5) false = true ∧
      (let s : State := { heardOn with ing := { buffer := [{ frame := { macFrame 0 with len := 262144 }, data := [] }] } };
       s.partRoom (macFrame 5) false = false)) ∧
    (let s := heardOn; s.isTransit (macFrame 1) = true ∧ s.forwards (macFrame 1) .plain = false) ∧
    (let s := heardOn [(F.NET_CFG_ROLE, 2), (F.NET_CFG_FWD_AB, 1), (F.NET_PORT_STATUS_UP 1, 1)];
     s.isTransit (macFrame 1) = true ∧ s.fwdKind (macFrame 1) .no = .plain ∧ s.forwards (macFrame 1) .plain = true ∧
       s.portUp 1 = true ∧ s.get (F.NET_PORT_MODE_MODE 0) = s.get (F.NET_PORT_MODE_MODE 1) ∧
       s.fwdUsed 1 + (macFrame 1).len ≤ 65536) ∧
    (let s := heardOn [(F.NET_CFG_ROLE, 2), (F.NET_CFG_FWD_AB, 1), (F.WT_CTRL_TC_EN, 1), (F.NET_PORT_STATUS_UP 1, 1)];
     let f := { macFrame 1 with encap := .other 0x88F7 };
     s.isTransit f = true ∧ s.fwdKind f (.event 0 0 0) = .event 0 0 (s.rxStamp 0 0) ∧ s.forwards f (s.fwdKind f (.event 0 0 0)) = true) ∧
    (let s := heardOn [(F.NET_CFG_ROLE, 2), (F.NET_CFG_FWD_AB, 1), (F.NET_PORT_MODE_MODE 1, 3)];
     s.isTransit (macFrame 1) = true ∧ s.forwards (macFrame 1) .plain = true ∧ s.portUp 1 = false ∧
       s.get (F.NET_PORT_MODE_MODE 0) ≠ s.get (F.NET_PORT_MODE_MODE 1)) := by
  refine ⟨?_, ?_, ?_, ?_, ?_, ?_, ?_, ?_, ?_⟩ <;> decide +kernel

/-- The body of a management message with opcode `op`, TAG 9 and the bytes `b` after its header. -/
def asking (op : Byte) (b : List Byte) : List Byte := [op, 0, 0, 0, 0, 0, 0, 9] ++ b

/-- Flow 5 ACTIVE as a management flow of session 1, which holds every authority. -/
def managed : State :=
  { listening 0x161 with
    sess := [(1, { authority := 0xFF, keys := #v[some { rx := 0, tx := 0 }, none] })] }

/-- The packet with that body, and what it carries in the clear. -/
def asked (op : Byte) (b : List Byte) : RknPkt × RknMsg := (packet 3 (asking op b), message 3 (asking op b))

/-- A message that is heard, in sequence and verified. -/
def Comes (x : RknPkt × RknMsg) (s : State) : Prop :=
  (rknHdr x.1).typ = 3 ∧ Heard x.1 s ∧ InSequence x.1 x.2 s ∧ s.flag F.SEC_STATUS_RECOVERY = false ∧
    s.flowSession (rknHdr x.1).flow.toNat ≠ 255

/-- The four bytes of address PWR_WAKE_NS, a register with plain bits alone. -/
def wakeNs : List Byte := beBytes 4 A.PWR_WAKE_NS

theorem test_wakeNs_is_plain :
    writeTo A.PWR_WAKE_NS = .plain ∧ shape A.PWR_WAKE_NS = [0xFFFFFFFF, 0, 0, 0, 0] ∧
    managed.reach .host A.PWR_WAKE_NS true = .regs [A.PWR_WAKE_NS] ∧ managed.reach .host A.PWR_WAKE_NS false = .regs [A.PWR_WAKE_NS] ∧
    rmwBars .host A.PWR_WAKE_NS = false ∧ managed.mgmtMay 1 A.PWR_WAKE_NS true = true ∧ managed.mgmtMay 1 A.PWR_WAKE_NS false = true := by
  decide +kernel

theorem test_wakeNs_unopposed : Unopposed .host A.PWR_WAKE_NS A.PWR_WAKE_NS managed := by unfold Unopposed Undriven; decide +kernel

theorem test_wakeNs_readable (u : State) : u.readReg .host A.PWR_WAKE_NS = (u.rd A.PWR_WAKE_NS, u) := rfl

theorem test_wakeNs_apart :
    A.PWR_WAKE_NS ≠ A.NET_MTX_DROP ∧ ∀ g ∈ arrivalFields (asked 1 []).1, g.addr ≠ A.PWR_WAKE_NS := by decide +kernel

theorem test_met_ManagementMessages :
    (let x := asked 1 (wakeNs ++ [0, 1, 0, 0]); Comes x managed ∧ (mgmtReq managed x.2).opcode = 1 ∧
      (mgmtReq managed x.2).shapeOk false = true ∧ (mgmtReq managed x.2).words = 1 ∧ (mgmtReq managed x.2).addr = A.PWR_WAKE_NS) ∧
    (let x := asked 2 (wakeNs ++ [0, 1, 0, 0, 0, 0, 0, 7]); Comes x managed ∧ (mgmtReq managed x.2).opcode = 2 ∧
      (mgmtReq managed x.2).shapeOk true = true ∧ (mgmtReq managed x.2).words = 1 ∧ (mgmtReq managed x.2).addr = A.PWR_WAKE_NS) ∧
    (let x := asked 3 (wakeNs ++ [0, 0, 0, 1, 0, 0, 0, 7]); Comes x managed ∧ (mgmtReq managed x.2).opcode = 3 ∧
      (mgmtReq managed x.2).body.length = 12 ∧ (mgmtReq managed x.2).addr = A.PWR_WAKE_NS) ∧
    (let x := asked 1 (wakeNs ++ [0, 65, 0, 0]); Comes x managed ∧ (mgmtReq managed x.2).opcode = 1 ∧
      (mgmtReq managed x.2).shapeOk false = false) ∧
    (let x := asked 2 (wakeNs ++ [0, 0, 0, 0]); Comes x managed ∧ (mgmtReq managed x.2).opcode = 2 ∧
      (mgmtReq managed x.2).shapeOk true = false) ∧
    (let x := asked 1 [4, 0, 0, 0, 0, 1, 0, 0]; Comes x managed ∧ (mgmtReq managed x.2).shapeOk false = true ∧
      0x4000000 ∈ (mgmtReq managed x.2).addrs ∧ managed.mgmtMay 1 0x4000000 false = false) ∧
    (let x := asked 2 [4, 0, 0, 0, 0, 1, 0, 0, 0, 0, 0, 0]; Comes x managed ∧ (mgmtReq managed x.2).shapeOk true = true ∧
      0x4000000 ∈ (mgmtReq managed x.2).addrs ∧ managed.mgmtMay 1 0x4000000 true = false) ∧
    (let x := asked 0x1F []; Comes x managed ∧ (mgmtReq managed x.2).opcode = 0x1F ∧ managed.freeMrx = some 0) ∧
    (let s : State := { managed with net := { mrx := Vector.replicate 32 (some ⟨none, 0x10, 0⟩) } };
     Comes (asked 0x10 []) s ∧ s.freeMrx = none) ∧
    (let s : State := { managed with net := { mrx := Vector.replicate 32 (some ⟨some ⟨5, 0, 1, 2, .raw⟩, 0x10, 0⟩) } };
     field 31 0 5 = (31 : Fin 32).val ∧ s.net.mrx[(31 : Fin 32)] = some ⟨some ⟨5, 0, 1, 2, .raw⟩, 0x10, 0⟩) := by
  unfold Comes Heard InSequence
  refine ⟨?_, ?_, ?_, ?_, ?_, ?_, ?_, ?_, ?_, ?_⟩ <;> decide +kernel

/-- Neighbour port S in stage `st` with fields `l`, at core cycle `c`. -/
def linked (st : Nat) (c : Nat) (x : NbrPort := {}) (l : List (Fld × Nat) := []) : State :=
  { having ((F.NBR_STATUS_STAGE 2, st) :: l) with wt := { cycle := c }, nbr := Vector.replicate 4 x }

theorem test_met_NeighbourLinks :
    (linked 7 0).nbrStage 2 = 7 ∧ State.reset.nbrStage 2 = 0 ∧ State.reset.inStay = false ∧ (linked 6 0).nbrStage 2 = 6 ∧
    ((linked 1 0).nbrStage 2 = 1 ∧ (3 : BitVec 2) ≠ 0 ∧ (1 : BitVec 2) ≠ 3) ∧
    (let s := linked 2 0 {} [(F.NBR_STATUS_LANES 2, 3)];
     s.nbrStage 2 = 2 ∧ ∃ l < 2, bit (s.get (F.NBR_STATUS_LANES 2)) l = true ∧ (2 : BitVec 2).getLsbD l = true) ∧
    (let s := linked 4 0 { retrain := true } [(F.NBR_STATUS_LANES 2, 2)];
     s.nbrStage 2 = 4 ∧ (s.port 2).retrain = true ∧
       ∀ l < 2, bit (s.get (F.NBR_STATUS_LANES 2)) l = true → (2 : BitVec 2).getLsbD l = true) ∧
    (let s := linked 1 16000; s.nbrStage 2 = 1 ∧ s.passedUs (s.port 2).since 10 = true) ∧
    (let s := linked 5 1600000; s.nbrStage 2 = 5 ∧ s.passedUs (s.port 2).since 1000 = true) ∧
    (let s := linked 5 0 {} [(F.NBR_RATE_RATE 2, 129)]; s.nbrStage 2 = 5 ∧ s.get (F.NBR_RATE_RATE 2) = 129) ∧
    (let s := linked 5 0; s.nbrStage 2 = 5 ∧ s.get (F.NBR_RATE_RATE 2) = 0 ∧ beAt (capsBytes 128 7 3) 0 2 = 128) ∧
    (let s := linked 6 0 {} [(F.NBR_STATUS_LANES 2, 2)];
     s.nbrStage 2 = 6 ∧ s.nbrLane 2 1 = true ∧ s.get (F.NBR_STATUS_LANES 2) = 2 ^ (1 : Fin 2).val) ∧
    (let s := linked 6 0 {} [(F.NBR_STATUS_LANES 2, 3)];
     s.nbrLane 2 1 = true ∧ s.get (F.NBR_STATUS_LANES 2) ≠ 2 ^ (1 : Fin 2).val) ∧
    (let s := linked 6 1600000 {} [(F.NBR_CTRL_SLEEP_EN 2, 1)];
     s.flag (F.NBR_CTRL_SLEEP_EN 2) = true ∧ s.flag (F.NBR_STATUS_TX_SLEEP 2) = false ∧ (s.port 2).sends = [] ∧
       (s.port 2).idle + 1600 * max 1 (s.get (F.NBR_CTRL_IDLE_US 2)) < s.wt.cycle ∧ s.flag (F.NBR_STATUS_RX_SLEEP 2) = false) := by
  refine ⟨?_, ?_, ?_, ?_, ?_, ?_, ?_, ?_, ?_, ?_, ?_, ?_, ?_, ?_⟩ <;> decide +kernel

/-- A neighbour frame of type `typ` for plane 3, with SEQ `seq`, COUNT `count` and payload `b`. -/
def nbrFrame (typ : BitVec 4) (seq : BitVec 64) (relief : Bool) (count : BitVec 32) (b : List Byte) : NbrFrame :=
  { typ := typ, relief := relief, plane := 3, seq := seq, frame := 0, x := 1, y := 0, w := 1, h := 1, count := count, payload := b }

/-- That frame as received, under key and salt `k` (R312, R313). -/
def received (k : BitVec 288) (f : NbrFrame) : NbrRaw := { data := nbrSeal k f, crc := crc32c (nbrSeal k f) }

/-- Port S open under a key a direction, the replaced receive key still held, for plane 3, of 2 by 1 pixels and a relief map, everywhere. -/
def opened (x : NbrPort := {}) (l : List (Fld × Nat) := []) : State :=
  { linked 6 0 { x with txKey := some 1, rxKey := some 2, rxOld := [(3, 0)] } ([(F.NBR_STATUS_KEYED 2, 1), (F.NBR_PLANES_RX_MASK 2, 8), (F.NBR_RXWIN_X_X1 2, 2), (F.NBR_RXWIN_Y_Y1 2, 1)] ++ l) with
    ing := { planes := Vector.replicate 16 { live := { en := true, relief := true, width := 2, height := 1, bank1 := 64 } } } }

theorem test_met_NeighbourFrames :
    (let f := nbrFrame 1 1 false 0 [1, 2, 3, 4];
     TakenNbr 2 (received 2 f) f (opened { rxSeq := some 0 }) ∧ nbrPlane f = some 3 ∧
       (opened { rxSeq := some 0 }).stripAllowed 2 3 f = true ∧ f.payload.length = 4 * 1 * 1) ∧
    (let f := nbrFrame 1 0 true 0 [1];
     TakenNbr 2 (received 3 f) f opened ∧ nbrPlane f = some 3 ∧ opened.stripAllowed 2 3 f = true ∧ (opened.plane 3).live.relief = true ∧
       f.payload.length = (1 + 1) / 2 * 1) ∧
    (let f := { nbrFrame 1 0 false 0 [] with x := 2 }; TakenNbr 2 (received 2 f) f opened ∧ nbrPlane f = some 3 ∧ opened.stripAllowed 2 3 f = false) ∧
    (let f := { nbrFrame 1 0 false 0 [] with plane := 16 }; TakenNbr 2 (received 2 f) f opened ∧ nbrPlane f = none) ∧
    (let f := nbrFrame 2 0 false 1 []; TakenNbr 2 (received 2 f) f opened ∧ nbrPlane f = some 3) ∧
    (let g : NbrFence := ⟨3, 0, 1⟩; ((opened { fences := [g] }).port 2).fences = [g] ∧
      rowCount (State.reset.port 2).rows g.plane g.frame ≠ g.count ∧
      rowCount ((opened { fences := [g], rows := [(3, 0, 1)] }).port 2).rows g.plane g.frame = g.count) ∧
    (let f := nbrFrame 3 1 false 7 (List.replicate 32 1);
     TakenNbr 2 (received 2 f) f (opened { launches := [(7, 0)] }) ∧ metricTimeOf (bytesAt f.payload 16 14) ≠ 0 ∧ (∀ e ∈ ((opened).port 2).launches, e.1 ≠ f.count.toNat) ∧
       ((opened { launches := [(7, 0)] }).port 2).launches.find? (fun l => l.1 == f.count.toNat) = some (7, 0)) ∧
    (let z : StripSend := { plane := 3, frame := 0, desc := {}, bank := 0, src := (0, 0), size := (1, 0), dst := (0, 0) };
     let s := opened { sends := [z] } [(F.NBR_STATUS_CREDITS 2, 1)];
     (s.port 2).sends = [z] ∧ s.nbrOpen 2 = true ∧ (s.port 2).txKey = some 1 ∧ z.turn.rows = 0 ∧ 1 ≤ s.get (F.NBR_STATUS_CREDITS 2)) ∧
    (let f := nbrFrame 1 1 false 0 [1, 2, 3, 4];
     opened.nbrOpen 2 = true ∧ opened.flag (F.NBR_STATUS_RX_SLEEP 2) = false ∧ nbrCrcOk { received 2 f with crc := 0 } = false ∧
       nbrCrcOk (received 5 f) = true ∧ (opened.port 2).openFrame (received 5 f).data = none) := by
  unfold TakenNbr
  refine ⟨?_, ?_, ?_, ?_, ?_, ?_, ?_, ?_, ?_⟩ <;> decide +kernel

/-! ### Engines, DRAM and calibration -/

/-- A job of eight words from SQS, the first `f0`, the fifth the destination's size. -/
def job (f0 : Word) (len size : Word := 0) : DflJob := { words := [f0, 0x100, len, 0, size, 0, 0, 0], by_ := .sqs }

/-- A stream: one final stored block of the byte 7. -/
def storedSeven : List Byte := [0x01, 1, 0, 0xFE, 0xFF, 7]

/-- Quadrant 0's memory with that stream at 0x100. -/
def withStream : Sparse Byte := (List.range 6).filterMap fun i =>
  let b := storedSeven.getD i 0
  if b = 0 then none else some (0x100 + i, b)

theorem test_stored_block : inflate storedSeven [] none false = { bytes := [7], err := none, rest := 0 } := by decide +kernel

theorem test_adler : adler32 1 [0x57, 0x69, 0x6B, 0x69, 0x70, 0x65, 0x64, 0x69, 0x61] = 0x11E60398 := by decide +kernel

theorem test_met_DeflateStreams :
    (let j := job 0x101; (j.f0 8 1 == 1) = true ∧ (j.f0 10 1 == 1) = false ∧ (j.f0 9 1 == 1) = false ∧ j.program = true) ∧
    (let s : State := { State.reset with dfl := { zlib := true } }; let j := job 0x601;
     s.dfl.zlib = true ∧ (j.f0 10 1 == 1) = true ∧ (j.f0 9 1 == 1) = true) := by decide +kernel

/-- The raw stream of no bytes, not synchronised, is whole: it decodes to nothing. -/
theorem test_empty_stream : inflate (rawStream 0 false [] []) [] none false = { bytes := [], err := none, rest := 0 } := by
  decide +kernel

theorem test_met_EngineJobs :
    State.reset.jobCredit ≠ 0 ∧
    (let s : State := { State.reset with dfl := { stageSqs := List.replicate 7 0 } };
     s.jobCredit ≠ 0 ∧ s.dfl.stageSqs.length = 7 ∧ s.dfl.stageHost.length < 7) ∧
    (let d : InflDesc := { flow := 0, ord := 0, mode := false, enc := 1, sos := false, dest := .nowhere, x := 0, y := 0, w := 1, h := 1, bytes := [] };
     let s : State := { having [(F.DFL_CFG_PROG_EVERY, 0)] with ing := { queue := [d] } };
     (∃ d ∈ s.ing.queue, d.bound = none ∨ d.bound = some 0) ∧ s.get F.DFL_CFG_PROG_EVERY = 0) ∧
    (let j := job 0x40000 6 1;
     let s : State := { State.reset with dfl := { queue := [job 1, j] } };
     s.ing.queue = [] ∧ s.ing.buffer = [] ∧ s.ing.held = [] ∧ (s.inflater 3).cur = none ∧ s.dfl.infl[(3 : Fin 4)] = none ∧ s.dfl.past = false ∧ s.cplRoom = true ∧
       (∀ h ∈ s.ing.held, s.stalled h.flow = false) ∧ s.dfl.queue = [job 1] ++ j :: [] ∧ (∀ x ∈ [job 1], ¬ (x.isDeflate = false ∧ (x.f0 16 3 = 3 ∨ 4 ≤ x.f0 16 3))) ∧
       j.isDeflate = false ∧ 4 ≤ j.f0 16 3 ∧ j.program = true ∧ j.descBad = false ∧ (job 0x50000 6 1).descBad = true) ∧
    (let s : State := { State.reset with dfl := { queue := [job 0 6 1, job 0x401] } };
     s.dfl.defl = none ∧ s.dfl.past = false ∧ s.cplRoom = true ∧ s.dfl.queue = [job 0 6 1] ++ job 0x401 :: [] ∧ (job 0x401).descBad = false ∧
       (job 1).isDeflate = true ∧ (job 0x401).f0 10 1 = 1 ∧ s.dfl.contOk = false ∧ (job 1).f0 10 1 = 0 ∧ (job 0xF1).descBad = true) ∧
    (let j := job 0 6 1;
     let s : State := { dramUp with dfl := { infl := #v[some j, none, none, none] }, dram := #v[{ mem := withStream }, {}, {}, {}] };
     s.dfl.infl[(0 : Fin 4)] = some j ∧ j.program = true ∧ s.ing.queue = [] ∧ s.ing.buffer = [] ∧ s.ing.held = [] ∧ j.srcQuad = 0 ∧
       s.dramServes 0 = true ∧ s.inlineEcc 0 = false ∧ s.flag (F.DRAM_CFG_LINK_ECC 0) = false ∧
       (s.dr 0).u05 = [] ∧ j.dstQuad = 0 ∧ (j.word 1).toNat + (j.word 2).toNat ≤ s.dramSize 0 ∧
       s.bufferBad j (j.word 3).toNat (j.word 4).toNat = false ∧
       (List.range (j.word 2).toNat).map (fun k => (s.dr 0).byte ((j.word 1).toNat + k)) = storedSeven) ∧
    (let j := job 1 0 64;
     let s : State := { dramUp with dfl := { defl := some j } };
     s.dfl.defl = some j ∧ s.dramServes j.srcQuad = true ∧ j.dstQuad = 0 ∧ (j.word 1).toNat + (j.word 2).toNat ≤ s.dramSize 0 ∧
       s.bufferBad j (j.word 3).toNat (j.word 4).toNat = false ∧ (s.deflateStream j []).length ≤ (j.word 4).toNat) ∧
    (let j : DflJob := { job 1 0 64 with by_ := .cam 1 2 0 };
     let s : State := { dramUp with dfl := { defl := some j } };
     j.program = false ∧ (s.deflateStream j []).length ≤ (j.word 4).toNat ∧ s.geo.load = none ∧ s.flippedTo j.dstQuad = none) ∧
    (let s : State := { State.reset with dfl := { stageHost := List.replicate 7 0 } }; s.dfl.stageHost.length = 7 ∧ s.jobCredit ≠ 0) := by
  refine ⟨?_, ?_, ?_, ?_, ?_, ?_, ?_, ?_, ?_⟩ <;> decide +kernel

/-- A copy of 2 by 2 pixels of 32 bits, from the bottom row up, the watermark in row 1. -/
def copying (dst src : BltSurf) : BltOp :=
  { bytes := 4, xdir := false, ydir := true, rop := 0xCC, w := 2, h := 2, dst := dst, dx := 0, dy := 0, src := src, sx := 0, sy := 0
    pat := [], orgX := 0, orgY := 0, wmark := some 1, fence := none }

theorem test_met_BlockOperations :
    (State.reset.flag (F.BLT_STATUS_BUSY 0) = false ∧ (State.reset.bltSample 0).h = 0 ∧ (State.reset.bltSample 0).fence = none) ∧
    (let s := having [(F.BLT_SIZE_HEIGHT 0, 1)]; 0 < (s.bltSample 0).h ∧ s.bltRefused 0 (s.bltSample 0) = true) ∧
    (let s := having [(F.BLT_SIZE_HEIGHT 0, 1), (F.BLT_SIZE_WIDTH 0, 1), (F.BLT_DST_CFG_PITCH 0, 1)] dramUp;
     0 < (s.bltSample 0).h ∧ s.bltRefused 0 (s.bltSample 0) = false ∧ (s.bltSample 0).isU12 = false) ∧
    (let s := having [(F.BLT_SIZE_HEIGHT 0, 1), (F.BLT_SIZE_WIDTH 0, 1), (F.BLT_CTRL_FORMAT 0, 2)] dramUp;
     0 < (s.bltSample 0).h ∧ s.bltRefused 0 (s.bltSample 0) = false ∧ (s.bltSample 0).isU12 = true) ∧
    (let o := copying (.dram 0 64) (.dram 128 64);
     let s : State := { dramUp with blt := #v[some o, none, none, none] };
     s.blt[(0 : Fin 4)] = some o ∧ o.u12 = false ∧ o.bytes = 4 ∧ 0 < o.w ∧ s.dramServes 0 = true ∧ s.inlineEcc 0 = false ∧
       s.flag (F.DRAM_CFG_LINK_ECC 0) = false ∧ (s.dr 0).u05 = [] ∧ s.geo.load = none ∧ s.flippedTo 0 = none ∧ o.rows < o.h ∧
       o.dst.at_ 4 0 1 + 2 * 4 ≤ s.dramSize 0 ∧ o.src.at_ 4 0 1 + 2 * 4 ≤ s.dramSize 0 ∧ ropSource 0xCC = true ∧ o.rows + 1 < o.h ∧
       { o with rows := 1 }.rows + 1 = o.h ∧ { o with u12 := true }.u12 = true ∧ s.bltServed 0 o = true) ∧
    (let o := copying (.plane 3 0 2 2) (.plane 4 0x1000 2 2);
     let s : State := { State.reset with blt := #v[some o, none, none, none] };
     o.bytes = 4 ∧ s.geo.load = none ∧ s.flippedTo 0 = none ∧ s.ing.bad = [] ∧
       ∀ a ∈ (List.range 8).map (o.src.at_ 4 0 1 + ·), s.sceneBad a = false) ∧
    (let o := copying (.dram 0 64) (.plane 4 0x1000 2 2);
     let s : State := { dramUp with blt := #v[some o, none, none, none], ing := { bad := [o.src.at_ 4 0 1 / 8] } };
     s.dramServes 0 = true ∧ ∃ a ∈ (List.range 8).map (o.src.at_ 4 0 1 + ·), s.sceneBad a = true) := by
  refine ⟨?_, ?_, ?_, ?_, ?_, ?_, ?_⟩ <;> decide +kernel

/-- The ROP3 code 0xCC copies the source, and 0xF0 the pattern (R352). -/
theorem test_rop3 : rop3 0xCC 1 2 4 8 = 2 ∧ rop3 0xF0 1 2 4 8 = 1 ∧ rop3 0x66 1 2 3 8 = 1 := by decide +kernel

/-- Camera port 1 enabled with its channel 15 mapped to context 3, quadrant 0's DRAM READY, and fields holding `l`. -/
def filming (l : List (Fld × Nat) := []) : State :=
  having ([(F.CAM_PORT_CTRL_EN 1, 1), (⟨A.CAM_PORT_VCMAP1 1, 28, 4⟩, 4)] ++ l) dramUp

/-- A context of 8 by 4 pixels. -/
def filmed : State := filming [(F.CAM_CTX_CTRL_EN 3, 1), (F.CAM_CTX_SIZE_WIDTH 3, 8), (F.CAM_CTX_SIZE_HEIGHT 3, 4), (F.CAM_CTX_RATE_MPX 3, 1200)]

/-- A frame of that context, in progress with `got` lines. -/
def camFrame (got : Nat) : CamFrame :=
  { words := filmed.camSample 3, port := 1, number := 9, stamp := 0, trig := none, inProg := true, dropped := false, got := got }

/-- Context 3 with state `x`, frame counts as `filmed` has them. -/
def shooting (x : CamCtx) : State := { filmed with cam := #v[{}, {}, {}, x] }

theorem test_camera_states :
    ((shooting { cur := some (camFrame 3) }).cx 3).cur = some (camFrame 3) ∧
      ((shooting { ended := [camFrame 4] }).cx 3).ended = [camFrame 4] := ⟨rfl, rfl⟩

theorem test_met_CameraFrames :
    (filmed.camOn = true ∧ filmed.flag (F.CAM_PORT_CTRL_EN 1) = true ∧ filmed.camMap 1 15 = some 3 ∧ filmed.camMixed 3 = false) ∧
    ((filmed.cx 3).cur = none ∧ filmed.flag (F.CAM_CTX_CTRL_EN 3) = true ∧ filmed.camBad (camFrame 0) = false ∧
      filmed.camLoad + (camFrame 0).mpx ≤ 1200) ∧
    (let s : State := { filmed with cam := #v[{ cur := some (camFrame 0) }, {}, {}, {}] };
     s.camBad (camFrame 0) = false ∧ 1200 < s.camLoad + (camFrame 0).mpx) ∧
    (let s := filming [(F.CAM_CTX_CTRL_EN 3, 1), (F.CAM_CTX_SIZE_WIDTH 3, 8), (F.CAM_CTX_SIZE_HEIGHT 3, 3)];
     s.camBad { camFrame 0 with words := s.camSample 3 } = true) ∧
    (let s := shooting { cur := some (camFrame 3) }; let f := camFrame 3;
     f.dropped = false ∧ (0x2B : BitVec 6).toNat = (if f.flag F.CAM_CTX_CTRL_DT = true then 0x2C else 0x2B) ∧
       (List.replicate 8 (0 : BitVec 12)).length = f.width ∧ 0 < f.width ∧ f.got < f.height ∧ s.camHeld 3 < 24 ∧ s.camNext = none) ∧
    (let f := { camFrame 3 with lines := List.replicate 24 ⟨0, []⟩ };
     let s := shooting { cur := some f };
     f.got < f.height ∧ 24 ≤ s.camHeld 3 ∧ f.port = 1 ∧ f.dropped = false ∧ (List.replicate 7 (0 : BitVec 12)).length ≠ f.width) ∧
    ((camFrame 0).got = 0 ∧ 0 < (camFrame 3).got ∧ (camFrame 3).got < (camFrame 3).height ∧ (camFrame 4).height ≤ (camFrame 4).got) ∧
    (let f := { camFrame 4 with inProg := false, endOrd := some 3, freed := 4, cells := List.replicate (camFrame 4).hc [] };
     let u := shooting { ended := [f] };
     let s := u.camFinish 3 [] u.camRowsLeft;
     (s.cx 3).ended = f :: [] ∧ f.hc ≤ f.cells.length ∧ s.camMixed 3 = false ∧ s.dramServes f.quad = true ∧ (s.dr f.quad).u05 = [] ∧ s.geo.load = none ∧ s.flippedTo f.quad = none ∧
       (∀ r ∈ f.outputs 0, r.1 + r.2 ≤ s.dramSize f.quad) ∧ s.cameraJobs < 16 ∧ f.flag F.CAM_CTX_CTRL_CODE_EN = false ∧
       s.inlineEcc f.quad = false) ∧
    (let s := having [(F.CAM_CTX_CTRL_CODE_EN 3, 1), (F.CAM_CTX_CTRL_CODE_DFL 3, 1), (F.CAM_CTX_CTRL_DT 3, 1)] filmed;
     let f := { camFrame 4 with words := s.camSample 3 };
     f.flag F.CAM_CTX_CTRL_CODE_EN = true ∧ f.flag F.CAM_CTX_CTRL_CODE_DFL = true ∧ f.flag F.CAM_CTX_CTRL_DT = true ∧
       ∀ r ∈ f.outputs 0, r.1 + r.2 ≤ s.dramSize f.quad) := by
  refine ⟨?_, ?_, ?_, ?_, ?_, ?_, ?_, ?_, ?_⟩ <;> decide +kernel

/-- Context 0 is to start while context 3's frame, of the rate `mpx`, started in this core cycle (R366). -/
def startedFirst (mpx : Nat) : State :=
  let s := filming [(⟨A.CAM_PORT_VCMAP1 1, 28, 4⟩, 1), (F.CAM_CTX_CTRL_EN 0, 1), (F.CAM_CTX_SIZE_WIDTH 0, 8), (F.CAM_CTX_SIZE_HEIGHT 0, 4),
    (F.CAM_CTX_RATE_MPX 0, 600), (F.CAM_CTX_SIZE_WIDTH 3, 8), (F.CAM_CTX_SIZE_HEIGHT 3, 4), (F.CAM_CTX_RATE_MPX 3, mpx)]
  { s with cam := #v[{}, {}, {}, { cur := some { camFrame 0 with words := s.camSample 3, born := some (s.wt.cycle, 0) } }] }

/-- Of two Frame Starts in one core cycle the lower context's is judged first, whichever was queued first (R366): the
frame of context 3 goes with RATE, and stays where both fit. A drop taken back leaves no trace. -/
theorem test_met_camera_order :
    (let s := startedFirst 601;
     let x := { camFrame 0 with words := s.camSample 0 };
     s.camMap 1 15 = some 0 ∧ s.camMixed 0 = false ∧ s.flag (F.CAM_CTX_CTRL_EN 0) = true ∧ (s.cx 0).cur = none ∧
       s.camBad x = false ∧ ((s.camJust 3).map fun y => (s.camBad y, decide (1200 < x.mpx + y.mpx))) = some (false, true)) ∧
    (let t := after (.csiFrameStart 1 .ok 15 0) (startedFirst 601);
     ((t.cx 0).cur.map (·.inProg), (t.cx 3).cur.map (·.inProg), t.get (F.CAM_CTX_DROPS_RATE 3), (t.seq 4).queue.length) =
       (some true, some false, 1, 1)) ∧
    (let t := after (.csiFrameStart 1 .ok 15 0) (startedFirst 600);
     ((t.cx 0).cur.map (·.inProg), (t.cx 3).cur.map (·.inProg)) = (some true, some true)) ∧
    (let s := startedFirst 600;
     let x := { camFrame 0 with words := (startedFirst 601).camSample 3, born := some (s.wt.cycle, 0) };
     let t := s.camJudge 2 x;
     t.get (F.CAM_CTX_DROPS_RATE 2) = 1 ∧ (t.seq 4).queue.length = 1 ∧
       ((t.cx 2).cur.map fun y => (decide ((t.camUnjudge 2 y).regs = s.regs), decide ((t.camUnjudge 2 y).seq 4 = s.seq 4))) =
         some (true, true)) := by
  refine ⟨?_, ?_, ?_, ?_⟩ <;> decide +kernel

/-- The registers of a context with every output, each in a place of its own. -/
def imaging : State :=
  having ([(F.CAM_CTX_CTRL_CODE_EN 3, 1), (F.CAM_CTX_CTRL_MV_EN 3, 1), (F.CAM_CTX_CTRL_DISP_EN 3, 1), (F.CAM_CTX_THRESH_THRESH 3, 5)] ++
    [A.CAM_CTX_REC_BASE 3 0, A.CAM_CTX_CODE_BASE 3 0, A.CAM_CTX_MV_BASE 3 0, A.CAM_CTX_DISP_BASE 3 0, A.CAM_CTX_DISP_SIZEBASE 3 0].zipIdx.map
      fun x => (whole x.1, 0x1000 * (x.2 + 1))) filmed

/-- A frame of that context that has ended without lines past its first, with the rows of cells `l`. -/
def imaged (l : List (List CamCell)) : CamFrame :=
  { camFrame 4 with words := imaging.camSample 3, inProg := false, endOrd := some 3, freed := 4, cells := l }

theorem test_met_CameraOutputs :
    (let s : State := { imaging with cam := #v[{}, {}, {}, { cur := some (camFrame 0), ended := [imaged []] }] };
     let g := imaged [];
     let f := camFrame 0;
     let row : CamCell := ⟨(1, 1, 1), 9, (1, 1, 1), true⟩;
     s.camOn = true ∧ s.flag (F.CAM_PORT_CTRL_EN 1) = true ∧ s.camMap 1 15 = some 3 ∧ s.camMixed 3 = false ∧ (s.cx 3).cur = some f ∧
       f.dropped = false ∧ (0x2B : BitVec 6).toNat = (if f.flag F.CAM_CTX_CTRL_DT = true then 0x2C else 0x2B) ∧ s.camHeld 3 < 24 ∧
       s.camNext = some 3 ∧ s.camFirst 3 = some g ∧ s.dramServes g.quad = true ∧ (s.dr g.quad).u05 = [] ∧ s.geo.load = none ∧
       s.inlineEcc g.quad = false ∧ 4 ≤ g.wc ∧ 2 ≤ g.hc ∧ g.cells.length < g.hc ∧
       (∀ r ∈ g.outputs 0, r.1 + r.2 ≤ s.dramSize g.quad) ∧ (g.outputs 0).Pairwise (fun y z => y.1 + y.2 ≤ z.1 ∨ z.1 + z.2 ≤ y.1) ∧
       g.flag F.CAM_CTX_CTRL_CODE_EN = true ∧ g.flag F.CAM_CTX_CTRL_MV_EN = true ∧ g.flag F.CAM_CTX_CTRL_DISP_EN = true ∧
       (imaged [[row]]).cells.length + 1 = g.hc) ∧
    (let g := imaged (List.replicate 2 (List.replicate 4 ⟨(1, 1, 1), 9, (1, 1, 1), true⟩));
     let s : State := { imaging with cam := #v[{}, {}, {}, { ended := [g] }] };
     let u := s.camFinish 3 [] s.camRowsLeft;
     (u.cx 3).ended = g :: [] ∧ g.hc ≤ g.cells.length ∧ u.camMixed 3 = false ∧ u.dramServes g.quad = true ∧ (u.dr g.quad).u05 = [] ∧
       u.geo.load = none ∧ (∀ r ∈ g.outputs 0, r.1 + r.2 ≤ u.dramSize g.quad) ∧
       (g.outputs 0).Pairwise (fun y z => y.1 + y.2 ≤ z.1 ∨ z.1 + z.2 ≤ y.1)) := by
  refine ⟨?_, ?_⟩ <;> decide +kernel

/-- Quadrant 0's DRAM controller in state `st` with fields holding `l`, its unit as `d`, at core cycle `c`. -/
def dramIn (st : Nat) (c : Nat) (d : DramUnit := {}) (l : List (Fld × Nat) := []) : State :=
  { having ([(F.DRAM_STATUS_STATE 0, st), (F.DRAM_SIZE_UNITS 0, 16)] ++ l) with wt := { cycle := c }, dram := #v[d, {}, {}, {}] }

theorem test_met_DramController :
    (State.reset.held = false ∧ (having [(F.BRD_STATUS_REASON, 1)]).held = true ∧ State.reset.dramState 0 = 0 ∧ State.reset.get (F.DRAM_CFG_DENSITY 0) ≠ 3 ∧ State.reset.get (F.DRAM_CFG_RATE 0) < 4) ∧
    (having [(F.DRAM_CFG_DENSITY 0, 3)]).get (F.DRAM_CFG_DENSITY 0) = 3 ∧
    ((dramIn 1 3520000).dramState 0 = 1 ∧ (dramIn 1 3520000).passedUs ((dramIn 1 3520000).dr 0).since ((dramIn 1 3520000).initUs 0) = true) ∧
    (let s := dramIn 3 32000 { resuming := true }; s.dramState 0 = 3 ∧ (s.dr 0).resuming = true ∧ s.passedUs (s.dr 0).since 20 = true) ∧
    (dramIn 3 0).dramState 0 = 3 ∧ (dramIn 2 0).dramState 0 = 2 ∧ ((dramIn 3 0).dr 0).resuming = false ∧
    (let s : State := { dramIn 2 0 {} [(F.DRAM_STATUS_STATE 1, 2)] with power := { entry := .refresh } };
     s.power.entry = .refresh ∧ s.dramState 0 = 2 ∧ ∃ m, m ≠ 0 ∧ s.dramReady m = true) ∧
    (let s := dramIn 2 0 { told := some 0 };
     s.dramServes 0 = true ∧ s.dramSize 0 ≤ 64 * ((0x100000 : BitVec 32).toNat / 64) ∧ (s.dr 0).rq.length < 64 ∧ (s.dramNow 0).before = [] ∧ (s.dr 0).u05 = [] ∧
       s.geo.load = none ∧ s.flippedTo 0 = none ∧ (s.dr 0).wq.length < 64 ∧ (s.dr 0).stale = [] ∧ (s.dr 0).told = some s.frameIndex ∧
       64 * ((0xFFFFF : BitVec 32).toNat / 64) < s.dramSize 0 ∧ s.dramBad 0 16383 = false) ∧
    (let s := dramIn 2 0 {} [(F.DRAM_CFG_INLINE_ECC 0, 1)];
     s.dramServes 0 = true ∧ s.inlineEcc 0 = true ∧ s.dramBad 0 0 = true) ∧
    (let s := dramIn 2 7 { now := { cycle := 7, before := [(0, true, [])] } }; (s.dramNow 0).before = [(0, true, [])]) ∧
    (let s := dramIn 2 0 { wq := List.replicate 64 (0, true), rq := List.replicate 64 { word := { addr := 0, marked := false, bytes := [] }, fwd := false } };
     64 ≤ (s.dr 0).rq.length ∧ 64 ≤ (s.dr 0).wq.length) ∧
    (let d : DramUnit := { wq := [(0, true)] };
     ({ d with wq := d.wq.take (d.wq.length - ((dramIn 2 0 d).dramNow 0).writes.length) } : DramUnit).forwards 0 = true) ∧
    (let s := dramIn 2 0 { wq := [(0, true), (0, false), (1, true)] };
     (s.dramNow 0).writes.length = 0 ∧ (s.dr 0).wq.reverse.find? (fun e => e.1 == 0) = some (0, false) ∧ 64 * 0 < s.dramSize 0) ∧
    (let s := dramIn 2 0 { written := [0] } [(F.DRAM_CFG_INLINE_ECC 0, 1), (F.DRAM_CFG_LINK_ECC 0, 1)];
     s.inlineEcc 0 = true ∧ s.dramBad 0 0 = false ∧ s.flag (F.DRAM_CFG_LINK_ECC 0) = true) ∧
    (let s : State := { dramIn 2 0 { mrr := some (4, 0) } [(F.DRAM_REF_CFG_TREFI_NS 0, 1)] with wt := { wall := 1000 * 2 ^ 48 } };
     s.dramState 0 = 2 ∧ (s.dr 0).lastSlot < s.slotNow ∧ 0 < s.trefi 0 ∧ s.calIdle 0 = true ∧ (s.dr 0).mrr.isSome = true) ∧
    (let s := dramIn 2 0 { cal := .asked } ; s.calIdle 0 = false) ∧
    (let s := dramIn 2 0 { acc := 4 * 65536 } [(F.DRAM_REF_CFG_TREFI_NS 0, 1)];
     s.dramState 0 = 2 ∧ 0 < s.trefi 0 ∧ 4 * s.trefi 0 ≤ (s.dr 0).acc + (s.wall16 - (s.dr 0).accAt) * s.refM 0) := by
  refine ⟨?_, ?_, ?_, ?_, ?_, ?_, ?_, ?_, ?_, ?_, ?_, ?_, ?_, ?_, ?_, ?_, ?_, ?_⟩ <;> decide +kernel

theorem test_met_CalibrationRuns :
    ((dramIn 2 0).dramState 0 = 2 ∧ (dramIn 2 0).scans 0 = false ∧ ((dramIn 2 0).dr 0).cal = .none ∧ (dramIn 1 0).dramState 0 = 1) ∧
    (let s : State := { dramIn 2 0 {} [(F.CAL_LEVEL_MIN_LEVEL 0, 1)] with scan := #v[{ run := .running }, {}, {}, {}] };
     s.scans 0 = true ∧ s.get (F.MAP_LEVEL_LEVEL 0) < s.get (F.CAL_LEVEL_MIN_LEVEL 0)) ∧
    (let s : State := { dramIn 2 0 {} [(F.CMP_STATUS_OVL_LIVE 0, 1), (F.CAL_LEVEL_MIN_LEVEL 0, 0)] with
       scan := #v[{ run := .running }, {}, {}, {}] };
     s.scans 0 = true ∧ ¬ s.get (F.MAP_LEVEL_LEVEL 0) < s.get (F.CAL_LEVEL_MIN_LEVEL 0) ∧ s.get (F.CMP_STATUS_OVL_LIVE 0) ≠ 0) ∧
    (((dramIn 2 0 { cal := .asked }).dr 0).cal = .asked ∧ ((dramIn 2 0 { cal := .asked }).dr 0).mr4 = none) ∧
    ((dramIn 2 0 { cal := .sweep 0 3 2 0 0 }).dramState 0 = 2 ∧ ((dramIn 2 0 { cal := .sweep 0 3 2 0 0 }).dr 0).cal = .sweep 0 3 2 0 0) ∧
    (let s := dramIn 2 16000 { cal := .hold 0 };
     (s.dr 0).cal = .hold 0 ∧ (s.dr 0).mr4 = none ∧ s.passedUs 0 10 = true) ∧
    (let s := dramIn 2 0; s.flag (F.CAL_STATUS_BUSY 0) = false ∧ s.get (F.CAL_SCRATCH_BASE 0) * 4096 + 4096 ≤ s.dramSize 0 ∧
      s.get (F.CAL_CFG_KIND 0) ≠ 3) ∧
    (let s := dramIn 2 0 {} [(F.CAL_SCRATCH_BASE 0, 256)]; s.dramSize 0 < s.get (F.CAL_SCRATCH_BASE 0) * 4096 + 4096) ∧
    (dramIn 2 0 {} [(F.CAL_CFG_KIND 0, 3)]).get (F.CAL_CFG_KIND 0) = 3 ∧
    (let s := dramIn 2 128000 { cal := .sweep 0 3 2 0 0 };
     (s.dr 0).cal = .sweep 0 3 2 0 0 ∧ s.passedUs 0 80 = true ∧ (s.dr 0).mr4 = none) ∧
    (State.reset.flag F.CAL_RX_STATUS_BUSY = false ∧ State.reset.rxCheck 0 ≠ 0 ∧
      (having [(F.NBR_STATUS_STAGE 3, 6), (F.NBR_STATUS_LANES 3, 3)]).rxCheck 15 = 0) ∧
    (let x : RxScan := { lane := 15, since := 0, runs := false };
     let s : State := { State.reset with rxScan := some x, wt := { cycle := 32000 } };
     s.rxScan = some x ∧ x.runs = false ∧ s.passedUs x.since 20 = true) ∧
    (let x : RxScan := { lane := 0, since := 0, runs := true };
     let s : State := { State.reset with rxScan := some x, wt := { cycle := 64000 } };
     s.rxScan = some x ∧ x.runs = true ∧ s.passedUs x.since 40 = true) := by
  refine ⟨?_, ?_, ?_, ?_, ?_, ?_, ?_, ?_, ?_, ?_, ?_, ?_, ?_⟩ <;> decide +kernel

/-! ### The root of trust and the board port -/

/-- The bytes of an unsigned object of a kind, by a signer, with body `b`. -/
def unsigned (kind signer : Byte) (b : List Byte) : List Byte :=
  [0x41, 0x5A, 0x53, 0x4F, kind, 0, 1, 0, BitVec.ofNat 8 b.length, 0, 0, 0, 0, 1, 0, 0, 0, 0, signer, 0] ++
    List.replicate 12 0 ++ b ++ List.replicate 256 0

/-- The object those bytes are. -/
def objectOf (kind signer : Byte) (b : List Byte) : SignedObj :=
  (parseObject (unsigned kind signer b)).getD
    { kind := 0, svn := 0, signer := 0, stamp := 0, body := [], keys := [], ecdsa := [], hss := [], bytes := [] }

theorem test_object_parses : parseObject (unsigned 4 1 []) = some (objectOf 4 1 []) ∧ (objectOf 4 1 []).kind = 4 ∧
    parseObject (unsigned 6 2 []) = some (objectOf 6 2 []) ∧ (objectOf 6 2 []).kind = 6 ∧ parseObject [] = none := by decide +kernel

/-- An object whose keys no stored hash names does not verify (R418). -/
theorem test_unknown_key : State.reset.verify (objectOf 4 1 []) ≠ .ok := by decide +kernel

/-- A message to the root of trust with opcode `op` and body `b`, `managed` with `l` transfers and unit `r`. -/
def trusting (l : List Transfer := []) (r : RotUnit := {}) (a : Nat := 0xFF) : State :=
  { managed with rot := r, sess := [(1, { authority := a, xfers := l, keys := #v[some { rx := 0, tx := 0 }, none] })] }

/-- A body of opcode 0x20: transfer 7, LAST, OFFSET 0, one byte. -/
def xferBody : List Byte := [0, 7, 1, 0, 0, 0, 0, 0, 9]

/-- A complete transfer 7 of bytes `b`. -/
def transfer (b : List Byte) : Transfer := { id := 7, frags := [(0, b)], last := some b.length }

/-- A message of opcode `op` and body `b` is one that the root of trust takes in `s`, with nothing in work. -/
def ToTrust (op : Byte) (b : List Byte) (s : State) : Prop :=
  Comes (asked op b) s ∧ (mgmtReq s (asked op b).2).opcode = op.toNat ∧ (mgmtReq s (asked op b).2).session = 1 ∧
    (mgmtReq s (asked op b).2).body = b ∧ s.rot.job = none ∧ s.rot.queue = [] ∧ rotLenOk op.toNat b.length = true

theorem test_met_RootOfTrustRequests :
    (let r : RotReq := { dest := ⟨5, 0, 1, 2, .raw⟩, session := 1, opcode := 0x23, tag := 0, body := [], weak := 0, flashOk := true };
     Comes (asked 0x20 xferBody) (trusting [] { queue := List.replicate 8 r }) ∧ 8 ≤ (trusting [] { queue := List.replicate 8 r }).rot.queue.length) ∧
    (ToTrust 0x20 xferBody (trusting []) ∧ (xferBody.getD 2 0).toNat / 2 = 0 ∧ xferBody.getD 3 0 = 0 ∧
      ((trusting []).session 1).xfers.length < 4) ∧
    ToTrust 0x20 [0, 7, 2, 0, 0, 0, 0, 0] (trusting []) ∧
    4 ≤ ((trusting [{ id := 1 }, { id := 2 }, { id := 3 }, { id := 4 }]).session 1).xfers.length ∧
    (let b : List Byte := [0, 0, 0, 7] ++ List.replicate 8 0;
     ToTrust 0x21 b (trusting []) ∧ b.getD 0 0 = 0 ∧ ToTrust 0x21 b (trusting [transfer (unsigned 6 2 [])]) ∧
       ((trusting [transfer (unsigned 6 2 [])]).session 1).xfers.find? (fun z => z.id == 7 && z.complete) = some (transfer (unsigned 6 2 [])) ∧
       (transfer (unsigned 6 2 [])).frags.flatMap (·.2) = unsigned 6 2 [] ∧
       ((trusting [transfer [1]]).session 1).xfers.find? (fun z => z.id == 7 && z.complete) = some (transfer [1]) ∧ parseObject [1] = none) ∧
    ToTrust 0x23 [] (trusting []) ∧
    (ToTrust 0x24 [1, 0, 0, 0] (trusting []) ∧ zeros (bytesAt [1, 0, 0, 0] 1 3) = true ∧ (1 : Nat) = 1 - ((trusting []).session 1).phase.val ∧
      ((trusting []).session 1).keys[(1 : Fin 2)] = none ∧ zeros (bytesAt [1, 0, 0, 1] 1 3) = false) ∧
    (let s : State := { trusting with sess := [(1, { keys := #v[some { rx := 0, tx := 0 }, some { rx := 0, tx := 0 }] })] };
     ToTrust 0x24 [1, 0, 0, 0] s ∧ ((s.session 1).keys[(1 : Fin 2)]).isSome = true) ∧
    (let b (t i : Byte) : List Byte := [t, i] ++ List.replicate 42 0;
     ToTrust 0x25 (b 0 1) (trusting []) ∧ (trusting []).may 1 3 = true ∧ (trusting [] {} 0).may 1 3 = false ∧
       ToTrust 0x25 (b 1 3) (trusting []) ∧ ToTrust 0x25 (b 2 3) (trusting [])) ∧
    (ToTrust 0x26 [] (trusting []) ∧ ((trusting []).session 1).txKey = some 0 ∧ ((trusting []).session 1).txSeq ≠ BitVec.allOnes 48) ∧
    (let b : List Byte := List.replicate 36 0;
     let s := having [(F.SEC_STATUS_IDENTITY_OK, 1)] (trusting [] { idKey := some 1, leaf := 32767 });
     ToTrust 0x22 b s ∧ (b.getD 32 0).toNat < 2 ∧ s.may 1 5 = true ∧ s.flag F.SEC_STATUS_IDENTITY_OK = true ∧ s.rot.idKey.isSome = true ∧
       s.get F.SEC_LEAF_TREES = 0 ∧ s.rot.leaf + 0 < 32768 ∧ 32768 ≤ s.rot.leaf + 1 ∧ 32768 ≤ (trusting [] { leaf := 32768 }).rot.leaf) ∧
    ((having [(F.SEC_LEAF_TREES, 2), (F.SEC_LEAF_BOTTOM, 1024)]).get F.SEC_LEAF_TREES = 2 ∧
      (having [(F.SEC_LEAF_TREES, 2), (F.SEC_LEAF_BOTTOM, 1023)]).get F.SEC_LEAF_BOTTOM < 1024) ∧
    (let b : List Byte := [2, 3, 0, 0, 0, 0, 0, 0, 0, 0, 0, 1];
     let s : State := having [(F.DRAM_STATUS_STATE 3, 2), (F.DRAM_SIZE_UNITS 3, 16)] trusting;
     ToTrust 0x27 b s ∧ s.may 1 2 = true ∧ s.dramServes 3 = true ∧ s.inlineEcc 3 = false ∧ s.flag (F.DRAM_CFG_LINK_ECC 3) = false ∧ (s.dr 3).u05 = [] ∧
       beNat (bytesAt b 8 4) ≤ 0x100000 ∧ beNat (bytesAt b 4 4) + beNat (bytesAt b 8 4) ≤ s.dramSize 3) := by
  unfold ToTrust Comes Heard InSequence
  repeat' apply And.intro
  all_goals decide +kernel

/-- Object `o` in work for the board port, with device number 5 and the challenge 9. -/
def working (o : SignedObj) (r : RotUnit := {}) : State :=
  { State.reset with rot := { r with deviceId := 5, challenge := some 9, job := some (.verified .board o) } }

/-- A token of kind `k` for device 5 and nonce `n`, with ARG0 and ARG1. -/
def token (k n a0 a1 : Byte) : SignedObj :=
  objectOf 4 1 ([k, 0, 0, 0, 5, 0, 0, 0, 0, 0, 0, 0] ++ List.replicate 15 0 ++ [n] ++ List.replicate 8 0 ++
    [a0, 0, 0, 0, a1, 0, 0, 0] ++ List.replicate 52 0)

theorem test_met_RootOfTrustObjects :
    (let o := token 1 9 7 0; let s := working o;
     s.rot.job = some (.verified .board o) ∧ s.rot.queue = [] ∧ o.kind = 4 ∧ o.tokenKind = 1 ∧ le o.body 4 8 = s.rot.deviceId.toNat ∧
       s.rot.challenge = some (BitVec.ofNat 128 (beNat (bytesAt o.body 12 16))) ∧ s.get F.WT_STATUS_LEASH = 0 ∧ bit (le o.body 36 4) 2 = true) ∧
    (let o := token 1 8 7 0; (working o).rot.challenge ≠ some (BitVec.ofNat 128 (beNat (bytesAt o.body 12 16)))) ∧
    (let s : State := { working (token 1 9 7 0) with regs := [(A.WT_STATUS, 2)], wt := { wall := 10 ^ 9 * 2 ^ 48 } };
     s.get F.WT_STATUS_LEASH = 2 ∧ le (token 1 9 7 0).body 28 8 < s.wallSec) ∧
    (let o := token 2 0 2 64; let s := working o;
     o.tokenKind = 2 ∧ beNat (bytesAt o.body 12 16) = 0 ∧ (2 : Fin 3).val = le o.body 36 4 ∧ s.rot.svn[(2 : Fin 3)] < le o.body 40 4 ∧ le o.body 40 4 ≤ 64) ∧
    (le (token 2 0 0 1).body 36 4 = 0 ∧ (working (token 2 0 0 1)).rot.fwSvn < le (token 2 0 0 1).body 40 4) ∧
    (64 < le (token 2 0 2 65).body 40 4 ∧ 3 ≤ le (token 2 0 3 1).body 36 4 ∧ beNat (bytesAt (token 2 1 3 1).body 12 16) ≠ 0 ∧
      le (token 2 0 1 0).body 40 4 ≤ (working (token 2 0 1 0)).rot.svn[(1 : Fin 3)]) ∧
    (let o := token 3 0 1 0; let s := working o { owners := #v[some 3, none, none, none] };
     o.kind = 4 ∧ o.tokenKind = 3 ∧ le o.body 4 8 = 5 ∧ beNat (bytesAt o.body 12 16) = 0 ∧ s.rot.owners[(1 : Fin 4)] = none ∧
       (∀ k : Fin 4, k < 1 → (s.rot.owners[k]).isSome = true) ∧ s.rot.activeOwner = some 0 ∧ le o.body 36 4 = 1 ∧
       le (token 3 0 2 0).body 36 4 ≠ 1 ∧ ∀ i : Fin 4, ((Vector.replicate 4 (some 3) : Vector (Option (BitVec 384)) 4)[i]).isSome = true) ∧
    (let o := objectOf 6 2 []; (working o).rot.job = some (.verified .board o) ∧ o.kind = 6) ∧
    (let b : List Byte := [1, 0, 1, 0, 5, 0] ++ List.replicate 10 0 ++ [0, 0, 0, 0, 0, 0, 0, 0, 8, 0, 0, 0, 32, 0, 0, 0] ++ [1, 0, 0, 0, 0, 0, 0, 0x90];
     let o := objectOf 2 0 b;
     o.kind = 2 ∧ (match (working o).bundleCheck o with | .ok x => x.segs.length == 1 && x.entries == [(0, 5)] | .error _ => false) = true ∧
       (match (working o).bundleCheck (objectOf 2 0 []) with | .ok _ => false | .error _ => true) = true) ∧
    (let g : Segment := { seq := 0, data := false, hot := false, addr := 0, body := List.replicate 8 0 };
     let x : Bundle := { segs := [g], entries := [(0, 5)] };
     let s : State := { State.reset with rot := { job := some (.loading .board (objectOf 2 0 []) x (g :: []) 0) }, wt := { cycle := g.cycles } };
     s.rot.job = some (.loading .board (objectOf 2 0 []) x (g :: []) 0) ∧ g.tooFar = false ∧ g.body.length % 8 = 0 ∧
       0 + g.cycles ≤ s.wt.cycle + 1 ∧ 0 < g.body.length / 8) ∧
    (let g : Segment := { seq := 0, data := false, hot := true, addr := 0, body := List.replicate 800 0 };
     State.reset.wt.cycle + 1 < 0 + g.cycles) ∧
    (let g : Segment := { seq := 0, data := false, hot := false, addr := 0, body := List.replicate 8 0 };
     let x : Bundle := { segs := [g], entries := [(0, 5)] };
     let s : State := { State.reset with rot := { job := some (.loading .board (objectOf 2 0 []) x [] 0), loaded := [0] } };
     s.rot.boot = none ∧ (0 : SeqId) ∈ s.rot.loaded ∧ s.rot.job = some (.loading .board (objectOf 2 0 []) x [] 0) ∧ s.rot.queue = [] ∧
       (s.seq 0).run = .halted ∧ (s.seq 4).queue.length < 256) ∧
    (let y : Transfer := { id := 7 };
     let s : State := { trusting [y] with wt := { cycle := cyclesPerSec + 1 } };
     (s.session (1 : Fin 256)).xfers.find? (fun z => z.id == (7 : BitVec 16).toNat) = some y ∧ y.complete = false ∧ y.since + cyclesPerSec < s.wt.cycle) ∧
    (let s : State := { State.reset with sess := [(255, { eraseAt := some 0 })] };
     (s.session (255 : Fin 256)).eraseAt = some 0 ∧ 0 ≤ s.wt.cycle) ∧
    (let s : State := { opened with wt := { cycle := cyclesPerSec } };
     (s.port 2).rxOld = [(3, 0)] ∧ ¬ s.wt.cycle < 0 + cyclesPerSec) := by
  refine ⟨?_, ?_, ?_, ?_, ?_, ?_, ?_, ?_, ?_, ?_, ?_, ?_, ?_, ?_, ?_⟩ <;> decide +kernel

/-- The device with BRD_STATUS.STAGE 4 and fields holding `l`. -/
def booted (l : List (Fld × Nat) := []) : State := having ((F.BRD_STATUS_STAGE, 4) :: l)

theorem test_met_BoardPort :
    State.reset.inReset = true ∧ State.reset.rotRuns = false ∧ booted.inReset = false ∧ booted.inStay = false ∧ booted.rotRuns = true ∧
    ([0x5A, 0xA5] : List Byte).take 2 = [0x5A, 0xA5] ∧ State.reset.power.clkLost = false ∧ popWindow A.PWR_WAKE_NS = false ∧
    (beNat (([0x7F, 0x00] : List Byte).take 2) + (List.replicate 256 (0 : Byte)).length = 32768 ∧
      32768 < beNat (([0x7F, 0x01] : List Byte).take 2) + (List.replicate 256 (0 : Byte)).length) ∧
    (let len : List Byte := [0, 0, 1, 32];
     let w : Sparse Byte := (unsigned 4 1 []).zipIdx.filterMap fun x => if x.1 = 0 then none else some (x.2, x.1);
     let s : State := { booted with rot := { window := w } };
     4 ≤ len.length ∧ s.rot.job = none ∧ (List.range (beNat (len.take 4))).map (fun k => sparseGet (fun _ => 0) s.rot.window k) = unsigned 4 1 [] ∧
       parseObject (unsigned 2 0 []) = some (objectOf 2 0 []) ∧ (objectOf 2 0 []).kind ≠ 4) ∧
    (booted.rot.job = none ∧ parseObject ((List.range (beNat (([0, 0, 0, 0] : List Byte).take 4))).map fun k => sparseGet (fun _ => 0) booted.rot.window k) = none ∧ ({ job := some (.verified .board (objectOf 4 1 [])) } : RotUnit).job.isSome = true) ∧
    (48 ≤ (List.replicate 48 (0 : Byte)).length ∧ booted.rot.ownerSet = false ∧ ({ owners := #v[some 1, none, none, none] } : RotUnit).ownerSet = true) ∧
    ((having [(F.PWR_STATUS_STATE, 2)]).inStay = true ∧ booted.flag F.SEC_STATUS_BOARD_READ = false) ∧
    (let s := booted [(F.SEC_STATUS_BOARD_READ, 1), (F.SEC_STATUS_BOARD_WRITE, 1)];
     s.flag F.SEC_STATUS_BOARD_READ = true ∧ s.flag F.SEC_STATUS_BOARD_WRITE = true ∧ beNat (wakeNs.take 4) = A.PWR_WAKE_NS ∧ A.PWR_WAKE_NS % 4 = 0 ∧
       s.reach .board A.PWR_WAKE_NS false = .regs [A.PWR_WAKE_NS] ∧ s.reach .board A.PWR_WAKE_NS true = .regs [A.PWR_WAKE_NS] ∧
       s.goBusy .board A.PWR_WAKE_NS = false) ∧
    (let s := booted [(F.SEC_STATUS_BOARD_WRITE, 1), (F.SYN_STATUS_BUSY 0, 1)];
     s.reach .board (A.SYN_GO 0) true = .regs [A.SYN_GO 0] ∧ s.goBusy .board (A.SYN_GO 0) = true) := by
  refine ⟨?_, ?_, ?_, ?_, ?_, ?_, ?_, ?_, ?_, ?_, ?_, ?_, ?_⟩ <;> decide +kernel

theorem test_wakeNs_unopposed_board : Unopposed .board A.PWR_WAKE_NS A.PWR_WAKE_NS booted := by unfold Unopposed Undriven; decide +kernel

theorem test_wakeNs_readable_board (u : State) : u.readReg .board A.PWR_WAKE_NS = (u.rd A.PWR_WAKE_NS, u) := rfl

/-! ### Heat, self-test, Kennel, power -/

/-- A thermal round under way, 20 us after its start, sensor 15 alone enabled, with fields holding `l` and unit `r`. -/
def rounding (r : RoundUnit := {}) (l : List (Fld × Nat) := []) : State :=
  { having ([(F.THM_STATUS_ROUND_BUSY, 1), (F.THM_SENSOR_EN_MASK, 0x8000)] ++ l) with round := r, wt := { cycle := 32000 } }

/-- Every sensor reads `x`, in units of 2^-4 degrees, with the margin `m`. -/
def reads (x : BitVec 16) (m : BitVec 8 := 0) : ThmRound := { sensors := List.replicate 16 (some x), margin := m }

/-- The throttle's stage, current cap, plane cap and count after a round. -/
def capsAfter (x : BitVec 16) (s : State) : List Nat :=
  let t := after (.thermalRoundEnd (reads x)) s
  [t.get F.THM_STATUS_STAGE, t.get F.EMW_IREF_CAP_CAP, t.get F.SYN_THERM_CAP_CAP, t.round.n]

theorem test_met_ThermalRounds :
    (let s : State := { State.reset with wt := { wall := 1000000 * 2 ^ 48 } };
     (s.round.slotAt / (max s.round.period 100 * 1000) + 1) * (max s.round.period 100 * 1000) ≤ s.wallNs ∧ s.held = false ∧ s.inStay = false ∧
       s.flag F.THM_STATUS_ROUND_BUSY = false ∧ 3 < (⟨[1, 2, 3, 4], []⟩ : SlotSample).taps.length) ∧
    (let s : State := { rounding with wt := { wall := 1000000 * 2 ^ 48 } };
     (s.round.slotAt / (max s.round.period 100 * 1000) + 1) * (max s.round.period 100 * 1000) ≤ s.wallNs ∧ s.held = false ∧
       s.flag F.THM_STATUS_ROUND_BUSY = true ∧ s.passedUs s.round.since 20 = false) ∧
    (let missing (i : Nat) : Prop := bit (rounding.get F.THM_SENSOR_EN_MASK) i = true ∧ (if i < 16 then ((reads 1728).sensors[i]?).join else none) = none;
     (∀ i < 16, ¬ missing i) ∧ rounding.passedUs rounding.round.since 40 = false ∧
       (let s : State := { rounding with wt := { cycle := 64000 } }; s.passedUs s.round.since 40 = true ∧ ¬ s.round.since + 40 * cyclesPerUs < s.wt.cycle) ∧
       (let s : State := { rounding with wt := { cycle := 64001 } }; s.passedUs s.round.since 40 = true ∧ s.round.since + 40 * cyclesPerUs < s.wt.cycle)) ∧
    (let l := (rounding { carried := true }).round.levels.2.2;
     (rounding { carried := true }).round.carried = true ∧
       (0 : Int) < min (l.extractLsb' 0 16).toInt 1920 - (l.extractLsb' 16 8).toNat) ∧
    ((after (.thermalRoundEnd (reads 0)) rounding).round.shut = rounding.round.shut ∧ 0 ≤ (reads 0).margin.toInt ∧ rounding.round.carried = false ∧
      rounding.round.shut = false) ∧
    (rounding.flag F.THM_STATUS_ROUND_BUSY = true ∧ rounding.passedUs rounding.round.since 20 = true ∧ rounding.inStay = false ∧
      bit (rounding.get F.THM_SENSOR_EN_MASK) 15 = true ∧ rounding.flag (F.THM_T_FAIL 15) = false) ∧
    (reads 1728).sensors[15]?.join = some 1728 ∧ ((⟨[], 0⟩ : ThmRound).sensors[15]?).join = none ∧
    (rounding {} [(F.THM_CTRL_AVS_EN, 1)]).flag F.THM_CTRL_AVS_EN = true ∧
    max (rounding.get F.THM_AVS_CFG_VID_MIN) 90 ≤ min (rounding.get F.THM_AVS_CFG_VID_MAX) 120 ∧
    (0xFF : BitVec 8).toInt < 0 ∧
    ((0x80000000 : Word).getLsbD 31 = true ∧ (rounding { shut := true }).round.shut = true ∧
      (having [(F.MUZZLE_STATUS_SRC_THERM, 1)]).flag F.MUZZLE_STATUS_SRC_THERM = true) ∧
    (let s : State := { State.reset with round := { endedAt := some 0 } }; s.anyScans = false ∧ s.round.endedAt = some s.wt.cycle) ∧
    (let at_ (ns : Nat) (v : Option Int) : State := { cadenced ns with scan := (scanning .running).scan, frame := { latch := some 1 }, round := { vcoAt := #v[none, v] } };
     (let s := at_ 4000000 none;
      s.anyScans = true ∧ s.frame.latch = some 1 ∧ s.reached (s.latchAt 1 + 2 * s.linePeriod) = false) ∧
     (let s := at_ 12000000 none;
      s.anyScans = true ∧ s.frame.latch = some 1 ∧ s.reached (s.latchAt 1 + 2 * s.linePeriod) = true ∧ s.round.vcoAt[(1 : Fin 2)] ≠ some 1) ∧
     (at_ 12000000 (some 1)).round.vcoAt[(1 : Fin 2)] = some 1) := by
  refine ⟨?_, ?_, ?_, ?_, ?_, ?_, ?_, ?_, ?_, ?_, ?_, ?_, ?_, ?_⟩
  all_goals decide +kernel

/-- The throttle is entered at 108 °C, THM_THROT's level (R453, R456). -/
theorem test_throttle_begins : capsAfter 1728 (rounding {} [(F.THM_THR_CFG_IFLOOR, 0x100)]) = [1, 0x100, 16, 0] := by decide +kernel

/-- In stage 1 the current cap falls by STEP, and at IFLOOR the count runs (R456). -/
theorem test_throttle_stage1 :
    capsAfter 1728 (rounding {} [(F.THM_STATUS_STAGE, 1), (F.EMW_IREF_CAP_CAP, 0x120), (F.THM_THR_CFG_IFLOOR, 0x100), (F.THM_THR_CFG_STEP, 8)])
      = [1, 0x118, 16, 0] ∧
    capsAfter 1728 (rounding {} [(F.THM_STATUS_STAGE, 1), (F.EMW_IREF_CAP_CAP, 0x100), (F.THM_THR_CFG_IFLOOR, 0x100), (F.THM_THR_TIME_STAGE2_ROUNDS, 2)])
      = [1, 0x100, 16, 1] := by decide +kernel

/-- In stage 2 the cap on planes falls by one, and below the level less its hysteresis it rises again (R456). -/
theorem test_throttle_stage2 :
    capsAfter 1728 (rounding {} [(F.THM_STATUS_STAGE, 2), (F.SYN_THERM_CAP_CAP, 9), (F.THM_THR_TIME_PLANE_ROUNDS, 1), (F.THM_THR_CFG_PFLOOR, 4)])
      = [2, 0x3FF, 8, 0] ∧
    capsAfter 0 (rounding {} [(F.THM_STATUS_STAGE, 2), (F.SYN_THERM_CAP_CAP, 9)]) = [2, 0x3FF, 10, 0] ∧
    capsAfter 0 (rounding {} [(F.THM_STATUS_STAGE, 2), (F.SYN_THERM_CAP_CAP, 16)]) = [1, 0x3FF, 16, 0] := by decide +kernel

/-- Shutdown is entered at 120 °C (R453, R454). -/
theorem test_shutdown : (after (.thermalRoundEnd (reads 1920)) rounding).round.shut = true ∧
    (after (.thermalRoundEnd (reads 1919)) rounding).round.shut = false := by decide +kernel

/-- Slice `x` under test since core cycle 0, at core cycle `c`. -/
def testing (x c : Nat) (b : BistUnit := {}) (l : List (Fld × Nat) := []) : State :=
  { having l with bist := { b with cur := some (x, false) }, wt := { cycle := c } }

theorem test_met_SelfTestAndKennel :
    (let s : State := { having [(F.BIST_CTRL_EN, 1)] with wt := { wall := 260000 * 2 ^ 48 } };
     s.flag F.BIST_CTRL_EN = true ∧ s.get F.PWR_STATUS_STATE < 2 ∧ s.held = false ∧ s.anyScans = false ∧ s.bist.slotAt < s.wallNs / 260000 * 260000 ∧
       s.bist.stopped = false ∧ s.bist.cur = none ∧ s.bist.retest = [] ∧ State.reset.wallNs / 260000 * 260000 ≤ State.reset.bist.slotAt ∧
       ({ s with bist := { retest := [3, 4] } } : State).bist.retest = 3 :: [4]) ∧
    (let s : State := { having [(F.BIST_CTRL_EN, 1), (F.BIST_CTRL_SLICES, 4)] (cadenced 0) with
       scan := (scanning .running).scan, wt := { wall := 1000000 * 2 ^ 48 } };
     let count := max 1 (min 48 (s.get F.BIST_CTRL_SLICES));
     let passed (i : Nat) : Bool := s.reached (s.lineAt s.frameNow ((i * (s.vTotal / count) : Nat) : Int));
     s.flag F.BIST_CTRL_EN = true ∧ s.held = false ∧ s.anyScans = true ∧ 0 < count ∧ passed 0 = true ∧ (∀ i < 4, 0 < i → i < count → passed i = false) ∧
       count = 4 ∧ s.bist.lastSlot ≠ some (s.frameNow, 0) ∧
       ({ s with bist := { lastSlot := some (s.frameNow, 0) } } : State).bist.lastSlot = some (s.frameNow, 0)) ∧
    (let s := testing 6143 5696;
     s.bist.cur = some (6143, false) ∧ s.power.entry = .none ∧ s.bist.since + 5696 ≤ s.wt.cycle ∧ s.wt.cycle < s.bist.since + 8 * cyclesPerUs ∧
       s.bist.stopped = false ∧ s.bist.spares.length < 1024 ∧ ∀ e ∈ s.bist.spares, ¬ (e.1 = 6143 ∧ e.2.2 = 0)) ∧
    (let s := testing 7 5696 { spares := [(7, 1, 0), (7, 2, 1)] }; ∀ i < 2, ∃ e ∈ s.bist.spares, e.1 = 7 ∧ e.2.2 = i) ∧
    (let s := testing 7 12800 { retest := [3] }; s.passedUs s.bist.since 8 = true) ∧
    (State.reset.held = false ∧ State.reset.flag F.KNL_STATUS_ACTIVE = false ∧ State.reset.get F.KNL_STATUS_REASONS = 0 ∧ State.reset.power.entry = .none ∧
      State.reset.flag ⟨A.SCAN_KENNEL_CFG, 0, 1⟩ = false ∧ (having [(⟨A.SCAN_KENNEL_CFG, 0, 1⟩, 1)]).flag ⟨A.SCAN_KENNEL_CFG, 0, 1⟩ = true) ∧
    ((having [(F.KNL_STATUS_ACTIVE, 1)]).flag F.KNL_STATUS_ACTIVE = true ∧ (having [(F.KNL_STATUS_REASONS, 8)]).get F.KNL_STATUS_REASONS = 8 ∧
      State.reset.get F.THM_AVS_MARGIN_MARGIN < 128 ∧ (State.reset.seq 4).run ≠ .faulted ∧ bit 4 2 = true) ∧
    (let m : Sparse Byte := [(0xE00000, 0xFF), (0xE00001, 0xFF), (0xE00002, 0xFF), (0xE00003, 0xFF)];
     let s : State := { State.reset with kennel := { leaving := true }, rot := { flash := m } };
     s.kennel.leaving = true ∧ leNat ((List.range 4).map fun k => s.rot.flashByte (0xE00000 + k)) ≠ 0x4F535A41) ∧
    (let m : Sparse Byte := (unsigned 2 1 []).zipIdx.map fun x => (0xE00000 + x.2, x.1);
     let s : State := { State.reset with kennel := { leaving := true }, rot := { flash := m } };
     let head : List Byte := (List.range 32).map fun k => s.rot.flashByte (0xE00000 + k)
     let next := 0xE00000 + pages (32 + le head 8 4 + le head 12 4)
     s.kennel.leaving = true ∧ leNat ((List.range 4).map fun k => s.rot.flashByte (0xE00000 + k)) = 0x4F535A41 ∧ next = 0xE01000 ∧
       leNat ((List.range 4).map fun k => s.rot.flashByte (next + k)) ≠ 0x4F535A41 ∧ (s.seq 4).queue.length < 255) ∧
    (having [(F.BRD_STATUS_REASON, 1), (F.BRD_STATUS_STAGE, 1)]).held = true := by
  refine ⟨?_, ?_, ?_, ?_, ?_, ?_, ?_, ?_, ?_, ?_⟩ <;> decide +kernel

/-- What a reset finds: every test passes, nothing reads back, and nothing is manufactured. -/
def bootIn : BootIn :=
  { slot0Reads := false, slot1Reads := false, imageReads := false }

theorem test_met_Resets :
    bootIn.factory = none ∧ { bootIn with logicOk := false }.logicOk = false ∧ { bootIn with fuseOk := false }.fuseOk = false ∧
    ({ State.reset with rot := { vendorHash := some 1 } } : State).rot.vendorHash ≠ none ∧
    (let o := objectOf 1 0 [];
     let m : Sparse Byte := (unsigned 1 0 []).zipIdx.filterMap fun x => if x.1 = 0xFF then none else some (x.2, x.1);
     let s : State := { State.reset with rot := { vendorHash := some 1, flash := m } };
     { bootIn with slot0Reads := true }.slot0Reads = true ∧ s.rot.flashRead 0 288 = unsigned 1 0 [] ∧ o.kind = 1) ∧
    (let s : State := { State.reset with power := { clkLost := true } }; s.power.clkLost = true ∧ State.reset.power.clkLost = false) ∧
    ((∀ p : PortId, State.reset.flag (F.NET_PORT_STATUS_UP p) = false) ∧ ∀ q : NbrId, State.reset.nbrActive q = false) ∧
    (let s : State := { State.reset with bist := { weak := [(7, 3)], fuses := [(7, 3, 1)] } };
     ∀ r ∈ s.bist.weak ++ bootIn.rows, r.1 < 6144 → r.2 < 256 → (r.1, r.2, 1) ∈ s.bist.fuses) ∧
    (let s : State := { State.reset with power := { clkLost := true } };
     let early := if bootIn.fuseOk = false then 0x12 else 0;
     early = 0 ∧ s.bist.weak ++ bootIn.rows = [] ∧ s.rot.vendorHash = none ∧
       s.rot = { s.rot with window := [], queue := [], job := none, topLeaf := 0, tree := [], bottom := none, sent := 0, boot := none, segs := [] }) ∧
    (State.reset.held = false ∧ State.reset.inStay = false ∧ (having [(F.PWR_STATUS_STATE, 2)]).inStay = true) := by
  refine ⟨?_, ?_, ?_, ?_, ?_, ?_, ?_, ?_, ?_, ?_⟩ <;> decide +kernel

/-- With nothing readable in the flash the boot ROM reports reason 1 at stage 1 (the ROM failure reasons table). -/
theorem test_rom_unreadable :
    let t := after (.powerOnReset bootIn) { State.reset with rot := { vendorHash := some 1 } }
    t.get F.BRD_STATUS_REASON = 1 ∧ t.get F.BRD_STATUS_STAGE = 1 := by decide +kernel

/-- Entry to Stay at step `e`, STATE 1, and fields holding `l`. -/
def entering (e : PwrEntry) (l : List (Fld × Nat) := []) : State :=
  { having ((F.PWR_STATUS_STATE, 1) :: l) with power := { entry := e } }

theorem test_met_StayAndWake :
    (State.reset.get F.PWR_STATUS_STATE = 0 ∧ State.reset.held = false ∧ (having [(F.BRD_STATUS_REASON, 1)]).held = true ∧
      State.reset.bist.cur = none ∧ (entering .refresh).get F.PWR_STATUS_STATE ≠ 0 ∧
      (testing 7 0).bist.cur ≠ none ∧ ((scanning .running).scanU 3).run = .running) ∧
    (let s := entering (.cdics 0); s.power.entry = .cdics 0 ∧ s.power.warm = false ∧ s.passedUs 0 1000 = false) ∧
    (let s : State := { entering (.cdics 0) with wt := { cycle := 1600000 } }; s.passedUs 0 1000 = true ∧ s.flag F.PWR_CTX_SAVE_EN = false) ∧
    (let s := entering .refresh;
     s.power.entry = .refresh ∧ s.power.warm = false ∧ s.bist.cur = none ∧ (∀ m, s.dramState m = 0 ∨ s.dramState m = 3) ∧ s.power.woken = none ∧ s.wakeDue = false) ∧
    (let s : State := { entering .refresh [(F.PWR_CTRL_WAKE_EN, 1)] with wt := { wall := 10 ^ 9 * 2 ^ 48 } }; s.wakeDue = true) ∧
    (let s : State := { entering .refresh with power := { entry := .refresh, woken := some 3 } }; s.power.woken = some 3 ∧ s.power.warm = false) ∧
    ((having [(F.PWR_STATUS_STATE, 2)]).get F.PWR_STATUS_STATE = 2 ∧ (having [(F.PWR_STATUS_STATE, 3)]).get F.PWR_STATUS_STATE = 3) ∧
    (let g : Segment := { seq := 4, data := false, hot := false, addr := 0, body := [] };
     ∃ h ∈ ({ State.reset with rot := { segs := [g] } } : State).rot.segs, h.seq = 4) ∧
    (let s : State := { State.reset with power := { restoring := true, retained := [(5, List.replicate 8 1)] } };
     s.power.restoring = true ∧ s.power.saved = none ∧ (∀ m, (s.dr m).resuming = false) ∧ (s.power.retained.map (·.1)).Nodup) ∧
    (let s : State := { having [(F.PWR_PNL_EN, 8)] with scan := Vector.replicate 4 { run := .running } };
     s.held = false ∧ bit (s.get F.PWR_PNL_EN) 3 = true ∧ s.scans 3 = true ∧ (0 : Word).getLsbD 3 = false) ∧
    (let s : State := { having [(F.PWR_PNL_EN, 8), (F.PWR_PNL_PG_TIMEOUT_MS, 1)] with
       power := { pnlAt := #v[none, none, none, some 0] }, wt := { cycle := 1600000 } };
     s.power.pnlAt[(3 : Fin 4)] = some 0 ∧ bit (s.get F.PWR_PNL_STATUS_PG) 3 = false ∧
       s.passedUs 0 (1000 * max 1 (s.get F.PWR_PNL_PG_TIMEOUT_MS)) = true) ∧
    (let s := having [(F.PWR_PNL_EN, 8), (F.PWR_PNL_STATUS_PG, 8)]; bit (s.get F.PWR_PNL_EN) 3 = true ∧ bit (s.get F.PWR_PNL_STATUS_PG) 3 = true) := by
  repeat' apply And.intro
  all_goals decide +kernel

/-! ### The whole device -/

/-- A command at the front of the queue runs, and the queue keeps the rest. -/
theorem test_met_StepRunsFrontCommand :
    ({ State.reset with pending := [.wallTimeTick, .snap] } : State).pending = .wallTimeTick :: [.snap] ∧ State.reset.pending = [] ∧
    State.reset.tap.clocks = [] ∧ State.reset.power.pgWire = [] ∧ State.reset.board.wire = [] ∧
    (let s : State := { having [(F.PWR_PNL_EN, 8), (F.PWR_PNL_STATUS_PG, 8)] with power := { pgWire := [0, 8] } };
     s.pending = [] ∧ s.tap.clocks = [] ∧ s.board.wire = [] ∧ s.power.pgWire = 0 :: [8] ∧ bit (s.get F.PWR_PNL_EN) 3 = true ∧
       bit (s.get F.PWR_PNL_STATUS_PG) 3 = true ∧ (0 : BitVec 4).getLsbD 3 = false ∧
       ∀ m < 3, ¬ (bit (s.get F.PWR_PNL_EN) m = true)) ∧
    (let s : State := { State.reset with board := { wire := [[0x08, 0], [0x01]] } };
     s.pending = [] ∧ s.power.pgWire = [] ∧ s.board.wire = (0x08 :: [0]) :: [[0x01]] ∧
       (0x08 : Byte) ∉ [0x01, 0x02, 0x03, 0x04, 0x05, 0x06, 0x07, 0x10, 0x11]) := by
  refine ⟨?_, ?_, ?_, ?_, ?_, ?_, ?_⟩ <;> decide

/-- A byte that names no board command is answered BAD_CMD. -/
theorem test_unknown_board_command :
    (match step { State.reset with board := { wire := [[0x08, 0]] } } with | .next t => t.board.result == 1 | _ => false) = true := by
  decide +kernel

theorem test_step_idle : step State.reset = .next State.reset := rfl

/-- Periods of JTAG_TCK with JTAG_TRST_N high: JTAG_TMS, JTAG_TDI. -/
def periods (l : List (Bool × Bool)) : List TapClock := l.map fun x => ⟨true, x.1, x.2, 5⟩

/-- The TAP with controller and instruction as given, `l` waiting, with SEC_STATUS.JTAG_OPEN as `open_`, the firmware of the root of trust running. -/
def scanned (c : TapCtl) (i : TapInstr) (l : List (Bool × Bool)) (open_ : Nat := 0) : State :=
  { having [(F.SEC_STATUS_JTAG_OPEN, open_), (F.BRD_STATUS_STAGE, 2)] with tap := { ctl := c, instr := i, clocks := periods l } }

theorem test_met_BoundaryScan :
    (let s := scanned .captureDr .samplePreload [(false, true)] 1;
     s.pending = [] ∧ s.tap.clocks = ⟨true, false, true, 5⟩ :: [] ∧ s.tap.ctl = .captureDr ∧ s.flag F.SEC_STATUS_JTAG_OPEN = true) ∧
    (let s := scanned .exit1Dr .extest [(true, true)] 1; tapNext s.tap.ctl true = .updateDr) ∧
    (let s := scanned .shiftIr .clamp (List.replicate 5 (true, false));
     5 ≤ s.tap.clocks.length ∧ ∀ k ∈ s.tap.clocks.take 5, k.trstN = true ∧ k.tms = true) ∧
    (let s := scanned .captureDr .highz (List.replicate 33 (false, true));
     31 < s.tap.clocks.length ∧ (∀ k ∈ s.tap.clocks.take 32, k.trstN = true ∧ k.tms = false) ∧ s.flag F.SEC_STATUS_JTAG_OPEN = false ∧
       2 ≤ s.get F.BRD_STATUS_STAGE ∧ s.tap.instr ≠ .idcode) ∧
    ((371 : Nat) ≠ tdoCell ∧ cellDir 0 = .input ∧ ∃ i < 372, i ≠ tdoCell ∧ cellDir i = .output) := by
  refine ⟨?_, ?_, ?_, ?_, ?_⟩ <;> decide +kernel

/-- From reset the levels low, high, low, low on JTAG_TMS lead to Shift-DR, and the bits shown there are those of IDCODE, bit 0
first (R539). -/
theorem test_idcode :
    let s : State := { State.reset with tap := { clocks := periods ([(false, false), (true, false), (false, false)] ++ List.replicate 4 (false, false)) } }
    (List.range 4).map (fun n => (Nat.repeat State.tapStep (4 + n) s).tap.tdo) = [some true, some true, some false, some true] := by
  decide +kernel

theorem test_met_PorowRoundTrip : (POp.pop 4).wellFormed = true ∧ decodePorow (encodePorow (.pop 4)) = some (.pop 4) := by decide +kernel

theorem test_met_OtpOnlyBurns :
    let s : State := { State.reset with rot := { vendorHash := some 1, owners := #v[some 2, none, none, none], svn := #v[64, 0, 1], leaf := 32768, uniqueKey := 3 } }
    (match exec (.sleep 0) s with | .next t => t == after (.sleep 0) s | _ => false) = true ∧ s.rot.vendorHash = some 1 ∧ s.rot.owners[(0 : Fin 4)] = some 2 ∧
      (∀ i : Fin 3, s.rot.svn[i] ≤ 64) ∧ s.rot.leaf ≤ 32768 := by decide +kernel

end Sys2Proof.Tests
end

/-!
PROOFS of the statements of 00_scope: loads and stores (O3), register writes (O11), the latch (O26), the geometry tables
(O31), flows and histories (O32).
-/

namespace Sys2Proof.Machine

/-! ### A parity-failing load on a sequencer whose event queue is full (R82, R477) -/

@[simp] theorem State.sramErr_seqs (s : State) (r off kind : Nat) : (s.sramErr r off kind).seqs = s.seqs := by
  unfold State.sramErr State.queueRetest
  simp only
  split
  · split <;> rfl
  · rfl

/-- An event that finds its queue full joins the entries that the sequencer has lost (R82). -/
theorem State.event_lost_of_full (s : State) (q : SeqId) (x y : Nat) (l : Bool) (d : Nat)
    (h : 256 ≤ (s.seq q).queue.length) : s.entry x y l d ∈ ((s.event q x y l d).seq q).lost := by
  have hn : ¬ (s.seq q).queue.length < 256 := by omega
  simp only [State.event, hn, if_false, State.count, State.seq_noteHit, State.seq_put, State.seq_setSeq_same]
  exact List.mem_append_right _ (List.mem_singleton.mpr rfl)

/-- A parity error in SQS's own data memory while its event queue is full leaves a lost entry (R82, R477). -/
theorem State.dmemErr_lost_of_full (s : State) (a : Nat) (h : 256 ≤ (s.seq sqsQ).queue.length) :
    ((s.dmemErr sqsQ a).seq sqsQ).lost ≠ [] := by
  unfold State.dmemErr State.sqsEvent
  refine List.ne_nil_of_mem (State.event_lost_of_full _ _ _ _ _ _ ?_)
  simpa only [State.seq, State.sramErr_seqs, State.set_seqs] using h

/-- LD of a word that fails its parity, from an aligned address: beside the error's reports only a general register and the
PC change (R101, R477). -/
theorem execLd_bad {s : State} {q : SeqId} {d a : GReg} {off : BitVec 16} {x : Nat} (h : Fetches s q (.ld d a off))
    (hx : dmemAddr ((s.seq q).gr a) off = x) (h4 : x % 4 = 0) :
    ∃ (u : State) (v : Word), u.seqs = (s.dmemErr q x).seqs ∧
      exec (.ld q d a off true) s = .next (u.step1 q fun c => c.setGr d v) := by
  refine ⟨((s.dmemErr q x).draw 32).2, BitVec.ofNat 32 ((s.dmemErr q x).draw 32).1, rfl, ?_⟩
  change execLd q d a off true s = _
  simp only [execLd, State.issue_of_fetches h, hx, h4, if_true]

/-- SQS about to load data memory word 0 with 256 entries in its event queue and none lost. -/
def loadWithFullQueue : State :=
  State.reset.setSeq sqsQ { run := .running, imem := [(0, 0x4012000000000000)], queue := List.replicate 256 {} }

theorem loadWithFullQueue_fetches : Fetches loadWithFullQueue sqsQ (.ld 1 2 0) := by
  unfold Fetches; decide +kernel

/-- Refutes O3: SQS loads a word that fails its parity while its event queue is full. The SRAM_ERR event that it pushes to
itself (R477) finds no room and joins the entries that the sequencer keeps as lost, so more of the sequencer changes than
its general registers, its PC and its queue. -/
theorem not_porowLoadsStores : ¬ Obligations.PorowLoadsStores := by
  intro h
  obtain ⟨-, -, -, -, hbad, -⟩ := h loadWithFullQueue sqsQ 1 2 0 0 (by decide +kernel)
  obtain ⟨t, ht, -, hseq, -⟩ := hbad loadWithFullQueue_fetches
  obtain ⟨u, v, hu, hexec⟩ := execLd_bad loadWithFullQueue_fetches (x := 0) (by decide +kernel) rfl
  have hlost : (t.seq sqsQ).lost = [] := congrArg Seq.lost hseq
  refine State.dmemErr_lost_of_full loadWithFullQueue 0 (by decide +kernel) ?_
  rw [State.seq, ← hu]
  rw [← Host.Outcome.next.inj (hexec.symm.trans ht), State.step1, State.seq_setSeq_same] at hlost
  exact hlost

end Sys2Proof.Machine


namespace Sys2Proof.Machine

/-! ### Writes of a master that reach one register, with no other write of the cycle against them (R68) -/

section Writes

variable {s : State} {m : Master} {a r : Nat} {v mask : Word}

/-- The write of a register that the write of a cycle does nothing more to is that of the register alone. -/
theorem State.writeHit_unopposed (hu : Unopposed m a r s) :
    (s.writeHit m (inWhistle a) r v mask).1 = s.writeReg m r v := by
  have hmix : (s.cycleWrites (bankedAddr m r)).find? (fun b => b.whistle != inWhistle a && b.rank != masterRank m) = none := by
    rw [List.find?_eq_none]
    intro b hb
    obtain h | h := (hu.1 b hb).2 <;> simp [h]
  have hlater : (s.cycleWrites (bankedAddr m r)).filter (fun b => decide (masterRank m < b.rank)) = [] := by
    rw [List.filter_eq_nil_iff]
    intro b hb
    have := (hu.1 b hb).1
    simpa using this
  simp only [State.writeHit, hmix, hlater, List.isEmpty_nil, if_true]

/-- A write that reaches one register writes it and is noted. -/
theorem State.writeAt_of_reach (hr : s.reach m a true = .regs [r]) :
    s.writeAt m a v = (s.writeHit m (inWhistle a) r v (BitVec.allOnes 32)).1.noteWrites
      [(s.writeHit m (inWhistle a) r v (BitVec.allOnes 32)).2] := by
  simp [State.writeAt, State.writeWords, hr]

/-- A write that reaches one register, unopposed, writes it and is noted. -/
theorem State.writeAt_unopposed (hr : s.reach m a true = .regs [r]) (hu : Unopposed m a r s) :
    ∃ b, s.writeAt m a v = (s.writeReg m r v).noteWrites [b] :=
  ⟨_, by rw [s.writeAt_of_reach hr, State.writeHit_unopposed hu]⟩

/-- A write that reaches nothing does nothing (R65). -/
theorem State.writeAt_outside (hr : s.reach m a true = .outside) : s.writeAt m a v = s := by
  simp [State.writeAt, State.writeWords, hr, State.noteWrites]

@[simp] theorem State.busNow_before (s : State) : s.busNow.before = s.bus.before := by
  unfold State.busNow; split <;> rfl

@[simp] theorem State.noteWrites_before (s : State) (b : BusAccess) : (s.noteWrites [b]).bus.before = s.bus.before :=
  s.busNow_before

@[simp] theorem State.rd_noteWrites (s : State) (b : BusAccess) (x : Nat) : (s.noteWrites [b]).rd x = s.rd x := rfl

end Writes

/-- The board port's access is never a Whistle access that R72 forbids. -/
theorem reachWith_board (mask a : Nat) (write : Bool) : reachWith mask .board a write ≠ .whistle := by
  have hw (x : Nat) : reachWide x ≠ .whistle := by
    unfold reachWide
    split
    · simp
    · split <;> simp
  unfold reachWith
  simp only
  split
  · split <;> simp
  · split
    · simp
    · exact hw _

/-- Without its write scope the board port writes nothing (R2, R445). -/
theorem State.reach_board_closed (s : State) (a : Nat) (h : s.flag F.SEC_STATUS_BOARD_WRITE = false) :
    s.reach .board a true = .outside := by
  have := reachWith_board (s.whistleMask .board) a true
  unfold State.reach
  split
  · contradiction
  · simp [State.boardScope, h]

/-! ### Plain registers -/

/-- No GO register is a plain register. -/
theorem isGo_of_plain {r : Nat} (h : writeTo r = .plain) : isGo r = false := by
  have hgo : ∀ g ∈ goRegs, writeTo g.1 ≠ .plain := by decide +kernel
  simp only [isGo, List.any_eq_false, beq_iff_eq]
  intro g hg e
  exact hgo g hg (e ▸ h)

/-- A register that is no GO register starts no engine. -/
theorem State.engineBusy_of_not_go (s : State) {r : Nat} (h : isGo r = false) : s.engineBusy r = false := by
  have hgo : ∀ n : QuadId, isGo (A.CAL_GO n) = true := by decide +kernel
  simp only [isGo, List.any_eq_false, beq_iff_eq] at h
  simp only [State.engineBusy, Bool.or_eq_false_iff, List.any_eq_false, Bool.and_eq_true, beq_iff_eq, not_and]
  refine ⟨fun g hg e => absurd e (h g hg), fun n _ e => ?_⟩
  obtain ⟨g, hg, he⟩ := List.any_eq_true.mp (hgo n)
  exact absurd ((beq_iff_eq.mp he).trans e.symm) (h g hg)

/-- A write that reaches one plain register finds no engine busy. -/
theorem State.writeIdle_of_plain {s : State} {m : Master} {a r : Nat} {v : Word} (hr : s.reach m a true = .regs [r])
    (h : writeTo r = .plain) : s.writeIdle m a v = s.writeAt m a v := by
  have : s.goBusy m a = false := by simp [State.goBusy, hr, s.engineBusy_of_not_go (isGo_of_plain h)]
  simp [State.writeIdle, this]

/-- The host's own copy of WHISTLE_MASK is not a plain register (R70). -/
theorem bankedAddr_of_plain {r : Nat} (m : Master) (h : writeTo r = .plain) : bankedAddr m r = r := by
  have hw : writeTo A.WHISTLE_MASK ≠ .plain := by decide +kernel
  cases m <;> simp only [bankedAddr]
  exact if_neg fun e : r = A.WHISTLE_MASK => hw (e ▸ h)

theorem State.writeReg_of_plain (s : State) (m : Master) {r : Nat} (v : Word) (h : writeTo r = .plain) (h1 : r ≠ A.PWR_CTRL)
    (h2 : r ≠ A.PWR_PNL) : s.writeReg m r v = s.writePlain m r v := by
  simp only [State.writeReg, h1, h2, if_false, State.writeCore, h, State.writeKind]

/-- What the latch that is due keeps changes nothing else. -/
theorem State.keepShadow_eq (s : State) (r : Nat) :
    s.keepShadow r = { s with frame := { s.frame with keep := (s.keepShadow r).frame.keep } } := by
  unfold State.keepShadow; split <;> rfl

/-- The shadow word that a latch which is due still takes, where the register has one. -/
def State.keptFor (s : State) (row : RegRow) (r : Nat) : State :=
  if row.rws != 0 || latchSampled r then s.keepShadow r else s

theorem State.keptFor_eq (s : State) (row : RegRow) (r : Nat) :
    s.keptFor row r = { s with frame := { s.frame with keep := (s.keptFor row r).frame.keep } } := by
  unfold State.keptFor; split
  · exact s.keepShadow_eq r
  · rfl

@[simp] theorem State.rd_keptFor (s : State) (row : RegRow) (r x : Nat) : (s.keptFor row r).rd x = s.rd x := by
  rw [s.keptFor_eq]; rfl

@[simp] theorem State.hitsAt_keptFor (s : State) (row : RegRow) (r x : Nat) : (s.keptFor row r).hitsAt x = s.hitsAt x := by
  rw [s.keptFor_eq]; rfl

theorem word_and_not_zero (x : Word) : x &&& ~~~0#32 = x := BitVec.and_allOnes

/-- A plain write with the register's lock open and no slot's level on it merges the value written (R9, R513). -/
theorem State.writePlain_eq {s : State} {m : Master} {r : Nat} {v : Word} {row : RegRow} (hrow : regRow r = some row)
    (hl : row.rwl ≠ 0 → s.locked m row.lock r = false) (hd : Undriven r s) :
    s.writePlain m r v = (s.keptFor row r).wr r (row.merge false (s.hitsAt r) (s.rd r) v) := by
  have hlock : (row.rwl != 0 && s.locked m row.lock r) = false := by
    by_cases h : row.rwl = 0
    · simp [h]
    · simp [hl h]
  have hgpio : (if r = A.GPIO_OUT then mixWords (fieldBits (s.hitsAt r)) (s.rd r) v else v) = v := by
    split
    · next h =>
      have hnone : fieldBits (s.hitsAt r) = 0#32 := by rw [hd h]; rfl
      simp only [hnone, mixWords, word_and_not_zero, BitVec.and_zero, BitVec.zero_or]
    · rfl
  have hkept : (if row.rws != 0 || latchSampled r then s.keepShadow r else s) = s.keptFor row r := rfl
  simp only [State.writePlain, hrow, hlock, hkept, State.rd_keptFor, State.hitsAt_keptFor, hgpio, Bool.false_eq_true, if_false]

/-- A plain write, noted, changes the register, the record of the cycle and what a latch keeps. -/
theorem State.wr_keptFor_written (s : State) (row : RegRow) (r : Nat) (v : Word) (b : BusAccess) :
    Written [r] s (((s.keptFor row r).wr r v).noteWrites [b]) := by
  refine ⟨?_, ?_, ?_⟩
  · rw [s.keptFor_eq]; rfl
  · rw [State.noteWrites_before, s.keptFor_eq]; rfl
  · intro x hx
    rw [State.rd_noteWrites, State.rd_wr_other _ _ (by simpa using hx), State.rd_keptFor]

/-! ### What a write leaves of each bit -/

/-- The bits that the fields `l` take. -/
theorem fieldBits_getLsbD (l : List Fld) {i : Nat} (hi : i < 32) :
    (fieldBits l).getLsbD i = l.any fun f => decide (f.lo ≤ i) && decide (i < f.lo + f.w) := by
  have one (f : Fld) : (withField 0 f.lo f.w (2 ^ f.w - 1)).getLsbD i = (decide (f.lo ≤ i) && decide (i < f.lo + f.w)) := by
    rw [BitVec.getLsbD, testBit_withField]
    by_cases h1 : i < f.lo
    · simp [h1, hi]
    · by_cases h2 : i < f.lo + f.w
      · have h3 : i - f.lo < f.w := by omega
        have h4 : f.lo ≤ i := by omega
        simp [h1, h2, h3, h4, hi, Nat.testBit_two_pow_sub_one]
      · simp [h1, h2, hi]
  have fold (x : Word) : (l.foldl (fun x f => x ||| withField 0 f.lo f.w (2 ^ f.w - 1)) x).getLsbD i =
      (x.getLsbD i || l.any fun f => decide (f.lo ≤ i) && decide (i < f.lo + f.w)) := by
    induction l generalizing x with
    | nil => simp
    | cons f t ih => rw [List.foldl_cons, ih, BitVec.getLsbD_or, one, List.any_cons, Bool.or_assoc]
  simpa [fieldBits] using fold 0

/-- Bit `i` of a register after a write to it with its lock open (R9, R513). -/
theorem RegRow.merge_getLsbD (row : RegRow) (hits : List Fld) (old v : Word) (hc : row.ctr = [])
    (hdis : row.w1c &&& (row.rw ||| row.rws ||| row.rwl) = 0) {i : Nat} (hi : i < 32) :
    (row.merge false hits old v).getLsbD i =
      if row.rw.testBit i || row.rws.testBit i || row.rwl.testBit i then v.getLsbD i
      else if row.w1c.testBit i then
        old.getLsbD i && !(v.getLsbD i && !hits.any fun f => decide (f.lo ≤ i) && decide (i < f.lo + f.w))
      else old.getLsbD i := by
  have hd : (row.w1c.testBit i && (row.rw.testBit i || row.rws.testBit i || row.rwl.testBit i)) = false := by
    simpa using congrArg (Nat.testBit · i) hdis
  simp only [RegRow.merge, hc, List.foldl_nil, Bool.false_eq_true, if_false, BitVec.getLsbD_and, BitVec.getLsbD_or,
    BitVec.getLsbD_not, BitVec.getLsbD_ofNat, fieldBits_getLsbD hits hi, Nat.testBit_or, hi, decide_true, Bool.true_and]
  cases hw : row.w1c.testBit i
  · cases row.rw.testBit i || row.rws.testBit i || row.rwl.testBit i <;> simp
  · rw [hw, Bool.true_and] at hd
    simp [hd]


/-- Bit `i` of what is written under later writes of the cycle that have decided the bits `mask` (R68). -/
theorem mixWords_getLsbD (mask x y : Word) {i : Nat} (hi : i < 32) :
    (mixWords mask x y).getLsbD i = if mask.getLsbD i then x.getLsbD i else y.getLsbD i := by
  simp only [mixWords, BitVec.getLsbD_or, BitVec.getLsbD_and, BitVec.getLsbD_not, hi, decide_true, Bool.true_and]
  cases mask.getLsbD i <;> simp

/-- A plain write that one later write of the cycle has reached first: the bits that this one decided keep their value (R68). -/
theorem State.writeHit_under {s : State} {m : Master} {a r : Nat} {v mask : Word} {row : RegRow} {b : BusAccess}
    (hp : writeTo r = .plain) (hrow : regRow r = some row) (hb : s.cycleWrites r = [b]) (hw : b.whistle = inWhistle a)
    (hm : masterRank m < b.rank) :
    (s.writeHit m (inWhistle a) r v mask).1 = s.writeReg m r
      (mixWords (BitVec.ofNat 32 (row.rw ||| row.rws ||| row.rwl) &&& b.mask) (s.rd r) v) := by
  simp [State.writeHit, bankedAddr_of_plain m hp, hb, hw, hm, isGo_of_plain hp, State.writeUnder, hp, rwBits, hrow, decided]

/-! ### The write of one plain register -/

section PlainWrite

variable {s : State} {m : Master} {a r : Nat} {v w : Word} {row : RegRow}

/-- A write that comes to one of `w` to a plain register with an open lock changes the register alone. -/
theorem State.writeIdle_plain (hr : s.reach m a true = .regs [r]) (hp : writeTo r = .plain) (h1 : r ≠ A.PWR_CTRL)
    (h2 : r ≠ A.PWR_PNL) (hrow : regRow r = some row) (hl : row.rwl ≠ 0 → s.locked m row.lock r = false)
    (hd : Undriven r s) (hit : (s.writeHit m (inWhistle a) r v (BitVec.allOnes 32)).1 = s.writeReg m r w) :
    Written [r] s (s.writeIdle m a v) ∧ (s.writeIdle m a v).rd r = row.merge false (s.hitsAt r) (s.rd r) w := by
  rw [State.writeIdle_of_plain hr hp, s.writeAt_of_reach hr, hit, s.writeReg_of_plain m w hp h1 h2, s.writePlain_eq hrow hl hd]
  exact ⟨s.wr_keptFor_written row r _ _, by rw [State.rd_noteWrites, State.rd_wr_same]⟩

end PlainWrite

/-- A write of a counter clears it with a 0, but for what it has counted in this core cycle, and leaves it otherwise (R513). -/
theorem RegRow.merge_of_counter (row : RegRow) (hits : List Fld) (old v : Word) {lo w : Nat} (hc : row.ctr = [(lo, w)])
    (h1 : row.rw = 0) (h2 : row.rws = 0) (h3 : row.rwl = 0) (h4 : row.w1c = 0) :
    row.merge false hits old v =
      if field v lo w = 0 then withField old lo w (min (hits.countP fun f => f.lo == lo) (2 ^ w - 1)) else old := by
  simp only [RegRow.merge, hc, h1, h2, h3, h4, Bool.false_eq_true, if_false, Nat.or_zero, List.foldl_cons, List.foldl_nil,
    BitVec.and_zero, BitVec.zero_and, BitVec.or_zero, word_and_not_zero]

/-- Settles O11: one write of one plain register merges the value by the access types of its bits, under a later write of the
cycle with the bits that this one decided; a write of the board port without its scope reaches nothing. -/
theorem registerWrite : Obligations.RegisterWrite := by
  intro s m a v r row writes
  refine ⟨fun hb => ?_, fun hr hp h1 h2 hrow => ⟨fun lo w hc hrw hrws hrwl hw1c hu => ?_, fun hc hdis hl => ⟨fun hu => ⟨?_, ?_⟩,
    fun b hb hw hm hd => ?_⟩⟩⟩
  · have hr := s.reach_board_closed a.toNat hb
    change Host.Outcome.next (s.writeIdle .board a.toNat v) = _
    simp [State.writeIdle, State.goBusy, hr, State.writeAt_outside]
  · obtain ⟨hW, hv⟩ := State.writeIdle_plain hr hp h1 h2 hrow (fun h => absurd hrwl h) hu.2 (State.writeHit_unopposed hu)
      (v := v)
    refine ⟨_, rfl, hW, ?_⟩
    rw [hv, row.merge_of_counter _ _ _ hc hrw hrws hrwl hw1c]
    split <;> rfl
  · obtain ⟨hW, hv⟩ := State.writeIdle_plain hr hp h1 h2 hrow hl hu.2 (State.writeHit_unopposed hu) (v := v)
    exact ⟨_, rfl, hW, fun i hi => by rw [hv, row.merge_getLsbD _ _ _ hc hdis hi]⟩
  · obtain ⟨hW, hv⟩ := State.writeIdle_plain hr hp h1 h2 hrow hl hu.2 (State.writeHit_unopposed hu) (v := 1)
    exact ⟨_, rfl, hW, fun i hi => by rw [hv, row.merge_getLsbD _ _ _ hc hdis hi]⟩
  · obtain ⟨hW, hv⟩ := State.writeIdle_plain hr hp h1 h2 hrow hl hd (State.writeHit_under hp hrow hb hw hm) (v := v)
    refine ⟨_, rfl, hW, fun i hi => ?_⟩
    rw [hv, row.merge_getLsbD _ _ _ hc hdis hi, mixWords_getLsbD _ _ _ hi, mixWords_getLsbD _ _ _ hi, BitVec.getLsbD_and,
      BitVec.getLsbD_ofNat, Nat.testBit_or, Nat.testBit_or]
    cases row.rw.testBit i || row.rws.testBit i || row.rwl.testBit i <;> simp [hi]

end Sys2Proof.Machine

namespace Sys2Proof.Machine

/-! ### The reach of the geometry window (R65, R142) -/

/-- A word of the geometry window lies in its block. -/
theorem blockOf_window {a : Nat} (h1 : 0x800000 ≤ a) (h2 : a < 0xA00000) : blockOf a = some 0x800000 := by
  have below : ∀ b ∈ sysBlocks.take 24, b.2 < 0x800000 := by decide
  have hfind : sysBlocks.find? (fun b => decide (b.1 ≤ a) && decide (a ≤ b.2)) = some (0x800000, 0x9FFFFF) := by
    rw [← List.take_append_drop 24 sysBlocks, List.find?_append, List.find?_eq_none.mpr fun b hb => by
      have := below b hb
      simp only [Bool.and_eq_true, decide_eq_true_eq, not_and]
      omega]
    have : a ≤ 0x9FFFFF := by omega
    simp [sysBlocks, h1, this]
  have hlt : a < 0x1000000 := by omega
  simp [blockOf, hlt, blockIn, hfind]

/-- What a write to a word of the geometry window reaches: SQ0 to SQ3 only read there (R65). -/
theorem reachWith_window (mask : Nat) (m : Master) {a : Nat} (h1 : 0x800000 ≤ a) (h2 : a < 0xA00000) (h4 : a % 4 = 0) :
    reachWith mask m a true = match m with | .sq _ => .outside | _ => .regs [a] := by
  have ha : a % 0x4000000 / 4 * 4 = a := by omega
  have hw : ¬ (0x2000000 ≤ a ∧ a < 0x2400000) := by omega
  have hs : ¬ (0x3000000 ≤ a ∧ a < 0x3400000) := by omega
  have hp : ¬ (0xF00000 ≤ a ∧ a < 0x1000000) := by omega
  have hq : ¬ 0x1000000 ≤ a := by omega
  have hb : ¬ (0x800000 = 0x20000) := by decide
  unfold reachWith
  rw [ha]
  simp only [hw, hs, if_false]
  cases m <;>
    simp only [reachSq, reachWide, blockOf_window h1 h2, hp, hq, hb, false_and, if_false, if_true]

/-- A write to a word of the geometry window that its master may not make reaches nothing. -/
theorem State.reach_window_closed (s : State) (m : Master) {a : Nat} (h1 : 0x800000 ≤ a) (h2 : a < 0xA00000) (h4 : a % 4 = 0)
    (hm : (∃ n, m = .sq n) ∨ s.held = true ∨ m = .board ∧ s.flag F.SEC_STATUS_BOARD_WRITE = false) :
    s.reach m a true = .outside := by
  have hr := reachWith_window (s.whistleMask m) m h1 h2 h4
  rcases hm with ⟨n, rfl⟩ | hh | ⟨rfl, hb⟩
  · simp [State.reach, hr]
  · cases m <;> simp [State.reach, hr, hh]
  · exact s.reach_board_closed a hb

/-- A write to a word of the geometry window that its master may make reaches the word. -/
theorem State.reach_window_open (s : State) {m : Master} {a : Nat} (h1 : 0x800000 ≤ a) (h2 : a < 0xA00000) (h4 : a % 4 = 0)
    (hm : ∀ n, m ≠ .sq n) (hh : s.held = false) (hb : s.boardScope m true = true) : s.reach m a true = .regs [a] := by
  have hr := reachWith_window (s.whistleMask m) m h1 h2 h4
  cases m with
  | sq n => exact absurd rfl (hm n)
  | sqs => simp [State.reach, hr, hh, hb]
  | host => simp [State.reach, hr, hh, hb]
  | board => simp [State.reach, hr, hh, hb]
  | rot => simp [State.reach, hr, hh, hb]

/-! ### Writes through the window -/

/-- A word of the window is one of a record. -/
theorem writeTo_window {x : Nat} (hx : x < 262144) (high : Bool) :
    writeTo (0x800000 + 8 * x + if high then 4 else 0) = .geoRecord x high := by
  have h1 : ¬ 0x1000000 ≤ 0x800000 + 8 * x + (if high then 4 else 0) := by split <;> omega
  have h2 : 0x800000 ≤ 0x800000 + 8 * x + (if high then 4 else 0) ∧ 0x800000 + 8 * x + (if high then 4 else 0) < 0xa00000 := by
    split <;> omega
  have h3 : (0x800000 + 8 * x + (if high then 4 else 0) - 0x800000) / 8 = x := by split <;> omega
  have h4 : ((0x800000 + 8 * x + (if high then 4 else 0)) / 4 % 2 == 1) = high := by
    cases high <;> simp <;> omega
  simp only [writeTo, h1, h2, and_self, if_false, if_true, h3, h4]


/-- A write of a window word that its master may make, unopposed, is one of the record's word (R142). -/
theorem State.writeAt_window {s : State} {m : Master} {x : Nat} {v : Word} (hx : x < 262144) (high : Bool)
    (hr : ∀ a, 0x800000 ≤ a → a < 0xA00000 → a % 4 = 0 → s.reach m a true = .regs [a])
    (hu : Unopposed m (0x800000 + 8 * x + if high then 4 else 0) (0x800000 + 8 * x + if high then 4 else 0) s) :
    ∃ b, s.writeAt m (0x800000 + 8 * x + if high then 4 else 0) v =
      (if high then s.geoHigh m x v else s.geoLow m x v).noteWrites [b] := by
  have h1 : 0x800000 ≤ 0x800000 + 8 * x + (if high then 4 else 0) := by omega
  have h2 : 0x800000 + 8 * x + (if high then 4 else 0) < 0xA00000 := by split <;> omega
  have h4 : (0x800000 + 8 * x + (if high then 4 else 0)) % 4 = 0 := by split <;> omega
  have hpwr : 0x800000 + 8 * x + (if high then 4 else 0) ≠ A.PWR_CTRL ∧ 0x800000 + 8 * x + (if high then 4 else 0) ≠ A.PWR_PNL := by
    simp only [A.PWR_CTRL, A.PWR_PNL]; omega
  obtain ⟨b, hb⟩ := State.writeAt_unopposed (v := v) (hr _ h1 h2 h4) hu
  refine ⟨b, hb.trans ?_⟩
  simp only [State.writeReg, hpwr, if_false, State.writeCore, writeTo_window hx, State.writeKind]

/-- A write to the window while a load is busy is discarded with STALE_WRITE (R142). -/
theorem State.geoStale_noteWrites (s : State) (b : BusAccess) :
    let t := s.geoStale.noteWrites [b]
    t = { s with regs := t.regs, bus := t.bus } ∧ BitsKept [F.GEO_STATUS_STALE_WRITE] s t ∧
      t.flag F.GEO_STATUS_STALE_WRITE = true :=
  ⟨rfl, s.set_bitsKept _, s.flag_set (f := F.GEO_STATUS_STALE_WRITE) (by decide) (by decide)⟩

/-- Rewriting a record changes only which records fail their parity (R147). -/
theorem State.geoMend_eq (s : State) (x : Nat) :
    s.geoMend x = { s with geo := { s.geo with bad := s.geo.bad.filter (· ≠ x) } } := by
  unfold State.geoMend
  split
  · rfl
  · next h =>
    have : s.geo.bad.filter (· ≠ x) = s.geo.bad := by
      rw [List.filter_eq_self]
      intro y hy
      simp only [ne_eq, decide_not, Bool.not_eq_true', decide_eq_false_iff_not]
      rintro rfl
      exact h (List.contains_iff_mem.mpr hy)
    rw [this]

@[simp] theorem State.rd_geoMend (s : State) (x a : Nat) : (s.geoMend x).rd a = s.rd a := by rw [s.geoMend_eq]; rfl


section Window

variable {s : State} {m : Master} {x : Nat} {v w : Word}

/-- A high word of the record that the writer holds places both words and empties the holding register (R142). -/
theorem State.geoHigh_held (hb : s.flag F.GEO_STATUS_LOAD_BUSY = false) (hh : s.geo.hold[holdOf m] = some (x, w)) :
    s.geoHigh m x v = { (s.wr (0x800000 + 8 * x) w).wr (0x800000 + 8 * x + 4) v with
      geo := { s.geo with hold := s.geo.hold.set (holdOf m) none, bad := s.geo.bad.filter (· ≠ x) } } := by
  simp only [State.geoHigh, hb, hh, Bool.false_eq_true, if_false, if_true, State.putRecord, State.geoMend_eq]
  rfl

/-- A high word of another record is placed alone (R142). -/
theorem State.geoHigh_other (hb : s.flag F.GEO_STATUS_LOAD_BUSY = false) (hh : ∀ w, s.geo.hold[holdOf m] ≠ some (x, w)) :
    s.geoHigh m x v = { s.wr (0x800000 + 8 * x + 4) v with
      geo := { s.geo with bad := s.geo.bad.filter (· ≠ x) } } := by
  simp only [State.geoHigh, hb, Bool.false_eq_true, if_false]
  split
  · next y lo hy =>
    rw [if_neg (by rintro rfl; exact hh lo hy), State.geoMend_eq]
    rfl
  · rw [State.geoMend_eq]; rfl

/-- A busy load discards a high word (R142). -/
theorem State.geoHigh_busy (hb : s.flag F.GEO_STATUS_LOAD_BUSY = true) : s.geoHigh m x v = s.geoStale := by
  simp [State.geoHigh, hb]

/-- A low word is held, or discarded by a busy load (R142). -/
theorem State.geoLow_eq : s.geoLow m x v = if s.flag F.GEO_STATUS_LOAD_BUSY then s.geoStale
    else { s with geo := { s.geo with hold := s.geo.hold.set (holdOf m) (some (x, v)) } } := rfl

end Window

theorem hold_set_other {l : Vector (Option (Nat × Word)) 7} {i j : Fin 7} (o : Option (Nat × Word)) (h : j ≠ i) :
    (l.set i o)[j] = l[j] := by
  have : i.val ≠ j.val := fun e => h (Fin.ext e.symm)
  simp [this]

theorem hold_set_same (l : Vector (Option (Nat × Word)) 7) (i : Fin 7) (o : Option (Nat × Word)) : (l.set i o)[i] = o := by
  simp

/-! ### Reads of DRAM that no error meets (R388, R389) -/

/-- Quadrant `n` has neither link ECC nor inline SECDED, and no delay register has been written outside a window. -/
def State.readsClean (s : State) (n : QuadId) : Prop :=
  s.inlineEcc n = false ∧ s.flag (F.DRAM_CFG_LINK_ECC n) = false ∧ (s.dr n).u05 = []

/-- What a read changes: of all the state only the controllers' queues and counts. -/
def ReadKeeps (s t : State) : Prop :=
  t = { s with dram := t.dram } ∧ ∀ q : QuadId, (t.dr q).mem = (s.dr q).mem ∧ (t.dr q).u05 = (s.dr q).u05

theorem ReadKeeps.refl (s : State) : ReadKeeps s s := ⟨rfl, fun _ => ⟨rfl, rfl⟩⟩

theorem ReadKeeps.trans {s t u : State} (h : ReadKeeps s t) (h' : ReadKeeps t u) : ReadKeeps s u := by
  obtain ⟨h1, h2⟩ := h
  obtain ⟨h3, h4⟩ := h'
  refine ⟨?_, fun q => ⟨(h4 q).1.trans (h2 q).1, (h4 q).2.trans (h2 q).2⟩⟩
  rw [h1] at h3
  exact h3

theorem ReadKeeps.rd_eq {s t : State} (h : ReadKeeps s t) (a : Nat) : t.rd a = s.rd a := by rw [h.1]; rfl

theorem ReadKeeps.byte_eq {s t : State} (h : ReadKeeps s t) (q : QuadId) (a : Nat) : (t.dr q).byte a = (s.dr q).byte a := by
  simp [DramUnit.byte, (h.2 q).1]

theorem ReadKeeps.dramSize_eq {s t : State} (h : ReadKeeps s t) (q : QuadId) : t.dramSize q = s.dramSize q := by
  simp [State.dramSize, State.get, h.rd_eq]

theorem ReadKeeps.readsClean {s t : State} (h : ReadKeeps s t) {n : QuadId} (hc : s.readsClean n) : t.readsClean n := by
  obtain ⟨h1, h2, h3⟩ := hc
  refine ⟨?_, ?_, (h.2 n).2.trans h3⟩
  · simpa only [State.inlineEcc, State.flag, State.get, h.rd_eq] using h1
  · simpa only [State.flag, State.get, h.rd_eq] using h2

/-- A controller replaced by one of the same bytes. -/
theorem State.setDr_readKeeps (s : State) {n : QuadId} {d : DramUnit} (h1 : d.mem = (s.dr n).mem) (h2 : d.u05 = (s.dr n).u05) :
    ReadKeeps s (s.setDr n d) := by
  refine ⟨rfl, fun q => ?_⟩
  rw [State.dr_setDr]
  split
  · next e => exact e ▸ ⟨h1, h2⟩
  · exact ⟨rfl, rfl⟩

theorem State.dramForward_readKeeps (s : State) (n : QuadId) (w : Nat) : ReadKeeps s (s.dramForward n w) := by
  unfold State.dramForward
  simp only
  split
  · exact s.setDr_readKeeps rfl rfl
  · exact s.setDr_readKeeps rfl rfl
  · exact .refl s

/-- Nothing befalls a transfer without link ECC and inline SECDED (R397, R399). -/
theorem State.transferMeets_of_clean {s : State} {n : QuadId} (h : s.readsClean n) : s.transferMeets n = (.ok, s) := by
  obtain ⟨h1, h2, -⟩ := h
  simp [State.transferMeets, h1, h2]

/-- A word in range of a quadrant that reads clean is returned as stored (R388). -/
theorem State.readWord_of_clean {s : State} {n : QuadId} {w : Nat} (hc : s.readsClean n) (hw : 64 * w < s.dramSize n) :
    ∃ t, s.readWord n w = (false, (s.dr n).wordBytes w, t) ∧ ReadKeeps s t := by
  have k1 : ReadKeeps s (s.setDr n (s.dr n).returnAll) := s.setDr_readKeeps rfl rfl
  generalize hs1 : s.setDr n (s.dr n).returnAll = s1 at k1
  have k2 := k1.trans (s1.dramForward_readKeeps n w)
  generalize hs2 : s1.dramForward n w = s2 at k2
  have k3 : ReadKeeps s (s2.setDr n { s2.dr n with rd := (s2.dr n).rd + 1 }) := k2.trans (s2.setDr_readKeeps rfl rfl)
  generalize hs3 : s2.setDr n { s2.dr n with rd := (s2.dr n).rd + 1 } = s3 at k3
  obtain ⟨he, -, hu⟩ := k3.readsClean hc
  have hsize : ¬ s1.dramSize n ≤ 64 * w := by rw [k1.dramSize_eq]; omega
  have hbad : s.dramBad n w = false := by simp [State.dramBad, hc.1]
  refine ⟨s3, ?_, k3⟩
  have hmeets := State.transferMeets_of_clean (k3.readsClean hc)
  unfold State.readWord State.readFrom
  simp only [hs1, hs2, hs3, hsize, if_false, hbad, Bool.false_eq_true, hmeets, ite_self,
    State.dramMeet, hu, List.isEmpty_nil, Bool.not_true, he, Bool.and_false, Bool.false_and]

/-- The bytes of consecutive words. -/
theorem DramUnit.wordBytes_succ (d : DramUnit) (w k : Nat) :
    d.wordBytes w ++ (List.range (64 * k)).map (fun i => d.byte (64 * (w + 1) + i)) =
      (List.range (64 * (k + 1))).map fun i => d.byte (64 * w + i) := by
  have : 64 * (k + 1) = 64 + 64 * k := by omega
  rw [this, List.range_add, List.map_append, List.map_map, DramUnit.wordBytes]
  congr 1
  apply List.map_congr_left
  intro i _
  simp only [Function.comp_apply]
  congr 1
  omega

theorem State.readWords_of_clean {n : QuadId} (k : Nat) {s : State} {w : Nat} (hc : s.readsClean n)
    (hw : 0 < k → 64 * (w + k - 1) < s.dramSize n) :
    (s.readWords n w k).1 = (List.range (64 * k)).map (fun i => (s.dr n).byte (64 * w + i)) ∧
      ReadKeeps s (s.readWords n w k).2.2 := by
  induction k generalizing s w with
  | zero => exact ⟨rfl, .refl s⟩
  | succ k ih =>
    obtain ⟨t, ht, hk⟩ := State.readWord_of_clean (w := w) hc (by have := hw (by omega); omega)
    obtain ⟨h1, h2⟩ := ih (w := w + 1) (hk.readsClean hc) fun _ => by
      have := hw (by omega)
      rw [hk.dramSize_eq]; omega
    simp only [State.readWords, ht, h1, hk.byte_eq]
    exact ⟨DramUnit.wordBytes_succ _ _ _, hk.trans h2⟩

/-- Bytes in range of a quadrant that reads clean are returned as stored (R388). -/
theorem State.readBytes_of_clean {s : State} {n : QuadId} {a len : Nat} (hc : s.readsClean n) (h : a + len ≤ s.dramSize n) :
    (s.readBytes n a len).1 = (List.range len).map (fun i => (s.dr n).byte (a + i)) ∧
      ReadKeeps s (s.readBytes n a len).2.2 := by
  unfold State.readBytes
  by_cases h0 : len = 0
  · subst h0; exact ⟨rfl, .refl s⟩
  · obtain ⟨h1, h2⟩ := State.readWords_of_clean (w := a / 64) ((a + len - 1) / 64 + 1 - a / 64) hc (by omega)
    simp only [h0, if_false, h1]
    refine ⟨?_, h2⟩
    apply List.ext_getElem
    · simp; omega
    · intro i hi _
      simp only [List.getElem_take, List.getElem_drop, List.getElem_map, List.getElem_range]
      congr 1
      omega

end Sys2Proof.Machine

namespace Sys2Proof.Machine

/-! ### GEO_LOAD (R145, R146) -/

/-- What the geometry engine changes of the state: its load, registers, and of those only bits of the fields `l`. -/
def GeoChanges (l : List Fld) (s t : State) : Prop :=
  t = { s with regs := t.regs, geo := t.geo, bus := t.bus } ∧ t.geo.hold = s.geo.hold ∧ BitsKept l s t

section GeoChanges

variable {s t u : State} {l m : List Fld}

theorem GeoChanges.refl (l : List Fld) (s : State) : GeoChanges l s s := ⟨rfl, rfl, .refl l s⟩

theorem GeoChanges.trans (h : GeoChanges l s t) (h' : GeoChanges l t u) : GeoChanges l s u := by
  obtain ⟨h1, h2, h3⟩ := h
  obtain ⟨h4, h5, h6⟩ := h'
  refine ⟨?_, h5.trans h2, h3.trans h6⟩
  rw [h1] at h4
  exact h4

theorem GeoChanges.mono (hs : l ⊆ m) (h : GeoChanges l s t) : GeoChanges m s t := ⟨h.1, h.2.1, h.2.2.mono hs⟩

theorem State.set_geoChanges (s : State) (f : Fld) : GeoChanges [f] s (s.set f) := ⟨rfl, rfl, s.set_bitsKept f⟩

theorem State.clr_geoChanges (s : State) (f : Fld) : GeoChanges [f] s (s.clr f) := ⟨rfl, rfl, s.clr_bitsKept f⟩

theorem State.load_geoChanges (s : State) (l : List Fld) (o : Option GeoLoad) :
    GeoChanges l s { s with geo := { s.geo with load := o } } := ⟨rfl, rfl, .refl l s⟩

/-- A load that settles touches LOAD_VALID and GEO_LOAD_FRAME alone. -/
theorem State.geoSettle_geoChanges (s : State) :
    GeoChanges [F.GEO_STATUS_LOAD_VALID, whole A.GEO_LOAD_FRAME] s s.geoSettle := by
  unfold State.geoSettle
  split
  · simp only
    split
    · exact .refl _ s
    · split
      · exact ⟨rfl, rfl, ((s.wr_bitsKept _ _).mono (by simp)).trans ((State.set_bitsKept _ _).mono (by simp))⟩
      · exact .refl _ s
  · exact .refl _ s

end GeoChanges

/-- A load of which no record is left unread is over (R146). -/
theorem State.geoSettle_load {s : State} {g : GeoLoad} (hl : s.geo.load = some g) (hb : s.flag F.GEO_STATUS_LOAD_BUSY = false)
    (hu : g.unread = []) : s.geoSettle.geo.load = none := by
  simp [State.geoSettle, hl, hb, hu, cutInterval]

/-- The bits that GEO_LOAD can change. -/
def geoLoadFields : List Fld :=
  [F.GEO_STATUS_LOAD_VALID, F.GEO_STATUS_LOAD_BAD, F.GEO_STATUS_LOAD_BUSY, whole A.GEO_LOAD_FRAME]

/-- The state in which a load whose operands are in order begins: LOAD_VALID cleared, the engine given the load. -/
def State.geoBegun (s : State) (o : Option GeoLoad) : State :=
  { s.clr F.GEO_STATUS_LOAD_VALID with geo := { s.geo with load := o } }

theorem State.geoBegun_geoChanges (s : State) (o : Option GeoLoad) :
    GeoChanges [F.GEO_STATUS_LOAD_VALID] s (s.geoBegun o) :=
  (s.clr_geoChanges _).trans (State.load_geoChanges _ _ o)

theorem State.geoBegun_busy (s : State) (o : Option GeoLoad) :
    (s.geoBegun o).flag F.GEO_STATUS_LOAD_BUSY = s.flag F.GEO_STATUS_LOAD_BUSY :=
  (s.geoBegun_geoChanges o).2.2.flag_eq (by decide) (by decide)

theorem State.geoBegun_valid (s : State) (o : Option GeoLoad) : (s.geoBegun o).flag F.GEO_STATUS_LOAD_VALID = false := by
  have : (s.geoBegun o).get F.GEO_STATUS_LOAD_VALID = 0 := s.get_clr (by decide)
  simp [State.flag, this]

/-- The load that GEO_LOAD gives the engine. -/
def State.geoAsked (s : State) : GeoLoad :=
  { src := s.get F.GEO_LOAD_SRC_ADDR * 8, quad := s.geoQuad, first := s.get F.GEO_LOAD_CFG_FIRST,
    count := s.get F.GEO_LOAD_COUNT_COUNT,
    unread := if s.get F.GEO_LOAD_COUNT_COUNT = 0 then []
      else [(s.get F.GEO_LOAD_CFG_FIRST, s.get F.GEO_LOAD_CFG_FIRST + s.get F.GEO_LOAD_COUNT_COUNT)] }

/-- A write of GEO_LOAD_GO with its bit 0 set (R145). -/
theorem State.geoGo_eq {s : State} {v : Word} (hv : v.getLsbD 0 = true) :
    s.geoGo v =
      if 262144 < s.get F.GEO_LOAD_CFG_FIRST + s.get F.GEO_LOAD_COUNT_COUNT then (s.geoBegun none).set F.GEO_STATUS_LOAD_BAD
      else if s.get F.GEO_LOAD_COUNT_COUNT = 0 then (s.geoBegun (some s.geoAsked)).geoSettle
      else (s.geoBegun (some s.geoAsked)).set F.GEO_STATUS_LOAD_BUSY := by
  have hgo : field v 0 1 = 1 := by
    have : v.toNat % 2 = 1 := by simpa [BitVec.getLsbD, Nat.testBit_zero] using hv
    simpa [field] using this
  have keep (f : Fld) (h : f.addr ≠ A.GEO_STATUS) : (s.clr F.GEO_STATUS_LOAD_VALID).get f = s.get f :=
    s.get_put_addr 0 h
  have hfirst := keep F.GEO_LOAD_CFG_FIRST (by decide)
  have hcount := keep F.GEO_LOAD_COUNT_COUNT (by decide)
  have hsrc := keep F.GEO_LOAD_SRC_ADDR (by decide)
  have hquad := keep F.GEO_LOAD_CFG_QUAD (by decide)
  have hbad (a b : Nat) : (262144 < b ∨ 262144 < a + b) = (262144 < a + b) := by
    rw [eq_iff_iff]; omega
  have hload (o : GeoUnit) (f : Fld) : State.get { s.clr F.GEO_STATUS_LOAD_VALID with geo := o } f =
      (s.clr F.GEO_STATUS_LOAD_VALID).get f := rfl
  have hdr (o : GeoUnit) : State.geoQuad { s.clr F.GEO_STATUS_LOAD_VALID with geo := o } = s.geoQuad := by
    simp only [State.geoQuad, hload, hquad]
  unfold State.geoGo
  simp only [if_pos hgo, hload, hdr, hfirst, hcount, hsrc, hbad]
  rfl

/-- GEO_LOAD touches no more than its own bits. -/
theorem State.geoGo_geoChanges {s : State} {v : Word} (hv : v.getLsbD 0 = true) : GeoChanges geoLoadFields s (s.geoGo v) := by
  have begun (o : Option GeoLoad) : GeoChanges geoLoadFields s (s.geoBegun o) :=
    (s.geoBegun_geoChanges o).mono (by simp [geoLoadFields])
  rw [State.geoGo_eq hv]
  split
  · exact (begun none).trans ((State.set_geoChanges _ _).mono (by simp [geoLoadFields]))
  · split
    · exact (begun _).trans ((State.geoSettle_geoChanges _).mono (by simp [geoLoadFields]))
    · exact (begun _).trans ((State.set_geoChanges _ _).mono (by simp [geoLoadFields]))

section GeoGo

variable {s : State} {v : Word}

/-- A load that would leave the table is refused (R145). -/
theorem State.geoGo_beyond (hb : s.flag F.GEO_STATUS_LOAD_BUSY = false) (hv : v.getLsbD 0 = true)
    (hr : 262144 < s.get F.GEO_LOAD_CFG_FIRST + s.get F.GEO_LOAD_COUNT_COUNT) :
    (s.geoGo v).flag F.GEO_STATUS_LOAD_BAD = true ∧ (s.geoGo v).flag F.GEO_STATUS_LOAD_BUSY = false ∧
      (s.geoGo v).geo.load = none := by
  rw [State.geoGo_eq hv, if_pos hr]
  refine ⟨State.flag_set _ (by decide) (by decide), ?_, rfl⟩
  rw [(State.set_bitsKept _ _).flag_eq (by decide) (by decide), State.geoBegun_busy, hb]

/-- A load of some records of the table begins (R145). -/
theorem State.geoGo_begins (hv : v.getLsbD 0 = true)
    (hr : s.get F.GEO_LOAD_CFG_FIRST + s.get F.GEO_LOAD_COUNT_COUNT ≤ 262144)
    (hc : 0 < s.get F.GEO_LOAD_COUNT_COUNT) :
    (s.geoGo v).flag F.GEO_STATUS_LOAD_BUSY = true ∧ (s.geoGo v).flag F.GEO_STATUS_LOAD_VALID = false ∧
      (s.geoGo v).rd A.GEO_LOAD_FRAME = s.rd A.GEO_LOAD_FRAME ∧ (s.geoGo v).geo.load = some s.geoAsked := by
  rw [State.geoGo_eq hv, if_neg (by omega), if_neg (by omega)]
  refine ⟨State.flag_set _ (by decide) (by decide), ?_, ?_, rfl⟩
  · rw [(State.set_bitsKept _ _).flag_eq (by decide) (by decide), State.geoBegun_valid]
  · rw [(State.set_bitsKept _ _).rd_eq (by decide), (State.geoBegun_geoChanges _ _).2.2.rd_eq (by decide)]

/-- A load of no record is over at once (R145). -/
theorem State.geoGo_empty (hb : s.flag F.GEO_STATUS_LOAD_BUSY = false) (hv : v.getLsbD 0 = true)
    (hr : s.get F.GEO_LOAD_CFG_FIRST + s.get F.GEO_LOAD_COUNT_COUNT ≤ 262144)
    (hc : s.get F.GEO_LOAD_COUNT_COUNT = 0) :
    (s.geoGo v).flag F.GEO_STATUS_LOAD_BUSY = false ∧ (s.geoGo v).geo.load = none := by
  have hbusy := (s.geoBegun_busy (some s.geoAsked)).trans hb
  rw [State.geoGo_eq hv, if_neg (by omega), if_pos hc]
  refine ⟨?_, State.geoSettle_load (g := s.geoAsked) rfl hbusy (by simp [State.geoAsked, hc])⟩
  rw [(State.geoSettle_geoChanges _).2.2.flag_eq (by decide) (by decide), hbusy]

end GeoGo

/-! ### The end of a load (R145, R146) -/

theorem leNat_append (l m : List Byte) : leNat (l ++ m) = leNat l + 256 ^ l.length * leNat m := by
  induction l with
  | nil => simp [leNat]
  | cons b l ih =>
    simp only [List.cons_append, leNat, ih, List.length_cons, pow_succ]
    ring

theorem leNat_lt (l : List Byte) : leNat l < 256 ^ l.length := by
  induction l with
  | nil => simp [leNat]
  | cons b l ih =>
    have := b.isLt
    simp only [leNat, List.length_cons, pow_succ]
    omega

/-- Eight bytes as two words hold them. -/
theorem leNat_words {l : List Byte} (h : l.length = 8) :
    (BitVec.ofNat 32 (leNat (l.take 4))).toNat + (BitVec.ofNat 32 (leNat (l.drop 4))).toNat * 2 ^ 32 = leNat l := by
  have h1 : leNat (l.take 4) < 2 ^ 32 := by simpa [h] using leNat_lt (l.take 4)
  have h2 : leNat (l.drop 4) < 2 ^ 32 := by simpa [h] using leNat_lt (l.drop 4)
  have h3 : leNat l = leNat (l.take 4) + 2 ^ 32 * leNat (l.drop 4) := by
    simpa [h] using leNat_append (l.take 4) (l.drop 4)
  rw [BitVec.toNat_ofNat, BitVec.toNat_ofNat, Nat.mod_eq_of_lt h1, Nat.mod_eq_of_lt h2, h3, Nat.mul_comm]

/-- A record placed reads back as its two words. -/
theorem State.geoRecord_putRecord_same (s : State) (x : Nat) (lo hi : Word) :
    (s.putRecord x lo hi).geoRecord x = lo.toNat + hi.toNat * 2 ^ 32 := by
  have h : 0x800000 + 8 * x ≠ 0x800000 + 8 * x + 4 := by omega
  simp only [State.geoRecord, State.putRecord, State.rd_geoMend, State.rd_wr_same, State.rd_wr_other _ _ h]

/-- A record placed touches its own two words. -/
theorem State.putRecord_regsKept (s : State) (x : Nat) (lo hi : Word) :
    RegsKept [0x800000 + 8 * x, 0x800000 + 8 * x + 4] s (s.putRecord x lo hi) := by
  intro a ha
  simp only [List.mem_cons, List.not_mem_nil, or_false, not_or] at ha
  simp only [State.putRecord, State.rd_geoMend, State.rd_wr_other _ _ ha.1, State.rd_wr_other _ _ ha.2]

/-- What copying records changes: the geometry unit, the controllers' queues and counts, and the words of the window at
addresses from `a` to below `b`; no byte of DRAM. -/
def CopyKeeps (a b : Nat) (s t : State) : Prop :=
  t = { s with regs := t.regs, geo := t.geo, dram := t.dram, bus := t.bus } ∧ t.geo.hold = s.geo.hold ∧
    (∀ q : QuadId, (t.dr q).mem = (s.dr q).mem ∧ (t.dr q).u05 = (s.dr q).u05) ∧
    ∀ r, r < a ∨ b ≤ r ∨ r % 4 ≠ 0 → t.rd r = s.rd r

section CopyKeeps

variable {s t u : State} {a b : Nat} {q : QuadId}

theorem CopyKeeps.refl (a b : Nat) (s : State) : CopyKeeps a b s s := ⟨rfl, rfl, fun _ => ⟨rfl, rfl⟩, fun _ _ => rfl⟩

theorem CopyKeeps.trans (h : CopyKeeps a b s t) (h' : CopyKeeps a b t u) : CopyKeeps a b s u := by
  obtain ⟨h1, h2, h3, h4⟩ := h
  obtain ⟨h5, h6, h7, h8⟩ := h'
  refine ⟨?_, h6.trans h2, fun q => ⟨(h7 q).1.trans (h3 q).1, (h7 q).2.trans (h3 q).2⟩,
    fun r hr => (h8 r hr).trans (h4 r hr)⟩
  rw [h1] at h5
  exact h5

theorem CopyKeeps.mono {a' b' : Nat} (ha : a' ≤ a) (hb : b ≤ b') (h : CopyKeeps a b s t) : CopyKeeps a' b' s t :=
  ⟨h.1, h.2.1, h.2.2.1, fun r hr => h.2.2.2 r (by omega)⟩

theorem CopyKeeps.byte_eq (h : CopyKeeps a b s t) (q : QuadId) (x : Nat) : (t.dr q).byte x = (s.dr q).byte x := by
  simp [DramUnit.byte, (h.2.2.1 q).1]

theorem CopyKeeps.get_eq (h : CopyKeeps a b s t) {f : Fld} (hf : b ≤ f.addr) : t.get f = s.get f := by
  simp [State.get, h.2.2.2 f.addr (.inr (.inl hf))]

theorem CopyKeeps.geoRecord_eq (h : CopyKeeps a b s t) {x : Nat} (hx : 0x800000 + 8 * (x + 1) ≤ a) :
    t.geoRecord x = s.geoRecord x := by
  obtain ⟨-, -, -, hregs⟩ := h
  simp only [State.geoRecord, hregs (0x800000 + 8 * x) (.inl (by omega)), hregs (0x800000 + 8 * x + 4) (.inl (by omega))]

/-- The controllers' registers lie above the window. -/
theorem CopyKeeps.dramSize_eq (h : CopyKeeps a b s t) (hb : b ≤ 0xA00000) : t.dramSize q = s.dramSize q := by
  have : 0xA00000 ≤ A.DRAM_SIZE q := by simp only [A.DRAM_SIZE]; omega
  simp only [State.dramSize, h.get_eq (f := ⟨A.DRAM_SIZE q, 0, 17⟩) (hb.trans this)]

theorem CopyKeeps.readsClean (h : CopyKeeps a b s t) (hb : b ≤ 0xA00000) (hc : s.readsClean q) : t.readsClean q := by
  have : 0xA00000 ≤ A.DRAM_CFG q := by simp only [A.DRAM_CFG]; omega
  obtain ⟨h1, h2, h3⟩ := hc
  refine ⟨?_, ?_, (h.2.2.1 q).2.trans h3⟩
  · simpa only [State.inlineEcc, State.flag, h.get_eq (f := F.DRAM_CFG_INLINE_ECC q) (hb.trans this)] using h1
  · simpa only [State.flag, h.get_eq (f := F.DRAM_CFG_LINK_ECC q) (hb.trans this)] using h2

/-- The words that copying touches, as fields. -/
theorem CopyKeeps.bitsKept {n : Nat} (ha : a % 4 = 0) (h : CopyKeeps a (a + 4 * n) s t) :
    BitsKept ((List.range n).map fun j => whole (a + 4 * j)) s t := by
  intro r i hi hf
  rw [h.2.2.2 r]
  by_contra hr
  have := hf (whole (a + 4 * ((r - a) / 4))) (List.mem_map.mpr ⟨(r - a) / 4, by simp; omega, rfl⟩) (by simp [whole]; omega)
  simp only [whole] at this
  omega

end CopyKeeps

theorem ReadKeeps.copyKeeps {s t : State} (h : ReadKeeps s t) (a b : Nat) : CopyKeeps a b s t := by
  obtain ⟨h1, h2⟩ := h
  refine ⟨?_, by rw [h1], h2, fun r _ => by rw [h1]; rfl⟩
  rw [h1]

theorem State.putRecord_copyKeeps (s : State) (x : Nat) (lo hi : Word) :
    CopyKeeps (0x800000 + 8 * x) (0x800000 + 8 * (x + 1)) s (s.putRecord x lo hi) := by
  refine ⟨?_, ?_, ?_, fun r hr => s.putRecord_regsKept x lo hi r ?_⟩
  · simp only [State.putRecord, State.geoMend_eq]; rfl
  · simp only [State.putRecord, State.geoMend_eq]; rfl
  · intro q; simp only [State.putRecord, State.geoMend_eq]; exact ⟨rfl, rfl⟩
  · simp only [List.mem_cons, List.not_mem_nil, or_false]; omega

/-- `k` records copied from a quadrant that reads clean hold the bytes that stand there (R145). -/
theorem State.geoCopy_of_clean (k : Nat) {s : State} {g : GeoLoad} (hc : s.readsClean g.quad)
    (hr : g.first + g.placed + k ≤ 262144) (hsize : g.src + 8 * (g.placed + k) ≤ s.dramSize g.quad) :
    let t := (s.geoCopy g k).2
    CopyKeeps (0x800000 + 8 * (g.first + g.placed)) (0x800000 + 8 * (g.first + g.placed + k)) s t ∧
      ∀ i, g.placed ≤ i → i < g.placed + k → t.geoRecord (g.first + i) =
        leNat ((List.range 8).map fun j => (s.dr g.quad).byte (g.src + 8 * i + j)) := by
  induction k generalizing s g with
  | zero => exact ⟨.refl _ _ _, fun i h1 h2 => by omega⟩
  | succ k ih =>
    obtain ⟨hbytes, hread⟩ := State.readBytes_of_clean (a := g.src + 8 * g.placed) (len := 8) hc (by omega)
    generalize hb : s.readBytes g.quad (g.src + 8 * g.placed) 8 = res at hbytes hread
    obtain ⟨bytes, e, s1⟩ := res
    simp only at hbytes hread
    have k1 := (hread.copyKeeps _ _).trans (s1.putRecord_copyKeeps (g.first + g.placed)
      (BitVec.ofNat 32 (leNat (bytes.take 4))) (BitVec.ofNat 32 (leNat (bytes.drop 4))))
    have hrec := s1.geoRecord_putRecord_same (g.first + g.placed) (BitVec.ofNat 32 (leNat (bytes.take 4)))
      (BitVec.ofNat 32 (leNat (bytes.drop 4)))
    rw [leNat_words (by simp [hbytes])] at hrec
    simp only [State.geoCopy, hb]
    generalize s1.putRecord (g.first + g.placed) (BitVec.ofNat 32 (leNat (bytes.take 4)))
      (BitVec.ofNat 32 (leNat (bytes.drop 4))) = s2 at k1 hrec
    obtain ⟨h1, h2⟩ := ih (s := s2) (g := { g with placed := g.placed + 1 }) (k1.readsClean (by omega) hc) (by simp only; omega) (by
      rw [k1.dramSize_eq (by omega)]; simp only; omega)
    simp only at h1 h2
    refine ⟨(k1.mono (by omega) (by omega)).trans (h1.mono (by omega) (by omega)), fun i hi hlt => ?_⟩
    by_cases hfirst : i = g.placed
    · subst hfirst
      rw [h1.geoRecord_eq (by omega), hrec, hbytes]
    · rw [h2 i (by omega) (by omega)]
      simp only [k1.byte_eq]

/-- GEO_LOAD_DONE of a busy load with its DRAM served (R145). -/
theorem execGeoLoadDone_eq {s : State} {g : GeoLoad} (hl : s.geo.load = some g) (hb : s.flag F.GEO_STATUS_LOAD_BUSY = true)
    (hd : s.dramServes g.quad = true) : ∃ o, exec .geoLoadDone s =
      .next (State.clr { (s.geoCopy g (g.count - g.placed)).2 with
        geo := { (s.geoCopy g (g.count - g.placed)).2.geo with load := o } } F.GEO_STATUS_LOAD_BUSY).geoSettle :=
  ⟨_, by simp only [exec, execGeoLoadDone, hl, hb, hd, and_self, if_true]; rfl⟩

/-- Ending a load touches only its own status (R145, R146). -/
theorem State.geoEnd_geoChanges (s : State) (o : Option GeoLoad) :
    GeoChanges [F.GEO_STATUS_LOAD_BUSY, F.GEO_STATUS_LOAD_VALID, whole A.GEO_LOAD_FRAME] s
      (State.clr { s with geo := { s.geo with load := o } } F.GEO_STATUS_LOAD_BUSY).geoSettle :=
  ((s.load_geoChanges _ o).trans ((State.clr_geoChanges _ _).mono (by simp))).trans
    ((State.geoSettle_geoChanges _).mono (by simp))

end Sys2Proof.Machine

namespace Sys2Proof.Machine

/-- Settles O31: the window by the equations of its two words, GEO_LOAD by those of `geoGo`, and GEO_LOAD_DONE by an
induction over the records still to copy. -/
theorem geometryTables : Obligations.GeometryTables := by
  intro s m x v lo busy may discarded
  have hreach (hmay : may = true) (a : Nat) (h1 : 0x800000 ≤ a) (h2 : a < 0xA00000) (h4 : a % 4 = 0) :
      s.reach m a true = .regs [a] := by
    simp only [may, Bool.and_eq_true, Bool.not_eq_true'] at hmay
    obtain ⟨hh, hm⟩ := hmay
    refine s.reach_window_open h1 h2 h4 ?_ hh ?_
    · rintro n rfl; simp at hm
    · cases m
      case board => exact hm
      all_goals rfl
  refine ⟨?_, ?_, ?_, ?_, ?_⟩
  · intro hmay
    have hclosed (a : Nat) (h1 : 0x800000 ≤ a) (h2 : a < 0xA00000) (h4 : a % 4 = 0) : s.writeAt m a v = s := by
      refine State.writeAt_outside (s.reach_window_closed m h1 h2 h4 ?_)
      simp only [may, Bool.and_eq_false_iff, Bool.not_eq_false'] at hmay
      cases m <;> simp_all
    exact ⟨congrArg _ (hclosed _ (by omega) (by omega) (by omega)), congrArg _ (hclosed _ (by omega) (by omega) (by omega))⟩
  · intro hmay hu
    obtain ⟨b, hb⟩ := State.writeAt_window (v := v) x.isLt false (hreach hmay) hu
    refine ⟨_, congrArg Host.Outcome.next hb, fun hbusy => ?_, fun hidle => ?_⟩
    · simp only [Bool.false_eq_true, if_false, State.geoLow_eq, show s.flag F.GEO_STATUS_LOAD_BUSY = true from hbusy, if_true]
      exact s.geoStale_noteWrites b
    · simp only [Bool.false_eq_true, if_false, State.geoLow_eq, show s.flag F.GEO_STATUS_LOAD_BUSY = false from hidle]
      exact ⟨rfl, rfl, rfl, hold_set_same _ _ _, fun j hj => hold_set_other _ hj⟩
  · intro hmay hu
    obtain ⟨b, hb⟩ := State.writeAt_window (v := v) x.isLt true (hreach hmay) hu
    refine ⟨_, congrArg Host.Outcome.next hb, fun hbusy => ?_, fun hidle => ?_⟩
    · simp only [if_true, State.geoHigh_busy hbusy]
      exact s.geoStale_noteWrites b
    · have hb' : s.flag F.GEO_STATUS_LOAD_BUSY = false := hidle
      simp only [if_true]
      by_cases hheld : ∃ w, s.geo.hold[holdOf m] = some (x.val, w)
      · obtain ⟨w, hw⟩ := hheld
        rw [State.geoHigh_held hb' hw]
        refine ⟨rfl, rfl, rfl, State.rd_wr_same _ _ _, fun j hj => hold_set_other _ hj, fun w' hw' => ⟨?_, ?_, ?_⟩, fun hno =>
          absurd hw (hno w)⟩
        · intro a ha
          simp only [List.mem_cons, List.not_mem_nil, or_false, not_or] at ha
          exact (State.rd_wr_other _ _ ha.2).trans (State.rd_wr_other _ _ ha.1)
        · obtain rfl : w = w' := by simpa [hw] using hw'
          exact (State.rd_wr_other _ _ (by omega)).trans (State.rd_wr_same _ _ _)
        · exact hold_set_same _ _ _
      · have hno : ∀ w, s.geo.hold[holdOf m] ≠ some (x.val, w) := fun w hw => hheld ⟨w, hw⟩
        rw [State.geoHigh_other hb' hno]
        exact ⟨rfl, rfl, rfl, State.rd_wr_same _ _ _, fun _ _ => rfl, fun w hw => absurd hw (hno w), fun _ =>
          ⟨fun a ha => State.rd_wr_other _ _ (by simpa using ha), rfl⟩⟩
  · intro hidle hv
    have hb : s.flag F.GEO_STATUS_LOAD_BUSY = false := hidle
    obtain ⟨hframe, hhold, hbits⟩ := State.geoGo_geoChanges (s := s) hv
    refine ⟨s.geoGo v, by simp only [exec, execGeoLoad, hb, Bool.false_eq_true, if_false], hframe, hhold, hbits,
      State.geoGo_beyond hb hv, fun hr hc => ?_, State.geoGo_empty hb hv⟩
    obtain ⟨h1, h2, h3, h4⟩ := State.geoGo_begins hv hr hc
    have hquad : s.get F.GEO_LOAD_CFG_QUAD < 4 := field_lt _ _ _
    exact ⟨h1, h2, h3, s.geoAsked, h4, rfl, Nat.mod_eq_of_lt hquad, rfl, rfl, rfl⟩
  · intro g hl hb hd hecc hlink hu hfirst hplaced hsrc
    obtain ⟨o, hexec⟩ := execGeoLoadDone_eq hl hb hd
    obtain ⟨hk, hrec⟩ := State.geoCopy_of_clean (s := s) (g := g) (g.count - g.placed) ⟨hecc, hlink, hu⟩ (by omega) (by
      rw [Nat.add_sub_cancel' hplaced]; exact hsrc)
    refine ⟨_, hexec, ?_⟩
    generalize (s.geoCopy g (g.count - g.placed)).2 = u at hk hrec
    have hend := u.geoEnd_geoChanges o
    have hbusy : State.flag (State.clr { u with geo := { u.geo with load := o } } F.GEO_STATUS_LOAD_BUSY).geoSettle
        F.GEO_STATUS_LOAD_BUSY = false := by
      rw [(State.geoSettle_geoChanges _).2.2.flag_eq (by decide) (by decide), State.flag, State.get_clr _ (by decide)]
      rfl
    generalize (State.clr { u with geo := { u.geo with load := o } } F.GEO_STATUS_LOAD_BUSY).geoSettle = t at hend hbusy
    have hbits := hk
    obtain ⟨h1, h2, h3, -⟩ := hk
    obtain ⟨h4, h5, h6⟩ := hend
    have hdram : t.dram = u.dram := by rw [h4]
    refine ⟨hbusy, ?_, h5.trans h2, fun n => ?_, fun i hi hlt => ?_, ?_⟩
    · rw [h1] at h4
      rw [h4]
    · simpa only [State.dr, hdram] using (h3 n).1
    · have below : ∀ f ∈ [F.GEO_STATUS_LOAD_BUSY, F.GEO_STATUS_LOAD_VALID, whole A.GEO_LOAD_FRAME], f.addr < 0x800000 := by
        decide
      have hwindow (r : Nat) (hr : 0x800000 ≤ r) : t.rd r = u.rd r := h6.rd_eq fun f hf => by
        have := below f hf
        omega
      rw [← hrec i hi (by omega), State.geoRecord, State.geoRecord, hwindow _ (by omega), hwindow _ (by omega)]
    · rw [show 0x800000 + 8 * (g.first + g.placed + (g.count - g.placed)) =
        0x800000 + 8 * (g.first + g.placed) + 4 * (2 * (g.count - g.placed)) by omega] at hbits
      exact ((hbits.bitsKept (by omega)).mono (List.subset_append_right _ _)).trans (h6.mono (List.subset_append_left _ _))

end Sys2Proof.Machine

namespace Sys2Proof.Machine

/-! ### What operations on a flow context change (R158 to R161) -/

/-- What handling a flow context changes of the state: registers, of those only bits of the fields `l`, and of the ingress unit
the held packets, the gap timers, the inflaters and the kinds of encoding that the flows have carried. -/
def FlowChanges (l : List Fld) (s t : State) : Prop :=
  t = { s with regs := t.regs, ing := t.ing, bus := t.bus } ∧
    t.ing = { s.ing with held := t.ing.held, gaps := t.ing.gaps, infl := t.ing.infl, kinds := t.ing.kinds } ∧ BitsKept l s t

section FlowChanges

variable {s t u : State} {l m : List Fld}

theorem FlowChanges.refl (l : List Fld) (s : State) : FlowChanges l s s := ⟨rfl, rfl, .refl l s⟩

theorem FlowChanges.trans (h : FlowChanges l s t) (h' : FlowChanges l t u) : FlowChanges l s u := by
  obtain ⟨h1, h2, h3⟩ := h
  obtain ⟨h4, h5, h6⟩ := h'
  refine ⟨?_, ?_, h3.trans h6⟩
  · rw [h1] at h4; exact h4
  · rw [h2] at h5; exact h5

theorem FlowChanges.mono (hs : l ⊆ m) (h : FlowChanges l s t) : FlowChanges m s t := ⟨h.1, h.2.1, h.2.2.mono hs⟩

theorem State.put_flowChanges (s : State) (f : Fld) (v : Nat) : FlowChanges [f] s (s.put f v) := ⟨rfl, rfl, s.put_bitsKept f v⟩

theorem State.set_flowChanges (s : State) (f : Fld) : FlowChanges [f] s (s.set f) := ⟨rfl, rfl, s.set_bitsKept f⟩

theorem State.dropHeld_flowChanges (s : State) (f : Nat) : FlowChanges [F.FLOW_W0_HELD f] s (s.dropHeld f) :=
  ⟨rfl, rfl, (BitsKept.of_regs rfl).trans (State.put_bitsKept _ _ _)⟩

theorem State.emptyHistory_flowChanges (s : State) (f : Nat) : FlowChanges [F.FLOW_HIST_LEN_LEN f] s (s.emptyHistory f) :=
  ⟨rfl, rfl, (s.put_bitsKept _ _).trans (.of_regs rfl)⟩

theorem State.clearKinds_flowChanges (s : State) (f : Nat) : FlowChanges [] s (s.clearKinds f) := ⟨rfl, rfl, .of_regs rfl⟩

theorem State.noteWrites_flowChanges (s : State) (b : BusAccess) : FlowChanges [] s (s.noteWrites [b]) := ⟨rfl, rfl, .of_regs rfl⟩

end FlowChanges

@[simp] theorem State.heldOf_put (s : State) (f : Fld) (v i : Nat) : (s.put f v).heldOf i = s.heldOf i := rfl

@[simp] theorem State.heldOf_setFlowState (s : State) (f v i : Nat) : (s.setFlowState f v).heldOf i = s.heldOf i := rfl

@[simp] theorem State.heldOf_emptyHistory (s : State) (f i : Nat) : (s.emptyHistory f).heldOf i = s.heldOf i := rfl

@[simp] theorem State.heldOf_clearKinds (s : State) (f i : Nat) : (s.clearKinds f).heldOf i = s.heldOf i := rfl

@[simp] theorem State.get_clearKinds (s : State) (f : Nat) (g : Fld) : (s.clearKinds f).get g = s.get g := rfl

/-- A flow whose held packets are discarded holds none. -/
@[simp] theorem State.heldOf_dropHeld (s : State) (f : Nat) : (s.dropHeld f).heldOf f = [] := by
  simp [State.dropHeld, State.stopGap, State.countHeld, State.heldOf, List.filter_filter]

@[simp] theorem State.flowState_setFlowState (s : State) (f v : Nat) : (s.setFlowState f v).flowState f = v % 4 :=
  s.get_put_same v (by simp)

/-- A history emptied has no length. -/
@[simp] theorem State.histLen_emptyHistory (s : State) (f : Nat) : (s.emptyHistory f).get (F.FLOW_HIST_LEN_LEN f) = 0 :=
  s.get_put_same 0 (by simp)

/-! ### Writes of word 0 (R158, R515) -/

/-- Word 0 of a flow context is a word of it. -/
theorem writeTo_flow {f : Nat} (h : f < 65536) : writeTo (0x600000 + 32 * f) = .flow f 0 := by
  have h1 : ¬ 0x1000000 ≤ 0x600000 + 32 * f := by omega
  have h2 : ¬ (0x800000 ≤ 0x600000 + 32 * f ∧ 0x600000 + 32 * f < 0xa00000) := by omega
  have h3 : 0x600000 ≤ 0x600000 + 32 * f ∧ 0x600000 + 32 * f < 0x800000 := by omega
  have h4 : (0x600000 + 32 * f) % 32 / 4 = 0 := by omega
  have h5 : flowAt (0x600000 + 32 * f) = f := by simp only [flowAt]; omega
  simp only [writeTo, h1, h2, h3, and_self, if_false, if_true, h4, h5]

/-- A write of word 0 of a flow context that reaches it, unopposed. -/
theorem State.writeAt_flow {s : State} {m : Master} {f : Nat} {v : Word} (hf : f < 65536)
    (hr : s.reach m (0x600000 + 32 * f) true = .regs [0x600000 + 32 * f])
    (hu : Unopposed m (0x600000 + 32 * f) (0x600000 + 32 * f) s) :
    ∃ b, s.writeAt m (0x600000 + 32 * f) v =
      (s.writeFlow m f v (s.locked m .flow (0x600000 + 32 * f))).noteWrites [b] := by
  have hpwr : 0x600000 + 32 * f ≠ A.PWR_CTRL ∧ 0x600000 + 32 * f ≠ A.PWR_PNL := by
    simp only [A.PWR_CTRL, A.PWR_PNL]; omega
  obtain ⟨b, hb⟩ := State.writeAt_unopposed (v := v) hr hu
  refine ⟨b, hb.trans ?_⟩
  simp only [State.writeReg, hpwr, if_false, State.writeCore, writeTo_flow hf, State.writeKind, if_true]

/-- The configuration of a flow as a write of word 0 of a DISABLED one leaves it. -/
def State.flowConfigured (s : State) (f : Nat) (v : Word) : State :=
  ((s.put (F.FLOW_W0_MODE f) (field v 4 1)).put (F.FLOW_W0_KIND f) (field v 5 2)).put (F.FLOW_W0_SESSION f) (field v 8 8)

theorem State.flowConfigured_flowChanges (s : State) (f : Nat) (v : Word) :
    FlowChanges [F.FLOW_W0_MODE f, F.FLOW_W0_KIND f, F.FLOW_W0_SESSION f] s (s.flowConfigured f v) :=
  (((s.put_flowChanges _ _).mono (by simp)).trans ((State.put_flowChanges _ _ _).mono (by simp))).trans
    ((State.put_flowChanges _ _ _).mono (by simp))

/-- A one-bit field of a word is set where its bit is. -/
theorem field_one_beq (v : Word) (i : Nat) : (field v i 1 == 1) = v.getLsbD i := by
  rw [BitVec.getLsbD, Nat.testBit_eq_decide_div_mod_eq]
  rfl

theorem State.flowConfigured_flowStreams (s : State) (f : Nat) (v : Word) :
    (s.flowConfigured f v).flowStreams f = v.getLsbD 4 := by
  have h : (s.flowConfigured f v).get (F.FLOW_W0_MODE f) = field v 4 1 := by
    rw [State.flowConfigured, State.get_put_field _ _ (by simp) (by simp), State.get_put_field _ _ (by simp) (by simp),
      State.get_put_same _ _ (by simp)]
    exact Nat.mod_eq_of_lt (field_lt _ _ _)
  simp only [State.flowStreams, State.flag, h, field_one_beq]

theorem State.flowConfigured_kind (s : State) (f : Nat) (v : Word) :
    (s.flowConfigured f v).get (F.FLOW_W0_KIND f) = field v 5 2 := by
  rw [State.flowConfigured, State.get_put_field _ _ (by simp) (by simp), State.get_put_same _ _ (by simp)]
  exact Nat.mod_eq_of_lt (field_lt _ _ _)

theorem State.flowConfigured_session (s : State) (f : Nat) (v : Word) :
    (s.flowConfigured f v).get (F.FLOW_W0_SESSION f) = field v 8 8 := by
  rw [State.flowConfigured, State.get_put_same _ _ (by simp)]
  exact Nat.mod_eq_of_lt (field_lt _ _ _)

/-- A write of word 0 of a DISABLED flow (R158). -/
theorem State.writeFlow_closed {s : State} {m : Master} {f : Nat} {v : Word} (hm : f ≠ 0xFFFF ∨ m = .rot)
    (hst : s.flowState f = 0) : s.writeFlow m f v false =
      if field v 0 2 = 1 then
        if v.getLsbD 4 = true ∧ 4096 ≤ f then (s.flowConfigured f v).set F.RKN_STATUS_CFG_BAD
        else ((s.flowConfigured f v).clearKinds f).setFlowState f 1
      else s.flowConfigured f v := by
  have hguard : ¬ (f = 0xFFFF ∧ m ≠ .rot) := by tauto
  have hs := s.flowConfigured_flowStreams f v
  unfold State.flowConfigured at hs ⊢
  simp only [State.writeFlow, hguard, if_false, hst, Bool.not_false, if_true, hs]
  have h4 : field v 0 2 < 4 := field_lt _ _ _
  split <;> simp_all

/-- A write of word 0 of an open flow (R158, R515). -/
theorem State.writeFlow_open {s : State} {m : Master} {f : Nat} {v : Word} (hm : f ≠ 0xFFFF ∨ m = .rot)
    (hst : s.flowState f ≠ 0) : s.writeFlow m f v true =
      if field v 0 2 = 0 then ((s.set F.RKN_STATUS_STALE_WRITE).dropHeld f).setFlowState f 0
      else if field v 0 2 = 1 ∧ s.flowState f ≠ 1 then
        ((((s.set F.RKN_STATUS_STALE_WRITE).dropHeld f).emptyHistory f).clearKinds f).setFlowState f 1
      else s.set F.RKN_STATUS_STALE_WRITE := by
  have hguard : ¬ (f = 0xFFFF ∧ m ≠ .rot) := by tauto
  simp only [State.writeFlow, hguard, if_false, hst, Bool.not_true, Bool.false_eq_true]
  split <;> simp_all

/-- The bits that a write of word 0 of flow `f`'s context can change. -/
def flowWordFields (f : Nat) : List Fld :=
  [F.FLOW_W0_STATE f, F.FLOW_W0_MODE f, F.FLOW_W0_KIND f, F.FLOW_W0_SESSION f, F.FLOW_W0_HELD f,
    F.FLOW_HIST_LEN_LEN f, F.RKN_STATUS_STALE_WRITE, F.RKN_STATUS_CFG_BAD]

/-- A write of word 0 of a flow context, locked or not, touches only its own bits. -/
theorem State.writeFlow_flowChanges (s : State) (m : Master) (f : Nat) (v : Word) (locked : Bool) :
    FlowChanges (flowWordFields f) s (s.writeFlow m f v locked) := by
  have state (u : State) (n : Nat) : FlowChanges (flowWordFields f) u (u.setFlowState f n) :=
    (u.put_flowChanges _ _).mono (by simp [flowWordFields])
  have dropped (u : State) : FlowChanges (flowWordFields f) u (u.dropHeld f) :=
    (u.dropHeld_flowChanges f).mono (by simp [flowWordFields])
  have emptied (u : State) : FlowChanges (flowWordFields f) u (u.emptyHistory f) :=
    (u.emptyHistory_flowChanges f).mono (by simp [flowWordFields])
  have cleared (u : State) : FlowChanges (flowWordFields f) u (u.clearKinds f) :=
    (u.clearKinds_flowChanges f).mono (by simp)
  have stale : FlowChanges (flowWordFields f) s (s.set F.RKN_STATUS_STALE_WRITE) :=
    (s.set_flowChanges _).mono (by simp [flowWordFields])
  have begun : FlowChanges (flowWordFields f) s
      (if !locked then s.flowConfigured f v else s.set F.RKN_STATUS_STALE_WRITE) := by
    split
    · exact (s.flowConfigured_flowChanges f v).mono (by simp [flowWordFields])
    · exact stale
  unfold State.flowConfigured at begun
  unfold State.writeFlow
  split
  · exact stale
  · simp only
    generalize (if (!locked) = true then _ else _) = u at begun
    split
    · split
      · exact begun
      · exact begun.trans ((dropped _).trans (state _ 0))
    · split
      · split
        · exact begun.trans ((State.set_flowChanges _ _).mono (by simp [flowWordFields]))
        · exact begun.trans ((cleared _).trans (state _ 1))
      · split
        · exact begun
        · exact begun.trans ((dropped _).trans ((emptied _).trans ((cleared _).trans (state _ 1))))
    · exact begun

section WriteFlow

variable {s : State} {m : Master} {f : Nat} {v : Word} (hm : f ≠ 0xFFFF ∨ m = .rot)
include hm

/-- What a write of word 0 makes of a DISABLED flow (R158). -/
theorem State.writeFlow_closed_reads (hst : s.flowState f = 0) :
    let t := s.writeFlow m f v false
    t.flowStreams f = v.getLsbD 4 ∧ t.get (F.FLOW_W0_KIND f) = field v 5 2 ∧
      t.get (F.FLOW_W0_SESSION f) = field v 8 8 ∧ t.get (F.FLOW_HIST_LEN_LEN f) = s.get (F.FLOW_HIST_LEN_LEN f) ∧
      (field v 0 2 = 1 → v.getLsbD 4 = true → 4096 ≤ f → t.flowState f = 0 ∧ t.flag F.RKN_STATUS_CFG_BAD = true) ∧
      (field v 0 2 = 1 → v.getLsbD 4 = false ∨ f < 4096 → t.flowState f = 1) ∧
      (field v 0 2 ≠ 1 → t.flowState f = 0) := by
  have kept : FlowChanges [F.FLOW_W0_STATE f, F.RKN_STATUS_CFG_BAD] (s.flowConfigured f v) (s.writeFlow m f v false) := by
    rw [State.writeFlow_closed hm hst]
    split
    · split
      · exact (State.set_flowChanges _ _).mono (by simp)
      · exact ((State.clearKinds_flowChanges _ f).mono (by simp)).trans ((State.put_flowChanges _ _ 1).mono (by simp))
    · exact .refl _ _
  have hstate : (s.flowConfigured f v).flowState f = 0 :=
    ((s.flowConfigured_flowChanges f v).2.2.get_eq (by simp) (by simp)).trans hst
  have hstatus : A.RKN_STATUS ≠ A.FLOW_W0 f := by simp only [A.RKN_STATUS, A.FLOW_W0]; omega
  have hlen : A.RKN_STATUS ≠ A.FLOW_HIST_LEN f ∧ A.FLOW_W0 f ≠ A.FLOW_HIST_LEN f := by
    simp only [A.RKN_STATUS, A.FLOW_W0, A.FLOW_HIST_LEN]; omega
  obtain ⟨-, -, hkept⟩ := kept
  refine ⟨?_, ?_, ?_, ?_, fun hv hs hf => ?_, fun hv hs => ?_, fun hv => ?_⟩
  · rw [← s.flowConfigured_flowStreams f v]
    exact hkept.flag_eq (by simp) (by simp [hstatus])
  · rw [hkept.get_eq (by simp) (by simp [hstatus]), s.flowConfigured_kind]
  · rw [hkept.get_eq (by simp) (by simp [hstatus]), s.flowConfigured_session]
  · rw [hkept.get_eq (by simp) (by simp [hlen]), (s.flowConfigured_flowChanges f v).2.2.get_eq (by simp) (by simp)]
  · rw [State.writeFlow_closed hm hst, if_pos hv, if_pos ⟨hs, hf⟩]
    exact ⟨((State.set_bitsKept _ _).get_eq (by simp) (by simp [hstatus])).trans hstate, State.flag_set _ (by simp) (by simp)⟩
  · have : ¬ (v.getLsbD 4 = true ∧ 4096 ≤ f) := by
      rintro ⟨h1, h2⟩
      rcases hs with h | h
      · exact absurd (h.symm.trans h1) (by decide)
      · omega
    rw [State.writeFlow_closed hm hst, if_pos hv, if_neg this, State.flowState_setFlowState]
  · rw [State.writeFlow_closed hm hst, if_neg hv, hstate]

/-- What a write of word 0 makes of an open flow (R158, R515). -/
theorem State.writeFlow_open_reads (hst : s.flowState f ≠ 0) :
    let t := s.writeFlow m f v true
    t.flowStreams f = s.flowStreams f ∧ t.get (F.FLOW_W0_KIND f) = s.get (F.FLOW_W0_KIND f) ∧
      t.get (F.FLOW_W0_SESSION f) = s.get (F.FLOW_W0_SESSION f) ∧ t.flag F.RKN_STATUS_STALE_WRITE = true ∧
      (field v 0 2 = 0 → t.flowState f = 0 ∧ t.heldOf f = [] ∧
        t.get (F.FLOW_HIST_LEN_LEN f) = s.get (F.FLOW_HIST_LEN_LEN f)) ∧
      (field v 0 2 = 1 → s.flowState f = 1 → t.flowState f = 1 ∧ t.ing = s.ing) ∧
      (field v 0 2 = 1 → s.flowState f ≠ 1 → t.flowState f = 1 ∧ t.heldOf f = [] ∧ t.get (F.FLOW_HIST_LEN_LEN f) = 0) ∧
      (2 ≤ field v 0 2 → t.flowState f = s.flowState f ∧ t.ing = s.ing) := by
  have hcases := State.writeFlow_open (v := v) hm hst
  have hstale : (s.set F.RKN_STATUS_STALE_WRITE).flag F.RKN_STATUS_STALE_WRITE = true := s.flag_set (by simp) (by simp)
  have hset : FlowChanges [F.RKN_STATUS_STALE_WRITE] s (s.set F.RKN_STATUS_STALE_WRITE) := s.set_flowChanges _
  have hing : (s.set F.RKN_STATUS_STALE_WRITE).ing = s.ing := rfl
  generalize s.set F.RKN_STATUS_STALE_WRITE = u at hcases hstale hset hing
  have hdrop : FlowChanges [F.FLOW_W0_HELD f, F.FLOW_W0_STATE f] u ((u.dropHeld f).setFlowState f 0) :=
    ((u.dropHeld_flowChanges f).mono (by simp)).trans ((State.put_flowChanges _ _ 0).mono (by simp))
  have kept : FlowChanges [F.FLOW_W0_HELD f, F.FLOW_W0_STATE f, F.FLOW_HIST_LEN_LEN f] u (s.writeFlow m f v true) := by
    rw [hcases]
    split
    · exact hdrop.mono (by simp)
    · split
      · exact (((u.dropHeld_flowChanges f).mono (by simp)).trans ((State.emptyHistory_flowChanges _ f).mono (by simp))).trans
          (((State.clearKinds_flowChanges _ f).mono (by simp)).trans ((State.put_flowChanges _ _ 1).mono (by simp)))
      · exact .refl _ _
  have hstatus : A.RKN_STATUS ≠ A.FLOW_W0 f := by simp only [A.RKN_STATUS, A.FLOW_W0]; omega
  have hlen : A.RKN_STATUS ≠ A.FLOW_HIST_LEN f ∧ A.FLOW_HIST_LEN f ≠ A.FLOW_W0 f := by
    simp only [A.RKN_STATUS, A.FLOW_W0, A.FLOW_HIST_LEN]; omega
  obtain ⟨-, -, hkept⟩ := kept
  obtain ⟨-, -, hs⟩ := hset
  refine ⟨?_, ?_, ?_, ?_, fun hv => ?_, fun hv h1 => ?_, fun hv h1 => ?_, fun hv => ?_⟩
  · exact (hkept.flag_eq (by simp) (by simp)).trans (hs.flag_eq (by simp) (by simp [hstatus]))
  · exact (hkept.get_eq (by simp) (by simp)).trans (hs.get_eq (by simp) (by simp [hstatus]))
  · exact (hkept.get_eq (by simp) (by simp)).trans (hs.get_eq (by simp) (by simp [hstatus]))
  · exact (hkept.flag_eq (by simp) (by simp [hstatus.symm, hlen.1.symm])).trans hstale
  · rw [hcases, if_pos hv]
    exact ⟨by rw [State.flowState_setFlowState], by rw [State.heldOf_setFlowState, State.heldOf_dropHeld],
      (hdrop.2.2.get_eq (by simp) (by simp)).trans (hs.get_eq (by simp) (by simp [hlen]))⟩
  · rw [hcases, if_neg (by omega), if_neg (by simp [h1])]
    exact ⟨(hs.get_eq (by simp) (by simp [hstatus])).trans h1, hing⟩
  · rw [hcases, if_neg (by omega), if_pos ⟨hv, h1⟩]
    refine ⟨by rw [State.flowState_setFlowState], ?_, ?_⟩
    · rw [State.heldOf_setFlowState, State.heldOf_clearKinds, State.heldOf_emptyHistory, State.heldOf_dropHeld]
    · rw [State.setFlowState, State.get_put_addr _ 1 hlen.2, State.get_clearKinds, State.histLen_emptyHistory]
  · rw [hcases, if_neg (by omega), if_neg (by omega)]
    exact ⟨hs.get_eq (by simp) (by simp [hstatus]), hing⟩

end WriteFlow

end Sys2Proof.Machine

namespace Sys2Proof.Machine

/-! ### Writes of an arena's base (R158, R159) -/

/-- Every word of a flow context is 0 after reset. -/
theorem resetWord_flow {a : Nat} (h1 : 0x600000 ≤ a) (h2 : a < 0x800000) : resetWord a = 0 := by
  have zero : ∀ r ∈ regRows22, r.reset = 0 := by decide
  have part : regPart a = regRows22 := by
    have b1 : ¬ a < 0x100008 := by omega
    have b2 : a < 0x1009008 := by omega
    have b3 : ¬ a < 0x130020 := by omega
    have b4 : a < 0x1005008 := by omega
    have b5 : ¬ a < 0x600000 := by omega
    simp only [regPart, b1, b2, b3, b4, b5, if_true, if_false]
  have hlt : a < 0x1000000 := by omega
  unfold resetWord regRow
  rw [if_pos hlt, part]
  split
  · next r hr => rw [zero r (List.mem_of_find?_eq_some hr)]; rfl
  · rfl

theorem forAll_cons {α : Type} (x : α) (l : List α) (s : State) (f : State → α → State) :
    forAll (x :: l) s f = forAll l (f s x) f := rfl

/-- A length of a history stays 0 as others are emptied, and each flow's own is 0 once it is. -/
theorem histLen_forAll_emptyHistory (l : List Nat) (s : State) (i : Nat) (h : i ∈ l ∨ s.get (F.FLOW_HIST_LEN_LEN i) = 0) :
    (forAll l s fun s f => s.emptyHistory f).get (F.FLOW_HIST_LEN_LEN i) = 0 := by
  induction l generalizing s with
  | nil => exact h.resolve_left (by simp)
  | cons x l ih =>
    rw [forAll_cons]
    refine ih _ ?_
    by_cases hx : i = x
    · subst hx
      exact .inr (s.histLen_emptyHistory i)
    · obtain h | h := h
      · exact .inl ((List.mem_cons.mp h).resolve_left hx)
      · have : (F.FLOW_HIST_LEN_LEN i).addr ≠ (F.FLOW_HIST_LEN_LEN x).addr := by simp only [A.FLOW_HIST_LEN]; omega
        exact .inr ((s.get_put_addr 0 this).trans h)

/-- A flow whose window lies in quadrant `n` and that is not among those with history has none. -/
theorem State.histLen_of_not_arena {s : State} {n : QuadId} {i : Nat} (hi : i < 4096) (hn : i % 4 = n.val)
    (h : i ∉ s.arenaFlows n) : s.get (F.FLOW_HIST_LEN_LEN i) = 0 := by
  have hno : ∀ e ∈ s.regs, e.1 ≠ A.FLOW_HIST_LEN i := by
    intro e he hk
    apply h
    simp only [State.arenaFlows, List.mem_map, List.mem_filter, Bool.and_eq_true, decide_eq_true_eq, beq_iff_eq]
    simp only [A.FLOW_HIST_LEN] at hk
    exact ⟨e, ⟨he, by omega⟩, by omega⟩
  have hrd : s.rd (A.FLOW_HIST_LEN i) = 0 := by
    rw [State.rd, sparseGet_of_not_mem _ _ hno]
    exact resetWord_flow (by simp only [A.FLOW_HIST_LEN]; omega) (by simp only [A.FLOW_HIST_LEN]; omega)
  simp [State.get, hrd, field]

/-- The flows with history of quadrant `n` are among its own. -/
theorem State.arenaFlows_mem {s : State} {n : QuadId} {i : Nat} (h : i ∈ s.arenaFlows n) :
    ∃ j < 1024, i = 4 * j + n.val := by
  simp only [State.arenaFlows, List.mem_map, List.mem_filter, Bool.and_eq_true, decide_eq_true_eq, beq_iff_eq] at h
  obtain ⟨e, he, rfl⟩ := h
  exact ⟨(e.1 - 0x600000) / 32 / 4, by omega, by omega⟩

theorem forAll_flowChanges {α : Type} {l : List Fld} {f : State → α → State} (items : List α)
    (h : ∀ s, ∀ x ∈ items, FlowChanges l s (f s x)) (s : State) : FlowChanges l s (forAll items s f) := by
  induction items generalizing s with
  | nil => exact .refl _ _
  | cons x xs ih => exact (h s x (by simp)).trans (ih (fun s y hy => h s y (by simp [hy])) _)

/-- The bits that an unlocked write of an arena's base can change. -/
def arenaFields (n : QuadId) : List Fld :=
  F.RKN_ARENA_BASE_BASE n :: (List.range 1024).map fun i => F.FLOW_HIST_LEN_LEN (4 * i + n.val)

/-- An arena's base written while no streaming flow is open. -/
theorem State.writeArena_open (s : State) (n : QuadId) (v : Word) :
    FlowChanges (arenaFields n) s (s.writeArena n v false) ∧
      (s.writeArena n v false).get (F.RKN_ARENA_BASE_BASE n) = field v 15 17 ∧
      ∀ i, i < 4096 → i % 4 = n.val → (s.writeArena n v false).get (F.FLOW_HIST_LEN_LEN i) = 0 := by
  have away (i : Nat) : (F.FLOW_HIST_LEN_LEN i).addr ≠ (F.RKN_ARENA_BASE_BASE n).addr := by
    simp only [A.FLOW_HIST_LEN, A.RKN_ARENA_BASE]; omega
  simp only [State.writeArena, Bool.false_eq_true, if_false]
  have hput : FlowChanges [F.RKN_ARENA_BASE_BASE n] s (s.put (F.RKN_ARENA_BASE_BASE n) (field v 15 17)) := s.put_flowChanges _ _
  have hbase : (s.put (F.RKN_ARENA_BASE_BASE n) (field v 15 17)).get (F.RKN_ARENA_BASE_BASE n) = field v 15 17 := by
    rw [s.get_put_same _ (by simp)]
    exact Nat.mod_eq_of_lt (field_lt _ _ _)
  have hlen (i : Nat) := s.get_put_addr (field v 15 17) (away i)
  generalize s.put (F.RKN_ARENA_BASE_BASE n) (field v 15 17) = u at hput hbase hlen
  have hempty := forAll_flowChanges (l := (List.range 1024).map fun i => F.FLOW_HIST_LEN_LEN (4 * i + n.val)) (s.arenaFlows n)
    (f := fun s f => s.emptyHistory f) (fun t i hi => (t.emptyHistory_flowChanges i).mono (by
      obtain ⟨j, hj, rfl⟩ := State.arenaFlows_mem hi
      exact List.cons_subset.mpr ⟨List.mem_map.mpr ⟨j, List.mem_range.mpr hj, rfl⟩, List.nil_subset _⟩)) u
  refine ⟨(hput.mono (by simp [arenaFields])).trans (hempty.mono (List.subset_cons_self _ _)), ?_, fun i hi hn => ?_⟩
  · rw [← hbase]
    refine hempty.2.2.get_eq (by simp) fun f hf e => ?_
    obtain ⟨j, -, rfl⟩ := List.mem_map.mp hf
    exact absurd e (away _)
  · refine histLen_forAll_emptyHistory _ _ _ ?_
    by_cases h : i ∈ s.arenaFlows n
    · exact .inl h
    · exact .inr ((hlen i).trans (State.histLen_of_not_arena hi hn h))

/-- An arena's base written while a streaming flow is open, or was (R158, R516). -/
theorem State.writeArena_locked (s : State) (n : QuadId) (v : Word) : s.writeArena n v true = s.set F.RKN_STATUS_STALE_WRITE := rfl

end Sys2Proof.Machine

namespace Sys2Proof.Machine

/-! ### Sequence numbers and held packets (R160, R161) -/

/-- NEXT_SEQ reads back as it was written, modulo 2^48. -/
theorem State.nextSeq_setNextSeq (s : State) (f k : Nat) : (s.setNextSeq f k).nextSeq f = k % 2 ^ 48 := by
  have hne : A.FLOW_NEXT_SEQ_LO f ≠ A.FLOW_NEXT_SEQ_HI f := by simp only [A.FLOW_NEXT_SEQ_LO, A.FLOW_NEXT_SEQ_HI]; omega
  rw [State.nextSeq, State.setNextSeq, State.rd_put_other _ _ hne, State.rd_wr_same, State.get_put_same _ _ (by simp),
    BitVec.toNat_ofNat]
  have h1 : k / 2 ^ 32 % 2 ^ 16 = k % 2 ^ 48 / 2 ^ 32 := by omega
  simp only [h1]
  omega

/-- The number after `x`, reached from `n` by its distance. -/
theorem add_seqDist (x n : Nat) : (n + seqDist x n) % 2 ^ 48 = x % 2 ^ 48 := by
  unfold seqDist; omega

/-- What the search for the packet most ahead finds, from a first one on. -/
theorem highest_foldl (n : Nat) (l : List HeldPkt) (x : HeldPkt) :
    ∃ y, l.foldl (fun m h => match m with
        | some x => if seqDist x.seq.toNat n < seqDist h.seq.toNat n then some h else some x
        | none => some h) (some x) = some y ∧ y ∈ x :: l ∧
      ∀ g ∈ x :: l, seqDist g.seq.toNat n ≤ seqDist y.seq.toNat n := by
  induction l generalizing x with
  | nil => exact ⟨x, rfl, by simp, by simp⟩
  | cons h l ih =>
    rw [List.foldl_cons]
    simp only
    split
    · next hlt =>
      obtain ⟨y, hy, hmem, hmax⟩ := ih h
      refine ⟨y, hy, List.mem_cons_of_mem _ hmem, fun g hg => ?_⟩
      obtain rfl | hg := List.mem_cons.mp hg
      · have := hmax h (by simp)
        omega
      · exact hmax g hg
    · next hge =>
      obtain ⟨y, hy, hmem, hmax⟩ := ih x
      refine ⟨y, hy, ?_, fun g hg => ?_⟩
      · obtain rfl | hmem := List.mem_cons.mp hmem
        · simp
        · simp [hmem]
      · have hx := hmax x (by simp)
        obtain rfl | hg := List.mem_cons.mp hg
        · exact hx
        · obtain rfl | hg := List.mem_cons.mp hg
          · omega
          · exact hmax g (by simp [hg])

/-- Of some held packets one is most ahead. -/
theorem highest_of_ne_nil {n : Nat} {l : List HeldPkt} (hl : l ≠ []) :
    ∃ h, highest n l = some h ∧ h ∈ l ∧ ∀ g ∈ l, seqDist g.seq.toNat n ≤ seqDist h.seq.toNat n := by
  obtain ⟨x, t, rfl⟩ := List.exists_cons_of_ne_nil hl
  exact highest_foldl n t x

/-- The flow contexts lie above the other registers of the Rekin block. -/
theorem ne_flow_context (f : Nat) {a : Nat} (ha : a < 0x600000) :
    a ≠ A.FLOW_W0 f ∧ a ≠ A.FLOW_NEXT_SEQ_LO f ∧ a ≠ A.FLOW_NEXT_SEQ_HI f ∧ a ≠ A.FLOW_ERRS f ∧ a ≠ A.FLOW_ACCEPTED f ∧
      a ≠ A.FLOW_LAST_FRAME f := by
  simp only [A.FLOW_W0, A.FLOW_NEXT_SEQ_LO, A.FLOW_NEXT_SEQ_HI, A.FLOW_ERRS, A.FLOW_ACCEPTED, A.FLOW_LAST_FRAME]
  omega

@[simp] theorem State.heldOf_set (s : State) (f : Fld) (i : Nat) : (s.set f).heldOf i = s.heldOf i := rfl

/-- NEXT_SEQ stays where no field of the frame lies in its two words. -/
theorem BitsKept.nextSeq_eq {l : List Fld} {s t : State} {f : Nat} (h : BitsKept l s t)
    (h1 : ∀ g ∈ l, g.addr ≠ A.FLOW_NEXT_SEQ_LO f ∧ g.addr ≠ A.FLOW_NEXT_SEQ_HI f) : t.nextSeq f = s.nextSeq f := by
  have hlo := h.rd_eq fun g hg => (h1 g hg).1
  have hhi : t.get (F.FLOW_NEXT_SEQ_HI_HI f) = s.get (F.FLOW_NEXT_SEQ_HI_HI f) := by
    simp only [State.get, h.rd_eq fun g hg => (h1 g hg).2]
  rw [State.nextSeq, State.nextSeq, hlo, hhi]

/-! ### A streaming flow breaks (R161) -/

/-- The bits that giving up `k` numbers and starting at another can change. -/
def lostFields (f : Nat) : List Fld :=
  [F.FLOW_ERRS_LOST f, F.RKN_STATUS_LOST, whole (A.FLOW_NEXT_SEQ_LO f), F.FLOW_NEXT_SEQ_HI_HI f]

theorem State.lose_flowChanges (s : State) (f k : Nat) :
    FlowChanges [F.FLOW_ERRS_LOST f, F.RKN_STATUS_LOST] s (s.lose f k) := by
  unfold State.lose
  split
  · exact .refl _ _
  · exact ((s.put_flowChanges _ _).mono (by simp)).trans ((State.set_flowChanges _ _).mono (by simp))

theorem State.setNextSeq_flowChanges (s : State) (f k : Nat) :
    FlowChanges [whole (A.FLOW_NEXT_SEQ_LO f), F.FLOW_NEXT_SEQ_HI_HI f] s (s.setNextSeq f k) :=
  ⟨rfl, rfl, ((s.wr_bitsKept _ _).mono (by simp)).trans ((State.put_bitsKept _ _ _).mono (by simp))⟩

theorem State.rknErr_flowChanges (s : State) (f code : Nat) : FlowChanges [whole A.RKN_LAST_ERR] s (s.rknErr f code) :=
  ⟨rfl, rfl, s.wr_bitsKept _ _⟩

theorem State.lost_lose (s : State) (f k : Nat) :
    (s.lose f k).get (F.FLOW_ERRS_LOST f) = min 65535 (s.get (F.FLOW_ERRS_LOST f) + k) := by
  unfold State.lose
  split
  · next h =>
    have : s.get (F.FLOW_ERRS_LOST f) < 65536 := field_lt _ _ _
    omega
  · have hne : (F.FLOW_ERRS_LOST f).addr ≠ F.RKN_STATUS_LOST.addr := by simp only [A.FLOW_ERRS, A.RKN_STATUS]; omega
    rw [State.get_set, State.get_put_addr _ _ hne, State.get_put_same _ _ (by simp)]
    exact Nat.mod_eq_of_lt (show min 65535 _ < 65536 by omega)

theorem State.flag_lose (s : State) {f k : Nat} (hk : k ≠ 0) : (s.lose f k).flag F.RKN_STATUS_LOST = true := by
  rw [State.lose, if_neg hk]
  exact State.flag_set _ (by simp) (by simp)

/-- An event told after registers and the ingress unit changed is told of the state before them. -/
theorem Told.of_flowChanges {l : List Fld} {q : SeqId} {x y d : Nat} {late : Bool} {s u t : State} (h : FlowChanges l s u)
    (hl : ∀ f ∈ l, f.addr ≠ A.SEQ_EVQ_STATUS q) (ht : Told q x y late d u t) : Told q x y late d s t := by
  obtain ⟨h1, -, h3⟩ := h
  have hrd : u.rd (A.SEQ_EVQ_STATUS q) = s.rd (A.SEQ_EVQ_STATUS q) := h3.rd_eq hl
  have hseq (r : SeqId) : u.seq r = s.seq r := by rw [h1]; rfl
  have hwt : u.wt = s.wt := by rw [h1]
  simpa only [Told, hseq, State.wallNs, hwt, hrd, State.get] using ht

/-- What giving up every number through the held packet `h` makes of flow `f`. -/
def State.gaveUp (s : State) (f : Nat) (h : HeldPkt) : State :=
  ((s.lose f (seqDist h.seq.toNat (s.nextSeq f) + 1)).setNextSeq f
    (s.nextSeq f + (seqDist h.seq.toNat (s.nextSeq f) + 1))).dropHeld f

theorem State.gaveUp_flowChanges (s : State) (f : Nat) (h : HeldPkt) :
    FlowChanges (F.FLOW_W0_HELD f :: lostFields f) s (s.gaveUp f h) :=
  (((s.lose_flowChanges _ _).mono (by simp [lostFields])).trans
    ((State.setNextSeq_flowChanges _ _ _).mono (by simp [lostFields]))).trans
      ((State.dropHeld_flowChanges _ _).mono (by simp [lostFields]))

/-- What the numbers given up leave of flow `f`. -/
theorem State.gaveUp_reads (s : State) (f : Nat) (h : HeldPkt) :
    (s.gaveUp f h).heldOf f = [] ∧ (s.gaveUp f h).nextSeq f = (h.seq.toNat + 1) % 2 ^ 48 ∧
      (s.gaveUp f h).get (F.FLOW_ERRS_LOST f) =
        min 65535 (s.get (F.FLOW_ERRS_LOST f) + seqDist h.seq.toNat (s.nextSeq f) + 1) ∧
      (s.gaveUp f h).flag F.RKN_STATUS_LOST = true := by
  have hlost := s.lost_lose f (seqDist h.seq.toNat (s.nextSeq f) + 1)
  have hflag := s.flag_lose (f := f) (k := seqDist h.seq.toNat (s.nextSeq f) + 1) (by omega)
  have hseq := add_seqDist h.seq.toNat (s.nextSeq f)
  rw [State.gaveUp]
  generalize s.lose f (seqDist h.seq.toNat (s.nextSeq f) + 1) = u at hlost hflag
  have hnext := u.nextSeq_setNextSeq f (s.nextSeq f + (seqDist h.seq.toNat (s.nextSeq f) + 1))
  obtain ⟨-, -, hset⟩ := u.setNextSeq_flowChanges f (s.nextSeq f + (seqDist h.seq.toNat (s.nextSeq f) + 1))
  generalize u.setNextSeq f (s.nextSeq f + (seqDist h.seq.toNat (s.nextSeq f) + 1)) = w at hnext hset
  obtain ⟨-, -, hdrop⟩ := w.dropHeld_flowChanges f
  refine ⟨w.heldOf_dropHeld f, ?_, ?_, ?_⟩
  · rw [hdrop.nextSeq_eq (by simp), hnext]
    omega
  · rw [hdrop.get_eq (by simp) (by simp), hset.get_eq (by simp) (by simp [whole]), hlost, Nat.add_assoc]
  · have h1 : F.RKN_STATUS_LOST.addr ≠ A.FLOW_W0 f ∧ F.RKN_STATUS_LOST.addr ≠ A.FLOW_NEXT_SEQ_LO f ∧
        F.RKN_STATUS_LOST.addr ≠ A.FLOW_NEXT_SEQ_HI f := by
      simp only [A.FLOW_W0, A.RKN_STATUS, A.FLOW_NEXT_SEQ_LO, A.FLOW_NEXT_SEQ_HI]; omega
    rw [hdrop.flag_eq (by simp) (by simp [h1.1.symm]), hset.flag_eq (by simp) (by simp [whole, h1.2.1.symm, h1.2.2.symm]), hflag]

/-- A streaming flow with held packets breaks: it gives up every number through the one most ahead (R161, R167). -/
theorem State.breakFlow_eq {s : State} {f code : Nat} (hl : s.heldOf f ≠ []) :
    ∃ h ∈ s.heldOf f, (∀ g ∈ s.heldOf f, seqDist g.seq.toNat (s.nextSeq f) ≤ seqDist h.seq.toNat (s.nextSeq f)) ∧
      s.breakFlow f code = (((s.gaveUp f h).setFlowState f 3).set F.RKN_STATUS_FLOW_BROKEN).sqsEvent 0x40 code f := by
  obtain ⟨h, hh, hmem, hmax⟩ := highest_of_ne_nil (n := s.nextSeq f) hl
  exact ⟨h, hmem, hmax, by simp only [State.breakFlow, hh]; rfl⟩

/-- The bits that the gap of a streaming flow, expired, can change before its event is told. -/
def breakFields (f : Nat) : List Fld :=
  [F.FLOW_W0_STATE f, F.FLOW_W0_HELD f, whole (A.FLOW_NEXT_SEQ_LO f), F.FLOW_NEXT_SEQ_HI_HI f, F.FLOW_ERRS_LOST f,
    F.RKN_STATUS_FLOW_BROKEN, F.RKN_STATUS_LOST, whole A.RKN_LAST_ERR]

/-- An event told changes the sequencers and registers alone. -/
theorem State.event_eq (s : State) (q : SeqId) (x y : Nat) (late : Bool) (d : Nat) :
    s.event q x y late d = { s with
      regs := (s.event q x y late d).regs, seqs := (s.event q x y late d).seqs, bus := (s.event q x y late d).bus } := by
  rcases s.event_cases q x y late d with ⟨-, e⟩ | ⟨-, lost, e⟩
  · rw [e]; rfl
  · rw [e]; rfl

/-- A streaming flow whose gap expires is BROKEN (R161). -/
theorem State.expireGap_streaming (accept : Accept) {s : State} {f : Nat} (hs : s.flowStreams f = true) (hl : s.heldOf f ≠ []) :
    ∃ h ∈ s.heldOf f, (∀ g ∈ s.heldOf f, seqDist g.seq.toNat (s.nextSeq f) ≤ seqDist h.seq.toNat (s.nextSeq f)) ∧
      ∃ u, s.expireGap accept f = u.sqsEvent 0x40 1 f ∧ FlowChanges (breakFields f) s u ∧ u.flowState f = 3 ∧ u.heldOf f = [] ∧
        u.flag F.RKN_STATUS_FLOW_BROKEN = true ∧ u.flag F.RKN_STATUS_LOST = true ∧
        u.nextSeq f = (h.seq.toNat + 1) % 2 ^ 48 ∧
        u.get (F.FLOW_ERRS_LOST f) = min 65535 (s.get (F.FLOW_ERRS_LOST f) + seqDist h.seq.toNat (s.nextSeq f) + 1) := by
  have herr := s.rknErr_flowChanges f 0x04
  have hlast := ne_flow_context f (a := A.RKN_LAST_ERR) (by decide)
  have hstatus := ne_flow_context f (a := A.RKN_STATUS) (by decide)
  have hheld : (s.rknErr f 0x04).heldOf f = s.heldOf f := rfl
  have hexp : s.expireGap accept f = (s.rknErr f 0x04).breakFlow f 1 := by
    have : (s.rknErr f 0x04).flowStreams f = true := (herr.2.2.flag_eq (by simp) (by simp [whole, hlast])).trans hs
    simp only [State.expireGap, this, if_true]
  rw [hexp]
  generalize s.rknErr f 0x04 = e at herr hheld
  have hn : e.nextSeq f = s.nextSeq f := herr.2.2.nextSeq_eq (by simp [whole, hlast])
  have hlost : e.get (F.FLOW_ERRS_LOST f) = s.get (F.FLOW_ERRS_LOST f) := herr.2.2.get_eq (by simp) (by simp [whole, hlast])
  obtain ⟨h, hmem, hmax, hbreak⟩ := e.breakFlow_eq (f := f) (code := 1) (by rwa [hheld])
  rw [hheld] at hmem hmax
  rw [hn] at hmax
  have hgave := e.gaveUp_flowChanges f h
  obtain ⟨g1, g2, g3, g4⟩ := e.gaveUp_reads f h
  rw [hn, hlost] at g3
  rw [hbreak]
  generalize e.gaveUp f h = g at hgave g1 g2 g3 g4
  have hend : FlowChanges [F.FLOW_W0_STATE f, F.RKN_STATUS_FLOW_BROKEN] g ((g.setFlowState f 3).set F.RKN_STATUS_FLOW_BROKEN) :=
    ((g.put_flowChanges _ 3).mono (by simp)).trans ((State.set_flowChanges _ _).mono (by simp))
  refine ⟨h, hmem, hmax, _, rfl, ?_, ?_, by rw [State.heldOf_set, State.heldOf_setFlowState, g1], State.flag_set _ (by simp) (by simp), ?_, ?_, ?_⟩
  · exact (herr.mono (by simp [breakFields])).trans ((hgave.mono (by simp [breakFields, lostFields])).trans
      (hend.mono (by simp [breakFields])))
  · rw [State.flowState, State.get_set, State.get_put_addr _ _ hstatus.1.symm, ← State.flowState, State.flowState_setFlowState]
  · rw [hend.2.2.flag_eq (by simp) (by simp [hstatus.1.symm]), g4]
  · rw [hend.2.2.nextSeq_eq (by simp [hstatus]), g2]
  · rw [hend.2.2.get_eq (by simp) (by simp), g3]

end Sys2Proof.Machine

namespace Sys2Proof.Machine

/-! ### An accepted patch or fence (R165, R172, R173, R178) -/

/-- What accepting a patch or a fence changes: registers but for those of the flow contexts, and of the ingress unit not the
held packets. -/
def SceneKeeps (s t : State) : Prop :=
  t = { s with regs := t.regs, ing := t.ing, bus := t.bus } ∧ t.ing.held = s.ing.held ∧
    ∀ a, 0x600000 ≤ a → a < 0x800000 → t.rd a = s.rd a

section SceneKeeps

variable {s t u : State}

theorem SceneKeeps.refl (s : State) : SceneKeeps s s := ⟨rfl, rfl, fun _ _ _ => rfl⟩

theorem SceneKeeps.trans (h : SceneKeeps s t) (h' : SceneKeeps t u) : SceneKeeps s u := by
  obtain ⟨h1, h2, h3⟩ := h
  obtain ⟨h4, h5, h6⟩ := h'
  refine ⟨?_, h5.trans h2, fun a ha hb => (h6 a ha hb).trans (h3 a ha hb)⟩
  rw [h1] at h4
  exact h4

/-- A register below the flow contexts written. -/
theorem State.wr_sceneKeeps (s : State) {a : Nat} (ha : a < 0x600000) (v : Word) : SceneKeeps s (s.wr a v) :=
  ⟨rfl, rfl, fun _ hb _ => s.rd_wr_other _ (by omega)⟩

theorem State.put_sceneKeeps (s : State) {f : Fld} (hf : f.addr < 0x600000) (v : Nat) : SceneKeeps s (s.put f v) :=
  s.wr_sceneKeeps hf _

theorem State.set_sceneKeeps (s : State) {f : Fld} (hf : f.addr < 0x600000) : SceneKeeps s (s.set f) :=
  (s.put_sceneKeeps hf 1).trans ⟨rfl, rfl, fun _ _ _ => rfl⟩

theorem State.count_sceneKeeps (s : State) {f : Fld} (hf : f.addr < 0x600000) : SceneKeeps s (s.count f) :=
  (s.put_sceneKeeps hf _).trans ⟨rfl, rfl, fun _ _ _ => rfl⟩

/-- The ingress unit replaced by one with the same held packets. -/
theorem State.ing_sceneKeeps (s : State) {x : IngUnit} (hx : x.held = s.ing.held) : SceneKeeps s { s with ing := x } :=
  ⟨rfl, hx, fun _ _ _ => rfl⟩

theorem SceneKeeps.get_eq (h : SceneKeeps s t) {f : Fld} (h1 : 0x600000 ≤ f.addr) (h2 : f.addr < 0x800000) : t.get f = s.get f := by
  simp only [State.get, h.2.2 f.addr h1 h2]

theorem State.feedOne_sceneKeeps (s : State) (i : Fin 4) : SceneKeeps s (s.feedOne i) := by
  unfold State.feedOne
  simp only
  split
  · exact .refl s
  · split
    · exact .refl s
    · exact (State.ing_sceneKeeps s rfl).trans ((State.ing_sceneKeeps _ rfl).trans
        (State.put_sceneKeeps _ (show A.DFL_STATUS < 0x600000 by decide) 1))

theorem forAll_sceneKeeps {α : Type} {f : State → α → State} (items : List α) (h : ∀ s x, SceneKeeps s (f s x)) (s : State) :
    SceneKeeps s (forAll items s f) := by
  induction items generalizing s with
  | nil => exact .refl _
  | cons x xs ih => exact (h s x).trans (ih _)

theorem State.feed_sceneKeeps (s : State) : SceneKeeps s s.feed := forAll_sceneKeeps _ State.feedOne_sceneKeeps s

theorem State.noteKind_sceneKeeps (s : State) (f enc : Nat) : SceneKeeps s (s.noteKind f enc) := by
  unfold State.noteKind
  split
  · exact s.ing_sceneKeeps rfl
  · exact .refl s

theorem State.noteKind_flowChanges (s : State) (f enc : Nat) : FlowChanges [] s (s.noteKind f enc) := by
  unfold State.noteKind
  split
  · exact ⟨rfl, rfl, .of_regs rfl⟩
  · exact .refl _ s

theorem State.clearKinds_sceneKeeps (s : State) (f : Nat) : SceneKeeps s (s.clearKinds f) := s.ing_sceneKeeps rfl

/-- A plane's patch that comes late sets its flag. -/
theorem State.latePatch_sceneKeeps (s : State) (p : Fin 16) (k : Int) : SceneKeeps s (s.latePatch p k) := by
  have hp : A.SST_PLANE_STATUS p < 0x600000 := by simp only [A.SST_PLANE_STATUS]; omega
  unfold State.latePatch State.setIf
  split
  · split
    · exact s.set_sceneKeeps hp
    · exact .refl s
  · exact .refl s

/-- With no map bank made live in this core cycle the dispatch of a patch takes no latch back (R233). -/
theorem State.mapDispatch_of_none (s : State) (d : InflDesc) (h : ∀ q : QuadId, s.flippedTo q = none) : s.mapDispatch d = s := by
  unfold State.mapDispatch
  split
  · next n _ _ _ _ => rw [h]
  · rfl

/-- What handling a flow context changes says nothing of a map bank made live in this core cycle. -/
theorem FlowChanges.flippedTo_eq {l : List Fld} (h : FlowChanges l s t) (hl : ∀ f ∈ l, f.addr < 0x1000000) (n : QuadId) :
    t.flippedTo n = s.flippedTo n := by
  obtain ⟨h1, -, h3⟩ := h
  have hmap : t.map = s.map := by rw [h1]
  have hwt : t.wt = s.wt := by rw [h1]
  have hrd : t.rd (A.MAP_STATUS n) = s.rd (A.MAP_STATUS n) := h3.rd_eq fun f hf => by
    have := hl f hf
    simp only [A.MAP_STATUS]; omega
  have hflag : t.flag (F.MAP_STATUS_LIVE_EN n) = s.flag (F.MAP_STATUS_LIVE_EN n) := by simp only [State.flag, State.get, hrd]
  simp only [State.flippedTo, hmap, hwt, hflag]

/-- A fence accepted waits for its flow's earlier packets. -/
theorem State.acceptFence_sceneKeeps (s : State) (p : RknMsg) : SceneKeeps s (s.acceptFence p) := by
  unfold State.acceptFence
  simp only
  split
  · exact (s.clearKinds_sceneKeeps _).trans (State.ing_sceneKeeps _ rfl)
  · exact State.ing_sceneKeeps s rfl

theorem State.push_sceneKeeps (s : State) (n : Nat) (l : List InflDesc) :
    SceneKeeps s (State.feed { s with ing := { s.ing with ord := n, queue := l } }) :=
  (s.ing_sceneKeeps rfl).trans (State.feed_sceneKeeps _)

/-- A patch accepted goes its way, or its pixels are discarded. -/
theorem State.acceptPatch_sceneKeeps (s : State) (p : RknMsg) (h : ∀ q : QuadId, s.flippedTo q = none) :
    SceneKeeps s (s.acceptPatch p) := by
  have busy (u : State) (q : Fin 16) (k : Int) : SceneKeeps u ((u.set (F.SST_PLANE_STATUS_BUSY q)).latePatch q k) :=
    (u.set_sceneKeeps (show A.SST_PLANE_STATUS q < 0x600000 by simp only [A.SST_PLANE_STATUS]; omega)).trans
      (State.latePatch_sceneKeeps _ _ _)
  have bad (u : State) (f : Nat) :
      SceneKeeps u (((u.countReg A.RKN_CNT_PATCH_BAD).set F.RKN_STATUS_PATCH_BAD).rknErr f 0x02) :=
    ((u.count_sceneKeeps (show A.RKN_CNT_PATCH_BAD < 0x600000 by decide)).trans
      (State.set_sceneKeeps _ (show A.RKN_STATUS < 0x600000 by decide))).trans
        (State.wr_sceneKeeps _ (show A.RKN_LAST_ERR < 0x600000 by decide) _)
  have hflip (q : QuadId) : ((if RknSos p.hdr then s.clearKinds p.hdr.flow.toNat else s).noteKind p.hdr.flow.toNat
      (RknEnc p.hdr)).flippedTo q = none := by
    rw [(State.noteKind_flowChanges _ _ _).flippedTo_eq (by simp)]
    split
    · rw [(s.clearKinds_flowChanges _).flippedTo_eq (by simp), h]
    · exact h q
  have noted : SceneKeeps s ((if RknSos p.hdr then s.clearKinds p.hdr.flow.toNat else s).noteKind p.hdr.flow.toNat
      (RknEnc p.hdr)) := by
    refine SceneKeeps.trans ?_ (State.noteKind_sceneKeeps _ _ _)
    split
    · exact s.clearKinds_sceneKeeps _
    · exact .refl s
  unfold State.acceptPatch
  simp only
  generalize State.noteKind _ _ _ = u at noted hflip
  split
  · split
    · exact (noted.trans (bad u _)).trans (State.push_sceneKeeps _ _ _)
    · exact noted.trans (bad u _)
  · rw [u.mapDispatch_of_none _ hflip]
    exact noted.trans (State.push_sceneKeeps _ _ _)
  · exact (noted.trans (busy u _ _)).trans (State.push_sceneKeeps _ _ _)
  · exact (noted.trans (busy u _ _)).trans (State.push_sceneKeeps _ _ _)

end SceneKeeps

/-- What accepting a patch or a fence leaves, with no map bank made live in this core cycle. -/
theorem acceptAll_sceneKeeps (e : RotEnv) {s : State} {p : RknMsg} (hp : p.hdr.typ ≠ 3) (h : ∀ q : QuadId, s.flippedTo q = none) :
    SceneKeeps s (acceptAll e s p) := by
  unfold acceptAll acceptScene
  rw [if_neg hp]
  split
  · exact s.acceptFence_sceneKeeps p
  · exact s.acceptPatch_sceneKeeps p h

/-- A patch or a fence accepted leaves the flow contexts. -/
theorem SceneKeeps.flow_reads {s t : State} (h : SceneKeeps s t) {f : Nat} (hf : f < 65536) :
    t.nextSeq f = s.nextSeq f ∧ t.rd (A.FLOW_ACCEPTED f) = s.rd (A.FLOW_ACCEPTED f) ∧ t.flowState f = s.flowState f ∧
      t.get (F.FLOW_ERRS_LOST f) = s.get (F.FLOW_ERRS_LOST f) := by
  have word (i : Nat) (hi : i < 32) : t.rd (0x600000 + i + 0x20 * f) = s.rd (0x600000 + i + 0x20 * f) :=
    h.2.2 _ (by omega) (by omega)
  have hlo : t.rd (A.FLOW_NEXT_SEQ_LO f) = s.rd (A.FLOW_NEXT_SEQ_LO f) := word 8 (by decide)
  have hhi : t.rd (A.FLOW_NEXT_SEQ_HI f) = s.rd (A.FLOW_NEXT_SEQ_HI f) := word 12 (by decide)
  have hw0 : t.rd (A.FLOW_W0 f) = s.rd (A.FLOW_W0 f) := word 0 (by decide)
  have herrs : t.rd (A.FLOW_ERRS f) = s.rd (A.FLOW_ERRS f) := word 24 (by decide)
  exact ⟨by simp only [State.nextSeq, State.get, hlo, hhi], word 20 (by decide), by simp only [State.flowState, State.get, hw0],
    by simp only [State.get, herrs]⟩

/-! ### The gap of a flow of MODE 0 expires (R161) -/

theorem State.heldOf_congr {s t : State} (h : t.ing.held = s.ing.held) (f : Nat) : t.heldOf f = s.heldOf f := by
  rw [State.heldOf, State.heldOf, h]

/-- What an accepted packet leaves of flow `f`, `accept` being what it does (R160). -/
theorem State.acceptPkt_reads {accept : Accept} {s : State} {f : Nat} {p : RknMsg} (hf : f < 65536)
    (hacc : ∀ u : State, (∀ q : QuadId, u.flippedTo q = none) → SceneKeeps u (accept u p))
    (hflip : ∀ q : QuadId, s.flippedTo q = none) :
    let t := s.acceptPkt accept f p
    t.seqs = s.seqs ∧ t.dram = s.dram ∧ t.ing.held = s.ing.held ∧ t.nextSeq f = (p.hdr.seq.toNat + 1) % 2 ^ 48 ∧
      t.rd (A.FLOW_ACCEPTED f) = s.rd (A.FLOW_ACCEPTED f) + 1 ∧ t.flowState f = s.flowState f ∧
      t.get (F.FLOW_ERRS_LOST f) = s.get (F.FLOW_ERRS_LOST f) := by
  have hnext := s.nextSeq_setNextSeq f (p.hdr.seq.toNat + 1)
  have h1 := s.setNextSeq_flowChanges f (p.hdr.seq.toNat + 1)
  have hheld : (s.setNextSeq f (p.hdr.seq.toNat + 1)).ing.held = s.ing.held := rfl
  unfold State.acceptPkt
  simp only
  generalize s.setNextSeq f (p.hdr.seq.toNat + 1) = u at hnext h1 hheld
  have h2 : FlowChanges [whole (A.FLOW_ACCEPTED f), whole (A.FLOW_LAST_FRAME f)] u
      ((u.wrapReg (A.FLOW_ACCEPTED f)).wr (A.FLOW_LAST_FRAME f) p.hdr.frame) :=
    ⟨rfl, rfl, ((u.wr_bitsKept _ _).mono (by simp)).trans ((State.wr_bitsKept _ _ _).mono (by simp))⟩
  have hheld2 : ((u.wrapReg (A.FLOW_ACCEPTED f)).wr (A.FLOW_LAST_FRAME f) p.hdr.frame).ing.held = u.ing.held := rfl
  have hcount : ((u.wrapReg (A.FLOW_ACCEPTED f)).wr (A.FLOW_LAST_FRAME f) p.hdr.frame).rd (A.FLOW_ACCEPTED f) =
      u.rd (A.FLOW_ACCEPTED f) + 1 := by
    rw [State.rd_wr_other _ _ (by simp), State.wrapReg, State.rd_wr_same]
  generalize (u.wrapReg (A.FLOW_ACCEPTED f)).wr (A.FLOW_LAST_FRAME f) p.hdr.frame = w at h2 hheld2 hcount
  have h3 := hacc w fun q => by
    rw [h2.flippedTo_eq (by simp [whole, A.FLOW_ACCEPTED, A.FLOW_LAST_FRAME]; omega),
      h1.flippedTo_eq (by simp [whole, A.FLOW_NEXT_SEQ_LO, A.FLOW_NEXT_SEQ_HI]; omega), hflip]
  generalize accept w p = t at h3
  obtain ⟨r1, r2, r3, r4⟩ := h3.flow_reads hf
  obtain ⟨e3, k3, -⟩ := h3
  obtain ⟨e2, -, b2⟩ := h2
  obtain ⟨e1, -, b1⟩ := h1
  refine ⟨by rw [e3, e2, e1], by rw [e3, e2, e1], k3.trans (hheld2.trans hheld), ?_, ?_, ?_, ?_⟩
  · rw [r1, b2.nextSeq_eq (by simp [whole]), hnext]
  · rw [r2, hcount, b1.rd_eq (by simp [whole])]
  · rw [r3, State.flowState, b2.get_eq (by simp) (by simp [whole]), b1.get_eq (by simp) (by simp [whole])]
    rfl
  · rw [r4, b2.get_eq (by simp) (by simp [whole]), b1.get_eq (by simp) (by simp [whole])]

/-- A flow in GAP that holds no packet is ACTIVE again (R161). -/
theorem State.acceptHeld_none (accept : Accept) {s : State} {f k : Nat} (hl : s.heldOf f = []) (hst : s.flowState f = 2) :
    s.acceptHeld accept f (k + 1) = ((s.countHeld f).stopGap f).setFlowState f 1 := by
  have h1 : (s.countHeld f).heldOf f = [] := hl
  have h2 : ((s.countHeld f).stopGap f).flowState f = 2 := by
    refine Eq.trans ?_ hst
    exact (s.put_bitsKept (F.FLOW_W0_HELD f) _).get_eq (by simp) (by simp)
  simp only [State.acceptHeld, hl, List.find?_nil, h1, List.isEmpty_nil, if_true, h2]

end Sys2Proof.Machine

namespace Sys2Proof.Machine

/-- The held packet whose turn has come, a flow's only one, is accepted, and its flow is ACTIVE again (R160, R161). -/
theorem State.acceptHeld_last {accept : Accept} {s : State} {f : Nat} {h : HeldPkt} (k : Nat) (hf : f < 65536)
    (hacc : ∀ u : State, (∀ q : QuadId, u.flippedTo q = none) → SceneKeeps u (accept u h.pkt))
    (hflip : ∀ q : QuadId, s.flippedTo q = none) (hl : s.heldOf f = [h]) (hn : s.nextSeq f = h.seq.toNat)
    (hroom : s.queueRoom = true) (hst : s.flowState f = 2) (hseq : h.pkt.hdr.seq = h.seq) :
    let t := s.acceptHeld accept f (k + 2)
    t.flowState f = 1 ∧ t.heldOf f = [] ∧ t.seqs = s.seqs ∧ t.dram = s.dram ∧ t.nextSeq f = (h.seq.toNat + 1) % 2 ^ 48 ∧
      t.rd (A.FLOW_ACCEPTED f) = s.rd (A.FLOW_ACCEPTED f) + 1 ∧
      t.get (F.FLOW_ERRS_LOST f) = s.get (F.FLOW_ERRS_LOST f) := by
  have hflow : h.flow = f := by
    have : h ∈ s.heldOf f := by simp [hl]
    simpa [State.heldOf] using (List.mem_filter.mp this).2
  have hnone : (s.ing.held.filter fun x => !(x.flow == f && x.seq == h.seq)).filter (fun x => x.flow == f) = [] := by
    rw [List.filter_comm, ← State.heldOf, hl]
    simp [hflow]
  have hfind : (s.heldOf f).find? (fun x => x.seq.toNat == s.nextSeq f) = some h := by simp [hl, hn]
  have hu : FlowChanges [] s { s with ing := { s.ing with held := s.ing.held.filter fun x => !(x.flow == f && x.seq == h.seq) } } :=
    ⟨rfl, rfl, .of_regs rfl⟩
  have hunfold : s.acceptHeld accept f (k + 2) = State.acceptHeld accept f (k + 1) (State.acceptPkt accept
      { s with ing := { s.ing with held := s.ing.held.filter fun x => !(x.flow == f && x.seq == h.seq) } } f h.pkt) := by
    rw [State.acceptHeld, hfind]
    simp only [hroom, if_true]
  rw [hunfold]
  have huheld : ({ s with ing := { s.ing with held := s.ing.held.filter fun x => !(x.flow == f && x.seq == h.seq) } } : State).heldOf f = [] :=
    hnone
  generalize ({ s with ing := { s.ing with held := s.ing.held.filter fun x => !(x.flow == f && x.seq == h.seq) } } : State) = u at hu huheld
  obtain ⟨a1, a2, a3, a4, a5, a6, a7⟩ := State.acceptPkt_reads (s := u) (f := f) hf hacc fun q =>
    (hu.flippedTo_eq (by simp) q).trans (hflip q)
  obtain ⟨e1, -, b1⟩ := hu
  generalize State.acceptPkt accept u f h.pkt = w at a1 a2 a3 a4 a5 a6 a7
  have hw : w.heldOf f = [] := (State.heldOf_congr a3 f).trans huheld
  have hwst : w.flowState f = 2 := a6.trans ((b1.get_eq (by simp) (by simp)).trans hst)
  rw [State.acceptHeld_none accept hw hwst]
  have hend : FlowChanges [F.FLOW_W0_HELD f, F.FLOW_W0_STATE f] w (((w.countHeld f).stopGap f).setFlowState f 1) :=
    ⟨rfl, rfl, ((w.put_bitsKept _ _).mono (by simp)).trans ((BitsKept.of_regs rfl).trans
      ((State.put_bitsKept _ _ _).mono (by simp)))⟩
  have hstate : (((w.countHeld f).stopGap f).setFlowState f 1).flowState f = 1 := by rw [State.flowState_setFlowState]
  have hheld : (((w.countHeld f).stopGap f).setFlowState f 1).ing.held = w.ing.held := rfl
  generalize ((w.countHeld f).stopGap f).setFlowState f 1 = t at hend hstate hheld
  obtain ⟨e2, -, b2⟩ := hend
  refine ⟨hstate, (State.heldOf_congr hheld f).trans hw, ?_, ?_, ?_, ?_, ?_⟩
  · rw [e2, ← show u.seqs = s.seqs by rw [e1]]; exact a1
  · rw [e2, ← show u.dram = s.dram by rw [e1]]; exact a2
  · rw [b2.nextSeq_eq (by simp), a4, hseq]
  · rw [b2.rd_eq (by simp), a5, b1.rd_eq (by simp)]
  · rw [b2.get_eq (by simp) (by simp), a7, b1.get_eq (by simp) (by simp)]

/-- The state in which the packets that flow `f` holds are accepted from `h` on: the numbers before it are given up (R161). -/
def State.skippedTo (s : State) (f : Nat) (h : HeldPkt) : State :=
  ((s.rknErr f 0x04).lose f (seqDist h.seq.toNat (s.nextSeq f))).setNextSeq f
    (s.nextSeq f + seqDist h.seq.toNat (s.nextSeq f))

theorem State.skippedTo_flowChanges (s : State) (f : Nat) (h : HeldPkt) :
    FlowChanges (whole A.RKN_LAST_ERR :: lostFields f) s (s.skippedTo f h) :=
  ((s.rknErr_flowChanges f 0x04).mono (by simp)).trans (((State.lose_flowChanges _ _ _).mono (by simp [lostFields])).trans
    ((State.setNextSeq_flowChanges _ _ _).mono (by simp [lostFields])))

@[simp] theorem State.ing_setNextSeq (s : State) (f k : Nat) : (s.setNextSeq f k).ing = s.ing := rfl

@[simp] theorem State.ing_rknErr (s : State) (f code : Nat) : (s.rknErr f code).ing = s.ing := rfl

theorem State.skippedTo_ing (s : State) (f : Nat) (h : HeldPkt) : (s.skippedTo f h).ing = s.ing := by
  have : ((s.rknErr f 0x04).lose f (seqDist h.seq.toNat (s.nextSeq f))).ing = (s.rknErr f 0x04).ing := by
    unfold State.lose; split <;> rfl
  rw [State.skippedTo, State.ing_setNextSeq, this, State.ing_rknErr]

theorem State.skippedTo_nextSeq (s : State) (f : Nat) (h : HeldPkt) : (s.skippedTo f h).nextSeq f = h.seq.toNat := by
  rw [State.skippedTo, State.nextSeq_setNextSeq, add_seqDist]
  exact Nat.mod_eq_of_lt h.seq.isLt

theorem State.skippedTo_lost (s : State) (f : Nat) (h : HeldPkt) : (s.skippedTo f h).get (F.FLOW_ERRS_LOST f) =
    min 65535 (s.get (F.FLOW_ERRS_LOST f) + seqDist h.seq.toNat (s.nextSeq f)) := by
  have hlast := ne_flow_context f (a := A.RKN_LAST_ERR) (by decide)
  rw [State.skippedTo, (State.setNextSeq_flowChanges _ _ _).2.2.get_eq (by simp) (by simp [whole]), State.lost_lose,
    (s.rknErr_flowChanges f 0x04).2.2.get_eq (by simp) (by simp [whole, hlast])]

/-- The gap of a flow of MODE 0 that holds one packet expires (R161). -/
theorem State.expireGap_eq {accept : Accept} {s : State} {f : Nat} {h : HeldPkt} (hs : s.flowStreams f = false)
    (hl : s.heldOf f = [h]) : s.expireGap accept f =
      if ((State.acceptHeld accept f heldFuel (s.skippedTo f h)).heldOf f).isEmpty
      then State.acceptHeld accept f heldFuel (s.skippedTo f h)
      else (State.acceptHeld accept f heldFuel (s.skippedTo f h)).startGap f := by
  have hlast := ne_flow_context f (a := A.RKN_LAST_ERR) (by decide)
  have hstreams : (s.rknErr f 0x04).flowStreams f = false :=
    ((s.rknErr_flowChanges f 0x04).2.2.flag_eq (by simp) (by simp [whole, hlast])).trans hs
  have hlow : lowest (s.nextSeq f) ((s.rknErr f 0x04).heldOf f) = some h := by
    rw [State.heldOf, State.ing_rknErr, ← State.heldOf, hl]; rfl
  unfold State.expireGap State.skippedTo
  simp only [hstreams, Bool.false_eq_true, if_false, hlow]

/-- That one packet is then accepted, and the flow is ACTIVE. -/
theorem State.expireGap_one {accept : Accept} {s : State} {f : Nat} {h : HeldPkt} (hf : f < 65536)
    (hacc : ∀ u : State, (∀ q : QuadId, u.flippedTo q = none) → SceneKeeps u (accept u h.pkt))
    (hflip : ∀ q : QuadId, s.flippedTo q = none) (hs : s.flowStreams f = false) (hl : s.heldOf f = [h])
    (hroom : s.queueRoom = true) (hst : s.flowState f = 2) (hseq : h.pkt.hdr.seq = h.seq) :
    let t := s.expireGap accept f
    t.flowState f = 1 ∧ t.heldOf f = [] ∧ t.seqs = s.seqs ∧ t.dram = s.dram ∧ t.nextSeq f = (h.seq.toNat + 1) % 2 ^ 48 ∧
      t.rd (A.FLOW_ACCEPTED f) = s.rd (A.FLOW_ACCEPTED f) + 1 ∧
      t.get (F.FLOW_ERRS_LOST f) = min 65535 (s.get (F.FLOW_ERRS_LOST f) + seqDist h.seq.toNat (s.nextSeq f)) := by
  have hlast := ne_flow_context f (a := A.RKN_LAST_ERR) (by decide)
  have hstatus := ne_flow_context f (a := A.RKN_STATUS) (by decide)
  have hing := s.skippedTo_ing f h
  have hlost := s.skippedTo_lost f h
  have hnext := s.skippedTo_nextSeq f h
  have hall := s.skippedTo_flowChanges f h
  rw [State.expireGap_eq hs hl]
  generalize s.skippedTo f h = w at hing hlost hnext hall
  have hfields : ∀ x ∈ whole A.RKN_LAST_ERR :: lostFields f, x.addr < 0x1000000 := by
    simp only [lostFields, whole, List.mem_cons, List.not_mem_nil, or_false, forall_eq_or_imp, forall_eq]
    simp only [A.RKN_LAST_ERR, A.FLOW_ERRS, A.RKN_STATUS, A.FLOW_NEXT_SEQ_LO, A.FLOW_NEXT_SEQ_HI]
    omega
  obtain ⟨t1, t2, t3, t4, t5, t6, t7⟩ := State.acceptHeld_last (s := w) (f := f) 7 hf hacc
    (fun q => (hall.flippedTo_eq hfields q).trans (hflip q)) (by rw [State.heldOf, hing, ← State.heldOf, hl]) hnext
    (by rw [State.queueRoom, hing]; exact hroom)
    (by rw [State.flowState, hall.2.2.get_eq (by simp) (by simp [lostFields, whole, hlast, hstatus])]; exact hst) hseq
  obtain ⟨e1, -, b1⟩ := hall
  rw [heldFuel]
  generalize State.acceptHeld accept f (7 + 2) w = t at t1 t2 t3 t4 t5 t6 t7
  rw [t2, List.isEmpty_nil, if_pos rfl]
  refine ⟨t1, t2, ?_, ?_, t5, ?_, t7.trans hlost⟩
  · rw [t3, e1]
  · rw [t4, e1]
  · rw [t6, b1.rd_eq (by simp [lostFields, whole, hlast, hstatus])]

end Sys2Proof.Machine

namespace Sys2Proof.Machine

/-! ### A history window loaded (R159, R166) -/

/-- The last `len` bytes of a window before place `pos`, around its end, as they stand in DRAM (R159). -/
theorem State.windowRead_of_clean {s : State} {f pos len : Nat} (hc : s.readsClean (boundTo f)) (hlen : len ≤ 32768)
    (hsize : s.windowAt f + 32768 ≤ s.dramSize (boundTo f)) :
    (s.windowRead f pos len).1 = ((List.range len).map fun j =>
        (s.dr (boundTo f)).byte (s.windowAt f + (pos + 32768 - len + j) % 32768)) ∧
      ReadKeeps s (s.windowRead f pos len).2 := by
  unfold State.windowRead
  simp only
  generalize hfirst : (pos + 32768 - len % 32768) % 32768 = first
  have hk : first + min len (32768 - first) ≤ 32768 := by omega
  obtain ⟨h1, k1⟩ := State.readBytes_of_clean (a := s.windowAt f + first) (len := min len (32768 - first)) hc (by omega)
  generalize s.readBytes (boundTo f) (s.windowAt f + first) (min len (32768 - first)) = r at h1 k1
  obtain ⟨bytes, e, u⟩ := r
  simp only at h1 k1
  have hat : u.windowAt f = s.windowAt f := by simp only [State.windowAt, State.get, k1.rd_eq]
  obtain ⟨h2, k2⟩ := State.readBytes_of_clean (a := s.windowAt f) (len := len - min len (32768 - first))
    (k1.readsClean hc) (by rw [k1.dramSize_eq]; omega)
  simp only [hat, h1, h2]
  refine ⟨?_, k1.trans k2⟩
  apply List.ext_getElem
  · simp
  · intro i hi hi'
    simp only [List.length_map, List.length_range] at hi'
    rw [List.getElem_append]
    split
    · next hlt =>
      simp only [List.length_map, List.length_range] at hlt
      simp only [List.getElem_map, List.getElem_range]
      exact congrArg _ (by omega)
    · next hge =>
      simp only [List.length_map, List.length_range] at hge
      simp only [List.getElem_map, List.getElem_range, List.length_map, List.length_range, k1.byte_eq]
      exact congrArg _ (by omega)

@[simp] theorem State.inflater_setInflater_same (s : State) (i : Fin 4) (x : Inflater) : (s.setInflater i x).inflater i = x := by
  simp [State.inflater, State.setInflater]

theorem State.inflater_setInflater_other (s : State) {i j : Fin 4} (x : Inflater) (h : j ≠ i) :
    (s.setInflater i x).inflater j = s.inflater j := by
  have : i.val ≠ j.val := fun e => h (Fin.ext e.symm)
  simp [State.inflater, State.setInflater, this]

/-- An inflater with no flow resident has nothing to write back (R166). -/
theorem State.writeBack_of_none {s : State} {i : Fin 4} (h : (s.inflater i).resident = none) :
    s.writeBack i = s.setInflater i { s.inflater i with win := [], made := [] } := by
  simp [State.writeBack, h]

/-- A window loaded into an inflater with no flow resident, from DRAM that reads clean (R166). -/
theorem State.switchWindow_of_clean {s : State} {i : Fin 4} {f : Nat} (hn : (s.inflater i).resident = none)
    (hc : s.readsClean (boundTo f)) (hlen : s.get (F.FLOW_HIST_LEN_LEN f) ≤ 32768)
    (hsize : s.windowAt f + 32768 ≤ s.dramSize (boundTo f)) :
    ∃ u, ReadKeeps (s.setInflater i { s.inflater i with win := [], made := [] }) u ∧
      s.switchWindow i f = u.setInflater i { s.inflater i with
        resident := some f, made := [],
        win := (List.range (s.get (F.FLOW_HIST_LEN_LEN f))).map fun j =>
          (s.dr (boundTo f)).byte (s.windowAt f + (s.histPos f + 32768 - s.get (F.FLOW_HIST_LEN_LEN f) + j) % 32768) } := by
  obtain ⟨h1, k⟩ := State.windowRead_of_clean (s := s.setInflater i { s.inflater i with win := [], made := [] }) (f := f)
    (pos := s.histPos f) (len := s.get (F.FLOW_HIST_LEN_LEN f)) hc hlen hsize
  refine ⟨_, k, ?_⟩
  have hu : (State.windowRead (s.setInflater i { s.inflater i with win := [], made := [] }) f (s.histPos f)
      (s.get (F.FLOW_HIST_LEN_LEN f))).2.inflater i = { s.inflater i with win := [], made := [] } := by
    rw [State.inflater, k.1]
    exact s.inflater_setInflater_same i _
  simp only [State.switchWindow, State.writeBack_of_none hn, hu, h1]
  rfl

end Sys2Proof.Machine

namespace Sys2Proof.Machine

/-- HISTORY_WINDOW_SWITCH of an inflater that waits for a window (R166). -/
theorem execHistoryWindowSwitch_waiting {s : State} {i : Fin 4} {d : InflDesc} (hcur : (s.inflater i).cur = some d)
    (henc : d.enc = 2) (hready : (s.inflater i).ready = false) (hd : s.dramServes (boundTo d.flow) = true) :
    exec (.historyWindowSwitch i) s = .next ((s.switchWindow i d.flow).setInflater i
      { (s.switchWindow i d.flow).inflater i with ready := true }) := by
  simp only [exec, execHistoryWindowSwitch, hcur, InflDesc.needsWindow, henc, hready, hd]
  rfl

/-- GAP_EXPIRY of a flow that is due. -/
theorem execGapExpiry_due {s : State} {fl : BitVec 16} (h : s.gapDue fl.toNat = true) :
    exec (.gapExpiry fl) s = .next (s.expireGap (acceptAll {}) fl.toNat) := by
  simp only [exec, execGapExpiry, h, if_true]

/-- An arena's base written, locked or not, changes of the ingress unit at most histories. -/
theorem State.writeArena_flowChanges (s : State) (n : QuadId) (v : Word) (locked : Bool) :
    FlowChanges (F.RKN_STATUS_STALE_WRITE :: arenaFields n) s (s.writeArena n v locked) := by
  cases locked with
  | false => exact (s.writeArena_open n v).1.mono (List.subset_cons_self _ _)
  | true => exact (s.set_flowChanges _).mono (by simp)

/-- A broken flow's own bits are none of the status of SQS's queue. -/
theorem breakFields_ne_events (f : Nat) : ∀ x ∈ breakFields f, x.addr ≠ A.SEQ_EVQ_STATUS 4 := by
  have hne := ne_flow_context f (a := A.SEQ_EVQ_STATUS 4) (by decide)
  have hlow : A.RKN_STATUS ≠ A.SEQ_EVQ_STATUS 4 ∧ A.RKN_LAST_ERR ≠ A.SEQ_EVQ_STATUS 4 := by decide
  simp only [breakFields, whole, List.mem_cons, List.not_mem_nil, or_false, forall_eq_or_imp, forall_eq]
  exact ⟨hne.1.symm, hne.1.symm, hne.2.1.symm, hne.2.2.1.symm, hne.2.2.2.1.symm, hlow.1, hlow.1, hlow.2⟩

/-- Settles O32: each write by the equation of its locked and its unlocked form, each expiry by what it makes of the flow, and the
switch by the reads of the window's two runs of bytes. -/
theorem flowsAndHistory : Obligations.FlowsAndHistory := by
  refine ⟨fun s m fl v n => ⟨fun hr hu hm => ?_, ?_, fun hdue hs hl => ?_, fun h hdue hroom hflip hs hst hl htyp hseq hflow => ?_⟩,
    fun s i d hcur henc hready hres hd hecc hlink hu hlen hsize => ?_⟩
  · obtain ⟨b, hb⟩ := State.writeAt_flow (v := v) fl.isLt hr hu
    obtain ⟨hframe, hing, hbits⟩ := (s.writeFlow_flowChanges m fl.toNat v (s.locked m .flow (0x600000 + 32 * fl.toNat))).trans
      ((State.noteWrites_flowChanges _ b).mono (by simp))
    have hat : flowAt (0x600000 + 32 * fl.toNat) = fl.toNat := by simp only [flowAt]; omega
    refine ⟨_, congrArg Host.Outcome.next hb, hframe, hing, hbits, fun hst hbefore => ?_, fun hst => ?_⟩
    · have hopen : s.locked m .flow (0x600000 + 32 * fl.toNat) = false := by
        simp [State.locked, State.lockHolds, hat, hst, hbefore]
      rw [hopen]
      exact State.writeFlow_closed_reads hm hst
    · have hlocked : s.locked m .flow (0x600000 + 32 * fl.toNat) = true := by
        simp [State.locked, State.lockHolds, hat, hst]
      rw [hlocked]
      exact State.writeFlow_open_reads hm hst
  · obtain ⟨hframe, hing, -⟩ := s.writeArena_flowChanges n v (s.streamOpen || s.atCycleStart.streamOpen)
    refine ⟨_, rfl, hframe, hing, fun hopen => ?_, fun hopen hbefore => ?_⟩
    · rw [hopen, Bool.true_or, State.writeArena_locked]
      exact ⟨s.set_onlyBits _, s.flag_set (by simp) (by simp)⟩
    · rw [hopen, hbefore, Bool.or_self]
      obtain ⟨⟨-, -, hbits⟩, hbase, hempty⟩ := s.writeArena_open n v
      exact ⟨hbase, hempty, hbits⟩
  · obtain ⟨h, hmem, hmax, u, hexp, hch, h1, h2, h3, h4, h5, h6⟩ := State.expireGap_streaming (acceptAll {}) hs hl
    have htold := Told.of_flowChanges hch (breakFields_ne_events fl.toNat) (u.sqsEvent_told 0x40 1 fl.toNat)
    obtain ⟨hframe, hing, hbits⟩ := hch
    have hev := u.sqsEvent_bitsKept 0x40 1 fl.toNat
    have heq := u.event_eq sqsQ 0x40 1 false fl.toNat
    rw [execGapExpiry_due hdue, hexp]
    rw [← State.sqsEvent] at heq
    generalize u.sqsEvent 0x40 1 fl.toNat = t at htold hev heq
    have hne := ne_flow_context fl.toNat (a := A.SEQ_EVQ_STATUS 4) (by decide)
    obtain ⟨e1, e2⟩ : t.ing = u.ing ∧ t = { u with regs := t.regs, seqs := t.seqs, bus := t.bus } := ⟨by rw [heq], heq⟩
    refine ⟨t, rfl, ?_, ?_, ?_, ?_, ?_, htold, ?_, ?_, h, hmem, hmax, ?_, ?_⟩
    · rw [e2, hframe]
    · rw [← e1] at hing; exact hing
    · exact (hev.get_eq (by simp) (by simp [hne])).trans h1
    · exact (State.heldOf_congr (by rw [e1]) _).trans h2
    · exact (hbits.mono (by simp [breakFields])).trans (hev.mono (by simp))
    · exact (hev.flag_eq (by simp) (by simp)).trans h3
    · exact (hev.flag_eq (by simp) (by simp)).trans h4
    · exact (hev.nextSeq_eq (by simp [hne])).trans h5
    · exact (hev.get_eq (by simp) (by simp [hne])).trans h6
  · rw [execGapExpiry_due hdue]
    obtain ⟨h1, h2, h3, h4, h5, h6, h7⟩ := State.expireGap_one (accept := acceptAll {}) fl.isLt
      (fun u hu => acceptAll_sceneKeeps {} htyp hu) hflip hs hl hroom hst hseq
    exact ⟨_, rfl, h1, h2, h3, h4, h5, h6, h7⟩
  · obtain ⟨u, ⟨hframe, hmem⟩, hswitch⟩ := State.switchWindow_of_clean hres ⟨hecc, hlink, hu⟩ hlen hsize
    rw [execHistoryWindowSwitch_waiting hcur henc hready hd, hswitch, State.inflater_setInflater_same]
    refine ⟨_, rfl, ?_, ?_, fun q => ?_, fun j hj => ?_, ?_, ?_⟩
    · rw [hframe]; rfl
    · rw [hframe]; rfl
    · exact (hmem q).1
    · rw [State.inflater_setInflater_other _ _ hj, State.inflater_setInflater_other _ _ hj, State.inflater, hframe]
      exact s.inflater_setInflater_other _ hj
    · rw [State.inflater_setInflater_same]
    · rw [State.inflater_setInflater_same]

end Sys2Proof.Machine

namespace Sys2Proof.Machine

/-! ### Views of the state

What a latch keeps of a quadrant is said by a few views: parts of the state and fields of its registers that are equal before
and after. -/

/-- Some parts of the state, gathered by `core`, and some fields of registers. -/
structure View (α : Type) where
  core   : State → α
  fields : List Fld

/-- Two states look the same in a view. -/
def View.Same {α : Type} (v : View α) (s t : State) : Prop := v.core t = v.core s ∧ ∀ f ∈ v.fields, t.get f = s.get f

section View

variable {α β : Type} {v : View α} {s t u : State}

theorem View.Same.refl (v : View α) (s : State) : v.Same s s := ⟨rfl, fun _ _ => rfl⟩

theorem View.Same.trans (h : v.Same s t) (h' : v.Same t u) : v.Same s u :=
  ⟨h'.1.trans h.1, fun f hf => (h'.2 f hf).trans (h.2 f hf)⟩

/-- A view of less. -/
theorem View.Same.less {w : View β} {p : α → β} (h : v.Same s t) (hc : ∀ s, w.core s = p (v.core s)) (hf : w.fields ⊆ v.fields) :
    w.Same s t := by
  refine ⟨?_, fun f hm => h.2 f (hf hm)⟩
  rw [hc, hc, h.1]

/-- A register that is a field of the view keeps its word. -/
theorem View.Same.rd_eq (h : v.Same s t) {a : Nat} (ha : whole a ∈ v.fields) : t.rd a = s.rd a := by
  have := h.2 _ ha
  simp only [State.get, whole, field, pow_zero, Nat.div_one] at this
  rw [Nat.mod_eq_of_lt (t.rd a).isLt, Nat.mod_eq_of_lt (s.rd a).isLt] at this
  exact BitVec.eq_of_toNat_eq this

/-- A flag of such a register stays. -/
theorem View.Same.flag_eq (h : v.Same s t) {f : Fld} (ha : whole f.addr ∈ v.fields) : t.flag f = s.flag f := by
  simp only [State.flag, State.get, h.rd_eq ha]

/-- Field `g` shares no bit with the fields `l`. -/
def apart (l : List Fld) (g : Fld) : Bool :=
  l.all fun f => f.addr != g.addr || decide (f.lo + f.w ≤ g.lo) || decide (g.lo + g.w ≤ f.lo)

/-- Fields within a register. -/
def fit (l : List Fld) : Bool := l.all fun f => decide (f.lo + f.w ≤ 32)

/-- A change of fields apart from those of the view. -/
theorem View.same_of_bitsKept {l : List Fld} (hc : v.core t = v.core s) (hfit : fit v.fields = true)
    (hl : ∀ g ∈ l, apart v.fields g = true) (hb : BitsKept l s t) : v.Same s t := by
  refine ⟨hc, fun f hf => hb.get_eq ?_ fun g hg e => ?_⟩
  · simpa using List.all_eq_true.mp hfit f hf
  · have := List.all_eq_true.mp (hl g hg) f hf
    simp only [Bool.or_eq_true, bne_iff_ne, ne_eq, decide_eq_true_eq] at this
    omega

theorem forAll_same {γ : Type} {f : State → γ → State} (items : List γ) (h : ∀ s, ∀ x ∈ items, v.Same s (f s x)) (s : State) :
    v.Same s (forAll items s f) := by
  induction items generalizing s with
  | nil => exact .refl v s
  | cons x xs ih => exact (h s x (by simp)).trans (ih (fun s y hy => h s y (by simp [hy])) _)

/-- Steps that each hand on something besides the state. -/
theorem foldl_same {γ δ : Type} {f : δ × State → γ → δ × State} (items : List γ) (h : ∀ r, ∀ x ∈ items, v.Same r.2 (f r x).2)
    (r : δ × State) : v.Same r.2 (items.foldl f r).2 := by
  induction items generalizing r with
  | nil => exact .refl v r.2
  | cons x xs ih => exact (h r x (by simp)).trans (ih (fun r y hy => h r y (by simp [hy])) _)

end View

/-! ### What a latch keeps of a quadrant -/

/-- The program, data and registers of a sequencer. -/
def Seq.holds (c : Seq) := (c.imem, c.dmem, c.g, c.t, c.pc)

/-- What no step of a latch changes: wall time, root of trust, sessions, pins, the power state, the sequencers' programs, data and
registers, the latch passed, and quadrant `n`'s shadow words with the configuration of its checks. -/
def steadyView (n : QuadId) :=
  View.mk (fun s : State => (s.wt, s.rot, s.sess, s.pins, s.power, s.frame.latch, fun q => (s.seq q).holds))
    (whole A.GEO_PANEL :: whole A.GEO_DIRS :: whole (A.CMP_CFG n) :: (shadowRegs n).map whole)

/-- Quadrant `n`'s scan. -/
def scanView (n : QuadId) :=
  View.mk (fun s : State => s.scan[n])
    ([whole (A.SCAN_FLAGS n), whole (A.SCAN_START_FRAME n), whole (A.SCAN_REFUSE n)])

/-- Quadrant `n`'s live values and its pending COMMIT. -/
def liveView (n : QuadId) :=
  View.mk (fun s : State => (shadowRegs n).map s.liveRd)
    ([F.CMP_STATUS_PENDING n, whole (A.CMP_COMMIT_FRAME n)])

/-- Whether a COMMIT of quadrant `n` completed at the instant of the latch. -/
def lateView (n : QuadId) :=
  View.mk (fun s : State => ((s.cm n).late, (s.cm n).lateOnly))
    ([])

/-- The shadow words that the latch is to see. -/
def keepView :=
  View.mk (fun s : State => s.frame.keep)
    ([])

/-- All that a latch keeps of quadrant `n`, but where it is about `n` itself. -/
def quietView (n : QuadId) :=
  View.mk (fun s : State => ((steadyView n).core s, (scanView n).core s, (liveView n).core s, (lateView n).core s, keepView.core s))
    ((steadyView n).fields ++ (scanView n).fields ++ (liveView n).fields)

section Quiet

variable {n : QuadId} {s t : State}

theorem View.Same.steady (h : (quietView n).Same s t) : (steadyView n).Same s t :=
  h.less (p := fun x => x.1) (fun _ => rfl) (by simp [quietView])

theorem View.Same.scan (h : (quietView n).Same s t) : (scanView n).Same s t :=
  h.less (p := fun x => x.2.1) (fun _ => rfl) (by simp [quietView])

theorem View.Same.live (h : (quietView n).Same s t) : (liveView n).Same s t :=
  h.less (p := fun x => x.2.2.1) (fun _ => rfl) (by simp [quietView])

theorem View.Same.late (h : (quietView n).Same s t) : (lateView n).Same s t :=
  h.less (p := fun x => x.2.2.2.1) (fun _ => rfl) (by simp [lateView])

theorem View.Same.keep (h : (quietView n).Same s t) : keepView.Same s t :=
  h.less (p := fun x => x.2.2.2.2) (fun _ => rfl) (by simp [keepView])

theorem fit_quietView (n : QuadId) : fit (quietView n).fields = true := by
  revert n; decide +kernel

/-- A change of registers alone, in fields apart from what a latch keeps. -/
theorem quiet_of_bitsKept {l : List Fld} (hl : ∀ g ∈ l, apart (quietView n).fields g = true) (hb : BitsKept l s t)
    (hc : (quietView n).core t = (quietView n).core s) : (quietView n).Same s t :=
  View.same_of_bitsKept hc (fit_quietView n) hl hb

/-- A change that touches no register. -/
theorem quiet_of_regs (hr : t.regs = s.regs) (hc : (quietView n).core t = (quietView n).core s) : (quietView n).Same s t :=
  quiet_of_bitsKept (l := []) (by simp) (.of_regs hr) hc

theorem State.put_quiet (s : State) {f : Fld} (v : Nat) (hf : apart (quietView n).fields f = true) :
    (quietView n).Same s (s.put f v) := quiet_of_bitsKept (by simpa using hf) (s.put_bitsKept f v) rfl

theorem State.wr_quiet (s : State) {a : Nat} (v : Word) (hf : apart (quietView n).fields (whole a) = true) :
    (quietView n).Same s (s.wr a v) := quiet_of_bitsKept (by simpa using hf) (s.wr_bitsKept a v) rfl

theorem State.set_quiet (s : State) {f : Fld} (hf : apart (quietView n).fields f = true) :
    (quietView n).Same s (s.set f) := quiet_of_bitsKept (by simpa using hf) (s.set_bitsKept f) rfl

theorem State.clr_quiet (s : State) {f : Fld} (hf : apart (quietView n).fields f = true) :
    (quietView n).Same s (s.clr f) := s.put_quiet 0 hf

theorem State.setIf_quiet (s : State) (b : Bool) {f : Fld} (hf : apart (quietView n).fields f = true) :
    (quietView n).Same s (s.setIf b f) := by
  unfold State.setIf
  split
  · exact s.set_quiet hf
  · exact .refl _ s

theorem State.setBit_quiet (s : State) {f : Fld} (o : Nat) (hf : apart (quietView n).fields f = true) :
    (quietView n).Same s (s.setBit f o) := quiet_of_bitsKept (by simpa using hf) (s.put_bitsKept f _) rfl

theorem apart_overflow : ∀ n : QuadId, ∀ q : SeqId, apart (quietView n).fields (F.SEQ_EVQ_STATUS_OVERFLOW q) = true := by
  decide +kernel

/-- An event pushed leaves a sequencer's program, data and registers. -/
theorem State.event_holds (s : State) (q r : SeqId) (x y : Nat) (late : Bool) (d : Nat) :
    ((s.event q x y late d).seq r).holds = (s.seq r).holds := by
  by_cases h : r = q
  · subst h
    rcases s.event_cases r x y late d with ⟨-, e⟩ | ⟨-, lost, e⟩
    · rw [e, State.seq_setSeq_same]; rfl
    · rw [e, State.count, State.seq_noteHit, State.seq_put, State.seq_setSeq_same]; rfl
  · rw [s.seq_event_other h]

theorem State.event_quiet (s : State) (q : SeqId) (x y : Nat) (late : Bool) (d : Nat) :
    (quietView n).Same s (s.event q x y late d) := by
  refine quiet_of_bitsKept (l := [F.SEQ_EVQ_STATUS_OVERFLOW q]) (by simpa using apart_overflow n q) (s.event_bitsKept q x y late d) ?_
  have hholds : (fun r => ((s.event q x y late d).seq r).holds) = fun r => (s.seq r).holds :=
    funext fun r => s.event_holds q r x y late d
  have heq := s.event_eq q x y late d
  simp only [quietView, steadyView, hholds]
  rw [heq]
  rfl

theorem State.sqsEvent_quiet (s : State) (x y d : Nat) : (quietView n).Same s (s.sqsEvent x y d) := s.event_quiet sqsQ x y false d

theorem State.quadEvent_quiet (s : State) (m : QuadId) (x y d : Nat) : (quietView n).Same s (s.quadEvent m x y d) :=
  s.event_quiet (sqOf m) x y false d

end Quiet

end Sys2Proof.Machine

namespace Sys2Proof.Machine

/-! ### The steps of a latch that are not about a quadrant's scan or its COMMIT -/

section Quiet

variable {n : QuadId}

/-! #### The panel temperature and parity errors (R252, R477) -/

theorem apart_emw : ∀ n : QuadId, ∀ f ∈ [F.EMW_STATUS_TEMP_LOST, whole A.EMW_TEMP, F.EMW_STATUS_LIMIT_BAD, F.EMW_STATUS_PIN_OVERRIDE,
    F.EMW_STATUS_WAVE_BAD, F.EMW_STATUS_LIVE_BAND, whole A.EMW_BAND_FRAME, F.EMW_STATUS_FALLBACK_BAD, F.EMW_STATUS_IREF_CAPPED],
    apart (quietView n).fields f = true := by decide +kernel

theorem apart_bist : ∀ n : QuadId, ∀ f ∈ [F.BIST_FLAGS_PARITY, whole A.BIST_ERR_ADDR, F.BIST_STATUS_RETEST],
    apart (quietView n).fields f = true := by decide +kernel

theorem State.emw_quiet (s : State) (e : EmwUnit) : (quietView n).Same s { s with emw := e } := quiet_of_regs rfl rfl

theorem State.emwFault_quiet (s : State) (c : Nat) (k : Int) : (quietView n).Same s (s.emwFault c k) := s.sqsEvent_quiet _ _ _

/-- A flag of the emission unit set with its fault. -/
theorem State.emwSet_quiet (s : State) {f : Fld} (c : Nat) (k : Int) (hf : apart (quietView n).fields f = true) :
    (quietView n).Same s ((s.set f).emwFault c k) := (s.set_quiet hf).trans (State.emwFault_quiet _ _ _)

theorem State.formTemp_quiet (s : State) (k : Int) : (quietView n).Same s (s.formTemp k) := by
  have lost := apart_emw n F.EMW_STATUS_TEMP_LOST (by simp)
  unfold State.formTemp
  simp only
  split
  · split
    · exact .refl _ s
    · split
      · exact (s.emw_quiet _).trans (State.emwSet_quiet _ 2 k lost)
      · exact s.emw_quiet _
  · exact (s.wr_quiet _ (apart_emw n _ (by simp))).trans (State.emw_quiet _ _)

theorem State.bist_quiet (s : State) (b : BistUnit) : (quietView n).Same s { s with bist := b } := quiet_of_regs rfl rfl

theorem State.queueRetest_quiet (s : State) (x : Nat) : (quietView n).Same s (s.queueRetest x) := by
  unfold State.queueRetest
  split
  · exact .refl _ s
  · exact (s.bist_quiet _).trans (State.put_quiet _ _ (apart_bist n F.BIST_STATUS_RETEST (by simp)))

theorem State.sramErr_quiet (s : State) (r off kind : Nat) : (quietView n).Same s (s.sramErr r off kind) := by
  have addr (v : Word) := s.wr_quiet (n := n) (a := A.BIST_ERR_ADDR) v (apart_bist n _ (by simp))
  unfold State.sramErr
  simp only
  split
  · exact (addr _).trans (State.queueRetest_quiet _ _)
  · exact (addr _).trans (State.bist_quiet _ _)

theorem State.draw_quiet (s : State) (w : Nat) : (quietView n).Same s (s.draw w).2 := quiet_of_regs rfl rfl

theorem State.parityErr_quiet (s : State) (r off : Nat) : (quietView n).Same s (s.parityErr r off) :=
  ((s.set_quiet (apart_bist n F.BIST_FLAGS_PARITY (by simp))).trans (State.sramErr_quiet _ _ _ _)).trans (State.sqsEvent_quiet _ _ _ _)

theorem State.waveParity_quiet (s : State) (bad : List Nat) : (quietView n).Same s (s.waveParity bad) :=
  forAll_same bad (fun t _ _ => (t.draw_quiet 24).trans (State.parityErr_quiet _ _ _)) s

/-! #### The scene store and the planes (R169, R180) -/

theorem apart_plane : ∀ n : QuadId, ∀ p : Fin 16, ∀ f ∈ [F.SST_PLANE_STATUS_ALLOC_BAD p, F.SST_PLANE_STATUS_TORN p, F.SST_PLANE_STATUS_FRONT p,
    F.SST_PLANE_STATUS_PENDING p, whole (A.SST_PLANE_FLIP_FRAME p), F.SST_SYNC_STATUS_HELD], apart (quietView n).fields f = true := by
  decide +kernel

theorem State.ing_quiet (s : State) (x : IngUnit) : (quietView n).Same s { s with ing := x } := quiet_of_regs rfl rfl

theorem State.sceneWrite_quiet (s : State) (a : Nat) (b : List Byte) : (quietView n).Same s (s.sceneWrite a b) := s.ing_quiet _

theorem State.reliefRow_quiet (s : State) (d : PlaneDesc) (bank x y : Nat) (b : List Byte) (k : Nat) :
    (quietView n).Same s (s.reliefRow d bank x y b k) := by
  induction k with
  | zero => exact .refl _ s
  | succ k ih => exact ih.trans (State.sceneWrite_quiet _ _ _)

theorem State.planeRows_quiet (s : State) (d : PlaneDesc) (relief : Bool) (bank x y w : Nat) (b : List Byte) (k : Nat) :
    (quietView n).Same s (s.planeRows d relief bank x y w b k) := by
  induction k generalizing s y b with
  | zero => exact .refl _ s
  | succ k ih =>
    refine View.Same.trans ?_ (ih _ _ _)
    unfold State.planeRow
    split
    · exact s.reliefRow_quiet d bank x y _ _
    · exact s.sceneWrite_quiet _ _

/-- A descriptor of a plane writes the scene store alone. -/
theorem State.writeRect_quiet (s : State) {d : InflDesc} {p : Fin 16} (hd : d.plane = some p) (b : List Byte) (i j : Nat) :
    (quietView n).Same s (s.writeRect d b i j) := by
  unfold State.writeRect
  unfold InflDesc.plane at hd
  split
  · exact .refl _ s
  · exact s.planeRows_quiet _ _ _ _ _ _ _ _
  · split
    · exact s.planeRows_quiet _ _ _ _ _ _ _ _
    · exact .refl _ s
  · next h => simp [h] at hd

theorem State.decodeOr_quiet (s : State) (i : Fin 4) (d : InflDesc) : (quietView n).Same s (s.decodeOr i d).2 := by
  unfold State.decodeOr
  split
  · exact quiet_of_regs rfl rfl
  · exact .refl _ s

theorem State.tearPatch_quiet (s : State) (p : Fin 16) (i : Fin 4) : (quietView n).Same s (s.tearPatch p i).2 := by
  unfold State.tearPatch
  simp only
  split
  · split
    · next d _ hd =>
      exact (((s.draw_quiet 16).trans (State.decodeOr_quiet _ i d)).trans (State.writeRect_quiet _ hd.2.1 _ _ _)).trans
        (State.ing_quiet _ _)
    · exact .refl _ s
  · exact .refl _ s

theorem State.stripUndo_quiet (s : State) (x : StripIn) (b y : Nat) : (quietView n).Same s (s.stripUndo x b y) :=
  (s.sceneWrite_quiet _ _).trans (State.ing_quiet _ _)

theorem State.setPort_quiet (s : State) (q : NbrId) (x : NbrPort) : (quietView n).Same s (s.setPort q x) := quiet_of_regs rfl rfl

theorem State.tearStrip_quiet (s : State) (p : Fin 16) (q : NbrId) : (quietView n).Same s (s.tearStrip p q).2 := by
  unfold State.tearStrip
  split
  · simp only
    split
    · exact (((s.draw_quiet 16).trans (forAll_same _ (fun t _ _ => t.stripUndo_quiet _ _ _) _)).trans
        (State.planeRows_quiet _ _ _ _ _ _ _ _ _)).trans (State.setPort_quiet _ _ _)
    · exact .refl _ s
  · exact .refl _ s

/-- The end of a flip: the flag of a torn plane, FRONT, PENDING and the frame. -/
def State.flipEnd (s : State) (p : Fin 16) (k : Int) (torn : Bool) : State :=
  let s := s.setIf torn (F.SST_PLANE_STATUS_TORN p)
  let s := s.put (F.SST_PLANE_STATUS_FRONT p) (1 - s.front p)
  let s := if (s.plane p).due then s else s.clr (F.SST_PLANE_STATUS_PENDING p)
  (s.wr (A.SST_PLANE_FLIP_FRAME p) (BitVec.ofInt 32 k)).setPlane p { s.plane p with flipped := some k, due := false }

theorem State.flipEnd_quiet (s : State) (p : Fin 16) (k : Int) (torn : Bool) : (quietView n).Same s (s.flipEnd p k torn) := by
  have hp := apart_plane n p
  have h1 := s.setIf_quiet (n := n) torn (f := F.SST_PLANE_STATUS_TORN p) (hp _ (by simp))
  unfold State.flipEnd
  simp only
  generalize s.setIf torn (F.SST_PLANE_STATUS_TORN p) = u at h1
  have h2 := h1.trans (u.put_quiet (1 - u.front p) (f := F.SST_PLANE_STATUS_FRONT p) (hp _ (by simp)))
  generalize u.put (F.SST_PLANE_STATUS_FRONT p) (1 - u.front p) = w at h2
  have h3 : (quietView n).Same s (if (w.plane p).due then w else w.clr (F.SST_PLANE_STATUS_PENDING p)) := by
    split
    · exact h2
    · exact h2.trans (w.clr_quiet (hp _ (by simp)))
  exact (h3.trans (State.wr_quiet _ _ (hp (whole (A.SST_PLANE_FLIP_FRAME p)) (by simp)))).trans (State.ing_quiet _ _)

theorem State.flipPlane_quiet (s : State) (p : Fin 16) (k : Int) : (quietView n).Same s (s.flipPlane p k) := by
  unfold State.flipPlane
  generalize hpatch : List.foldl _ (false, s) (fins 4) = r
  have h1 : (quietView n).Same s r.2 := by
    rw [← hpatch]
    refine foldl_same (fins 4) ?_ (false, s)
    rintro ⟨t, u⟩ i -
    exact u.tearPatch_quiet p i
  obtain ⟨torn, u⟩ := r
  simp only at h1 ⊢
  generalize hstrip : List.foldl _ (false, u) (fins 4) = r
  have h2 : (quietView n).Same u r.2 := by
    rw [← hstrip]
    refine foldl_same (fins 4) ?_ (false, u)
    rintro ⟨t, w⟩ q -
    exact w.tearStrip_quiet p q
  obtain ⟨split, w⟩ := r
  exact (h1.trans h2).trans (w.flipEnd_quiet p k _)

theorem State.samplePlanes_quiet (s : State) : (quietView n).Same s s.samplePlanes :=
  forAll_same allPlanes (fun t p _ => (t.ing_quiet _).trans (State.put_quiet _ _ (apart_plane n p _ (by simp)))) s

theorem State.flips_quiet (s : State) (k : Int) : (quietView n).Same s (s.flips k).2 :=
  (forAll_same _ (fun t p _ => t.flipPlane_quiet p k) s).trans
    (forAll_same _ (fun t _ _ => (t.setBit_quiet _ (apart_plane n 0 _ (by simp))).trans (State.sqsEvent_quiet _ _ _ _)) _)

end Quiet

end Sys2Proof.Machine

namespace Sys2Proof.Machine

section Quiet

variable {n : QuadId}

/-! #### The band (R250 to R256) -/

/-- A fault of the emission unit, or none. -/
theorem State.emwIf_quiet (s : State) (b : Prop) [Decidable b] {f : Fld} (c : Nat) (k : Int) (hf : apart (quietView n).fields f = true) :
    (quietView n).Same s (if b then (s.set f).emwFault c k else s) := by
  split
  · exact s.emwSet_quiet c k hf
  · exact .refl _ s

/-- The live band changed to `b`. -/
theorem State.bandChange_quiet (s : State) (c : Prop) [Decidable c] (b : Nat) (k : Int) :
    (quietView n).Same s (if c then
      ((s.put F.EMW_STATUS_LIVE_BAND b).wr A.EMW_BAND_FRAME (BitVec.ofNat 32 (unsigned 32 k))).sqsEvent 0x43 b (unsigned 32 k)
      else s) := by
  split
  · exact ((s.put_quiet _ (apart_emw n F.EMW_STATUS_LIVE_BAND (by simp))).trans
      (State.wr_quiet _ _ (apart_emw n (whole A.EMW_BAND_FRAME) (by simp)))).trans (State.sqsEvent_quiet _ _ _ _)
  · exact .refl _ s

theorem State.applyBand_quiet (s : State) (bad : List Nat) (k : Int) : (quietView n).Same s (s.applyBand bad k) := by
  have he := apart_emw n
  have h1 := s.emwIf_quiet (n := n) (s.chooseBand.limitBad = true) 4 k (he F.EMW_STATUS_LIMIT_BAD (by simp))
  unfold State.applyBand
  simp only
  generalize (if s.chooseBand.limitBad = true then _ else s) = s1 at h1 ⊢
  have h2 := h1.trans (s1.emwIf_quiet (n := n) (s.chooseBand.override = true) 3 k (he F.EMW_STATUS_PIN_OVERRIDE (by simp)))
  generalize (if s.chooseBand.override = true then _ else s1) = s2 at h2 ⊢
  generalize s2.waveOk bad s.chooseBand.band = ok
  have h3 : (quietView n).Same s (if ok = true then { s2 with emw := { s2.emw with chosen := s.chooseBand.chosen } } else s2) := by
    split
    · exact h2.trans (s2.emw_quiet _)
    · exact h2
  generalize (if ok = true then { s2 with emw := { s2.emw with chosen := s.chooseBand.chosen } } else s2) = s3 at h3 ⊢
  have h4 : (quietView n).Same s (if ok = true then s3 else (s3.set F.EMW_STATUS_WAVE_BAD).emwFault 1 k) := by
    split
    · exact h3
    · exact h3.trans (s3.emwSet_quiet 1 k (he _ (by simp)))
  generalize (if ok = true then s3 else (s3.set F.EMW_STATUS_WAVE_BAD).emwFault 1 k) = s4 at h4 ⊢
  have h5 := h4.trans (s4.bandChange_quiet (n := n) ((ok && s.chooseBand.band != s2.get F.EMW_STATUS_LIVE_BAND) = true)
    s.chooseBand.band k)
  generalize (if (ok && s.chooseBand.band != s2.get F.EMW_STATUS_LIVE_BAND) = true then _ else s4) = s5 at h5 ⊢
  split
  · exact h5
  · exact h5.trans (s5.emwSet_quiet 5 k (he F.EMW_STATUS_FALLBACK_BAD (by simp)))

/-! #### What a quadrant samples (R183, R213, R232) -/

theorem apart_sampled : ∀ n m : QuadId, ∀ f ∈ [F.SYN_STATUS_EFF_PLANES m, F.SYN_STATUS_CAPPED m, F.CMP_STATUS_OVL_LIVE m,
    F.CMP_STATUS_LB_OVERFLOW m, F.CMP_STATUS_RECT_BAD m, F.CMP_STATUS_FMT_BAD m, F.MAP_STATUS_RANGE_BAD m, F.MAP_STATUS_HELD m,
    F.MAP_STATUS_LIVE_EN m, F.MAP_STATUS_LIVE_BANK m, whole (A.MAP_FRAME m), F.GEO_FLAGS_RATIO_BAD m, F.CMP_STATUS_COMMIT_HELD m],
    apart (quietView n).fields f = true := by decide +kernel

theorem State.sampleNeff_quiet (s : State) (m : QuadId) : (quietView n).Same s (s.sampleNeff m) :=
  (s.put_quiet _ (apart_sampled n m (F.SYN_STATUS_EFF_PLANES m) (by simp))).trans
    (State.setIf_quiet _ _ (apart_sampled n m (F.SYN_STATUS_CAPPED m) (by simp)))

/-- A flag of an overlay set where a check fails. -/
theorem State.setBitIf_quiet (s : State) (b : Bool) {f : Fld} (o : Nat) (hf : apart (quietView n).fields f = true) :
    (quietView n).Same s (if b then s.setBit f o else s) := by
  split
  · exact s.setBit_quiet o hf
  · exact .refl _ s

theorem State.checkOverlay_quiet (s : State) (m : QuadId) (k : Int) (o : Fin 2) : (quietView n).Same s (s.checkOverlay m k o) := by
  have hf := apart_sampled n m
  unfold State.checkOverlay
  simp only
  generalize ((s.ovl m o).scale && decide (4096 < (s.ovl m o).srcW)) = lb
  generalize (_ || decide (s.hogelRows < (s.ovl m o).y + (s.ovl m o).h)) = rect
  generalize (if (s.ovl m o).packed = true then _ else _) = fmt
  split
  · split
    · have h1 := s.setBitIf_quiet lb o (hf (F.CMP_STATUS_LB_OVERFLOW m) (by simp))
      have h2 := h1.trans (State.setBitIf_quiet _ rect o (hf (F.CMP_STATUS_RECT_BAD m) (by simp)))
      have h3 := h2.trans (State.setBitIf_quiet _ fmt o (hf (F.CMP_STATUS_FMT_BAD m) (by simp)))
      exact h3.trans ((State.put_quiet _ _ (hf (F.CMP_STATUS_OVL_LIVE m) (by simp))).trans (State.quadEvent_quiet _ _ _ _ _))
    · exact s.setBit_quiet o (hf (F.CMP_STATUS_OVL_LIVE m) (by simp))
  · exact s.put_quiet _ (hf (F.CMP_STATUS_OVL_LIVE m) (by simp))

theorem State.setMp_quiet (s : State) (m : QuadId) (x : MapUnit) : (quietView n).Same s (s.setMp m x) := quiet_of_regs rfl rfl

theorem State.mapSelect_quiet (s : State) (m : QuadId) (k : Int) : (quietView n).Same s (s.mapSelect m k) := by
  have hf := apart_sampled n m
  unfold State.mapSelect
  simp only
  split
  · exact .refl _ s
  · split
    · exact s.set_quiet (hf (F.MAP_STATUS_RANGE_BAD m) (by simp))
    · split
      · exact (s.set_quiet (hf (F.MAP_STATUS_HELD m) (by simp))).trans (State.quadEvent_quiet _ _ _ _ _)
      · exact (((s.put_quiet _ (hf (F.MAP_STATUS_LIVE_EN m) (by simp))).trans
          (State.put_quiet _ _ (hf (F.MAP_STATUS_LIVE_BANK m) (by simp)))).trans
          (State.wr_quiet _ _ (hf (whole (A.MAP_FRAME m)) (by simp)))).trans (State.setMp_quiet _ _ _)

/-! #### The frame that begins (R26, R401) -/

theorem apart_frame : ∀ n m : QuadId, ∀ f ∈ [F.MAP_STATUS_STREAM_DONE m, whole (A.MAP_LEVEL m), whole (A.MAP_LEVEL_FRAME m),
    whole (A.DRAM_BW_RD m), whole (A.DRAM_BW_WR m), whole (A.DRAM_BW_FRAME m), whole (A.DRAM_RAW m)],
    apart (quietView n).fields f = true := by decide +kernel

/-- A composition unit replaced by one whose COMMIT completed, or not, as before. -/
theorem State.setCm_quiet (s : State) {m : QuadId} {x : CmpUnit} (h1 : x.late = (s.cm m).late) (h2 : x.lateOnly = (s.cm m).lateOnly) :
    (quietView n).Same s (s.setCm m x) := by
  have hcm : (((s.setCm m x).cm n).late, ((s.setCm m x).cm n).lateOnly) = ((s.cm n).late, (s.cm n).lateOnly) := by
    by_cases h : n = m
    · subst h
      simp [State.cm, State.setCm, h1, h2]
    · have : m.val ≠ n.val := fun e => h (Fin.ext e.symm)
      simp [State.cm, State.setCm, this]
  refine quiet_of_regs rfl ?_
  simp only [quietView, lateView, hcm]
  rfl

theorem State.mapStart_quiet (s : State) (m : QuadId) (k : Int) : (quietView n).Same s (s.mapStart m k) := by
  have hf := apart_frame n m
  exact (((s.clr_quiet (hf (F.MAP_STATUS_STREAM_DONE m) (by simp))).trans (State.setMp_quiet _ _ _)).trans
    (State.wr_quiet _ _ (hf (whole (A.MAP_LEVEL m)) (by simp)))).trans
    (State.wr_quiet _ _ (hf (whole (A.MAP_LEVEL_FRAME m)) (by simp)))

theorem State.newFrame_quiet (s : State) (m : QuadId) (k : Int) : (quietView n).Same s (s.newFrame m k) := by
  unfold State.newFrame
  refine View.Same.trans (State.setCm_quiet s ?_ ?_) (State.mapStart_quiet _ m k)
  · rfl
  · rfl

theorem State.setDr_quiet (s : State) (m : QuadId) (d : DramUnit) : (quietView n).Same s (s.setDr m d) := quiet_of_regs rfl rfl

theorem State.bandwidthCopy_quiet (s : State) (m : QuadId) (frame : Nat) : (quietView n).Same s (s.bandwidthCopy m frame) := by
  have hf := apart_frame n m
  unfold State.bandwidthCopy
  simp only
  refine View.Same.trans ?_ (State.setDr_quiet _ _ _)
  refine View.Same.trans ?_ (State.wr_quiet _ _ (hf (whole (A.DRAM_RAW m)) (by simp)))
  refine View.Same.trans ?_ (State.wr_quiet _ _ (hf (whole (A.DRAM_BW_FRAME m)) (by simp)))
  exact (s.wr_quiet _ (hf (whole (A.DRAM_BW_RD m)) (by simp))).trans
    (State.wr_quiet _ _ (hf (whole (A.DRAM_BW_WR m)) (by simp)))

/-! #### Packets and METRIC frames (R274, R323) -/

theorem apart_nbr : ∀ n : QuadId, ∀ q : NbrId, ∀ f ∈ [F.NBR_STATUS_TX_SLEEP q, F.NBR_STATUS_CREDITS q],
    apart (quietView n).fields f = true := by decide +kernel

theorem State.setGroup_quiet (s : State) (x : GroupId) (g : TplGroup) : (quietView n).Same s (s.setGroup x g) := quiet_of_regs rfl rfl

theorem State.tplPut_quiet (s : State) (x : GroupId) (t : Bool → BitVec 58 → TplTx) : (quietView n).Same s (s.tplPut x t) :=
  (s.draw_quiet 58).trans (State.setGroup_quiet _ _ _)

theorem State.tplSend_quiet (s : State) (x : GroupId) (p : TplPacket) : (quietView n).Same s (s.tplSend x p) := by
  unfold State.tplSend
  split
  · unfold State.tplSendOn
    generalize hr : (if s.mapClash x = true then s.freeBytes p.payload.length else (p.payload, s)) = r
    have h1 : (quietView n).Same s r.2 := by
      rw [← hr]
      split
      · exact s.draw_quiet (8 * p.payload.length)
      · exact .refl _ s
    exact h1.trans (State.tplPut_quiet _ _ _)
  · exact .refl _ s

theorem State.tplCmd_quiet (s : State) (x : GroupId) (dest : Nat) (c : TplCmd) : (quietView n).Same s (s.tplCmd x dest c) :=
  s.tplSend_quiet x _

theorem State.blanking_quiet (s : State) (bad : List Nat) (takers : List QuadId) (k : Int) (x : GroupId) :
    (quietView n).Same s (s.blanking bad takers k x) := by
  unfold State.blanking
  simp only
  refine View.Same.trans ?_ (State.tplCmd_quiet _ _ _ _)
  split
  · have h1 : (quietView n).Same s (forAll (List.range (s.cdics x)) s fun s' d =>
        if (s'.tplSend x (s'.wavePacket bad x k d (s.get F.EMW_STATUS_LIVE_BAND) 0)).waveOk bad s.fallbackBand = true then
          (s'.tplSend x (s'.wavePacket bad x k d (s.get F.EMW_STATUS_LIVE_BAND) 0)).tplSend x
            ((s'.tplSend x (s'.wavePacket bad x k d (s.get F.EMW_STATUS_LIVE_BAND) 0)).wavePacket bad x k d s.fallbackBand 1)
        else s'.tplSend x (s'.wavePacket bad x k d (s.get F.EMW_STATUS_LIVE_BAND) 0)) := by
      refine forAll_same _ (fun t d _ => ?_) s
      split
      · exact (t.tplSend_quiet x _).trans (State.tplSend_quiet _ x _)
      · exact t.tplSend_quiet x _
    split
    · exact h1.trans (State.setGroup_quiet _ _ _)
    · exact h1
  · exact .refl _ s

theorem State.nbrPut_quiet (s : State) (q : NbrId) (w : NbrSends) : (quietView n).Same s (s.nbrPut q w) := quiet_of_regs rfl rfl

theorem State.nbrWake_quiet (s : State) (q : NbrId) : (quietView n).Same s (s.nbrWake q) := by
  unfold State.nbrWake
  simp only
  split
  · exact ((s.setPort_quiet q _).trans (State.clr_quiet _ (apart_nbr n q (F.NBR_STATUS_TX_SLEEP q) (by simp)))).trans
      ((State.draw_quiet _ 48).trans (State.nbrPut_quiet _ _ _))
  · exact s.setPort_quiet q _

theorem State.nbrSend_quiet (s : State) (q : NbrId) (f : NbrFrame) : (quietView n).Same s (s.nbrSend q f) := by
  have h := (s.nbrWake_quiet (n := n) q).trans (State.put_quiet _ ((s.nbrWake q).get (F.NBR_STATUS_CREDITS q) - nbrCost f.payload.length)
    (apart_nbr n q (F.NBR_STATUS_CREDITS q) (by simp)))
  unfold State.nbrSend
  simp only
  split
  · exact h.trans ((State.setPort_quiet _ _ _).trans (State.nbrPut_quiet _ _ _))
  · exact h

theorem State.metricLaunch_quiet (s : State) (q : NbrId) (at_ k band : Nat) : (quietView n).Same s (s.metricLaunch q at_ k band) := by
  unfold State.metricLaunch
  split
  · exact (s.setPort_quiet q _).trans (State.nbrSend_quiet _ _ _)
  · exact .refl _ s

end Quiet

end Sys2Proof.Machine

namespace Sys2Proof.Machine

section Quiet

variable {n : QuadId}

/-! ### The COMMIT of a quadrant at its latch (R220 to R222) -/

/-- Every address of a shadow register names its quadrant. -/
theorem quadAt_shadowRegs : ∀ m : QuadId, ∀ a ∈ shadowRegs m, quadAt a = m := by decide +kernel

theorem apart_commit : ∀ n m : QuadId, m ≠ n → ∀ f ∈ [F.CMP_STATUS_PENDING m, whole (A.CMP_COMMIT_FRAME m)],
    apart (quietView n).fields f = true := by decide +kernel

/-- The live words after the shadow copy of the registers `l`. -/
theorem forAll_liveWr (l : List Nat) (s : State) :
    (forAll l s fun s a => s.liveWr a (s.keptRd a)) = { s with live := (forAll l s fun s a => s.liveWr a (s.keptRd a)).live } ∧
      ∀ x, (forAll l s fun s a => s.liveWr a (s.keptRd a)).liveRd x = if x ∈ l then s.keptRd x else s.liveRd x := by
  induction l generalizing s with
  | nil => exact ⟨rfl, fun x => by simp [forAll]⟩
  | cons a l ih =>
    obtain ⟨h1, h2⟩ := ih (s.liveWr a (s.keptRd a))
    rw [forAll_cons]
    refine ⟨h1, fun x => ?_⟩
    rw [h2 x]
    have hk : (s.liveWr a (s.keptRd a)).keptRd x = s.keptRd x := rfl
    by_cases hx : x = a
    · subst hx
      simp [hk]
    · have hl : (s.liveWr a (s.keptRd a)).liveRd x = s.liveRd x := sparseGet_set_other _ _ _ _ hx
      simp only [hk, hl, List.mem_cons, hx, false_or]

/-- The report of the ratios that have become live (R148), and the end of the COMMIT. -/
def State.copied (s : State) (m : QuadId) : State :=
  let bad := (List.range 16).filter fun p => let (x, y) := s.ratios m p; !(ratioOk x && ratioOk y)
  let s := forAll bad s fun s p => s.setBit (F.GEO_FLAGS_RATIO_BAD m) p
  s.clr (F.CMP_STATUS_PENDING m)

theorem State.shadowCopy_eq (s : State) (m : QuadId) :
    s.shadowCopy m = (forAll (shadowRegs m) s fun s a => s.liveWr a (s.keptRd a)).copied m := rfl

theorem ratioBad_quiet (s : State) (m : QuadId) (bad : List Nat) :
    (quietView n).Same s (forAll bad s fun s p => s.setBit (F.GEO_FLAGS_RATIO_BAD m) p) :=
  forAll_same bad (fun t p _ => t.setBit_quiet p (apart_sampled n m (F.GEO_FLAGS_RATIO_BAD m) (by simp))) s

/-- The live words of a quadrant are its own. -/
theorem State.liveCopy_quiet (s : State) {m : QuadId} (hm : m ≠ n) :
    (quietView n).Same s (forAll (shadowRegs m) s fun s a => s.liveWr a (s.keptRd a)) := by
  obtain ⟨h1, h2⟩ := forAll_liveWr (shadowRegs m) s
  generalize (forAll (shadowRegs m) s fun s a => s.liveWr a (s.keptRd a)) = t at h1 h2
  have hlive : (shadowRegs n).map t.liveRd = (shadowRegs n).map s.liveRd := by
    refine List.map_congr_left fun a ha => ?_
    rw [h2, if_neg]
    exact fun h => hm ((quadAt_shadowRegs m a h).symm.trans (quadAt_shadowRegs n a ha))
  refine quiet_of_regs (by rw [h1]) ?_
  simp only [quietView, liveView, hlive]
  rw [h1]
  rfl

theorem State.copied_quiet (s : State) {m : QuadId} (hm : m ≠ n) : (quietView n).Same s (s.copied m) := by
  unfold State.copied
  exact (ratioBad_quiet s m _).trans (State.clr_quiet _ (apart_commit n m hm _ (by simp)))

theorem State.commitAt_quiet (s : State) {m : QuadId} (hm : m ≠ n) (k : Int) (gs : List Nat) :
    (quietView n).Same s (s.commitAt m k gs) := by
  unfold State.commitAt
  split
  · simp only
    split
    · exact (s.set_quiet (apart_sampled n m (F.CMP_STATUS_COMMIT_HELD m) (by simp))).trans
        (State.wr_quiet _ _ (apart_commit n m hm _ (by simp)))
    · rw [s.shadowCopy_eq m]
      exact (s.liveCopy_quiet hm).trans (State.copied_quiet _ hm)
  · exact .refl _ s

theorem State.commitNext_quiet (s : State) {m : QuadId} (hm : m ≠ n) (k : Int) : (quietView n).Same s (s.commitNext m k) := by
  have hcm (x : CmpUnit) : (quietView n).Same s (s.setCm m x) := by
    have : m.val ≠ n.val := fun e => hm (Fin.ext e)
    have hcm : (((s.setCm m x).cm n).late, ((s.setCm m x).cm n).lateOnly) = ((s.cm n).late, (s.cm n).lateOnly) := by
      simp [State.cm, State.setCm, this]
    refine quiet_of_regs rfl ?_
    simp only [quietView, lateView, hcm]
    rfl
  unfold State.commitNext
  split
  · exact ((hcm _).trans (State.set_quiet _ (apart_commit n m hm (F.CMP_STATUS_PENDING m) (by simp)))).trans
      (State.wr_quiet _ _ (apart_commit n m hm (whole (A.CMP_COMMIT_FRAME m)) (by simp)))
  · exact .refl _ s

/-! ### The quadrant's own COMMIT -/

/-- All that a latch keeps of quadrant `n`, but its live values. -/
def shadowView (n : QuadId) :=
  View.mk (fun s : State => ((steadyView n).core s, (scanView n).core s, (lateView n).core s, keepView.core s))
    ((steadyView n).fields ++ (scanView n).fields)

theorem View.Same.shadow {s t : State} (h : (quietView n).Same s t) : (shadowView n).Same s t :=
  h.less (p := fun x => (x.1, x.2.1, x.2.2.2.1, x.2.2.2.2)) (fun _ => rfl) (by simp [quietView, shadowView])

theorem fit_shadowView (n : QuadId) : fit (shadowView n).fields = true := by revert n; decide +kernel

theorem apart_shadow : ∀ n : QuadId, ∀ f ∈ [F.CMP_STATUS_PENDING n, whole (A.CMP_COMMIT_FRAME n)],
    apart (shadowView n).fields f = true := by decide +kernel

theorem shadow_of_bitsKept {s t : State} {l : List Fld} (hl : ∀ g ∈ l, apart (shadowView n).fields g = true) (hb : BitsKept l s t)
    (hc : (shadowView n).core t = (shadowView n).core s) : (shadowView n).Same s t :=
  View.same_of_bitsKept hc (fit_shadowView n) hl hb

theorem State.liveCopy_shadow (s : State) :
    (shadowView n).Same s (forAll (shadowRegs n) s fun s a => s.liveWr a (s.keptRd a)) := by
  obtain ⟨h1, -⟩ := forAll_liveWr (shadowRegs n) s
  generalize (forAll (shadowRegs n) s fun s a => s.liveWr a (s.keptRd a)) = t at h1
  refine shadow_of_bitsKept (l := []) (by simp) (.of_regs ?_) ?_
  · rw [h1]
  · rw [h1]; rfl

theorem State.copied_shadow (s : State) : (shadowView n).Same s (s.copied n) := by
  unfold State.copied
  simp only
  generalize List.filter _ (List.range 16) = bad
  refine (ratioBad_quiet s n bad).shadow.trans ?_
  generalize (forAll bad s fun s p => s.setBit (F.GEO_FLAGS_RATIO_BAD n) p) = t
  exact shadow_of_bitsKept (l := [F.CMP_STATUS_PENDING n]) (by simpa using apart_shadow n _ (by simp)) (t.clr_bitsKept _) rfl

/-- A COMMIT at its latch touches of its quadrant only what is live and pending. -/
theorem State.commitAt_shadow (s : State) (k : Int) (gs : List Nat) : (shadowView n).Same s (s.commitAt n k gs) := by
  unfold State.commitAt
  split
  · simp only
    split
    · refine (s.set_quiet (apart_sampled n n (F.CMP_STATUS_COMMIT_HELD n) (by simp))).shadow.trans ?_
      generalize s.set (F.CMP_STATUS_COMMIT_HELD n) = t
      exact shadow_of_bitsKept (l := [whole (A.CMP_COMMIT_FRAME n)]) (by simpa using apart_shadow n _ (by simp))
        (t.wr_bitsKept _ _) rfl
    · rw [s.shadowCopy_eq n]
      exact s.liveCopy_shadow.trans (State.copied_shadow _)
  · exact .refl _ s

/-- A COMMIT that is not to take effect at the latch changes nothing. -/
theorem State.commitAt_of_not {s : State} (k : Int) (gs : List Nat)
    (h : s.flag (F.CMP_STATUS_PENDING n) = false ∨ (s.cm n).lateOnly = true) : s.commitAt n k gs = s := by
  unfold State.commitAt
  rw [if_neg]
  rcases h with h | h <;> simp [h]

/-- A COMMIT that waits for no sync group makes live every shadow word as the latch is to see it. -/
theorem State.commitAt_copies {s : State} (k : Int) (gs : List Nat) (h1 : s.flag (F.CMP_STATUS_PENDING n) = true)
    (h2 : (s.cm n).lateOnly = false) (h3 : s.keptGet (F.CMP_CFG_COMMIT_GROUP n) = 0) :
    (∀ a ∈ shadowRegs n, (s.commitAt n k gs).liveRd a = s.keptRd a) ∧
      (s.commitAt n k gs).flag (F.CMP_STATUS_PENDING n) = false := by
  have heq : s.commitAt n k gs = s.shadowCopy n := by simp [State.commitAt, h1, h2, h3]
  have hlive := (forAll_liveWr (shadowRegs n) s).2
  rw [heq, s.shadowCopy_eq n]
  generalize (forAll (shadowRegs n) s fun s a => s.liveWr a (s.keptRd a)) = u at hlive
  constructor
  · intro a ha
    have h := (ratioBad_quiet (n := n) u n ((List.range 16).filter fun p => let (x, y) := u.ratios n p; !(ratioOk x && ratioOk y))).live.1
    have : (u.copied n).liveRd a = u.liveRd a := List.map_inj_left.mp h a ha
    rw [this, hlive a, if_pos ha]
  · have : (u.copied n).get (F.CMP_STATUS_PENDING n) = 0 := State.get_clr _ (by simp)
    simp [State.flag, this]

/-- After its latch a COMMIT that completed at the very instant is pending for the next frame (R221). -/
theorem State.commitNext_late {s : State} (k : Int) (h : (s.cm n).late = true) :
    (s.commitNext n k).flag (F.CMP_STATUS_PENDING n) = true ∧
      (s.commitNext n k).rd (A.CMP_COMMIT_FRAME n) = BitVec.ofNat 32 (unsigned 32 (k + 1)) := by
  unfold State.commitNext
  rw [if_pos h]
  refine ⟨?_, State.rd_wr_same _ _ _⟩
  rw [(State.wr_bitsKept _ _ _).flag_eq (by simp) (by simp [whole])]
  exact State.flag_set _ (by simp) (by simp)

theorem State.commitNext_of_not {s : State} (k : Int) (h : (s.cm n).late = false) : s.commitNext n k = s := by
  simp [State.commitNext, h]

/-- What a latch keeps of quadrant `n` beside its COMMIT: its steady part, its scan and its live values. -/
def scannedView (n : QuadId) :=
  View.mk (fun s : State => ((steadyView n).core s, (scanView n).core s, (liveView n).core s))
    ((steadyView n).fields ++ (scanView n).fields)

theorem fit_scannedView (n : QuadId) : fit (scannedView n).fields = true := by revert n; decide +kernel

theorem apart_scanned : ∀ n : QuadId, ∀ f ∈ [F.CMP_STATUS_PENDING n, whole (A.CMP_COMMIT_FRAME n)],
    apart (scannedView n).fields f = true := by decide +kernel

theorem State.commitNext_scanned (s : State) (k : Int) : (scannedView n).Same s (s.commitNext n k) := by
  have hf := apart_scanned n
  unfold State.commitNext
  split
  · refine View.same_of_bitsKept (l := [F.CMP_STATUS_PENDING n, whole (A.CMP_COMMIT_FRAME n)]) rfl (fit_scannedView n) hf ?_
    exact (BitsKept.of_regs rfl).trans (((State.set_bitsKept _ _).mono (by simp)).trans ((State.wr_bitsKept _ _ _).mono (by simp)))
  · exact .refl _ s

end Quiet

end Sys2Proof.Machine

namespace Sys2Proof.Machine

section Quiet

variable {n : QuadId}

/-! ### The scan states at a latch (R239 to R243) -/

theorem apart_scan : ∀ n m : QuadId, m ≠ n → ∀ f ∈ [F.SCAN_STATUS_STATE m, F.SCAN_FLAGS_STOPPED m, F.SCAN_FLAGS_REFUSED m,
    whole (A.SCAN_REFUSE m), whole (A.SCAN_START_FRAME m)], apart (quietView n).fields f = true := by decide +kernel

theorem State.setScan_quiet (s : State) {m : QuadId} (hm : m ≠ n) (u : ScanUnit) : (quietView n).Same s (s.setScan m u) := by
  have hscan : (s.setScan m u).scan[n] = s.scan[n] := by
    have : m.val ≠ n.val := fun e => hm (Fin.ext e)
    simp [State.setScan, State.put, State.wr, this]
  refine quiet_of_bitsKept (l := [F.SCAN_STATUS_STATE m]) (by simpa using apart_scan n m hm _ (by simp))
    ((BitsKept.of_regs rfl).trans (State.put_bitsKept _ _ _)) ?_
  simp only [quietView, scanView, hscan]
  rfl

theorem State.scanEvent_quiet (s : State) (m : QuadId) (c : Nat) (k : Int) : (quietView n).Same s (s.scanEvent m c k) :=
  (s.quadEvent_quiet m _ _ _).trans (State.sqsEvent_quiet _ _ _ _)

theorem State.refuseStart_quiet (s : State) {m : QuadId} (hm : m ≠ n) (r frame : Nat) :
    (quietView n).Same s (s.refuseStart m r frame) := by
  have hf := apart_scan n m hm
  exact ((s.set_quiet (hf (F.SCAN_FLAGS_REFUSED m) (by simp))).trans (State.wr_quiet _ _ (hf (whole (A.SCAN_REFUSE m)) (by simp)))).trans
    ((State.quadEvent_quiet _ _ _ _ _).trans (State.sqsEvent_quiet _ _ _ _))

theorem State.scanLatch_quiet (s : State) {m : QuadId} (hm : m ≠ n) (k : Int) (bad : List Nat) :
    (quietView n).Same s (s.scanLatch m k bad).2 := by
  have hf := apart_scan n m hm
  unfold State.scanLatch
  simp only
  split
  · exact .refl _ s
  · exact .refl _ s
  · split
    · exact s.setScan_quiet hm _
    · exact (s.setScan_quiet hm _).trans ((State.set_quiet _ (hf (F.SCAN_FLAGS_STOPPED m) (by simp))).trans
        (State.scanEvent_quiet _ _ _ _))
  · split
    · split
      · exact (s.setScan_quiet hm _).trans ((State.wr_quiet _ _ (hf (whole (A.SCAN_START_FRAME m)) (by simp))).trans
          (State.scanEvent_quiet _ _ _ _))
      · exact (s.setScan_quiet hm _).trans (State.refuseStart_quiet _ hm _ _)
    · exact .refl _ s

/-! #### The quadrant's own scan -/

/-- All that a latch keeps of quadrant `n`, but its scan. -/
def restView (n : QuadId) :=
  View.mk (fun s : State => ((steadyView n).core s, (liveView n).core s, (lateView n).core s, keepView.core s))
    ((steadyView n).fields ++ (liveView n).fields)

theorem View.Same.rest {s t : State} (h : (quietView n).Same s t) : (restView n).Same s t :=
  h.less (p := fun x => (x.1, x.2.2.1, x.2.2.2.1, x.2.2.2.2)) (fun _ => rfl) (by simp [quietView, restView])

theorem fit_restView (n : QuadId) : fit (restView n).fields = true := by revert n; decide +kernel

theorem apart_rest : ∀ n : QuadId, ∀ f ∈ [F.SCAN_STATUS_STATE n, F.SCAN_FLAGS_STOPPED n, F.SCAN_FLAGS_REFUSED n,
    whole (A.SCAN_REFUSE n), whole (A.SCAN_START_FRAME n)], apart (restView n).fields f = true := by decide +kernel

theorem rest_of_bitsKept {s t : State} {l : List Fld} (hl : ∀ g ∈ l, apart (restView n).fields g = true) (hb : BitsKept l s t)
    (hc : (restView n).core t = (restView n).core s) : (restView n).Same s t :=
  View.same_of_bitsKept hc (fit_restView n) hl hb

theorem State.setScan_rest (s : State) (u : ScanUnit) : (restView n).Same s (s.setScan n u) :=
  rest_of_bitsKept (l := [F.SCAN_STATUS_STATE n]) (by simpa using apart_rest n _ (by simp))
    ((BitsKept.of_regs rfl).trans (State.put_bitsKept _ _ _)) rfl

theorem State.set_rest (s : State) {f : Fld} (hf : apart (restView n).fields f = true) : (restView n).Same s (s.set f) :=
  rest_of_bitsKept (by simpa using hf) (s.set_bitsKept f) rfl

theorem State.wr_rest (s : State) {a : Nat} (v : Word) (hf : apart (restView n).fields (whole a) = true) :
    (restView n).Same s (s.wr a v) := rest_of_bitsKept (by simpa using hf) (s.wr_bitsKept a v) rfl

/-- A quadrant's scan state at a latch is apart from all else that the latch keeps. -/
theorem State.scanLatch_rest (s : State) (k : Int) (bad : List Nat) : (restView n).Same s (s.scanLatch n k bad).2 := by
  have hf := apart_rest n
  unfold State.scanLatch
  simp only
  split
  · exact .refl _ s
  · exact .refl _ s
  · split
    · exact s.setScan_rest _
    · exact (s.setScan_rest _).trans ((State.set_rest _ (hf (F.SCAN_FLAGS_STOPPED n) (by simp))).trans
        (State.scanEvent_quiet _ _ _ _).rest)
  · split
    · split
      · exact (s.setScan_rest _).trans ((State.wr_rest _ _ (hf (whole (A.SCAN_START_FRAME n)) (by simp))).trans
          (State.scanEvent_quiet _ _ _ _).rest)
      · exact (s.setScan_rest _).trans ((State.set_rest _ (hf (F.SCAN_FLAGS_REFUSED n) (by simp))).trans
          ((State.wr_rest _ _ (hf (whole (A.SCAN_REFUSE n)) (by simp))).trans
            ((State.quadEvent_quiet _ _ _ _ _).trans (State.sqsEvent_quiet _ _ _ _)).rest))
    · exact .refl _ s

@[simp] theorem State.scan_setScan_same (s : State) (u : ScanUnit) : (s.setScan n u).scan[n] = u := by
  simp [State.setScan, State.put, State.wr]

section Own

variable {s : State} (k : Int) (bad : List Nat)

theorem State.scanLatch_running (h : (s.scan[n]).run = .running) : s.scanLatch n k bad = (true, s) := by
  simp only [State.scanLatch, State.scanU, h]

theorem State.scanLatch_stopped (h : (s.scan[n]).run = .stopped) : s.scanLatch n k bad = (false, s) := by
  simp only [State.scanLatch, State.scanU, h]

/-- A quadrant's scan as a step apart from it leaves it. -/
theorem View.Same.run_eq {s t : State} (h : (quietView n).Same s t) : t.scan[n] = s.scan[n] := h.scan.1

/-- A quadrant that was to stop is STOPPED. -/
theorem State.scanLatch_stops (h : (s.scan[n]).run = .stopping) (hs : (s.scan[n]).stopNext = false) :
    ((s.scanLatch n k bad).2.scan[n]).run = .stopped ∧ (s.scanLatch n k bad).2.flag (F.SCAN_FLAGS_STOPPED n) = true := by
  have heq : s.scanLatch n k bad = (false, ((s.setScan n { s.scan[n] with run := .stopped, te := none }).set
      (F.SCAN_FLAGS_STOPPED n)).scanEvent n 1 k) := by
    simp only [State.scanLatch, State.scanU, h, hs, Bool.false_eq_true, if_false]
  have hev (u : State) := u.scanEvent_quiet (n := n) n 1 k
  rw [heq]
  refine ⟨?_, ?_⟩
  · rw [(hev _).run_eq]
    simp only [State.set_scan, State.scan_setScan_same]
  · rw [(hev _).scan.flag_eq (by simp [scanView])]
    exact State.flag_set _ (by simp) (by simp)

/-- A quadrant whose STOP came at the very instant stops at the next latch. -/
theorem State.scanLatch_stopNext (h : (s.scan[n]).run = .stopping) (hs : (s.scan[n]).stopNext = true) :
    ((s.scanLatch n k bad).2.scan[n]).run = .stopping ∧ ((s.scanLatch n k bad).2.scan[n]).stopNext = false := by
  simp only [State.scanLatch, State.scanU, h, hs, if_true, State.scan_setScan_same]
  exact ⟨trivial, trivial⟩

theorem State.scanLatch_armed_other (h : (s.scan[n]).run = .armed) (hk : (s.scan[n]).k0 ≠ some k) :
    s.scanLatch n k bad = (false, s) := by
  simp only [State.scanLatch, State.scanU, h, hk, if_false]

/-- A start refused is flagged with its reason. -/
theorem State.refuseStart_own (s : State) (r frame : Nat) :
    (s.refuseStart n r frame).scan[n] = s.scan[n] ∧ (s.refuseStart n r frame).flag (F.SCAN_FLAGS_REFUSED n) = true ∧
      (s.refuseStart n r frame).rd (A.SCAN_REFUSE n) = BitVec.ofNat 32 (r + 2 ^ 31) := by
  have hev (u : State) := (u.quadEvent_quiet (n := n) n 0x35 2 frame).trans (State.sqsEvent_quiet _ 0x35 2 frame)
  unfold State.refuseStart
  refine ⟨?_, ?_, ?_⟩
  · rw [(hev _).run_eq]
    simp only [State.wr_scan, State.set_scan]
  · rw [(hev _).scan.flag_eq (by simp [scanView]), (State.wr_bitsKept _ _ _).flag_eq (by simp) (by simp [whole])]
    exact State.flag_set _ (by simp) (by simp)
  · rw [(hev _).scan.rd_eq (by simp [scanView]), State.rd_wr_same]

/-- An ARMED quadrant at the latch of its start frame runs, or is refused. -/
theorem State.scanLatch_starts (h : (s.scan[n]).run = .armed) (hk : (s.scan[n]).k0 = some k) :
    let t := (s.scanLatch n k bad).2
    (t.scan[n]).run = .running ∧ t.rd (A.SCAN_START_FRAME n) = BitVec.ofNat 32 (unsigned 32 k) ∨
    s.startReason n k bad ≠ 0 ∧ (t.scan[n]).run = .stopped ∧ t.flag (F.SCAN_FLAGS_REFUSED n) = true ∧
      t.rd (A.SCAN_REFUSE n) = BitVec.ofNat 32 (s.startReason n k bad + 2 ^ 31) := by
  by_cases hr : s.startReason n k bad = 0
  · have heq : s.scanLatch n k bad = (true, ((s.setScan n { s.scan[n] with run := .running, k0 := none, te := some k }).wr
        (A.SCAN_START_FRAME n) (BitVec.ofNat 32 (unsigned 32 k))).scanEvent n 0 k) := by
      simp only [State.scanLatch, State.scanU, h, hk, if_true, hr]
    have hev (u : State) := u.scanEvent_quiet (n := n) n 0 k
    rw [heq]
    refine .inl ⟨?_, ?_⟩
    · rw [(hev _).run_eq]
      simp only [State.wr_scan, State.scan_setScan_same]
    · rw [(hev _).scan.rd_eq (by simp [scanView]), State.rd_wr_same]
  · have heq : s.scanLatch n k bad = (false, (s.setScan n { s.scan[n] with run := .stopped, k0 := none }).refuseStart n
        (s.startReason n k bad) (unsigned 32 k)) := by
      simp only [State.scanLatch, State.scanU, h, hk, if_true, hr, if_false]
    obtain ⟨h1, h2, h3⟩ := (s.setScan n { s.scan[n] with run := .stopped, k0 := none }).refuseStart_own
      (n := n) (s.startReason n k bad) (unsigned 32 k)
    rw [heq]
    exact .inr ⟨hr, by rw [h1, State.scan_setScan_same], h2, h3⟩

end Own

/-- A start is refused for one of eight reasons. -/
theorem State.startReason_le (s : State) (n : QuadId) (k : Int) (bad : List Nat) : s.startReason n k bad ≤ 8 := by
  unfold State.startReason
  repeat' split
  all_goals omega

theorem State.startReason_geo {s : State} (n : QuadId) (k : Int) (bad : List Nat) (h : s.geoOk = false) : s.startReason n k bad = 1 := by
  simp [State.startReason, h]

end Quiet

end Sys2Proof.Machine

namespace Sys2Proof.Machine

section Quiet

variable {n : QuadId}

/-! ### The quadrants' scan states in turn -/

/-- The scan state of quadrant `m` at the latch, and the quadrants so far that take it. -/
def scanStep (k : Int) (bad : List Nat) (r : List QuadId × State) (m : QuadId) : List QuadId × State :=
  (if (r.2.scanLatch m k bad).1 then r.1 ++ [m] else r.1, (r.2.scanLatch m k bad).2)

theorem State.scanLatches_eq (s : State) (k : Int) (bad : List Nat) : s.scanLatches k bad = allQuads.foldl (scanStep k bad) ([], s) := rfl

/-- The takers of a latch are among the quadrants asked, in their order. -/
theorem scanStep_takers (k : Int) (bad : List Nat) (l : List QuadId) (r : List QuadId × State) :
    ∃ took, (l.foldl (scanStep k bad) r).1 = r.1 ++ took ∧ took.Sublist l := by
  induction l generalizing r with
  | nil => exact ⟨[], by simp, .slnil⟩
  | cons m l ih =>
    obtain ⟨took, h1, h2⟩ := ih (scanStep k bad r m)
    rw [List.foldl_cons, h1]
    by_cases hm : (r.2.scanLatch m k bad).1 = true
    · exact ⟨m :: took, by simp [scanStep, hm], h2.cons_cons m⟩
    · exact ⟨took, by simp [scanStep, hm], h2.cons m⟩

/-- Quadrants other than `n` leave what is about `n`, and whether it takes the latch. -/
theorem scanStep_others (k : Int) (bad : List Nat) (l : List QuadId) (hl : n ∉ l) (r : List QuadId × State) :
    (quietView n).Same r.2 (l.foldl (scanStep k bad) r).2 ∧ (n ∈ (l.foldl (scanStep k bad) r).1 ↔ n ∈ r.1) := by
  constructor
  · exact foldl_same (f := scanStep k bad) l (fun r m hm => r.2.scanLatch_quiet (fun e : m = n => hl (e ▸ hm)) k bad) r
  · obtain ⟨took, h1, h2⟩ := scanStep_takers k bad l r
    rw [h1, List.mem_append]
    exact ⟨fun h => h.resolve_right fun h => hl (h2.subset h), .inl⟩

/-- What the latch makes of quadrant `n`'s scan is what it makes of it alone. -/
theorem State.scanLatches_own (s : State) (k : Int) (bad : List Nat) :
    ∃ u, (quietView n).Same s u ∧ (quietView n).Same (u.scanLatch n k bad).2 (s.scanLatches k bad).2 ∧
      (n ∈ (s.scanLatches k bad).1 ↔ (u.scanLatch n k bad).1 = true) := by
  have hnodup : allQuads.Nodup := by decide
  have hmem : n ∈ allQuads := by revert n; decide
  obtain ⟨a, b, hab⟩ := List.append_of_mem hmem
  have ha : n ∉ a ∧ n ∉ b := by
    rw [hab, List.nodup_append] at hnodup
    exact ⟨fun h => hnodup.2.2 n h n (by simp) rfl, (List.nodup_cons.mp hnodup.2.1).1⟩
  rw [s.scanLatches_eq, hab, List.foldl_append, List.foldl_cons]
  obtain ⟨h1, h2⟩ := scanStep_others k bad a ha.1 ([], s)
  generalize a.foldl (scanStep k bad) ([], s) = r at h1 h2
  obtain ⟨h3, h4⟩ := scanStep_others k bad b ha.2 (scanStep k bad r n)
  refine ⟨r.2, h1, h3, ?_⟩
  have hr : n ∉ r.1 := fun h => by simpa using h2.mp h
  rw [h4, scanStep]
  split
  · next h => simp [h]
  · next h => simp [h, hr]

/-- No quadrant takes a latch twice. -/
theorem State.scanLatches_nodup (s : State) (k : Int) (bad : List Nat) : (s.scanLatches k bad).1.Nodup := by
  obtain ⟨took, h1, h2⟩ := scanStep_takers k bad allQuads ([], s)
  rw [s.scanLatches_eq, h1, List.nil_append]
  exact h2.nodup (by decide)

/-! ### What the takers sample -/

/-- A quadrant's samples beside its COMMIT. -/
def State.sampled (s : State) (m : QuadId) (k : Int) : State :=
  (((s.sampleNeff m).checkOverlay m k 0).checkOverlay m k 1).mapSelect m k

theorem State.takeLatch_eq (s : State) (m : QuadId) (k : Int) (gs : List Nat) :
    s.takeLatch m k gs = (s.commitAt m k gs).sampled m k := rfl

theorem State.sampled_quiet (s : State) (m : QuadId) (k : Int) : (quietView n).Same s (s.sampled m k) :=
  (((s.sampleNeff_quiet m).trans (State.checkOverlay_quiet _ m k 0)).trans (State.checkOverlay_quiet _ m k 1)).trans
    (State.mapSelect_quiet _ m k)

theorem State.takeLatch_quiet (s : State) {m : QuadId} (hm : m ≠ n) (k : Int) (gs : List Nat) :
    (quietView n).Same s (s.takeLatch m k gs) := by
  rw [s.takeLatch_eq]
  exact (s.commitAt_quiet hm k gs).trans (State.sampled_quiet _ m k)

theorem forAll_append {α : Type} (l m : List α) (s : State) (f : State → α → State) :
    forAll (l ++ m) s f = forAll m (forAll l s f) f := List.foldl_append

/-- A step applied to every quadrant of a list is, for quadrant `n`, its own step. -/
theorem forAll_own {f : State → QuadId → State} {l : List QuadId} (hnodup : l.Nodup) (hn : n ∈ l)
    (h : ∀ s m, m ≠ n → (quietView n).Same s (f s m)) (s : State) :
    ∃ u, (quietView n).Same s u ∧ (quietView n).Same (f u n) (forAll l s f) := by
  obtain ⟨a, b, rfl⟩ := List.append_of_mem hn
  have ha : n ∉ a ∧ n ∉ b := by
    rw [List.nodup_append] at hnodup
    exact ⟨fun h => hnodup.2.2 n h n (by simp) rfl, (List.nodup_cons.mp hnodup.2.1).1⟩
  rw [forAll_append, forAll_cons]
  exact ⟨_, forAll_same a (fun s m hm => h s m fun e => ha.1 (e ▸ hm)) s,
    forAll_same b (fun s m hm => h s m fun e => ha.2 (e ▸ hm)) _⟩

/-- What the planes, the band and the takers sample, where some quadrant takes the latch. -/
def State.latchTaken (s : State) (k : Int) (bad : List Nat) (takers : List QuadId) : State :=
  if takers.isEmpty then s
  else
    let (gs, s) := s.samplePlanes.flips k
    let s := s.applyBand bad k
    let live := s.get F.EMW_STATUS_LIVE_BAND
    let capped (b : Nat) : Bool := decide (s.get F.EMW_IREF_CAP_CAP < s.tableIref bad b)
    let s := s.setIf (capped live || s.waveOk bad s.fallbackBand && capped s.fallbackBand) F.EMW_STATUS_IREF_CAPPED
    forAll takers s fun s n => s.takeLatch n k gs

/-- The COMMITs that completed at the instant of the latch, and the frame that begins. -/
def State.latchCommits (s : State) (k : Int) : State :=
  forAll allQuads s fun s n => ((s.commitNext n k).newFrame n k).bandwidthCopy n (unsigned 32 (k - 1))

/-- What the device sends after the latch. -/
def State.latchSent (s : State) (k : Int) (bad : List Nat) (takers : List QuadId) : State :=
  let s := forAll allGroups s fun s x => s.blanking bad takers k x
  let s := s.latchForgets
  let at_ := (s.latchAt k).toNat
  forAll (fins 4) s fun s q => s.metricLaunch q at_ (unsigned 32 k) (s.get F.EMW_STATUS_LIVE_BAND)

/-- The latch passed, the temperature formed and the tables checked. -/
def State.latchBegun (s : State) (k : Int) (bad : List Nat) : State :=
  (State.formTemp { s with frame := { s.frame with latch := some k } } k).waveParity bad

/-- The latch in its parts. -/
theorem State.latchNow_eq (s : State) (k : Int) (bad : List Nat) :
    s.latchNow k bad = let r := (s.latchBegun k bad).scanLatches k bad
      (((r.2.latchTaken k bad r.1).latchCommits k).latchSent k bad r.1).stayAdvance := rfl

theorem State.latchBegun_quiet (s : State) (k : Int) (bad : List Nat) :
    (quietView n).Same { s with frame := { s.frame with latch := some k } } (s.latchBegun k bad) :=
  (State.formTemp_quiet _ k).trans (State.waveParity_quiet _ bad)

/-- Without the quadrant among its takers a latch leaves what is about it. -/
theorem State.latchTaken_quiet (s : State) (k : Int) (bad : List Nat) {takers : List QuadId} (hn : n ∉ takers) :
    (quietView n).Same s (s.latchTaken k bad takers) := by
  unfold State.latchTaken
  split
  · exact .refl _ s
  · have h1 := s.samplePlanes_quiet.trans (s.samplePlanes.flips_quiet (n := n) k)
    generalize s.samplePlanes.flips k = r at h1
    obtain ⟨gs, u⟩ := r
    exact ((h1.trans (u.applyBand_quiet bad k)).trans (State.setIf_quiet _ _ (apart_emw n F.EMW_STATUS_IREF_CAPPED (by simp)))).trans
      (forAll_same takers (fun t m hm => t.takeLatch_quiet (fun e : m = n => hn (e ▸ hm)) k gs) _)

/-- A quadrant among the takers takes its COMMIT. -/
theorem State.latchTaken_own (s : State) (k : Int) (bad : List Nat) {takers : List QuadId} (hn : n ∈ takers) (hd : takers.Nodup) :
    ∃ u gs, (quietView n).Same s u ∧ (quietView n).Same (u.commitAt n k gs) (s.latchTaken k bad takers) := by
  have hne : takers.isEmpty = false := by
    cases takers with
    | nil => simp at hn
    | cons => rfl
  unfold State.latchTaken
  simp only [hne, Bool.false_eq_true, if_false]
  have h1 := s.samplePlanes_quiet.trans (s.samplePlanes.flips_quiet (n := n) k)
  generalize s.samplePlanes.flips k = r at h1
  obtain ⟨gs, u⟩ := r
  have h2 := (h1.trans (u.applyBand_quiet bad k)).trans (State.setIf_quiet _
    (decide ((u.applyBand bad k).get F.EMW_IREF_CAP_CAP < (u.applyBand bad k).tableIref bad ((u.applyBand bad k).get F.EMW_STATUS_LIVE_BAND)) ||
      (u.applyBand bad k).waveOk bad (u.applyBand bad k).fallbackBand &&
        decide ((u.applyBand bad k).get F.EMW_IREF_CAP_CAP < (u.applyBand bad k).tableIref bad (u.applyBand bad k).fallbackBand))
    (apart_emw n F.EMW_STATUS_IREF_CAPPED (by simp)))
  simp only
  generalize (u.applyBand bad k).setIf _ F.EMW_STATUS_IREF_CAPPED = w at h2 ⊢
  obtain ⟨v, h3, h4⟩ := forAll_own hd hn (f := fun s n => s.takeLatch n k gs) (fun t m hm => t.takeLatch_quiet hm k gs) w
  rw [State.takeLatch_eq] at h4
  exact ⟨v, gs, h2.trans h3, (State.sampled_quiet _ n k).trans h4⟩

theorem State.latchCommits_own (s : State) (k : Int) :
    ∃ u, (quietView n).Same s u ∧ (quietView n).Same (u.commitNext n k) (s.latchCommits k) := by
  obtain ⟨u, h1, h2⟩ := forAll_own (n := n) (l := allQuads) (by decide) (by revert n; decide)
    (f := fun s n => ((s.commitNext n k).newFrame n k).bandwidthCopy n (unsigned 32 (k - 1)))
    (fun t m hm => ((t.commitNext_quiet hm k).trans (State.newFrame_quiet _ m k)).trans (State.bandwidthCopy_quiet _ m _)) s
  exact ⟨u, h1, ((State.newFrame_quiet _ n k).trans (State.bandwidthCopy_quiet _ n _)).trans h2⟩

/-- What a latch keeps of quadrant `n` once its takers have sampled: its steady part, its scan, its live values and its COMMIT. -/
def passedView (n : QuadId) :=
  View.mk (fun s : State => ((steadyView n).core s, (scanView n).core s, (liveView n).core s))
    ((steadyView n).fields ++ (scanView n).fields ++ (liveView n).fields)

theorem fit_passedView (n : QuadId) : fit (passedView n).fields = true := by revert n; decide +kernel

theorem View.Same.passed {s t : State} (h : (quietView n).Same s t) : (passedView n).Same s t :=
  h.less (p := fun x => (x.1, x.2.1, x.2.2.1)) (fun _ => rfl) (List.Subset.refl _)

theorem State.latchForgets_passed (s : State) : (passedView n).Same s s.latchForgets :=
  View.same_of_bitsKept (l := []) rfl (fit_passedView n) (by simp) (.of_regs rfl)

theorem State.latchSent_passed (s : State) (k : Int) (bad : List Nat) (takers : List QuadId) :
    (passedView n).Same s (s.latchSent k bad takers) := by
  have h1 := forAll_same (v := quietView n) allGroups (fun t x _ => t.blanking_quiet bad takers k x) s
  unfold State.latchSent
  simp only
  generalize (forAll allGroups s fun s x => s.blanking bad takers k x) = u at h1
  refine h1.passed.trans (u.latchForgets_passed.trans ?_)
  exact (forAll_same (v := quietView n) (fins 4) (fun t q _ => t.metricLaunch_quiet q _ _ _) _).passed

/-! ### Stay entry goes on -/

/-- Outside Stay entry nothing of it goes on. -/
theorem State.stayAdvance_of_none {s : State} (h : s.power.entry = .none) : s.stayAdvance = s := by
  simp only [State.stayAdvance, h]

/-- The words that a step of Stay entry leaves: quadrant `n`'s shadow words and its live ones. -/
def wordsView (n : QuadId) := View.mk (fun s : State => (liveView n).core s) ((liveView n).fields ++ (shadowRegs n).map whole)

theorem fit_wordsView (n : QuadId) : fit (wordsView n).fields = true := by revert n; decide +kernel

theorem apart_words : ∀ n m : QuadId, apart (wordsView n).fields (F.SCAN_STATUS_STATE m) = true := by decide +kernel

theorem View.Same.words {s t : State} (h : (quietView n).Same s t) : (wordsView n).Same s t :=
  h.less (p := fun x => x.2.2.1) (fun _ => rfl) fun f hf => by
    simp only [quietView, wordsView, steadyView, List.mem_append, List.mem_cons] at hf ⊢
    tauto

theorem View.Same.words_of_passed {s t : State} (h : (passedView n).Same s t) : (wordsView n).Same s t :=
  h.less (p := fun x => x.2.2) (fun _ => rfl) fun f hf => by
    simp only [passedView, wordsView, steadyView, List.mem_append, List.mem_cons] at hf ⊢
    tauto

theorem State.setScan_words (s : State) (m : QuadId) (u : ScanUnit) : (wordsView n).Same s (s.setScan m u) :=
  View.same_of_bitsKept (l := [F.SCAN_STATUS_STATE m]) rfl (fit_wordsView n) (by simpa using apart_words n m)
    ((BitsKept.of_regs rfl).trans (State.put_bitsKept _ _ _))

theorem State.stayStops_words (s : State) : (wordsView n).Same s s.stayStops := by
  refine forAll_same allQuads (fun t m _ => ?_) s
  split
  · exact t.setScan_words m _
  · exact t.setScan_words m _
  · exact .refl _ t

theorem State.power_words (s : State) (p : PowerUnit) : (wordsView n).Same s { s with power := p } :=
  View.same_of_bitsKept (l := []) rfl (fit_wordsView n) (by simp) (.of_regs rfl)

/-- The wait for a slice test ends. -/
def State.stayWaited (s : State) : State :=
  match s.power.entry with
  | .waiting => if s.bist.cur.isSome then s else { s.stayStops with power := { s.power with entry := .stopping } }
  | _ => s

/-- The scan has ended, and STAY goes to every CDIC. -/
def State.stayEnded (s : State) : State :=
  match s.power.entry with
  | .stopping =>
    if allQuads.any fun n => match (s.scanU n).run with | .running => true | .stopping => true | _ => false then s
    else
      let s := forAll allGroups s fun s x => s.tplCmd x 15 .stay
      { s with power := { s.power with entry := .cdics s.wt.cycle } }
  | _ => s

theorem State.stayAdvance_eq (s : State) : s.stayAdvance = s.stayWaited.stayEnded := rfl

theorem State.stayWaited_words (s : State) : (wordsView n).Same s s.stayWaited := by
  unfold State.stayWaited
  split
  · split
    · exact .refl _ s
    · exact s.stayStops_words.trans (State.power_words _ _)
  · exact .refl _ s

theorem State.stayEnded_words (s : State) : (wordsView n).Same s s.stayEnded := by
  unfold State.stayEnded
  split
  · split
    · exact .refl _ s
    · exact (forAll_same (v := quietView n) allGroups (fun t x _ => t.tplCmd_quiet x 15 .stay) s).words.trans
        (State.power_words _ _)
  · exact .refl _ s

theorem State.stayAdvance_words (s : State) : (wordsView n).Same s s.stayAdvance := by
  rw [s.stayAdvance_eq]
  exact s.stayWaited_words.trans (State.stayEnded_words _)

end Quiet

end Sys2Proof.Machine

namespace Sys2Proof.Machine

section Quiet

variable {n : QuadId}

/-! ### The latch as a whole -/

/-- The state that has passed the latch for frame `k`, before anything else of it. -/
def State.passing (s : State) (k : Int) : State := { s with frame := { s.frame with latch := some k } }

/-- The quadrants that take the latch for frame `k`, and the state in which they sample. -/
def State.latchTakers (s : State) (k : Int) (bad : List Nat) : List QuadId × State := (s.latchBegun k bad).scanLatches k bad

/-- The state once the takers have sampled. -/
def State.latchSampled (s : State) (k : Int) (bad : List Nat) : State :=
  (s.latchTakers k bad).2.latchTaken k bad (s.latchTakers k bad).1

theorem State.latchNow_parts (s : State) (k : Int) (bad : List Nat) :
    s.latchNow k bad = (((s.latchSampled k bad).latchCommits k).latchSent k bad (s.latchTakers k bad).1).stayAdvance :=
  s.latchNow_eq k bad

/-- What the latch makes of quadrant `n`'s scan is what it makes of it in a state where all about `n` is as it was. -/
theorem State.latchTakers_own (s : State) (k : Int) (bad : List Nat) :
    ∃ u, (quietView n).Same (s.passing k) u ∧ (quietView n).Same (u.scanLatch n k bad).2 (s.latchTakers k bad).2 ∧
      (n ∈ (s.latchTakers k bad).1 ↔ (u.scanLatch n k bad).1 = true) := by
  obtain ⟨u, h1, h2, h3⟩ := (s.latchBegun k bad).scanLatches_own (n := n) k bad
  exact ⟨u, (s.latchBegun_quiet k bad).trans h1, h2, h3⟩

/-- The takers' samples leave all about quadrant `n` but its live values. -/
theorem State.latchSampled_shadow (s : State) (k : Int) (bad : List Nat) :
    (shadowView n).Same (s.latchTakers k bad).2 (s.latchSampled k bad) := by
  by_cases hn : n ∈ (s.latchTakers k bad).1
  · obtain ⟨u, gs, h1, h2⟩ := State.latchTaken_own (s.latchTakers k bad).2 k bad hn (State.scanLatches_nodup _ k bad)
    exact h1.shadow.trans ((u.commitAt_shadow k gs).trans h2.shadow)
  · exact (State.latchTaken_quiet _ k bad hn).shadow

/-- A quadrant's steady part and its scan. -/
def panelView (n : QuadId) :=
  View.mk (fun s : State => ((steadyView n).core s, (scanView n).core s)) ((steadyView n).fields ++ (scanView n).fields)

section Panel

variable {s t : State}

theorem View.Same.panel_of_shadow (h : (shadowView n).Same s t) : (panelView n).Same s t :=
  h.less (p := fun x => (x.1, x.2.1)) (fun _ => rfl) (List.Subset.refl _)

theorem View.Same.panel_of_scanned (h : (scannedView n).Same s t) : (panelView n).Same s t :=
  h.less (p := fun x => (x.1, x.2.1)) (fun _ => rfl) (List.Subset.refl _)

theorem View.Same.panel_of_passed (h : (passedView n).Same s t) : (panelView n).Same s t :=
  h.less (p := fun x => (x.1, x.2.1)) (fun _ => rfl) (List.subset_append_left _ _)

theorem View.Same.steady_of_panel (h : (panelView n).Same s t) : (steadyView n).Same s t :=
  h.less (p := fun x => x.1) (fun _ => rfl) (List.subset_append_left _ _)

theorem View.Same.scan_of_panel (h : (panelView n).Same s t) : (scanView n).Same s t :=
  h.less (p := fun x => x.2) (fun _ => rfl) (List.subset_append_right _ _)

theorem View.Same.steady_of_rest (h : (restView n).Same s t) : (steadyView n).Same s t :=
  h.less (p := fun x => x.1) (fun _ => rfl) (List.subset_append_left _ _)

theorem View.Same.late_of_rest (h : (restView n).Same s t) : (lateView n).Same s t :=
  h.less (p := fun x => x.2.2.1) (fun _ => rfl) (by simp [lateView])

theorem View.Same.late_of_shadow (h : (shadowView n).Same s t) : (lateView n).Same s t :=
  h.less (p := fun x => x.2.2.1) (fun _ => rfl) (by simp [lateView])

end Panel

/-- The latch before Stay entry goes on. -/
def State.latchDone (s : State) (k : Int) (bad : List Nat) : State :=
  ((s.latchSampled k bad).latchCommits k).latchSent k bad (s.latchTakers k bad).1

/-- After the scan states the latch leaves a quadrant's steady part and its scan. -/
theorem State.latchDone_panel (s : State) (k : Int) (bad : List Nat) :
    (panelView n).Same (s.latchTakers k bad).2 (s.latchDone k bad) := by
  obtain ⟨z, h1, h2⟩ := (s.latchSampled k bad).latchCommits_own (n := n) k
  exact (s.latchSampled_shadow k bad).panel_of_shadow.trans (h1.shadow.panel_of_shadow.trans
    ((z.commitNext_scanned k).panel_of_scanned.trans (h2.shadow.panel_of_shadow.trans
      (State.latchSent_passed _ k bad _).panel_of_passed)))

/-- The latch leaves a quadrant's steady part. -/
theorem State.latchDone_steady (s : State) (k : Int) (bad : List Nat) : (steadyView n).Same (s.passing k) (s.latchDone k bad) := by
  obtain ⟨u, h1, h2, -⟩ := s.latchTakers_own (n := n) k bad
  exact h1.steady.trans ((u.scanLatch_rest k bad).steady_of_rest.trans (h2.steady.trans (s.latchDone_panel k bad).steady_of_panel))

/-- Outside Stay entry that is the whole latch. -/
theorem State.latchNow_of_none {s : State} (k : Int) (bad : List Nat) (h : s.power.entry = .none) :
    s.latchNow k bad = s.latchDone k bad := by
  have hcore := (s.latchDone_steady (n := 0) k bad).1
  have hpower : (s.latchDone k bad).power = s.power := congrArg (fun x => x.2.2.2.2.1) hcore
  rw [s.latchNow_parts]
  exact State.stayAdvance_of_none (by rw [← State.latchDone, hpower, h])

theorem ofNat_unsigned (k : Int) : BitVec.ofNat 32 (unsigned 32 k) = BitVec.ofInt 32 k := by
  apply BitVec.eq_of_toNat_eq
  simp only [BitVec.toNat_ofNat, BitVec.toNat_ofInt, unsigned]
  omega

/-- The panel's configuration is what its registers say. -/
theorem View.Same.geoOk_eq {s t : State} (h : (quietView n).Same s t) : t.geoOk = s.geoOk := by
  have h1 : t.rd A.GEO_PANEL = s.rd A.GEO_PANEL := h.steady.rd_eq (by simp [steadyView])
  have h2 : t.rd A.GEO_DIRS = s.rd A.GEO_DIRS := h.steady.rd_eq (by simp [steadyView])
  simp only [State.geoOk, State.geoBad, State.get, State.hogelCols, State.hogelRows, State.dirCols, State.dirRows, h1, h2]
  rfl

end Quiet

end Sys2Proof.Machine

namespace Sys2Proof.Machine

section Quiet

variable {n : QuadId} {s : State} (k : Int) (bad : List Nat)

/-! ### What the latch makes of a quadrant's scan -/

/-- The latch leaves quadrant `n`'s scan as its own scan states make it. -/
theorem State.latchDone_own (s : State) :
    ∃ u, (quietView n).Same (s.passing k) u ∧ (scanView n).Same (u.scanLatch n k bad).2 (s.latchDone k bad) := by
  obtain ⟨u, h1, h2, -⟩ := s.latchTakers_own (n := n) k bad
  exact ⟨u, h1, h2.scan.trans (s.latchDone_panel k bad).scan_of_panel⟩

theorem State.latchDone_running (h : (s.scan[n]).run = .running) : ((s.latchDone k bad).scan[n]).run = .running := by
  obtain ⟨u, hu, ht⟩ := s.latchDone_own (n := n) k bad
  have hrun : (u.scan[n]).run = .running := by rw [hu.run_eq]; exact h
  have hscan : (s.latchDone k bad).scan[n] = (u.scanLatch n k bad).2.scan[n] := ht.1
  rw [hscan, u.scanLatch_running k bad hrun]
  exact hrun

theorem State.latchDone_stopped (h : (s.scan[n]).run = .stopped) : ((s.latchDone k bad).scan[n]).run = .stopped := by
  obtain ⟨u, hu, ht⟩ := s.latchDone_own (n := n) k bad
  have hrun : (u.scan[n]).run = .stopped := by rw [hu.run_eq]; exact h
  have hscan : (s.latchDone k bad).scan[n] = (u.scanLatch n k bad).2.scan[n] := ht.1
  rw [hscan, u.scanLatch_stopped k bad hrun]
  exact hrun

theorem State.latchDone_stops (h : (s.scan[n]).run = .stopping) (hs : (s.scan[n]).stopNext = false) :
    ((s.latchDone k bad).scan[n]).run = .stopped ∧ (s.latchDone k bad).flag (F.SCAN_FLAGS_STOPPED n) = true := by
  obtain ⟨u, hu, ht⟩ := s.latchDone_own (n := n) k bad
  have hscan : (s.latchDone k bad).scan[n] = (u.scanLatch n k bad).2.scan[n] := ht.1
  rw [hscan, ht.flag_eq (by simp [scanView])]
  exact u.scanLatch_stops k bad (by rw [hu.run_eq]; exact h) (by rw [hu.run_eq]; exact hs)

theorem State.latchDone_stopNext (h : (s.scan[n]).run = .stopping) (hs : (s.scan[n]).stopNext = true) :
    ((s.latchDone k bad).scan[n]).run = .stopping ∧ ((s.latchDone k bad).scan[n]).stopNext = false := by
  obtain ⟨u, hu, ht⟩ := s.latchDone_own (n := n) k bad
  have hscan : (s.latchDone k bad).scan[n] = (u.scanLatch n k bad).2.scan[n] := ht.1
  rw [hscan]
  exact u.scanLatch_stopNext k bad (by rw [hu.run_eq]; exact h) (by rw [hu.run_eq]; exact hs)

theorem State.latchDone_armed_other (h : (s.scan[n]).run = .armed) (hk : (s.scan[n]).k0 ≠ some k) :
    ((s.latchDone k bad).scan[n]).run = .armed := by
  obtain ⟨u, hu, ht⟩ := s.latchDone_own (n := n) k bad
  have hrun : (u.scan[n]).run = .armed := by rw [hu.run_eq]; exact h
  have hscan : (s.latchDone k bad).scan[n] = (u.scanLatch n k bad).2.scan[n] := ht.1
  rw [hscan, u.scanLatch_armed_other k bad hrun (by rw [hu.run_eq]; exact hk)]
  exact hrun

theorem State.latchDone_starts (h : (s.scan[n]).run = .armed) (hk : (s.scan[n]).k0 = some k) :
    let t := s.latchDone k bad
    ((t.scan[n]).run = .running ∧ t.rd (A.SCAN_START_FRAME n) = BitVec.ofInt 32 k) ∨
    ((t.scan[n]).run = .stopped ∧ t.flag (F.SCAN_FLAGS_REFUSED n) = true ∧
      ∃ r, 1 ≤ r ∧ r ≤ 8 ∧ t.rd (A.SCAN_REFUSE n) = BitVec.ofNat 32 (r + 2 ^ 31) ∧ (s.geoOk = false → r = 1)) := by
  obtain ⟨u, hu, ht⟩ := s.latchDone_own (n := n) k bad
  have hscan : (s.latchDone k bad).scan[n] = (u.scanLatch n k bad).2.scan[n] := ht.1
  have hgeo : u.geoOk = s.geoOk := hu.geoOk_eq
  intro t
  rw [show t = s.latchDone k bad from rfl, hscan, ht.rd_eq (a := A.SCAN_START_FRAME n) (by simp [scanView]),
    ht.rd_eq (a := A.SCAN_REFUSE n) (by simp [scanView]), ht.flag_eq (f := F.SCAN_FLAGS_REFUSED n) (by simp [scanView])]
  rcases u.scanLatch_starts k bad (by rw [hu.run_eq]; exact h) (by rw [hu.run_eq]; exact hk) with ⟨hrun, hframe⟩ | ⟨hr, hrun, hflag, hwhy⟩
  · exact .inl ⟨hrun, by rw [hframe, ofNat_unsigned]⟩
  · exact .inr ⟨hrun, hflag, _, Nat.one_le_iff_ne_zero.mpr hr, u.startReason_le n k bad, hwhy,
      fun hs => State.startReason_geo n k bad (hgeo.trans hs)⟩

/-! ### What the latch makes of a quadrant's COMMIT -/

section Live

variable {u t : State}

/-- A field of the view keeps its flag. -/
theorem View.Same.flag_of_mem {α : Type} {v : View α} (h : v.Same u t) {f : Fld} (hf : f ∈ v.fields) : t.flag f = u.flag f := by
  simp only [State.flag, h.2 f hf]

theorem View.Same.liveRd_eq (h : (liveView n).Same u t) {a : Nat} (ha : a ∈ shadowRegs n) : t.liveRd a = u.liveRd a :=
  List.map_inj_left.mp h.1 a ha

theorem View.Same.live_of_words (h : (wordsView n).Same u t) : (liveView n).Same u t :=
  h.less (p := id) (fun _ => rfl) (List.subset_append_left _ _)

theorem mem_steadyView {a : Nat} (ha : a ∈ shadowRegs n) : whole a ∈ (steadyView n).fields :=
  List.mem_cons_of_mem _ (List.mem_cons_of_mem _ (List.mem_cons_of_mem _ (List.mem_map_of_mem ha)))

theorem mem_wordsView {a : Nat} (ha : a ∈ shadowRegs n) : whole a ∈ (wordsView n).fields :=
  List.mem_append_right _ (List.mem_map_of_mem ha)

/-- The latch sees the shadow words as before. -/
theorem View.Same.keptRd_eq (h : (quietView n).Same u t) {a : Nat} (ha : whole a ∈ (steadyView n).fields) :
    t.keptRd a = u.keptRd a := by
  have hkeep : t.frame.keep = u.frame.keep := h.keep.1
  rw [State.keptRd, State.keptRd, hkeep, h.steady.rd_eq ha]

end Live

/-- After the samples the latch leaves what is live and pending, but for a COMMIT that completed at its instant. -/
theorem State.latchNow_own (s : State) :
    ∃ z, (quietView n).Same (s.latchSampled k bad) z ∧ (wordsView n).Same (z.commitNext n k) (s.latchNow k bad) := by
  obtain ⟨z, h1, h2⟩ := (s.latchSampled k bad).latchCommits_own (n := n) k
  refine ⟨z, h1, ?_⟩
  rw [s.latchNow_parts]
  exact h2.words.trans ((State.latchSent_passed _ k bad _).words_of_passed.trans (State.stayAdvance_words _))

/-- The latch leaves a quadrant's shadow words. -/
theorem State.latchNow_shadow (s : State) {a : Nat} (ha : a ∈ shadowRegs n) : (s.latchNow k bad).rd a = s.rd a := by
  have hdone := (s.latchDone_steady k bad).rd_eq (mem_steadyView ha)
  rw [s.latchNow_parts, ← State.latchDone, (State.stayAdvance_words _).rd_eq (mem_wordsView ha)]
  exact hdone

theorem State.latchNow_liveRd (s : State) {a : Nat} (ha : a ∈ shadowRegs n) :
    (s.latchNow k bad).liveRd a = (s.latchSampled k bad).liveRd a := by
  obtain ⟨z, h1, h2⟩ := s.latchNow_own (n := n) k bad
  have hnext : (liveView n).core (z.commitNext n k) = (liveView n).core z :=
    congrArg (fun x => x.2.2) (z.commitNext_scanned (n := n) k).1
  rw [h2.live_of_words.liveRd_eq ha, List.map_inj_left.mp hnext a ha, h1.live.liveRd_eq ha]

/-- Whether a COMMIT completed at the latch's instant is known until the takers have sampled. -/
theorem State.latchSampled_late (s : State) : ((s.latchSampled k bad).cm n).late = (s.cm n).late := by
  obtain ⟨u, h1, h2, -⟩ := s.latchTakers_own (n := n) k bad
  have hlate := (h1.late.trans ((u.scanLatch_rest k bad).late_of_rest.trans
    (h2.late.trans (s.latchSampled_shadow k bad).late_of_shadow))).1
  exact congrArg Prod.fst hlate

theorem State.latchNow_late (h : (s.cm n).late = true) :
    (s.latchNow k bad).flag (F.CMP_STATUS_PENDING n) = true ∧
      (s.latchNow k bad).rd (A.CMP_COMMIT_FRAME n) = BitVec.ofInt 32 (k + 1) := by
  obtain ⟨z, h1, h2⟩ := s.latchNow_own (n := n) k bad
  have hz : (z.cm n).late = true := (congrArg Prod.fst h1.late.1).trans ((s.latchSampled_late k bad).trans h)
  rw [h2.flag_of_mem (f := F.CMP_STATUS_PENDING n) (by simp [wordsView, liveView]),
    h2.rd_eq (a := A.CMP_COMMIT_FRAME n) (by simp [wordsView, liveView]), ← ofNat_unsigned]
  exact State.commitNext_late k hz

theorem State.latchNow_pending (h : (s.cm n).late = false) :
    (s.latchNow k bad).flag (F.CMP_STATUS_PENDING n) = (s.latchSampled k bad).flag (F.CMP_STATUS_PENDING n) := by
  obtain ⟨z, h1, h2⟩ := s.latchNow_own (n := n) k bad
  have hz : (z.cm n).late = false := (congrArg Prod.fst h1.late.1).trans ((s.latchSampled_late k bad).trans h)
  rw [h2.flag_of_mem (by simp [wordsView, liveView]), State.commitNext_of_not k hz, h1.live.flag_of_mem (by simp [liveView])]

/-- A RUNNING quadrant takes its COMMIT in a state where all about it is as it was. -/
theorem State.latchSampled_running (h : (s.scan[n]).run = .running) :
    ∃ v gs, (quietView n).Same (s.passing k) v ∧ (quietView n).Same (v.commitAt n k gs) (s.latchSampled k bad) := by
  obtain ⟨u, h1, h2, htakes⟩ := s.latchTakers_own (n := n) k bad
  have hrun : (u.scan[n]).run = .running := by rw [h1.run_eq]; exact h
  rw [u.scanLatch_running k bad hrun] at h2 htakes
  obtain ⟨v, gs, h3, h4⟩ := State.latchTaken_own (s.latchTakers k bad).2 k bad (htakes.mpr rfl) (State.scanLatches_nodup _ k bad)
  exact ⟨v, gs, h1.trans (h2.trans h3), h4⟩

/-- A STOPPED quadrant takes none. -/
theorem State.latchSampled_stopped (h : (s.scan[n]).run = .stopped) : (quietView n).Same (s.passing k) (s.latchSampled k bad) := by
  obtain ⟨u, h1, h2, htakes⟩ := s.latchTakers_own (n := n) k bad
  have hrun : (u.scan[n]).run = .stopped := by rw [h1.run_eq]; exact h
  rw [u.scanLatch_stopped k bad hrun] at h2 htakes
  have hn : n ∉ (s.latchTakers k bad).1 := fun hn => by simpa using htakes.mp hn
  exact h1.trans (h2.trans (State.latchTaken_quiet _ k bad hn))

/-- A RUNNING quadrant's pending COMMIT that waits for no sync group takes effect. -/
theorem State.latchNow_copies (hrun : (s.scan[n]).run = .running) (hp : s.flag (F.CMP_STATUS_PENDING n) = true)
    (hg : s.keptGet (F.CMP_CFG_COMMIT_GROUP n) = 0) (hl : (s.cm n).lateOnly = false) :
    (∀ a ∈ shadowRegs n, (s.latchNow k bad).liveRd a = s.keptRd a) ∧
      (s.latchNow k bad).flag (F.CMP_STATUS_PENDING n) = (s.cm n).late := by
  obtain ⟨v, gs, hv, ht⟩ := State.latchSampled_running k bad hrun
  have hpending : v.flag (F.CMP_STATUS_PENDING n) = true := (hv.live.flag_of_mem (by simp [liveView])).trans hp
  have honly : (v.cm n).lateOnly = false := (congrArg Prod.snd hv.late.1).trans hl
  have hgroup : v.keptGet (F.CMP_CFG_COMMIT_GROUP n) = 0 := by
    have hcfg : v.keptRd (A.CMP_CFG n) = s.keptRd (A.CMP_CFG n) := hv.keptRd_eq (by simp [steadyView])
    unfold State.keptGet at hg ⊢
    rw [show (F.CMP_CFG_COMMIT_GROUP n).addr = A.CMP_CFG n from rfl] at hg ⊢
    rw [hcfg, hg]
  obtain ⟨hlive, hdone⟩ := State.commitAt_copies k gs hpending honly hgroup
  constructor
  · intro a ha
    have hkept : v.keptRd a = s.keptRd a := hv.keptRd_eq (mem_steadyView ha)
    rw [s.latchNow_liveRd k bad ha, ht.live.liveRd_eq ha, hlive a ha, hkept]
  · cases hlate : (s.cm n).late with
    | true => exact (State.latchNow_late k bad hlate).1
    | false => rw [State.latchNow_pending k bad hlate, ht.live.flag_of_mem (by simp [liveView]), hdone]

/-- A RUNNING quadrant without a COMMIT that takes effect keeps its live values. -/
theorem State.latchNow_keeps (hrun : (s.scan[n]).run = .running)
    (hp : s.flag (F.CMP_STATUS_PENDING n) = false ∨ (s.cm n).lateOnly = true) {a : Nat} (ha : a ∈ shadowRegs n) :
    (s.latchNow k bad).liveRd a = s.liveRd a := by
  obtain ⟨v, gs, hv, ht⟩ := State.latchSampled_running k bad hrun
  have hnot : v.flag (F.CMP_STATUS_PENDING n) = false ∨ (v.cm n).lateOnly = true :=
    hp.imp (hv.live.flag_of_mem (by simp [liveView])).trans (congrArg Prod.snd hv.late.1).trans
  rw [State.commitAt_of_not k gs hnot] at ht
  rw [s.latchNow_liveRd k bad ha, (hv.trans ht).live.liveRd_eq ha]
  rfl

/-- A STOPPED quadrant keeps its live values, and its pending COMMIT. -/
theorem State.latchNow_stopped (hrun : (s.scan[n]).run = .stopped) :
    (∀ a ∈ shadowRegs n, (s.latchNow k bad).liveRd a = s.liveRd a) ∧
      ((s.cm n).late = false → (s.latchNow k bad).flag (F.CMP_STATUS_PENDING n) = s.flag (F.CMP_STATUS_PENDING n)) := by
  have h := (State.latchSampled_stopped k bad hrun).live
  constructor
  · intro a ha
    rw [s.latchNow_liveRd k bad ha, h.liveRd_eq ha]
    rfl
  · intro hlate
    rw [State.latchNow_pending k bad hlate, h.flag_of_mem (by simp [liveView])]
    rfl

end Quiet

/-! ### The latch -/

theorem exec_latch (s : State) (k : Int) (bad : List Nat) :
    exec (.latch k bad) s = if s.latchDue = some k then .next (s.latchNow k bad) else .next s := rfl

/-- Settles O26, by following quadrant `n` through the steps of the latch: the other quadrants' steps leave all about `n`, and its
own change its scan, its live values and its COMMIT as their lemmas say. -/
theorem latch : Obligations.Latch := by
  unfold Obligations.Latch
  constructor
  · intro s k bad
    refine ⟨fun hdue => by rw [exec_latch, if_neg hdue], fun hdue hentry => ⟨s.latchDone k bad, ?_, ?_⟩⟩
    · rw [exec_latch, if_pos hdue, State.latchNow_of_none k bad hentry]
    · have hcore := (s.latchDone_steady (n := 0) k bad).1
      simp only [steadyView, Prod.mk.injEq] at hcore
      obtain ⟨hwt, hrot, hsess, hpins, -, hlatch, hseqs⟩ := hcore
      refine ⟨hlatch, hwt, hrot, hsess, hpins, fun q => ?_, fun n => ?_⟩
      · have hseq := congrFun hseqs q
        simp only [Seq.holds, Prod.mk.injEq] at hseq
        exact hseq
      · exact ⟨State.latchDone_running k bad, State.latchDone_stopped k bad, State.latchDone_stops k bad,
          State.latchDone_stopNext k bad, State.latchDone_armed_other k bad, State.latchDone_starts k bad⟩
  · intro s k bad n hdue
    refine ⟨s.latchNow k bad, by rw [exec_latch, if_pos hdue], fun m a ha => s.latchNow_shadow k bad ha, ?_, ?_, ?_, ?_⟩
    · exact fun hrun hp hg hl => State.latchNow_copies k bad hrun hp hg hl
    · exact fun hlate => State.latchNow_late k bad hlate
    · exact fun hrun hp a ha => State.latchNow_keeps k bad hrun hp ha
    · exact fun hrun => State.latchNow_stopped k bad hrun

end Sys2Proof.Machine

/-!
PROOFS of the statements of 01_architecture: the lines of the synthesiser (O34), the line deadline (O28).
-/

namespace Sys2Proof.Machine

/-! ### Views that look at no sequencer and at no register beside their fields -/

/-- A view whose core holds neither registers, nor the record of the core cycle, nor the sequencers. -/
structure View.Deep {α : Type} (v : View α) : Prop where
  fits  : fit v.fields = true
  blind : ∀ (s : State) r b q, v.core { s with regs := r, bus := b, seqs := q } = v.core s

section Deep

variable {α : Type} {v : View α} {s t u : State} {f : Fld}

/-- A view that stays in either case. -/
theorem View.Same.ite {c : Prop} [Decidable c] (h : v.Same s t) (h' : v.Same s u) : v.Same s (if c then t else u) := by
  split
  · exact h
  · exact h'

/-- A change of registers and sequencers alone, in fields apart from those of the view. -/
theorem View.Deep.same {l : List Fld} (hv : v.Deep) (ht : t = { s with regs := t.regs, bus := t.bus, seqs := t.seqs })
    (hb : BitsKept l s t) (hl : ∀ g ∈ l, apart v.fields g = true) : v.Same s t :=
  View.same_of_bitsKept (by rw [ht]; exact hv.blind s _ _ _) hv.fits hl hb

/-- A change that touches neither registers nor what the view looks at. -/
theorem View.Deep.of_regs (hv : v.Deep) (hr : t.regs = s.regs) (hc : v.core t = v.core s) : v.Same s t :=
  View.same_of_bitsKept (l := []) hc hv.fits (by simp) (.of_regs hr)

theorem View.Deep.put (hv : v.Deep) (s : State) (x : Nat) (hf : apart v.fields f = true) : v.Same s (s.put f x) :=
  hv.same rfl (s.put_bitsKept f x) (by simpa using hf)

theorem View.Deep.wr (hv : v.Deep) (s : State) {a : Nat} (x : Word) (ha : apart v.fields (whole a) = true) :
    v.Same s (s.wr a x) := hv.same rfl (s.wr_bitsKept a x) (by simpa using ha)

theorem View.Deep.set (hv : v.Deep) (s : State) (hf : apart v.fields f = true) : v.Same s (s.set f) :=
  hv.same rfl (s.set_bitsKept f) (by simpa using hf)

theorem View.Deep.clr (hv : v.Deep) (s : State) (hf : apart v.fields f = true) : v.Same s (s.clr f) := hv.put s 0 hf

theorem View.Deep.count (hv : v.Deep) (s : State) (hf : apart v.fields f = true) : v.Same s (s.count f) :=
  hv.same rfl (s.count_bitsKept f) (by simpa using hf)

theorem View.Deep.setIf (hv : v.Deep) (s : State) (b : Bool) (hf : apart v.fields f = true) : v.Same s (s.setIf b f) := by
  cases b with
  | true => exact hv.set s hf
  | false => exact .refl v s

theorem View.Deep.event (hv : v.Deep) (s : State) {q : SeqId} (hq : apart v.fields (F.SEQ_EVQ_STATUS_OVERFLOW q) = true)
    (x y : Nat) (late : Bool) (d : Nat) : v.Same s (s.event q x y late d) :=
  hv.same (s.event_eq q x y late d) (s.event_bitsKept q x y late d) (by simpa using hq)

/-- A view of an event told to the quadrant's sequencer and to SQS. -/
theorem View.Deep.bothEvents (hv : v.Deep) (hq : ∀ q : SeqId, apart v.fields (F.SEQ_EVQ_STATUS_OVERFLOW q) = true)
    (s : State) (n : QuadId) (x y d x' y' d' : Nat) : v.Same s ((s.quadEvent n x y d).sqsEvent x' y' d') :=
  (hv.event s (hq (sqOf n)) x y false d).trans (hv.event _ (hq sqsQ) x' y' false d')

end Deep

/-! ### One quadrant's unit replaced -/

section Units

variable (s : State) {n m : QuadId}

theorem State.sy_setSy (x : SynUnit) : (s.setSy n x).sy m = if m = n then x else s.sy m := by
  unfold State.sy State.setSy
  simp only [Fin.getElem_fin, Vector.getElem_set, Fin.ext_iff, eq_comm (a := m.val)]

@[simp] theorem State.sy_setSy_same (x : SynUnit) : (s.setSy n x).sy n = x := by simp [s.sy_setSy]

theorem State.sy_setSy_other (x : SynUnit) (h : m ≠ n) : (s.setSy n x).sy m = s.sy m := by simp [s.sy_setSy, h]

theorem State.cm_setCm (x : CmpUnit) : (s.setCm n x).cm m = if m = n then x else s.cm m := by
  unfold State.cm State.setCm
  simp only [Fin.getElem_fin, Vector.getElem_set, Fin.ext_iff, eq_comm (a := m.val)]

@[simp] theorem State.cm_setCm_same (x : CmpUnit) : (s.setCm n x).cm n = x := by simp [s.cm_setCm]

theorem State.cm_setCm_other (x : CmpUnit) (h : m ≠ n) : (s.setCm n x).cm m = s.cm m := by simp [s.cm_setCm, h]

end Units

/-! ### What the start of a line keeps -/

/-- What the start of a line in quadrant `n` keeps beside registers: the synthesisers but for the records that `n` has read,
composition, the bytes of scene store and DRAM, and wall time. -/
def rowCore (n : QuadId) (s : State) :=
  (fun q => ({ s.sy q with recs := if q = n then [] else (s.sy q).recs } : SynUnit), s.cmp, s.ing.scene,
    fun q => (s.dr q).mem, s.wt)

/-- Those, and the panel's geometry. -/
def rowView (n : QuadId) := View.mk (rowCore n) [whole A.GEO_PANEL, whole A.GEO_DIRS]

section Row

variable {n : QuadId} {s t : State} {f : Fld}

theorem rowView_deep : (rowView n).Deep := ⟨rfl, fun _ _ _ _ => rfl⟩

/-- The registers of the geometry table, and all of a quadrant's, lie above the panel's geometry. -/
theorem apart_row (h : 0x800000 ≤ f.addr) : apart (rowView n).fields f = true := by
  have h1 : A.GEO_PANEL ≠ f.addr := by simp only [A.GEO_PANEL]; omega
  have h2 : A.GEO_DIRS ≠ f.addr := by simp only [A.GEO_DIRS]; omega
  simp [apart, rowView, whole, h1, h2]

theorem apart_row_overflow : ∀ n : QuadId, ∀ q : SeqId, apart (rowView n).fields (F.SEQ_EVQ_STATUS_OVERFLOW q) = true := by
  decide +kernel

theorem State.draw_row (s : State) (w : Nat) : (rowView n).Same s (s.draw w).2 := rowView_deep.of_regs rfl rfl

/-- A controller replaced by one of the same bytes. -/
theorem State.setDr_row (s : State) {q : QuadId} {d : DramUnit} (h : d.mem = (s.dr q).mem) : (rowView n).Same s (s.setDr q d) := by
  have hmem : (fun r => ((s.setDr q d).dr r).mem) = fun r => (s.dr r).mem := by
    funext r
    rw [State.dr_setDr]
    split
    · next e => rw [e, h]
    · rfl
  refine rowView_deep.of_regs rfl ?_
  simp only [rowView, rowCore, hmem]
  rfl

/-! #### Reads of DRAM, with whatever errors they meet (R388 to R400, R478) -/

theorem State.dramEvent_row (s : State) (q : QuadId) (c d : Nat) : (rowView n).Same s (s.dramEvent q c d) :=
  rowView_deep.bothEvents (apart_row_overflow n) s q _ _ _ _ _ _

theorem State.logTell_row (s : State) (q : QuadId) (e : Nat) : (rowView n).Same s (s.logTell q e) := by
  unfold State.logTell
  simp only
  split
  · exact (s.setDr_row (by rfl)).trans (rowView_deep.bothEvents (apart_row_overflow n) _ q _ _ _ _ _ _)
  · exact .refl _ s

theorem State.logWord_row (s : State) (q : QuadId) (w : Nat) : (rowView n).Same s (s.logWord q w) := by
  have hlog (e : Nat) : 0x800000 ≤ A.DLOG q e := by simp only [A.DLOG]; omega
  unfold State.logWord
  split
  · next e _ => exact (rowView_deep.count s (apart_row (hlog e))).trans (State.logTell_row _ q e)
  · exact ((s.setDr_row (by rfl)).trans (rowView_deep.wr _ _ (apart_row (hlog _)))).trans (State.logTell_row _ q _)

theorem State.dramUncorr_row (s : State) (q : QuadId) (w src : Nat) : (rowView n).Same s (s.dramUncorr q w src) := by
  have h1 := rowView_deep (n := n) |>.count s (f := F.DRAM_ECC_CNT_UNCORR q) (apart_row (by simp only [A.DRAM_ECC_CNT]; omega))
  have h2 := h1.trans (rowView_deep.wr _ (a := A.DRAM_ECC_ADDR q) (BitVec.ofNat 32 (w + src * 2 ^ 28 + 2 ^ 31))
    (apart_row (by simp only [whole, A.DRAM_ECC_ADDR]; omega)))
  have h3 := h2.trans (rowView_deep.set _ (f := F.DRAM_STATUS_ECC_UNCORR q) (apart_row (by simp only [A.DRAM_STATUS]; omega)))
  unfold State.dramUncorr
  simp only
  split
  · exact h3
  · exact h3.trans ((State.setDr_row _ (by rfl)).trans (State.dramEvent_row _ q _ _))

/-- A word that reads as uncorrectable. -/
theorem State.uncorrLogged_row (s : State) (q : QuadId) (w src : Nat) :
    (rowView n).Same s ((s.dramUncorr q w src).logWord q w) := (s.dramUncorr_row q w src).trans (State.logWord_row _ q w)

theorem State.dramRange_row (s : State) (q : QuadId) (w : Nat) : (rowView n).Same s (s.dramRange q w) :=
  (rowView_deep.set s (f := F.DRAM_STATUS_RANGE q) (apart_row (by simp only [A.DRAM_STATUS]; omega))).trans
    (State.dramEvent_row _ q _ _)

theorem State.dramForward_row (s : State) (q : QuadId) (w : Nat) : (rowView n).Same s (s.dramForward q w) := by
  unfold State.dramForward
  simp only
  split
  · exact s.setDr_row rfl
  · exact s.setDr_row rfl
  · exact .refl _ s

theorem State.writeBackCorr_row (s : State) (q : QuadId) (w : Nat) : (rowView n).Same s (s.writeBackCorr q w) := by
  unfold State.writeBackCorr
  simp only
  split
  · exact .refl _ s
  · refine s.setDr_row ?_
    split <;> rfl

theorem State.dramMeet_row (s : State) (q : QuadId) (w : Nat) (err : DramErr) : (rowView n).Same s (s.dramMeet q w err).2 := by
  have counted := rowView_deep (n := n) |>.count s (f := F.DRAM_ECC_CNT_CORR q) (apart_row (by simp only [A.DRAM_ECC_CNT]; omega))
  unfold State.dramMeet
  simp only
  split
  · exact .refl _ s
  · split
    · exact counted
    · exact .refl _ s
  · split
    · exact s.uncorrLogged_row q w 1
    · exact .refl _ s
  · split
    · refine View.Same.trans ?_ (State.writeBackCorr_row _ q w)
      split
      · exact counted.trans (State.logWord_row _ q w)
      · exact counted
    · exact .refl _ s
  · split
    · exact (s.setDr_row (by rfl)).trans (State.uncorrLogged_row _ q w 0)
    · exact .refl _ s

theorem State.transferMeets_row (s : State) (q : QuadId) : (rowView n).Same s (s.transferMeets q).2 := by
  unfold State.transferMeets
  split
  · exact s.draw_row 3
  · exact .refl _ s

theorem State.staleRead_row (s : State) (q : QuadId) (w : Nat) (b : List Byte) : (rowView n).Same s (s.staleRead q w b).2.2 := by
  have drawn := s.draw_row (n := n) 2
  unfold State.staleRead
  simp only
  split
  · exact drawn
  · split
    · exact (drawn.trans (State.dramMeet_row _ q w .corr)).trans (State.draw_row _ (8 * 64))
    · exact drawn.trans (State.uncorrLogged_row _ q w 0)

theorem State.u05Read_row (s : State) (q : QuadId) (w : Nat) : (rowView n).Same s (s.u05Read q w).2.2 := by
  have drawn := (s.draw_row (n := n) 1).trans (State.draw_row _ (8 * 64))
  unfold State.u05Read
  simp only
  split
  · exact drawn.trans (State.uncorrLogged_row _ q w 0)
  · exact drawn

/-- What a read gives once what befalls its transfer is known, `hit` where it was forwarded. -/
def State.readMet (s : State) (q : QuadId) (w : Nat) (bad : Bool) (b : List Byte) (hit : Bool) (e : DramErr) :
    Bool × List Byte × State :=
  let (m, s) := s.dramMeet q w (if bad then linkOnly e else e)
  if m then (true, List.replicate 64 0, s)
  else if bad then (true, List.replicate 64 0, (s.dramUncorr q w 0).logWord q w)
  else if !(s.dr q).u05.isEmpty then s.u05Read q w
  else if !hit && s.inlineEcc q && (s.dr q).stale.contains w then s.staleRead q w b
  else (false, b, s)

/-- What befalls the transfer of a read, which a forwarded one does not make. -/
def State.readMeets (s : State) (q : QuadId) (hit : Bool) (met : Option DramErr) : DramErr × State :=
  if hit then (DramErr.ok, s) else match met with | some e => (e, s) | none => s.transferMeets q

/-- The controller once it has taken a read of word `w`. -/
def State.readTaken (s : State) (q : QuadId) (w : Nat) : State :=
  (s.dramForward q w).setDr q { (s.dramForward q w).dr q with rd := ((s.dramForward q w).dr q).rd + 1 }

theorem State.readFrom_eq (s : State) (q : QuadId) (w : Nat) (bad : Bool) (b : List Byte) (met : Option DramErr) :
    s.readFrom q w bad b met =
      if s.dramSize q ≤ 64 * w then
        (true, List.replicate 64 0, (s.dramUncorr q (w % 2 ^ 26) 2).dramRange q (w % 2 ^ 26))
      else
        let r := (s.readTaken q w).readMeets q ((s.dr q).forwards w) met
        r.2.readMet q w bad b ((s.dr q).forwards w) r.1 := rfl

theorem State.readMet_row (s : State) (q : QuadId) (w : Nat) (bad : Bool) (b : List Byte) (hit : Bool) (e : DramErr) :
    (rowView n).Same s (s.readMet q w bad b hit e).2.2 := by
  have met := s.dramMeet_row (n := n) q w (if bad then linkOnly e else e)
  unfold State.readMet
  generalize s.dramMeet q w (if bad then linkOnly e else e) = r at met ⊢
  obtain ⟨m, u⟩ := r
  simp only at met ⊢
  split
  · exact met
  · split
    · exact met.trans (u.uncorrLogged_row q w 0)
    · split
      · exact met.trans (u.u05Read_row q w)
      · split
        · exact met.trans (u.staleRead_row q w b)
        · exact met

theorem State.readMeets_row (s : State) (q : QuadId) (hit : Bool) (met : Option DramErr) :
    (rowView n).Same s (s.readMeets q hit met).2 := by
  unfold State.readMeets
  split
  · exact .refl _ s
  · split
    · exact .refl _ s
    · exact s.transferMeets_row q

theorem State.readFrom_row (s : State) (q : QuadId) (w : Nat) (bad : Bool) (b : List Byte) (met : Option DramErr) :
    (rowView n).Same s (s.readFrom q w bad b met).2.2 := by
  rw [s.readFrom_eq]
  split
  · exact (s.dramUncorr_row q _ 2).trans (State.dramRange_row _ q _)
  · exact ((s.dramForward_row q w).trans (State.setDr_row _ (by rfl))).trans
      ((State.readMeets_row _ q _ met).trans (State.readMet_row _ q w bad b _ _))

theorem State.readWord_row (s : State) (q : QuadId) (w : Nat) : (rowView n).Same s (s.readWord q w).2.2 :=
  (s.setDr_row (by rfl)).trans (State.readFrom_row _ q w _ _ _)

theorem State.readWords_row (s : State) (q : QuadId) (w k : Nat) : (rowView n).Same s (s.readWords q w k).2.2 := by
  induction k generalizing s w with
  | zero => exact .refl _ s
  | succ k ih => exact (s.readWord_row q w).trans (ih _ _)

theorem State.readBytes_row (s : State) (q : QuadId) (a len : Nat) : (rowView n).Same s (s.readBytes q a len).2.2 := by
  unfold State.readBytes
  split
  · exact .refl _ s
  · exact s.readWords_row q _ _

/-! #### A geometry load in progress (R145) -/

theorem State.geo_row (s : State) (g : GeoUnit) : (rowView n).Same s { s with geo := g } := rowView_deep.of_regs rfl rfl

theorem State.putRecord_row (s : State) (x : Nat) (lo hi : Word) : (rowView n).Same s (s.putRecord x lo hi) := by
  have h := (rowView_deep (n := n) |>.wr s (a := 0x800000 + 8 * x) lo (apart_row (by simp only [whole]; omega))).trans
    (rowView_deep.wr _ (a := 0x800000 + 8 * x + 4) hi (apart_row (by simp only [whole]; omega)))
  unfold State.putRecord
  rw [State.geoMend_eq]
  exact h.trans (State.geo_row _ _)

theorem State.geoCopy_row (s : State) (g : GeoLoad) (k : Nat) : (rowView n).Same s (s.geoCopy g k).2 := by
  induction k generalizing s g with
  | zero => exact .refl _ s
  | succ k ih => exact ((s.readBytes_row g.quad _ 8).trans (State.putRecord_row _ _ _ _)).trans (ih _ _)

theorem State.geoAdvance_row (s : State) : (rowView n).Same s s.geoAdvance := by
  unfold State.geoAdvance
  split
  · split
    · exact ((s.draw_row 32).trans (State.geoCopy_row _ _ _)).trans (State.geo_row _ _)
    · exact .refl _ s
  · exact .refl _ s

end Row

end Sys2Proof.Machine

namespace Sys2Proof.Machine

/-! ### The geometry records and the errors that a line's reads report (R144, R147, R475 to R477) -/

/-- What the start of a line keeps, and the number of planes that the quadrant visits. -/
def synthView (n : QuadId) := View.mk (rowCore n) (F.SYN_STATUS_EFF_PLANES n :: (rowView n).fields)

section Synth

variable {n : QuadId} {s t : State}

theorem View.Same.row (h : (synthView n).Same s t) : (rowView n).Same s t :=
  h.less (p := id) (fun _ => rfl) (by simp [synthView])

theorem synthView_deep : (synthView n).Deep := ⟨rfl, fun _ _ _ _ => rfl⟩

theorem apart_synth : ∀ n : QuadId, ∀ f ∈ [whole A.BIST_ERR_ADDR, F.BIST_STATUS_RETEST, F.BIST_FLAGS_PARITY, F.BIST_FLAGS_SRAM_UNCORR,
    F.BIST_COUNT_CORR, F.BIST_COUNT_UNCORR, F.GEO_STATUS_PERR_COUNT, F.GEO_STATUS_PERR, whole A.GEO_PERR_INDEX, F.GEO_STATUS_LOAD_VALID,
    whole A.GEO_LOAD_FRAME], apart (synthView n).fields f = true := by decide +kernel

theorem apart_synth_overflow : ∀ n : QuadId, ∀ q : SeqId, apart (synthView n).fields (F.SEQ_EVQ_STATUS_OVERFLOW q) = true := by
  decide +kernel

theorem State.draw_synth (s : State) (w : Nat) : (synthView n).Same s (s.draw w).2 := synthView_deep.of_regs rfl rfl

theorem State.geo_synth (s : State) (g : GeoUnit) : (synthView n).Same s { s with geo := g } := synthView_deep.of_regs rfl rfl

theorem State.bist_synth (s : State) (b : BistUnit) : (synthView n).Same s { s with bist := b } := synthView_deep.of_regs rfl rfl

/-- The records that the quadrant has read. -/
theorem State.recs_synth (s : State) (l : List Nat) : (synthView n).Same s (s.setSy n { s.sy n with recs := l }) := by
  have hsy (q : QuadId) : ({ (s.setSy n { s.sy n with recs := l }).sy q with
      recs := if q = n then [] else ((s.setSy n { s.sy n with recs := l }).sy q).recs } : SynUnit) =
      { s.sy q with recs := if q = n then [] else (s.sy q).recs } := by
    rw [s.sy_setSy]
    split
    · next e => subst e; rfl
    · rfl
  refine synthView_deep.of_regs rfl ?_
  simp only [synthView, rowCore, hsy]
  rfl

theorem State.queueRetest_synth (s : State) (x : Nat) : (synthView n).Same s (s.queueRetest x) := by
  unfold State.queueRetest
  split
  · exact .refl _ s
  · exact (s.bist_synth _).trans (synthView_deep.put _ _ (apart_synth n F.BIST_STATUS_RETEST (by simp)))

theorem State.sramErr_synth (s : State) (r off kind : Nat) : (synthView n).Same s (s.sramErr r off kind) := by
  have addr (v : Word) := synthView_deep (n := n) |>.wr s (a := A.BIST_ERR_ADDR) v (apart_synth n _ (by simp))
  unfold State.sramErr
  simp only
  split
  · exact (addr _).trans (State.queueRetest_synth _ _)
  · exact (addr _).trans (State.bist_synth _ _)

theorem State.sramCorr_synth (s : State) (r off : Nat) : (synthView n).Same s (s.sramCorr r off) :=
  (synthView_deep.count s (apart_synth n F.BIST_COUNT_CORR (by simp))).trans (State.sramErr_synth _ _ _ _)

theorem State.sramUncorr_synth (s : State) (r off : Nat) : (synthView n).Same s (s.sramUncorr r off) :=
  (((synthView_deep.count s (apart_synth n F.BIST_COUNT_UNCORR (by simp))).trans
    (synthView_deep.set _ (apart_synth n F.BIST_FLAGS_SRAM_UNCORR (by simp)))).trans (State.sramErr_synth _ _ _ _)).trans
    ((synthView_deep.event _ (apart_synth_overflow n sqsQ) _ _ _ _).trans (State.queueRetest_synth _ _))

theorem State.parityErr_synth (s : State) (r off : Nat) : (synthView n).Same s (s.parityErr r off) :=
  ((synthView_deep.set s (apart_synth n F.BIST_FLAGS_PARITY (by simp))).trans (State.sramErr_synth _ _ _ _)).trans
    (synthView_deep.event _ (apart_synth_overflow n sqsQ) _ _ _ _)

theorem State.lutParity_synth (s : State) (bad : List Nat) : (synthView n).Same s (s.lutParity bad) :=
  forAll_same bad (fun t _ _ => (t.draw_synth 24).trans (State.parityErr_synth _ _ _)) s

theorem State.geoPerr_synth (s : State) (x : Nat) : (synthView n).Same s (s.geoPerr x) :=
  (((synthView_deep.count s (apart_synth n F.GEO_STATUS_PERR_COUNT (by simp))).trans
    (synthView_deep.set _ (apart_synth n F.GEO_STATUS_PERR (by simp)))).trans
    (synthView_deep.wr _ _ (apart_synth n (whole A.GEO_PERR_INDEX) (by simp)))).trans (State.parityErr_synth _ _ _)

theorem State.geoSettle_synth (s : State) : (synthView n).Same s s.geoSettle := by
  unfold State.geoSettle
  split
  · simp only
    split
    · exact .refl _ s
    · split
      · exact ((synthView_deep.wr s _ (apart_synth n (whole A.GEO_LOAD_FRAME) (by simp))).trans
          (synthView_deep.set _ (apart_synth n F.GEO_STATUS_LOAD_VALID (by simp)))).trans (State.geo_synth _ _)
      · exact .refl _ s
  · exact .refl _ s

theorem State.geoRowRead_synth (s : State) (m : QuadId) (j : Nat) (k : Int) : (synthView n).Same s (s.geoRowRead m j k) := by
  unfold State.geoRowRead
  split
  · next g _ =>
    have settled (l : List (Nat × Nat)) (o : Option Int) : (synthView n).Same s
        (State.geoSettle { s with geo := { s.geo with load := some { g with unread := l, frame := o } } }) :=
      (s.geo_synth _).trans (State.geoSettle_synth _)
    simp only
    split
    · split
      · exact .refl _ s
      · exact settled _ _
    · rw [if_pos rfl]
      exact .refl _ s
  · exact .refl _ s

/-- Beyond what a geometry load has copied meanwhile, a row's records read leave the synthesiser but for its records. -/
theorem State.readRecords_rest (s : State) (j : Nat) (k : Int) (perr : List Nat) :
    (synthView n).Same s.geoAdvance (s.readRecords n j k perr) := by
  unfold State.readRecords
  generalize s.geoAdvance = u
  simp only
  split
  · refine View.Same.trans ?_ (State.geoRowRead_synth _ n j k)
    refine View.Same.trans ?_ (State.recs_synth _ _)
    exact (u.geo_synth _).trans (forAll_same _ (fun t col _ => t.geoPerr_synth _) _)
  · refine View.Same.trans ?_ (State.recs_synth _ _)
    refine foldl_same (List.range _) ?_ (([] : List Nat), u)
    rintro ⟨l, v⟩ _ -
    exact v.draw_synth 54

theorem State.readRecords_row (s : State) (j : Nat) (k : Int) (perr : List Nat) : (rowView n).Same s (s.readRecords n j k perr) :=
  s.geoAdvance_row.trans (s.readRecords_rest j k perr).row

/-- Without a geometry load the number of planes stays too. -/
theorem State.readRecords_synth {s : State} (h : s.geo.load = none) (j : Nat) (k : Int) (perr : List Nat) :
    (synthView n).Same s (s.readRecords n j k perr) := by
  have hadv : s.geoAdvance = s := by simp only [State.geoAdvance, h]
  have hrest := s.readRecords_rest (n := n) j k perr
  rwa [hadv] at hrest

end Synth

/-! ### Samples and rays (R185 to R191) -/

/-- A ray's state within its range (R187). -/
def Light.inRange (r : Light) : Prop := r.c0 ≤ 131071 ∧ r.c1 ≤ 131071 ∧ r.c2 ≤ 131071 ∧ r.a ≤ 65536

theorem alpha8_le {a : Nat} (h : a < 256) : alpha8 a ≤ 65536 := by unfold alpha8; omega

theorem alpha2_le (a : Nat) : alpha2 a ≤ 65536 := by unfold alpha2; split <;> omega

theorem pixel32_alpha_le (fmt px : Nat) (lut : Nat → Nat → Nat) : (pixel32 fmt px lut).a ≤ 65536 := by
  unfold pixel32
  split
  · exact alpha8_le (Nat.mod_lt _ (by decide))
  · exact alpha2_le _

theorem State.texel_alpha_le (s : State) (n : QuadId) (bad : List Nat) (p : Fin 16) (x y : Int) : (s.texel n bad p x y).a ≤ 65536 := by
  unfold State.texel
  split
  · exact Nat.zero_le _
  · split
    · exact Nat.zero_le _
    · exact pixel32_alpha_le _ _ _

/-- The weights of R185 add up to 1. -/
theorem weights_sum {fx fy : Nat} (hx : fx < 256) (hy : fy < 256) :
    (256 - fx) * (256 - fy) + fx * (256 - fy) + (256 - fx) * fy + fx * fy = 65536 := by
  obtain ⟨gx, hgx⟩ : ∃ g, 256 - fx = g := ⟨_, rfl⟩
  obtain ⟨gy, hgy⟩ : ∃ g, 256 - fy = g := ⟨_, rfl⟩
  have hsx : gx + fx = 256 := by omega
  have hsy : gy + fy = 256 := by omega
  rw [hgx, hgy]
  calc gx * gy + fx * gy + gx * fy + fx * fy = (gx + fx) * (gy + fy) := by ring
    _ = 65536 := by rw [hsx, hsy]

/-- An alpha between four is none beyond them (R186). -/
theorem bilinear_alpha_le (xp yp : Int) {texel : Int → Int → Light} (h : ∀ x y, (texel x y).a ≤ 65536) :
    (bilinear xp yp texel).a ≤ 65536 := by
  have hsum := weights_sum (fx := (xp % 256).toNat) (fy := (yp % 256).toNat) (by omega) (by omega)
  have part (w : Nat) (x y : Int) : w * (texel x y).a ≤ w * 65536 := Nat.mul_le_mul_left w (h x y)
  have h0 := part ((256 - (xp % 256).toNat) * (256 - (yp % 256).toNat)) (xp / 256) (yp / 256)
  have h1 := part ((xp % 256).toNat * (256 - (yp % 256).toNat)) (xp / 256 + 1) (yp / 256)
  have h2 := part ((256 - (xp % 256).toNat) * (yp % 256).toNat) (xp / 256) (yp / 256 + 1)
  have h3 := part ((xp % 256).toNat * (yp % 256).toNat) (xp / 256 + 1) (yp / 256 + 1)
  simp only [bilinear, mix, weights, List.zipWith_cons_cons, List.zipWith_nil_left, List.foldl_cons, List.foldl_nil, Nat.zero_add]
  omega

section Rays

variable {n : QuadId} (s : State)

theorem State.freeLight_alpha_le : s.freeLight.1.a ≤ 65536 := by
  have h : s.freeLight.1.a < 65537 := Nat.mod_lt _ (by decide)
  omega

theorem State.freeLight_synth : (synthView n).Same s s.freeLight.2 :=
  (((s.draw_synth 16).trans (State.draw_synth _ 16)).trans (State.draw_synth _ 16)).trans (State.draw_synth _ 17)

theorem State.reliefNear_synth (p : Fin 16) (bias : Nat) (xp yp : Int) :
    (synthView n).Same s (s.reliefNear p bias xp yp).2.2 := by
  unfold State.reliefNear
  simp only
  split
  · split
    · exact s.draw_synth 4
    · exact .refl _ s
  · exact .refl _ s

/-- The sample at footprint position `x`, once it is settled (R185, R190). -/
def State.sampleAt (s : State) (n : QuadId) (lutBad : List Nat) (p : Fin 16) (x : Int × Int) (cost : Nat) (bad : List Nat) :
    Visit × State :=
  if !inReach x then ({ light := s.freeLight.1, cost := cost, bad := bad }, s.freeLight.2)
  else
    let at_ := s.planePos n p x
    ({ light := bilinear at_.1 at_.2 (s.texel n lutBad p), cost := cost, bad := bad ++ s.badTexels p at_.1 at_.2 }, s)

/-- The relief value that a visit reads at footprint position `x`, the failing words of the read, and the state after it; BIAS
where no relief is read (R189). -/
def State.reliefFor (s : State) (n : QuadId) (p : Fin 16) (refine : Bool) (bias : Nat) (x : Int × Int) : Nat × List Nat × State :=
  if refine then s.reliefNear p bias (s.planePos n p x).1 (s.planePos n p x).2 else (bias, [], s)

theorem State.visit_eq (lutBad : List Nat) (p : Fin 16) (r : RayOf) :
    s.visit n lutBad p r =
      let rel := s.liveRd (A.SYN_RELIEF n p)
      let refine := (s.plane p).live.relief && field rel 31 1 == 1
      let cost := if refine then 2 else 1
      let z := signed 16 (s.liveRd (A.SYN_DEPTH n p)).toNat
      let x := s.footprint n p r z
      if s.planeClear n p then ({ cost := cost }, s)
      else if !inReach x then ({ light := s.freeLight.1, cost := cost }, s.freeLight.2)
      else
        let h := s.reliefFor n p refine (field rel 16 4) x
        let z := if refine then clampInt (-32768) 32767 (z + ((h.1 : Int) - field rel 16 4) * signed 16 (field rel 0 16)) else z
        h.2.2.sampleAt n lutBad p (h.2.2.footprint n p r z) cost h.2.1 := rfl

theorem State.sampleAt_sample (lutBad : List Nat) (p : Fin 16) (x : Int × Int) (cost : Nat) (bad : List Nat) :
    (s.sampleAt n lutBad p x cost bad).1.light.a ≤ 65536 ∧ (synthView n).Same s (s.sampleAt n lutBad p x cost bad).2 := by
  unfold State.sampleAt
  split
  · exact ⟨s.freeLight_alpha_le, s.freeLight_synth⟩
  · exact ⟨bilinear_alpha_le _ _ (s.texel_alpha_le n lutBad p), .refl _ s⟩

theorem State.reliefFor_synth (p : Fin 16) (refine : Bool) (bias : Nat) (x : Int × Int) :
    (synthView n).Same s (s.reliefFor n p refine bias x).2.2 := by
  unfold State.reliefFor
  split
  · exact s.reliefNear_synth p bias _ _
  · exact .refl _ s

/-- A visit gives a sample whose alpha is in range, and draws free values alone. -/
theorem State.visit_sample (lutBad : List Nat) (p : Fin 16) (r : RayOf) :
    (s.visit n lutBad p r).1.light.a ≤ 65536 ∧ (synthView n).Same s (s.visit n lutBad p r).2 := by
  rw [s.visit_eq]
  extract_lets rel refine cost z x
  split
  · exact ⟨Nat.zero_le _, .refl _ s⟩
  · split
    · exact ⟨s.freeLight_alpha_le, s.freeLight_synth⟩
    · obtain ⟨ha, hs⟩ := State.sampleAt_sample _ lutBad p _ _ _
      exact ⟨ha, (s.reliefFor_synth p _ _ _).trans hs⟩

end Rays

/-- A sample within range blended into a ray leaves it within its range (R187). -/
theorem blend_inRange {r c : Light} (hr : r.a ≤ 65536) (hc : c.a ≤ 65536) : (blend r c).inRange := by
  have halpha : (65536 - r.a) * c.a ≤ (65536 - r.a) * 65536 := Nat.mul_le_mul_left _ hc
  refine ⟨Nat.min_le_right _ _, Nat.min_le_right _ _, Nat.min_le_right _ _, ?_⟩
  simp only [blend]
  omega

theorem Light.inRange_transparent : Light.inRange {} := by simp [Light.inRange]

/-! ### The rays of a line (R187, R192) -/

/-- Every ray so far is within its range. -/
def LineSum.inRange (m : LineSum) : Prop := ∀ r ∈ m.rays, r.inRange

section Line

variable {n : QuadId}

/-- The visits of a ray leave it within its range, and the rays before it. -/
theorem State.visits_inRange (s : State) (lutBad : List Nat) (r : RayOf) (et : Bool) (l : List (Fin 16)) {c : Light} (m : LineSum)
    (hc : c.inRange) :
    let v := s.visits n lutBad r et l c m
    v.1.inRange ∧ v.2.1.rays = m.rays ∧ (synthView n).Same s v.2.2 := by
  induction l generalizing s c m with
  | nil => exact ⟨hc, rfl, .refl _ s⟩
  | cons p l ih =>
    obtain ⟨halpha, hsame⟩ := s.visit_sample (n := n) lutBad p r
    rw [State.visits]
    generalize s.visit n lutBad p r = v at halpha hsame ⊢
    obtain ⟨v, u⟩ := v
    have hblend := blend_inRange hc.2.2.2 halpha
    simp only at hblend hsame ⊢
    split
    · exact ⟨hblend, rfl, hsame⟩
    · obtain ⟨h1, h2, h3⟩ := ih u { m with
        samples := m.samples + v.cost, bad := v.bad.reverse.map (fun w => (r.i, l.length, w)) ++ m.bad } hblend
      exact ⟨h1, h2, hsame.trans h3⟩

/-- A ray added is one more, within its range. -/
theorem State.addRay_adds (s : State) (lutBad : List Nat) (r : RayOf) (m : LineSum) :
    let v := s.addRay n lutBad r m
    v.1.rays.length = m.rays.length + 1 ∧ (m.inRange → v.1.inRange) ∧ (synthView n).Same s v.2 := by
  obtain ⟨h1, h2, h3⟩ := s.visits_inRange (n := n) lutBad r (s.liveFlag (F.SYN_CFG_ET_EN n)) (s.planeList n) m Light.inRange_transparent
  refine ⟨congrArg (fun l => l.length + 1) h2, fun hm c hmem => ?_, h3⟩
  rcases List.mem_cons.mp hmem with rfl | hmem
  · exact h1
  · exact hm c (h2 ▸ hmem)

/-- Without planes a ray is transparent and costs nothing (R182). -/
theorem State.addRay_of_no_planes {s : State} (h : s.get (F.SYN_STATUS_EFF_PLANES n) = 0) (lutBad : List Nat) (r : RayOf) (m : LineSum) :
    s.addRay n lutBad r m = ({ m with rays := {} :: m.rays }, s) := by
  have hlist : s.planeList n = [] := by simp [State.planeList, h]
  rw [State.addRay, hlist]
  rfl

/-- What every step of a fold adds to a measure. -/
theorem foldl_adds {γ δ : Type} {f : δ → γ → δ} (μ : δ → Nat) (k : Nat) (l : List γ) (h : ∀ d x, μ (f d x) = μ d + k) (d : δ) :
    μ (l.foldl f d) = μ d + l.length * k := by
  induction l generalizing d with
  | nil => simp
  | cons x l ih => rw [List.foldl_cons, ih, h, List.length_cons, Nat.succ_mul]; omega

/-- The ray of direction `u` of a hogel added to the line. -/
def addDirection (n : QuadId) (lutBad : List Nat) (i j v : Nat) (g : GeoRec) (r : LineSum × State) (u : Nat) : LineSum × State :=
  let (m, s) := r
  let (tu, tv) := corrected (s.tanU u) (s.tanV v) g
  s.addRay n lutBad { i := i, j := j, g := g, tu := tu, tv := tv } m

theorem addDirection_eq (lutBad : List Nat) (i j v : Nat) (g : GeoRec) (r : LineSum × State) (u : Nat) :
    ∃ x, addDirection n lutBad i j v g r u = r.2.addRay n lutBad x r.1 := ⟨_, rfl⟩

/-- The rays of hogel column `col` added to the line. -/
def State.addHogel (s₀ : State) (n : QuadId) (lutBad : List Nat) (line : Nat) (recs : List Nat) (r : LineSum × State) (col : Nat) :
    LineSum × State :=
  (List.range s₀.dirCols).foldl (addDirection n lutBad (n.val * (s₀.hogelCols / 4) + col) (line / s₀.dirRows) (line % s₀.dirRows)
    (geoRecOf (recs.getD col 0))) r

theorem State.lineRays_eq (s : State) (lutBad : List Nat) (line : Nat) (recs : List Nat) :
    s.lineRays n lutBad line recs = (List.range (s.hogelCols / 4)).foldl (s.addHogel n lutBad line recs) ({}, s) := by
  unfold State.lineRays State.addHogel addDirection
  rfl

theorem State.lineRays_synth (s : State) (lutBad : List Nat) (line : Nat) (recs : List Nat) :
    (synthView n).Same s (s.lineRays n lutBad line recs).2 := by
  rw [s.lineRays_eq]
  exact foldl_same _ (fun r col _ => foldl_same _ (fun r u _ => (r.2.addRay_adds lutBad _ r.1).2.2) r) ({}, s)

/-- One ray per hogel column and direction (R192). -/
theorem State.lineRays_length (s : State) (lutBad : List Nat) (line : Nat) (recs : List Nat) :
    (s.lineRays n lutBad line recs).1.rays.length = s.hogelCols / 4 * s.dirCols := by
  have hogel (r : LineSum × State) (col : Nat) :
      (s.addHogel n lutBad line recs r col).1.rays.length = r.1.rays.length + s.dirCols := by
    refine (foldl_adds (fun r : LineSum × State => r.1.rays.length) 1 _ (fun r u => (r.2.addRay_adds lutBad _ r.1).1) r).trans ?_
    simp
  rw [s.lineRays_eq]
  refine (foldl_adds (fun r : LineSum × State => r.1.rays.length) _ _ hogel ({}, s)).trans ?_
  simp

/-- The rays of a line are within their range (R187). -/
theorem State.lineRays_inRange (s : State) (lutBad : List Nat) (line : Nat) (recs : List Nat) :
    (s.lineRays n lutBad line recs).1.inRange := by
  have hogel (r : LineSum × State) (hr : r.1.inRange) (col : Nat) : (s.addHogel n lutBad line recs r col).1.inRange :=
    List.foldlRecOn (motive := fun r : LineSum × State => r.1.inRange) _ _ hr
      fun r hr u _ => (r.2.addRay_adds lutBad _ r.1).2.1 hr
  rw [s.lineRays_eq]
  exact List.foldlRecOn (motive := fun r : LineSum × State => r.1.inRange) _ _ (by simp [LineSum.inRange])
    fun r hr col _ => hogel r hr col

/-- Rays that are all transparent and have cost nothing, in the state `s`. -/
def LineSum.clear (s : State) (r : LineSum × State) : Prop := r.2 = s ∧ r.1.samples = 0 ∧ ∀ c ∈ r.1.rays, c = {}

/-- Without planes the rays of a line are transparent and cost nothing (R182). -/
theorem State.lineRays_of_no_planes {s : State} (h : s.get (F.SYN_STATUS_EFF_PLANES n) = 0) (lutBad : List Nat) (line : Nat)
    (recs : List Nat) : LineSum.clear s (s.lineRays n lutBad line recs) := by
  have direction (i j v : Nat) (g : GeoRec) (r : LineSum × State) (hr : LineSum.clear s r) (u : Nat) :
      LineSum.clear s (addDirection n lutBad i j v g r u) := by
    obtain ⟨hs, hcost, hrays⟩ := hr
    obtain ⟨x, hx⟩ := addDirection_eq (n := n) lutBad i j v g r u
    rw [hx, State.addRay_of_no_planes (by rw [hs]; exact h)]
    exact ⟨hs, hcost, by simpa using hrays⟩
  rw [s.lineRays_eq]
  refine List.foldlRecOn (motive := LineSum.clear s) _ _ ⟨rfl, rfl, by simp⟩ fun r hr col _ => ?_
  exact List.foldlRecOn (motive := LineSum.clear s) _ _ hr fun r hr u _ => direction _ _ _ _ r hr u

end Line

end Sys2Proof.Machine

namespace Sys2Proof.Machine

/-! ### SYN_GO (R75, R199) -/

section SynGo

variable {s : State} {n : QuadId} {v : Word}

/-- The flags that a frame's start leaves, `late` where its first deadline has passed. -/
def State.goFlags (s : State) (n : QuadId) (late : Bool) : State :=
  ((s.set (F.SYN_STATUS_BUSY n)).setIf late (F.SYN_STATUS_LATE_GO n)).clr (F.SYN_SAMPLES_HI_VALID n)

theorem State.goFlags_onlyBits (s : State) (n : QuadId) (late : Bool) :
    OnlyBits [F.SYN_STATUS_BUSY n, F.SYN_STATUS_LATE_GO n, F.SYN_SAMPLES_HI_VALID n] s (s.goFlags n late) :=
  (((s.set_onlyBits _).mono (by simp)).trans ((State.setIf_onlyBits _ late _).mono (by simp))).trans
    ((State.clr_onlyBits _ _).mono (by simp))

theorem State.goFlags_busy (s : State) (n : QuadId) (late : Bool) : (s.goFlags n late).flag (F.SYN_STATUS_BUSY n) = true := by
  unfold State.goFlags
  rw [(State.clr_bitsKept _ _).flag_eq (by simp) (by simp), (State.setIf_bitsKept _ late _).flag_eq (by simp) (by simp)]
  exact State.flag_set _ (by simp) (by simp)

theorem State.goFlags_late (s : State) (n : QuadId) : (s.goFlags n true).flag (F.SYN_STATUS_LATE_GO n) = true := by
  unfold State.goFlags
  rw [(State.clr_bitsKept _ _).flag_eq (by simp) (by simp)]
  exact State.flag_set _ (by simp) (by simp)

theorem State.goFlags_valid (s : State) (n : QuadId) (late : Bool) : (s.goFlags n late).flag (F.SYN_SAMPLES_HI_VALID n) = false := by
  have h : (s.goFlags n late).get (F.SYN_SAMPLES_HI_VALID n) = 0 := State.get_clr _ (by simp)
  simp [State.flag, h]

/-- SYN_GO of an idle synthesiser. -/
theorem exec_synGo (hidle : s.flag (F.SYN_STATUS_BUSY n) = false) : exec (.synGo n v) s = .next (s.synGo n v) := by
  change execSynGo n v s = _
  simp [execSynGo, hidle]

/-- With a valid cadence and geometry the frame begins. -/
theorem State.synGo_begins (hc : s.cadenceOk = true) (hg : s.geoOk = true) :
    ∃ missed done, s.synGo n v =
      (s.goFlags n (decide (s.lineAt (s.resolveFrame v) (-(s.runahead : Int)) < (s.wall16 : Int)))).setSy n
        { frame := some (s.resolveFrame v), doneAt := done, missed := missed } := by
  simp only [State.synGo, hc, hg, Bool.and_self, if_true]
  exact ⟨_, _, rfl⟩

theorem State.synGo_bad (h : s.cadenceOk = false ∨ s.geoOk = false) : s.synGo n v = s.set (F.SYN_STATUS_GO_BAD n) := by
  rcases h with h | h <;> simp [State.synGo, h]

end SynGo

/-! ### SYN_LINE_START (R22, R192, R193) -/

section SynLineStart

variable {s : State} {n : QuadId} {k : Int} (perr fails corr lut : List Nat)

/-- The state in which line `line` is synthesised: its row's records are read, and the errors of its reads noted. -/
def State.lineOpened (s : State) (n : QuadId) (line : Nat) (k : Int) (perr fails corr : List Nat) : State :=
  let s := if line % s.dirRows = 0 then s.readRecords n (line / s.dirRows) k perr else s
  let s : State := { s with ing := { s.ing with bad := s.ing.bad ++ fails.filter (fun w => !s.ing.bad.contains w) } }
  forAll corr s fun s w => s.sramCorr 0 w

/-- The rays of the next line, with the state that has drawn their free values. -/
def State.nextRays (s : State) (n : QuadId) (k : Int) (perr fails corr lut : List Nat) : LineSum × State :=
  let u := s.lineOpened n (s.sy n).next k perr fails corr
  u.lineRays n lut (s.sy n).next (u.sy n).recs

/-- What the rays' reads report. -/
def State.raysTold (s : State) (m : LineSum) (lut : List Nat) : State :=
  (forAll m.bad.reverse.eraseDups s fun s w => s.sramUncorr 0 w.2.2).lutParity lut

/-- The line that starts, its rays in `m`, with the state `t` that has read for them. -/
def startedLine (s t : State) (n : QuadId) (m : LineSum) (stall : Nat) (fill : Bool) : SynLine :=
  { line := (s.sy n).next, rays := m.rays.reverse, cost := ceilDiv m.samples 128 + stall, fill := fill, since := t.wt.cycle }

/-- A due line with no line in work starts. -/
theorem exec_synLineStart (stall : Nat) (hk : (s.sy n).frame = some k) (hdue : s.lineDue k (s.sy n).next = true)
    (hwork : (s.sy n).work = []) :
    ∃ fill, exec (.synLineStart n perr fails corr lut stall) s = .next (
      let r := s.nextRays n k perr fails corr lut
      let t := r.2.raysTold r.1 lut
      t.setSy n { t.sy n with next := (s.sy n).next + 1, work := (t.sy n).work ++ [startedLine s t n r.1 stall fill],
                              samples := (t.sy n).samples + r.1.samples, xstall := (t.sy n).xstall + stall }) := by
  change ∃ _, execSynLineStart n perr fails corr lut stall s = _
  simp only [execSynLineStart, hk, hdue, hwork, List.isEmpty_nil, Bool.and_self, if_true]
  exact ⟨_, rfl⟩

theorem State.lineOpened_rest (u : State) (fails corr : List Nat) :
    (synthView n).Same u (forAll corr { u with ing := { u.ing with
      bad := u.ing.bad ++ fails.filter (fun w => !u.ing.bad.contains w) } } fun s w => s.sramCorr 0 w) :=
  (synthView_deep.of_regs rfl rfl).trans (forAll_same corr (fun t w _ => t.sramCorr_synth 0 w) _)

theorem State.lineOpened_row (s : State) (line : Nat) (k : Int) : (rowView n).Same s (s.lineOpened n line k perr fails corr) := by
  refine View.Same.trans ?_ (State.lineOpened_rest _ fails corr).row
  split
  · exact s.readRecords_row _ k perr
  · exact .refl _ s

theorem State.lineOpened_synth (h : s.geo.load = none) (line : Nat) (k : Int) :
    (synthView n).Same s (s.lineOpened n line k perr fails corr) := by
  refine View.Same.trans ?_ (State.lineOpened_rest _ fails corr)
  split
  · exact State.readRecords_synth h _ k perr
  · exact .refl _ s

theorem State.raysTold_synth (s : State) (m : LineSum) : (synthView n).Same s (s.raysTold m lut) :=
  (forAll_same _ (fun t w _ => t.sramUncorr_synth 0 w.2.2) s).trans (State.lutParity_synth _ lut)

/-- The start of a line keeps all that `rowView` shows, until the line is in work. -/
theorem State.nextRays_row (s : State) (k : Int) :
    (rowView n).Same s ((s.nextRays n k perr fails corr lut).2.raysTold (s.nextRays n k perr fails corr lut).1 lut) :=
  (s.lineOpened_row perr fails corr (s.sy n).next k).trans
    ((State.lineRays_synth _ lut _ _).row.trans (State.raysTold_synth lut _ _).row)

section Row

variable {t : State}

theorem View.Same.sy_other (h : (rowView n).Same s t) {m : QuadId} (hm : m ≠ n) : t.sy m = s.sy m := by
  have := congrFun (congrArg Prod.fst h.1) m
  simp only [rowView, rowCore, if_neg hm] at this
  exact this

/-- The quadrant's synthesiser stays but for its records. -/
theorem View.Same.sy_own (h : (rowView n).Same s t) : t.sy n = { s.sy n with recs := (t.sy n).recs } := by
  have := congrFun (congrArg Prod.fst h.1) n
  simp only [rowView, rowCore, if_true, SynUnit.mk.injEq] at this
  obtain ⟨h1, h2, h3, -, h5, h6, h7, h8, h9, h10⟩ := this
  rw [SynUnit.mk.injEq]
  exact ⟨h1, h2, h3, rfl, h5, h6, h7, h8, h9, h10⟩

theorem View.Same.row_rest (h : (rowView n).Same s t) :
    t.cmp = s.cmp ∧ t.ing.scene = s.ing.scene ∧ (∀ m : QuadId, (t.dr m).mem = (s.dr m).mem) ∧ t.wt = s.wt := by
  have hcore := h.1
  simp only [rowView, rowCore, Prod.mk.injEq] at hcore
  obtain ⟨-, hcmp, hscene, hmem, hwt⟩ := hcore
  exact ⟨hcmp, hscene, congrFun hmem, hwt⟩

theorem View.Same.rays_count (h : (rowView n).Same s t) : t.hogelCols / 4 * t.dirCols = s.hogelCols / 4 * s.dirCols := by
  have h1 : t.rd A.GEO_PANEL = s.rd A.GEO_PANEL := h.rd_eq (by simp [rowView])
  have h2 : t.rd A.GEO_DIRS = s.rd A.GEO_DIRS := h.rd_eq (by simp [rowView])
  simp only [State.hogelCols, State.dirCols, State.get, h1, h2]

end Row

/-- A line's rays: one per hogel column and direction, each within its range. -/
theorem State.nextRays_rays (s : State) (k : Int) :
    (s.nextRays n k perr fails corr lut).1.rays.length = s.hogelCols / 4 * s.dirCols ∧
      (s.nextRays n k perr fails corr lut).1.inRange :=
  ⟨(State.lineRays_length _ lut _ _).trans (s.lineOpened_row perr fails corr (s.sy n).next k).rays_count,
    State.lineRays_inRange _ lut _ _⟩

/-- Without planes, and without a geometry load, a line's rays are transparent and cost nothing. -/
theorem State.nextRays_clear (hload : s.geo.load = none) (hplanes : s.get (F.SYN_STATUS_EFF_PLANES n) = 0) :
    (s.nextRays n k perr fails corr lut).1.samples = 0 ∧ ∀ c ∈ (s.nextRays n k perr fails corr lut).1.rays, c = {} := by
  have hopen := (State.lineOpened_synth (n := n) perr fails corr hload (s.sy n).next k).2 (F.SYN_STATUS_EFF_PLANES n) (by simp [synthView])
  exact (State.lineRays_of_no_planes (hopen.trans hplanes) lut _ _).2

end SynLineStart

/-! ### SYN_LINE_COMPLETE (R193, R199, R517) -/

section SynLineComplete

variable {s t u : State} {n : QuadId} {k : Int}

/-- An event told in a state whose sequencers, wall time and queue status are those of `s`. -/
theorem Told.of_same {q : SeqId} {x y : Nat} {late : Bool} {d : Nat} (h : Told q x y late d u t) (hseqs : u.seqs = s.seqs)
    (hwt : u.wt = s.wt) (hrd : u.rd (A.SEQ_EVQ_STATUS q) = s.rd (A.SEQ_EVQ_STATUS q)) : Told q x y late d s t := by
  have hseq (r : SeqId) : u.seq r = s.seq r := by simp only [State.seq, hseqs]
  simpa only [Told, hseq, State.wallNs, hwt, hrd, State.get] using h

/-- The registers at the end of frame `k`, whose counters are those of `y`. -/
def State.synWritten (s : State) (n : QuadId) (k : Int) (y : SynUnit) : State :=
  let s := s.wr (A.SYN_FRAME n) (BitVec.ofNat 32 (unsigned 32 k))
  let s := s.wr (A.SYN_SAMPLES_LO n) (BitVec.ofNat 32 y.samples)
  let s := s.wr (A.SYN_SAMPLES_HI n) (BitVec.ofNat 32 (y.samples / 2 ^ 32 % 16 + 2 ^ 31))
  let s := s.wr (A.SYN_XSTALL n) (BitVec.ofNat 32 (min y.xstall (2 ^ 32 - 1)))
  let s := s.wr (A.SYN_MAXLINE n) (BitVec.ofNat 32 (y.maxCost % 2 ^ 18 + y.maxLine % 2 ^ 14 * 2 ^ 18))
  s.clr (F.SYN_STATUS_BUSY n)

theorem State.synDone_eq (s : State) (n : QuadId) (k : Int) :
    s.synDone n k = ((s.synWritten n k (s.sy n)).setSy n { s.sy n with frame := none, recs := [] }).quadEvent n 0x12 0
      (unsigned 32 k) := rfl

theorem State.synWritten_eq (s : State) (n : QuadId) (k : Int) (y : SynUnit) :
    s.synWritten n k y = { s with regs := (s.synWritten n k y).regs } := rfl

/-- The registers that the end of a frame writes. -/
def synDoneFields (n : QuadId) : List Fld :=
  [whole (A.SYN_FRAME n), whole (A.SYN_SAMPLES_LO n), whole (A.SYN_SAMPLES_HI n), whole (A.SYN_XSTALL n), whole (A.SYN_MAXLINE n),
    F.SYN_STATUS_BUSY n]

theorem State.synWritten_bitsKept (s : State) (n : QuadId) (k : Int) (y : SynUnit) :
    BitsKept (synDoneFields n) s (s.synWritten n k y) := by
  have wr (s : State) {a : Nat} (v : Word) (ha : whole a ∈ synDoneFields n) : BitsKept (synDoneFields n) s (s.wr a v) :=
    (s.wr_bitsKept a v).mono (by simpa using ha)
  refine BitsKept.trans ?_ ((State.clr_bitsKept _ (F.SYN_STATUS_BUSY n)).mono (by simp [synDoneFields]))
  refine ((((wr s _ ?_).trans (wr _ _ ?_)).trans (wr _ _ ?_)).trans (wr _ _ ?_)).trans (wr _ _ ?_) <;> simp [synDoneFields]

theorem State.synWritten_busy (s : State) (n : QuadId) (k : Int) (y : SynUnit) :
    (s.synWritten n k y).flag (F.SYN_STATUS_BUSY n) = false := by
  have h : (s.synWritten n k y).get (F.SYN_STATUS_BUSY n) = 0 := State.get_clr _ (by simp)
  simp [State.flag, h]

/-- What the frame's registers read once it is done (R199). -/
theorem State.synWritten_reads (s : State) (n : QuadId) (k : Int) (y : SynUnit) :
    (s.synWritten n k y).rd (A.SYN_FRAME n) = BitVec.ofNat 32 (unsigned 32 k) ∧
      (s.synWritten n k y).rd (A.SYN_SAMPLES_LO n) = BitVec.ofNat 32 y.samples ∧
      (s.synWritten n k y).rd (A.SYN_SAMPLES_HI n) = BitVec.ofNat 32 (y.samples / 2 ^ 32 % 16 + 2 ^ 31) := by
  have clr (u : State) {a : Nat} (ha : a ≠ A.SYN_STATUS n) : (u.clr (F.SYN_STATUS_BUSY n)).rd a = u.rd a :=
    u.rd_put_other (f := F.SYN_STATUS_BUSY n) 0 ha
  unfold State.synWritten
  refine ⟨?_, ?_, ?_⟩
  · rw [clr _ (by simp), State.rd_wr_other _ _ (by simp), State.rd_wr_other _ _ (by simp), State.rd_wr_other _ _ (by simp),
      State.rd_wr_other _ _ (by simp), State.rd_wr_same]
  · rw [clr _ (by simp), State.rd_wr_other _ _ (by simp), State.rd_wr_other _ _ (by simp), State.rd_wr_other _ _ (by simp),
      State.rd_wr_same]
  · rw [clr _ (by simp), State.rd_wr_other _ _ (by simp), State.rd_wr_other _ _ (by simp), State.rd_wr_same]

end SynLineComplete

end Sys2Proof.Machine

namespace Sys2Proof.Machine

section SynLines

variable {s : State} {n : QuadId} {k : Int} {l : SynLine} {rest : List SynLine}

/-- The oldest line in work handed to composition (R193). -/
def State.lineHanded (s : State) (n : QuadId) (k : Int) (l : SynLine) (rest : List SynLine) : State :=
  (s.setCm n { s.cm n with ready := (s.cm n).ready ++ [⟨k, l.line, l.rays⟩] }).setSy n
    { s.sy n with frame := some k, work := rest, doneAt := s.wt.cycle, maxCost := max (s.sy n).maxCost l.cost,
                  maxLine := if (s.sy n).maxCost < l.cost then l.line else (s.sy n).maxLine }

/-- SYN_LINE_COMPLETE of the oldest line, its cycles having passed, with room in the staging. -/
theorem exec_synLineComplete (hk : (s.sy n).frame = some k) (hw : (s.sy n).work = l :: rest)
    (hdone : max l.since (s.sy n).doneAt + (if l.fill = true then 48 else 0) + l.cost ≤ s.wt.cycle)
    (hroom : (s.cm n).ready.length + (s.cm n).staged.length ≤ s.runahead) :
    exec (.synLineComplete n) s = .next (if l.line + 1 = s.vActive then (s.lineHanded n k l rest).synDone n k
      else s.lineHanded n k l rest) := by
  change execSynLineComplete n s = _
  have hstaging : s.stagingRoom n = true := by simpa [State.stagingRoom] using hroom
  simp only [execSynLineComplete, hk, hw, hdone, hstaging, and_self, if_true]
  rfl

theorem State.sy_lineHanded_other {m : QuadId} (hm : m ≠ n) : (s.lineHanded n k l rest).sy m = s.sy m :=
  State.sy_setSy_other _ _ hm

theorem State.cm_lineHanded_other {m : QuadId} (hm : m ≠ n) : (s.lineHanded n k l rest).cm m = s.cm m :=
  s.cm_setCm_other _ hm

theorem State.cm_lineHanded_own :
    (s.lineHanded n k l rest).cm n = { s.cm n with ready := (s.cm n).ready ++ [⟨k, l.line, l.rays⟩] } :=
  s.cm_setCm_same _

theorem State.sy_lineHanded_own : (s.lineHanded n k l rest).sy n =
    { s.sy n with frame := some k, work := rest, doneAt := s.wt.cycle, maxCost := max (s.sy n).maxCost l.cost,
                  maxLine := if (s.sy n).maxCost < l.cost then l.line else (s.sy n).maxLine } :=
  State.sy_setSy_same _ _

/-- The units after the end of a frame: of its synthesiser only the frame and the records change. -/
theorem State.synDone_units (s : State) (n : QuadId) (k : Int) :
    (∀ m, m ≠ n → (s.synDone n k).sy m = s.sy m) ∧ (s.synDone n k).sy n = { s.sy n with frame := none, recs := [] } ∧
      ∀ m, (s.synDone n k).cm m = s.cm m := by
  have hsy (u : State) (m : QuadId) : (u.quadEvent n 0x12 0 (unsigned 32 k)).sy m = u.sy m := by simp only [State.sy, State.quadEvent_syn]
  have hcm (u : State) (m : QuadId) : (u.quadEvent n 0x12 0 (unsigned 32 k)).cm m = u.cm m := by simp only [State.cm, State.quadEvent_cmp]
  rw [s.synDone_eq]
  refine ⟨fun m hm => ?_, ?_, fun m => ?_⟩
  · rw [hsy, State.sy_setSy_other _ _ hm]; rfl
  · rw [hsy, State.sy_setSy_same]
  · rw [hcm]; rfl

theorem State.synDone_eq_units (s : State) (n : QuadId) (k : Int) : s.synDone n k = { s with
    syn := (s.synDone n k).syn, regs := (s.synDone n k).regs, seqs := (s.synDone n k).seqs, bus := (s.synDone n k).bus } := by
  have hw := s.synWritten_eq n k (s.sy n)
  rw [s.synDone_eq]
  generalize s.synWritten n k (s.sy n) = w at hw ⊢
  rw [State.quadEvent, State.event_eq, hw]
  rfl

/-- The synthesiser's registers are apart from the status of the event queues. -/
theorem synDoneFields_ne_status : ∀ n : QuadId, ∀ q : SeqId, ∀ f ∈ synDoneFields n, f.addr ≠ A.SEQ_EVQ_STATUS q := by
  decide +kernel

theorem State.rd_setSy (s : State) (n : QuadId) (y : SynUnit) (a : Nat) : (s.setSy n y).rd a = s.rd a := rfl

/-- SYN_DONE is told with the frame's number. -/
theorem State.synDone_told (s : State) (n : QuadId) (k : Int) : Told (sqOf n) 0x12 0 false (unsigned 32 k) s (s.synDone n k) := by
  have hrd := (s.synWritten_bitsKept n k (s.sy n)).rd_eq (synDoneFields_ne_status n (sqOf n))
  rw [s.synDone_eq]
  exact (State.event_told _ (sqOf n) 0x12 0 false (unsigned 32 k)).of_same rfl rfl ((State.rd_setSy _ n _ _).trans hrd)

theorem State.setSy_bitsKept (s : State) (n : QuadId) (y : SynUnit) (l : List Fld) : BitsKept l s (s.setSy n y) := .of_regs rfl

theorem State.synDone_bitsKept (s : State) (n : QuadId) (k : Int) :
    BitsKept (synDoneFields n ++ [F.SEQ_EVQ_STATUS_OVERFLOW n.val]) s (s.synDone n k) := by
  rw [s.synDone_eq]
  exact (((s.synWritten_bitsKept n k (s.sy n)).mono (List.subset_append_left _ _)).trans (State.setSy_bitsKept _ _ _ _)).trans
    ((State.event_bitsKept _ (sqOf n) _ _ _ _).mono (List.subset_append_right _ _))

/-- The frame's registers once SYN_DONE is told. -/
theorem State.synDone_reads (s : State) (n : QuadId) (k : Int) :
    (s.synDone n k).flag (F.SYN_STATUS_BUSY n) = false ∧ (s.synDone n k).rd (A.SYN_FRAME n) = BitVec.ofInt 32 k ∧
      ((s.synDone n k).rd (A.SYN_SAMPLES_LO n)).toNat = (s.sy n).samples % 2 ^ 32 ∧
      ((s.synDone n k).rd (A.SYN_SAMPLES_HI n)).toNat = (s.sy n).samples / 2 ^ 32 % 16 + 2 ^ 31 := by
  obtain ⟨hframe, hlo, hhi⟩ := s.synWritten_reads n k (s.sy n)
  have hbusy := s.synWritten_busy n k (s.sy n)
  have rd {f : Fld} (hf : f ∈ synDoneFields n) : (s.synDone n k).rd f.addr = (s.synWritten n k (s.sy n)).rd f.addr := by
    rw [s.synDone_eq]
    exact (State.rd_event _ (synDoneFields_ne_status n (sqOf n) f hf)).trans (State.rd_setSy _ n _ _)
  have hstatus := rd (f := F.SYN_STATUS_BUSY n) (by simp [synDoneFields])
  have h1 := rd (f := whole (A.SYN_FRAME n)) (by simp [synDoneFields])
  have h2 := rd (f := whole (A.SYN_SAMPLES_LO n)) (by simp [synDoneFields])
  have h3 := rd (f := whole (A.SYN_SAMPLES_HI n)) (by simp [synDoneFields])
  simp only [whole] at h1 h2 h3
  simp only [State.flag, State.get, hstatus] at hbusy ⊢
  rw [h1, h2, h3, hframe, hlo, hhi, ofNat_unsigned]
  refine ⟨hbusy, rfl, BitVec.toNat_ofNat _ _, ?_⟩
  rw [BitVec.toNat_ofNat]
  omega

end SynLines

/-- Settles O34: SYN_GO by its flags, the start of a line by what its reads keep and by the rays added one by one, and its
completion by the line handed on and the end of the frame. -/
theorem synthesisLines : Obligations.SynthesisLines := by
  intro s n v k perr fails corr lut stall l rest
  refine ⟨fun hidle => ⟨fun hc hg => ?_, fun hbad => ?_⟩, fun hk hdue hwork => ?_, fun hk hwork hdone hroom => ?_⟩
  · obtain ⟨missed, done, hgo⟩ := State.synGo_begins (n := n) (v := v) hc hg
    generalize hl : decide (s.lineAt (s.resolveFrame v) (-(s.runahead : Int)) < (s.wall16 : Int)) = late at hgo
    obtain ⟨⟨honly, -⟩, hbits⟩ := s.goFlags_onlyBits n late
    refine ⟨_, exec_synGo hidle, ?_⟩
    rw [hgo]
    refine ⟨?_, ⟨fun m hm => ?_, fun m _ => ?_⟩, by simp, by simp, by simp, s.goFlags_busy n late, s.goFlags_valid n late,
      fun hlate => ?_, hbits⟩
    · rw [State.setSy, honly]
    · rw [State.sy_setSy_other _ _ hm, honly]; rfl
    · rw [honly]; rfl
    · rw [← hl, decide_eq_true hlate]
      exact s.goFlags_late n
  · refine ⟨_, exec_synGo hidle, ?_⟩
    rw [State.synGo_bad hbad]
    exact ⟨s.set_onlyBits _, State.flag_set _ (by simp) (by simp)⟩
  · obtain ⟨fill, hexec⟩ := exec_synLineStart perr fails corr lut stall hk hdue hwork
    have hkeep := s.nextRays_row (n := n) perr fails corr lut k
    obtain ⟨hlength, hrange⟩ := s.nextRays_rays (n := n) perr fails corr lut k
    have hclear := State.nextRays_clear (s := s) (n := n) (k := k) perr fails corr lut
    refine ⟨_, hexec, ?_⟩
    generalize s.nextRays n k perr fails corr lut = r at hkeep hlength hrange hclear
    obtain ⟨m, u⟩ := r
    simp only at hkeep hlength hrange hclear ⊢
    generalize u.raysTold m lut = t at hkeep ⊢
    have hown := hkeep.sy_own
    obtain ⟨hcmp, hscene, hmem, hwt⟩ := hkeep.row_rest
    refine ⟨⟨fun q hq => ?_, fun q _ => congrArg (fun x => x[q]) hcmp⟩, hcmp, hscene, hmem, hwt, ?_, ?_,
      startedLine s t n m stall fill, ?_, rfl, ?_, ?_, ?_, ?_⟩
    · rw [State.sy_setSy_other _ _ hq]
      exact hkeep.sy_other hq
    · rw [State.sy_setSy_same, hown]
      exact hk
    · rw [State.sy_setSy_same]
    · rw [State.sy_setSy_same, hown, hwork]
      rfl
    · simp only [startedLine, hwt]
    · simpa only [startedLine, List.length_reverse] using hlength
    · exact fun c hc => hrange c (List.mem_reverse.mp hc)
    · intro hload hplanes
      obtain ⟨hcost, hrays⟩ := hclear hload hplanes
      refine ⟨fun c hc => hrays c (List.mem_reverse.mp hc), ?_⟩
      simp [startedLine, hcost, ceilDiv]
  · rw [exec_synLineComplete hk hwork hdone hroom]
    have hother {m : QuadId} (hm : m ≠ n) := State.sy_lineHanded_other (s := s) (k := k) (l := l) (rest := rest) hm
    have hcm {m : QuadId} (hm : m ≠ n) := State.cm_lineHanded_other (s := s) (k := k) (l := l) (rest := rest) hm
    have hown := State.sy_lineHanded_own (s := s) (n := n) (k := k) (l := l) (rest := rest)
    have hready := State.cm_lineHanded_own (s := s) (n := n) (k := k) (l := l) (rest := rest)
    refine ⟨_, rfl, ?_⟩
    by_cases hlast : l.line + 1 = s.vActive
    · rw [if_pos hlast]
      obtain ⟨hsy, hsyn, hunit⟩ := (s.lineHanded n k l rest).synDone_units n k
      obtain ⟨hbusy, hframe, hlo, hhi⟩ := (s.lineHanded n k l rest).synDone_reads n k
      have heq := (s.lineHanded n k l rest).synDone_eq_units n k
      have hbits := (s.lineHanded n k l rest).synDone_bitsKept n k
      have htold := (s.lineHanded n k l rest).synDone_told n k
      rw [hown] at hsyn hlo hhi
      refine ⟨⟨fun m hm => (hsy m hm).trans (hother hm), fun m hm => (hunit m).trans (hcm hm)⟩, by rw [hsyn], by rw [hsyn],
        (hunit n).trans hready, fun h => absurd hlast h, fun _ => ⟨?_, by rw [hsyn], hbusy, hframe, hlo, hhi, ?_, ?_⟩⟩
      · rw [heq]; rfl
      · exact (BitsKept.of_regs rfl).trans hbits
      · exact htold.of_same rfl rfl rfl
    · rw [if_neg hlast]
      exact ⟨⟨fun m hm => hother hm, fun m hm => hcm hm⟩, by rw [hown], by rw [hown], hready, fun _ => ⟨rfl, by rw [hown]⟩,
        fun h => absurd h hlast⟩

end Sys2Proof.Machine

namespace Sys2Proof.Machine

/-! ### What a line slot turns on in a quadrant (R23, R244, R247) -/

/-- Line `m` of frame `k` is complete in quadrant `n`'s staging. -/
def State.isStaged (s : State) (n : QuadId) (k : Int) (m : Nat) : Bool :=
  (s.cm n).staged.any fun l => l.frame == k && l.line == m

/-- The registers of the cadence (R53, R558). -/
def cadenceFields : List Fld :=
  [whole A.CAD_EPOCH_HI, whole A.CAD_EPOCH_LO, whole A.CAD_P, whole A.CAD_Q, whole A.SCAN_VTIMING]

/-- The count of underruns and the abort registers of quadrant `n`. -/
def abortFields (n : QuadId) : List Fld :=
  [whole (A.SCAN_UNDERRUNS n), whole (A.SCAN_ABORT_FRAME n), whole (A.SCAN_ABORT n), F.SCAN_FLAGS_ABORT n]

/-- What every line slot leaves: the slot itself, wall time, root of trust, DRAM and scene, quadrant `n`'s scan state and line,
and the cadence. -/
def clockView (n : QuadId) :=
  View.mk (fun s : State => (s.frame.line, s.wt, s.rot, s.dram, s.ing, (s.scanU n).run))
    (F.SCAN_STATUS_LINE n :: cadenceFields)

/-- That, and what quadrant `n` shows of its aborts. -/
def slotView (n : QuadId) :=
  View.mk (fun s : State => ((clockView n).core s, (s.scanU n).aborted)) ((clockView n).fields ++ abortFields n)

/-- That, and what the deadline of line `m` of frame `k` turns on in quadrant `n`. -/
def lineView (n : QuadId) (k : Int) (m : Nat) :=
  View.mk (fun s : State => ((slotView n).core s, (s.sy n).missed, s.isStaged n k m)) (slotView n).fields

/-- The same without the line that the quadrant shows. -/
def dueView (n : QuadId) (k : Int) (m : Nat) := View.mk (lineView n k m).core (cadenceFields ++ abortFields n)

section Line

variable {n q : QuadId} {k : Int} {m : Nat} {s t : State}

theorem lineView_deep : (lineView n k m).Deep := ⟨rfl, fun _ _ _ _ => rfl⟩

theorem dueView_deep : (dueView n k m).Deep := ⟨rfl, fun _ _ _ _ => rfl⟩

theorem slotView_deep : (slotView n).Deep := ⟨rfl, fun _ _ _ _ => rfl⟩

theorem clockView_deep : (clockView n).Deep := ⟨rfl, fun _ _ _ _ => rfl⟩

theorem View.Same.slot (h : (lineView n k m).Same s t) : (slotView n).Same s t :=
  h.less (p := fun x => x.1) (fun _ => rfl) (List.Subset.refl _)

theorem View.Same.due (h : (lineView n k m).Same s t) : (dueView n k m).Same s t :=
  h.less (p := id) (fun _ => rfl) (by simp [lineView, slotView, clockView, dueView])

theorem View.Same.clock (h : (slotView n).Same s t) : (clockView n).Same s t :=
  h.less (p := fun x => x.1) (fun _ => rfl) (List.subset_append_left _ _)

/-- What any quadrant's slot may write apart from what it shows of its own line and aborts. -/
theorem apart_line : ∀ n q : QuadId, ∀ f ∈ [F.SYN_STATUS_ABANDON q, F.SYN_STATUS_BUSY q, F.MAP_LEVEL_LEVEL q, F.CRD_LEAD_VALID q,
    F.CRD_LEAD_LEAD q, F.CRD_LEAD_MIN_LEAD q, whole (A.CRD_LEAD_FRAME q), F.SCAN_STATUS_STATE q],
    apart (slotView n).fields f = true := by decide +kernel

/-- What another quadrant shows of its own line and aborts. -/
theorem apart_line_other : ∀ n q : QuadId, q ≠ n → ∀ f ∈ F.SCAN_STATUS_LINE q :: abortFields q,
    apart (slotView n).fields f = true := by decide +kernel

theorem apart_line_overflow : ∀ n : QuadId, ∀ q : SeqId, apart (slotView n).fields (F.SEQ_EVQ_STATUS_OVERFLOW q) = true := by
  decide +kernel

/-! #### The cadence -/

theorem View.Same.lineAt_eq (h : (lineView n k m).Same s t) (i j : Int) : t.lineAt i j = s.lineAt i j := by
  have rd {a : Nat} (ha : whole a ∈ cadenceFields) : t.rd a = s.rd a := h.rd_eq (by simp [lineView, slotView, clockView, ha])
  have h1 := rd (a := A.CAD_EPOCH_HI) (by simp [cadenceFields])
  have h2 := rd (a := A.CAD_EPOCH_LO) (by simp [cadenceFields])
  have h3 := rd (a := A.CAD_P) (by simp [cadenceFields])
  have h4 := rd (a := A.CAD_Q) (by simp [cadenceFields])
  have h5 := rd (a := A.SCAN_VTIMING) (by simp [cadenceFields])
  simp only [State.lineAt, State.cadEpoch, State.cadP, State.cadQ, State.vTotal, State.get, h1, h2, h3, h4, h5]

theorem View.Same.reached_eq (h : (lineView n k m).Same s t) (x : Int) : t.reached x = s.reached x := by
  have hwt : t.wt = s.wt := congrArg (fun c => c.1.1.2.1) h.1
  have hwall : t.wall16 = s.wall16 := by rw [State.wall16, State.wall16, hwt]
  simp only [State.reached, hwall]

theorem View.Same.vActive_eq (h : (dueView n k m).Same s t) : t.vActive = s.vActive := by
  have hrd : t.rd A.SCAN_VTIMING = s.rd A.SCAN_VTIMING := h.rd_eq (by simp [dueView, cadenceFields])
  simp only [State.vActive, State.get, hrd]

/-! #### Units replaced -/

theorem scanU_setScan (s : State) (u : ScanUnit) : (s.setScan q u).scanU n = if n = q then u else s.scanU n := by
  simp only [State.scanU, State.setScan, State.put_scan, Fin.getElem_fin, Vector.getElem_set, Fin.ext_iff, eq_comm (a := n.val)]

/-- A scan unit replaced by one in the same state that has aborted the same frame. -/
theorem State.setScan_line (s : State) {u : ScanUnit} (hr : u.run = (s.scanU q).run) (ha : u.aborted = (s.scanU q).aborted) :
    (lineView n k m).Same s (s.setScan q u) := by
  have hunit : ((s.setScan q u).scanU n).run = (s.scanU n).run ∧ ((s.setScan q u).scanU n).aborted = (s.scanU n).aborted := by
    rw [scanU_setScan]
    split
    · next e => rw [e]; exact ⟨hr, ha⟩
    · exact ⟨rfl, rfl⟩
  refine View.same_of_bitsKept (l := [F.SCAN_STATUS_STATE q]) ?_ lineView_deep.fits
    (List.forall_mem_singleton.mpr (apart_line n q _ (by simp))) ((BitsKept.of_regs rfl).trans (State.put_bitsKept _ _ _))
  simp only [lineView, slotView, clockView, hunit]
  rfl

/-- Lines taken out of a staging that are not line `m` of frame `k` in quadrant `n`. -/
theorem State.isStaged_setCm (s : State) {c : CmpUnit} {p : StagedLine → Bool} (hc : c.staged = (s.cm q).staged.filter p)
    (hp : q = n → ∀ l : StagedLine, l.frame = k → l.line = m → p l = true) :
    (s.setCm q c).isStaged n k m = s.isStaged n k m := by
  by_cases hq : q = n
  · subst hq
    simp only [State.isStaged, State.cm_setCm_same, hc, List.any_filter]
    refine List.any_congr rfl fun l => ?_
    by_cases hl : l.frame = k ∧ l.line = m
    · simp [hl, hp rfl l hl.1 hl.2]
    · have : (l.frame == k && l.line == m) = false := by simpa using hl
      simp [this]
  · simp only [State.isStaged, State.cm_setCm_other _ _ (Ne.symm hq)]

theorem State.setCm_line (s : State) {c : CmpUnit} {p : StagedLine → Bool} (hc : c.staged = (s.cm q).staged.filter p)
    (hp : q = n → ∀ l : StagedLine, l.frame = k → l.line = m → p l = true) : (lineView n k m).Same s (s.setCm q c) := by
  refine lineView_deep.of_regs rfl ?_
  simp only [lineView, s.isStaged_setCm hc hp]
  rfl

theorem State.setSy_line (s : State) {y : SynUnit} (hy : y.missed = (s.sy q).missed) : (lineView n k m).Same s (s.setSy q y) := by
  have hmissed : ((s.setSy q y).sy n).missed = (s.sy n).missed := by
    rw [s.sy_setSy]; split
    · next e => rw [hy, e]
    · rfl
  refine lineView_deep.of_regs rfl ?_
  simp only [lineView, hmissed]
  rfl

theorem State.setMp_line (s : State) (x : MapUnit) : (lineView n k m).Same s (s.setMp q x) := lineView_deep.of_regs rfl rfl

end Line

end Sys2Proof.Machine

namespace Sys2Proof.Machine

section Line

variable {n q : QuadId} {k f : Int} {m : Nat}

/-! ### What the parts of a line slot leave of a quadrant's line -/

theorem apart_giveUp (n q : QuadId) : ∀ g ∈ [F.SYN_STATUS_ABANDON q, F.SYN_STATUS_BUSY q, F.MAP_LEVEL_LEVEL q],
    apart (slotView n).fields g = true := fun g hg => apart_line n q g (by simp at hg ⊢; tauto)

/-- Giving up frame `f` leaves a view that looks at no more of quadrant `q`'s units than what stays of them (R23, R230). -/
theorem State.giveUp_same {α : Type} {v : View α} (hv : v.Deep) (s : State)
    (hfld : ∀ g ∈ [F.SYN_STATUS_ABANDON q, F.SYN_STATUS_BUSY q, F.MAP_LEVEL_LEVEL q], apart v.fields g = true)
    (hsy : ∀ (u : State) (y : SynUnit), y.missed = (u.sy q).missed → v.Same u (u.setSy q y))
    (hcm : ∀ (u : State) (c : CmpUnit), c.staged = (u.cm q).staged.filter (·.frame ≠ f) → v.Same u (u.setCm q c))
    (hmp : ∀ (u : State) (x : MapUnit), v.Same u (u.setMp q x)) : v.Same s (s.giveUp q f) := by
  have h1 := hv.setIf s ((s.sy q).frame == some f || (s.cm q).ready.any (·.frame == f)) (hfld (F.SYN_STATUS_ABANDON q) (by simp))
  unfold State.giveUp
  generalize s.setIf _ (F.SYN_STATUS_ABANDON q) = u at h1
  have h2 : v.Same s (if (u.sy q).frame = some f then
      (u.clr (F.SYN_STATUS_BUSY q)).setSy q { u.sy q with frame := none, work := [], recs := [] } else u) :=
    .ite (h1.trans ((hv.clr u (hfld _ (by simp))).trans (hsy _ _ rfl))) h1
  simp only
  generalize (if (u.sy q).frame = some f then
      (u.clr (F.SYN_STATUS_BUSY q)).setSy q { u.sy q with frame := none, work := [], recs := [] } else u) = w at h2 ⊢
  have h3 := h2.trans (hcm w { w.cm q with
    ready := (w.cm q).ready.filter (·.frame ≠ f), staged := (w.cm q).staged.filter (·.frame ≠ f),
    frame := if (w.cm q).frame = some f then none else (w.cm q).frame } rfl)
  exact .ite (h3.trans ((hmp _ _).trans (hv.put _ _ (hfld (F.MAP_LEVEL_LEVEL q) (by simp))))) h3

theorem State.giveUp_line (s : State) (h : q = n → f ≠ k) : (lineView n k m).Same s (s.giveUp q f) :=
  State.giveUp_same lineView_deep s (apart_giveUp n q) (fun u _ hy => u.setSy_line hy)
    (fun u _ hc => u.setCm_line hc fun e l hl _ => by simpa [hl] using (h e).symm) (fun u x => u.setMp_line x)

theorem State.giveUp_slot (s : State) : (slotView n).Same s (s.giveUp q f) :=
  State.giveUp_same slotView_deep s (apart_giveUp n q) (fun _ _ _ => slotView_deep.of_regs rfl rfl)
    (fun _ _ _ => slotView_deep.of_regs rfl rfl) (fun _ _ => slotView_deep.of_regs rfl rfl)

theorem State.underrun_line (s : State) (f : Int) : (lineView n k m).Same s (s.underrun q f) :=
  lineView_deep.bothEvents (apart_line_overflow n) s q _ _ _ _ _ _

theorem State.underrun_slot (s : State) (i : Int) : (slotView n).Same s (s.underrun q i) :=
  (s.underrun_line (k := 0) (m := 0) i).slot

/-- Staging loses lines whose slot has ended, and none before (R560). -/
theorem State.retire_line (s : State) (h : q = n → s.reached (s.lineAt k ((m : Int) + 1)) = false) :
    (lineView n k m).Same s (s.retire q) :=
  s.setCm_line rfl fun e l hk hm => by rw [hk, hm, h e]; rfl

/-- Earlier frames given up are not frame `k`. -/
theorem State.dropOld_line (s : State) {j : Int} (h : q = n → j = k) : (lineView n k m).Same s (s.dropOld q j) := by
  refine forAll_same _ (fun t f hf => ?_) s
  have hlt : f < j := by simpa using (List.mem_filter.mp (List.mem_eraseDups.mp hf)).2
  have hgive := t.giveUp_line (q := q) (n := n) (f := f) (k := k) (m := m) fun e => by have := h e; omega
  exact .ite hgive (hgive.trans (State.underrun_line _ f))

/-- The lead at a line start is apart from the line itself (R132). -/
theorem State.leadAt_line (s : State) (i : Int) (j : Nat) : (lineView n k m).Same s (s.leadAt q i j) := by
  have hf := apart_line n q
  unfold State.leadAt
  simp only
  generalize (if j = 0 then min 63 (s.lead q) else _) = low
  have h1 : (lineView n k m).Same s ((s.setScan q { s.scanU q with minLead := low }).put (F.CRD_LEAD_LEAD q) (min 63 (s.lead q))) :=
    (s.setScan_line (q := q) (u := { s.scanU q with minLead := low }) rfl rfl).trans
      (lineView_deep.put _ _ (hf (F.CRD_LEAD_LEAD q) (by simp)))
  generalize (s.setScan q { s.scanU q with minLead := low }).put (F.CRD_LEAD_LEAD q) (min 63 (s.lead q)) = u at h1
  have h2 : (lineView n k m).Same s (if (s.staged q i j).isSome = true ∧ j + 1 = u.vActive then
      ((u.put (F.CRD_LEAD_MIN_LEAD q) low).set (F.CRD_LEAD_VALID q)).wr (A.CRD_LEAD_FRAME q) (BitVec.ofNat 32 (unsigned 32 i))
      else u) :=
    .ite (h1.trans (((lineView_deep.put u _ (hf _ (by simp))).trans (lineView_deep.set _ (hf _ (by simp)))).trans
      (lineView_deep.wr _ _ (hf _ (by simp))))) h1
  generalize (if (s.staged q i j).isSome = true ∧ j + 1 = u.vActive then _ else u) = w at h2 ⊢
  exact .ite (h2.trans ((w.setScan_line (q := q) (u := { w.scanU q with leadLow := some i }) rfl rfl).trans
    (lineView_deep.event _ (apart_line_overflow n (sqOf q)) _ _ _ _))) h2

/-! ### The deadline of a line (R23, R247, R560) -/

/-- The scan registers of an abort at line `m` of frame `k`. -/
def State.abortMark (s : State) (q : QuadId) (k : Int) (m : Nat) : State :=
  let s := (s.countReg (A.SCAN_UNDERRUNS q)).set (F.SCAN_FLAGS_ABORT q)
  let s := (s.wr (A.SCAN_ABORT_FRAME q) (BitVec.ofNat 32 (unsigned 32 k))).wr (A.SCAN_ABORT q) (BitVec.ofNat 32 (m % 2 ^ 14 + 2 ^ 31))
  s.setScan q { s.scanU q with aborted := some k }

/-- The frame given up, before its abort is shown. -/
def State.abortBegun (s : State) (q : QuadId) (k : Int) : State := (s.giveUp q k).clr (F.CRD_LEAD_VALID q)

theorem State.abort_eq (s : State) (q : QuadId) (k : Int) (m : Nat) :
    s.abort q k m = (if (s.abortBegun q k).sends q then (s.abortBegun q k).abortMark q k m else s.abortBegun q k).underrun q k := rfl

theorem State.sends_iff (s : State) (q : QuadId) : s.sends q = true ↔ (s.scanU q).run = .running ∨ (s.scanU q).run = .stopping := by
  unfold State.sends
  split <;> simp_all

theorem State.abortBegun_slot (s : State) (i : Int) : (slotView n).Same s (s.abortBegun q i) :=
  s.giveUp_slot.trans (slotView_deep.clr _ (apart_line n q _ (by simp)))

theorem State.abortBegun_line (s : State) (h : q ≠ n) (i : Int) : (lineView n k m).Same s (s.abortBegun q i) :=
  (s.giveUp_line fun e => absurd e h).trans (lineView_deep.clr _ (apart_line n q _ (by simp)))

theorem scanRun_eq {s t : State} (h : (slotView n).Same s t) : (t.scanU n).run = (s.scanU n).run :=
  congrArg (fun c => c.1.2.2.2.2.2) h.1

theorem View.Same.sends_eq {s t : State} (h : (slotView n).Same s t) : t.sends n = s.sends n := by
  simp only [State.sends, scanRun_eq h]

/-- The scan registers of an abort leave a view apart from them. -/
theorem State.abortMark_same {α : Type} {v : View α} (hv : v.Deep) (s : State) {i : Int} (j : Nat)
    (hf : ∀ g ∈ F.SCAN_STATUS_STATE q :: abortFields q, apart v.fields g = true)
    (hc : ∀ u : State, v.core (u.setScan q { u.scanU q with aborted := some i }) = v.core u) : v.Same s (s.abortMark q i j) := by
  have hscan (u : State) : v.Same u (u.setScan q { u.scanU q with aborted := some i }) :=
    View.same_of_bitsKept (l := [F.SCAN_STATUS_STATE q]) (hc u) hv.fits (List.forall_mem_singleton.mpr (hf _ (by simp)))
      ((BitsKept.of_regs rfl).trans (State.put_bitsKept _ _ _))
  have h1 := (hv.count s (f := ⟨A.SCAN_UNDERRUNS q, 0, 32⟩) (hf _ (by simp [abortFields, whole]))).trans
    (hv.set _ (f := F.SCAN_FLAGS_ABORT q) (hf _ (by simp [abortFields])))
  have h2 := (h1.trans (hv.wr _ (a := A.SCAN_ABORT_FRAME q) (BitVec.ofNat 32 (unsigned 32 i)) (hf _ (by simp [abortFields])))).trans
    (hv.wr _ (a := A.SCAN_ABORT q) (BitVec.ofNat 32 (j % 2 ^ 14 + 2 ^ 31)) (hf _ (by simp [abortFields])))
  exact h2.trans (hscan _)

/-- What another quadrant shows of its abort. -/
theorem State.abortMark_line (s : State) (h : q ≠ n) (i : Int) (j : Nat) : (lineView n k m).Same s (s.abortMark q i j) := by
  have hf : ∀ g ∈ F.SCAN_STATUS_STATE q :: abortFields q, apart (slotView n).fields g = true :=
    List.forall_mem_cons.mpr ⟨apart_line n q _ (by simp), (List.forall_mem_cons.mp (apart_line_other n q h)).2⟩
  refine State.abortMark_same lineView_deep s j hf fun u => ?_
  have hunit : (u.setScan q { u.scanU q with aborted := some i }).scanU n = u.scanU n := by
    rw [scanU_setScan, if_neg (Ne.symm h)]
  simp only [lineView, slotView, clockView, hunit]
  rfl

theorem State.abort_line (s : State) (h : q ≠ n) (i : Int) (j : Nat) : (lineView n k m).Same s (s.abort q i j) := by
  rw [s.abort_eq]
  have hbegun := s.abortBegun_line (k := k) (m := m) h i
  exact (View.Same.ite (hbegun.trans (State.abortMark_line _ h i j)) hbegun).trans (State.underrun_line _ i)

/-- The deadline of another quadrant's line. -/
theorem State.deadline_line (s : State) (h : q ≠ n) (i : Int) (j : Nat) : (lineView n k m).Same s (s.deadline q i j) := by
  have hgive := s.giveUp_line (n := n) (q := q) (k := k) (m := m) (f := i) fun e => absurd e h
  have habort := s.abort_line (k := k) (m := m) h i j
  exact .ite (.ite hgive (.refl _ s)) (.ite habort (.ite (.refl _ s) (.ite habort (.refl _ s))))

/-- An abort of a quadrant that does not scan shows nothing. -/
theorem State.abort_slot (s : State) (h : s.sends q = false) (i : Int) (j : Nat) : (slotView q).Same s (s.abort q i j) := by
  have hbegun := s.abortBegun_slot (n := q) (q := q) i
  rw [s.abort_eq, if_neg (by rw [hbegun.sends_eq, h]; simp)]
  exact hbegun.trans (State.underrun_slot _ i)

/-- A deadline that is kept, of a quadrant that does not scan, or of a frame aborted before, leaves what the quadrant shows. -/
theorem State.deadline_slot (s : State) (h : s.sends q = false ∨ (s.scanU q).aborted = some k ∨
    s.isStaged q k m = true ∧ (s.sy q).missed ≠ some k) : (slotView q).Same s (s.deadline q k m) := by
  have hstaged : (s.staged q k m).isSome = s.isStaged q k m := List.isSome_find?
  unfold State.deadline
  by_cases ha : (s.scanU q).aborted = some k
  · rw [if_pos ha]
    exact .ite s.giveUp_slot (.refl _ s)
  · rw [if_neg ha, hstaged]
    rcases h.imp_right fun h => h.resolve_left ha with h | ⟨h1, h2⟩
    · have habort := s.abort_slot h k m
      exact .ite habort (.ite (.refl _ s) (.ite habort (.refl _ s)))
    · have hmissed : s.missed q k = false := by simp [State.missed, h2]
      rw [hmissed, h1]
      exact .refl _ s

/-- A deadline that is not kept aborts the frame (R75, R247). -/
theorem State.deadline_aborts {s : State} (hs : s.sends q = true) (ha : (s.scanU q).aborted ≠ some k)
    (h : s.isStaged q k m = false ∨ (s.sy q).missed = some k) : s.deadline q k m = s.abort q k m := by
  have hstaged : (s.staged q k m).isSome = s.isStaged q k m := List.isSome_find?
  unfold State.deadline
  rw [if_neg ha, hstaged]
  by_cases hm : s.missed q k = true
  · rw [if_pos hm]
  · have hnot : s.isStaged q k m = false := by
      rcases h with h | h
      · exact h
      · rw [State.missed, h] at hm
        simp only [beq_self_eq_true, Bool.true_and, Bool.not_eq_true, Bool.or_eq_false_iff, List.any_eq_false] at hm
        simp only [State.isStaged, List.any_eq_false, Bool.and_eq_true, not_and]
        exact fun l hl hk => absurd hk (by simp [hm.2 l hl])
    rw [if_neg hm, hnot, if_neg (by simp), if_pos (.inl hs)]

end Line

end Sys2Proof.Machine

namespace Sys2Proof.Machine

/-! ### What an abort shows (R247) -/

/-- The underrun count and the abort registers of quadrant `n` after an abort of frame `k` at line `m`. -/
structure AbortShown (n : QuadId) (k : Int) (m : Nat) (s t : State) : Prop where
  count   : (t.rd (A.SCAN_UNDERRUNS n)).toNat = min ((s.rd (A.SCAN_UNDERRUNS n)).toNat + 1) (2 ^ 32 - 1)
  frame   : t.rd (A.SCAN_ABORT_FRAME n) = BitVec.ofInt 32 k
  line    : t.rd (A.SCAN_ABORT n) = BitVec.ofNat 32 (m + 2 ^ 31)
  flag    : t.flag (F.SCAN_FLAGS_ABORT n) = true
  aborted : (t.scanU n).aborted = some k

section Abort

variable {n q : QuadId} {k : Int} {m : Nat} {s t u : State}

theorem AbortShown.mono (h : AbortShown n k m s t) (hs : s.rd (A.SCAN_UNDERRUNS n) = u.rd (A.SCAN_UNDERRUNS n)) {t' : State}
    (ht : (slotView n).Same t t') : AbortShown n k m u t' := by
  have rd {a : Nat} (ha : whole a ∈ abortFields n) : t'.rd a = t.rd a :=
    ht.rd_eq (List.mem_append_right _ ha)
  obtain ⟨hcount, hframe, hline, hflag, haborted⟩ := h
  refine ⟨?_, ?_, ?_, ?_, (congrArg (fun c => c.2) ht.1).trans haborted⟩
  · rw [rd (by simp [abortFields]), hcount, hs]
  · rw [rd (by simp [abortFields]), hframe]
  · rw [rd (by simp [abortFields]), hline]
  · rw [ht.flag_of_mem (List.mem_append_right _ (by simp [abortFields])), hflag]

theorem State.rd_setScan (s : State) (x : ScanUnit) {a : Nat} (h : a ≠ A.SCAN_STATUS q) : (s.setScan q x).rd a = s.rd a :=
  State.rd_put_other _ (f := F.SCAN_STATUS_STATE q) _ h

theorem State.rd_countReg_same (s : State) (a : Nat) :
    ((s.countReg a).rd a).toNat = min ((s.rd a).toNat + 1) (2 ^ 32 - 1) := by
  have hget := s.get_count (f := ⟨a, 0, 32⟩) (by simp)
  simp only [State.get, field, pow_zero, Nat.div_one, Nat.mod_eq_of_lt (BitVec.isLt _)] at hget
  exact hget

theorem State.abortMark_shown (s : State) (hm : m < 2 ^ 14) : AbortShown q k m s (s.abortMark q k m) := by
  have set (u : State) {a : Nat} (ha : a ≠ A.SCAN_FLAGS q) : (u.set (F.SCAN_FLAGS_ABORT q)).rd a = u.rd a :=
    u.rd_put_other (f := F.SCAN_FLAGS_ABORT q) 1 ha
  unfold State.abortMark
  simp only
  refine ⟨?_, ?_, ?_, ?_, ?_⟩
  · rw [State.rd_setScan _ _ (by simp), State.rd_wr_other _ _ (by simp), State.rd_wr_other _ _ (by simp), set _ (by simp),
      State.rd_countReg_same]
  · rw [State.rd_setScan _ _ (by simp), State.rd_wr_other _ _ (by simp), State.rd_wr_same, ofNat_unsigned]
  · rw [State.rd_setScan _ _ (by simp), State.rd_wr_same, Nat.mod_eq_of_lt hm]
  · have hset := (s.countReg (A.SCAN_UNDERRUNS q)).flag_set (f := F.SCAN_FLAGS_ABORT q) (by simp) (by simp)
    simp only [State.flag, State.get] at hset ⊢
    rw [State.rd_setScan _ _ (by simp), State.rd_wr_other _ _ (by simp), State.rd_wr_other _ _ (by simp)]
    exact hset
  · rw [scanU_setScan, if_pos rfl]

theorem apart_clock : ∀ q : QuadId, ∀ f ∈ F.SCAN_STATUS_STATE q :: abortFields q, apart (clockView q).fields f = true := by
  decide +kernel

theorem State.abortMark_clock (s : State) : (clockView q).Same s (s.abortMark q k m) := by
  refine State.abortMark_same clockView_deep s m (apart_clock q) fun u => ?_
  have hunit : ((u.setScan q { u.scanU q with aborted := some k }).scanU q).run = (u.scanU q).run := by
    rw [scanU_setScan, if_pos rfl]
  simp only [clockView, hunit]
  rfl

/-- An abort of a quadrant that scans. -/
theorem State.abort_scanning (hs : s.sends q = true) :
    s.abort q k m = ((s.abortBegun q k).abortMark q k m).underrun q k := by
  rw [s.abort_eq, if_pos (by rw [(s.abortBegun_slot (n := q) k).sends_eq, hs])]

theorem State.abort_shown (hs : s.sends q = true) (hm : m < 2 ^ 14) : AbortShown q k m s (s.abort q k m) := by
  rw [State.abort_scanning hs]
  exact ((s.abortBegun q k).abortMark_shown hm).mono
    ((s.abortBegun_slot (n := q) k).rd_eq (List.mem_append_right _ (by simp [abortFields]))) (State.underrun_slot _ k)

theorem State.abort_clock (hs : s.sends q = true) : (clockView q).Same s (s.abort q k m) := by
  rw [State.abort_scanning hs]
  exact ((s.abortBegun_slot k).clock.trans (State.abortMark_clock _)).trans (State.underrun_slot _ k).clock

/-- A deadline keeps all but the abort registers. -/
theorem State.deadline_clock (s : State) : (clockView q).Same s (s.deadline q k m) := by
  by_cases hs : s.sends q = true
  · by_cases ha : (s.scanU q).aborted = some k
    · exact (s.deadline_slot (.inr (.inl ha))).clock
    · by_cases hd : s.isStaged q k m = true ∧ (s.sy q).missed ≠ some k
      · exact (s.deadline_slot (.inr (.inr hd))).clock
      · rw [State.deadline_aborts hs ha (by
          rw [not_and, Decidable.not_not] at hd
          cases h : s.isStaged q k m with
          | false => exact .inl rfl
          | true => exact .inr (hd h))]
        exact State.abort_clock hs
  · exact (s.deadline_slot (.inl (by simpa using hs))).clock

end Abort

end Sys2Proof.Machine

namespace Sys2Proof.Machine

section LineNow

variable {n q : QuadId} {k : Int} {m : Nat} {s t u : State}

/-! ### A line slot, quadrant by quadrant (R132, R247, R560) -/

/-- Quadrant `q` at the start of line `m` of frame `k`, before its deadline. -/
def State.lineShown (s : State) (q : QuadId) (k : Int) (m : Nat) : State :=
  ((s.retire q).dropOld q k).put (F.SCAN_STATUS_LINE q) m

/-- The start of line `m` of frame `k` in quadrant `q`. -/
def State.lineOf (s : State) (q : QuadId) (k : Int) (m : Nat) : State :=
  let s := s.lineShown q k m
  if m < s.vActive then (s.deadline q k m).leadAt q k m
  else
    let s := if s.inWork q k then (if s.sends q then s.giveUp q k else s.abort q k m) else s
    s.put (F.CRD_LEAD_LEAD q) (min 63 (s.lead q))

/-- The start of line `m` of frame `k` in group `x`. -/
def State.groupLine (s : State) (x : GroupId) (k : Int) (m : Nat) : State :=
  let s := s.rotLine x m
  let s :=
    if m < s.vActive then s.sendLine x k m
    else if m + 1 = s.vTotal ∧ s.anyScans then
      s.onLanes x 3 0 (k + 1) fun _ => beBytes 4 (unsigned 32 (k + 1)) ++ List.replicate 4 0
    else s
  s.sendCmd x m

/-- The slot that has been passed. -/
def State.atLine (s : State) (k : Int) (m : Nat) : State := { s with frame := { s.frame with line := some (k, m) } }

theorem State.lineNow_eq (s : State) (k : Int) (m : Nat) : s.lineNow k m =
    forAll allGroups (forAll allQuads (s.atLine k m) fun s q => s.lineOf q k m) fun s x => s.groupLine x k m := rfl

theorem State.lineShown_line (s : State) (h : q ≠ n) : (lineView n k m).Same s (s.lineShown q k m) :=
  ((s.retire_line fun e => absurd e h).trans (State.dropOld_line _ fun e => absurd e h)).trans
    (lineView_deep.put _ _ (apart_line_other n q h _ (by simp)))

/-- The line of another quadrant. -/
theorem State.lineOf_line (s : State) (h : q ≠ n) : (lineView n k m).Same s (s.lineOf q k m) := by
  have hshown := s.lineShown_line (k := k) (m := m) h
  unfold State.lineOf
  simp only
  generalize s.lineShown q k m = w at hshown
  refine .ite (hshown.trans ((w.deadline_line h k m).trans (State.leadAt_line _ k m))) ?_
  have hgiven := w.giveUp_line (k := k) (m := m) (f := k) fun e => absurd e h
  exact (hshown.trans (.ite (.ite hgiven (w.abort_line h k m)) (.refl _ w))).trans
    (lineView_deep.put _ _ (apart_line n q (F.CRD_LEAD_LEAD q) (by simp)))

/-- The quadrant's own line before its deadline: it shows the line, and the deadline finds what it found before. -/
theorem State.lineShown_own (s : State) (hlate : s.reached (s.lineAt k ((m : Int) + 1)) = false) (hm : m < 2 ^ 14) :
    (dueView n k m).Same s (s.lineShown n k m) ∧ (s.lineShown n k m).get (F.SCAN_STATUS_LINE n) = m := by
  have apart_shown : ∀ n : QuadId, apart (cadenceFields ++ abortFields n) (F.SCAN_STATUS_LINE n) = true := by decide +kernel
  refine ⟨((s.retire_line fun _ => hlate).trans (State.dropOld_line _ fun _ => rfl)).due.trans
    (dueView_deep.put _ _ (apart_shown n)), ?_⟩
  exact (State.get_put_same _ _ (by simp)).trans (Nat.mod_eq_of_lt hm)

/-- The quadrant's own line: its deadline, and the lead. -/
theorem State.lineOf_own (s : State) (hlate : s.reached (s.lineAt k ((m : Int) + 1)) = false) (hm : m < 2 ^ 14)
    (hactive : m < s.vActive) : (slotView n).Same ((s.lineShown n k m).deadline n k m) (s.lineOf n k m) := by
  have hv := (s.lineShown_own (n := n) hlate hm).1.vActive_eq
  unfold State.lineOf
  simp only
  rw [if_pos (by rw [hv]; exact hactive)]
  exact (State.leadAt_line (k := k) (m := m) _ k m).slot

/-! ### A line slot, group by group (R266, R274, R284) -/

theorem apart_group (n : QuadId) (x : GroupId) : ∀ a ∈ [A.TPL_MAP x.quad x.sub, A.TPL_STATUS x.quad x.sub,
    A.TPL_FLAGS x.quad x.sub, A.TPL_SWAPS x.quad x.sub], ∀ f ∈ (slotView n).fields, f.addr ≠ a := by
  revert n x
  decide +kernel

theorem apart_of_addr {l : List Fld} {g : Fld} (h : ∀ f ∈ l, f.addr ≠ g.addr) : apart l g = true :=
  List.all_eq_true.mpr fun f hf => by simp [h f hf]

theorem State.setGroup_slot (s : State) (x : GroupId) (g : TplGroup) : (slotView n).Same s (s.setGroup x g) :=
  slotView_deep.of_regs rfl rfl

theorem State.setRot_slot (s : State) (x : GroupId) (r : TplRot) : (slotView n).Same s (s.setRot x r) :=
  (slotView_deep.put s _ (apart_of_addr (apart_group n x _ (by simp)))).trans (State.setGroup_slot _ x _)

theorem State.laneMoved_slot (s : State) (x : GroupId) (lane old new : Nat) (fail : Bool) :
    (slotView n).Same s (s.laneMoved x lane old new fail) := by
  have hf {f : Fld} (h : f.addr ∈ [A.TPL_MAP x.quad x.sub, A.TPL_STATUS x.quad x.sub, A.TPL_FLAGS x.quad x.sub,
      A.TPL_SWAPS x.quad x.sub]) : apart (slotView n).fields f = true := apart_of_addr (apart_group n x _ h)
  have h1 : (slotView n).Same s ((s.setLane x lane new).put (F.TPL_STATUS_FREE x.quad x.sub) old) :=
    (slotView_deep.put s (f := ⟨A.TPL_MAP x.quad x.sub, 3 * lane, 3⟩) new (hf (by simp))).trans
    (slotView_deep.put _ (f := F.TPL_STATUS_FREE x.quad x.sub) old (hf (by simp)))
  have counted (u : State) : (slotView n).Same u ((((u.countReg (A.TPL_SWAPS x.quad x.sub)).set (F.TPL_FLAGS_SWAP x.quad x.sub)).set
      (F.TPL_STATUS_NOSPARE x.quad x.sub)).tplEvent x 1 lane old) :=
    (((slotView_deep.count u (f := ⟨A.TPL_SWAPS x.quad x.sub, 0, 32⟩) (hf (by simp))).trans
      (slotView_deep.set _ (f := F.TPL_FLAGS_SWAP x.quad x.sub) (hf (by simp)))).trans
      (slotView_deep.set _ (f := F.TPL_STATUS_NOSPARE x.quad x.sub) (hf (by simp)))).trans (slotView_deep.bothEvents (apart_line_overflow n) _ x.quad _ _ _ _ _ _)
  unfold State.laneMoved
  simp only
  generalize (s.setLane x lane new).put (F.TPL_STATUS_FREE x.quad x.sub) old = u at h1
  exact ((View.Same.ite (h1.trans (counted u)) h1).trans (State.setGroup_slot _ x _)).trans (State.setRot_slot _ x _)

theorem State.rotLine_slot (s : State) (x : GroupId) (i : Nat) : (slotView n).Same s (s.rotLine x i) := by
  unfold State.rotLine
  split
  · exact .ite (.refl _ s) (.ite (s.laneMoved_slot x _ _ _ _) (s.setRot_slot x _))
  · exact .refl _ s

theorem State.tplSend_slot (s : State) (x : GroupId) (p : TplPacket) : (slotView n).Same s (s.tplSend x p) := by
  unfold State.tplSend State.tplSendOn
  refine .ite ?_ (.refl _ s)
  generalize hr : (if s.mapClash x = true then s.freeBytes p.payload.length else (p.payload, s)) = r
  have hdrawn : (slotView n).Same s r.2 := by
    rw [← hr]
    split
    · exact slotView_deep.of_regs rfl rfl
    · exact .refl _ s
  exact hdrawn.trans (slotView_deep.of_regs rfl rfl)

theorem State.onLanes_slot (s : State) (x : GroupId) (typ j : Nat) (i : Int) (payload : Nat → List Byte) :
    (slotView n).Same s (s.onLanes x typ j i payload) := forAll_same _ (fun u _ _ => u.tplSend_slot x _) s

theorem State.sendLine_slot (s : State) (x : GroupId) (i : Int) (j : Nat) : (slotView n).Same s (s.sendLine x i j) := by
  have hold := s.onLanes_slot (n := n) x 2 j i fun _ => []
  unfold State.sendLine
  simp only
  split
  · split
    · exact .ite hold (s.onLanes_slot x _ _ _ _)
    · exact hold
  · exact .ite hold (.refl _ s)

theorem State.sendCmd_slot (s : State) (x : GroupId) (i : Nat) : (slotView n).Same s (s.sendCmd x i) := by
  unfold State.sendCmd
  split
  · exact .ite ((slotView_deep.of_regs rfl rfl).trans (State.tplSend_slot _ x _)) (.refl _ s)
  · exact .refl _ s

theorem State.groupLine_slot (s : State) (x : GroupId) (i : Int) (j : Nat) : (slotView n).Same s (s.groupLine x i j) := by
  have hrot := s.rotLine_slot (n := n) x j
  unfold State.groupLine
  simp only
  generalize s.rotLine x j = w at hrot
  exact (hrot.trans (.ite (w.sendLine_slot x i j) (.ite (w.onLanes_slot x _ _ _ _) (.refl _ w)))).trans (State.sendCmd_slot _ x j)

/-! ### LINE_START (R244) -/

/-- A step applied to every quadrant is, for quadrant `n`, its own step, where the others leave what `v` shows of `n`. -/
theorem allQuads_own {α : Type} {v : View α} {f : State → QuadId → State} (h : ∀ s q, q ≠ n → v.Same s (f s q)) (s : State) :
    ∃ u, v.Same s u ∧ v.Same (f u n) (forAll allQuads s f) := by
  have hnodup : allQuads.Nodup := by decide
  obtain ⟨a, b, hab⟩ := List.append_of_mem (show n ∈ allQuads by clear h; revert n; decide)
  rw [hab, List.nodup_append, List.nodup_cons] at hnodup
  obtain ⟨-, ⟨hb, -⟩, ha⟩ := hnodup
  rw [hab, forAll_append, forAll_cons]
  exact ⟨_, forAll_same a (fun s q hq => h s q (ha q hq n (by simp))) s,
    forAll_same b (fun s q hq => h s q fun e => hb (e ▸ hq)) _⟩

/-- What a line slot comes to for quadrant `n`: its deadline, met in a state that shows the line. -/
theorem State.lineNow_own (s : State) (hlate : s.reached (s.lineAt k ((m : Int) + 1)) = false) (hm : m < 2 ^ 14)
    (hactive : m < s.vActive) : ∃ w, (dueView n k m).Same (s.atLine k m) w ∧ w.get (F.SCAN_STATUS_LINE n) = m ∧
      (slotView n).Same (w.deadline n k m) (s.lineNow k m) := by
  obtain ⟨u, hu, ht⟩ := allQuads_own (n := n) (v := lineView n k m) (f := fun s q => s.lineOf q k m)
    (fun s q hq => s.lineOf_line hq) (s.atLine k m)
  have hlate' : u.reached (u.lineAt k ((m : Int) + 1)) = false := by
    rw [hu.reached_eq, hu.lineAt_eq]
    exact hlate
  have hactive' : m < u.vActive := by
    rw [hu.due.vActive_eq]
    exact hactive
  obtain ⟨hdue, hline⟩ := u.lineShown_own (n := n) hlate' hm
  rw [s.lineNow_eq]
  exact ⟨_, hu.due.trans hdue, hline, ((u.lineOf_own hlate' hm hactive').trans ht.slot).trans
    (forAll_same allGroups (fun u x _ => u.groupLine_slot x k m) _)⟩

theorem exec_lineStart (hc : s.cadenceOk = true) (hm : m < s.vTotal) (hfrom : s.lineAt k m ≤ s.wall16)
    (hto : (s.wall16 : Int) < s.lineAt k ((m : Int) + 1)) (hline : s.frame.line ≠ some (k, m)) :
    exec (.lineStart k m) s = .next (s.lineNow k m) := by
  change execLineStart k m s = _
  rw [execLineStart, if_pos]
  exact ⟨hc, hm, decide_eq_true hfrom, by simpa [State.reached] using hto, hline⟩

theorem State.vTotal_le (h : s.cadenceOk = true) : s.vTotal ≤ 16383 := by
  simp only [State.cadenceOk, Bool.and_eq_true, decide_eq_true_eq] at h
  exact h.2

theorem State.isStaged_iff (s : State) :
    s.isStaged n k m = true ↔ ∃ l ∈ (s.cmp[n]).staged, l.frame = k ∧ l.line = m := by
  simp only [State.isStaged, State.cm, List.any_eq_true, Bool.and_eq_true, beq_iff_eq]

theorem clockView_core (h : (clockView n).core t = (clockView n).core s) :
    t.frame.line = s.frame.line ∧ t.wt = s.wt ∧ t.rot = s.rot ∧ t.dram = s.dram ∧ t.ing = s.ing ∧
      (t.scanU n).run = (s.scanU n).run := by
  simpa only [clockView, Prod.mk.injEq] using h

/-- What the deadline of a line turns on, as the slot begins. -/
theorem View.Same.due_core (h : (dueView n k m).Same s t) : (clockView n).core t = (clockView n).core s ∧
    (t.scanU n).aborted = (s.scanU n).aborted ∧ (t.sy n).missed = (s.sy n).missed ∧ t.isStaged n k m = s.isStaged n k m := by
  have hc := h.1
  simp only [dueView, lineView, slotView, Prod.mk.injEq, and_assoc] at hc
  exact hc

/-- A register of a quadrant's aborts. -/
theorem View.Same.abort_rd (h : (dueView n k m).Same s u) (ht : (slotView n).Same u t) {a : Nat} (ha : whole a ∈ abortFields n) :
    t.rd a = s.rd a :=
  (ht.rd_eq (List.mem_append_right _ ha)).trans (h.rd_eq (List.mem_append_right _ ha))

end LineNow

/-- Settles O28: the other quadrants and the groups leave what a quadrant shows; its own deadline goes by what was staged. -/
theorem lineDeadline : Obligations.LineDeadline := by
  intro s k m hc hactive htotal hfrom hto hline
  have hle := s.vTotal_le hc
  have hlate : s.reached (s.lineAt k ((m : Int) + 1)) = false := by simpa [State.reached] using hto
  have own (n : QuadId) := s.lineNow_own (n := n) hlate (by omega) hactive
  refine ⟨_, exec_lineStart hc htotal hfrom hto hline, ?_⟩
  generalize s.lineNow k m = t at own
  have core (n : QuadId) : (clockView n).core t = (clockView n).core (s.atLine k m) := by
    obtain ⟨w, hdue, -, ht⟩ := own n
    exact (w.deadline_clock.trans ht.clock).1.trans hdue.due_core.1
  obtain ⟨hslot, hwt, hrot, hdram, hing, -⟩ := clockView_core (core 0)
  refine ⟨hslot, hwt, hrot, hdram, hing, fun n => ?_⟩
  obtain ⟨-, -, -, -, -, hrun⟩ := clockView_core (core n)
  obtain ⟨w, hdue, hshown, ht⟩ := own n
  obtain ⟨hstart, (haborted : _ = (s.scan[n]).aborted), (hmissed : _ = (s.syn[n]).missed),
    (hstaged : _ = s.isStaged n k m)⟩ := hdue.due_core
  obtain ⟨-, -, -, -, -, hruns⟩ := clockView_core hstart
  have hsends : w.sends n = true ↔ (s.scan[n]).run = .running ∨ (s.scan[n]).run = .stopping := by
    rw [w.sends_iff, hruns]
    rfl
  have hdone := s.isStaged_iff (n := n) (k := k) (m := m)
  have same (h : w.sends n = false ∨ (w.scanU n).aborted = some k ∨ w.isStaged n k m = true ∧ (w.sy n).missed ≠ some k) :
      t.rd (A.SCAN_UNDERRUNS n) = s.rd (A.SCAN_UNDERRUNS n) ∧ t.rd (A.SCAN_ABORT n) = s.rd (A.SCAN_ABORT n) ∧
        t.rd (A.SCAN_ABORT_FRAME n) = s.rd (A.SCAN_ABORT_FRAME n) := by
    have hkept := (w.deadline_slot h).trans ht
    exact ⟨hdue.abort_rd hkept (by simp [abortFields]), hdue.abort_rd hkept (by simp [abortFields]),
      hdue.abort_rd hkept (by simp [abortFields])⟩
  refine ⟨((w.deadline_clock.trans ht.clock).2 _ (by simp [clockView])).trans hshown, hrun, fun hrest => same (.inl ?_),
    fun hkept => same (.inr ?_), fun hscans hnot hnew => ?_⟩
  · rw [← Bool.not_eq_true, hsends]
    rcases hrest with h | h <;> rw [h] <;> simp
  · rw [haborted, hmissed, hstaged, hdone]
    exact hkept.symm
  · have hmiss : w.isStaged n k m = false ∨ (w.sy n).missed = some k := by
      rw [hstaged, hmissed, ← Bool.not_eq_true, hdone]
      exact hnot
    have hshow : AbortShown n k m w (w.deadline n k m) := by
      rw [State.deadline_aborts (hsends.mpr hscans) (by rw [haborted]; exact hnew) hmiss]
      exact State.abort_shown (hsends.mpr hscans) (by omega)
    obtain ⟨hcount, hframe, habort, hflag, hmark⟩ := hshow.mono (hdue.rd_eq (by simp [dueView, abortFields])) ht
    exact ⟨hcount, hframe, habort, hflag, hmark⟩

end Sys2Proof.Machine

namespace Sys2Proof.Machine

/-! ### An edge at a capture source (R61, R62) -/

/-- The level that an edge leaves on a ball changes at most the levels that the board drives. -/
theorem State.gpioLevel_eq (s : State) (src : Fin 22) (level : Bool) :
    ∃ x, s.gpioLevel src level = { s with pins := { s.pins with gpioIn := x } } := by
  unfold State.gpioLevel
  split
  · exact ⟨_, rfl⟩
  · exact ⟨s.pins.gpioIn, rfl⟩

/-- An edge of this kind is captured: its source is enabled, and the kind selected (R61). -/
def State.capWanted (s : State) (src : Fin 22) (rising : Bool) : Bool :=
  s.flag (F.WT_CAP_CFG_ENABLE src)
    && (if rising then s.flag (F.WT_CAP_CFG_RISE src) else s.flag (F.WT_CAP_CFG_FALL src))

section Edge

variable {s : State} {src : Fin 22} {rising : Bool}

theorem State.captureEdge_unwanted (hw : s.capWanted src rising = false) : s.captureEdge src rising = s := by
  unfold State.capWanted at hw
  simp [State.captureEdge, hw]

theorem State.captureEdge_near (hw : s.capWanted src rising = true) (hn : s.capNear src s.capStamp = true) :
    s.captureEdge src rising = s.count F.WT_CAP_STATUS_OVERFLOW := by
  unfold State.capWanted at hw
  simp only [State.captureEdge, hw, hn, if_true]

/-- The last captured edge of source `src` is at `x`. -/
def State.capSeen (s : State) (src : Fin 22) (x : Nat) : State :=
  { s with wt := { s.wt with capPrev := s.wt.capPrev.set src (some (x : Int)) } }

theorem State.captureEdge_full (hw : s.capWanted src rising = true) (hn : s.capNear src s.capStamp = false)
    (hl : 256 ≤ s.wt.capFifo.length) :
    s.captureEdge src rising = (s.capSeen src s.capStamp).count F.WT_CAP_STATUS_OVERFLOW := by
  unfold State.capWanted at hw
  have hl : ¬ s.wt.capFifo.length < 256 := by omega
  simp only [State.captureEdge, hw, hn, hl, if_true, if_false, Bool.false_eq_true]
  rfl

theorem State.captureEdge_room (hw : s.capWanted src rising = true) (hn : s.capNear src s.capStamp = false)
    (hl : s.wt.capFifo.length < 256) :
    s.captureEdge src rising = { s.capSeen src s.capStamp with
      wt := { (s.capSeen src s.capStamp).wt with
        capFifo := s.wt.capFifo ++ [⟨s.capStamp, src.val, rising, some s.wt.cycle⟩] } } := by
  unfold State.capWanted at hw
  simp only [State.captureEdge, hw, hn, hl, if_true, if_false, Bool.false_eq_true]
  rfl

theorem State.capNear_iff (x : Nat) :
    s.capNear src x = true ↔ ∃ y, s.wt.capPrev[src] = some y ∧ (x : Int) - y < 5 * 65536 / 2 ∧ y - (x : Int) < 5 * 65536 / 2 := by
  unfold State.capNear collideUnits
  split
  · next y hy => simp [hy]
  · next hy => simp [hy]

end Edge

/-- A count of WT_CAP_STATUS.OVERFLOW touches that register alone. -/
theorem State.overflow_regsKept (s : State) : RegsKept [A.WT_CAP_STATUS] s (s.count F.WT_CAP_STATUS_OVERFLOW) := by
  intro a ha
  rw [State.rd_count, State.rd_put_other _ _ (by simpa using ha)]

/-- Settles O24, by the cases of an edge: one of no enabled kind, one less than 2.5 ns from the last or without room, and one
that joins the FIFO. -/
theorem captures : Obligations.Captures := by
  intro s src rising wanted stamp near
  obtain ⟨x, hx⟩ := s.gpioLevel_eq src rising
  refine ⟨_, rfl, ?_⟩
  rw [hx]
  set u : State := { s with pins := { s.pins with gpioIn := x } } with hu
  have hwanted : u.capWanted src rising = true ↔ wanted := by
    simp only [State.capWanted, Bool.and_eq_true]; exact Iff.rfl
  have hnear : u.capNear src u.capStamp = true ↔ near := State.capNear_iff _
  have hcount (v : State) : (v.count F.WT_CAP_STATUS_OVERFLOW).get F.WT_CAP_STATUS_OVERFLOW =
      min (v.get F.WT_CAP_STATUS_OVERFLOW + 1) 65535 := v.get_count (f := F.WT_CAP_STATUS_OVERFLOW) (by decide)
  by_cases hw : wanted
  · have hw' := hwanted.mpr hw
    by_cases hn : near
    · rw [State.captureEdge_near hw' (hnear.mpr hn)]
      exact ⟨rfl, u.overflow_regsKept, rfl, rfl, fun _ h => absurd hn h, fun _ _ => ⟨rfl, hcount u⟩, fun h => absurd hw h⟩
    · have hn' := Bool.eq_false_iff.mpr (mt hnear.mp hn)
      by_cases hl : s.wt.capFifo.length < 256
      · rw [State.captureEdge_room hw' hn' hl]
        refine ⟨rfl, fun _ _ => rfl, rfl, rfl, fun _ _ _ => ⟨rfl, fun _ _ => rfl, ?_⟩,
          fun _ h => absurd h (not_or.mpr ⟨hn, Nat.not_le.mpr hl⟩), fun h => absurd hw h⟩
        simp only [State.capSeen, Fin.getElem_fin, Vector.getElem_set_self]
        rfl
      · rw [State.captureEdge_full hw' hn' (Nat.not_lt.mp hl)]
        exact ⟨rfl, State.overflow_regsKept _, rfl, rfl, fun _ _ h => absurd h hl, fun _ _ => ⟨rfl, hcount _⟩, fun h => absurd hw h⟩
  · rw [State.captureEdge_unwanted (Bool.eq_false_iff.mpr (mt hwanted.mp hw))]
    exact ⟨rfl, fun _ _ => rfl, rfl, rfl, fun h => absurd h hw, fun h => absurd h hw, fun _ => ⟨rfl, fun _ _ => rfl⟩⟩

end Sys2Proof.Machine

namespace Sys2Proof.Machine

/-! ### Time registers (R64, R109) -/

/-- An instruction that writes one time register. -/
theorem State.timeOp_writesTime {s : State} {q : SeqId} {i : POp} {d : TReg} {f : Seq → TimeVal} (h : Fetches s q i) :
    WritesTime q d (f (s.seq q)) s (s.timeOp q i d f) := by
  unfold State.timeOp
  rw [State.issue_of_fetches h]
  refine ⟨by simp [OnlySeq, State.step1], ?_, ?_, ?_⟩
  · simp [State.step1, Seq.next, Seq.setTr]
  · simp [State.step1, Seq.next, Seq.setTr, Seq.tr]
  · intro r hr
    simpa [State.step1, Seq.next, Seq.tr, Seq.setTr] using Seq.tr_setTr_other (s.seq q) (f (s.seq q)) hr

/-- A row that writes one time register, with the value spelt out. -/
theorem writesTime_of_timeOp {s : State} {q : SeqId} {i : POp} {d : TReg} {f : Seq → TimeVal} {v : TimeVal} {r : Instr}
    (hr : exec r s = .next (s.timeOp q i d f)) (hv : f (s.seq q) = v) (h : Fetches s q i) :
    ∃ t, exec r s = .next t ∧ WritesTime q d v s t :=
  ⟨_, hr, hv ▸ State.timeOp_writesTime h⟩

/-- A row that writes one general register, with the value spelt out. -/
theorem writesGen_of_alu {s : State} {q : SeqId} {i : POp} {d : GReg} {f : Seq → Word} {v : Word} {r : Instr}
    (hr : exec r s = .next (s.alu q i d f)) (hv : f (s.seq q) = v) (h : Fetches s q i) :
    ∃ t, exec r s = .next t ∧ WritesGen q d v s t :=
  ⟨_, hr, hv ▸ State.alu_writesGen h⟩

/-- A number that is not negative, as a word. -/
theorem ofNat_toNat_eq_ofInt (w : Nat) {x : Int} (h : 0 ≤ x) : BitVec.ofNat w x.toNat = BitVec.ofInt w x := by
  rw [← BitVec.ofInt_natCast, Int.toNat_of_nonneg h]

theorem timeOfNs_eq (x : Int) : timeOfNs x = ⟨BitVec.ofInt 64 (x / 1000000000), BitVec.ofInt 32 (x % 1000000000)⟩ := by
  simp only [timeOfNs, ofNat_toNat_eq_ofInt 32 (Int.emod_nonneg x (by decide : (1000000000 : Int) ≠ 0))]

theorem timeOfNs_natCast (x : Nat) :
    timeOfNs (x : Int) = ⟨BitVec.ofNat 64 (x / 1000000000), BitVec.ofNat 32 (x % 1000000000)⟩ := by
  rw [timeOfNs_eq, ← BitVec.ofInt_natCast, ← BitVec.ofInt_natCast]; rfl

theorem TimeVal.withPart_secLo (t : TimeVal) (v : Word) :
    t.withPart .secLo v = ⟨BitVec.ofNat 64 (t.sec.toNat / 2 ^ 32 * 2 ^ 32 + v.toNat), t.ns⟩ := by
  have : t.part .secHi ++ v = BitVec.ofNat 64 (t.sec.toNat / 2 ^ 32 * 2 ^ 32 + v.toNat) := by
    apply BitVec.eq_of_toNat_eq
    have := t.sec.isLt
    have := v.isLt
    simp only [TimeVal.part, BitVec.toNat_append, BitVec.toNat_setWidth, BitVec.toNat_ushiftRight, BitVec.toNat_ofNat,
      Nat.shiftRight_eq_div_pow]
    rw [Nat.mod_eq_of_lt (a := t.sec.toNat / 2 ^ 32) (by omega), ← Nat.shiftLeft_add_eq_or_of_lt v.isLt, Nat.shiftLeft_eq]
    omega
  simp only [TimeVal.withPart, this]

theorem TimeVal.withPart_secHi (t : TimeVal) (v : Word) :
    t.withPart .secHi v = ⟨BitVec.ofNat 64 (v.toNat * 2 ^ 32 + t.sec.toNat % 2 ^ 32), t.ns⟩ := by
  have : v ++ t.part .secLo = BitVec.ofNat 64 (v.toNat * 2 ^ 32 + t.sec.toNat % 2 ^ 32) := by
    apply BitVec.eq_of_toNat_eq
    have := v.isLt
    have hm : t.sec.toNat % 2 ^ 32 < 2 ^ 32 := Nat.mod_lt _ (by decide)
    simp only [TimeVal.part, BitVec.toNat_append, BitVec.toNat_setWidth, BitVec.toNat_ofNat]
    rw [← Nat.shiftLeft_add_eq_or_of_lt hm, Nat.shiftLeft_eq]
    omega
  simp only [TimeVal.withPart, this]

theorem TimeVal.withPart_ns (t : TimeVal) (v : Word) :
    t.withPart .ns v =
      ⟨BitVec.ofNat 64 (t.sec.toNat + v.toNat / 1000000000), BitVec.ofNat 32 (v.toNat % 1000000000)⟩ := by
  have h : (t.sec.toNat * 1000000000 + v.toNat) / 1000000000 = t.sec.toNat + v.toNat / 1000000000 := by omega
  have h' : (t.sec.toNat * 1000000000 + v.toNat) % 1000000000 = v.toNat % 1000000000 := by omega
  rw [TimeVal.withPart, timeOfNs_natCast, h, h']

theorem TimeVal.part_secLo (t : TimeVal) : t.part .secLo = BitVec.ofNat 32 t.sec.toNat :=
  BitVec.eq_of_toNat_eq (by simp [TimeVal.part])

theorem TimeVal.part_secHi (t : TimeVal) : t.part .secHi = BitVec.ofNat 32 (t.sec.toNat / 2 ^ 32) :=
  BitVec.eq_of_toNat_eq (by simp [TimeVal.part, Nat.shiftRight_eq_div_pow])

/-- TSUB holds its difference to the signed 32-bit numbers (R109). -/
theorem timeDiff_eq (a b : TimeVal) : timeDiff a b =
    let d : Int := (a.toNs : Int) - b.toNs
    if d < -2 ^ 31 then BitVec.ofInt 32 (-2 ^ 31) else
      if 2 ^ 31 - 1 < d then BitVec.ofInt 32 (2 ^ 31 - 1) else BitVec.ofInt 32 d := by
  simp only [timeDiff, clampInt, ← apply_ite (BitVec.ofInt 32)]
  rfl

/-! ### TLINE (R53, R77, R110) -/

theorem signed_unsigned_mod (x : Int) : signed 32 (unsigned 32 x) % 2 ^ 32 = x % 2 ^ 32 := by
  have hx : ((unsigned 32 x % 2 ^ 32 : Nat) : Int) = x % 2 ^ 32 := by unfold unsigned; omega
  unfold signed
  simp only
  split_ifs <;> omega

theorem signed_bounds (x : Nat) : -2 ^ 31 ≤ signed 32 x ∧ signed 32 x < 2 ^ 31 := by
  unfold signed
  simp only
  split_ifs <;> omega

/-- While a valid cadence exists, a bare frame number names the frame of that number modulo 2^32 that lies nearest to the
current one (R77). -/
theorem State.resolveFrame_spec {s : State} (h : s.cadenceOk = true) (g : Word) :
    s.resolveFrame g % 2 ^ 32 = (g.toNat : Int) ∧ -2 ^ 31 ≤ s.resolveFrame g - s.frameIndex ∧
      s.resolveFrame g - s.frameIndex < 2 ^ 31 := by
  have hm := signed_unsigned_mod ((g.toNat : Int) - s.frameIndex)
  have hb := signed_bounds (unsigned 32 ((g.toNat : Int) - s.frameIndex))
  have hg := g.isLt
  simp only [State.resolveFrame, h, if_true]
  omega

theorem State.lineAt_eq (s : State) (k n : Int) :
    s.lineAt k n = s.cadEpoch * 10 ^ 9 * 2 ^ 16 +
      (k * s.cadP * s.vTotal + n * s.cadP) * (10 ^ 9 * 2 ^ 16) / (s.cadQ * s.vTotal) := by
  unfold State.lineAt secUnits
  push_cast
  rw [mul_assoc (s.cadEpoch : Int)]
  norm_num

/-- A sequencer that an instruction gives one time register and one general register. -/
theorem State.step1_setTr_setGr (s : State) (q : SeqId) (d : TReg) (g : GReg) (v : TimeVal) (w : Word) :
    let t := s.step1 q fun c => (c.setTr d v).setGr g w
    OnlySeq q s t ∧ t.seq q = { s.seq q with g := (t.seq q).g, t := (t.seq q).t, pc := (s.seq q).pc + 1 } ∧
      (∀ r, r ≠ g → (t.seq q).gr r = (s.seq q).gr r) ∧ (∀ r, r ≠ d → (t.seq q).tr r = (s.seq q).tr r) ∧
      (t.seq q).tr d = v ∧ (t.seq q).gr g = w := by
  refine ⟨by simp [OnlySeq, State.step1], ?_, fun r hr => ?_, fun r hr => ?_, ?_, ?_⟩
  · simp [State.step1, Seq.next, Seq.setTr, Seq.setGr]
  · simpa [State.step1, Seq.next, Seq.gr, Seq.setGr, Seq.setTr] using Seq.gr_setGr_other (s.seq q) w hr
  · simpa [State.step1, Seq.next, Seq.tr, Seq.setGr, Seq.setTr] using Seq.tr_setTr_other (s.seq q) v hr
  · simp [State.step1, Seq.next, Seq.tr, Seq.setGr, Seq.setTr]
  · simp [State.step1, Seq.next, Seq.gr, Seq.setGr, Seq.setTr]

/-- What TLINE does, with and without a valid cadence at the end of the core cycle before. -/
theorem execTline_eq {s : State} {q : SeqId} {d : TReg} {g1 g2 : GReg} {n : LineOff} (h : Fetches s q (.tline d g1 g2 n)) :
    let u := s.atCycleStart
    let x := u.lineAt (u.resolveFrame ((s.seq q).gr g2)) ((s.seq q).lineOff n)
    exec (.tline q d g1 g2 n) s = .next (
      if u.cadenceOk = true then
        s.step1 q fun c => (c.setTr d (timeOfNs (x / 65536))).setGr g1 (BitVec.ofNat 32 (x % 65536).toNat)
      else s.step1 q fun c => (c.setTr d {}).setGr g1 0x80000000) := by
  change execTline q d g1 g2 n s = _
  simp only [execTline, State.issue_of_fetches h]

/-- Settles O4: each row of the time registers writes what its rule says, and TLINE resolves its frame against the cadence of
the end of the core cycle before. -/
theorem porowTime : Obligations.PorowTime := by
  constructor
  · intro s q g d a b imm c N split D
    refine ⟨?_, ?_, ?_, ?_, ?_, ?_, ?_, ?_, ?_, ?_, ?_⟩
    · exact writesTime_of_timeOp rfl rfl
    · exact writesTime_of_timeOp rfl (timeOfNs_eq _)
    · exact writesTime_of_timeOp rfl (timeOfNs_eq _)
    · exact writesTime_of_timeOp rfl (timeOfNs_eq _)
    · exact writesTime_of_timeOp rfl (TimeVal.withPart_secLo _ _)
    · exact writesTime_of_timeOp rfl (TimeVal.withPart_secHi _ _)
    · exact writesTime_of_timeOp rfl (TimeVal.withPart_ns _ _)
    · exact writesGen_of_alu rfl (TimeVal.part_secLo _)
    · exact writesGen_of_alu rfl (TimeVal.part_secHi _)
    · exact writesGen_of_alu rfl rfl
    · exact writesGen_of_alu rfl (timeDiff_eq _ _)
  · intro s q d g1 g2 n c off u h
    refine ⟨_, execTline_eq h, ?_⟩
    split
    · next hc =>
      obtain ⟨hmod, hlo, hhi⟩ := State.resolveFrame_spec hc (c.gr g2)
      have hoff : c.lineOff n = off := by cases n <;> rfl
      obtain ⟨h1, h2, h3, h4, h5, h6⟩ := s.step1_setTr_setGr q d g1 (timeOfNs (u.lineAt (u.resolveFrame (c.gr g2)) off / 65536))
        (BitVec.ofNat 32 (u.lineAt (u.resolveFrame (c.gr g2)) off % 65536).toNat)
      rw [hoff]
      refine ⟨h1, h2, h3, h4, _, _, hmod, hlo, hhi, u.lineAt_eq _ _, ?_, ?_⟩
      · exact h5.trans (timeOfNs_eq _)
      · exact h6.trans (ofNat_toNat_eq_ofInt 32 (Int.emod_nonneg _ (by decide)))
    · exact s.step1_setTr_setGr q d g1 {} 0x80000000

end Sys2Proof.Machine

namespace Sys2Proof.Machine

/-! ### Fields and registers under a frame -/

/-- A frame of fields is one of their registers. -/
theorem BitsKept.regsKept {s t : State} {l : List Fld} {r : List Nat} (h : BitsKept l s t) (hl : ∀ f ∈ l, f.addr ∈ r) :
    RegsKept r s t := fun _ ha => h.rd_eq fun f hf e => ha (e ▸ hl f hf)

/-- A field of the register map, apart from those of a frame, keeps its value. -/
theorem BitsKept.get_apart {s t : State} {l : List Fld} {g : Fld} (h : BitsKept l s t) (hg : g.lo + g.w ≤ 32)
    (ha : apart l g = true) : t.get g = s.get g :=
  h.get_eq hg fun f hf e => by
    have := List.all_eq_true.mp ha f hf
    simp only [Bool.or_eq_true, bne_iff_ne, ne_eq, decide_eq_true_eq] at this
    omega

theorem BitsKept.flag_apart {s t : State} {l : List Fld} {g : Fld} (h : BitsKept l s t) (hg : g.lo + g.w ≤ 32)
    (ha : apart l g = true) : t.flag g = s.flag g := by rw [State.flag, State.flag, h.get_apart hg ha]

theorem State.flag_put_one (s : State) {f : Fld} (h : f.lo + f.w ≤ 32) (hw : 0 < f.w) : (s.put f 1).flag f = true :=
  s.flag_set h hw

theorem State.flag_clr (s : State) {f : Fld} (h : f.lo + f.w ≤ 32) : (s.clr f).flag f = false := by
  simp [State.flag, s.get_clr h]

/-! ### Registers, the record of the core cycle and the sequencers -/

/-- Nothing changes but registers, of those only bits of the fields `l`, the record of the core cycle and the sequencers. -/
def Tells (l : List Fld) (s t : State) : Prop :=
  t = { s with regs := t.regs, bus := t.bus, seqs := t.seqs } ∧ t.bus.before = s.bus.before ∧ BitsKept l s t

section Tells

variable {s t u : State} {l m : List Fld}

theorem Tells.refl (l : List Fld) (s : State) : Tells l s s := ⟨rfl, rfl, .refl l s⟩

theorem Tells.trans (h : Tells l s t) (h' : Tells l t u) : Tells l s u := by
  obtain ⟨h1, h2, h3⟩ := h
  obtain ⟨h4, h5, h6⟩ := h'
  refine ⟨?_, h5.trans h2, h3.trans h6⟩
  rw [h1] at h4; exact h4

theorem Tells.mono (hs : l ⊆ m) (h : Tells l s t) : Tells m s t := ⟨h.1, h.2.1, h.2.2.mono hs⟩

theorem OnlyBits.tells (h : OnlyBits l s t) : Tells l s t := by
  obtain ⟨⟨h1, h2⟩, h3⟩ := h
  refine ⟨?_, h2, h3⟩
  rw [h1]

theorem State.setSeq_tells (s : State) (q : SeqId) (c : Seq) : Tells [] s (s.setSeq q c) := ⟨rfl, rfl, .of_regs rfl⟩

theorem State.event_tells (s : State) (q : SeqId) (x y : Nat) (late : Bool) (d : Nat) :
    Tells [F.SEQ_EVQ_STATUS_OVERFLOW q] s (s.event q x y late d) :=
  ⟨s.event_eq q x y late d, s.event_before q x y late d, s.event_bitsKept q x y late d⟩

theorem forAll_tells {α : Type} {f : State → α → State} (items : List α) (h : ∀ s, ∀ x ∈ items, Tells l s (f s x)) (s : State) :
    Tells l s (forAll items s f) := by
  induction items generalizing s with
  | nil => exact .refl _ _
  | cons x xs ih => exact (h s x (by simp)).trans (ih (fun s y hy => h s y (by simp [hy])) _)

theorem Tells.wt_eq (h : Tells l s t) : t.wt = s.wt := by rw [h.1]
theorem Tells.frame_eq (h : Tells l s t) : t.frame = s.frame := by rw [h.1]

end Tells

/-! ### The flags of the wall-time unit (R83) -/

/-- A flag of WT_FLAGS touches itself and the count of events that SQS has lost. -/
theorem State.wtFlag_tells (s : State) (f : Fld) : Tells [f, F.SEQ_EVQ_STATUS_OVERFLOW 4] s (s.wtFlag f) := by
  unfold State.wtFlag
  split
  · exact .mono (by simp) (OnlyBits.tells ⟨s.noteHit_onlyCycle f, .refl [] s⟩)
  · exact ((s.set_onlyBits f).tells.mono (by simp)).trans ((State.event_tells _ _ _ _ _ _).mono (by simp [sqsQ]))

/-- A flag of WT_FLAGS that is set reads 1. -/
theorem State.flag_wtFlag (s : State) {f : Fld} (ha : f.addr = A.WT_FLAGS) (h : f.lo + f.w ≤ 32) (hw : 0 < f.w) :
    (s.wtFlag f).flag f = true := by
  unfold State.wtFlag
  split
  · next hf => exact hf
  · have hne : f.addr ≠ A.SEQ_EVQ_STATUS sqsQ := by rw [ha]; decide
    rw [State.sqsEvent, State.flag, State.get, State.rd_event _ hne]
    exact s.flag_set h hw

theorem State.wtFlag_regsKept (s : State) {f : Fld} (ha : f.addr = A.WT_FLAGS) :
    RegsKept [A.WT_FLAGS, A.SEQ_EVQ_STATUS 4] s (s.wtFlag f) :=
  (s.wtFlag_tells f).2.2.regsKept (by simp [ha])

end Sys2Proof.Machine

namespace Sys2Proof.Machine

/-! ### Line waits and line alarms re-evaluated (R79) -/

/-- The counts of events that the sequencers have lost. -/
def overflowFields : List Fld := (List.finRange 5).map fun q => F.SEQ_EVQ_STATUS_OVERFLOW q.val

theorem overflow_mem_overflowFields (q : SeqId) : F.SEQ_EVQ_STATUS_OVERFLOW q.val ∈ overflowFields :=
  List.mem_map.mpr ⟨q, List.mem_finRange q, rfl⟩

theorem State.reWait_tells (s : State) (q : SeqId) : Tells overflowFields s (s.reWait q) := by
  have hset (c : Seq) : Tells overflowFields s (s.setSeq q c) := (s.setSeq_tells q c).mono (by simp)
  unfold State.reWait
  simp only
  split
  · split
    · exact hset _
    · exact hset _
  · exact .refl _ s

theorem State.reAlarm_tells (s : State) (q : SeqId) (a : Fin 8) : Tells overflowFields s (s.reAlarm q a) := by
  have hset (c : Seq) : Tells overflowFields s (s.setSeq q c) := (s.setSeq_tells q c).mono (by simp)
  unfold State.reAlarm
  simp only
  split
  · split
    · exact (hset _).trans ((State.event_tells _ q _ _ _ _).mono (by simpa using overflow_mem_overflowFields q))
    · exact hset _
  · exact .refl _ s

/-- Nothing but the sequencers, and the counts of the events that they lose, changes (R79). -/
theorem State.reTargetAll_tells (s : State) : Tells overflowFields s s.reTargetAll :=
  forAll_tells _ (fun s q _ => (s.reWait_tells q).trans (forAll_tells _ (fun s a _ => s.reAlarm_tells q a) _)) s

theorem rd_of_overflowFields {s t : State} {a : Nat} (h : BitsKept overflowFields s t) (ha : ∀ q : SeqId, a ≠ A.SEQ_EVQ_STATUS q) :
    t.rd a = s.rd a := h.rd_eq fun f hf e => by
  obtain ⟨q, -, rfl⟩ := List.mem_map.mp hf
  exact ha q e.symm

/-! ### The latch that is due, before and after a change (R20) -/

section CadenceSame

variable {s t : State} (hr : ∀ r, t.rd (cadenceReg r) = s.rd (cadenceReg r))

include hr

theorem State.cadP_congr : t.cadP = s.cadP := congrArg BitVec.toNat (hr 2)

theorem State.cadQ_congr : t.cadQ = s.cadQ := congrArg BitVec.toNat (hr 3)

theorem State.vTiming_congr : t.vActive = s.vActive ∧ t.vTotal = s.vTotal :=
  ⟨congrArg (field · 0 14) (hr 4), congrArg (field · 16 14) (hr 4)⟩

theorem State.cadEpoch_congr : t.cadEpoch = s.cadEpoch :=
  congrArg₂ (fun x y : Word => x.toNat * 2 ^ 32 + y.toNat) (hr 0) (hr 1)

/-- Whether a valid cadence exists follows from the five registers of the cadence. -/
theorem State.cadenceOk_congr : t.cadenceOk = s.cadenceOk := by
  unfold State.cadenceOk
  rw [State.cadP_congr hr, State.cadQ_congr hr, (State.vTiming_congr hr).1, (State.vTiming_congr hr).2]

/-- So does the time of every line. -/
theorem State.lineAt_congr : t.lineAt = s.lineAt := by
  funext k n
  unfold State.lineAt
  rw [State.cadP_congr hr, State.cadQ_congr hr, (State.vTiming_congr hr).2, State.cadEpoch_congr hr]

theorem State.frameAt_congr : t.frameAt = s.frameAt := funext fun k => congrFun (congrFun (State.lineAt_congr hr) k) 0

theorem State.latchAt_congr : t.latchAt = s.latchAt := by
  funext k
  unfold State.latchAt
  rw [State.lineAt_congr hr, (State.vTiming_congr hr).1]

/-- The current frame follows from them and wall time. -/
theorem State.frameNow_congr (hw : t.wt.wall = s.wt.wall) : t.frameNow = s.frameNow := by
  unfold State.frameNow State.wall16
  rw [State.cadP_congr hr, State.cadQ_congr hr, State.cadEpoch_congr hr, State.frameAt_congr hr, hw]

/-- The latch that is due follows from them, wall time, and the latches and lines passed. -/
theorem State.latchDue_congr (hw : t.wt.wall = s.wt.wall) (hl : t.frame.latch = s.frame.latch)
    (hf : t.frame.from_ = s.frame.from_) : t.latchDue = s.latchDue := by
  unfold State.latchDue State.reached State.wall16
  rw [State.cadenceOk_congr hr, State.frameNow_congr hr hw, State.latchAt_congr hr, hw, hl, hf]

end CadenceSame

/-- What the end of a latch that was due changes. -/
theorem State.latchMoved_eq (s : State) (was : Option Int) : s.latchMoved was = { s with
    frame := { s.frame with keep := (s.latchMoved was).frame.keep }, cmp := (s.latchMoved was).cmp,
    ing := { s.ing with planes := (s.latchMoved was).ing.planes } } := by
  unfold State.latchMoved
  split <;> rfl

theorem State.latchMoved_latchDue (s : State) (was : Option Int) : (s.latchMoved was).latchDue = s.latchDue := by
  rw [s.latchMoved_eq was]; exact State.latchDue_congr (fun _ => rfl) rfl rfl rfl

/-- Where another latch is due than before, nothing is left that waited for that one. -/
theorem State.latchMoved_forgets {s : State} {was : Option Int} (h : s.latchDue ≠ was) :
    (s.latchMoved was).frame.keep = [] ∧ (∀ p : Fin 16, ((s.latchMoved was).ing.planes[p]).due = false) ∧
      ∀ n, ((s.latchMoved was).cm n).late = false ∧ ((s.latchMoved was).cm n).lateOnly = false := by
  simp only [State.latchMoved, h, if_false]
  refine ⟨rfl, fun p => ?_, fun n => ?_⟩
  · simp [State.latchForgets]
  · simp [State.cm]

/-! ### A write to the cadence (R55, R238) -/

/-- A cadence register written while it is not locked, with what waits for the latch and the lines left to be seen to. -/
def State.cadenceWritten (s : State) (a : Nat) (v : Word) : State :=
  { s.wr a v with frame := { s.frame with latch := none, line := none, from_ := s.wall16 } }

theorem State.writeCadence_open (s : State) (a : Nat) (v : Word) : s.writeCadence a v false =
    ((s.cadenceWritten a (if a = A.SCAN_VTIMING then v &&& 0x3fff3fff else v)).latchMoved s.latchDue).reTargetAll := rfl

theorem State.writeCadence_locked_cadence (s : State) {a : Nat} (v : Word) (h : a ≠ A.SCAN_VTIMING) :
    s.writeCadence a v true = s.wtFlag F.WT_FLAGS_STALE_WRITE := by simp [State.writeCadence, h]

theorem cadenceReg_eq (r : Fin 5) :
    cadenceReg r = [A.CAD_EPOCH_HI, A.CAD_EPOCH_LO, A.CAD_P, A.CAD_Q, A.SCAN_VTIMING].getD r.val 0 := by
  revert r; decide

theorem cadenceReg_eq_vtiming (r : Fin 5) : cadenceReg r = A.SCAN_VTIMING ↔ r.val = 4 := by revert r; decide

theorem cadenceReg_ne_status (r : Fin 5) (q : SeqId) : cadenceReg r ≠ A.SEQ_EVQ_STATUS q := by
  revert r q; decide

/-- Settles O20: under its lock a cadence register only sets STALE_WRITE; without it the word is written, what waited for a
latch that is due no longer is forgotten, and line waits and alarms are re-evaluated. -/
theorem cadenceWrites : Obligations.CadenceWrites := by
  intro s r v cad locked
  have hlock : (s.anyScans || s.atCycleStart.anyScans) = true ↔ locked := by simp [locked]
  have hexec : exec (.cadenceWrite r v) s =
      .next (s.writeCadence (cadenceReg r) v (s.anyScans || s.atCycleStart.anyScans)) := rfl
  refine ⟨fun h hr => ?_, fun h hr => ?_, fun h => ?_⟩
  · rw [hexec, hlock.mpr h, s.writeCadence_locked_cadence v (mt (cadenceReg_eq_vtiming r).mp (by omega))]
    exact ⟨_, rfl, s.wtFlag_regsKept rfl, (s.wtFlag_tells _).1, s.flag_wtFlag rfl (by decide) (by decide)⟩
  · obtain rfl : r = 4 := Fin.ext hr
    rw [hexec, hlock.mpr h]
    exact ⟨_, rfl, ⟨s.set_onlyCycle _, (s.set_bitsKept F.SCAN_TMG_FLAGS_STALE_WRITE).regsKept (by simp)⟩,
      s.flag_set (by decide) (by decide)⟩
  · rw [hexec, Bool.eq_false_iff.mpr (mt hlock.mp h), s.writeCadence_open]
    have hv : (if cadenceReg r = A.SCAN_VTIMING then v &&& 0x3fff3fff else v) = if r.val = 4 then v &&& 0x3FFF3FFF else v := by
      simp only [cadenceReg_eq_vtiming]
    rw [hv]
    generalize (if r.val = 4 then v &&& 0x3FFF3FFF else v) = w
    generalize hu : s.cadenceWritten (cadenceReg r) w = u
    have hurd (a : Nat) : u.rd a = if a = cadenceReg r then w else s.rd a := by rw [← hu]; exact s.rd_wr _ _ _
    have hmoved := u.latchMoved_eq s.latchDue
    have hdue := u.latchMoved_latchDue s.latchDue
    have hforgets := State.latchMoved_forgets (s := u) (was := s.latchDue)
    generalize u.latchMoved s.latchDue = m at *
    obtain ⟨h1, -, h3⟩ := m.reTargetAll_tells
    generalize m.reTargetAll = t at *
    have hrd (a : Nat) (ha : ∀ q : SeqId, a ≠ A.SEQ_EVQ_STATUS q) : t.rd a = if a = cadenceReg r then w else s.rd a := by
      rw [rd_of_overflowFields h3 ha, hmoved]; exact hurd a
    refine ⟨_, rfl, ?_, fun hd => ?_, ?_, fun a ha hq => ?_⟩
    · rw [h1, hmoved, ← hu]; rfl
    · have hsame : t.latchDue = m.latchDue := by
        refine State.latchDue_congr (fun r => rd_of_overflowFields h3 (cadenceReg_ne_status r)) ?_ ?_ ?_
        all_goals rw [h1]
      rw [hsame, hdue] at hd
      rw [h1]; exact hforgets hd
    · rw [← cadenceReg_eq, hrd _ (cadenceReg_ne_status r), if_pos rfl]
    · rw [hrd a hq, if_neg (cadenceReg_eq r ▸ ha)]

end Sys2Proof.Machine

namespace Sys2Proof.Machine

/-! ### Timed-event slots: target registers and what a slot holds beside them (R57, R559) -/

theorem bit_toNat {w : Nat} (x : BitVec w) (i : Nat) : bit x.toNat i = x.getLsbD i := by
  simp only [bit, BitVec.getLsbD, Nat.testBit_eq_decide_div_mod_eq]

@[simp] theorem State.evt_setEvt_same (s : State) (e : Fin 32) (v : EvtSlot) : (s.setEvt e v).evt e = v := by
  simp [State.evt, State.setEvt]

theorem State.evt_setEvt_other (s : State) {e i : Fin 32} (v : EvtSlot) (h : i ≠ e) : (s.setEvt e v).evt i = s.evt i := by
  have : (e : Nat) ≠ (i : Nat) := fun x => h (Fin.ext x.symm)
  simp [State.evt, State.setEvt, Vector.getElem_set_ne, this]

@[simp] theorem State.setEvt_regs (s : State) (e : Fin 32) (v : EvtSlot) : (s.setEvt e v).regs = s.regs := rfl
@[simp] theorem State.rd_setEvt (s : State) (e : Fin 32) (v : EvtSlot) (a : Nat) : (s.setEvt e v).rd a = s.rd a := rfl
@[simp] theorem State.get_setEvt (s : State) (e : Fin 32) (v : EvtSlot) (f : Fld) : (s.setEvt e v).get f = s.get f := rfl
@[simp] theorem State.flag_setEvt (s : State) (e : Fin 32) (v : EvtSlot) (f : Fld) : (s.setEvt e v).flag f = s.flag f := rfl
@[simp] theorem State.evtTarget_setEvt (s : State) (e i : Fin 32) (v : EvtSlot) : (s.setEvt e v).evtTarget i = s.evtTarget i := rfl

/-- The registers that hold the target of slot `e`. -/
def targetFields (e : Fin 32) : List Fld :=
  [whole (A.WT_EVT_SEC_HI e), whole (A.WT_EVT_SEC_LO e), whole (A.WT_EVT_NS e), whole (A.WT_EVT_FRAC e)]

/-- The target of a slot follows from its four registers. -/
theorem State.evtTarget_congr {s t : State} {e : Fin 32} (h : ∀ f ∈ targetFields e, t.rd f.addr = s.rd f.addr) :
    t.evtTarget e = s.evtTarget e := by
  simp only [targetFields, whole, List.forall_mem_cons] at h
  obtain ⟨h1, h2, h3, h4, -⟩ := h
  simp only [State.evtTarget, State.get, h1, h2, h3, h4]

theorem State.setEvtTarget_bitsKept (s : State) (e : Fin 32) (x : Int) :
    BitsKept (targetFields e) s (s.setEvtTarget e x) := by
  have hwr (t : State) (a : Nat) (v : Word) (ha : whole a ∈ targetFields e) : BitsKept (targetFields e) t (t.wr a v) :=
    (t.wr_bitsKept a v).mono (by simpa using ha)
  unfold State.setEvtTarget
  exact (((hwr _ _ _ (by simp [targetFields])).trans (hwr _ _ _ (by simp [targetFields]))).trans
    (hwr _ _ _ (by simp [targetFields]))).trans (hwr _ _ _ (by simp [targetFields]))

/-- A target that fits its registers is read back from them. -/
theorem State.evtTarget_setEvtTarget (s : State) (e : Fin 32) {x : Int} (h0 : 0 ≤ x) (h1 : x < 2 ^ 64 * 10 ^ 9 * 65536) :
    (s.setEvtTarget e x).evtTarget e = x := by
  have toNat_ofInt {y : Int} (hy : 0 ≤ y) (hy' : y < 2 ^ 32) : ((BitVec.ofInt 32 y).toNat : Int) = y := by
    rw [BitVec.toNat_ofInt]; omega
  have toNat_ofInt_mod (y : Int) : ((BitVec.ofInt 32 y).toNat : Int) = y % 2 ^ 32 := by
    rw [BitVec.toNat_ofInt]; omega
  have e1 := toNat_ofInt (y := x / 65536 / 1000000000 / 2 ^ 32) (by omega) (by omega)
  have e2 := toNat_ofInt_mod (x / 65536 / 1000000000)
  have e3 := toNat_ofInt (y := x / 65536 % 1000000000) (by omega) (by omega)
  have e4 := toNat_ofInt (y := x % 65536) (by omega) (by omega)
  have hfrac : field (BitVec.ofInt 32 (x % 65536)) 0 16 = (BitVec.ofInt 32 (x % 65536)).toNat := by
    simp only [field]; omega
  simp only [State.evtTarget, State.setEvtTarget, State.get, State.rd_wr, add_left_inj, Nat.reduceEqDiff, if_false, if_true, hfrac]
  omega

/-! ### Firing: the mark of a late one, the action, and what comes after it -/

/-- A slot that fires late says so (R58). -/
def State.evtLateMarked (s : State) (e : Fin 32) (late : Bool) : State :=
  if late then (s.set (F.WT_EVT_CTRL_LATE e)).wtFlag F.WT_FLAGS_EVT_LATE else s

/-- The end of a pulse on target `p` that slot `e` starts at `at_`, where its action is one (R57). -/
def State.evtPulse (s : State) (e : Fin 32) (action at_ : Nat) (p : Fin 18) : State :=
  if action = 2 then s.setEvt e { s.evt e with pulseEnd := some (s.pulseEndAt e at_), pulseTarget := p } else s

/-- The target that is TGPIO ball `p`. -/
def ballTarget (p : Fin 16) : Fin 18 := p.castLE (by decide)

/-- The target that is camera trigger `c`. -/
def triggerTarget (c : Fin 2) : Fin 18 := ⟨16 + c, by omega⟩

/-- Slot `e` drives TGPIO ball `p` (R57, R60). -/
def State.evtDrives (s : State) (e : Fin 32) (action at_ : Nat) (p : Fin 16) : State :=
  let out := bit (s.rd A.GPIO_DIR).toNat p
  let s := s.pinEdge e p at_ (actionLevel action (bit (s.rd A.GPIO_OUT).toNat p))
  if out then s.evtPulse e action at_ (ballTarget p) else s

/-- Slot `e` fires camera trigger `c` (R57, R370). -/
def State.evtTriggers (s : State) (e : Fin 32) (action at_ : Nat) (c : Fin 2) : State :=
  if !s.camOn then s
  else
    State.evtPulse { s with pins := { s.pins with
      camTrig := s.pins.camTrig.set c (actionLevel action s.pins.camTrig[c])
      trigAt := s.pins.trigAt.set c (some at_) } } e action at_ (triggerTarget c)

/-- The action of slot `e` on its target (R57). -/
def State.evtActs (s : State) (e : Fin 32) (target action at_ : Nat) (late : Bool) : State :=
  if h : target < 16 then s.evtDrives e action at_ ⟨target, h⟩
  else if h : target < 18 then s.evtTriggers e action at_ ⟨target - 16, by omega⟩
  else if target = 18 then s.requestRound
  else if target < 23 then s
  else if h : target < 28 then s.event ⟨target - 23, by omega⟩ 0x02 e late 0
  else s

/-- The period of slot `e`, in units of 2^-16 ns. -/
def State.evtPeriod (s : State) (e : Fin 32) : Nat :=
  (s.rd (A.WT_EVT_PERIOD_NS e)).toNat * 65536 + (s.rd (A.WT_EVT_PERIOD_FRAC e)).toNat

/-- Slot `e` after it has acted: disarmed, or armed for a period later (R559). -/
def State.evtSettles (s : State) (e : Fin 32) (late : Bool) : State :=
  if s.evtPeriod e = 0 then s.clr (F.WT_EVT_CTRL_ARM e)
  else
    (s.setEvtTarget e (s.evtTarget e + s.evtPeriod e)).setEvt e
      { s.evt e with due := .target, lateTo := if late then some s.wall16 else (s.evt e).lateTo }

theorem State.fireEvt_eq (s : State) (e : Fin 32) (at_ : Nat) (late : Bool) : s.fireEvt e at_ late =
    ((s.evtLateMarked e late).evtActs e (s.get (F.WT_EVT_CTRL_TARGET e)) (s.get (F.WT_EVT_CTRL_ACTION e)) at_ late).evtSettles
      e late := by
  unfold State.fireEvt State.evtActs
  by_cases h1 : s.get (F.WT_EVT_CTRL_TARGET e) < 16
  · simp only [h1, dif_pos]; rfl
  · by_cases h2 : s.get (F.WT_EVT_CTRL_TARGET e) < 18
    · have h3 : 16 + (s.get (F.WT_EVT_CTRL_TARGET e) - 16) = s.get (F.WT_EVT_CTRL_TARGET e) := by omega
      simp only [h1, h2, dif_pos, dif_neg, not_false_eq_true, State.evtTriggers, triggerTarget, h3]
      rfl
    · simp only [h1, h2, dif_neg, not_false_eq_true]; rfl


/-! ### What firing keeps of its slot -/

/-- Wall time, and the registers of slot `e` that decide whether it is armed and when it comes due again. -/
def repeatView (e : Fin 32) :=
  View.mk (fun s : State => s.wt.wall)
    (F.WT_EVT_CTRL_ARM e :: whole (A.WT_EVT_PERIOD_NS e) :: whole (A.WT_EVT_PERIOD_FRAC e) :: targetFields e)

/-- The same and the flags that say that it was late. -/
def armView (e : Fin 32) :=
  View.mk (repeatView e).core (F.WT_EVT_CTRL_LATE e :: F.WT_FLAGS_EVT_LATE :: (repeatView e).fields)

theorem armView_deep (e : Fin 32) : (armView e).Deep := ⟨by revert e; decide +kernel, fun _ _ _ _ => rfl⟩

theorem repeatView_deep (e : Fin 32) : (repeatView e).Deep := ⟨by revert e; decide +kernel, fun _ _ _ _ => rfl⟩

theorem apart_arm (e : Fin 32) : ∀ f ∈ [F.WT_FLAGS_EVT_COLLIDE, F.THM_STATUS_ROUND_BUSY], apart (armView e).fields f = true := by
  revert e; decide +kernel

theorem apart_arm_overflow (e : Fin 32) (q : SeqId) : apart (armView e).fields (F.SEQ_EVQ_STATUS_OVERFLOW q) = true := by
  revert e q; decide +kernel

theorem apart_arm_pin (e : Fin 32) (p : Fin 16) : apart (armView e).fields ⟨A.GPIO_OUT, p, 1⟩ = true := by
  revert e p; decide +kernel

/-- COLLIDE of any number is no field of the view. -/
theorem apart_arm_collide (e : Fin 32) (k : Nat) : apart (armView e).fields (F.WT_EVT_CTRL_COLLIDE k) = true := by
  simp only [armView, repeatView, targetFields, A.WT_EVT_CTRL, A.WT_FLAGS, A.WT_EVT_PERIOD_NS, A.WT_EVT_PERIOD_FRAC, A.WT_EVT_SEC_HI,
    A.WT_EVT_SEC_LO, A.WT_EVT_NS, A.WT_EVT_FRAC, apart, whole, List.all_cons, List.all_nil, Bool.and_true, Bool.and_eq_true, Bool.or_eq_true,
    bne_iff_ne, ne_eq, decide_eq_true_eq]
  omega

section Slot

variable {s t : State} {e : Fin 32}

theorem Tells.arm {l : List Fld} (h : Tells l s t) (hl : ∀ f ∈ l, apart (armView e).fields f = true) : (armView e).Same s t :=
  (armView_deep e).same h.1 h.2.2 hl

theorem View.Same.repeats (h : (armView e).Same s t) : (repeatView e).Same s t :=
  h.less (p := id) (fun _ => rfl) (by simp [armView])

theorem View.Same.evtPeriod_eq (h : (repeatView e).Same s t) : t.evtPeriod e = s.evtPeriod e := by
  rw [State.evtPeriod, State.evtPeriod, h.rd_eq (a := A.WT_EVT_PERIOD_NS e) (by simp [repeatView]),
    h.rd_eq (a := A.WT_EVT_PERIOD_FRAC e) (by simp [repeatView])]

theorem View.Same.evtTarget_eq (h : (repeatView e).Same s t) : t.evtTarget e = s.evtTarget e := by
  refine State.evtTarget_congr fun f hf => h.rd_eq ?_
  have : whole f.addr = f := by
    simp only [targetFields, List.mem_cons, List.not_mem_nil, or_false] at hf
    obtain rfl | rfl | rfl | rfl := hf <;> rfl
  simp [repeatView, this, hf]

theorem View.Same.armed_eq (h : (repeatView e).Same s t) : t.flag (F.WT_EVT_CTRL_ARM e) = s.flag (F.WT_EVT_CTRL_ARM e) := by
  rw [State.flag, State.flag, h.2 _ (by simp [repeatView])]

theorem View.Same.late_eq (h : (armView e).Same s t) : t.flag (F.WT_EVT_CTRL_LATE e) = s.flag (F.WT_EVT_CTRL_LATE e) ∧
    t.flag F.WT_FLAGS_EVT_LATE = s.flag F.WT_FLAGS_EVT_LATE := by
  rw [State.flag, State.flag, State.flag, State.flag, h.2 (F.WT_EVT_CTRL_LATE e) (by simp [armView]),
    h.2 F.WT_FLAGS_EVT_LATE (by simp [armView])]
  exact ⟨rfl, rfl⟩

end Slot

/-- The control word of slot `e` and its target registers lie in the slot's eight words. -/
theorem slotFields_addr (e : Fin 32) : ∀ f ∈ F.WT_EVT_CTRL_ARM e :: targetFields e, 0x11000 ≤ f.addr ∧ f.addr < 0x11400 := by
  simp only [targetFields, A.WT_EVT_CTRL, A.WT_EVT_SEC_HI, A.WT_EVT_SEC_LO, A.WT_EVT_NS, A.WT_EVT_FRAC, whole,
    List.forall_mem_cons, List.not_mem_nil, false_imp_iff, implies_true, and_true]
  omega

/-- The target registers of a slot are not its control word. -/
theorem targetFields_ne_ctrl (e : Fin 32) : ∀ f ∈ targetFields e, f.addr ≠ A.WT_EVT_CTRL e := by
  simp only [targetFields, A.WT_EVT_CTRL, A.WT_EVT_SEC_HI, A.WT_EVT_SEC_LO, A.WT_EVT_NS, A.WT_EVT_FRAC, whole,
    List.forall_mem_cons, List.not_mem_nil, false_imp_iff, implies_true, and_true]
  omega

/-! ### What comes after the action (R559) -/

section Settles

variable {s u : State} {e : Fin 32} {late : Bool}

theorem State.evtSettles_zero (h : u.evtPeriod e = 0) : u.evtSettles e late = u.clr (F.WT_EVT_CTRL_ARM e) := if_pos h

theorem State.evtSettles_repeat (h : u.evtPeriod e ≠ 0) : u.evtSettles e late =
    (u.setEvtTarget e (u.evtTarget e + u.evtPeriod e)).setEvt e
      { u.evt e with due := .target, lateTo := if late then some u.wall16 else (u.evt e).lateTo } := if_neg h

theorem State.evtSettles_eq (u : State) (e : Fin 32) (late : Bool) : u.evtSettles e late =
    { u with regs := (u.evtSettles e late).regs, wt := { u.wt with evts := (u.evtSettles e late).wt.evts } } := by
  by_cases h : u.evtPeriod e = 0
  · rw [State.evtSettles_zero h]; rfl
  · rw [State.evtSettles_repeat h]; rfl

/-- The pulse under way stays. -/
theorem State.evtSettles_pulse (u : State) (e : Fin 32) (late : Bool) :
    ((u.evtSettles e late).evt e).pulseEnd = (u.evt e).pulseEnd ∧
      ((u.evtSettles e late).evt e).pulseTarget = (u.evt e).pulseTarget := by
  by_cases h : u.evtPeriod e = 0
  · rw [State.evtSettles_zero h]; exact ⟨rfl, rfl⟩
  · rw [State.evtSettles_repeat h, State.evt_setEvt_same]; exact ⟨rfl, rfl⟩

theorem State.evtSettles_bitsKept (u : State) (e : Fin 32) (late : Bool) :
    BitsKept (F.WT_EVT_CTRL_ARM e :: targetFields e) u (u.evtSettles e late) := by
  by_cases h : u.evtPeriod e = 0
  · rw [State.evtSettles_zero h]; exact (u.clr_bitsKept _).mono (List.cons_subset_cons _ (List.nil_subset _))
  · rw [State.evtSettles_repeat h]
    exact ((u.setEvtTarget_bitsKept e _).trans (.of_regs (State.setEvt_regs _ _ _))).mono (List.subset_cons_self _ _)

/-- A register that holds neither the control word nor the target of the slot keeps its word. -/
theorem State.rd_evtSettles (u : State) (e : Fin 32) (late : Bool) {a : Nat} (ha : a < 0x11000 ∨ 0x11400 ≤ a) :
    (u.evtSettles e late).rd a = u.rd a := by
  refine (u.evtSettles_bitsKept e late).rd_eq fun f hf => ?_
  have := slotFields_addr e f hf
  omega

/-- LATE and COLLIDE of every slot stay. -/
theorem State.flag_evtSettles (u : State) (e : Fin 32) (late : Bool) {f : Fld} (h : 16 ≤ f.lo) (hf : f.lo + f.w ≤ 32)
    (ha : f.addr % 32 = 16) : (u.evtSettles e late).flag f = u.flag f := by
  refine (u.evtSettles_bitsKept e late).flag_apart hf ?_
  simp only [targetFields, A.WT_EVT_CTRL, A.WT_EVT_SEC_HI, A.WT_EVT_SEC_LO, A.WT_EVT_NS, A.WT_EVT_FRAC, apart, whole, List.all_cons,
    List.all_nil, Bool.and_true, Bool.and_eq_true, Bool.or_eq_true, bne_iff_ne, ne_eq, decide_eq_true_eq]
  omega

/-- A slot that was armed is disarmed where its period is 0, and else stays armed for a period later. -/
theorem State.evtSettles_after (h : (repeatView e).Same s u) (harm : s.flag (F.WT_EVT_CTRL_ARM e) = true) :
    let t := u.evtSettles e late
    t.wt.wall = s.wt.wall ∧
      (s.evtPeriod e = 0 → t.flag (F.WT_EVT_CTRL_ARM e) = false ∧ t.evtTarget e = s.evtTarget e) ∧
      (s.evtPeriod e ≠ 0 → t.flag (F.WT_EVT_CTRL_ARM e) = true) ∧
      (s.evtPeriod e ≠ 0 → s.evtTarget e + s.evtPeriod e < 2 ^ 64 * 10 ^ 9 * 65536 →
        t.evtTarget e = s.evtTarget e + s.evtPeriod e) := by
  rw [← h.evtPeriod_eq, ← h.evtTarget_eq]
  refine ⟨?_, fun h0 => ?_, fun h0 => ?_, fun h0 hb => ?_⟩
  · rw [u.evtSettles_eq e late]; exact h.1
  · rw [State.evtSettles_zero h0]
    exact ⟨u.flag_clr (f := F.WT_EVT_CTRL_ARM e) (by decide : 0 + 1 ≤ 32),
      State.evtTarget_congr fun f hf => State.rd_put_other _ _ (targetFields_ne_ctrl e f hf)⟩
  · rw [State.evtSettles_repeat h0, ← harm, ← h.armed_eq, State.flag_setEvt, State.flag, State.flag, State.get, State.get,
      (u.setEvtTarget_bitsKept e _).rd_eq (targetFields_ne_ctrl e)]
  · rw [State.evtSettles_repeat h0, State.evtTarget_setEvt]
    refine u.evtTarget_setEvtTarget e ?_ hb
    have : 0 ≤ u.evtTarget e := Int.natCast_nonneg _
    omega

end Settles

end Sys2Proof.Machine

namespace Sys2Proof.Machine

/-! ### An edge on a TGPIO ball (R59, R60) -/

/-- The last edge placed on ball `p` is `x`. -/
def State.setEdge (s : State) (p : Fin 16) (x : PinEdge) : State :=
  { s with wt := { s.wt with edges := s.wt.edges.set p (some x) } }

@[simp] theorem State.rd_setEdge (s : State) (p : Fin 16) (x : PinEdge) (a : Nat) : (s.setEdge p x).rd a = s.rd a := rfl
@[simp] theorem State.flag_setEdge (s : State) (p : Fin 16) (x : PinEdge) (f : Fld) : (s.setEdge p x).flag f = s.flag f := rfl
@[simp] theorem State.setEdge_regs (s : State) (p : Fin 16) (x : PinEdge) : (s.setEdge p x).regs = s.regs := rfl

theorem State.edges_setEdge_same (s : State) (p : Fin 16) (x : PinEdge) : (s.setEdge p x).wt.edges[p] = some x := by
  simp [State.setEdge]

section Pin

variable {s : State} {e : Fin 32} {p : Fin 16} {at_ : Nat} {level : Bool}

theorem State.pinEdge_input (h : (s.rd A.GPIO_DIR).getLsbD p = false) : s.pinEdge e p at_ level = s.collide e := by
  simp [State.pinEdge, bit_toNat, h]

theorem State.pinEdge_first (h : (s.rd A.GPIO_DIR).getLsbD p = true) (he : s.wt.edges[p] = none) :
    s.pinEdge e p at_ level = (s.drivePin p level).setEdge p ⟨at_, e, level⟩ := by
  simp only [State.pinEdge, bit_toNat, h, if_true, he]
  rfl

/-- An edge next to a later-numbered slot's: the other one moves behind it. -/
theorem State.pinEdge_before {o : PinEdge} (h : (s.rd A.GPIO_DIR).getLsbD p = true) (he : s.wt.edges[p] = some o)
    (hs : e.val < o.slot) (h1 : (at_ : Int) - o.at_ < collideUnits) (h2 : (o.at_ : Int) - at_ < collideUnits) :
    s.pinEdge e p at_ level =
      ((s.drivePin p o.level).setEdge p { o with at_ := at_ + collideUnits.toNat }).collide o.slot := by
  have hne : o.slot ≠ e.val := by omega
  simp only [State.pinEdge, bit_toNat, h, if_true, he]
  rw [if_pos ⟨hne, h1, h2⟩, if_pos hs]
  rfl

/-- An edge next to an earlier-numbered slot's moves behind it. -/
theorem State.pinEdge_after {o : PinEdge} (h : (s.rd A.GPIO_DIR).getLsbD p = true) (he : s.wt.edges[p] = some o)
    (hs : o.slot < e.val) (h1 : (at_ : Int) - o.at_ < collideUnits) (h2 : (o.at_ : Int) - at_ < collideUnits) :
    s.pinEdge e p at_ level =
      ((s.drivePin p level).setEdge p ⟨o.at_ + collideUnits.toNat, e, level⟩).collide e := by
  have hne : o.slot ≠ e.val := by omega
  have hle : ¬ e.val < o.slot := by omega
  simp only [State.pinEdge, bit_toNat, h, if_true, he]
  rw [if_pos ⟨hne, h1, h2⟩, if_neg hle]
  rfl

/-- What an edge can come to: one that is suppressed, one that is placed, or one that is placed and makes a slot collide. -/
theorem State.pinEdge_cases (s : State) (e : Fin 32) (p : Fin 16) (at_ : Nat) (level : Bool) :
    s.pinEdge e p at_ level = s.collide e ∨ ∃ (l : Bool) (x : PinEdge), s.pinEdge e p at_ level = (s.drivePin p l).setEdge p x ∨
      ∃ k, s.pinEdge e p at_ level = ((s.drivePin p l).setEdge p x).collide k := by
  unfold State.pinEdge
  simp only
  split
  · right
    split
    · split
      · split
        · exact ⟨_, _, Or.inr ⟨_, rfl⟩⟩
        · exact ⟨_, _, Or.inr ⟨_, rfl⟩⟩
      · exact ⟨_, _, Or.inl rfl⟩
    · exact ⟨_, _, Or.inl rfl⟩
  · exact Or.inl rfl

end Pin

theorem State.drivePin_tells (s : State) (p : Nat) (level : Bool) : Tells [⟨A.GPIO_OUT, p, 1⟩] s (s.drivePin p level) :=
  OnlyBits.tells ⟨(s.put_onlyCycle _ _).trans (State.noteHit_onlyCycle _ _), s.put_bitsKept _ _⟩

/-- The levels of the balls after one is driven. -/
theorem State.gpioOut_drivePin (s : State) (p : Fin 16) (level : Bool) (i : Nat) :
    ((s.drivePin p level).rd A.GPIO_OUT).getLsbD i = if i = p.val then level else (s.rd A.GPIO_OUT).getLsbD i := by
  have h := testBit_withField (s.rd A.GPIO_OUT) p 1 (b2n level) i
  have hrd : (s.drivePin p level).rd A.GPIO_OUT = withField (s.rd A.GPIO_OUT) p 1 (b2n level) := s.rd_wr_same _ _
  rw [hrd, BitVec.getLsbD, h, BitVec.getLsbD]
  by_cases hi : i = p.val
  · have h32 : i < 32 := by omega
    cases level <;> simp [hi, b2n]
    omega
  · have h1 : ¬ (p.val ≤ i ∧ i < p.val + 1) := by omega
    by_cases h32 : i < 32
    · by_cases h2 : i < p.val
      · simp [hi, h32, h2]
      · have h3 : ¬ i < p.val + 1 := by omega
        simp [hi, h32, h2, h3]
    · have : (s.rd A.GPIO_OUT).toNat.testBit i = false := BitVec.getLsbD_of_ge _ _ (by omega)
      simp [hi, h32, this]

theorem State.collide_tells (s : State) (k : Nat) :
    Tells [F.WT_EVT_CTRL_COLLIDE k, F.WT_FLAGS_EVT_COLLIDE, F.SEQ_EVQ_STATUS_OVERFLOW 4] s (s.collide k) :=
  ((s.set_onlyBits _).tells.mono (by simp)).trans ((State.wtFlag_tells _ _).mono (by simp))

theorem State.flag_collide (s : State) (k : Fin 32) :
    (s.collide k).flag (F.WT_EVT_CTRL_COLLIDE k) = true ∧ (s.collide k).flag F.WT_FLAGS_EVT_COLLIDE = true := by
  refine ⟨?_, State.flag_wtFlag _ rfl (by decide) (by decide)⟩
  rw [State.collide, (State.wtFlag_tells _ _).2.2.flag_apart (by simp) (by revert k; decide +kernel)]
  exact s.flag_set (by simp) (by simp)

/-! ### The action of a slot keeps what arms it -/

section Acts

variable {s : State} {e : Fin 32} {action at_ : Nat}

theorem State.evtPulse_same (s : State) (e : Fin 32) (action at_ : Nat) (p : Fin 18) :
    (armView e).Same s (s.evtPulse e action at_ p) := by
  unfold State.evtPulse
  split
  · exact (armView_deep e).of_regs rfl rfl
  · exact .refl _ s

theorem State.pinEdge_same (s : State) (e : Fin 32) (p : Fin 16) (at_ : Nat) (level : Bool) :
    (armView e).Same s (s.pinEdge e p at_ level) := by
  have hcollide (t : State) (k : Nat) : (armView e).Same t (t.collide k) :=
    (t.collide_tells k).arm (List.forall_mem_cons.mpr ⟨apart_arm_collide e k,
      List.forall_mem_cons.mpr ⟨apart_arm e _ (by simp), List.forall_mem_singleton.mpr (apart_arm_overflow e 4)⟩⟩)
  have hdrive (l : Bool) (x : PinEdge) : (armView e).Same s ((s.drivePin p l).setEdge p x) :=
    ((s.drivePin_tells p l).arm (by simp [apart_arm_pin])).trans ((armView_deep e).of_regs rfl rfl)
  obtain h | ⟨l, x, h | ⟨k, h⟩⟩ := s.pinEdge_cases e p at_ level
  · rw [h]; exact hcollide s e
  · rw [h]; exact hdrive l x
  · rw [h]; exact (hdrive l x).trans (hcollide _ k)

theorem State.requestRound_same (s : State) (e : Fin 32) : (armView e).Same s s.requestRound := by
  unfold State.requestRound
  split
  · exact (armView_deep e).of_regs rfl rfl
  · exact ((armView_deep e).set s (apart_arm e _ (by simp))).trans ((armView_deep e).of_regs rfl rfl)

theorem State.evtDrives_same (s : State) (e : Fin 32) (action at_ : Nat) (p : Fin 16) :
    (armView e).Same s (s.evtDrives e action at_ p) := by
  unfold State.evtDrives
  simp only
  split
  · exact (s.pinEdge_same e p _ _).trans (State.evtPulse_same _ e _ _ _)
  · exact s.pinEdge_same e p _ _

theorem State.evtTriggers_same (s : State) (e : Fin 32) (action at_ : Nat) (c : Fin 2) :
    (armView e).Same s (s.evtTriggers e action at_ c) := by
  unfold State.evtTriggers
  split
  · exact .refl _ s
  · exact ((armView_deep e).of_regs rfl rfl).trans (State.evtPulse_same _ e _ _ _)

theorem State.evtActs_same (s : State) (e : Fin 32) (target action at_ : Nat) (late : Bool) :
    (armView e).Same s (s.evtActs e target action at_ late) := by
  unfold State.evtActs
  split
  · exact s.evtDrives_same e _ _ _
  · split
    · exact s.evtTriggers_same e _ _ _
    · split
      · exact s.requestRound_same e
      · split
        · exact .refl _ s
        · split
          · exact (State.event_tells _ _ _ _ _ _).arm (List.forall_mem_singleton.mpr (apart_arm_overflow e _))
          · exact .refl _ s

end Acts

end Sys2Proof.Machine

namespace Sys2Proof.Machine

/-! ### EVENT_FIRE (R57, R58) -/

section Fire

variable {s : State} {e : Fin 32} {late : Bool} {at_ : Nat}

/-- EVENT_FIRE of a slot that is due: at its target, or late where that was passed before. -/
theorem execEventFire_due (ha : s.flag (F.WT_EVT_CTRL_ARM e) = true) (ht : s.get (F.WT_EVT_CTRL_TARGET e) < 28)
    (hd : (s.evt e).due = .target) (hx : s.evtTarget e ≤ s.wall16) : exec (.eventFire e) s =
      .next (s.fireEvt e (if (s.evt e).passed (s.evtTarget e) then s.wall16 else (s.evtTarget e).toNat)
        ((s.evt e).passed (s.evtTarget e))) := by
  have hdue : s.evtDue e = some (s.evtTarget e) := by simp [State.evtDue, hd]
  have hreached : s.reached (s.evtTarget e) = true := by simpa [State.reached] using hx
  change execEventFire e s = _
  simp only [execEventFire, ha, ht, decide_true, Bool.and_self, if_true, hdue, hreached]

theorem State.evtLateMarked_tells (s : State) (e : Fin 32) (late : Bool) :
    Tells [F.WT_EVT_CTRL_LATE e, F.WT_FLAGS_EVT_LATE, F.SEQ_EVQ_STATUS_OVERFLOW 4] s (s.evtLateMarked e late) := by
  unfold State.evtLateMarked
  split
  · exact ((s.set_onlyBits _).tells.mono (by simp)).trans ((State.wtFlag_tells _ _).mono (by simp))
  · exact .refl _ s

theorem State.evtLateMarked_same (s : State) (e : Fin 32) (late : Bool) : (repeatView e).Same s (s.evtLateMarked e late) := by
  have hapart : ∀ e : Fin 32, ∀ f ∈ [F.WT_EVT_CTRL_LATE e, F.WT_FLAGS_EVT_LATE, F.SEQ_EVQ_STATUS_OVERFLOW 4],
      apart (repeatView e).fields f = true := by decide +kernel
  have h := s.evtLateMarked_tells e late
  exact (repeatView_deep e).same h.1 h.2.2 (hapart e)

theorem State.flag_evtLateMarked (s : State) (e : Fin 32) : (s.evtLateMarked e true).flag (F.WT_EVT_CTRL_LATE e) = true ∧
    (s.evtLateMarked e true).flag F.WT_FLAGS_EVT_LATE = true := by
  refine ⟨?_, State.flag_wtFlag _ rfl (by decide) (by decide)⟩
  change ((s.set (F.WT_EVT_CTRL_LATE e)).wtFlag F.WT_FLAGS_EVT_LATE).flag _ = true
  rw [(State.wtFlag_tells _ _).2.2.flag_apart (by simp) (by revert e; decide +kernel)]
  exact s.flag_set (by simp) (by simp)

/-- The pins, the edges placed and the registers beside WT_FLAGS and the slots stay when a slot says that it is late. -/
theorem State.rd_evtLateMarked (s : State) (e : Fin 32) (late : Bool) {a : Nat} (ha : 0x11400 ≤ a)
    (hq : a ≠ A.SEQ_EVQ_STATUS 4) : (s.evtLateMarked e late).rd a = s.rd a := by
  refine (s.evtLateMarked_tells e late).2.2.rd_eq ?_
  simp only [A.WT_EVT_CTRL, A.WT_FLAGS, A.SEQ_EVQ_STATUS, List.forall_mem_cons, List.not_mem_nil, false_imp_iff, implies_true,
    and_true] at hq ⊢
  omega

/-- A slot that fires late says so, and does what it does at its target otherwise. -/
theorem State.fireEvt_late (s : State) (e : Fin 32) (at_ : Nat) :
    (s.fireEvt e at_ true).flag (F.WT_EVT_CTRL_LATE e) = true ∧ (s.fireEvt e at_ true).flag F.WT_FLAGS_EVT_LATE = true := by
  obtain ⟨h1, h2⟩ := s.flag_evtLateMarked e
  obtain ⟨h3, h4⟩ := ((s.evtLateMarked e true).evtActs_same e (s.get (F.WT_EVT_CTRL_TARGET e)) (s.get (F.WT_EVT_CTRL_ACTION e))
    at_ true).late_eq
  rw [s.fireEvt_eq]
  refine ⟨?_, ?_⟩
  · rw [State.flag_evtSettles _ e true (by simp) (by simp) (by simp only [A.WT_EVT_CTRL]; omega), h3, h1]
  · rw [State.flag, State.get, State.rd_evtSettles _ e true (Or.inl (by decide))]
    exact h4.trans h2

/-- Firing keeps wall time, and disarms the slot or moves its target on (R559). -/
theorem State.fireEvt_after (ha : s.flag (F.WT_EVT_CTRL_ARM e) = true) :
    let t := s.fireEvt e at_ late
    t.wt.wall = s.wt.wall ∧
      (s.evtPeriod e = 0 → t.flag (F.WT_EVT_CTRL_ARM e) = false ∧ t.evtTarget e = s.evtTarget e) ∧
      (s.evtPeriod e ≠ 0 → t.flag (F.WT_EVT_CTRL_ARM e) = true) ∧
      (s.evtPeriod e ≠ 0 → s.evtTarget e + s.evtPeriod e < 2 ^ 64 * 10 ^ 9 * 65536 →
        t.evtTarget e = s.evtTarget e + s.evtPeriod e) := by
  rw [s.fireEvt_eq]
  exact State.evtSettles_after ((s.evtLateMarked_same e late).trans (State.evtActs_same _ e _ _ _ _).repeats) ha

/-- A slot at a ball that is no output fires without an edge (R60). -/
theorem State.fireEvt_input (ht : s.get (F.WT_EVT_CTRL_TARGET e) < 16)
    (hd : (s.rd A.GPIO_DIR).getLsbD (s.get (F.WT_EVT_CTRL_TARGET e)) = false) :
    s.fireEvt e at_ late = ((s.evtLateMarked e late).collide e).evtSettles e late := by
  have hdir : ((s.evtLateMarked e late).rd A.GPIO_DIR).getLsbD (s.get (F.WT_EVT_CTRL_TARGET e)) = false := by
    rw [s.rd_evtLateMarked e late (by decide) (by decide)]; exact hd
  rw [s.fireEvt_eq, State.evtActs, dif_pos ht]
  simp only [State.evtDrives, bit_toNat, hdir, Bool.false_eq_true, if_false]
  rw [State.pinEdge_input hdir]

end Fire

/-- Settles O23: the slot's edge is suppressed, COLLIDE says so, and the slot settles as after any firing. -/
theorem eventOnInputPin : Obligations.EventOnInputPin := by
  intro s e target period ha hd hx ht hdir
  refine ⟨_, execEventFire_due ha (by omega) hd hx, ?_⟩
  generalize (s.evt e).passed (s.evtTarget e) = late
  obtain ⟨-, hzero, hrep, -⟩ := State.fireEvt_after (at_ := if late = true then s.wall16 else (s.evtTarget e).toNat) (late := late) ha
  rw [State.fireEvt_input ht hdir] at hzero hrep ⊢
  obtain ⟨hc1, hc2⟩ := (s.evtLateMarked e late).flag_collide e
  have hmark := (s.evtLateMarked_tells e late).1
  have hcol := ((s.evtLateMarked e late).collide_tells e).1
  have hset := ((s.evtLateMarked e late).collide e).evtSettles_eq e late
  have hrd {a : Nat} (h : a < 0x11000 ∨ 0x11400 ≤ a) := ((s.evtLateMarked e late).collide e).rd_evtSettles e late h
  refine ⟨?_, ?_, ?_, ?_, ?_, ?_⟩
  · rw [State.flag_evtSettles _ e late (by simp) (by simp) (by simp only [A.WT_EVT_CTRL]; omega), hc1]
  · rw [State.flag, State.get, hrd (Or.inl (by decide))]; exact hc2
  · have hgpio : ∀ e : Fin 32, ∀ f ∈ [F.WT_EVT_CTRL_COLLIDE e, F.WT_FLAGS_EVT_COLLIDE, F.SEQ_EVQ_STATUS_OVERFLOW 4],
        f.addr ≠ A.GPIO_OUT := by decide +kernel
    rw [hrd (Or.inr (by decide)), ((s.evtLateMarked e late).collide_tells e).2.2.rd_eq (hgpio e),
      s.rd_evtLateMarked e late (by decide) (by decide)]
  · rw [hset, hcol, hmark]
  · rw [hset, hcol, hmark]
  · by_cases h : s.evtPeriod e = 0
    · rw [(hzero h).1]; exact iff_of_false (by simp) (fun hp => hp h)
    · exact iff_of_true (hrep h) h

end Sys2Proof.Machine

namespace Sys2Proof.Machine

/-! ### A write of a slot's control word (R559) -/

/-- Bits that a write of ARM leaves in the other fields of the control word. -/
theorem field_or_one (v : Word) {lo w : Nat} (h : 1 ≤ lo) : field (v ||| 1) lo w = field v lo w := by
  apply Nat.eq_of_testBit_eq
  intro i
  have h1 : (1 : Nat).testBit (lo + i) = false :=
    Bool.eq_false_iff.mpr fun h0 => absurd (Nat.testBit_one_eq_true_iff_self_eq_zero.mp h0) (by omega)
  simp [testBit_field, h1]

theorem field_and_not_one (v : Word) {lo w : Nat} (h : 1 ≤ lo) (h' : lo + w ≤ 32) :
    field (v &&& ~~~1) lo w = field v lo w := by
  apply Nat.eq_of_testBit_eq
  intro i
  rw [testBit_field, testBit_field]
  by_cases hi : i < w
  · have h1 : (1 : Word).getLsbD (lo + i) = false :=
      Bool.eq_false_iff.mpr fun h0 => absurd (Nat.testBit_one_eq_true_iff_self_eq_zero.mp h0) (by omega)
    have h2 : lo + i < 32 := by omega
    have : (v &&& ~~~1).getLsbD (lo + i) = v.getLsbD (lo + i) := by
      rw [BitVec.getLsbD_and, BitVec.getLsbD_not, h1]; simp [h2]
    rw [BitVec.getLsbD, BitVec.getLsbD] at this
    simp only [hi, decide_true, Bool.true_and, this]
  · simp [hi]

theorem field_arm_or_one (v : Word) : field (v ||| 1) 0 1 = 1 := by
  rw [← beq_iff_eq, field_one_beq]; simp

theorem field_arm_and_not_one (v : Word) : ¬ field (v &&& ~~~1) 0 1 = 1 := by
  rw [← beq_iff_eq, field_one_beq]; simp

section Arm

variable {s : State} {e : Fin 32} {v : Word}

theorem State.wipe_onlyBits (s : State) (f : Fld) : OnlyBits [f] s (s.wipe f) := by
  unfold State.wipe
  split
  · exact .refl _ s
  · exact s.clr_onlyBits f

theorem State.wipe_eq (s : State) (f : Fld) : s.wipe f = { s with regs := (s.wipe f).regs } := by
  unfold State.wipe
  split <;> rfl

/-- The write clears LATE and COLLIDE at most, and changes nothing else. -/
theorem State.evtW1c_eq (s : State) (e : Fin 32) (v : Word) : s.evtW1c e v = { s with regs := (s.evtW1c e v).regs } := by
  unfold State.evtW1c
  simp only
  split
  · rw [State.wipe_eq]
    split
    · rw [s.wipe_eq]
    · rfl
  · split
    · rw [s.wipe_eq]
    · rfl

theorem State.evtW1c_bitsKept (s : State) (e : Fin 32) (v : Word) :
    BitsKept [F.WT_EVT_CTRL_LATE e, F.WT_EVT_CTRL_COLLIDE e] s (s.evtW1c e v) := by
  have h1 (t : State) : BitsKept [F.WT_EVT_CTRL_LATE e, F.WT_EVT_CTRL_COLLIDE e] t (t.wipe (F.WT_EVT_CTRL_LATE e)) :=
    (t.wipe_onlyBits _).2.mono (by simp)
  have h2 (t : State) : BitsKept [F.WT_EVT_CTRL_LATE e, F.WT_EVT_CTRL_COLLIDE e] t (t.wipe (F.WT_EVT_CTRL_COLLIDE e)) :=
    (t.wipe_onlyBits _).2.mono (by simp)
  unfold State.evtW1c
  simp only
  split
  · split
    · exact (h1 s).trans (h2 _)
    · exact h2 s
  · split
    · exact h1 s
    · exact .refl _ s

/-- The control word with ACTION and TARGET as written. -/
def State.evtConfigured (s : State) (e : Fin 32) (v : Word) : State :=
  ((s.evtW1c e v).put (F.WT_EVT_CTRL_ACTION e) (field v 1 2)).put (F.WT_EVT_CTRL_TARGET e) (field v 8 6)

/-- The fields of a control word that its write changes. -/
def ctrlFields (e : Fin 32) : List Fld :=
  [F.WT_EVT_CTRL_LATE e, F.WT_EVT_CTRL_COLLIDE e, F.WT_EVT_CTRL_ACTION e, F.WT_EVT_CTRL_TARGET e]

theorem ctrlFields_addr (e : Fin 32) : ∀ f ∈ ctrlFields e, f.addr = A.WT_EVT_CTRL e := by simp [ctrlFields]

theorem State.evtConfigured_eq (s : State) (e : Fin 32) (v : Word) :
    s.evtConfigured e v = { s with regs := (s.evtConfigured e v).regs } := by
  unfold State.evtConfigured
  rw [s.evtW1c_eq]
  rfl

theorem State.evtConfigured_bitsKept (s : State) (e : Fin 32) (v : Word) :
    BitsKept (ctrlFields e) s (s.evtConfigured e v) :=
  ((s.evtW1c_bitsKept e v).mono (by simp [ctrlFields])).trans
    (((State.put_bitsKept _ _ _).mono (by simp [ctrlFields])).trans ((State.put_bitsKept _ _ _).mono (by simp [ctrlFields])))

theorem State.evtConfigured_get (s : State) (e : Fin 32) (v : Word) :
    (s.evtConfigured e v).get (F.WT_EVT_CTRL_TARGET e) = field v 8 6 ∧
      (s.evtConfigured e v).get (F.WT_EVT_CTRL_ACTION e) = field v 1 2 := by
  refine ⟨?_, ?_⟩
  · rw [State.evtConfigured, State.get_put_same _ _ (by simp)]
    exact Nat.mod_eq_of_lt (field_lt v 8 6)
  · rw [State.evtConfigured, State.get_put_field _ _ (by simp) (by simp), State.get_put_same _ _ (by simp)]
    exact Nat.mod_eq_of_lt (field_lt v 1 2)

/-- Slot `e` armed now. -/
def State.evtArmed (s : State) (e : Fin 32) : State :=
  (s.set (F.WT_EVT_CTRL_ARM e)).setEvt e
    { s.evt e with due := .target, armedAt := s.wt.wall, lateTo := none, noScan := !s.cadenceOk }

/-- A slot whose target is no scan start and lies ahead is armed for it (R559). -/
theorem State.armEvt_ahead (hscan : s.get (F.WT_EVT_CTRL_TARGET e) < 19 ∨ 23 ≤ s.get (F.WT_EVT_CTRL_TARGET e))
    (hx : (s.wall16 : Int) ≤ s.evtTarget e) : s.armEvt e = s.evtArmed e := by
  have hn : ¬ (19 ≤ s.get (F.WT_EVT_CTRL_TARGET e) ∧ s.get (F.WT_EVT_CTRL_TARGET e) < 23) := by omega
  simp only [State.armEvt, dif_neg hn, hx, if_true, ite_self]
  rfl

/-- One whose target is past by no more than 2^31 ns fires at once, late (R58). -/
theorem State.armEvt_past (hscan : s.get (F.WT_EVT_CTRL_TARGET e) < 19 ∨ 23 ≤ s.get (F.WT_EVT_CTRL_TARGET e))
    (ht : s.get (F.WT_EVT_CTRL_TARGET e) < 28) (hx : s.evtTarget e < s.wall16)
    (hfar : (s.wall16 : Int) - s.evtTarget e ≤ 2 ^ 31 * 65536) :
    s.armEvt e = (s.evtArmed e).fireEvt e s.wall16 true := by
  have hn : ¬ (19 ≤ s.get (F.WT_EVT_CTRL_TARGET e) ∧ s.get (F.WT_EVT_CTRL_TARGET e) < 23) := by omega
  have h1 : ¬ 28 ≤ s.get (F.WT_EVT_CTRL_TARGET e) := by omega
  have h2 : ¬ (s.wall16 : Int) ≤ s.evtTarget e := by omega
  simp only [State.armEvt, dif_neg hn, h1, h2, if_false]
  exact if_pos hfar

theorem State.evtArmed_bitsKept (s : State) (e : Fin 32) : BitsKept [F.WT_EVT_CTRL_ARM e] s (s.evtArmed e) :=
  (s.set_bitsKept _).trans (.of_regs (State.setEvt_regs _ _ _))

theorem State.flag_evtArmed (s : State) (e : Fin 32) : (s.evtArmed e).flag (F.WT_EVT_CTRL_ARM e) = true :=
  s.flag_set (f := F.WT_EVT_CTRL_ARM e) (by simp) (by simp)

/-- The control word of a disarmed slot, written with ARM = 1. -/
theorem execEvtArm_disarmed (h : s.flag (F.WT_EVT_CTRL_ARM e) = false)
    (h' : s.atCycleStart.flag (F.WT_EVT_CTRL_ARM e) = false) :
    exec (.evtArm e v) s = .next ((s.evtConfigured e (v ||| 1)).armEvt e) := by
  have hlock : s.evtLocked e = false := by simp [State.evtLocked, h, h']
  change execEvtArm e v s = _
  simp only [execEvtArm, State.writeEvtCtrl, hlock, h, field_arm_or_one, if_true, Bool.false_eq_true, if_false,
    State.writeEvtFields]
  rfl

/-- ACTION and TARGET of a locked control word: STALE_WRITE where the written ones differ. -/
def State.evtRefused (s : State) (e : Fin 32) (v : Word) : State := (s.evtW1c e v).writeEvtFields e v true

theorem execEvtArm_armed (h : s.flag (F.WT_EVT_CTRL_ARM e) = true) :
    exec (.evtArm e v) s = .next (s.evtRefused e (v ||| 1)) := by
  have hlock : s.evtLocked e = true := by simp [State.evtLocked, h]
  change execEvtArm e v s = _
  simp only [execEvtArm, State.writeEvtCtrl, hlock, h, field_arm_or_one, if_true]
  rfl

theorem execEvtDisarm_armed (h : s.flag (F.WT_EVT_CTRL_ARM e) = true) :
    exec (.evtDisarm e v) s = .next ((s.evtRefused e (v &&& ~~~1)).disarmEvt e) := by
  have hlock : s.evtLocked e = true := by simp [State.evtLocked, h]
  change execEvtDisarm e v s = _
  simp only [execEvtDisarm, State.writeEvtCtrl, hlock, h, field_arm_and_not_one, if_true, if_false]
  rfl

/-- The written ACTION and TARGET differ from those of an armed slot. -/
def State.evtDiffers (s : State) (e : Fin 32) (v : Word) : Prop :=
  field v 1 2 ≠ s.get (F.WT_EVT_CTRL_ACTION e) ∨ field v 8 6 ≠ s.get (F.WT_EVT_CTRL_TARGET e)

theorem State.get_evtW1c (s : State) (e : Fin 32) (v : Word) {f : Fld} (h : f.lo + f.w ≤ 16) :
    (s.evtW1c e v).get f = s.get f := by
  refine (s.evtW1c_bitsKept e v).get_eq (by omega) ?_
  simp only [List.forall_mem_cons, List.not_mem_nil, false_imp_iff, implies_true, and_true]
  omega

theorem State.evtRefused_differs (h : s.evtDiffers e v) :
    s.evtRefused e v = (s.evtW1c e v).wtFlag F.WT_FLAGS_STALE_WRITE := by
  have h : (decide (field v 1 2 ≠ s.get (F.WT_EVT_CTRL_ACTION e)) || decide (field v 8 6 ≠ s.get (F.WT_EVT_CTRL_TARGET e))) = true := by
    simpa [State.evtDiffers] using h
  have h1 := s.get_evtW1c e v (f := F.WT_EVT_CTRL_ACTION e) (by simp)
  have h2 := s.get_evtW1c e v (f := F.WT_EVT_CTRL_TARGET e) (by simp)
  simp only [State.evtRefused, State.writeEvtFields, h1, h2, h, if_true]

theorem State.evtRefused_same (h : ¬ s.evtDiffers e v) : s.evtRefused e v = s.evtW1c e v := by
  have h : (decide (field v 1 2 ≠ s.get (F.WT_EVT_CTRL_ACTION e)) || decide (field v 8 6 ≠ s.get (F.WT_EVT_CTRL_TARGET e))) = false := by
    simpa [State.evtDiffers] using h
  have h1 := s.get_evtW1c e v (f := F.WT_EVT_CTRL_ACTION e) (by simp)
  have h2 := s.get_evtW1c e v (f := F.WT_EVT_CTRL_TARGET e) (by simp)
  simp only [State.evtRefused, State.writeEvtFields, h1, h2, h, if_true, if_false, Bool.false_eq_true]

theorem State.evtW1c_tells (s : State) (e : Fin 32) (v : Word) :
    Tells [F.WT_EVT_CTRL_LATE e, F.WT_EVT_CTRL_COLLIDE e] s (s.evtW1c e v) := by
  have h := s.evtW1c_eq e v
  refine ⟨?_, ?_, s.evtW1c_bitsKept e v⟩
  · rw [h]
  · rw [h]

/-- A refused write clears LATE and COLLIDE at most, and sets STALE_WRITE at most. -/
theorem State.evtRefused_tells (s : State) (e : Fin 32) (v : Word) : Tells
    [F.WT_EVT_CTRL_LATE e, F.WT_EVT_CTRL_COLLIDE e, F.WT_FLAGS_STALE_WRITE, F.SEQ_EVQ_STATUS_OVERFLOW 4] s (s.evtRefused e v) := by
  have h1 := (s.evtW1c_tells e v).mono (m := [F.WT_EVT_CTRL_LATE e, F.WT_EVT_CTRL_COLLIDE e, F.WT_FLAGS_STALE_WRITE,
    F.SEQ_EVQ_STATUS_OVERFLOW 4]) (by simp)
  by_cases h : s.evtDiffers e v
  · rw [State.evtRefused_differs h]
    exact h1.trans ((State.wtFlag_tells _ _).mono (by simp))
  · rw [State.evtRefused_same h]; exact h1

/-- ARM, ACTION and TARGET of the slot stay. -/
theorem State.get_evtRefused (s : State) (e : Fin 32) (v : Word) {f : Fld} (ha : f.addr = A.WT_EVT_CTRL e) (h : f.lo + f.w ≤ 16) :
    (s.evtRefused e v).get f = s.get f := by
  refine (s.evtRefused_tells e v).2.2.get_eq (by omega) ?_
  simp only [List.forall_mem_cons, List.not_mem_nil, false_imp_iff, implies_true, and_true, ha, A.WT_EVT_CTRL, A.WT_FLAGS,
    A.SEQ_EVQ_STATUS]
  omega

theorem State.disarmEvt_plain (hscan : s.get (F.WT_EVT_CTRL_TARGET e) < 19 ∨ 23 ≤ s.get (F.WT_EVT_CTRL_TARGET e)) :
    s.disarmEvt e = s.clr (F.WT_EVT_CTRL_ARM e) := by
  have hn : ¬ (19 ≤ s.get (F.WT_EVT_CTRL_TARGET e) ∧ s.get (F.WT_EVT_CTRL_TARGET e) < 23) := by omega
  simp only [State.disarmEvt, dif_neg hn]

end Arm

end Sys2Proof.Machine

namespace Sys2Proof.Machine

/-! ### The actions of a slot at its target (R57, R59, R370, R450) -/

section Act

variable {s : State} {e : Fin 32} {action at_ : Nat}

theorem State.evtPulse_eq (s : State) (e : Fin 32) (action at_ : Nat) (p : Fin 18) :
    s.evtPulse e action at_ p = { s with wt := { s.wt with evts := (s.evtPulse e action at_ p).wt.evts } } := by
  unfold State.evtPulse
  split <;> rfl

@[simp] theorem State.rd_evtPulse (s : State) (e : Fin 32) (action at_ : Nat) (p : Fin 18) (a : Nat) :
    (s.evtPulse e action at_ p).rd a = s.rd a := by rw [State.evtPulse_eq]; rfl

/-- A pulse ends WIDTH later, at the target that it drives. -/
theorem State.evt_evtPulse (s : State) (e : Fin 32) {action : Nat} (at_ : Nat) (p : Fin 18) (ha : action = 2) :
    ((s.evtPulse e action at_ p).evt e).pulseEnd = some (at_ + s.get ⟨A.WT_EVT_WIDTH e, 0, 24⟩ * 65536) ∧
      ((s.evtPulse e action at_ p).evt e).pulseTarget = p := by
  simp only [State.evtPulse, ha, if_true, State.evt_setEvt_same]
  exact ⟨rfl, trivial⟩

theorem State.fireEvt_on_time (s : State) (e : Fin 32) (at_ : Nat) : s.fireEvt e at_ false =
    (s.evtActs e (s.get (F.WT_EVT_CTRL_TARGET e)) (s.get (F.WT_EVT_CTRL_ACTION e)) at_ false).evtSettles e false :=
  s.fireEvt_eq e at_ false

/-- The action at a TGPIO ball that is an output. -/
theorem State.evtActs_ball {p : Fin 16} (hdir : (s.rd A.GPIO_DIR).getLsbD p = true) :
    s.evtActs e p action at_ false =
      (s.pinEdge e p at_ (actionLevel action ((s.rd A.GPIO_OUT).getLsbD p))).evtPulse e action at_ (ballTarget p) := by
  rw [State.evtActs, dif_pos p.isLt]
  simp only [State.evtDrives, bit_toNat, hdir, if_true]

/-- The action at a camera trigger. -/
theorem State.evtActs_trigger (c : Fin 2) : s.evtActs e (16 + c) action at_ false = s.evtTriggers e action at_ c := by
  have h1 : ¬ 16 + c.val < 16 := by omega
  have h2 : 16 + c.val < 18 := by omega
  have h3 : (⟨16 + c.val - 16, by omega⟩ : Fin 2) = c := Fin.ext (by simp)
  rw [State.evtActs, dif_neg h1, dif_pos h2, h3]

theorem State.evtTriggers_off {c : Fin 2} (h : s.camOn = false) : s.evtTriggers e action at_ c = s := by
  simp [State.evtTriggers, h]

/-- Camera trigger `c` driven to `level` at the instant `at_`. -/
def State.triggered (s : State) (c : Fin 2) (level : Bool) (at_ : Nat) : State :=
  { s with pins := { s.pins with camTrig := s.pins.camTrig.set c level, trigAt := s.pins.trigAt.set c (some at_) } }

theorem State.evtTriggers_on {c : Fin 2} (h : s.camOn = true) : s.evtTriggers e action at_ c =
    (s.triggered c (actionLevel action s.pins.camTrig[c]) at_).evtPulse e action at_ (triggerTarget c) := by
  simp only [State.evtTriggers, h, Bool.not_true, Bool.false_eq_true, if_false]
  rfl

theorem State.evtActs_round : s.evtActs e 18 action at_ false = s.requestRound := rfl

theorem State.evtActs_event (q : SeqId) : s.evtActs e (23 + q) action at_ false = s.event q 0x02 e false 0 := by
  have h1 : ¬ 23 + q.val < 16 := by omega
  have h2 : ¬ 23 + q.val < 18 := by omega
  have h3 : ¬ 23 + q.val = 18 := by omega
  have h4 : ¬ 23 + q.val < 23 := by omega
  have h5 : 23 + q.val < 28 := by omega
  have h6 : (⟨23 + q.val - 23, by omega⟩ : SeqId) = q := Fin.ext (by simp)
  rw [State.evtActs, dif_neg h1, dif_neg h2, if_neg h3, if_neg h4, dif_pos h5, h6]

/-- A request leaves a round running (R449, R450). -/
theorem State.requestRound_busy (s : State) : s.requestRound.flag F.THM_STATUS_ROUND_BUSY = true := by
  unfold State.requestRound
  split
  · next h => exact h
  · exact s.flag_set (f := F.THM_STATUS_ROUND_BUSY) (by decide) (by decide)

end Act

/-! ### PULSE_END (R57) -/

/-- Slot `e` with no pulse under way. -/
def State.pulseOver (s : State) (e : Fin 32) : State := s.setEvt e { s.evt e with pulseEnd := none }

theorem execPulseEnd_due {s : State} {e : Fin 32} {y : Nat} (hp : (s.evt e).pulseEnd = some y) (hy : y ≤ s.wall16) :
    (∀ h : (s.evt e).pulseTarget.val < 16, exec (.pulseEnd e) s = .next ((s.pulseOver e).pinEdge e ⟨(s.evt e).pulseTarget, h⟩ y false)) ∧
      (∀ h : ¬ (s.evt e).pulseTarget.val < 16, exec (.pulseEnd e) s = .next { s.pulseOver e with pins := { s.pins with
        camTrig := s.pins.camTrig.set ((s.evt e).pulseTarget.val - 16) false (by omega) } }) := by
  have hreached : s.reached (y : Int) = true := by simpa [State.reached] using hy
  refine ⟨fun h => ?_, fun h => ?_⟩
  · change execPulseEnd e s = _
    simp only [execPulseEnd, hp, hreached, if_true, dif_pos h]
    rfl
  · change execPulseEnd e s = _
    simp only [execPulseEnd, hp, hreached, if_true, dif_neg h]
    rfl


/-! ### Writes of a control word -/

section Ctrl

variable {s : State} {e : Fin 32} {v : Word}

/-- What an unlocked write configures keeps the slot's target, and holds the fields written. -/
theorem State.evtConfigured_spec (s : State) (e : Fin 32) (v : Word) :
    (s.evtConfigured e (v ||| 1)).get (F.WT_EVT_CTRL_TARGET e) = v.toNat / 2 ^ 8 % 64 ∧
      (s.evtConfigured e (v ||| 1)).get (F.WT_EVT_CTRL_ACTION e) = v.toNat / 2 % 4 ∧
      (s.evtConfigured e (v ||| 1)).evtTarget e = s.evtTarget e ∧ (s.evtConfigured e (v ||| 1)).wt = s.wt := by
  obtain ⟨h1, h2⟩ := s.evtConfigured_get e (v ||| 1)
  refine ⟨h1.trans (field_or_one v (by decide)), h2.trans (field_or_one v (by decide)), ?_, ?_⟩
  · refine State.evtTarget_congr fun f hf => (s.evtConfigured_bitsKept e _).rd_eq fun g hg => ?_
    rw [ctrlFields_addr e g hg]
    exact (targetFields_ne_ctrl e f hf).symm
  · rw [s.evtConfigured_eq]

/-- An armed slot shows the fields written; nothing else of the registers has changed. -/
theorem State.evtArmed_get (s : State) (e : Fin 32) {f : Fld} (h : f.lo + f.w ≤ 32) (h1 : 1 ≤ f.lo) :
    (s.evtArmed e).get f = s.get f := by
  refine (s.evtArmed_bitsKept e).get_eq h (List.forall_mem_singleton.mpr fun _ => Or.inr ?_)
  exact h1

theorem State.evtPeriod_evtArmed_configured (s : State) (e : Fin 32) (v : Word) :
    ((s.evtConfigured e v).evtArmed e).evtPeriod e = s.evtPeriod e := by
  have hb : BitsKept (F.WT_EVT_CTRL_ARM e :: ctrlFields e) s ((s.evtConfigured e v).evtArmed e) :=
    ((s.evtConfigured_bitsKept e v).mono (by simp)).trans ((State.evtArmed_bitsKept _ e).mono (by simp))
  have hne {a : Nat} (ha : a ≠ A.WT_EVT_CTRL e) : ((s.evtConfigured e v).evtArmed e).rd a = s.rd a := by
    refine hb.rd_eq (List.forall_mem_cons.mpr ⟨fun h => ha h.symm, fun f hf => ?_⟩)
    rw [ctrlFields_addr e f hf]; exact fun h => ha h.symm
  rw [State.evtPeriod, State.evtPeriod, hne (by simp only [A.WT_EVT_PERIOD_NS, A.WT_EVT_CTRL, ne_eq]; omega),
    hne (by simp only [A.WT_EVT_PERIOD_FRAC, A.WT_EVT_CTRL, ne_eq]; omega)]

/-- The fields written differ from those of the slot, in terms of the word written. -/
theorem evtDiffers_iff (w : Word) (h1 : field w 1 2 = field v 1 2) (h2 : field w 8 6 = field v 8 6) :
    s.evtDiffers e w ↔ v.toNat / 2 ^ 8 % 64 ≠ s.get (F.WT_EVT_CTRL_TARGET e) ∨ v.toNat / 2 % 4 ≠ s.get (F.WT_EVT_CTRL_ACTION e) := by
  rw [State.evtDiffers, h1, h2, or_comm]
  exact Iff.rfl

/-- A refused write whose fields differ sets STALE_WRITE. -/
theorem State.flag_evtRefused {w : Word} (h : s.evtDiffers e w) : (s.evtRefused e w).flag F.WT_FLAGS_STALE_WRITE = true := by
  rw [State.evtRefused_differs h]
  exact State.flag_wtFlag _ rfl (by decide) (by decide)

theorem State.evtRefused_regsKept (s : State) (e : Fin 32) (w : Word) :
    RegsKept [A.WT_EVT_CTRL e, A.WT_FLAGS, A.SEQ_EVQ_STATUS 4] s (s.evtRefused e w) :=
  (s.evtRefused_tells e w).2.2.regsKept (by simp)

end Ctrl

section CtrlExec

variable {s : State} {e : Fin 32} {v : Word}
  (h : s.flag (F.WT_EVT_CTRL_ARM e) = false) (h' : s.atCycleStart.flag (F.WT_EVT_CTRL_ARM e) = false)
  (ht : v.toNat / 2 ^ 8 % 64 < 19 ∨ 23 ≤ v.toNat / 2 ^ 8 % 64)

include h h' ht

theorem execEvtArm_ahead (hx : (s.wall16 : Int) ≤ s.evtTarget e) :
    exec (.evtArm e v) s = .next ((s.evtConfigured e (v ||| 1)).evtArmed e) := by
  obtain ⟨hct, -, hcx, hcw⟩ := s.evtConfigured_spec e v
  rw [execEvtArm_disarmed h h', State.armEvt_ahead (by rw [hct]; exact ht)]
  rw [hcx, State.wall16, hcw]; exact hx

theorem execEvtArm_past (ht28 : v.toNat / 2 ^ 8 % 64 < 28) (hx : s.evtTarget e < s.wall16)
    (hfar : (s.wall16 : Int) - s.evtTarget e ≤ 2 ^ 31 * 65536) :
    exec (.evtArm e v) s = .next (((s.evtConfigured e (v ||| 1)).evtArmed e).fireEvt e s.wall16 true) := by
  obtain ⟨hct, -, hcx, hcw⟩ := s.evtConfigured_spec e v
  have hw : (s.evtConfigured e (v ||| 1)).wall16 = s.wall16 := by rw [State.wall16, hcw]; rfl
  rw [execEvtArm_disarmed h h', State.armEvt_past (by rw [hct]; exact ht) (by rw [hct]; exact ht28) (by rw [hcx, hw]; exact hx)
    (by rw [hcx, hw]; exact hfar), hw]

end CtrlExec

theorem State.evtConfigured_evtArmed_regsKept (s : State) (e : Fin 32) (v : Word) :
    RegsKept [A.WT_EVT_CTRL e] s ((s.evtConfigured e v).evtArmed e) := by
  refine ((s.evtConfigured_bitsKept e v).mono (List.subset_cons_self _ _)).trans
    ((State.evtArmed_bitsKept _ e).mono (m := F.WT_EVT_CTRL_ARM e :: ctrlFields e) (by simp)) |>.regsKept ?_
  exact List.forall_mem_cons.mpr ⟨List.mem_singleton.mpr rfl, fun f hf => List.mem_singleton.mpr (ctrlFields_addr e f hf)⟩

/-- A control word of an armed slot that a write disarms: the fields stay, STALE_WRITE where they differ. -/
theorem execEvtDisarm_plain {s : State} {e : Fin 32} {v : Word} (h : s.flag (F.WT_EVT_CTRL_ARM e) = true)
    (ht : s.get (F.WT_EVT_CTRL_TARGET e) < 19 ∨ 23 ≤ s.get (F.WT_EVT_CTRL_TARGET e)) :
    exec (.evtDisarm e v) s = .next ((s.evtRefused e (v &&& ~~~1)).clr (F.WT_EVT_CTRL_ARM e)) := by
  rw [execEvtDisarm_armed h, State.disarmEvt_plain]
  rw [s.get_evtRefused e _ rfl (by simp)]; exact ht

/-! ### What EVENT_FIRE and PULSE_END leave (R57, R59) -/

/-- Nothing changes but registers, the record of the core cycle, the wall-time unit, the sequencers, the pins and the thermal
round. -/
def Fires (s t : State) : Prop :=
  t = { s with regs := t.regs, bus := t.bus, wt := t.wt, seqs := t.seqs, pins := t.pins, round := t.round }

section Fires

variable {s t u : State}

theorem Fires.trans (h : Fires s t) (h' : Fires t u) : Fires s u := by
  unfold Fires at h h'
  rw [h] at h'; exact h'

theorem Fires.wt_only (h : Fires s t) (h1 : t.seqs = s.seqs) (h2 : t.pins = s.pins) (h3 : t.round = s.round) :
    t = { s with regs := t.regs, bus := t.bus, wt := t.wt } := Eq.trans h (by rw [h1, h2, h3])

theorem Fires.pins_only (h : Fires s t) (h1 : t.seqs = s.seqs) (h2 : t.round = s.round) :
    t = { s with regs := t.regs, bus := t.bus, wt := t.wt, pins := t.pins } := Eq.trans h (by rw [h1, h2])

theorem Fires.round_only (h : Fires s t) (h1 : t.seqs = s.seqs) (h2 : t.pins = s.pins) :
    t = { s with regs := t.regs, bus := t.bus, wt := t.wt, round := t.round } := Eq.trans h (by rw [h1, h2])

theorem Fires.seqs_only (h : Fires s t) (h1 : t.pins = s.pins) (h2 : t.round = s.round) :
    t = { s with regs := t.regs, bus := t.bus, wt := t.wt, seqs := t.seqs } := Eq.trans h (by rw [h1, h2])

theorem Fires.of_evts {evts : Vector EvtSlot 32} {regs : Sparse Word}
    (h : t = { s with regs := regs, wt := { s.wt with evts := evts } }) :
    Fires s t ∧ t.seqs = s.seqs ∧ t.pins = s.pins ∧ t.round = s.round ∧ t.wt.edges = s.wt.edges := by
  unfold Fires
  rw [h]
  exact ⟨rfl, rfl, rfl, rfl, rfl⟩

theorem State.evtSettles_fires (u : State) (e : Fin 32) (late : Bool) : let t := u.evtSettles e late
    Fires u t ∧ t.seqs = u.seqs ∧ t.pins = u.pins ∧ t.round = u.round ∧ t.wt.edges = u.wt.edges :=
  Fires.of_evts (u.evtSettles_eq e late)

theorem State.evtPulse_fires (u : State) (e : Fin 32) (action at_ : Nat) (p : Fin 18) : let t := u.evtPulse e action at_ p
    Fires u t ∧ t.seqs = u.seqs ∧ t.pins = u.pins ∧ t.round = u.round ∧ t.wt.edges = u.wt.edges :=
  Fires.of_evts (u.evtPulse_eq e action at_ p)

/-- A pulse set up and the slot settled: nothing of the sequencers, the pins or the round changes. -/
theorem State.pulseSettles_fires (u : State) (e : Fin 32) (action at_ : Nat) (p : Fin 18) (late : Bool) :
    let t := (u.evtPulse e action at_ p).evtSettles e late
    Fires u t ∧ t.seqs = u.seqs ∧ t.pins = u.pins ∧ t.round = u.round ∧ t.wt.edges = u.wt.edges := by
  obtain ⟨h1, h2, h3, h4, h5⟩ := u.evtPulse_fires e action at_ p
  obtain ⟨g1, g2, g3, g4, g5⟩ := (u.evtPulse e action at_ p).evtSettles_fires e late
  exact ⟨h1.trans g1, g2.trans h2, g3.trans h3, g4.trans h4, g5.trans h5⟩

theorem State.driven_fires (s : State) (p : Fin 16) (l : Bool) (x : PinEdge) : Fires s ((s.drivePin p l).setEdge p x) := rfl

theorem State.triggered_fires (s : State) (c : Fin 2) (l : Bool) (at_ : Nat) : Fires s (s.triggered c l at_) := rfl

theorem State.requestRound_fires (s : State) : Fires s s.requestRound ∧ s.requestRound.seqs = s.seqs ∧
    s.requestRound.pins = s.pins := by
  unfold Fires State.requestRound
  split <;> exact ⟨rfl, rfl, rfl⟩

theorem Tells.fires {l : List Fld} (h : Tells l s t) : Fires s t ∧ t.pins = s.pins ∧ t.round = s.round := by
  unfold Fires
  rw [h.1]
  exact ⟨rfl, rfl, rfl⟩

end Fires

/-- The level of every ball stays where a slot collides. -/
theorem State.gpioOut_collide (s : State) (k : Fin 32) : (s.collide k).rd A.GPIO_OUT = s.rd A.GPIO_OUT := by
  refine (s.collide_tells k).2.2.rd_eq ?_
  simp only [A.WT_EVT_CTRL, A.WT_FLAGS, A.SEQ_EVQ_STATUS, A.GPIO_OUT, List.forall_mem_cons, List.not_mem_nil, false_imp_iff,
    implies_true, and_true]
  omega

section Fired

variable {s : State} {e : Fin 32} {at_ : Nat}

/-- Firing at a ball with no earlier edge drives it, and nothing else (R57). -/
theorem State.fireEvt_ball_first {p : Fin 16} (ht : s.get (F.WT_EVT_CTRL_TARGET e) = p)
    (hdir : (s.rd A.GPIO_DIR).getLsbD p = true) (he : s.wt.edges[p] = none) :
    let t := s.fireEvt e at_ false
    let action := s.get (F.WT_EVT_CTRL_ACTION e)
    t = { s with regs := t.regs, bus := t.bus, wt := t.wt } ∧
      (∀ i, (t.rd A.GPIO_OUT).getLsbD i =
        if i = p.val then actionLevel action ((s.rd A.GPIO_OUT).getLsbD p) else (s.rd A.GPIO_OUT).getLsbD i) ∧
      (action = 2 → (t.evt e).pulseEnd = some (at_ + s.get ⟨A.WT_EVT_WIDTH e, 0, 24⟩ * 65536) ∧
        (t.evt e).pulseTarget.val = p.val) := by
  generalize hl : actionLevel (s.get (F.WT_EVT_CTRL_ACTION e)) ((s.rd A.GPIO_OUT).getLsbD p) = l
  have hfire : s.fireEvt e at_ false = (((s.drivePin p l).setEdge p ⟨at_, e, l⟩).evtPulse e (s.get (F.WT_EVT_CTRL_ACTION e)) at_
      (ballTarget p)).evtSettles e false := by
    rw [State.fireEvt_on_time, ht, State.evtActs_ball hdir, State.pinEdge_first hdir he, hl]
  rw [hfire]
  obtain ⟨h1, h2, h3, h4, -⟩ := State.pulseSettles_fires ((s.drivePin p l).setEdge p ⟨at_, e, l⟩) e
    (s.get (F.WT_EVT_CTRL_ACTION e)) at_ (ballTarget p) false
  have hframe := ((s.driven_fires p l ⟨at_, e, l⟩).trans h1).wt_only h2 h3 h4
  generalize hu : (s.drivePin p l).setEdge p ⟨at_, e, l⟩ = u
  have hurd (a : Nat) : u.rd a = (s.drivePin p l).rd a := by rw [← hu]; rfl
  have hwidth : u.get ⟨A.WT_EVT_WIDTH e, 0, 24⟩ = s.get ⟨A.WT_EVT_WIDTH e, 0, 24⟩ := by
    rw [State.get, hurd, (s.drivePin_tells p l).2.2.rd_eq (List.forall_mem_singleton.mpr ?_)]
    · rfl
    · simp only [A.GPIO_OUT, A.WT_EVT_WIDTH, ne_eq]; omega
  rw [hu] at hframe
  refine ⟨hframe, fun i => ?_, fun h2 => ?_⟩
  · rw [State.rd_evtSettles _ _ _ (Or.inr (by decide)), State.rd_evtPulse, hurd, State.gpioOut_drivePin, hl]
  · obtain ⟨h3, h4⟩ := u.evt_evtPulse e at_ (ballTarget p) h2
    obtain ⟨h5, h6⟩ := (u.evtPulse e (s.get (F.WT_EVT_CTRL_ACTION e)) at_ (ballTarget p)).evtSettles_pulse e false
    exact ⟨by rw [h5, h3, hwidth], by rw [h6, h4]; rfl⟩

/-- Firing at a ball next to another slot's edge: what the ball and the colliding slot `k` show (R59). -/
theorem State.fireEvt_ball_collides {p : Fin 16} {l : Bool} {x : PinEdge} {k : Fin 32} (ht : s.get (F.WT_EVT_CTRL_TARGET e) = p)
    (hdir : (s.rd A.GPIO_DIR).getLsbD p = true)
    (hedge : s.pinEdge e p at_ (actionLevel (s.get (F.WT_EVT_CTRL_ACTION e)) ((s.rd A.GPIO_OUT).getLsbD p)) =
      ((s.drivePin p l).setEdge p x).collide k) :
    let t := s.fireEvt e at_ false
    t.flag F.WT_FLAGS_EVT_COLLIDE = true ∧ t.wt.edges[p] = some x ∧ (t.rd A.GPIO_OUT).getLsbD p = l ∧
      t.flag (F.WT_EVT_CTRL_COLLIDE k) = true := by
  have hfire : s.fireEvt e at_ false =
      ((((s.drivePin p l).setEdge p x).collide k).evtPulse e (s.get (F.WT_EVT_CTRL_ACTION e)) at_ (ballTarget p)).evtSettles
        e false := by rw [State.fireEvt_on_time, ht, State.evtActs_ball hdir, hedge]
  rw [hfire]
  obtain ⟨hc1, hc2⟩ := ((s.drivePin p l).setEdge p x).flag_collide k
  have hcol := ((s.drivePin p l).setEdge p x).collide_tells k
  obtain ⟨-, -, -, -, hedges⟩ := State.pulseSettles_fires (((s.drivePin p l).setEdge p x).collide k) e
    (s.get (F.WT_EVT_CTRL_ACTION e)) at_ (ballTarget p) false
  have hflag (u : State) (f : Fld) : (u.evtPulse e (s.get (F.WT_EVT_CTRL_ACTION e)) at_ (ballTarget p)).flag f = u.flag f := by
    rw [State.flag, State.get, State.rd_evtPulse]; rfl
  refine ⟨?_, ?_, ?_, ?_⟩
  · rw [State.flag, State.get, State.rd_evtSettles _ _ _ (Or.inl (by decide)), State.rd_evtPulse]; exact hc2
  · rw [hedges, hcol.wt_eq, State.edges_setEdge_same]
  · rw [State.rd_evtSettles _ _ _ (Or.inr (by decide)), State.rd_evtPulse, State.gpioOut_collide, State.rd_setEdge,
      State.gpioOut_drivePin, if_pos rfl]
  · rw [State.flag_evtSettles _ e false (by simp) (by simp) (by simp only [A.WT_EVT_CTRL]; omega), hflag]
    exact hc1

/-- Firing at a camera trigger that is not powered drives no pin (R381). -/
theorem State.fireEvt_trigger_off {c : Fin 2} (ht : s.get (F.WT_EVT_CTRL_TARGET e) = 16 + c) (hcam : s.camOn = false) :
    (s.fireEvt e at_ false).pins = s.pins := by
  rw [State.fireEvt_on_time, ht, State.evtActs_trigger, State.evtTriggers_off hcam]
  exact (s.evtSettles_fires e false).2.2.1

/-- Firing at a powered camera trigger drives it and keeps the time (R57, R370). -/
theorem State.fireEvt_trigger_on {c : Fin 2} (ht : s.get (F.WT_EVT_CTRL_TARGET e) = 16 + c) (hcam : s.camOn = true) :
    let t := s.fireEvt e at_ false
    let action := s.get (F.WT_EVT_CTRL_ACTION e)
    t = { s with regs := t.regs, bus := t.bus, wt := t.wt, pins := t.pins } ∧
      t.pins.camTrig[c] = actionLevel action s.pins.camTrig[c] ∧ t.pins.trigAt[c] = some at_ ∧
      (action = 2 → (t.evt e).pulseEnd = some (at_ + s.get ⟨A.WT_EVT_WIDTH e, 0, 24⟩ * 65536) ∧
        (t.evt e).pulseTarget.val = 16 + c.val) := by
  generalize hl : actionLevel (s.get (F.WT_EVT_CTRL_ACTION e)) s.pins.camTrig[c] = l
  have hfire : s.fireEvt e at_ false = ((s.triggered c l at_).evtPulse e (s.get (F.WT_EVT_CTRL_ACTION e)) at_
      (triggerTarget c)).evtSettles e false := by
    rw [State.fireEvt_on_time, ht, State.evtActs_trigger, State.evtTriggers_on hcam, hl]
  rw [hfire]
  obtain ⟨h1, h2, h3, h4, -⟩ := (s.triggered c l at_).pulseSettles_fires e (s.get (F.WT_EVT_CTRL_ACTION e)) at_
    (triggerTarget c) false
  refine ⟨((s.triggered_fires c l at_).trans h1).pins_only h2 h4, ?_, ?_, fun h2 => ?_⟩
  · rw [h3, hl]; simp [State.triggered]
  · rw [h3]; simp [State.triggered]
  · obtain ⟨h3, h4⟩ := (s.triggered c l at_).evt_evtPulse e at_ (triggerTarget c) h2
    obtain ⟨h5, h6⟩ := ((s.triggered c l at_).evtPulse e (s.get (F.WT_EVT_CTRL_ACTION e)) at_ (triggerTarget c)).evtSettles_pulse
      e false
    exact ⟨by rw [h5, h3]; rfl, by rw [h6, h4]; rfl⟩

/-- Firing at target 18 starts a thermal round, or has one follow (R450). -/
theorem State.fireEvt_round (ht : s.get (F.WT_EVT_CTRL_TARGET e) = 18) :
    let t := s.fireEvt e at_ false
    t = { s with regs := t.regs, bus := t.bus, wt := t.wt, round := t.round } ∧ t.flag F.THM_STATUS_ROUND_BUSY = true := by
  rw [State.fireEvt_on_time, ht, State.evtActs_round]
  obtain ⟨h1, h2, h3⟩ := s.requestRound_fires
  obtain ⟨g1, g2, g3, -, -⟩ := s.requestRound.evtSettles_fires e false
  refine ⟨(h1.trans g1).round_only (g2.trans h2) (g3.trans h3), ?_⟩
  rw [State.flag, State.get, State.rd_evtSettles _ _ _ (Or.inr (by decide))]
  exact s.requestRound_busy

/-- Firing at target 23 + q tells sequencer q (R83). -/
theorem State.fireEvt_event {q : SeqId} (ht : s.get (F.WT_EVT_CTRL_TARGET e) = 23 + q) :
    let t := s.fireEvt e at_ false
    t = { s with regs := t.regs, bus := t.bus, wt := t.wt, seqs := t.seqs } ∧ Told q 0x02 e false 0 s t := by
  rw [State.fireEvt_on_time, ht, State.evtActs_event]
  obtain ⟨f1, f2, f3⟩ := (s.event_tells q 0x02 e false 0).fires
  obtain ⟨h2, h3⟩ := s.event_told q 0x02 e false 0
  generalize s.event q 0x02 e false 0 = u at *
  obtain ⟨g1, g2, g3, g4, -⟩ := u.evtSettles_fires e false
  have hseq (r : SeqId) : (u.evtSettles e false).seq r = u.seq r := congrArg (fun l : Vector Seq 5 => l[r]) g2
  have hrd : (u.evtSettles e false).rd (A.SEQ_EVQ_STATUS q) = u.rd (A.SEQ_EVQ_STATUS q) :=
    u.rd_evtSettles e false (Or.inr (by simp only [A.SEQ_EVQ_STATUS]; omega))
  refine ⟨(f1.trans g1).seqs_only (g3.trans f2) (g4.trans f3), fun r hr => by rw [hseq, h2 r hr], ?_⟩
  rw [State.get, hseq, hrd]
  exact h3

/-- A pulse ends with its ball driven low (R57). -/
theorem State.pulseEnd_ball {p : Fin 16} {y : Nat} (hdir : (s.rd A.GPIO_DIR).getLsbD p = true) (he : s.wt.edges[p] = none) :
    let t := (s.pulseOver e).pinEdge e p y false
    t = { s with regs := t.regs, bus := t.bus, wt := t.wt } ∧ RegsKept [A.GPIO_OUT] s t ∧
      (∀ i, (t.rd A.GPIO_OUT).getLsbD i = if i = p.val then false else (s.rd A.GPIO_OUT).getLsbD i) ∧
      (t.evt e).pulseEnd = none := by
  have hedge : (s.pulseOver e).pinEdge e p y false = ((s.pulseOver e).drivePin p false).setEdge p ⟨y, e, false⟩ :=
    State.pinEdge_first hdir he
  rw [hedge]
  generalize hu : s.pulseOver e = u
  have hurd (a : Nat) : u.rd a = s.rd a := by rw [← hu]; rfl
  refine ⟨by rw [← hu]; rfl, fun a ha => ?_, fun i => ?_, ?_⟩
  · rw [State.rd_setEdge, (u.drivePin_tells p false).2.2.rd_eq (List.forall_mem_singleton.mpr fun h => ha (List.mem_singleton.mpr h.symm)), hurd]
  · rw [State.rd_setEdge, State.gpioOut_drivePin, hurd]
  · change (u.evt e).pulseEnd = none
    rw [← hu, State.pulseOver, State.evt_setEvt_same]

end Fired

/-- Settles O22: an unlocked control word arms its slot, a locked one keeps its fields; a slot that is due acts on its target and
settles, and a pulse ends at the target that it drove. -/
theorem timedEvents : Obligations.TimedEvents := by
  constructor
  · intro s e v target action differs
    obtain ⟨hct, hca, hcx, hcw⟩ := s.evtConfigured_spec e v
    refine ⟨fun h h' ht hx => ?_, fun h h' ht ht28 hx hfar => ?_, fun h => ?_, fun h ht => ?_⟩
    · refine ⟨_, execEvtArm_ahead h h' ht hx, ?_⟩
      refine ⟨?_, s.evtConfigured_evtArmed_regsKept e _, State.flag_evtArmed _ e, ?_, ?_, ?_, ?_, fun i hi => ?_, ?_⟩
      · have := s.evtConfigured_eq e (v ||| 1)
        generalize s.evtConfigured e (v ||| 1) = u at this ⊢
        rw [this]; rfl
      · rw [State.evtArmed_get _ e (by simp) (by simp), hct]
      · rw [State.evtArmed_get _ e (by simp) (by simp), hca]
      · rw [State.evtArmed, State.evt_setEvt_same, hcw]
      · rw [State.evtArmed, State.evt_setEvt_same]
      · rw [State.evtArmed, State.evt_setEvt_other _ _ hi, State.evt, State.set_wt, hcw]; rfl
      · change (s.evtConfigured e (v ||| 1)).wt.wall = _
        rw [hcw]
    · refine ⟨_, execEvtArm_past h h' ht ht28 hx hfar, ?_⟩
      obtain ⟨h1, h2⟩ := State.fireEvt_late ((s.evtConfigured e (v ||| 1)).evtArmed e) e s.wall16
      refine ⟨h1, h2, fun hn hf => ?_⟩
      refine ((State.fireEvt_after (State.flag_evtArmed _ e)).2.1 ?_).1
      rw [State.evtPeriod_evtArmed_configured, State.evtPeriod, hn, hf]
    · have hdiff : s.evtDiffers e (v ||| 1) ↔ differs := evtDiffers_iff _ (field_or_one v (by decide)) (field_or_one v (by decide))
      refine ⟨_, execEvtArm_armed h, (s.evtRefused_tells e _).1, s.evtRefused_regsKept e _, ?_, ?_, ?_,
        fun hd => State.flag_evtRefused (hdiff.mpr hd), fun hd => ?_⟩
      · rw [State.flag, s.get_evtRefused e _ rfl (by simp)]; exact h
      · exact s.get_evtRefused e _ rfl (by simp)
      · exact s.get_evtRefused e _ rfl (by simp)
      · rw [State.evtRefused_same (mt hdiff.mp hd)]
        exact (s.evtW1c_bitsKept e _).regsKept (by simp)
    · have hdiff : s.evtDiffers e (v &&& ~~~1) ↔ differs :=
        evtDiffers_iff _ (field_and_not_one v (by decide) (by decide)) (field_and_not_one v (by decide) (by decide))
      have hkeep {f : Fld} (ha : f.addr = A.WT_EVT_CTRL e) (hf : f.lo + f.w ≤ 16) := s.get_evtRefused e (v &&& ~~~1) ha hf
      have hclr (u : State) := u.clr_bitsKept (F.WT_EVT_CTRL_ARM e)
      refine ⟨_, execEvtDisarm_plain h ht, ?_⟩
      refine ⟨?_, ?_, State.flag_clr _ (by simp), ?_, ?_, fun hd => ?_⟩
      · have := (s.evtRefused_tells e (v &&& ~~~1)).1
        generalize s.evtRefused e (v &&& ~~~1) = u at this ⊢
        rw [this]; rfl
      · intro a ha
        rw [← s.evtRefused_regsKept e _ a ha]
        exact State.rd_put_other _ _ (fun h => ha (by simp [h]))
      · rw [(hclr _).get_eq (by simp) (by simp), hkeep rfl (by simp)]
      · rw [(hclr _).get_eq (by simp) (by simp), hkeep rfl (by simp)]
      · rw [State.flag, State.get, State.clr, State.rd_put_other _ _ (by simp only [A.WT_FLAGS, A.WT_EVT_CTRL]; omega)]
        exact State.flag_evtRefused (hdiff.mpr hd)
  · intro s e target action x period ends level after
    have hlevel (was : Bool) : actionLevel action was = level was := rfl
    have hafter (ha : s.flag (F.WT_EVT_CTRL_ARM e) = true) (at_ : Nat) : after (s.fireEvt e at_ false) := by
      obtain ⟨h1, h2, h3, h4⟩ := State.fireEvt_after (at_ := at_) (late := false) ha
      exact ⟨h1, h2, fun hp hb => ⟨h3 hp, h4 hp hb⟩⟩
    refine ⟨fun ha hd hx hp => ?_, fun ha ht hd hx hp _ => ?_, ?_⟩
    · have hexec (ht : target < 28) : exec (.eventFire e) s = .next (s.fireEvt e x.toNat false) := by
        rw [execEventFire_due ha ht hd hx, hp]; rfl
      refine ⟨fun h hdir he => ?_, fun h hdir o he hne h32 h1 h2 => ?_, fun c hc hcam => ?_, fun c hc hcam => ?_,
        fun h18 => ?_, fun q hq => ?_⟩
      · obtain ⟨hframe, hout, hpulse⟩ := State.fireEvt_ball_first (at_ := x.toNat) (p := ⟨target, h⟩) rfl hdir he
        exact ⟨_, hexec (by omega), hafter ha _, hframe, by rw [hout, if_pos rfl, hlevel], fun i hi => by rw [hout, if_neg hi], hpulse⟩
      · intro mine
        have hx0 : (x.toNat : Int) = x := Int.toNat_of_nonneg (Int.natCast_nonneg _)
        have h1' : (x.toNat : Int) - o.at_ < collideUnits := by rw [hx0]; exact h1
        have h2' : (o.at_ : Int) - x.toNat < collideUnits := by rw [hx0]; exact h2
        refine ⟨_, hexec (by omega), hafter ha _, ?_⟩
        rcases Nat.lt_or_gt_of_ne hne with hlt | hlt
        · obtain ⟨hflag, hc⟩ := State.fireEvt_ball_collides (p := ⟨target, h⟩) rfl hdir (State.pinEdge_after hdir he hlt h1' h2')
          exact ⟨hflag, fun hgt => absurd hgt (by omega), fun _ => hc⟩
        · obtain ⟨hflag, hc⟩ := State.fireEvt_ball_collides (p := ⟨target, h⟩) (k := ⟨o.slot, h32⟩) rfl hdir
            (State.pinEdge_before hdir he hlt h1' h2')
          exact ⟨hflag, fun _ => hc, fun hgt => absurd hgt (by omega)⟩
      · exact ⟨_, hexec (by omega), hafter ha _, State.fireEvt_trigger_off hc hcam⟩
      · obtain ⟨hframe, hlev, hat, hpulse⟩ := State.fireEvt_trigger_on (at_ := x.toNat) hc hcam
        exact ⟨_, hexec (by omega), hafter ha _, hframe, by rw [hlev, hlevel], hat, fun h2 => by rw [hc]; exact hpulse h2⟩
      · exact ⟨_, hexec (by omega), hafter ha _, State.fireEvt_round h18⟩
      · exact ⟨_, hexec (by omega), hafter ha _, State.fireEvt_event hq⟩
    · refine ⟨_, execEventFire_due ha ht hd hx, ?_⟩
      rw [hp]
      exact s.fireEvt_late e _
    · intro driven y hy hdue
      obtain ⟨hball, htrig⟩ := execPulseEnd_due hy hdue
      refine ⟨fun h hdir he => ?_, fun c hc => ?_⟩
      · obtain ⟨hframe, hregs, hout, hend⟩ := State.pulseEnd_ball (e := e) (p := ⟨driven, h⟩) (y := y) hdir he
        exact ⟨_, hball h, hframe, hregs, by rw [hout, if_pos rfl], fun i hi => by rw [hout, if_neg hi], hend⟩
      · have hc' : (s.evt e).pulseTarget.val - 16 = c.val := by omega
        refine ⟨_, htrig (by omega), ?_, rfl, ?_⟩
        · simp [hc']
        · exact congrArg EvtSlot.pulseEnd (State.evt_setEvt_same s e _)

end Sys2Proof.Machine

namespace Sys2Proof.Machine

/-! ### An access in no block (R510) -/

section Unmapped

variable {s : State} {m : Master} {a : Nat} {w : Bool}

theorem reachSq_unmapped {n : QuadId} (hb : blockOf a = none) : reachSq n a w = .unmapped a := by simp [reachSq, hb]

theorem reachWide_unmapped (hb : blockOf a = none) : reachWide a = .unmapped a := by simp [reachWide, hb]

/-- An address in no block, neither through Whistle nor through the own-quadrant window, is unmapped to every master. -/
theorem reachWith_unmapped (mask : Nat) (m : Master) (w : Bool) (ha : a < 2 ^ 26) (hb : blockOf (a / 4 * 4) = none)
    (hr : a < 0x2000000 ∨ 0x2400000 ≤ a ∧ a < 0x3000000 ∨ 0x3400000 ≤ a) : reachWith mask m a w = .unmapped (a / 4 * 4) := by
  have h0 : a % 0x4000000 = a := by omega
  have h1 : ¬ (0x2000000 ≤ a / 4 * 4 ∧ a / 4 * 4 < 0x2400000) := by omega
  have h2 : ¬ (0x3000000 ≤ a / 4 * 4 ∧ a / 4 * 4 < 0x3400000) := by omega
  unfold reachWith
  rw [h0]
  simp only [if_neg h1, if_neg h2]
  cases m with
  | sq n => exact reachSq_unmapped hb
  | sqs => exact reachWide_unmapped hb
  | rot => simp [hb]
  | host => exact reachWide_unmapped hb
  | board => exact reachWide_unmapped hb

theorem State.reach_unmapped (hh : s.held = false) (ha : a < 2 ^ 26) (hb : blockOf (a / 4 * 4) = none)
    (hr : a < 0x2000000 ∨ 0x2400000 ≤ a ∧ a < 0x3000000 ∨ 0x3400000 ≤ a) (hs : s.boardScope m w = true) :
    s.reach m a w = .unmapped (a / 4 * 4) := by
  simp [State.reach, reachWith_unmapped _ m w ha hb hr, hs, hh]

theorem State.boardScope_open (hm : m = .board → s.flag F.SEC_STATUS_BOARD_READ = true ∧ s.flag F.SEC_STATUS_BOARD_WRITE = true)
    (w : Bool) : s.boardScope m w = true := by
  cases m <;> simp [State.boardScope]
  cases w <;> simp [hm rfl]

theorem State.writeAt_unmapped {x : Nat} (v : Word) (h : s.reach m a true = .unmapped x) : s.writeAt m a v = s.unmapped m x true := by
  simp [State.writeAt, State.writeWords, h, State.noteWrites]

theorem State.readAt_unmapped {x : Nat} (h : s.reach m a false = .unmapped x) : s.readAt m a = (0, s.unmapped m x false) := by
  simp [State.readAt, h]

theorem State.unmapped_onlyRegs (s : State) (m : Master) (a : Nat) (w : Bool) :
    OnlyRegs [A.SYS_STATUS, A.SYS_UNMAPPED_ADDR] s (s.unmapped m a w) := by
  obtain ⟨⟨h1, h2⟩, hb⟩ := s.set_onlyBits F.SYS_STATUS_UNMAPPED
  refine ⟨⟨?_, h2⟩, fun x hx => ?_⟩
  · exact congrArg (fun u : State => u.wr A.SYS_UNMAPPED_ADDR _) h1
  · simp only [List.mem_cons, List.not_mem_nil, or_false, not_or] at hx
    rw [State.unmapped, State.rd_wr_other _ _ hx.2]
    exact hb.rd_eq (by simpa using fun h => hx.1 h.symm)

/-- What SYS_UNMAPPED_ADDR holds of the access. -/
theorem State.unmapped_record (s : State) (m : Master) (w : Bool) (ha : a < 2 ^ 26) : let t := s.unmapped m a w
    t.flag F.SYS_STATUS_UNMAPPED = true ∧ t.get F.SYS_UNMAPPED_ADDR_ADDR = a ∧ t.get F.SYS_UNMAPPED_ADDR_MASTER = masterCode m ∧
      t.flag F.SYS_UNMAPPED_ADDR_WRITE = w ∧ t.flag F.SYS_UNMAPPED_ADDR_VALID = true := by
  have hm : masterCode m < 8 := by
    cases m with
    | sq n => exact Nat.lt_trans n.isLt (by decide)
    | sqs | rot | host | board => decide
  have hw : b2n w < 2 := by cases w <;> decide
  have hword : ((s.unmapped m a w).rd A.SYS_UNMAPPED_ADDR).toNat = a + masterCode m * 2 ^ 26 + b2n w * 2 ^ 29 + 2 ^ 31 := by
    rw [State.unmapped, State.rd_wr_same, BitVec.toNat_ofNat, Nat.mod_eq_of_lt ha]
    omega
  refine ⟨?_, ?_, ?_, ?_, ?_⟩
  · rw [State.flag, State.get, State.unmapped, State.rd_wr_other _ _ (by decide)]
    exact s.flag_set (f := F.SYS_STATUS_UNMAPPED) (by decide) (by decide)
  · simp only [State.get, field, hword]; omega
  · simp only [State.get, field, hword]; omega
  · simp only [State.flag, State.get, field, hword]
    cases w <;> simp [b2n] <;> omega
  · simp only [State.flag, State.get, field, hword, beq_iff_eq]; omega

end Unmapped

/-- UNMAPPED_ACCESS records the access, and a read gives 0. -/
theorem execUnmappedAccess_records {s : State} {m : Master} {a : BitVec 26} (w : Bool) (v : Word) (hh : s.held = false)
    (hb : blockOf (a.toNat / 4 * 4) = none)
    (hr : a.toNat < 0x2000000 ∨ 0x2400000 ≤ a.toNat ∧ a.toNat < 0x3000000 ∨ 0x3400000 ≤ a.toNat)
    (hm : m = .board → s.flag F.SEC_STATUS_BOARD_READ = true ∧ s.flag F.SEC_STATUS_BOARD_WRITE = true) :
    (s.readAt m a.toNat).1 = 0 ∧ exec (.unmappedAccess m a w v) s = .next (s.unmapped m (a.toNat / 4 * 4) w) := by
  have hreach (w : Bool) : s.reach m a.toNat w = .unmapped (a.toNat / 4 * 4) :=
    State.reach_unmapped hh a.isLt hb hr (State.boardScope_open hm w)
  refine ⟨by rw [State.readAt_unmapped (hreach false)], ?_⟩
  change execUnmappedAccess m a w v s = _
  rw [execUnmappedAccess, hreach]
  cases w with
  | false => simp [State.readAt_unmapped (hreach false)]
  | true => simp [State.writeAt_unmapped v (hreach true)]

/-! ### Pop windows (R126) -/

/-- The capture FIFO holds nothing but what this core cycle has pushed. -/
def State.capEmpty (s : State) : Bool := match s.wt.capFifo with | e :: _ => e.born == some s.wt.cycle | [] => true

/-- The completion FIFO holds nothing but what this core cycle has pushed. -/
def State.cplEmpty (s : State) : Bool := match s.dfl.cpl with | e :: _ => e.born == some s.wt.cycle | [] => true

section Pop

variable {s : State}

theorem State.capReady_empty (h : s.capEmpty = true) : s.capReady = none := by
  unfold State.capEmpty at h
  unfold State.capReady
  split <;> simp_all

theorem State.capReady_head (h : s.capEmpty = false) : s.capReady = some (s.wt.capFifo.headD s.wt.capLast) := by
  unfold State.capEmpty at h
  unfold State.capReady
  split <;> simp_all

theorem State.cplReady_empty (h : s.cplEmpty = true) : s.cplReady = none := by
  unfold State.cplEmpty at h
  unfold State.cplReady
  split <;> simp_all

theorem State.cplReady_head (h : s.cplEmpty = false) : s.cplReady = some (s.dfl.cpl.headD ⟨s.dfl.last, none⟩).words := by
  unfold State.cplEmpty at h
  unfold State.cplReady
  split <;> simp_all

theorem State.popCapture_empty (h : s.capEmpty = true) :
    s.popCapture = (s.wt.capLast.word 3, s.set F.WT_CAP_STATUS_UNDERRUN) := by rw [State.popCapture, State.capReady_empty h]

theorem State.popCapture_head (h : s.capEmpty = false) : s.popCapture = ((s.wt.capFifo.headD s.wt.capLast).word 3,
    { s with wt := { s.wt with capFifo := s.wt.capFifo.tail, capLast := s.wt.capFifo.headD s.wt.capLast } }) := by
  rw [State.popCapture, State.capReady_head h]

theorem State.cplPop_empty (h : s.cplEmpty = true) :
    s.cplPop = (s.dfl.last.2.2.2, s.set F.DFL_CPL_STATUS_UNDERRUN) := by rw [State.cplPop, State.cplReady_empty h]

theorem State.cplPop_head (h : s.cplEmpty = false) : s.cplPop = ((s.dfl.cpl.headD ⟨s.dfl.last, none⟩).words.2.2.2,
    { s with dfl := { s.dfl with cpl := s.dfl.cpl.tail, last := (s.dfl.cpl.headD ⟨s.dfl.last, none⟩).words } }) := by
  rw [State.cplPop, State.cplReady_head h]

/-- UNDERRUN set after the record of the cycle's pops has grown, or not. -/
theorem OnlyCycle.underrun {u : State} {f : Fld} (h : OnlyCycle s u) (hr : u.regs = s.regs) (hf : f.lo + f.w ≤ 32) (hw : 0 < f.w) :
    OnlyRegs [f.addr] s (u.set f) ∧ (u.set f).flag f = true := by
  have hset := OnlyBits.trans (l := [f]) ⟨h, .of_regs hr⟩ (u.set_onlyBits f)
  exact ⟨⟨hset.1, hset.2.regsKept (by simp)⟩, u.flag_set hf hw⟩

theorem State.notePop_onlyCycle (s : State) (b : BusAccess) : OnlyCycle s (s.notePop b) := ⟨rfl, s.busNow_before⟩

/-- FIFO_POP of a window that no later master has popped reads it, and otherwise waits. -/
theorem execFifoPop_window {m : Master} {a : BitVec 26} {x : Nat} (hx : popWindow x = true) (h : s.reach m a.toNat false = .regs [x]) :
    exec (.fifoPop m a) s = .next (if s.popWaits m a.toNat = true then s else (s.readAt m a.toNat).2) := by
  change execFifoPop m a s = _
  simp only [execFifoPop, h, hx, Bool.true_and]
  cases s.popWaits m a.toNat <;> rfl

theorem State.readAt_window {m : Master} {a x : Nat} (hx : popWindow x = true) (h : s.reach m a false = .regs [x]) :
    s.readAt m a = (s.notePop { addr := x, rank := masterRank m, whistle := false, val := 0 }).readReg m x := by
  simp [State.readAt, h, hx]

theorem State.readReg_capture (s : State) (m : Master) : s.readReg m A.WT_CAP_W3 = s.popCapture := rfl

theorem State.readReg_completion (s : State) (m : Master) : s.readReg m (A.DFL_CPL_W 3) = s.cplPop := rfl

end Pop

/-- What a pop of the capture FIFO leaves. -/
def CapPopped (s t : State) : Prop :=
  if s.capEmpty = true then OnlyRegs [A.WT_CAP_STATUS] s t ∧ t.flag F.WT_CAP_STATUS_UNDERRUN = true
  else t = { s with bus := t.bus, wt := { s.wt with capFifo := s.wt.capFifo.tail, capLast := s.wt.capFifo.headD s.wt.capLast } }

/-- What a pop of the completion FIFO leaves. -/
def CplPopped (s t : State) : Prop :=
  if s.cplEmpty = true then OnlyRegs [A.DFL_CPL_STATUS] s t ∧ t.flag F.DFL_CPL_STATUS_UNDERRUN = true
  else t = { s with bus := t.bus, dfl := { s.dfl with cpl := s.dfl.cpl.tail,
                                                      last := (s.dfl.cpl.headD ⟨s.dfl.last, none⟩).words } }

section Popped

variable {s : State} (x : BusUnit)

/-- A pop of the capture FIFO, whatever the record of the core cycle has noted of it. -/
theorem State.popCapture_spec (hx : x.before = s.bus.before) : let u := { s with bus := x }
    CapPopped s u.popCapture.2 ∧ (s.capEmpty = false → u.popCapture.2.bus = x) ∧
      u.popCapture.1 = (if s.capEmpty = true then s.wt.capLast else s.wt.capFifo.headD s.wt.capLast).word 3 := by
  intro u
  unfold CapPopped
  cases h : s.capEmpty with
  | true =>
    rw [State.popCapture_empty (show u.capEmpty = true from h), if_pos rfl, if_pos rfl]
    exact ⟨OnlyCycle.underrun (u := u) ⟨rfl, hx⟩ rfl (by decide) (by decide), by simp, rfl⟩
  | false =>
    rw [State.popCapture_head (show u.capEmpty = false from h)]
    exact ⟨rfl, fun _ => rfl, rfl⟩

/-- A pop of the completion FIFO, whatever the record of the core cycle has noted of it. -/
theorem State.cplPop_spec (hx : x.before = s.bus.before) : let u := { s with bus := x }
    CplPopped s u.cplPop.2 ∧ (s.cplEmpty = false → u.cplPop.2.bus = x) ∧
      u.cplPop.1 = (if s.cplEmpty = true then s.dfl.last else (s.dfl.cpl.headD ⟨s.dfl.last, none⟩).words).2.2.2 := by
  intro u
  unfold CplPopped
  cases h : s.cplEmpty with
  | true =>
    rw [State.cplPop_empty (show u.cplEmpty = true from h), if_pos rfl, if_pos rfl]
    exact ⟨OnlyCycle.underrun (u := u) ⟨rfl, hx⟩ rfl (by decide) (by decide), by simp, rfl⟩
  | false =>
    rw [State.cplPop_head (show u.cplEmpty = false from h)]
    exact ⟨rfl, fun _ => rfl, rfl⟩

end Popped

/-- The fourth word of a captured entry, as WT_CAP_W3 lays it out. -/
theorem CapEntry.word_three (e : CapEntry) : e.word 3 =
    BitVec.ofNat 32 (e.stamp % 65536 + e.src * 2 ^ 16 + if e.rising = true then 2 ^ 21 else 0) := by
  cases h : e.rising <;> simp [CapEntry.word, h, b2n]

/-- Settles O13: an unmapped access is recorded and nothing else; a pop removes the head, or sets UNDERRUN. -/
theorem unmappedAndPops : Obligations.UnmappedAndPops := by
  constructor
  · intro s m a w v hh hb hr hm
    obtain ⟨hread, hexec⟩ := execUnmappedAccess_records w v hh hb hr hm
    obtain ⟨h1, h2, h3, h4, h5⟩ := s.unmapped_record m w (a := a.toNat / 4 * 4) (by omega)
    refine ⟨hread, _, hexec, s.unmapped_onlyRegs m _ w, h1, h2, h3.trans ?_, h4, h5⟩
    cases m <;> rfl
  · intro s m a capEmpty cplEmpty under cap cpl word3
    have hnote (x : Nat) :
        (s.notePop { addr := x, rank := masterRank m, whistle := false, val := 0 }).bus.before = s.bus.before := s.busNow_before
    refine ⟨?_, ?_, fun h => ?_, fun h => ?_⟩
    · obtain ⟨h1, h2, -⟩ := s.popCapture_spec s.bus rfl
      exact ⟨_, rfl, h1, h2⟩
    · obtain ⟨h1, h2, -⟩ := s.cplPop_spec s.bus rfl
      exact ⟨_, rfl, h1, h2⟩
    · obtain ⟨h1, -, h3⟩ := s.popCapture_spec _ (hnote A.WT_CAP_W3)
      refine ⟨_, execFifoPop_window (by decide) h, ?_, ?_⟩
      · split
        · rfl
        · rw [State.readAt_window (by decide) h, State.readReg_capture]; exact h1
      · rw [State.readAt_window (by decide) h, State.readReg_capture]
        exact h3.trans (CapEntry.word_three _)
    · obtain ⟨h1, -, h3⟩ := s.cplPop_spec _ (hnote (A.DFL_CPL_W 3))
      refine ⟨_, execFifoPop_window (by decide) h, ?_, ?_⟩
      · split
        · rfl
        · rw [State.readAt_window (by decide) h, State.readReg_completion]; exact h1
      · rw [State.readAt_window (by decide) h, State.readReg_completion]; exact h3

end Sys2Proof.Machine

namespace Sys2Proof.Machine

/-! ### The two slots and the Leash (R33, R43) -/

section Slots

variable {s t : State}

@[simp] theorem State.slot_setSlot_same (s : State) (d : Fin 2) (p : PtpSlot) : (s.setSlot d p).slot d = p := by
  simp [State.slot, State.setSlot]

theorem State.slot_setSlot_other (s : State) {d e : Fin 2} (p : PtpSlot) (h : e ≠ d) : (s.setSlot d p).slot e = s.slot e := by
  have : d.val ≠ e.val := fun he => h (Fin.ext he.symm)
  simp [State.slot, State.setSlot, Vector.getElem_set_ne, this]

theorem State.slot_setSlot (s : State) (d e : Fin 2) (p : PtpSlot) : (s.setSlot d p).slot e = if e = d then p else s.slot e := by
  split
  · next h => rw [h, s.slot_setSlot_same]
  · next h => exact s.slot_setSlot_other p h

theorem State.slot_of_wt (h : t.wt = s.wt) (e : Fin 2) : t.slot e = s.slot e := by rw [State.slot, h]; rfl

theorem State.standbySlot_ne (s : State) : s.standbySlot ≠ s.activeSlot := by
  unfold State.standbySlot State.activeSlot
  split <;> decide

theorem State.eq_standbySlot {d : Fin 2} (h : d ≠ s.activeSlot) : d = s.standbySlot := by
  have := s.standbySlot_ne
  omega

theorem State.activeSlot_congr (h : t.flag F.WT_STATUS_ACTIVE = s.flag F.WT_STATUS_ACTIVE) : t.activeSlot = s.activeSlot := by
  rw [State.activeSlot, h]; rfl

theorem State.standbySlot_congr (h : t.flag F.WT_STATUS_ACTIVE = s.flag F.WT_STATUS_ACTIVE) : t.standbySlot = s.standbySlot := by
  rw [State.standbySlot, h]; rfl

theorem State.leash_congr (h : t.get F.WT_STATUS_LEASH = s.get F.WT_STATUS_LEASH) : t.leash = s.leash := by
  rw [State.leash, h]; rfl

theorem State.leash_setLeash (s : State) (l : Leash) : (s.setLeash l).leash = l := by
  have h : (s.setLeash l).get F.WT_STATUS_LEASH = l.code % 8 := s.get_put_same _ (by decide)
  rw [State.leash, h]
  cases l <;> rfl

theorem State.disciplined_congr (h : t.leash = s.leash) : t.disciplined = s.disciplined := by rw [State.disciplined, h]; rfl

end Slots

/-! ### A register whose value may be free (WT_DOMd_OFFSET, _MPD, WT_DSW_OFFSET) -/

/-- The register at `a` is written, with what the spec states or with a free value. -/
theorem State.putSigned31_eq (s : State) (a : Nat) (x : Int) : ∃ v f, s.putSigned31 a x = { s.wr a v with free := f } := by
  unfold State.putSigned31
  split
  · exact ⟨_, _, rfl⟩
  · exact ⟨_, _, rfl⟩

theorem State.putSigned31_wt (s : State) (a : Nat) (x : Int) : (s.putSigned31 a x).wt = s.wt := by
  obtain ⟨v, f, h⟩ := s.putSigned31_eq a x
  rw [h]; rfl

theorem State.putSigned31_bitsKept (s : State) (a : Nat) (x : Int) : BitsKept [whole a] s (s.putSigned31 a x) := by
  obtain ⟨v, f, h⟩ := s.putSigned31_eq a x
  rw [h]
  exact (s.wr_bitsKept a v).trans (.of_regs rfl)

/-! ### What the Leash moves without moving wall time -/

/-- Wall time and what the slots know of their masters stay, and every register but the fields `l`; what a slot's servo follows
may change. -/
structure Leashes (l : List Fld) (s t : State) : Prop where
  wall  : t.wt.wall = s.wt.wall
  cycle : t.wt.cycle = s.wt.cycle
  slots : ∀ e, t.slot e = { s.slot e with track := (t.slot e).track, adj := (t.slot e).adj }
  bits  : BitsKept l s t

section Leashes

variable {s t u : State} {l m : List Fld}

theorem Leashes.refl (l : List Fld) (s : State) : Leashes l s s := ⟨rfl, rfl, fun _ => rfl, .refl l s⟩

theorem Leashes.trans (h : Leashes l s t) (h' : Leashes l t u) : Leashes l s u := by
  refine ⟨h'.wall.trans h.wall, h'.cycle.trans h.cycle, fun e => ?_, h.bits.trans h'.bits⟩
  have h1 := h.slots e
  have h2 := h'.slots e
  rw [h1] at h2
  exact h2

theorem Leashes.mono (hs : l ⊆ m) (h : Leashes l s t) : Leashes m s t := ⟨h.wall, h.cycle, h.slots, h.bits.mono hs⟩

/-- A change of registers alone, beside what is not wall time. -/
theorem BitsKept.leashes (h : BitsKept l s t) (hw : t.wt = s.wt) : Leashes l s t :=
  ⟨by rw [hw], by rw [hw], fun e => by rw [State.slot_of_wt hw], h⟩

theorem Tells.leashes (h : Tells l s t) : Leashes l s t := h.2.2.leashes h.wt_eq

/-- A field apart from those that change. -/
theorem Leashes.get (h : Leashes l s t) {g : Fld} (hg : g.lo + g.w ≤ 32) (ha : apart l g = true) : t.get g = s.get g :=
  h.bits.get_apart hg ha

theorem Leashes.flag (h : Leashes l s t) {g : Fld} (hg : g.lo + g.w ≤ 32) (ha : apart l g = true) : t.flag g = s.flag g :=
  h.bits.flag_apart hg ha

theorem Leashes.leash (h : Leashes l s t) (ha : apart l F.WT_STATUS_LEASH = true) : t.leash = s.leash :=
  State.leash_congr (h.get (by decide) ha)

theorem Leashes.activeSlot (h : Leashes l s t) (ha : apart l F.WT_STATUS_ACTIVE = true) : t.activeSlot = s.activeSlot :=
  State.activeSlot_congr (h.flag (by decide) ha)

theorem State.setLeash_leashes (s : State) (x : Leash) : Leashes [F.WT_STATUS_LEASH] s (s.setLeash x) :=
  (s.put_bitsKept _ _).leashes rfl

/-- A slot of which no more changes than what its servo follows. -/
theorem State.setSlot_leashes (s : State) (d : Fin 2) (p : PtpSlot) (h : p = { s.slot d with track := p.track, adj := p.adj }) :
    Leashes [] s (s.setSlot d p) := by
  refine ⟨rfl, rfl, fun e => ?_, .of_regs rfl⟩
  rw [State.slot_setSlot]
  split
  · next he => rw [he]; exact h
  · rfl

/-- The slot whose servo drove wall time is followed from D_held on; the other stays. -/
theorem State.slot_undrive (s : State) (e : Fin 2) : s.undrive.slot e =
    if e = s.activeSlot ∧ s.disciplined = true then { s.slot e with track := some s.wt.dHeld } else s.slot e := by
  unfold State.undrive
  by_cases h : s.disciplined = true
  · simp only [h, if_true, and_true, State.slot_setSlot]
    split
    · next he => rw [he]
    · rfl
  · rw [if_neg h, if_neg fun hx => h hx.2]

theorem State.undrive_eq (s : State) : s.undrive = { s with wt := { s.wt with slots := s.undrive.wt.slots } } := by
  unfold State.undrive
  split <;> rfl

theorem State.undrive_leashes (s : State) : Leashes [] s s.undrive := by
  have h := s.undrive_eq
  refine ⟨by rw [h], by rw [h], fun e => ?_, .of_regs (by rw [h])⟩
  rw [s.slot_undrive]
  split <;> rfl

/-- The fields in which a change of the active slot shows. -/
def activeFields : List Fld := [F.WT_STATUS_ACTIVE, F.WT_CTRL_ACTIVE_DOM, whole A.WT_DSW_OFFSET]

theorem State.setActive_wt (s : State) (d : Fin 2) : ∃ x, (s.setActive d).wt = { s.wt with dFilt := x } := by
  unfold State.setActive
  simp only
  split
  · exact ⟨_, rfl⟩
  · split
    · exact ⟨_, State.putSigned31_wt _ _ _⟩
    · exact ⟨_, rfl⟩

theorem State.setActive_bitsKept (s : State) (d : Fin 2) : BitsKept activeFields s (s.setActive d) := by
  have hput : BitsKept activeFields s ((s.put F.WT_STATUS_ACTIVE d).put F.WT_CTRL_ACTIVE_DOM d) :=
    ((s.put_bitsKept _ _).mono (by simp [activeFields])).trans ((State.put_bitsKept _ _ _).mono (by simp [activeFields]))
  unfold State.setActive
  simp only
  split
  · exact hput
  · split
    · exact hput.trans ((BitsKept.of_regs rfl).trans ((State.putSigned31_bitsKept _ _ _).mono (by simp [activeFields])))
    · exact hput

theorem State.setActive_leashes (s : State) (d : Fin 2) : Leashes activeFields s (s.setActive d) := by
  obtain ⟨x, h⟩ := s.setActive_wt d
  exact ⟨by rw [h], by rw [h], fun e => by rw [State.slot, h]; rfl, s.setActive_bitsKept d⟩

theorem State.activeSlot_setActive (s : State) (d : Fin 2) : (s.setActive d).activeSlot = d := by
  have hput : ((s.put F.WT_STATUS_ACTIVE d).put F.WT_CTRL_ACTIVE_DOM d).flag F.WT_STATUS_ACTIVE = decide (d = 1) := by
    rw [State.flag, State.get_put_addr _ _ (by decide), State.get_put_same _ _ (by decide)]
    revert d; decide
  have hflag : (s.setActive d).flag F.WT_STATUS_ACTIVE = decide (d = 1) := by
    unfold State.setActive
    simp only
    split
    · exact hput
    · split
      · rw [(State.putSigned31_bitsKept _ _ _).flag_apart (by decide) (by decide)]; exact hput
      · exact hput
  have hcode : ∀ d : Fin 2, (if decide (d = 1) = true then (1 : Fin 2) else 0) = d := by decide
  rw [State.activeSlot, hflag, hcode]

end Leashes

/-! ### The domain switch and holdover (R47, R52) -/

/-- The fields in which a domain switch shows. -/
def switchFields : List Fld :=
  whole A.WT_DSW_HELD :: F.WT_FLAGS_DSW_DONE :: F.SEQ_EVQ_STATUS_OVERFLOW 4 :: activeFields

/-- The state in which the filtered D is held and slot `d` starts with the rate applied, before it becomes the active slot. -/
def State.holdsD (s : State) (d : Fin 2) : State :=
  let held := (s.wt.dFilt.getD 0) * 2 ^ 32
  let u : State := { s.undrive with wt := { s.undrive.wt with dHeld := held } }
  let u := if s.disciplined then u.setSlot d { u.slot d with adj := s.appliedAdj + u.slewRate * 2 ^ 28 } else u
  u.wr A.WT_DSW_HELD (BitVec.ofInt 32 (held / 2 ^ 40))

theorem State.domainSwitch_eq (s : State) (d : Fin 2) :
    s.domainSwitch d = ((s.holdsD d).setActive d).wtFlag F.WT_FLAGS_DSW_DONE := rfl

theorem State.holdsD_spec (s : State) (d : Fin 2) :
    Leashes [whole A.WT_DSW_HELD] s (s.holdsD d) ∧ (s.holdsD d).wt.dHeld = (s.wt.dFilt.getD 0) * 2 ^ 32 := by
  have hheld : Leashes [] s { s.undrive with wt := { s.undrive.wt with dHeld := (s.wt.dFilt.getD 0) * 2 ^ 32 } } :=
    s.undrive_leashes.trans ⟨rfl, rfl, fun _ => rfl, .of_regs rfl⟩
  have hwr (u : State) (v : Word) : Leashes [whole A.WT_DSW_HELD] u (u.wr A.WT_DSW_HELD v) := (u.wr_bitsKept _ _).leashes rfl
  unfold State.holdsD
  by_cases h : s.disciplined = true
  · simp only [h, if_true]
    exact ⟨((hheld.trans (State.setSlot_leashes _ d _ rfl)).mono (List.nil_subset _)).trans (hwr _ _), rfl⟩
  · simp only [h]
    exact ⟨(hheld.mono (List.nil_subset _)).trans (hwr _ _), rfl⟩

/-- A switch makes slot `d` active and holds the filtered D; the Leash and wall time stay (R47). -/
theorem State.domainSwitch_spec (s : State) (d : Fin 2) : let t := s.domainSwitch d
    Leashes switchFields s t ∧ t.activeSlot = d ∧ t.wt.dHeld = (s.wt.dFilt.getD 0) * 2 ^ 32 ∧
      t.flag F.WT_FLAGS_DSW_DONE = true := by
  rw [s.domainSwitch_eq d]
  obtain ⟨h1, hheld⟩ := s.holdsD_spec d
  generalize s.holdsD d = u at h1 hheld
  obtain ⟨x, hx⟩ := u.setActive_wt d
  have hactive : activeFields ⊆ switchFields := fun f hf => by simp [switchFields, hf]
  have hflag := (u.setActive d).wtFlag_tells F.WT_FLAGS_DSW_DONE
  refine ⟨?_, ?_, ?_, State.flag_wtFlag _ rfl (by decide) (by decide)⟩
  · exact (h1.mono (by simp [switchFields])).trans
      (((u.setActive_leashes d).mono hactive).trans (hflag.leashes.mono (by simp [switchFields])))
  · exact (hflag.leashes.activeSlot (by decide)).trans (u.activeSlot_setActive d)
  · rw [hflag.wt_eq, hx]; exact hheld

/-- The fields in which the entry to holdover shows. -/
def holdoverFields : List Fld := [F.WT_STATUS_LEASH, F.WT_FLAGS_HO_ENTER, F.SEQ_EVQ_STATUS_OVERFLOW 4]

/-- The average of the active slot's last adjustments is held, and holdover time starts. -/
def State.holdsAverage (s : State) : State :=
  let h := (s.slot s.activeSlot).adjHist
  { s.undrive with wt := { s.undrive.wt with
    holdAdj := if h.isEmpty then 0 else h.foldl (· + ·) 0 / (h.length : Int), hoCycles := 0 } }

theorem State.enterHoldover_eq (s : State) :
    s.enterHoldover = (s.holdsAverage.setLeash .holdover).wtFlag F.WT_FLAGS_HO_ENTER := rfl

theorem State.holdsAverage_spec (s : State) : Leashes [] s s.holdsAverage ∧ s.holdsAverage.wt.hoCycles = 0 ∧
    ((s.slot s.activeSlot).adjHist ≠ [] → s.holdsAverage.wt.holdAdj =
      (s.slot s.activeSlot).adjHist.sum / ((s.slot s.activeSlot).adjHist.length : Int)) := by
  refine ⟨s.undrive_leashes.trans ⟨rfl, rfl, fun _ => rfl, .of_regs rfl⟩, rfl, fun hne => ?_⟩
  have hemp : (s.slot s.activeSlot).adjHist.isEmpty = false := by simpa using hne
  rw [State.holdsAverage, List.sum_eq_foldl]
  simp only [hemp, Bool.false_eq_true, if_false]

/-- HOLDOVER holds the average of the active slot's last adjustments, and its time starts (R52). -/
theorem State.enterHoldover_spec (s : State) : let t := s.enterHoldover
    Leashes holdoverFields s t ∧ t.leash = .holdover ∧ t.flag F.WT_FLAGS_HO_ENTER = true ∧ t.wt.hoCycles = 0 ∧
      ((s.slot s.activeSlot).adjHist ≠ [] →
        t.wt.holdAdj = (s.slot s.activeSlot).adjHist.sum / ((s.slot s.activeSlot).adjHist.length : Int)) := by
  rw [s.enterHoldover_eq]
  obtain ⟨h1, hcycles, havg⟩ := s.holdsAverage_spec
  generalize s.holdsAverage = u at h1 hcycles havg
  have hflag := (u.setLeash .holdover).wtFlag_tells F.WT_FLAGS_HO_ENTER
  refine ⟨?_, ?_, State.flag_wtFlag _ rfl (by decide) (by decide), ?_, fun hne => ?_⟩
  · exact (h1.mono (List.nil_subset _)).trans (((u.setLeash_leashes _).mono (by simp [holdoverFields])).trans
      (hflag.leashes.mono (by simp [holdoverFields])))
  · exact (hflag.leashes.leash (by decide)).trans (u.leash_setLeash _)
  · rw [hflag.wt_eq]; exact hcycles
  · rw [hflag.wt_eq]; exact havg hne

end Sys2Proof.Machine

namespace Sys2Proof.Machine

/-! ### A slot that times out (R42) -/

/-- The fields in which a slot's own timeout shows. -/
def lapseFields (d : Fin 2) : List Fld := [F.WT_DOM_STATUS_TIMEOUT d, F.WT_DOM_STATUS_LOCKED d, ⟨A.WT_DOM_OFFSET d, 31, 1⟩]

theorem apart_lapse : ∀ d : Fin 2, ∀ g ∈ [F.WT_STATUS_ACTIVE, F.WT_STATUS_LEASH, F.WT_CTRL_AUTO_SWITCH, F.WT_DSW_CFG_MIN_S],
    apart (lapseFields d) g = true := by decide

/-- Slot `d` has timed out, before the Leash has taken note. -/
def State.lapsed (s : State) (d : Fin 2) : State :=
  (((s.setSlot d { s.slot d with timedOut := true, synced := false, locked := false, small := 0, offset := none, twoStep := none }).set
    (F.WT_DOM_STATUS_TIMEOUT d)).clr (F.WT_DOM_STATUS_LOCKED d)).clr ⟨A.WT_DOM_OFFSET d, 31, 1⟩

section Timeout

variable {s t : State} {d : Fin 2}

theorem State.lapsed_wt (s : State) (d : Fin 2) : (s.lapsed d).wt = (s.setSlot d { s.slot d with
    timedOut := true, synced := false, locked := false, small := 0, offset := none, twoStep := none }).wt := rfl

theorem State.lapsed_bitsKept (s : State) (d : Fin 2) : BitsKept (lapseFields d) s (s.lapsed d) :=
  (BitsKept.of_regs (t := s.setSlot d _) rfl).trans (((State.set_bitsKept _ _).mono (by simp [lapseFields])).trans
    (((State.clr_bitsKept _ _).mono (by simp [lapseFields])).trans ((State.clr_bitsKept _ _).mono (by simp [lapseFields]))))

theorem State.slot_lapsed (s : State) (d e : Fin 2) : (s.lapsed d).slot e = if e = d then { s.slot d with
    timedOut := true, synced := false, locked := false, small := 0, offset := none, twoStep := none } else s.slot e :=
  s.slot_setSlot d e _

theorem State.flag_lapsed (s : State) (d : Fin 2) : (s.lapsed d).flag (F.WT_DOM_STATUS_TIMEOUT d) = true := by
  unfold State.lapsed
  rw [(State.clr_bitsKept _ _).flag_apart (by simp) (by revert d; decide), (State.clr_bitsKept _ _).flag_apart (by simp)
    (by revert d; decide)]
  exact State.flag_set _ (by simp) (by simp)

theorem State.activeSlot_lapsed (s : State) (d : Fin 2) : (s.lapsed d).activeSlot = s.activeSlot :=
  State.activeSlot_congr ((s.lapsed_bitsKept d).flag_apart (by decide) (apart_lapse d _ (by simp)))

theorem State.leash_lapsed (s : State) (d : Fin 2) : (s.lapsed d).leash = s.leash :=
  State.leash_congr ((s.lapsed_bitsKept d).get_apart (by decide) (apart_lapse d _ (by simp)))

/-- The standby slot is usable: what `usable` says (R46). -/
theorem State.standbyOk_iff (s : State) : s.standbyOk = true ↔ (s.slot s.standbySlot).locked = true ∧
    (s.slot s.standbySlot).lockedAt + s.get F.WT_DSW_CFG_MIN_S * 1600000000 ≤ s.wt.cycle := by
  unfold State.standbyOk
  rw [Bool.and_eq_true, decide_eq_true_iff]
  exact Iff.rfl

/-- The active slot's timeout does not change whether the standby slot is usable. -/
theorem State.standbyOk_lapsed (h : d = s.activeSlot) : (s.lapsed d).standbyOk = s.standbyOk := by
  have hb := s.lapsed_bitsKept d
  have hflag : (s.lapsed d).flag F.WT_STATUS_ACTIVE = s.flag F.WT_STATUS_ACTIVE :=
    hb.flag_apart (by decide) (apart_lapse d _ (by simp))
  have hne : s.standbySlot ≠ d := by rw [h]; exact s.standbySlot_ne
  have hget : (s.lapsed d).get F.WT_DSW_CFG_MIN_S = s.get F.WT_DSW_CFG_MIN_S := hb.get_apart (by decide) (apart_lapse d _ (by simp))
  rw [Bool.eq_iff_iff, State.standbyOk_iff, State.standbyOk_iff, State.standbySlot_congr hflag, State.slot_lapsed, if_neg hne,
    hget]
  rfl

/-- The fields in which what the Leash makes of a timeout shows. -/
def timeoutFields : List Fld := holdoverFields ++ switchFields

theorem apart_timeout : ∀ d : Fin 2, apart timeoutFields (F.WT_DOM_STATUS_TIMEOUT d) = true := by decide

theorem timeout_ne_cfg : ∀ d e : Fin 2, ∀ f ∈ lapseFields d ++ timeoutFields, f.addr ≠ A.WT_DOM_CFG e := by decide

/-- What the Leash makes of the timeout of slot `d` (R43, R47, R51, R52). -/
theorem State.slotTimesOut_eq (s : State) (d : Fin 2) : s.slotTimesOut d =
    if d = s.activeSlot then match s.leash with
      | .acquiring => (s.lapsed d).undrive.setLeash .unleashed
      | .leashed => if s.standbyOk && s.flag F.WT_CTRL_AUTO_SWITCH then (s.lapsed d).domainSwitch s.standbySlot
          else (s.lapsed d).enterHoldover
      | _ => s.lapsed d
    else s.lapsed d := by
  have hb := s.lapsed_bitsKept d
  have hflag : (s.lapsed d).flag F.WT_STATUS_ACTIVE = s.flag F.WT_STATUS_ACTIVE :=
    hb.flag_apart (by decide) (apart_lapse d _ (by simp))
  have hauto : (s.lapsed d).flag F.WT_CTRL_AUTO_SWITCH = s.flag F.WT_CTRL_AUTO_SWITCH :=
    hb.flag_apart (by decide) (apart_lapse d _ (by simp))
  have heq : s.slotTimesOut d = if (d == (s.lapsed d).activeSlot) = true then match (s.lapsed d).leash with
      | .acquiring => (s.lapsed d).undrive.setLeash .unleashed
      | .leashed => if (s.lapsed d).standbyOk && (s.lapsed d).flag F.WT_CTRL_AUTO_SWITCH
          then (s.lapsed d).domainSwitch (s.lapsed d).standbySlot else (s.lapsed d).enterHoldover
      | _ => s.lapsed d
    else s.lapsed d := rfl
  rw [heq, State.activeSlot_congr hflag, State.standbySlot_congr hflag, hauto, s.leash_lapsed]
  simp only [beq_iff_eq]
  split
  · next h => rw [State.standbyOk_lapsed h]
  · rfl

/-- Beyond the slot itself, a timeout moves the Leash alone. -/
theorem State.slotTimesOut_leashes (s : State) (d : Fin 2) : Leashes timeoutFields (s.lapsed d) (s.slotTimesOut d) := by
  have hswitch : switchFields ⊆ timeoutFields := List.subset_append_right _ _
  have hhold : holdoverFields ⊆ timeoutFields := List.subset_append_left _ _
  rw [s.slotTimesOut_eq d]
  split
  · split
    · exact ((s.lapsed d).undrive_leashes.mono (List.nil_subset _)).trans
        ((State.setLeash_leashes _ _).mono (by simp [timeoutFields, holdoverFields]))
    · split
      · exact ((s.lapsed d).domainSwitch_spec _).1.mono hswitch
      · exact (s.lapsed d).enterHoldover_spec.1.mono hhold
    · exact .refl _ _
  · exact .refl _ _

/-- A slot that has timed out shows it, and wall time stays. -/
theorem State.slotTimesOut_spec (s : State) (d : Fin 2) : let t := s.slotTimesOut d
    (t.slot d).timedOut = true ∧ (t.slot d).locked = false ∧ (t.slot d).offset = none ∧
      t.flag (F.WT_DOM_STATUS_TIMEOUT d) = true ∧ t.wt.wall = s.wt.wall := by
  have h := s.slotTimesOut_leashes d
  have hslot := h.slots d
  rw [s.slot_lapsed, if_pos rfl] at hslot
  refine ⟨by rw [hslot], by rw [hslot], by rw [hslot], ?_, h.wall⟩
  rw [h.flag (by simp) (apart_timeout d)]
  exact s.flag_lapsed d

/-! ### A timeout is due once (R42, R51) -/

/-- What a slot's timeout rests on. -/
theorem State.timeoutDue_congr {e : Fin 2} (hr : t.rd (A.WT_DOM_CFG e) = s.rd (A.WT_DOM_CFG e)) (hc : t.wt.cycle = s.wt.cycle)
    (h1 : (t.slot e).synced = (s.slot e).synced) (h2 : (t.slot e).timedOut = (s.slot e).timedOut)
    (h3 : (t.slot e).lastSync = (s.slot e).lastSync) : t.timeoutDue e = s.timeoutDue e := by
  have hget (f : Fld) (h : f.addr = A.WT_DOM_CFG e) : t.get f = s.get f := by rw [State.get, h, hr, ← h]; rfl
  have hsync : t.syncCycles e = s.syncCycles e := by
    unfold State.syncCycles
    rw [hget (F.WT_DOM_CFG_LOG_SYNC e) rfl]
  unfold State.timeoutDue State.flag
  rw [hget (F.WT_DOM_CFG_ENABLE e) rfl, hget (F.WT_DOM_CFG_SYNC_TIMEOUT e) rfl, hsync, hc]
  dsimp only
  rw [h1, h2, h3]

theorem State.timeoutDue_slotTimesOut (s : State) (d e : Fin 2) :
    (s.slotTimesOut d).timeoutDue e = (decide (e ≠ d) && s.timeoutDue e) := by
  have h := s.slotTimesOut_leashes d
  have hslot := h.slots e
  rw [s.slot_lapsed] at hslot
  by_cases he : e = d
  · rw [if_pos he] at hslot
    have hout : ((s.slotTimesOut d).slot e).timedOut = true := by rw [hslot]
    subst he
    simp [State.timeoutDue, hout]
  · rw [if_neg he] at hslot
    have hrd : (s.slotTimesOut d).rd (A.WT_DOM_CFG e) = s.rd (A.WT_DOM_CFG e) :=
      (h.bits.rd_eq fun f hf => timeout_ne_cfg d e f (List.mem_append_right _ hf)).trans
        ((s.lapsed_bitsKept d).rd_eq fun f hf => timeout_ne_cfg d e f (List.mem_append_left _ hf))
    rw [State.timeoutDue_congr hrd h.cycle (by rw [hslot]) (by rw [hslot]) (by rw [hslot])]
    simp [he]

theorem State.timeoutDue_timeoutCheck (s : State) (d e : Fin 2) :
    (s.timeoutCheck d).timeoutDue e = (decide (e ≠ d) && s.timeoutDue e) := by
  unfold State.timeoutCheck
  split
  · exact s.timeoutDue_slotTimesOut d e
  · next h =>
    by_cases he : e = d
    · rw [he]; simpa using h
    · simp [he]

/-- Both slots are checked, slot 0 first. -/
theorem State.checks_eq (s : State) : forAll (fins 2) s State.timeoutCheck = (s.timeoutCheck 0).timeoutCheck 1 := rfl

theorem State.timeoutCheck_idle (h : s.timeoutDue d = false) : s.timeoutCheck d = s := by simp [State.timeoutCheck, h]

theorem State.checks_idle (h : ∀ e, s.timeoutDue e = false) : forAll (fins 2) s State.timeoutCheck = s := by
  rw [s.checks_eq, State.timeoutCheck_idle (h 0), State.timeoutCheck_idle (h 1)]

/-- No timeout is due after the checks. -/
theorem State.timeoutDue_checks (s : State) (e : Fin 2) : ((s.timeoutCheck 0).timeoutCheck 1).timeoutDue e = false := by
  rw [State.timeoutDue_timeoutCheck, State.timeoutDue_timeoutCheck]
  have : e = 0 ∨ e = 1 := by omega
  obtain rfl | rfl := this <;> simp

theorem State.requestDom_checks (s : State) : ((s.timeoutCheck 0).timeoutCheck 1).requestDom d = s.requestDom d := by
  unfold State.requestDom
  rw [State.checks_idle s.timeoutDue_checks, s.checks_eq]

theorem State.requestDom_idle (h : ∀ e, s.timeoutDue e = false) : s.requestDom d =
    if d = s.activeSlot then s else if s.standbyOk then s.domainSwitch d else s.wtFlag F.WT_FLAGS_DSW_REFUSED := by
  simp only [State.requestDom, State.checks_idle h, beq_iff_eq]

end Timeout

/-! ### A wall-time step (R43) -/

theorem forAll_wall {α : Type} {f : State → α → State} (items : List α) (h : ∀ u x, (f u x).wt.wall = u.wt.wall) (s : State) :
    (forAll items s f).wt.wall = s.wt.wall := by
  induction items generalizing s with
  | nil => rfl
  | cons x xs ih => exact (ih (f s x)).trans (h s x)

theorem State.fireEvt_wall {s : State} {e : Fin 32} (h : s.flag (F.WT_EVT_CTRL_ARM e) = true) (at_ : Nat) (late : Bool) :
    (s.fireEvt e at_ late).wt.wall = s.wt.wall := (State.fireEvt_after h).1

theorem State.latchMoved_wt (s : State) (was : Option Int) : (s.latchMoved was).wt = s.wt := by rw [s.latchMoved_eq was]

/-- A step as it moves wall time and what is counted by it, before any slot fires. -/
def State.stepped (s : State) (d : Int) : State :=
  let shift (p : PtpSlot) : PtpSlot :=
    { p.shiftStamps d with offset := p.offset.map (· - d), track := p.track.map (· - d * 2 ^ 32) }
  let s' : State := { s with wt := { s.wt with
    wall := (s.wt.wall + d * 2 ^ 32).toNat
    slots := s.wt.slots.map shift
    capPrev := s.wt.capPrev.map fun x => x.map (· + d) } }
  { s' with round := { s'.round with slotAt := s'.wallNs }, bist := { s'.bist with slotAt := s'.wallNs } }.latchMoved s.latchDue

/-- Slot `e` fires late where a step from the instant `old` has passed its target. -/
def State.firesPassed (old : Int) (s : State) (e : Fin 32) : State :=
  match s.evtDue e with
  | some t =>
    if s.flag (F.WT_EVT_CTRL_ARM e) && decide (s.get (F.WT_EVT_CTRL_TARGET e) < 28) && decide (old < t) && s.reached t then
      s.fireEvt e s.wall16 true
    else s
  | none => s

theorem State.stepWall_eq (s : State) (d : Int) : s.stepWall d = forAll (fins 32) (s.stepped d) (State.firesPassed s.wall16) := rfl

theorem State.firesPassed_wall (old : Int) (s : State) (e : Fin 32) : (s.firesPassed old e).wt.wall = s.wt.wall := by
  unfold State.firesPassed
  split
  · split
    · next h =>
      simp only [Bool.and_eq_true] at h
      exact State.fireEvt_wall h.1.1.1 _ _
    · rfl
  · rfl

/-- A step moves wall time by its operand, whatever slots it fires. -/
theorem State.stepWall_wall (s : State) (d : Int) : (s.stepWall d).wt.wall = (s.wt.wall + d * 2 ^ 32).toNat := by
  rw [s.stepWall_eq, forAll_wall _ (fun u e => u.firesPassed_wall _ e), State.stepped, State.latchMoved_wt]

/-! ### SERVO_EN (R43, R44) -/

section Servo

variable {s : State} {x : Int}

/-- The Leash with SERVO_EN at 0: no slot drives wall time, and nothing bars a recovery (R43, R44). -/
def State.unleashes (s : State) : State :=
  let u := (s.put F.WT_CTRL_SERVO_EN 0).undrive
  { u with wt := { u.wt with stuck := false } }.setLeash .unleashed

theorem execServoEn_off (s : State) : exec (.servoEn false) s = .next s.unleashes := rfl

theorem State.unleashes_eq (s : State) : s.unleashes =
    { s with regs := s.unleashes.regs, wt := { s.wt with slots := s.unleashes.wt.slots, stuck := false } } := by
  have h := (s.put F.WT_CTRL_SERVO_EN 0).undrive_eq
  unfold State.unleashes
  generalize (s.put F.WT_CTRL_SERVO_EN 0).undrive = u at h ⊢
  rw [h]; rfl

theorem State.unleashes_regsKept (s : State) : RegsKept [A.WT_CTRL, A.WT_STATUS] s s.unleashes := by
  have h1 : BitsKept [F.WT_CTRL_SERVO_EN, F.WT_STATUS_LEASH] s (s.put F.WT_CTRL_SERVO_EN 0) :=
    (s.put_bitsKept _ _).mono (by simp)
  have h2 := (s.put F.WT_CTRL_SERVO_EN 0).undrive_leashes.bits
  have h3 := State.put_bitsKept { (s.put F.WT_CTRL_SERVO_EN 0).undrive with
    wt := { (s.put F.WT_CTRL_SERVO_EN 0).undrive.wt with stuck := false } } F.WT_STATUS_LEASH Leash.unleashed.code
  exact (h1.trans ((h2.mono (List.nil_subset _)).trans (.trans (.of_regs rfl) (h3.mono (by simp))))).regsKept (by simp)

theorem State.slot_unleashes (s : State) (e : Fin 2) : s.unleashes.slot e =
    if e = s.activeSlot ∧ s.disciplined = true then { s.slot e with track := some s.wt.dHeld } else s.slot e := by
  have h := s.put_bitsKept F.WT_CTRL_SERVO_EN 0
  have hactive : (s.put F.WT_CTRL_SERVO_EN 0).activeSlot = s.activeSlot :=
    State.activeSlot_congr (h.flag_apart (by decide) (by decide))
  have hdisc : (s.put F.WT_CTRL_SERVO_EN 0).disciplined = s.disciplined :=
    State.disciplined_congr (State.leash_congr (h.get_apart (by decide) (by decide)))
  refine ((s.put F.WT_CTRL_SERVO_EN 0).slot_undrive e).trans ?_
  rw [hactive, hdisc]
  rfl

/-- With a valid offset of the active slot, SERVO_EN written 1 in UNLEASHED steps wall time or not, and acquires. -/
theorem execServoEn_on (hl : s.leash = .unleashed) (hx : (s.slot s.activeSlot).offset = some x) :
    let u := s.put F.WT_CTRL_SERVO_EN 1
    exec (.servoEn true) s = .next ((if s.anyScans = false ∧ (65536000 < x ∨ x < -65536000) then u.stepWall x else u).setLeash
      .acquiring) := by
  intro u
  have h := s.put_bitsKept F.WT_CTRL_SERVO_EN 1
  have hactive : u.activeSlot = s.activeSlot := State.activeSlot_congr (h.flag_apart (by decide) (by decide))
  have hleash : u.leash = .unleashed := (State.leash_congr (h.get_apart (by decide) (by decide))).trans hl
  have hoff : (u.slot u.activeSlot).offset = some x := by rw [hactive]; exact hx
  have hen : u.flag F.WT_CTRL_SERVO_EN = true := s.flag_put_one (by decide) (by decide)
  change Sys2Proof.Machine.execServoEn true s = _
  have heval : u.leashEval = (if !u.anyScans && (decide (1000 * 65536 < x) || decide (x < -(1000 * 65536))) then u.stepWall x
      else u).setLeash .acquiring := by
    unfold State.leashEval
    simp only [hleash, hoff, hen, if_true]
  have hcond : (!u.anyScans && (decide (1000 * 65536 < x) || decide (x < -(1000 * 65536)))) = true ↔
      s.anyScans = false ∧ (65536000 < x ∨ x < -65536000) := by
    simp only [Bool.and_eq_true, Bool.not_eq_true', Bool.or_eq_true, decide_eq_true_eq]
    exact Iff.rfl
  refine congrArg Host.Outcome.next (heval.trans ?_)
  simp only [hcond]

end Servo

/-- HOLDOVER is code 3 (R43). -/
theorem State.leash_holdover {s : State} (h : s.leash = .holdover) : s.get F.WT_STATUS_LEASH = 3 := by
  unfold State.leash at h
  split at h
  case h_4 heq => exact heq
  all_goals exact nomatch h

/-! ### The slew of D_held (R48) -/

theorem execDswSlewStart_due {s : State} (ht : s.slewAt ≤ s.wall16) (hs : s.flag F.WT_STATUS_DSW_SLEWING = false)
    (hr : s.get F.WT_DSW_SLEW_RATE_RATE ≠ 0) (hd : s.slewDone = false) :
    exec .dswSlewStart s = .next (s.set F.WT_STATUS_DSW_SLEWING) := by
  have h : s.reached s.slewAt = true := decide_eq_true ht
  change execDswSlewStart s = _
  simp [execDswSlewStart, h, hs, hr, hd]

theorem execDswSlewEnd_done {s : State} (hs : s.flag F.WT_STATUS_DSW_SLEWING = true) (hd : s.slewDone = true) :
    exec .dswSlewEnd s =
      .next ((s.clr F.WT_STATUS_DSW_SLEWING).wr A.WT_DSW_HELD (BitVec.ofInt 32 (s.wt.dHeld / 2 ^ 40))) := by
  change execDswSlewEnd s = _
  simp [execDswSlewEnd, hs, hd]

/-- A word read as a signed number and written back. -/
theorem ofInt_signed (x : Word) : BitVec.ofInt 32 (signed 32 x.toNat * 2 ^ 40 / 2 ^ 40) = x := by
  rw [Int.mul_ediv_cancel _ (by decide)]
  apply BitVec.eq_of_toNat_eq
  have := x.isLt
  simp only [signed, BitVec.toNat_ofInt]
  split <;> omega

/-- Settles O19: each clause by the operation that it speaks of, a slot's timeout, the domain switch, holdover, SERVO_EN and the
slew. -/
theorem leashAndSlew : Obligations.LeashAndSlew := by
  constructor
  · intro s d a usable timesOut switched
    have husable : s.standbyOk = true ↔ usable := s.standbyOk_iff
    have hswitch {u : State} (hl : u.leash = s.leash) (hf : u.wt.dFilt = s.wt.dFilt) (hw : u.wt.wall = s.wt.wall) :
        switched (u.domainSwitch s.standbySlot) := by
      obtain ⟨h1, h2, h3, h4⟩ := u.domainSwitch_spec s.standbySlot
      exact ⟨h2, by rw [h3, hf], h4, (h1.leash (by decide)).trans hl, h1.wall.trans hw⟩
    refine ⟨?_, fun x hl hx => ?_, fun htime => ?_, fun hl hc => ?_, fun u v hu hv => ?_, fun hdue hne hu => ?_,
      fun hdue hne hu => ?_, fun hdue heq => ?_⟩
    · refine ⟨_, execServoEn_off s, State.leash_setLeash _ _, s.unleashes_eq, s.unleashes_regsKept, fun e he => ?_, ?_⟩
      · rw [s.slot_unleashes, if_neg fun h => he h.1]
      · rw [s.slot_unleashes]; simp only [a, true_and]
    · refine ⟨_, execServoEn_on hl hx, State.leash_setLeash _ _, ?_⟩
      rw [State.setLeash, State.put_wt]
      split
      · exact State.stepWall_wall _ _
      · rfl
    · have hdue : s.timeoutDue d = true := by
        simpa only [State.timeoutDue, Bool.and_eq_true, Bool.or_eq_true, Bool.not_eq_true', decide_eq_true_eq, and_assoc] using htime
      refine ⟨s.slotTimesOut d, ?_, ?_⟩
      · change execSlotTimeout d s = _
        rw [execSlotTimeout, State.timeoutCheck, if_pos hdue]
      obtain ⟨h1, h2, h3, h4, h5⟩ := s.slotTimesOut_spec d
      refine ⟨h1, h2, h3, h4, h5, fun hne => ?_, fun heq hl => ?_, fun heq hl hu hauto => ?_, fun heq hl hno => ?_⟩
      · rw [s.slotTimesOut_eq, if_neg hne]
        exact ⟨s.leash_lapsed d, s.activeSlot_lapsed d⟩
      · rw [s.slotTimesOut_eq, if_pos heq, hl]
        exact State.leash_setLeash _ _
      · have hauto' : (s.standbyOk && s.flag F.WT_CTRL_AUTO_SWITCH) = true := by rw [husable.mpr hu, hauto]; rfl
        rw [s.slotTimesOut_eq, if_pos heq, hl]
        simp only [hauto', if_true]
        exact hswitch (s.leash_lapsed d) rfl rfl
      · have hno' : ¬ (s.standbyOk && s.flag F.WT_CTRL_AUTO_SWITCH) = true := by
          rw [Bool.and_eq_true, husable]; exact hno
        rw [s.slotTimesOut_eq, if_pos heq, hl]
        simp only [hno']
        obtain ⟨g1, g2, g3, g4, g5⟩ := (s.lapsed d).enterHoldover_spec
        have hslot : ((s.lapsed d).slot a).adjHist = (s.slot a).adjHist := by rw [s.slot_lapsed, if_pos heq.symm, heq]
        rw [s.activeSlot_lapsed d, hslot] at g5
        exact ⟨g2, g3, (g1.activeSlot (by decide)).trans (s.activeSlot_lapsed d), g4, g5⟩
    · have h3 : s.get F.WT_STATUS_LEASH = 3 := s.leash_holdover hl
      have hflag := (s.setLeash .expired).wtFlag_tells F.WT_FLAGS_EXPIRED
      refine ⟨(s.setLeash .expired).wtFlag F.WT_FLAGS_EXPIRED, ?_, ?_, State.flag_wtFlag _ rfl (by decide) (by decide), hflag.wt_eq⟩
      · change execHoldoverExpired s = _
        rw [execHoldoverExpired, if_pos ⟨h3, hc⟩]
      · exact (hflag.leashes.leash (by decide)).trans (s.leash_setLeash _)
    · have hu' : u = s.timeoutCheck 0 := (Host.Outcome.next.inj hu).symm
      have hv' : v = u.timeoutCheck 1 := (Host.Outcome.next.inj hv).symm
      rw [hv', hu']
      exact (congrArg Host.Outcome.next s.requestDom_checks).symm
    · refine ⟨_, ?_, hswitch rfl rfl rfl⟩
      change execActiveDom d s = _
      rw [execActiveDom, State.requestDom_idle hdue, if_neg hne, if_pos (husable.mpr hu), State.eq_standbySlot hne]
    · refine ⟨s.wtFlag F.WT_FLAGS_DSW_REFUSED, ?_, State.flag_wtFlag _ rfl (by decide) (by decide), (s.wtFlag_tells _).wt_eq,
        s.wtFlag_regsKept rfl⟩
      change execActiveDom d s = _
      rw [execActiveDom, State.requestDom_idle hdue, if_neg hne, if_neg (mt husable.mp hu)]
    · refine ⟨s, ?_, rfl⟩
      change execActiveDom d s = _
      rw [execActiveDom, State.requestDom_idle hdue, if_pos heq]
  · intro s target slewAt
    refine ⟨fun ht hs hr hd => ?_, fun hs hd => ?_⟩
    · refine ⟨_, execDswSlewStart_due (Int.ofNat_le.mpr ht) hs hr (decide_eq_false hd), ?_, s.flag_set (by decide) (by decide)⟩
      exact ⟨(s.set_onlyBits _).1, (s.set_bitsKept _).regsKept (by simp)⟩
    · refine ⟨_, execDswSlewEnd_done hs (decide_eq_true hd), ?_, ?_, ?_⟩
      · have hb := ((s.clr_bitsKept F.WT_STATUS_DSW_SLEWING).mono (m := [F.WT_STATUS_DSW_SLEWING, whole A.WT_DSW_HELD])
          (by simp)).trans ((State.wr_bitsKept _ A.WT_DSW_HELD (BitVec.ofInt 32 (s.wt.dHeld / 2 ^ 40))).mono (by simp))
        exact ⟨⟨rfl, rfl⟩, hb.regsKept (by simp [whole])⟩
      · rw [State.flag, State.get, State.rd_wr_other _ _ (by decide)]
        exact s.flag_clr (f := F.WT_STATUS_DSW_SLEWING) (by decide)
      · rw [State.rd_wr_same, hd]
        exact ofInt_signed _

end Sys2Proof.Machine

namespace Sys2Proof.Machine

/-! ### A frame that the MAC has counted (R295) -/

section Counted

variable {s t : State} {f : NetFrame}

/-- The frame is counted by its port. -/
def State.heard (s : State) (p : PortId) : State := s.wrapReg (A.NET_PORT_RX_FRAMES p)

theorem State.heard_eq (s : State) (p : PortId) : s.heard p = { s with regs := (s.heard p).regs } := rfl

theorem State.rd_heard (s : State) (p : PortId) {a : Nat} (h : a ≠ A.NET_PORT_RX_FRAMES p) : (s.heard p).rd a = s.rd a :=
  s.rd_wr_other _ h

theorem State.get_heard (s : State) (p : PortId) {g : Fld} (h : g.addr ≠ A.NET_PORT_RX_FRAMES p) : (s.heard p).get g = s.get g := by
  rw [State.get, s.rd_heard p h]; rfl

theorem State.flag_heard (s : State) (p : PortId) {g : Fld} (h : g.addr ≠ A.NET_PORT_RX_FRAMES p) : (s.heard p).flag g = s.flag g := by
  rw [State.flag, s.get_heard p h]; rfl

theorem State.heard_bitsKept (s : State) (p : PortId) : BitsKept [whole (A.NET_PORT_RX_FRAMES p)] s (s.heard p) := s.wrapReg_bitsKept _

theorem State.ownMac_heard (s : State) (p q : PortId) : (s.heard p).ownMac q = s.ownMac q := by
  unfold State.ownMac
  rw [s.rd_heard p (by simp only [A.NET_PORT_MAC_HI, A.NET_PORT_RX_FRAMES]; omega),
    s.rd_heard p (by simp only [A.NET_PORT_MAC_LO, A.NET_PORT_RX_FRAMES]; omega)]

theorem State.groupMac_heard (s : State) (p q : PortId) (m : Nat) : (s.heard p).groupMac q m = s.groupMac q m := by
  unfold State.groupMac
  rw [Bool.eq_iff_iff, List.any_eq_true, List.any_eq_true]
  refine exists_congr fun i => and_congr_right fun hi => ?_
  have hi := List.mem_range.mp hi
  rw [s.rd_heard p (by simp only [A.NET_PORT_GRP_HI, A.NET_PORT_RX_FRAMES]; omega),
    s.rd_heard p (by simp only [A.NET_PORT_GRP_LO, A.NET_PORT_RX_FRAMES]; omega)]

theorem State.isTransit_heard (s : State) (p : PortId) (f : NetFrame) : (s.heard p).isTransit f = s.isTransit f := by
  rw [State.isTransit, s.ownMac_heard, s.groupMac_heard]; rfl

theorem State.forwards_heard (s : State) (p : PortId) (f : NetFrame) (k : FwdKind) : (s.heard p).forwards f k = s.forwards f k := by
  have hcfg {g : Fld} (h : g.addr = A.NET_CFG) : (s.heard p).flag g = s.flag g :=
    s.flag_heard p (by rw [h]; simp only [A.NET_CFG, A.NET_PORT_RX_FRAMES]; omega)
  rw [State.forwards, hcfg (g := F.NET_CFG_FWD_AB) rfl, hcfg (g := F.NET_CFG_FWD_BA) rfl,
    s.flag_heard p (g := F.WT_CTRL_TC_EN) (by simp only [A.WT_CTRL, A.NET_PORT_RX_FRAMES]; omega),
    s.get_heard p (g := F.NET_CFG_ROLE) (by simp only [A.NET_CFG, A.NET_PORT_RX_FRAMES]; omega)]
  rfl

theorem State.ownIp_heard (s : State) (p : PortId) (f : NetFrame) : (s.heard p).ownIp f = s.ownIp f := by
  have h4 : (s.heard p).ownIp4 f.port = s.ownIp4 f.port := by
    unfold State.ownIp4
    rw [s.rd_heard p (by simp only [A.NET_PORT_IPV4, A.NET_PORT_RX_FRAMES]; omega)]
  have h6 : (s.heard p).ownIp6 f.port = s.ownIp6 f.port := by
    have hrd (i : Nat) (hi : i < 4) : (s.heard p).rd (A.NET_PORT_IPV6 f.port i) = s.rd (A.NET_PORT_IPV6 f.port i) :=
      s.rd_heard p (by simp only [A.NET_PORT_IPV6, A.NET_PORT_RX_FRAMES]; omega)
    unfold State.ownIp6
    simp only [List.range, List.range.loop, List.foldl, hrd 0 (by decide), hrd 1 (by decide), hrd 2 (by decide), hrd 3 (by decide)]
  unfold State.ownIp
  rw [h4, h6]
  simp only [s.groupMac_heard]

/-- Whether a message is forwarded does not rest on its stamp: of the kinds only a peer-delay message never is (R38). -/
theorem State.forwards_kind (s : State) (f : NetFrame) {k k' : FwdKind} (h : (k != .peer) = (k' != .peer)) :
    s.forwards f k = s.forwards f k' := by rw [State.forwards, State.forwards, h]

/-- A frame with a PTP message that the device hears goes to the device's own work on it, counted. -/
theorem State.ptpArrives_heard {h : PtpHdr} {kind : FwdKind} {k : State → FwdKind} (hh : HeardPtp h.frame kind s)
    (hk : ∀ u, (k u != .peer) = (kind != .peer)) (g : State → State) :
    s.ptpArrives h k g = .next (g (s.heard h.frame.port)) := by
  obtain ⟨hup, hlane, hbad, hptp, htransit, hcast, hip, hroom, hfwd⟩ := hh
  have hmac : s.macTake h.frame = (true, s.heard h.frame.port) := by
    simp only [State.macTake, State.macHears, hup, hlane, hbad]; rfl
  have hgroup (u : State) (x : FwdKind) (hx : u.forwards h.frame x = s.forwards h.frame kind) : u.forwardGroup h.frame x = u := by
    rw [State.forwardGroup, hx, if_neg]
    rw [← Bool.and_eq_true, hfwd]; exact Bool.false_ne_true
  have hclass : s.classify h.frame (fun s => if isPtp h.frame then k s else .plain) = (true, s.heard h.frame.port) := by
    unfold State.classify
    rw [hmac]
    simp only [Bool.not_true, Bool.false_eq_true, if_false, s.isTransit_heard, htransit, hptp, if_true]
    rw [hgroup _ _ ((s.forwards_heard _ _ _).trans (s.forwards_kind _ (hk _)))]
  unfold State.ptpArrives
  rw [hclass]
  have hroom' : (s.heard h.frame.port).partRoom h.frame true = true := hroom
  simp only [Bool.not_true, Bool.false_eq_true, if_false, hcast, hptp, s.ownIp_heard, hip, not_true_eq_false, or_self, hroom']

end Counted

/-! ### Which slots take a message (R34, R35, R39) -/

section Takes

variable {s t : State} {h : PtpHdr}

/-- The registers that say which messages slot `d` takes. -/
def filterRegs (d : Fin 2) : List Nat :=
  [A.WT_DOM_CFG d, A.WT_DOM_MASTER_ID0 d, A.WT_DOM_MASTER_ID1 d, A.WT_DOM_MASTER_PORT d]

theorem State.slotHears_congr {d : Fin 2} (hr : t.rd (A.WT_DOM_CFG d) = s.rd (A.WT_DOM_CFG d)) :
    t.slotHears d h = s.slotHears d h := by
  have hget (g : Fld) (hg : g.addr = A.WT_DOM_CFG d) : t.get g = s.get g := by rw [State.get, hg, hr, ← hg]; rfl
  unfold State.slotHears State.flag
  rw [hget (F.WT_DOM_CFG_ENABLE d) rfl, hget (F.WT_DOM_CFG_DOMAIN_NUM d) rfl, hget (F.WT_DOM_CFG_TRANSPORT d) rfl,
    hget (F.WT_DOM_CFG_PORT_SEL d) rfl]

theorem State.slotTakes_congr {d : Fin 2} (hr : ∀ a ∈ filterRegs d, t.rd a = s.rd a) : t.slotTakes d h = s.slotTakes d h := by
  rw [State.slotTakes, State.slotHears_congr (hr _ (by simp [filterRegs])), State.fromMaster, hr _ (by simp [filterRegs]),
    hr _ (by simp [filterRegs]), hr _ (by simp [filterRegs])]
  rfl

theorem State.slotRefuses_congr {d : Fin 2} (hr : t.rd (A.WT_DOM_CFG d) = s.rd (A.WT_DOM_CFG d))
    (hk : (t.slot d).keys = (s.slot d).keys) : t.slotRefuses d h = s.slotRefuses d h := by
  have hget : t.get (F.WT_DOM_CFG_REQUIRE_AUTH d) = s.get (F.WT_DOM_CFG_REQUIRE_AUTH d) := by rw [State.get, hr]; rfl
  unfold State.slotRefuses State.flag PtpSlot.authentic
  rw [hget, hk]

theorem State.slotTakes_hears {d : Fin 2} (ht : s.slotTakes d h = true) : s.slotHears d h = true := by
  rw [State.slotTakes, Bool.and_eq_true] at ht
  exact ht.1

theorem State.not_slotTakes {d : Fin 2} (hh : s.slotHears d h = false) : s.slotTakes d h = false := by
  rw [State.slotTakes, hh]; rfl

/-- The registers of a slot's filter are none that a port counts its frames in. -/
theorem filterRegs_ne (d : Fin 2) (p : PortId) : ∀ a ∈ filterRegs d, a ≠ A.NET_PORT_RX_FRAMES p := by
  revert d p; decide

theorem State.slotTakes_heard (s : State) (p : PortId) (d : Fin 2) (h : PtpHdr) : (s.heard p).slotTakes d h = s.slotTakes d h :=
  State.slotTakes_congr fun a ha => s.rd_heard p (filterRegs_ne d p a ha)

theorem State.slotHears_heard (s : State) (p : PortId) (d : Fin 2) (h : PtpHdr) : (s.heard p).slotHears d h = s.slotHears d h :=
  State.slotHears_congr (s.rd_heard p (filterRegs_ne d p _ (by simp [filterRegs])))

theorem State.slotRefuses_heard (s : State) (p : PortId) (d : Fin 2) (h : PtpHdr) :
    (s.heard p).slotRefuses d h = s.slotRefuses d h :=
  State.slotRefuses_congr (s.rd_heard p (filterRegs_ne d p _ (by simp [filterRegs]))) rfl

/-- The work of slot `d` on a message: one that lacks the AUTHENTICATION TLV it requires is counted (R39). -/
def State.slotWork (h : PtpHdr) (g : State → Fin 2 → State) (s : State) (d : Fin 2) : State :=
  if s.slotTakes d h then if s.slotRefuses d h then s.count (F.WT_DOM_STATUS_AUTH_FAIL d) else g s d else s

theorem State.forSlots_eq (s : State) (h : PtpHdr) (g : State → Fin 2 → State) :
    s.forSlots h (·.slotTakes · h) g = (s.slotWork h g 0).slotWork h g 1 := rfl

theorem State.slotWork_idle {d : Fin 2} (g : State → Fin 2 → State) (ht : s.slotTakes d h = false) : s.slotWork h g d = s := by
  simp [State.slotWork, ht]

theorem State.slotWork_takes {d : Fin 2} (g : State → Fin 2 → State) (ht : s.slotTakes d h = true)
    (hr : s.slotRefuses d h = false) : s.slotWork h g d = g s d := by simp [State.slotWork, ht, hr]

theorem State.slotWork_refuses {d : Fin 2} (g : State → Fin 2 → State) (ht : s.slotTakes d h = true)
    (hr : s.slotRefuses d h = true) : s.slotWork h g d = s.count (F.WT_DOM_STATUS_AUTH_FAIL d) := by
  simp [State.slotWork, ht, hr]

/-- Where the other slot does not take the message, neither before nor after, only slot `d` works on it. -/
theorem State.forSlots_one {d : Fin 2} {g : State → Fin 2 → State} (hs : ∀ e, e ≠ d → s.slotTakes e h = false)
    (ht : ∀ e, e ≠ d → (s.slotWork h g d).slotTakes e h = false) :
    s.forSlots h (·.slotTakes · h) g = s.slotWork h g d := by
  rw [s.forSlots_eq]
  have : d = 0 ∨ d = 1 := by omega
  obtain rfl | rfl := this
  · exact State.slotWork_idle g (ht 1 (by decide))
  · rw [State.slotWork_idle g (hs 0 (by decide))]

end Takes

/-! ### The work of a slot on a Sync and on a Follow_Up (R34 to R36, R40) -/

/-- Slot `d` has a valid Sync (R42). -/
def State.syncSeen (s : State) (h : PtpHdr) (d : Fin 2) : State :=
  (s.setSlot d { s.slot d with lastSeq := some h.seq, lastSync := s.wt.cycle, synced := true, timedOut := false }).clr
    (F.WT_DOM_STATUS_TIMEOUT d)

/-- What slot `d` makes of a Sync with receive stamp `stamp`. -/
def syncWork (h : PtpHdr) (twoStep : Bool) (origin stamp : Int) (s : State) (d : Fin 2) : State :=
  if (s.slot d).lastSeq == some h.seq && s.get (F.WT_DOM_CFG_PORT_SEL d) == 2 then s
  else
    let u := s.syncSeen h d
    State.askDelay (if twoStep then u.setSlot d { u.slot d with twoStep := some (h.seq, stamp, ptpCorr h) }
      else u.sample d (origin + ptpCorr h) stamp) d h.frame.port

/-- What slot `d` makes of a Follow_Up. -/
def followUpWork (h : PtpHdr) (origin : Int) (s : State) (d : Fin 2) : State :=
  match (s.slot d).twoStep with
  | some (seq, stamp, corr) =>
    if seq == h.seq then (s.setSlot d { s.slot d with twoStep := none }).sample d (origin + corr + ptpCorr h) stamp else s
  | none => s

section Messages

variable {s : State} {h : PtpHdr}

theorem State.rxStamp_heard (s : State) (p q : PortId) (x : Nat) : (s.heard p).rxStamp q x = s.rxStamp q x := by
  have hstay : (s.heard p).inStay = s.inStay := by
    rw [State.inStay, s.get_heard p (by simp only [A.PWR_STATUS, A.NET_PORT_RX_FRAMES]; omega)]; rfl
  unfold State.rxStamp State.portMode
  rw [hstay, s.get_heard p (g := F.NET_PORT_MODE_MODE q) (by simp only [A.NET_PORT_MODE, A.NET_PORT_RX_FRAMES]; omega),
    s.get_heard p (g := F.WT_PORT_TRIM_RX_TRIM q) (by simp only [A.WT_PORT_TRIM, A.NET_PORT_RX_FRAMES]; omega)]
  rfl

theorem execSync_heard (hh : HeardPtp h.frame .plain s) (twoStep : Bool) (origin : Int) (varLat : Nat) :
    exec (.sync h twoStep origin varLat) s = .next ((s.heard h.frame.port).forSlots h (·.slotTakes · h)
      (syncWork h twoStep origin (s.rxStamp h.frame.port varLat))) := by
  rw [← s.rxStamp_heard h.frame.port]
  change s.ptpArrives h (ptpEvent h varLat) (fun u => u.forSlots h (·.slotTakes · h)
    (syncWork h twoStep origin (u.rxStamp h.frame.port varLat))) = _
  exact State.ptpArrives_heard (k := ptpEvent h varLat) hh (fun _ => rfl) _

theorem execFollowUp_heard (hh : HeardPtp h.frame .plain s) (origin : Int) : exec (.followUp h origin) s =
    .next ((s.heard h.frame.port).forSlots h (·.slotTakes · h) (followUpWork h origin)) := by
  change s.ptpArrives h (fun _ => .plain) (fun u => u.forSlots h (·.slotTakes · h) (followUpWork h origin)) = _
  exact State.ptpArrives_heard hh (fun _ => rfl) _

end Messages

end Sys2Proof.Machine

namespace Sys2Proof.Machine

/-! ### The first slot that takes a message (R35, R39) -/

section First

variable {s : State} {h : PtpHdr} {r : Option (Fin 2)} {d : Fin 2}

/-- Slot `d` in the search for the first slot that takes a message and does not discard it. -/
def firstWork (takes : State → Fin 2 → Bool) (h : PtpHdr) (x : Option (Fin 2) × State) (d : Fin 2) : Option (Fin 2) × State :=
  if takes x.2 d then
    if x.2.slotRefuses d h then (x.1, x.2.count (F.WT_DOM_STATUS_AUTH_FAIL d)) else (x.1.or (some d), x.2)
  else x

theorem State.firstSlot_eq (s : State) (h : PtpHdr) (takes : State → Fin 2 → Bool) :
    s.firstSlot h takes = firstWork takes h (firstWork takes h (none, s) 0) 1 := rfl

theorem firstWork_idle (takes : State → Fin 2 → Bool) (hh : takes s d = false) : firstWork takes h (r, s) d = (r, s) := by
  simp [firstWork, hh]

theorem firstWork_takes (takes : State → Fin 2 → Bool) (hh : takes s d = true) (hr : s.slotRefuses d h = false) :
    firstWork takes h (r, s) d = (r.or (some d), s) := by simp [firstWork, hh, hr]

theorem firstWork_refuses (takes : State → Fin 2 → Bool) (hh : takes s d = true) (hr : s.slotRefuses d h = true) :
    firstWork takes h (r, s) d = (r, s.count (F.WT_DOM_STATUS_AUTH_FAIL d)) := by simp [firstWork, hh, hr]

/-- The count of a slot's failed authentications is in no register that a filter rests on. -/
theorem authFail_ne : ∀ d e : Fin 2, ∀ a ∈ filterRegs e, a ≠ A.WT_DOM_STATUS d := by decide

theorem State.slotHears_authFail (s : State) (d e : Fin 2) (h : PtpHdr) :
    (s.count (F.WT_DOM_STATUS_AUTH_FAIL d)).slotHears e h = s.slotHears e h :=
  State.slotHears_congr ((s.rd_count _ _).trans (s.rd_put_other _ (authFail_ne d e _ (by simp [filterRegs]))))

theorem State.slotTakes_authFail (s : State) (d e : Fin 2) (h : PtpHdr) :
    (s.count (F.WT_DOM_STATUS_AUTH_FAIL d)).slotTakes e h = s.slotTakes e h :=
  State.slotTakes_congr fun a ha => (s.rd_count _ _).trans (s.rd_put_other _ (authFail_ne d e a ha))

theorem State.slotRefuses_authFail (s : State) (d e : Fin 2) (h : PtpHdr) :
    (s.count (F.WT_DOM_STATUS_AUTH_FAIL d)).slotRefuses e h = s.slotRefuses e h :=
  State.slotRefuses_congr ((s.rd_count _ _).trans (s.rd_put_other _ (authFail_ne d e _ (by simp [filterRegs])))) rfl

/-- The message goes to slot `d`, of the slots that take it the first that does not discard it, where none discards it. -/
theorem State.firstSlot_takes (takes : State → Fin 2 → Bool) (hh : takes s d = true) (hr : s.slotRefuses d h = false)
    (hbefore : ∀ e, e < d → takes s e = false) (hafter : ∀ e, d < e → takes s e = true → s.slotRefuses e h = false) :
    s.firstSlot h takes = (some d, s) := by
  rw [s.firstSlot_eq]
  have : d = 0 ∨ d = 1 := by omega
  obtain rfl | rfl := this
  · rw [firstWork_takes takes hh hr]
    cases h1 : takes s 1 with
    | false => exact firstWork_idle takes h1
    | true => exact firstWork_takes takes h1 (hafter 1 (by decide) h1)
  · rw [firstWork_idle takes (hbefore 0 (by decide)), firstWork_takes takes hh hr]; rfl

/-- The one slot that listens discards the message. -/
theorem State.firstSlot_refused (hh : s.slotHears d h = true) (hr : s.slotRefuses d h = true)
    (hother : ∀ e, e ≠ d → s.slotHears e h = false) :
    s.firstSlot h (·.slotHears · h) = (none, s.count (F.WT_DOM_STATUS_AUTH_FAIL d)) := by
  rw [s.firstSlot_eq]
  have : d = 0 ∨ d = 1 := by omega
  obtain rfl | rfl := this
  · rw [firstWork_refuses (·.slotHears · h) hh hr]
    exact firstWork_idle (·.slotHears · h) ((s.slotHears_authFail 0 1 h).trans (hother 1 (by decide)))
  · rw [firstWork_idle (·.slotHears · h) (hother 0 (by decide)), firstWork_refuses (·.slotHears · h) hh hr]

/-- Where both slots listen and slot 1 discards the message, it counts it, whatever slot 0 does. -/
theorem State.firstSlot_second (hh : ∀ e, s.slotHears e h = true) (hr : s.slotRefuses 1 h = true) :
    ∃ r, ∃ u : State, s.firstSlot h (·.slotHears · h) = (r, u.count (F.WT_DOM_STATUS_AUTH_FAIL 1)) ∧
      u.get (F.WT_DOM_STATUS_AUTH_FAIL 1) = s.get (F.WT_DOM_STATUS_AUTH_FAIL 1) := by
  rw [s.firstSlot_eq]
  cases h0 : s.slotRefuses 0 h with
  | false =>
    refine ⟨some 0, s, ?_, rfl⟩
    rw [firstWork_takes (·.slotHears · h) (hh 0) h0, firstWork_refuses (·.slotHears · h) (hh 1) hr]; rfl
  | true =>
    rw [firstWork_refuses (·.slotHears · h) (hh 0) h0]
    refine ⟨_, _, firstWork_refuses (·.slotHears · h) ((s.slotHears_authFail 0 1 h).trans (hh 1))
      ((s.slotRefuses_authFail 0 1 h).trans hr), ?_⟩
    exact (s.count_bitsKept (F.WT_DOM_STATUS_AUTH_FAIL 0)).get_apart (by decide) (by decide)

end First

/-! ### Receive buffers (R308) -/

section Buffer

variable {s : State}

/-- The bytes of a buffer lie in its words alone. -/
theorem State.fillMrx_kept (s : State) (b i : Nat) (l : List Byte) :
    s.fillMrx b i l = { s with regs := (s.fillMrx b i l).regs } ∧ ∀ a, a < 0xB8000 → (s.fillMrx b i l).rd a = s.rd a := by
  have hwr (u : State) (i : Nat) (v : Word) (a : Nat) (ha : a < 0xB8000) : (u.wr (A.NET_MRX_BUF b i) v).rd a = u.rd a :=
    u.rd_wr_other v (by simp only [A.NET_MRX_BUF]; omega)
  induction s, i, l using State.fillMrx.induct b with
  | case1 s i b0 b1 b2 b3 t ih =>
    obtain ⟨h1, h2⟩ := ih
    rw [State.fillMrx]
    exact ⟨h1, fun a ha => (h2 a ha).trans (hwr _ _ _ a ha)⟩
  | case2 s i b0 b1 b2 => exact ⟨rfl, hwr _ _ _⟩
  | case3 s i b0 b1 => exact ⟨rfl, hwr _ _ _⟩
  | case4 s i b0 => exact ⟨rfl, hwr _ _ _⟩
  | case5 s i => exact ⟨rfl, fun _ _ => rfl⟩

/-- Buffer `b` allocated and filled, before SQS is told. -/
def State.filled (s : State) (b : Fin 32) (kind : Nat) (port : PortId) (m : MrxBuf) (bytes : List Byte) : State :=
  (State.fillMrx { s with net := { s.net with mrx := s.net.mrx.set b (some m) } } b 0 bytes).wr (A.NET_MRX_INFO b)
    (BitVec.ofNat 32 (bytes.length + kind * 2 ^ 12 + port.val * 2 ^ 16))

theorem State.takeMrx_eq (s : State) (b : Fin 32) (kind : Nat) (port : PortId) (m : MrxBuf) (bytes : List Byte) (x y : Nat) :
    s.takeMrx b kind port m bytes x y = (s.filled b kind port m bytes).event sqsQ x y false b := rfl

theorem State.filled_spec (s : State) (b : Fin 32) (kind : Nat) (port : PortId) (m : MrxBuf) (bytes : List Byte) :
    let u := s.filled b kind port m bytes
    u = { s with regs := u.regs, net := { s.net with mrx := s.net.mrx.set b (some m) } } ∧
      u.rd (A.NET_MRX_INFO b) = BitVec.ofNat 32 (bytes.length + kind * 2 ^ 12 + port.val * 2 ^ 16) ∧
      ∀ a, a < 0xB0000 → u.rd a = s.rd a := by
  obtain ⟨h1, h2⟩ := State.fillMrx_kept { s with net := { s.net with mrx := s.net.mrx.set b (some m) } } b 0 bytes
  unfold State.filled
  generalize State.fillMrx { s with net := { s.net with mrx := s.net.mrx.set b (some m) } } b 0 bytes = v at h1 h2
  refine ⟨by rw [h1]; rfl, v.rd_wr_same _ _, fun a ha => ?_⟩
  rw [v.rd_wr_other _ (by simp only [A.NET_MRX_INFO]; omega), h2 a (by omega)]
  rfl

/-- A message in a receive buffer, with its event to SQS (R308). -/
theorem State.takeMrx_spec (s : State) (b : Fin 32) (kind : Nat) (port : PortId) (m : MrxBuf) (bytes : List Byte) (x y : Nat) :
    let t := s.takeMrx b kind port m bytes x y
    (t.net.mrx[b]).isSome = true ∧ (∀ c : Fin 32, c ≠ b → t.net.mrx[c] = s.net.mrx[c]) ∧
      t.rd (A.NET_MRX_INFO b) = BitVec.ofNat 32 (bytes.length + kind * 2 ^ 12 + port.val * 2 ^ 16) ∧
      Told 4 x y false b s t ∧ t = { s with regs := t.regs, bus := t.bus, seqs := t.seqs, net := t.net } ∧
      ∀ a, a < 0xB0000 → a ≠ A.SEQ_EVQ_STATUS 4 → t.rd a = s.rd a := by
  obtain ⟨h1, h2, h3⟩ := s.filled_spec b kind port m bytes
  rw [s.takeMrx_eq]
  generalize s.filled b kind port m bytes = u at *
  have htell := u.event_tells sqsQ x y false b
  have htold := u.event_told sqsQ x y false b
  have hrd {a : Nat} (ha : a ≠ A.SEQ_EVQ_STATUS 4) : (u.event sqsQ x y false b).rd a = u.rd a := u.rd_event ha
  generalize u.event sqsQ x y false b = t at *
  have hnet : t.net = { s.net with mrx := s.net.mrx.set b (some m) } := by rw [htell.1, h1]
  refine ⟨?_, fun c hc => ?_, ?_, ?_, ?_, fun a ha hne => (hrd hne).trans (h3 a ha)⟩
  · rw [hnet]; simp
  · have hne : b.val ≠ c.val := fun he => hc (Fin.ext he.symm)
    rw [hnet]; simp [Vector.getElem_set_ne, hne]
  · rw [hrd (by simp only [A.NET_MRX_INFO, A.SEQ_EVQ_STATUS]; omega), h2]
  · exact htold.of_same (by rw [h1]) (by rw [h1]) (h3 _ (by decide))
  · have h := htell.1
    rw [h1] at h
    rw [hnet]; exact h

theorem State.freeMrx_lowest {b : Fin 32} (hb : (s.net.mrx[b]).isNone = true)
    (hlow : ∀ c : Fin 32, c < b → (s.net.mrx[c]).isSome = true) : s.freeMrx = some b := by
  have hlen : (fins 32).length = 32 := List.length_finRange
  have hget (i : Nat) (hi : i < (fins 32).length) : (fins 32)[i] = ⟨i, hlen ▸ hi⟩ := by simp [fins]
  refine List.find?_eq_some_iff_getElem.mpr ⟨hb, b, by rw [hlen]; exact b.isLt, hget _ _, fun j hj => ?_⟩
  have := hlow ⟨j, by omega⟩ hj
  rw [hget]
  simpa using this

theorem State.freeMrx_none (h : ∀ c : Fin 32, (s.net.mrx[c]).isSome = true) : s.freeMrx = none :=
  List.find?_eq_none.mpr fun c _ => by simpa [Option.isSome_iff_ne_none] using h c

end Buffer

/-! ### ANNOUNCE (R35, R308) -/

/-- What becomes of a message that slot `r` passes to SQS, or that none does. -/
def State.passed (s : State) (h : PtpHdr) (body : List Byte) (r : Option (Fin 2)) : State :=
  match r with
  | some d =>
    if 512 < body.length then s.countReg A.NET_MRX_DROP
    else
      match s.freeMrx with
      | some b => s.takeMrx b 1 h.frame.port { reply := none, opcode := 0, tag := 0 } body 0x21 d
      | none => s.countReg A.NET_MRX_DROP
  | none => s

section Announce

variable {s : State} {h : PtpHdr} {body : List Byte}

theorem execAnnounce_heard (hh : HeardPtp h.frame .plain s) : exec (.announce h body) s =
    .next (((s.heard h.frame.port).firstSlot h (·.slotHears · h)).2.passed h body
      ((s.heard h.frame.port).firstSlot h (·.slotHears · h)).1) := by
  change s.ptpArrives h (fun _ => .plain) (fun u => (u.firstSlot h (·.slotHears · h)).2.passed h body
    (u.firstSlot h (·.slotHears · h)).1) = _
  exact State.ptpArrives_heard hh (fun _ => rfl) _

theorem State.passed_drops {d : Fin 2} (h512 : 512 < body.length ∨ ∀ c : Fin 32, (s.net.mrx[c]).isSome = true) :
    s.passed h body (some d) = s.countReg A.NET_MRX_DROP := by
  unfold State.passed
  dsimp only
  split
  · rfl
  · next hlen => rw [State.freeMrx_none (h512.resolve_left hlen)]

theorem State.passed_takes {d : Fin 2} {b : Fin 32} (hlen : body.length ≤ 512) (hb : s.freeMrx = some b) :
    s.passed h body (some d) = s.takeMrx b 1 h.frame.port { reply := none, opcode := 0, tag := 0 } body 0x21 d := by
  unfold State.passed
  dsimp only
  rw [if_neg (by omega), hb]

/-- A message passed to SQS or dropped leaves the count of failed authentications alone. -/
theorem State.get_passed (s : State) (h : PtpHdr) (body : List Byte) (r : Option (Fin 2)) {f : Fld} (hf : f.addr < 0x20000) :
    (s.passed h body r).get f = s.get f := by
  have hdrop : (s.countReg A.NET_MRX_DROP).get f = s.get f := by
    rw [State.get, State.countReg, State.rd_count, State.rd_put_other _ _ (by simp only [A.NET_MRX_DROP]; omega)]; rfl
  unfold State.passed
  split
  · split
    · exact hdrop
    · split
      · next b _ =>
        obtain ⟨-, -, -, -, -, hrd⟩ := s.takeMrx_spec b 1 h.frame.port { reply := none, opcode := 0, tag := 0 } body 0x21 (by assumption : Fin 2).val
        rw [State.get, hrd _ (by omega) (by simp only [A.SEQ_EVQ_STATUS]; omega)]; rfl
      · exact hdrop
  · rfl

/-- The count of a failed authentication, after the frame's own count. -/
theorem State.authFail_spec (s : State) (p : PortId) (d : Fin 2) : let t := (s.heard p).count (F.WT_DOM_STATUS_AUTH_FAIL d)
    OnlyRegs [A.NET_PORT_RX_FRAMES p, A.WT_DOM_STATUS d] s t ∧
      t.get (F.WT_DOM_STATUS_AUTH_FAIL d) =
        min (s.get (F.WT_DOM_STATUS_AUTH_FAIL d) + 1) (2 ^ (F.WT_DOM_STATUS_AUTH_FAIL d).w - 1) := by
  refine ⟨⟨?_, ?_⟩, ?_⟩
  · exact OnlyCycle.trans ⟨rfl, rfl⟩ (State.count_onlyCycle _ _)
  · exact (((s.heard_bitsKept p).mono (m := [whole (A.NET_PORT_RX_FRAMES p), F.WT_DOM_STATUS_AUTH_FAIL d]) (by simp)).trans
      ((State.count_bitsKept _ _).mono (by simp))).regsKept (by simp [whole])
  · rw [State.get_count _ (by simp), s.get_heard p (by simp only [A.WT_DOM_STATUS, A.NET_PORT_RX_FRAMES]; omega)]

/-- A message that lacks the AUTHENTICATION TLV, for the one slot that would work on it. -/
theorem State.forSlots_refused {d : Fin 2} (g : State → Fin 2 → State) (ht : s.slotTakes d h = true)
    (hother : ∀ e, e ≠ d → s.slotTakes e h = false) (hr : s.slotRefuses d h = true) :
    s.forSlots h (·.slotTakes · h) g = s.count (F.WT_DOM_STATUS_AUTH_FAIL d) := by
  rw [State.forSlots_one hother, State.slotWork_refuses g ht hr]
  intro e he
  rw [State.slotWork_refuses g ht hr, State.slotTakes_authFail]
  exact hother e he

end Announce

/-- Settles O18: an Announce goes to the lowest free buffer or is dropped; without its AUTHENTICATION TLV a message is counted. -/
theorem ptpFilter : Obligations.PtpFilter := by
  intro s d h body origin varLat heard
  have hfirst (hh : heard) (hr : s.slotRefuses d h = false) :
      exec (.announce h body) s = .next ((s.heard h.frame.port).passed h body (some d)) := by
    obtain ⟨hptp, hd, hbefore, hafter⟩ := hh
    rw [execAnnounce_heard hptp, State.firstSlot_takes (d := d) (·.slotHears · h)]
    · exact (s.slotHears_heard _ d h).trans hd
    · rw [s.slotRefuses_heard]; exact hr
    · exact fun e he => (s.slotHears_heard _ e h).trans (hbefore e he)
    · exact fun e he hx => (s.slotRefuses_heard _ e h).trans (hafter e he ((s.slotHears_heard _ e h).symm.trans hx))
  refine ⟨fun hh hr hlen b hb hlow => ?_, fun hh hr hdrop => ?_, fun hptp hall hr => ?_, fun hptp ht hother hreq hauth c hc => ?_⟩
  · rw [hfirst hh hr, State.passed_takes hlen (State.freeMrx_lowest (s := s.heard h.frame.port) hb hlow)]
    obtain ⟨h1, h2, h3, h4, h5, -⟩ := (s.heard h.frame.port).takeMrx_spec b 1 h.frame.port { reply := none, opcode := 0, tag := 0 }
      body 0x21 d
    refine ⟨_, rfl, h1, h2, by rw [h3]; rfl, h4.of_same rfl rfl ?_, h5⟩
    exact s.rd_heard _ (by simp only [A.SEQ_EVQ_STATUS, A.NET_PORT_RX_FRAMES]; omega)
  · rw [hfirst hh hr, State.passed_drops (s := s.heard h.frame.port) hdrop]
    refine ⟨_, rfl, ⟨OnlyCycle.trans ⟨rfl, rfl⟩ (State.count_onlyCycle _ _), ?_⟩, ?_⟩
    · exact (((s.heard_bitsKept _).mono (m := [whole (A.NET_PORT_RX_FRAMES h.frame.port), whole A.NET_MRX_DROP]) (by simp)).trans
        ((State.countReg_bitsKept _ _).mono (by simp))).regsKept (by simp [whole])
    · rw [State.rd_countReg_same, s.rd_heard _ (by simp only [A.NET_MRX_DROP, A.NET_PORT_RX_FRAMES]; omega)]
  · obtain ⟨r, u, hfs, hu⟩ := State.firstSlot_second (s := s.heard h.frame.port)
      (fun e => (s.slotHears_heard _ e h).trans (hall e)) ((s.slotRefuses_heard _ 1 h).trans hr)
    refine ⟨_, execAnnounce_heard hptp, ?_⟩
    rw [hfs, State.get_passed _ _ _ _ (by decide), State.get_count _ (by simp), hu,
      s.get_heard _ (by simp only [A.WT_DOM_STATUS, A.NET_PORT_RX_FRAMES]; omega)]
  · have hrefuse : s.slotRefuses d h = true := by rw [State.slotRefuses, hreq, hauth]; rfl
    have hslots (g : State → Fin 2 → State) : (s.heard h.frame.port).forSlots h (·.slotTakes · h) g =
        (s.heard h.frame.port).count (F.WT_DOM_STATUS_AUTH_FAIL d) :=
      State.forSlots_refused g ((s.slotTakes_heard _ d h).trans ht)
        (fun e he => (s.slotTakes_heard _ e h).trans (State.not_slotTakes (hother e he))) ((s.slotRefuses_heard _ d h).trans hrefuse)
    refine ⟨(s.heard h.frame.port).count (F.WT_DOM_STATUS_AUTH_FAIL d), ?_, s.authFail_spec h.frame.port d⟩
    obtain rfl | rfl | rfl | rfl := hc
    · rw [execSync_heard hptp, hslots]
    · rw [execSync_heard hptp, hslots]
    · rw [execFollowUp_heard hptp, hslots]
    · rw [execAnnounce_heard hptp, State.firstSlot_refused ((s.slotHears_heard _ d h).trans (State.slotTakes_hears ht))
        ((s.slotRefuses_heard _ d h).trans hrefuse) (fun e he => (s.slotHears_heard _ e h).trans (hother e he))]
      rfl

end Sys2Proof.Machine

namespace Sys2Proof.Machine

/-! ### What a PTP message changes: its slot, and what waits for a transmitter -/

/-- Only slot `d` changes, of the registers bits of the fields `l`, and what waits for the transmitters. -/
structure SlotMoves (d : Fin 2) (l : List Fld) (s t : State) : Prop where
  frame : t = { s with regs := t.regs, wt := t.wt, free := t.free, net := { s.net with tx := t.net.tx } }
  wt    : t.wt = { s.wt with slots := t.wt.slots }
  slots : ∀ e, e ≠ d → t.slot e = s.slot e
  bits  : BitsKept l s t

section SlotMoves

variable {s t u : State} {d : Fin 2} {l m : List Fld}

theorem SlotMoves.trans (h : SlotMoves d l s t) (h' : SlotMoves d l t u) : SlotMoves d l s u := by
  refine ⟨?_, ?_, fun e he => (h'.slots e he).trans (h.slots e he), h.bits.trans h'.bits⟩
  · have h1 := h.frame
    have h2 := h'.frame
    rw [h1] at h2
    exact h2
  · have h1 := h.wt
    have h2 := h'.wt
    rw [h1] at h2
    exact h2

theorem SlotMoves.mono (hs : l ⊆ m) (h : SlotMoves d l s t) : SlotMoves d m s t := ⟨h.frame, h.wt, h.slots, h.bits.mono hs⟩

theorem SlotMoves.wall (h : SlotMoves d l s t) : t.wt.wall = s.wt.wall := by rw [h.wt]
theorem SlotMoves.dHeld (h : SlotMoves d l s t) : t.wt.dHeld = s.wt.dHeld := by rw [h.wt]
theorem SlotMoves.cycle (h : SlotMoves d l s t) : t.wt.cycle = s.wt.cycle := by rw [h.wt]

theorem SlotMoves.get (h : SlotMoves d l s t) {g : Fld} (hg : g.lo + g.w ≤ 32) (ha : apart l g = true) : t.get g = s.get g :=
  h.bits.get_apart hg ha

theorem SlotMoves.flag (h : SlotMoves d l s t) {g : Fld} (hg : g.lo + g.w ≤ 32) (ha : apart l g = true) : t.flag g = s.flag g :=
  h.bits.flag_apart hg ha

/-- The other slot still does not take the message. -/
theorem SlotMoves.slotTakes (h : SlotMoves d l s t) {e : Fin 2} {x : PtpHdr} (hl : ∀ f ∈ l, ∀ a ∈ filterRegs e, f.addr ≠ a) :
    t.slotTakes e x = s.slotTakes e x := State.slotTakes_congr fun a ha => h.bits.rd_eq fun f hf => hl f hf a ha

theorem State.heard_slotMoves (s : State) (p : PortId) (d : Fin 2) :
    SlotMoves d [whole (A.NET_PORT_RX_FRAMES p)] s (s.heard p) := ⟨rfl, rfl, fun _ _ => rfl, s.heard_bitsKept p⟩

theorem State.setSlot_slotMoves (s : State) (d : Fin 2) (p : PtpSlot) : SlotMoves d [] s (s.setSlot d p) :=
  ⟨rfl, rfl, fun _ he => s.slot_setSlot_other p he, .of_regs rfl⟩

theorem State.put_slotMoves (s : State) (d : Fin 2) (f : Fld) (v : Nat) : SlotMoves d [f] s (s.put f v) :=
  ⟨rfl, rfl, fun _ _ => rfl, s.put_bitsKept f v⟩

theorem State.putSigned31_slotMoves (s : State) (d : Fin 2) (a : Nat) (x : Int) : SlotMoves d [whole a] s (s.putSigned31 a x) := by
  refine ⟨?_, ?_, fun e _ => State.slot_of_wt (s.putSigned31_wt a x) e, s.putSigned31_bitsKept a x⟩
  · obtain ⟨v, f, h⟩ := s.putSigned31_eq a x
    rw [h]; rfl
  · rw [s.putSigned31_wt a x]

theorem State.putSigned31_net (s : State) (a : Nat) (x : Int) : (s.putSigned31 a x).net = s.net := by
  obtain ⟨v, f, h⟩ := s.putSigned31_eq a x
  rw [h]; rfl

/-- A frame waits for its port's transmitter, behind those that wait already (R303). -/
theorem State.waitTx_spec (s : State) (p : PortId) (x : TxItem) : let t := s.waitTx p x
    t = { s with net := { s.net with tx := t.net.tx } } ∧ t.txPort (otherPort p) = s.txPort (otherPort p) ∧
      t.txPort p = { s.txPort p with queue := (s.txPort p).queue ++ [x] } := by
  have hne : p.val ≠ (otherPort p).val := by revert p; decide
  refine ⟨rfl, ?_, ?_⟩
  · simp [State.waitTx, State.setTx, State.txPort, Vector.getElem_set_ne, hne]
  · simp [State.waitTx, State.setTx, State.txPort]

theorem State.waitTx_slotMoves (s : State) (d : Fin 2) (p : PortId) (x : TxItem) : SlotMoves d [] s (s.waitTx p x) :=
  ⟨rfl, rfl, fun _ _ => rfl, .of_regs rfl⟩

end SlotMoves

/-! ### A complete Sync measurement of the slot that drives wall time (R40, R41) -/

/-- What slot `d` shows after a measurement with `t1` and `t2`, in the words of R40 and R41. -/
def Measures (s : State) (d : Fin 2) (p : PtpSlot) (t1 t2 : Int) (t : State) : Prop :=
  (t.slot d).lastSyncT = some (t1, t2) ∧ ∀ mpd, p.mpd = some mpd →
    let lockNs : Int := s.get F.WT_LOCK_CFG_LOCK_NS * 65536
    let raw := t1 + mpd + signed 32 (s.rd (A.WT_DOM_ASYM d)).toNat * 256 - t2
    let err := raw - s.wt.dHeld / 2 ^ 32
    (t.slot d).offset = some raw ∧ (t.slot d).sum = p.sum + err ∧
    (t.slot d).adj = s.get F.WT_SERVO_CFG_KP * err * 16 + s.get F.WT_SERVO_CFG_KI * (p.sum + err) ∧
    ((t.slot d).locked = true ↔ if p.locked = true then -(4 * lockNs) < err ∧ err < 4 * lockNs
      else -lockNs < err ∧ err < lockNs ∧ s.get F.WT_LOCK_CFG_LOCK_COUNT ≤ p.small + 1) ∧
    t.flag (F.WT_DOM_STATUS_LOCKED d) = (t.slot d).locked

/-- Slot `d` after a measurement with `t1` and `t2` that finds it `raw` from wall time, an error of `err` to its servo. -/
def State.measured (s : State) (d : Fin 2) (t1 t2 raw err : Int) (driving : Bool) : PtpSlot :=
  let p := s.slot d
  let sum := p.sum + err
  let adj := s.get F.WT_SERVO_CFG_KP * err * 16 + s.get F.WT_SERVO_CFG_KI * sum
  let lockNs : Int := s.get F.WT_LOCK_CFG_LOCK_NS * 65536
  let inside := decide (-lockNs < err) && decide (err < lockNs)
  let small := if inside then p.small + 1 else 0
  let lost := decide (4 * lockNs ≤ err) || decide (err ≤ -(4 * lockNs))
  { p with
    lastSyncT := some (t1, t2), offset := some raw, sum := sum, adj := adj, adjHist := (adj :: p.adjHist).take 64, small := small
    locked := if p.locked then !lost else inside && decide (s.get F.WT_LOCK_CFG_LOCK_COUNT ≤ small)
    lockedAt := if p.locked then p.lockedAt else s.wt.cycle
    track := if driving then p.track else some (p.track.getD (raw * 2 ^ 32)) }

/-- D as a measurement of the standby slot `raw` from wall time makes it (R46). -/
def State.dFiltered (s : State) (raw : Int) : State :=
  match (s.slot s.activeSlot).offset with
  | some o =>
    let x := raw - o
    let f := match s.wt.dFilt with
      | some y => y + (x - y) / 16
      | none => x
    { s with wt := { s.wt with dFilt := some f } }.putSigned31 A.WT_DSW_OFFSET (f / 256)
  | none => s

/-- The registers that a measurement writes. -/
def sampleFields (d : Fin 2) : List Fld := [F.WT_DOM_STATUS_LOCKED d, whole (A.WT_DOM_OFFSET d)]

theorem apart_sample : ∀ d : Fin 2, ∀ g ∈ [F.WT_STATUS_ACTIVE, F.WT_STATUS_LEASH], apart (sampleFields d) g = true := by decide

section Sample

variable {s : State} {d : Fin 2} {t1 t2 mpd : Int}

theorem State.leashEval_leashed (h : s.leash = .leashed) : s.leashEval = s := by
  unfold State.leashEval
  rw [h]

/-- The measurement entered in the slot and its registers, before the Leash looks at it. -/
def State.entered (s : State) (d : Fin 2) (p : PtpSlot) (x : Int) : State :=
  ((s.setSlot d p).put (F.WT_DOM_STATUS_LOCKED d) (b2n p.locked)).putSigned31 (A.WT_DOM_OFFSET d) x

theorem State.entered_slotMoves (s : State) (d : Fin 2) (p : PtpSlot) (x : Int) : SlotMoves d (sampleFields d) s (s.entered d p x) :=
  ((s.setSlot_slotMoves d p).mono (List.nil_subset _)).trans (((State.put_slotMoves _ d _ _).mono (by simp [sampleFields])).trans
    ((State.putSigned31_slotMoves _ d _ _).mono (by simp [sampleFields])))

theorem State.slot_entered (s : State) (d : Fin 2) (p : PtpSlot) (x : Int) : (s.entered d p x).slot d = p := by
  exact (State.slot_of_wt (State.putSigned31_wt _ _ _) d).trans (s.slot_setSlot_same d p)

theorem State.flag_entered (s : State) (d : Fin 2) (p : PtpSlot) (x : Int) :
    (s.entered d p x).flag (F.WT_DOM_STATUS_LOCKED d) = p.locked := by
  unfold State.entered
  rw [(State.putSigned31_bitsKept _ _ _).flag_eq (by simp) (by simp [whole]), State.flag, State.get_put_same _ _ (by simp)]
  cases p.locked <;> rfl

theorem State.entered_net (s : State) (d : Fin 2) (p : PtpSlot) (x : Int) : (s.entered d p x).net = s.net := State.putSigned31_net _ _ _

/-- A measurement of a slot with a mean path delay (R40, R41). -/
theorem State.sample_eq (hm : (s.slot d).mpd = some mpd) : s.sample d t1 t2 =
    let raw := t1 + mpd + signed 32 (s.rd (A.WT_DOM_ASYM d)).toNat * 256 - t2
    let driving := s.disciplined && d == s.activeSlot
    let err := if driving then raw - s.wt.dHeld / 2 ^ 32 else match (s.slot d).track with
      | some x => raw - x / 2 ^ 32
      | none => 0
    let u := s.entered d (s.measured d t1 t2 raw err driving) (raw / 256)
    (if d == u.standbySlot then u.dFiltered raw else u).leashEval := by
  unfold State.sample
  change (match (s.slot d).mpd with | none => _ | some mpd => _) = _
  rw [hm]
  unfold State.measured
  dsimp only
  rw [hm]
  rfl

/-- A measurement without a mean path delay only keeps its times. -/
theorem State.sample_none (hm : (s.slot d).mpd = none) :
    s.sample d t1 t2 = s.setSlot d { s.slot d with lastSyncT := some (t1, t2) } := by
  unfold State.sample
  change (match (s.slot d).mpd with | none => _ | some mpd => _) = _
  rw [hm]

/-- A measurement of the slot that drives wall time, in LEASHED. -/
theorem State.sample_leashed (hl : s.leash = .leashed) (ha : s.activeSlot = d) (hm : (s.slot d).mpd = some mpd) :
    let raw := t1 + mpd + signed 32 (s.rd (A.WT_DOM_ASYM d)).toNat * 256 - t2
    s.sample d t1 t2 = s.entered d (s.measured d t1 t2 raw (raw - s.wt.dHeld / 2 ^ 32) true) (raw / 256) := by
  intro raw
  have hdrive : (s.disciplined && d == s.activeSlot) = true := by rw [ha, State.disciplined, hl]; simp
  rw [State.sample_eq hm, hdrive]
  dsimp only
  rw [if_pos rfl]
  change (if (d == (s.entered d (s.measured d t1 t2 raw (raw - s.wt.dHeld / 2 ^ 32) true) (raw / 256)).standbySlot) = true
    then _ else s.entered d (s.measured d t1 t2 raw (raw - s.wt.dHeld / 2 ^ 32) true) (raw / 256)).leashEval = _
  have hmoves := s.entered_slotMoves d (s.measured d t1 t2 raw (raw - s.wt.dHeld / 2 ^ 32) true) (raw / 256)
  generalize s.entered d (s.measured d t1 t2 raw (raw - s.wt.dHeld / 2 ^ 32) true) (raw / 256) = u at hmoves ⊢
  have hleash := State.leash_congr (hmoves.get (g := F.WT_STATUS_LEASH) (by decide) (apart_sample d _ (by simp)))
  have hstandby := State.standbySlot_congr (hmoves.flag (g := F.WT_STATUS_ACTIVE) (by decide) (apart_sample d _ (by simp)))
  have hne : ¬ (d == u.standbySlot) = true := by rw [hstandby, ← ha]; simpa using s.standbySlot_ne.symm
  rw [if_neg hne]
  exact State.leashEval_leashed (hleash.trans hl)

/-- When a slot is locked after a measurement (R41). -/
theorem State.locked_measured (s : State) (d : Fin 2) (t1 t2 raw err : Int) (driving : Bool) :
    let lockNs : Int := s.get F.WT_LOCK_CFG_LOCK_NS * 65536
    (s.measured d t1 t2 raw err driving).locked = true ↔ if (s.slot d).locked = true then -(4 * lockNs) < err ∧ err < 4 * lockNs
      else -lockNs < err ∧ err < lockNs ∧ s.get F.WT_LOCK_CFG_LOCK_COUNT ≤ (s.slot d).small + 1 := by
  intro lockNs
  change (if (s.slot d).locked = true then !(decide (4 * lockNs ≤ err) || decide (err ≤ -(4 * lockNs)))
    else (decide (-lockNs < err) && decide (err < lockNs)) && decide (s.get F.WT_LOCK_CFG_LOCK_COUNT ≤
      if (decide (-lockNs < err) && decide (err < lockNs)) = true then (s.slot d).small + 1 else 0)) = true ↔ _
  generalize lockNs = x
  cases (s.slot d).locked with
  | true => simp; omega
  | false =>
    by_cases h : -x < err ∧ err < x
    · simp [h]
    · have hd : (decide (-x < err) && decide (err < x)) = false := by simpa using h
      rw [hd]
      simp
      omega

/-- What a measurement of the slot that drives wall time leaves, in LEASHED. -/
theorem State.sample_spec (hl : s.leash = .leashed) (ha : s.activeSlot = d) (t1 t2 : Int) : let t := s.sample d t1 t2
    SlotMoves d (sampleFields d) s t ∧ t.net = s.net ∧ Measures s d (s.slot d) t1 t2 t ∧
      (t.slot d).lastSync = (s.slot d).lastSync ∧ (t.slot d).timedOut = (s.slot d).timedOut ∧
      (t.slot d).twoStep = (s.slot d).twoStep := by
  cases hm : (s.slot d).mpd with
  | none =>
    rw [State.sample_none hm]
    refine ⟨(s.setSlot_slotMoves d _).mono (List.nil_subset _), rfl, ⟨?_, fun mpd h => ?_⟩, ?_, ?_, ?_⟩
    · rw [s.slot_setSlot_same]
    · exact nomatch hm.symm.trans h
    all_goals rw [s.slot_setSlot_same]
  | some mpd =>
    rw [State.sample_leashed hl ha hm]
    refine ⟨s.entered_slotMoves d _ _, s.entered_net d _ _, ⟨?_, fun mpd' h => ?_⟩, ?_, ?_, ?_⟩
    · rw [s.slot_entered]; rfl
    · obtain rfl : mpd = mpd' := Option.some.inj (hm.symm.trans h)
      rw [s.slot_entered, s.flag_entered]
      exact ⟨rfl, rfl, rfl, s.locked_measured d t1 t2 _ _ true, rfl⟩
    all_goals rw [s.slot_entered]; rfl

end Sample

/-! ### A message that one slot takes -/

/-- The registers that a PTP message by port `p` of slot `d` writes. -/
def ptpFields (p : PortId) (d : Fin 2) : List Fld :=
  whole (A.NET_PORT_RX_FRAMES p) :: F.WT_DOM_STATUS_TIMEOUT d :: whole (A.WT_DOM_MPD d) :: sampleFields d

theorem ptpFields_ne : ∀ (p : PortId) (d e : Fin 2), ∀ f ∈ ptpFields p d, ∀ a ∈ filterRegs e ++
    [A.WT_LOCK_CFG, A.WT_SERVO_CFG, A.WT_DOM_ASYM e], f.addr ≠ a := by decide

theorem apart_ptp : ∀ (p : PortId) (d : Fin 2), ∀ g ∈ [F.WT_STATUS_ACTIVE, F.WT_STATUS_LEASH], apart (ptpFields p d) g = true := by
  decide

section Taken

variable {s t u : State} {d : Fin 2} {h : PtpHdr} {k : FwdKind} {p : PortId}

/-- A register that the filters, the servo or the lock rest on keeps its word. -/
theorem SlotMoves.rd (hm : SlotMoves d (ptpFields p d) s t) {a : Nat} {e : Fin 2}
    (ha : a ∈ filterRegs e ++ [A.WT_LOCK_CFG, A.WT_SERVO_CFG, A.WT_DOM_ASYM e]) : t.rd a = s.rd a :=
  hm.bits.rd_eq fun f hf => ptpFields_ne p d e f hf a ha

/-- A field of a slot's configuration keeps its value. -/
theorem SlotMoves.cfg (hm : SlotMoves d (ptpFields p d) s t) {f : Fld} {e : Fin 2} (hf : f.addr = A.WT_DOM_CFG e) :
    t.get f = s.get f ∧ t.flag f = s.flag f := by
  have hrd : t.rd f.addr = s.rd f.addr := hm.rd (e := e) (by rw [hf]; simp [filterRegs])
  have hget : t.get f = s.get f := by rw [State.get, hrd]; rfl
  exact ⟨hget, by rw [State.flag, hget]; rfl⟩

theorem State.heard_ptpMoves (s : State) (p : PortId) (d : Fin 2) : SlotMoves d (ptpFields p d) s (s.heard p) :=
  (s.heard_slotMoves p d).mono (by simp [ptpFields])

/-- A message that slot `d` alone takes is worked on by it alone. -/
theorem TakenBy.forSlots (ht : TakenBy d h k s) {g : State → Fin 2 → State}
    (hm : SlotMoves d (ptpFields h.frame.port d) s (g (s.heard h.frame.port) d)) :
    (s.heard h.frame.port).forSlots h (·.slotTakes · h) g = g (s.heard h.frame.port) d := by
  obtain ⟨-, htakes, hother, hauth⟩ := ht
  have hrefuse : (s.heard h.frame.port).slotRefuses d h = false := by
    rw [s.slotRefuses_heard, State.slotRefuses, hauth]; rfl
  have hwork := State.slotWork_takes g ((s.slotTakes_heard h.frame.port d h).trans htakes) hrefuse
  rw [State.forSlots_one (d := d), hwork]
  · intro e he
    rw [s.slotTakes_heard]; exact hother e he
  · intro e he
    rw [hwork, hm.slotTakes fun f hf a ha => ptpFields_ne h.frame.port d e f hf a (List.mem_append_left _ ha)]
    exact hother e he

/-- Beyond the slot, what waits for the transmitters and the registers, nothing changes. -/
theorem SlotMoves.plain {l : List Fld} (hm : SlotMoves d l s t) :
    t = { s with regs := t.regs, wt := t.wt, free := t.free, net := t.net } ∧ t.net = { s.net with tx := t.net.tx } := by
  have hn : t.net = { s.net with tx := t.net.tx } := congrArg State.net hm.frame
  refine ⟨?_, hn⟩
  have hf := hm.frame
  rw [← hn] at hf
  exact hf

/-- What a message that sends nothing changes. -/
theorem SlotMoves.silent {l : List Fld} (hm : SlotMoves d l s t) (hn : t.net = s.net) :
    t = { s with regs := t.regs, wt := t.wt, free := t.free } := by
  have hf := hm.plain.1
  rw [hn] at hf
  exact hf

/-- What a measurement shows rests on the registers of the servo, the lock and the slot, and on D_held. -/
theorem Measures.of_moves (hm : SlotMoves d (ptpFields p d) s u) {x y : PtpSlot} {t1 t2 : Int} (h : Measures u d x t1 t2 t)
    (hmpd : x.mpd = y.mpd) (hsum : x.sum = y.sum) (hlocked : x.locked = y.locked) (hsmall : x.small = y.small) :
    Measures s d y t1 t2 t := by
  have hlock : u.rd A.WT_LOCK_CFG = s.rd A.WT_LOCK_CFG := hm.rd (e := d) (by simp)
  have hservo : u.rd A.WT_SERVO_CFG = s.rd A.WT_SERVO_CFG := hm.rd (e := d) (by simp)
  have hasym : u.rd (A.WT_DOM_ASYM d) = s.rd (A.WT_DOM_ASYM d) := hm.rd (e := d) (by simp)
  unfold Measures State.get at h
  rw [hlock, hservo, hasym, hm.dHeld, hmpd, hsum, hlocked, hsmall] at h
  exact h

end Taken

/-! ### SYNC and FOLLOW_UP -/

section Sync

variable {s w : State} {d : Fin 2} {h : PtpHdr} {p : PortId} {twoStep : Bool} {origin stamp : Int}

/-- The slot has seen its Sync: nothing that a measurement rests on has changed. -/
theorem State.syncSeen_moves (s : State) (h : PtpHdr) (d : Fin 2) :
    SlotMoves d (ptpFields h.frame.port d) s ((s.heard h.frame.port).syncSeen h d) :=
  (s.heard_ptpMoves h.frame.port d).trans (((State.setSlot_slotMoves _ d _).mono (List.nil_subset _)).trans
    ((State.put_slotMoves _ d _ _).mono (by simp [ptpFields])))

theorem State.slot_syncSeen (s : State) (h : PtpHdr) (d : Fin 2) : (s.syncSeen h d).slot d =
    { s.slot d with lastSeq := some h.seq, lastSync := s.wt.cycle, synced := true, timedOut := false } :=
  s.slot_setSlot_same d _

/-- The request that a slot sends after a Sync (R36). -/
def State.delayRequest (s : State) (d : Fin 2) : TxItem :=
  { cls := 1, len := max 64 (18 + ((match s.get (F.WT_DOM_CFG_TRANSPORT d) with | 0 => 0 | 1 => 28 | _ => 48)
      + if s.flag (F.WT_DOM_CFG_DELAY_MECH d) = true then 54 else 44)), what := .request d }

/-- The request waits for the port's transmitter; nothing else of the ports changes. -/
theorem State.askDelay_spec (hm : SlotMoves d (ptpFields p d) s w) (hn : w.net = s.net) : let t := w.askDelay d p
    SlotMoves d (ptpFields p d) s t ∧ t.txPort (otherPort p) = s.txPort (otherPort p) ∧
      t.txPort p = { s.txPort p with queue := (s.txPort p).queue ++ [s.delayRequest d] } := by
  have htx (q : PortId) : w.txPort q = s.txPort q := by rw [State.txPort, hn]; rfl
  obtain ⟨-, h2, h3⟩ := w.waitTx_spec p (s.delayRequest d)
  have hask : w.askDelay d p = w.waitTx p (s.delayRequest d) := by
    unfold State.askDelay
    rw [(hm.cfg (f := F.WT_DOM_CFG_TRANSPORT d) rfl).1, (hm.cfg (f := F.WT_DOM_CFG_DELAY_MECH d) rfl).2]
    rfl
  rw [hask]
  exact ⟨hm.trans ((w.waitTx_slotMoves d p _).mono (List.nil_subset _)), h2.trans (htx _), by rw [h3, htx]⟩

/-- A Sync that is not a repeat of the last one on either port. -/
theorem syncWork_new (hnew : (s.slot d).lastSeq ≠ some h.seq ∨ s.get (F.WT_DOM_CFG_PORT_SEL d) ≠ 2) :
    syncWork h twoStep origin stamp s d = State.askDelay (if twoStep then (s.syncSeen h d).setSlot d
        { (s.syncSeen h d).slot d with twoStep := some (h.seq, stamp, ptpCorr h) }
      else (s.syncSeen h d).sample d (origin + ptpCorr h) stamp) d h.frame.port := by
  have hcond : ¬ ((s.slot d).lastSeq == some h.seq && s.get (F.WT_DOM_CFG_PORT_SEL d) == 2) = true := by
    simp only [Bool.and_eq_true, beq_iff_eq]
    exact fun hc => hnew.elim (fun hn => hn hc.1) (fun hn => hn hc.2)
  unfold syncWork
  rw [if_neg hcond]

/-- A new Sync, once the slot has noted it, has the slot ask for its path delay. -/
theorem execSync_asks (ht : TakenBy d h .plain s)
    (hnew : (s.slot d).lastSeq ≠ some h.seq ∨ s.get (F.WT_DOM_CFG_PORT_SEL d) ≠ 2) {varLat : Nat}
    (hw : (if twoStep then ((s.heard h.frame.port).syncSeen h d).setSlot d { ((s.heard h.frame.port).syncSeen h d).slot d with
        twoStep := some (h.seq, s.rxStamp h.frame.port varLat, ptpCorr h) }
      else ((s.heard h.frame.port).syncSeen h d).sample d (origin + ptpCorr h) (s.rxStamp h.frame.port varLat)) = w)
    (hm : SlotMoves d (ptpFields h.frame.port d) s w) (hn : w.net = s.net) : let t := w.askDelay d h.frame.port
    exec (.sync h twoStep origin varLat) s = .next t ∧ SlotMoves d (ptpFields h.frame.port d) s t ∧
      t.txPort (otherPort h.frame.port) = s.txPort (otherPort h.frame.port) ∧
      t.txPort h.frame.port = { s.txPort h.frame.port with queue := (s.txPort h.frame.port).queue ++ [s.delayRequest d] } := by
  have hnew' : ((s.heard h.frame.port).slot d).lastSeq ≠ some h.seq ∨ (s.heard h.frame.port).get (F.WT_DOM_CFG_PORT_SEL d) ≠ 2 := by
    rw [((s.heard_ptpMoves h.frame.port d).cfg (f := F.WT_DOM_CFG_PORT_SEL d) rfl).1]; exact hnew
  have hwork := syncWork_new (twoStep := twoStep) (origin := origin) (stamp := s.rxStamp h.frame.port varLat) hnew'
  rw [hw] at hwork
  obtain ⟨h1, h2, h3⟩ := State.askDelay_spec hm hn
  refine ⟨?_, h1, h2, h3⟩
  rw [← hwork] at h1 ⊢
  rw [execSync_heard ht.1, ht.forSlots h1]

/-- What a two-step Sync leaves. -/
theorem execSync_twoStep (ht : TakenBy d h .plain s)
    (hnew : (s.slot d).lastSeq ≠ some h.seq ∨ s.get (F.WT_DOM_CFG_PORT_SEL d) ≠ 2) (varLat : Nat) :
    ∃ t, exec (.sync h true origin varLat) s = .next t ∧ SlotMoves d (ptpFields h.frame.port d) s t ∧
      (t.txPort (otherPort h.frame.port) = s.txPort (otherPort h.frame.port) ∧
      t.txPort h.frame.port = { s.txPort h.frame.port with queue := (s.txPort h.frame.port).queue ++ [s.delayRequest d] }) ∧
      (t.slot d).twoStep = some (h.seq, s.rxStamp h.frame.port varLat, ptpCorr h) ∧
      (t.slot d).lastSync = s.wt.cycle ∧ (t.slot d).timedOut = false := by
  have hslot := (s.heard h.frame.port).slot_syncSeen h d
  have hm := (s.syncSeen_moves h d).trans ((State.setSlot_slotMoves _ d { ((s.heard h.frame.port).syncSeen h d).slot d with
    twoStep := some (h.seq, s.rxStamp h.frame.port varLat, ptpCorr h) }).mono (List.nil_subset _))
  obtain ⟨g1, g2, g3, g4⟩ := execSync_asks (twoStep := true) (origin := origin) ht hnew rfl hm rfl
  have hout := State.slot_setSlot_same ((s.heard h.frame.port).syncSeen h d) d { ((s.heard h.frame.port).syncSeen h d).slot d with
    twoStep := some (h.seq, s.rxStamp h.frame.port varLat, ptpCorr h) }
  refine ⟨_, g1, g2, ⟨g3, g4⟩, congrArg PtpSlot.twoStep hout, (congrArg PtpSlot.lastSync hout).trans ?_,
    (congrArg PtpSlot.timedOut hout).trans ?_⟩
  · rw [hslot]; rfl
  · rw [hslot]

section Leashed

variable (ht : TakenBy d h .plain s) (ha : s.activeSlot = d) (hl : s.leash = .leashed)

include ht ha hl

/-- What a one-step Sync of the slot that drives wall time leaves. -/
theorem execSync_oneStep (hnew : (s.slot d).lastSeq ≠ some h.seq ∨ s.get (F.WT_DOM_CFG_PORT_SEL d) ≠ 2) (varLat : Nat) :
    ∃ t, exec (.sync h false origin varLat) s = .next t ∧ SlotMoves d (ptpFields h.frame.port d) s t ∧
      (t.txPort (otherPort h.frame.port) = s.txPort (otherPort h.frame.port) ∧
      t.txPort h.frame.port = { s.txPort h.frame.port with queue := (s.txPort h.frame.port).queue ++ [s.delayRequest d] }) ∧
      Measures s d (s.slot d) (origin + ptpCorr h) (s.rxStamp h.frame.port varLat) t ∧
      (t.slot d).lastSync = s.wt.cycle ∧ (t.slot d).timedOut = false := by
  have hm := s.syncSeen_moves h d
  have hslot := (s.heard h.frame.port).slot_syncSeen h d
  have hul := (State.leash_congr (hm.get (by decide) (apart_ptp _ d _ (by simp)))).trans hl
  have hua := (State.activeSlot_congr (hm.flag (by decide) (apart_ptp _ d _ (by simp)))).trans ha
  obtain ⟨h1, h2, h3, h4, h5, -⟩ := State.sample_spec hul hua (origin + ptpCorr h) (s.rxStamp h.frame.port varLat)
  obtain ⟨g1, g2, g3, g4⟩ := execSync_asks (twoStep := false) ht hnew rfl (hm.trans (h1.mono fun f hf => by simp [ptpFields, hf])) h2
  refine ⟨_, g1, g2, ⟨g3, g4⟩, ?_, ?_, ?_⟩
  · exact Measures.of_moves hm h3 (by rw [hslot]; rfl) (by rw [hslot]; rfl) (by rw [hslot]; rfl) (by rw [hslot]; rfl)
  · exact h4.trans (by rw [hslot]; rfl)
  · exact h5.trans (by rw [hslot])

/-- What the Follow_Up of a two-step Sync leaves. -/
theorem execFollowUp_taken {c : Int} (h2 : (s.slot d).twoStep = some (h.seq, stamp, c)) :
    ∃ t, exec (.followUp h origin) s = .next t ∧ SlotMoves d (ptpFields h.frame.port d) s t ∧ t.net = s.net ∧
      Measures s d (s.slot d) (origin + c + ptpCorr h) stamp t ∧ (t.slot d).twoStep = none := by
  have hclear : SlotMoves d (ptpFields h.frame.port d) s ((s.heard h.frame.port).setSlot d
      { (s.heard h.frame.port).slot d with twoStep := none }) :=
    (s.heard_ptpMoves h.frame.port d).trans ((State.setSlot_slotMoves _ d _).mono (List.nil_subset _))
  have hslot := (s.heard h.frame.port).slot_setSlot_same d { (s.heard h.frame.port).slot d with twoStep := none }
  have hul := (State.leash_congr (hclear.get (by decide) (apart_ptp _ d _ (by simp)))).trans hl
  have hua := (State.activeSlot_congr (hclear.flag (by decide) (apart_ptp _ d _ (by simp)))).trans ha
  obtain ⟨h3, h4, h5, -, -, h6⟩ := State.sample_spec hul hua (origin + c + ptpCorr h) stamp
  have hwork : followUpWork h origin (s.heard h.frame.port) d = ((s.heard h.frame.port).setSlot d
      { (s.heard h.frame.port).slot d with twoStep := none }).sample d (origin + c + ptpCorr h) stamp := by
    have htwo : ((s.heard h.frame.port).slot d).twoStep = some (h.seq, stamp, c) := h2
    unfold followUpWork
    rw [htwo]
    exact if_pos (beq_self_eq_true h.seq)
  have hm := hclear.trans (h3.mono (m := ptpFields h.frame.port d) fun f hf => by simp [ptpFields, hf])
  rw [← hwork] at hm
  refine ⟨_, by rw [execFollowUp_heard ht.1, ht.forSlots hm], hm, ?_, ?_, ?_⟩
  · rw [hwork, h4]; rfl
  · rw [hwork]
    exact Measures.of_moves hclear h5 (by rw [hslot]; rfl) (by rw [hslot]; rfl) (by rw [hslot]; rfl) (by rw [hslot]; rfl)
  · rw [hwork, h6, hslot]

end Leashed

end Sync

/-! ### The mean path delay (R35, R36) -/

/-- What slot `d` makes of a Delay_Resp. -/
def delayRespWork (h : PtpHdr) (ours : Bool) (receipt : Int) (s : State) (d : Fin 2) : State :=
  if s.flag (F.WT_DOM_CFG_DELAY_MECH d) || !ours then s
  else
    match (s.slot d).lastSyncT, (s.slot d).reqSent with
    | some (t1, t2), some (seq, t3) =>
      if seq == h.seq then
        (s.setSlot d { s.slot d with reqSent := none }).setMpd d (((t2 - t1) + (receipt - ptpCorr h - t3)) / 2)
      else s
    | _, _ => s

/-- The answer to a Pdelay_Req that slot `d` takes. -/
def State.pdelayAnswer (s : State) (h : PtpHdr) (varLat : Nat) (d : Fin 2) : TxItem :=
  { cls := 1, len := frameLen (ptpOverhead (s.get (F.WT_DOM_CFG_TRANSPORT d)) + 54)
    what := .pdelayResp h.domain h.seq h.clockId h.portNum h.corrField (s.rxStamp h.frame.port varLat) }

theorem State.pdelayAnswer_heard (s : State) (h : PtpHdr) (varLat : Nat) (d : Fin 2) (p : PortId) :
    (s.heard p).pdelayAnswer h varLat d =
      { cls := 1, len := ((s.heard p).pdelayAnswer h varLat d).len,
        what := .pdelayResp h.domain h.seq h.clockId h.portNum h.corrField (s.rxStamp h.frame.port varLat) } := by
  rw [State.pdelayAnswer, s.rxStamp_heard]

/-- What becomes of a Pdelay_Req that the slot of `x`, if any, takes. -/
def pdelayReqWork (h : PtpHdr) (varLat : Nat) (x : Option (Fin 2) × State) : State :=
  match x.1 with
  | some d => x.2.waitTx h.frame.port (x.2.pdelayAnswer h varLat d)
  | none => x.2

/-- What slot `d` makes of a Pdelay_Resp. -/
def pdelayRespWork (h : PtpHdr) (ours twoStep : Bool) (t2 : Int) (varLat : Nat) (s : State) (d : Fin 2) : State :=
  let t4 := s.rxStamp h.frame.port varLat
  if s.flag (F.WT_DOM_CFG_DELAY_MECH d) && ours then
    match s.asked d h.seq with
    | some t1 =>
      let s := s.setSlot d { s.slot d with reqSent := none }
      if twoStep then s.setSlot d { s.slot d with pdelay := some (h.seq, t1, t2, t4 - ptpCorr h) }
      else s.setMpd d ((t4 - t1 - ptpCorr h) / 2)
    | none => s
  else s

/-- What slot `d` makes of a Pdelay_Resp_Follow_Up. -/
def pdelayFollowUpWork (h : PtpHdr) (ours : Bool) (t3 : Int) (s : State) (d : Fin 2) : State :=
  match (s.slot d).pdelay with
  | some (seq, t1, t2, t4) =>
    if seq == h.seq && ours then
      (s.setSlot d { s.slot d with pdelay := none }).setMpd d (((t4 - t1) - (t3 - t2) - ptpCorr h) / 2)
    else s
  | none => s

section Delay

variable {s : State} {d : Fin 2} {h : PtpHdr} {ours twoStep : Bool} {receipt t1 t2 t3 x : Int} {varLat : Nat}

theorem execDelayResp_heard (hh : HeardPtp h.frame .plain s) : exec (.delayResp h ours receipt) s =
    .next ((s.heard h.frame.port).forSlots h (·.slotTakes · h) (delayRespWork h ours receipt)) := by
  change s.ptpArrives h (fun _ => .plain) (fun u => u.forSlots h (·.slotTakes · h) (delayRespWork h ours receipt)) = _
  exact State.ptpArrives_heard hh (fun _ => rfl) _

theorem execPdelayResp_heard (hh : HeardPtp h.frame .peer s) : exec (.pdelayResp h ours twoStep t2 varLat) s =
    .next ((s.heard h.frame.port).forSlots h (·.slotTakes · h) (pdelayRespWork h ours twoStep t2 varLat)) := by
  change s.ptpArrives h (fun _ => .peer) (fun u => u.forSlots h (·.slotTakes · h) (pdelayRespWork h ours twoStep t2 varLat)) = _
  exact State.ptpArrives_heard hh (fun _ => rfl) _

theorem execPdelayFollowUp_heard (hh : HeardPtp h.frame .peer s) : exec (.pdelayRespFollowUp h ours t3) s =
    .next ((s.heard h.frame.port).forSlots h (·.slotTakes · h) (pdelayFollowUpWork h ours t3)) := by
  change s.ptpArrives h (fun _ => .peer) (fun u => u.forSlots h (·.slotTakes · h) (pdelayFollowUpWork h ours t3)) = _
  exact State.ptpArrives_heard hh (fun _ => rfl) _

/-- A message of slot `d` leaves the mean path delay `x`, the slot being `q` otherwise. -/
def Delays (p : PortId) (d : Fin 2) (x : Int) (q : PtpSlot) (s t : State) : Prop :=
  t = { s with regs := t.regs, wt := t.wt, free := t.free } ∧
    RegsKept [A.NET_PORT_RX_FRAMES p, A.WT_DOM_MPD d] s t ∧
    (∀ e, t.slot e = if e = d then { q with mpd := some x } else s.slot e) ∧ t.wt.wall = s.wt.wall

/-- A mean path delay of slot `d`, whose message port `p` has counted. -/
theorem State.setMpd_delays (s : State) (p : PortId) (d : Fin 2) (q : PtpSlot) (x : Int) :
    let t := ((s.heard p).setSlot d q).setMpd d x
    SlotMoves d (ptpFields p d) s t ∧ Delays p d x q s t := by
  have hset : State.setMpd ((s.heard p).setSlot d q) d x =
      (((s.heard p).setSlot d q).setSlot d { q with mpd := some x }).putSigned31 (A.WT_DOM_MPD d) (x / 256) := by
    unfold State.setMpd
    rw [State.slot_setSlot_same]
  rw [hset]
  have hm : SlotMoves d [whole (A.NET_PORT_RX_FRAMES p), whole (A.WT_DOM_MPD d)] s
      ((((s.heard p).setSlot d q).setSlot d { q with mpd := some x }).putSigned31 (A.WT_DOM_MPD d) (x / 256)) :=
    ((s.heard_slotMoves p d).mono (by simp)).trans (((State.setSlot_slotMoves _ d _).mono (List.nil_subset _)).trans
      (((State.setSlot_slotMoves _ d _).mono (List.nil_subset _)).trans ((State.putSigned31_slotMoves _ d _ _).mono (by simp))))
  refine ⟨hm.mono (by simp [ptpFields]), hm.silent (State.putSigned31_net _ _ _), hm.bits.regsKept (by simp [whole]), fun e => ?_,
    hm.wall⟩
  split
  · next he =>
    rw [he]
    exact (State.slot_of_wt (State.putSigned31_wt _ _ _) d).trans (State.slot_setSlot_same _ d _)
  · next he => exact hm.slots e he

/-- A Delay_Resp that repeats the sequenceId of the slot's last Delay_Req (R35). -/
theorem execDelayResp_taken (ht : TakenBy d h .plain s) (hmech : s.flag (F.WT_DOM_CFG_DELAY_MECH d) = false)
    (hlast : (s.slot d).lastSyncT = some (t1, t2)) (hreq : (s.slot d).reqSent = some (h.seq, t3)) :
    ∃ t, exec (.delayResp h true receipt) s = .next t ∧
      Delays h.frame.port d (((t2 - t1) + (receipt - ptpCorr h - t3)) / 2) { s.slot d with reqSent := none } s t := by
  have hmech' : (s.heard h.frame.port).flag (F.WT_DOM_CFG_DELAY_MECH d) = false :=
    ((s.heard_ptpMoves h.frame.port d).cfg (f := F.WT_DOM_CFG_DELAY_MECH d) rfl).2.trans hmech
  have hwork : delayRespWork h true receipt (s.heard h.frame.port) d = ((s.heard h.frame.port).setSlot d
      { s.slot d with reqSent := none }).setMpd d (((t2 - t1) + (receipt - ptpCorr h - t3)) / 2) := by
    have h1 : ((s.heard h.frame.port).slot d).lastSyncT = some (t1, t2) := hlast
    have h2 : ((s.heard h.frame.port).slot d).reqSent = some (h.seq, t3) := hreq
    unfold delayRespWork
    rw [hmech', h1, h2]
    exact if_pos (beq_self_eq_true h.seq)
  obtain ⟨hm, hd⟩ := s.setMpd_delays h.frame.port d { s.slot d with reqSent := none } (((t2 - t1) + (receipt - ptpCorr h - t3)) / 2)
  rw [← hwork] at hm hd
  exact ⟨_, by rw [execDelayResp_heard ht.1, ht.forSlots hm], hd⟩

/-- Slot `d`'s own Pdelay_Req, which the response repeats. -/
theorem pdelayRespWork_asked (hmech : s.flag (F.WT_DOM_CFG_DELAY_MECH d) = true) (hreq : (s.slot d).reqSent = some (h.seq, t1)) :
    pdelayRespWork h true twoStep t2 varLat (s.heard h.frame.port) d =
      let u := (s.heard h.frame.port).setSlot d { s.slot d with reqSent := none }
      if twoStep then u.setSlot d
        { u.slot d with pdelay := some (h.seq, t1, t2, s.rxStamp h.frame.port varLat - ptpCorr h) }
      else u.setMpd d ((s.rxStamp h.frame.port varLat - t1 - ptpCorr h) / 2) := by
  have hmech' : (s.heard h.frame.port).flag (F.WT_DOM_CFG_DELAY_MECH d) = true :=
    ((s.heard_ptpMoves h.frame.port d).cfg (f := F.WT_DOM_CFG_DELAY_MECH d) rfl).2.trans hmech
  have hasked : (s.heard h.frame.port).asked d h.seq = some t1 := by
    have h1 : ((s.heard h.frame.port).slot d).reqSent = some (h.seq, t1) := hreq
    unfold State.asked
    rw [h1]
    exact if_pos (beq_self_eq_true h.seq)
  have hslot : (s.heard h.frame.port).slot d = s.slot d := rfl
  unfold pdelayRespWork
  rw [hmech', hasked, s.rxStamp_heard, hslot]
  dsimp only
  rw [Bool.and_self, if_pos rfl]

section Peer

variable (ht : TakenBy d h .peer s)

include ht

/-- A one-step Pdelay_Resp to the slot's own Pdelay_Req (R35). -/
theorem execPdelayResp_oneStep (hmech : s.flag (F.WT_DOM_CFG_DELAY_MECH d) = true)
    (hreq : (s.slot d).reqSent = some (h.seq, t1)) : ∃ t, exec (.pdelayResp h true false t2 varLat) s = .next t ∧
      Delays h.frame.port d ((s.rxStamp h.frame.port varLat - t1 - ptpCorr h) / 2) { s.slot d with reqSent := none } s t := by
  have hwork := pdelayRespWork_asked (twoStep := false) (t2 := t2) (varLat := varLat) hmech hreq
  obtain ⟨hm, hd⟩ := s.setMpd_delays h.frame.port d { s.slot d with reqSent := none }
    ((s.rxStamp h.frame.port varLat - t1 - ptpCorr h) / 2)
  simp only [Bool.false_eq_true, if_false] at hwork
  exact ⟨_, by rw [execPdelayResp_heard ht.1, ht.forSlots (by rw [hwork]; exact hm), hwork], hd⟩

/-- A two-step Pdelay_Resp waits for its Follow_Up (R35). -/
theorem execPdelayResp_twoStep (hmech : s.flag (F.WT_DOM_CFG_DELAY_MECH d) = true)
    (hreq : (s.slot d).reqSent = some (h.seq, t1)) : ∃ t, exec (.pdelayResp h true true t2 varLat) s = .next t ∧
      (∀ e, t.slot e = if e = d then { s.slot d with reqSent := none, pdelay := some (h.seq, t1, t2,
        s.rxStamp h.frame.port varLat - ptpCorr h) } else s.slot e) ∧ RegsKept [A.NET_PORT_RX_FRAMES h.frame.port] s t := by
  have hwork := pdelayRespWork_asked (twoStep := true) (t2 := t2) (varLat := varLat) hmech hreq
  have hm : SlotMoves d [whole (A.NET_PORT_RX_FRAMES h.frame.port)] s
      (pdelayRespWork h true true t2 varLat (s.heard h.frame.port) d) := by
    rw [hwork]
    exact (s.heard_slotMoves h.frame.port d).trans (((State.setSlot_slotMoves _ d _).mono (List.nil_subset _)).trans
      ((State.setSlot_slotMoves _ d _).mono (List.nil_subset _)))
  refine ⟨_, by rw [execPdelayResp_heard ht.1, ht.forSlots (hm.mono (by simp [ptpFields]))], fun e => ?_,
    hm.bits.regsKept (by simp [whole])⟩
  split
  · next he =>
    rw [he, hwork]
    dsimp only
    rw [if_pos rfl, State.slot_setSlot_same, State.slot_setSlot_same]
  · next he => exact hm.slots e he

/-- The Follow_Up of a two-step Pdelay_Resp (R35). -/
theorem execPdelayFollowUp_taken {r : Int} (hp : (s.slot d).pdelay = some (h.seq, t1, t2, r)) :
    ∃ t, exec (.pdelayRespFollowUp h true t3) s = .next t ∧
      Delays h.frame.port d (((r - t1) - (t3 - t2) - ptpCorr h) / 2) { s.slot d with pdelay := none } s t := by
  have hwork : pdelayFollowUpWork h true t3 (s.heard h.frame.port) d = ((s.heard h.frame.port).setSlot d
      { s.slot d with pdelay := none }).setMpd d (((r - t1) - (t3 - t2) - ptpCorr h) / 2) := by
    have h1 : ((s.heard h.frame.port).slot d).pdelay = some (h.seq, t1, t2, r) := hp
    unfold pdelayFollowUpWork
    rw [h1]
    exact if_pos (by simp)
  obtain ⟨hm, hd⟩ := s.setMpd_delays h.frame.port d { s.slot d with pdelay := none } (((r - t1) - (t3 - t2) - ptpCorr h) / 2)
  exact ⟨_, by rw [execPdelayFollowUp_heard ht.1, ht.forSlots (by rw [hwork]; exact hm), hwork], hd⟩

/-- The answer to a Pdelay_Req waits for the transmitter of its port, with the request's receipt stamp (R35, R36). -/
theorem execPdelayReq_taken (varLat : Nat) : exec (.pdelayReq h varLat) s = .next ((s.heard h.frame.port).waitTx h.frame.port
    ((s.heard h.frame.port).pdelayAnswer h varLat d)) := by
  obtain ⟨hh, htakes, hother, hauth⟩ := ht
  have hrefuse : s.slotRefuses d h = false := by rw [State.slotRefuses, hauth]; rfl
  have hfirst : (s.heard h.frame.port).firstSlot h (·.slotTakes · h) = (some d, s.heard h.frame.port) := by
    refine State.firstSlot_takes (·.slotTakes · h) ((s.slotTakes_heard _ d h).trans htakes)
      ((s.slotRefuses_heard _ d h).trans hrefuse) (fun e he => (s.slotTakes_heard _ e h).trans (hother e (ne_of_lt he)))
      fun e he hx => ?_
    exact absurd (((s.slotTakes_heard _ e h).trans (hother e (ne_of_gt he))).symm.trans hx) (by decide)
  change s.ptpArrives h (fun _ => .peer) (fun u => pdelayReqWork h varLat (u.firstSlot h (·.slotTakes · h))) = _
  rw [State.ptpArrives_heard hh (fun _ => rfl), hfirst]
  rfl

end Peer

end Delay

/-- Settles O17: each message by the work of the one slot that takes it, a measurement for the servo or a mean path delay. -/
theorem ptpSamples : Obligations.PtpSamples := by
  constructor
  · intro s d h origin varLat p port corr const t2 asym lockNs sampled frame header body request asks ht ha hl
    have hframe {t : State} (hm : SlotMoves d (ptpFields h.frame.port d) s t) : frame t :=
      ⟨hm.plain.1, hm.wall, hm.dHeld, hm.slots⟩
    refine ⟨fun hnew => ⟨?_, ?_⟩, fun stamp c h2 => ?_⟩
    · obtain ⟨t, hexec, hm, ⟨h1, h2⟩, hmeas, hsync, hout⟩ := execSync_oneStep (origin := origin) ht ha hl hnew varLat
      exact ⟨t, hexec, hframe hm, ⟨hm.plain.2, h1, h2⟩, hmeas, hsync, hout⟩
    · obtain ⟨t, hexec, hm, ⟨h1, h2⟩, htwo, hsync, hout⟩ := execSync_twoStep (origin := origin) ht hnew varLat
      exact ⟨t, hexec, hframe hm, ⟨hm.plain.2, h1, h2⟩, htwo, hsync, hout⟩
    · obtain ⟨t, hexec, hm, hnet, hmeas, htwo⟩ := execFollowUp_taken (origin := origin) ht ha hl h2
      exact ⟨t, hexec, hframe hm, hnet, hmeas, htwo⟩
  · intro s d h t1 t2 t3 receipt varLat p port corr t4 delay
    refine ⟨fun ht hmech hlast hreq => execDelayResp_taken ht hmech hlast hreq,
      fun ht hmech hreq => ⟨execPdelayResp_oneStep ht hmech hreq, execPdelayResp_twoStep ht hmech hreq⟩,
      fun r ht hp => execPdelayFollowUp_taken ht hp, fun ht => ?_⟩
    obtain ⟨-, h2, h3⟩ := (s.heard h.frame.port).waitTx_spec h.frame.port ((s.heard h.frame.port).pdelayAnswer h varLat d)
    rw [s.pdelayAnswer_heard] at h2 h3
    refine ⟨_, (execPdelayReq_taken ht varLat).trans (by rw [s.pdelayAnswer_heard]), rfl, h2, ⟨_, h3⟩,
      (s.heard_bitsKept h.frame.port).regsKept (by simp [whole, port])⟩

end Sys2Proof.Machine

namespace Sys2Proof.Machine

/-! ### A core cycle ends (R487, R516) -/

/-- An operation that leaves the state as it is, applied for every item of a list. -/
theorem forAll_idle {α : Type} {f : State → α → State} {s : State} {l : List α} (h : ∀ x, f s x = s) : forAll l s f = s := by
  induction l with
  | nil => rfl
  | cons x l ih => rw [forAll_cons, h x, ih]

section CycleEnds

variable {s : State}

/-- With no case U12 open there is nothing to scribble (R487). -/
theorem State.wildEnds_none (h : s.wild = Vector.replicate 4 none) : s.wildEnds = s := by
  unfold State.wildEnds
  rw [forAll_idle fun n => by simp [h], ← h]

/-- With no write to discard, the end of a core cycle only takes up the new one (R516). -/
theorem State.cycleEnds_fresh (hw : s.wild = Vector.replicate 4 none) (hl : s.lateLocks s.busNow.writes = []) :
    s.cycleEnds = s.freshCycle (s.wt.cycle + 1) := by
  unfold State.cycleEnds
  simp only [State.wildEnds_none hw, hl]
  rfl

end CycleEnds

/-! ### The increment of wall time (R28) -/

section Increment

variable (s : State)

/-- What one core cycle adds to wall time, in units of 2^-48 ns. -/
def State.increment : Int := (nominalInc : Int) + scaleAdj nominalInc s.appliedAdj

theorem State.freqLimit_bounds : 0 ≤ s.freqLimit ∧ s.freqLimit ≤ 200000 * 2 ^ 28 := by
  unfold State.freqLimit
  omega

/-- The change of rate applied keeps to WT_FREQ_LIMIT. -/
theorem State.appliedAdj_bounds : -s.freqLimit ≤ s.appliedAdj ∧ s.appliedAdj ≤ s.freqLimit := by
  have h := s.freqLimit_bounds.1
  unfold State.appliedAdj clampInt
  split
  · omega
  · split <;> omega

/-- The increment, less what the rounding of the change of rate leaves out. -/
theorem State.increment_bounds : let x := nominalInc * s.appliedAdj
    x - 1000000000 * 2 ^ 28 < (s.increment - nominalInc) * (1000000000 * 2 ^ 28) ∧
      (s.increment - nominalInc) * (1000000000 * 2 ^ 28) ≤ x := by
  unfold State.increment scaleAdj
  have := Int.emod_add_mul_ediv (nominalInc * s.appliedAdj) (1000000000 * 2 ^ 28)
  have := Int.emod_nonneg (nominalInc * s.appliedAdj) (b := 1000000000 * 2 ^ 28) (by decide)
  have := Int.emod_lt_of_pos (nominalInc * s.appliedAdj) (b := 1000000000 * 2 ^ 28) (by decide)
  constructor <;> omega

/-- The increment lies within WT_FREQ_LIMIT of 0.625 ns, to the unit that rounding takes. -/
theorem State.increment_limit : let limit : Int := (min (s.get F.WT_FREQ_LIMIT_LIMIT) 200000 : Nat)
    10 ^ 9 * (s.increment - nominalInc) ≤ nominalInc * limit ∧
      -(nominalInc * limit) - 10 ^ 9 < 10 ^ 9 * (s.increment - nominalInc) := by
  intro limit
  have hl : s.freqLimit = limit * 2 ^ 28 := rfl
  obtain ⟨h1, h2⟩ := s.increment_bounds
  obtain ⟨h3, h4⟩ := s.appliedAdj_bounds
  rw [hl] at h3 h4
  generalize limit = l at *
  simp only [nominalInc] at *
  constructor <;> omega

theorem State.increment_pos : 0 < s.increment := by
  obtain ⟨-, h⟩ := s.increment_limit
  simp only [nominalInc] at h
  omega

/-- UNLEASHED, a core cycle is exactly 0.625 ns (R28). -/
theorem State.increment_unleashed (h : s.leash = .unleashed) : s.increment = nominalInc := by
  have h0 : s.askedAdj = 0 := by unfold State.askedAdj; rw [h]
  have h1 : s.appliedAdj = 0 := by
    have := s.freqLimit_bounds.1
    unfold State.appliedAdj clampInt
    rw [h0, if_neg (by omega), if_neg (by omega)]
  unfold State.increment scaleAdj
  rw [h1]
  simp

end Increment

/-! ### What the record of the core cycle and the sequencers keep -/

section Cycle

variable {s : State}

/-- In the core cycle that the record speaks of, noting a field that the device sets adds to its hits alone. -/
theorem State.noteHit_bus (f : Fld) (h : s.bus.cycle = s.wt.cycle) :
    (s.noteHit f).bus = { s.bus with hits := (s.noteHit f).bus.hits } := by
  unfold State.noteHit State.busNow
  rw [if_pos h]

theorem State.event_bus (q : SeqId) (x y : Nat) (l : Bool) (d : Nat) (h : s.bus.cycle = s.wt.cycle) :
    (s.event q x y l d).bus = { s.bus with hits := (s.event q x y l d).bus.hits } := by
  rcases s.event_cases q x y l d with ⟨-, e⟩ | ⟨-, lost, e⟩
  · rw [e]; rfl
  · rw [e]; exact State.noteHit_bus _ h

theorem State.wtFlag_bus (f : Fld) (h : s.bus.cycle = s.wt.cycle) :
    (s.wtFlag f).bus = { s.bus with hits := (s.wtFlag f).bus.hits } := by
  unfold State.wtFlag
  split
  · exact State.noteHit_bus f h
  · have h1 : (s.set f).bus = _ := State.noteHit_bus (s := s.put f 1) f h
    have h2 : (s.set f).bus.cycle = (s.set f).wt.cycle := by rw [h1]; exact h
    have h3 := State.event_bus sqsQ 0x20 f.lo false 0 h2
    rw [h1] at h3
    exact h3

/-- An event leaves what its sequencer waits for. -/
theorem State.event_busy (q : SeqId) (x y : Nat) (l : Bool) (d : Nat) (r : SeqId) :
    ((s.event q x y l d).seq r).busy = (s.seq r).busy := by
  by_cases hr : r = q
  · subst hr
    rcases s.event_cases r x y l d with ⟨-, e⟩ | ⟨-, lost, e⟩
    · rw [e, State.seq_setSeq_same]
    · have h1 := congrArg Seq.busy (s.seq_setSeq_same r { s.seq r with lost := lost })
      rw [e]; exact h1
  · rw [s.seq_event_other hr]

theorem State.wtFlag_busy (f : Fld) (q : SeqId) : ((s.wtFlag f).seq q).busy = (s.seq q).busy := by
  unfold State.wtFlag
  split
  · rfl
  · exact State.event_busy _ _ _ _ _ _

theorem State.wtFlag_seq (f : Fld) {q : SeqId} (h : q.val < 4) : (s.wtFlag f).seq q = s.seq q := by
  unfold State.wtFlag
  split
  · rfl
  · exact State.seq_event_other _ (by intro e; subst e; exact absurd h (by decide))

end Cycle

/-! ### One core cycle of wall time (R28) -/

section Tick

variable (s : State)

/-- The wall-time unit one core cycle later. -/
def State.ticked : WallUnit :=
  { s.wt with
    wall := (s.wt.wall + s.increment).toNat
    cycle := s.wt.cycle + 1
    dHeld := s.slewStep s.increment
    hoCycles := s.wt.hoCycles + match s.leash with | .holdover => 1 | .expired => 1 | _ => 0
    slots := #v[s.trackStep s.appliedAdj s.increment 0, s.trackStep s.appliedAdj s.increment 1] }

theorem State.tick_ticked : s.tick = if s.askedAdj = s.appliedAdj then { s with wt := s.ticked }
    else State.wtFlag { s with wt := s.ticked } F.WT_FLAGS_FREQ_CLAMP := by
  cases h : s.leash <;> simp [State.tick, State.ticked, State.increment, h]

/-- Beside the wall-time unit, only FREQ_CLAMP and what it tells change. -/
theorem State.tick_tells :
    Tells [F.WT_FLAGS_FREQ_CLAMP, F.SEQ_EVQ_STATUS_OVERFLOW 4] { s with wt := s.ticked } s.tick := by
  rw [State.tick_ticked]
  split
  · exact .refl _ _
  · exact State.wtFlag_tells _ _

theorem State.tick_wt : s.tick.wt = s.ticked := s.tick_tells.wt_eq

theorem State.tick_wall : (s.tick.wt.wall : Int) = s.wt.wall + s.increment := by
  have := s.increment_pos
  have hw : s.ticked.wall = (s.wt.wall + s.increment).toNat := rfl
  rw [s.tick_wt, hw, Int.toNat_of_nonneg (by omega)]

theorem State.tick_clamp (h : s.askedAdj ≠ s.appliedAdj) : s.tick.flag F.WT_FLAGS_FREQ_CLAMP = true := by
  rw [State.tick_ticked, if_neg h]
  exact State.flag_wtFlag _ rfl (by decide) (by decide)

theorem State.tick_bus (h : s.bus.cycle = s.wt.cycle + 1) : s.tick.bus = { s.bus with hits := s.tick.bus.hits } := by
  rw [State.tick_ticked]
  split
  · rfl
  · exact State.wtFlag_bus _ h

/-- The sequencers do not depend on wall time. -/
theorem State.seq_withWt (w : WallUnit) (q : SeqId) : State.seq { s with wt := w } q = s.seq q := rfl

theorem State.tick_busy (q : SeqId) : (s.tick.seq q).busy = (s.seq q).busy := by
  rw [State.tick_ticked]
  split
  · rw [s.seq_withWt]
  · rw [State.wtFlag_busy, s.seq_withWt]

theorem State.tick_seq {q : SeqId} (h : q.val < 4) : s.tick.seq q = s.seq q := by
  rw [State.tick_ticked]
  split
  · rw [s.seq_withWt]
  · rw [State.wtFlag_seq _ h, s.seq_withWt]

end Tick
end Sys2Proof.Machine

namespace Sys2Proof.Machine

/-! ### What runs within a core cycle beside wall time -/

/-- The registers that the transmitters count in. -/
def runRegs : List Nat :=
  [A.NET_PORT_TX_FRAMES 0, A.NET_PORT_TX_FRAMES 1, A.NET_PORT_FWD_DROP 0, A.NET_PORT_FWD_DROP 1]

/-- What the transmit queue, the transmitters, the bundle loader and the DRAM controllers may change in one core cycle. -/
structure Runs (s t : State) : Prop where
  frame : t = { s with wt := { s.wt with slots := t.wt.slots }, net := { t.net with mrx := s.net.mrx }, regs := t.regs
                       seqs := t.seqs, sess := t.sess, free := t.free, bus := t.bus
                       rot := { s.rot with job := t.rot.job, loaded := t.rot.loaded }, dram := t.dram }
  bus   : s.bus.cycle = s.wt.cycle → t.bus = { s.bus with hits := t.bus.hits }
  regs  : RegsKept runRegs s t
  mem   : ∀ n, (t.dr n).mem = (s.dr n).mem
  busy  : ∀ q since again, (t.seq q).busy = .refetch since again → (s.seq q).busy = .refetch since again
  mtx   : t.net.mtx = s.net.mtx

section Runs

variable {s t u : State}

theorem Runs.refl (s : State) : Runs s s := ⟨rfl, fun _ => rfl, fun _ _ => rfl, fun _ => rfl, fun _ _ _ h => h, rfl⟩

theorem Runs.cycle (h : Runs s t) : t.wt.cycle = s.wt.cycle := by rw [h.frame]

theorem Runs.trans (h : Runs s t) (h' : Runs t u) : Runs s u := by
  refine ⟨?_, fun hb => ?_, fun a ha => (h'.regs a ha).trans (h.regs a ha), fun n => (h'.mem n).trans (h.mem n),
    fun q i j hq => h.busy q i j (h'.busy q i j hq), h'.mtx.trans h.mtx⟩
  · have h1 := h.frame
    have h2 := h'.frame
    rw [h1] at h2
    exact h2
  · have h1 := h.bus hb
    have h2 := h'.bus (by rw [h.cycle, h1, ← hb])
    rw [h1] at h2
    exact h2

theorem Runs.get (h : Runs s t) {f : Fld} (hf : f.addr ∉ runRegs) : t.get f = s.get f := by
  rw [State.get, State.get, h.regs _ hf]

theorem Runs.flag (h : Runs s t) {f : Fld} (hf : f.addr ∉ runRegs) : t.flag f = s.flag f := by
  rw [State.flag, State.flag, h.get hf]

/-- An operation applied for every item of a list changes what its applications may. -/
theorem forAll_runs {α : Type} {f : State → α → State} (h : ∀ s x, Runs s (f s x)) (items : List α) (s : State) :
    Runs s (forAll items s f) := forAll_keeps (fun t x ht => ht.trans (h t x)) items s (.refl s)

/-! #### The operations they are made of -/

theorem State.setTx_runs (s : State) (p : PortId) (x : TxPort) : Runs s (s.setTx p x) :=
  ⟨rfl, fun _ => rfl, fun _ _ => rfl, fun _ => rfl, fun _ _ _ h => h, rfl⟩

theorem State.setSession_runs (s : State) (i : Nat) (x : Session) : Runs s (s.setSession i x) :=
  ⟨rfl, fun _ => rfl, fun _ _ => rfl, fun _ => rfl, fun _ _ _ h => h, rfl⟩

theorem State.draw_runs (s : State) (w : Nat) : Runs s (s.draw w).2 :=
  ⟨rfl, fun _ => rfl, fun _ _ => rfl, fun _ => rfl, fun _ _ _ h => h, rfl⟩

theorem State.waitTx_runs (s : State) (p : PortId) (x : TxItem) : Runs s (s.waitTx p x) := s.setTx_runs p _

theorem State.setSlots_runs (s : State) (v : Vector PtpSlot 2) : Runs s { s with wt := { s.wt with slots := v } } :=
  ⟨rfl, fun _ => rfl, fun _ _ => rfl, fun _ => rfl, fun _ _ _ h => h, rfl⟩

theorem State.setLoader_runs (s : State) (j : Option RotJob) (l : List SeqId) :
    Runs s { s with rot := { s.rot with job := j, loaded := l } } :=
  ⟨rfl, fun _ => rfl, fun _ _ => rfl, fun _ => rfl, fun _ _ _ h => h, rfl⟩

theorem txFrames_mem_runRegs : ∀ p : PortId, A.NET_PORT_TX_FRAMES p ∈ runRegs := by decide
theorem fwdDrop_mem_runRegs : ∀ p : PortId, A.NET_PORT_FWD_DROP p ∈ runRegs := by decide

theorem State.send_runs (s : State) (p : PortId) (x : NetTx) : Runs s (s.send p x) := by
  refine ⟨rfl, fun _ => rfl, fun a ha => s.rd_wr_other _ fun e => ha (e ▸ txFrames_mem_runRegs p), fun _ => rfl, fun _ _ _ h => h, rfl⟩

theorem State.fwdDrop_runs (s : State) (p : PortId) : Runs s (s.countReg (A.NET_PORT_FWD_DROP p)) := by
  refine ⟨rfl, fun h => State.noteHit_bus (s := s.put _ _) _ h, fun a ha => ?_, fun _ => rfl, fun _ _ _ h => h, rfl⟩
  exact (s.countReg_bitsKept _).rd_eq fun f hf e => ha (by
    rw [← e, List.mem_singleton.mp hf]
    exact fwdDrop_mem_runRegs p)

/-- A sequencer that does not begin to wait for a repeated fetch. -/
theorem State.setSeq_runs (s : State) (q : SeqId) {c : Seq}
    (h : ∀ since again, c.busy = .refetch since again → (s.seq q).busy = .refetch since again) : Runs s (s.setSeq q c) := by
  refine ⟨rfl, fun _ => rfl, fun _ _ => rfl, fun _ => rfl, fun r i j hr => ?_, rfl⟩
  by_cases e : r = q
  · subst e
    exact h i j (by rwa [s.seq_setSeq_same] at hr)
  · rwa [s.seq_setSeq_other _ e] at hr

/-- A controller whose devices hold what they held. -/
theorem State.setDr_runs (s : State) (n : QuadId) {d : DramUnit} (h : d.mem = (s.dr n).mem) : Runs s (s.setDr n d) := by
  refine ⟨rfl, fun _ => rfl, fun _ _ => rfl, fun m => ?_, fun _ _ _ h => h, rfl⟩
  rw [State.dr_setDr]
  split
  · next e => rw [h, e]
  · rfl

end Runs
end Sys2Proof.Machine

namespace Sys2Proof.Machine

section Stages

variable {s : State}

/-! #### The transmit queue (R306, R307) -/

theorem State.sendMsg_runs (s : State) (m : HostMsg) : Runs s (s.sendMsg m) := by
  unfold State.sendMsg
  extract_lets flow i x ports next u
  split
  · split
    · exact s.setSession_runs _ _
    · extract_lets b
      refine Runs.trans (t := u) (s.setSession_runs i _) ?_
      split
      next sport v hv =>
      refine .trans ?_ (forAll_runs (fun w p => w.waitTx_runs p _) ports v)
      split at hv
      · cases hv; exact .refl _
      · cases hv; exact u.draw_runs 16
  · exact s.setSession_runs _ _

/-- The oldest message leaves the transmit queue, unless another of its class waits at one of its ports. -/
theorem State.drainMtx_spec (s : State) :
    ∃ l, Runs { s with net := { s.net with mtx := l } } s.drainMtx ∧ (s.net.mtx = [] → s.drainMtx = s) ∧
      ∀ m rest, s.net.mtx = m :: rest →
        ((∀ p ∈ s.msgPorts m, ∀ x ∈ (s.txPort p).queue, x.cls ≠ 2) → l = rest) ∧
        ((∃ p ∈ s.msgPorts m, ∃ x ∈ (s.txPort p).queue, x.cls = 2) → l = m :: rest) := by
  unfold State.drainMtx
  rcases hl : s.net.mtx with _ | ⟨m, rest⟩
  · refine ⟨[], ?_, fun _ => rfl, by simp⟩
    change Runs _ s
    rw [← hl]
    exact .refl s
  · simp only
    split
    next h =>
      refine ⟨m :: rest, ?_, by simp, ?_⟩
      · rw [← hl]; exact .refl s
      · intro m' rest' e
        cases e
        simp only [List.any_eq_true, beq_iff_eq] at h
        obtain ⟨p, hp, x, hx, hc⟩ := h
        exact ⟨fun hn => absurd hc (hn p hp x hx), fun _ => rfl⟩
    next h =>
      refine ⟨rest, State.sendMsg_runs _ _, by simp, ?_⟩
      intro m' rest' e
      cases e
      refine ⟨fun _ => rfl, fun hx => absurd ?_ h⟩
      simpa only [List.any_eq_true, beq_iff_eq] using hx

/-! #### The transmitters (R303) -/

theorem State.depart_runs (s : State) (p : PortId) (w : TxWait) : Runs s (s.depart p w) := by
  cases w with
  | request d => exact (s.setSlots_runs _).trans (State.send_runs _ _ _)
  | ready x => exact s.send_runs _ _
  | ptpForward f c k i => exact s.send_runs _ _
  | pdelayResp dom seq id num c r => exact s.send_runs _ _

/-- Sending a frame leaves what waits. -/
theorem State.depart_tx (s : State) (p : PortId) (w : TxWait) : (s.depart p w).net.tx = s.net.tx := by
  cases w <;> rfl

/-- One core cycle of port `p`'s transmitter. -/
def State.txStep (s : State) (p : PortId) : State :=
  if s.portUp p then s.txStart p else if (s.txPort p).queue.isEmpty then s else s.txFlush p

theorem State.txRun_txStep (s : State) : s.txRun = (s.txStep 0).txStep 1 := rfl

theorem State.txStart_runs (s : State) (p : PortId) : Runs s (s.txStart p) := by
  unfold State.txStart
  extract_lets t
  split
  · exact .refl s
  · cases firstOf (s.msgWaits p) t.queue with
    | none => exact .refl s
    | some x => exact (s.setTx_runs p _).trans (State.depart_runs _ p x.what)

theorem State.txStep_runs (s : State) (p : PortId) : Runs s (s.txStep p) := by
  unfold State.txStep
  split
  · exact s.txStart_runs p
  · split
    · exact .refl s
    · exact (s.setTx_runs p {}).trans (forAll_runs (fun u _ => u.fwdDrop_runs _) _ _)

theorem State.txPort_setTx (s : State) (p q : PortId) (x : TxPort) :
    (s.setTx p x).txPort q = if q = p then x else s.txPort q := by
  unfold State.txPort State.setTx
  by_cases h : q = p
  · subst h; simp
  · have hv : p.val ≠ q.val := fun e => h (Fin.ext e.symm)
    simp [h, Vector.getElem_set_ne, hv]

theorem State.fwdDrop_tx {α : Type} (l : List α) (p : PortId) (s : State) :
    (forAll l s fun s _ => s.countReg (A.NET_PORT_FWD_DROP p)).net.tx = s.net.tx :=
  forAll_keeps (f := fun s _ => s.countReg _) (P := fun t => t.net.tx = s.net.tx) (fun _ _ h => h) l s rfl

/-- A transmitter leaves the other port's. -/
theorem State.txPort_txStep_other (s : State) {p q : PortId} (h : q ≠ p) : (s.txStep p).txPort q = s.txPort q := by
  have of_tx {t u : State} (e : t.net.tx = u.net.tx) : t.txPort q = u.txPort q := by rw [State.txPort, State.txPort, e]
  have hset (x : TxPort) : (s.setTx p x).txPort q = s.txPort q := by rw [s.txPort_setTx, if_neg h]
  unfold State.txStep
  split
  · unfold State.txStart
    extract_lets t
    split
    · rfl
    · cases firstOf (s.msgWaits p) t.queue with
      | none => rfl
      | some x => exact (of_tx (State.depart_tx _ p x.what)).trans (hset _)
  · split
    · rfl
    · exact (of_tx (State.fwdDrop_tx _ _ _)).trans (hset _)

/-- With no message for its port, a transmitter takes the first frame of the first class that has one. -/
theorem firstOf_least {l : List TxItem} (hl : l ≠ []) (hc : ∀ x ∈ l, 1 ≤ x.cls ∧ x.cls ≤ 3) :
    ∃ x ∈ l, firstOf false l = some x ∧ ∀ y ∈ l, x.cls ≤ y.cls := by
  unfold firstOf
  cases h1 : l.find? (fun x => x.cls == 1) with
  | some x =>
    have hx : x.cls = 1 := by simpa using List.find?_some h1
    exact ⟨x, List.mem_of_find?_eq_some h1, rfl, fun y hy => hx ▸ (hc y hy).1⟩
  | none =>
    have hn1 : ∀ y ∈ l, y.cls ≠ 1 := by simpa using h1
    cases h2 : l.find? (fun x => x.cls == 2) with
    | some x =>
      have hx : x.cls = 2 := by simpa using List.find?_some h2
      refine ⟨x, List.mem_of_find?_eq_some h2, rfl, fun y hy => ?_⟩
      have := hc y hy
      have := hn1 y hy
      omega
    | none =>
      have hn2 : ∀ y ∈ l, y.cls ≠ 2 := by simpa using h2
      obtain ⟨x, l', rfl⟩ := List.exists_cons_of_ne_nil hl
      refine ⟨x, by simp, rfl, fun y hy => ?_⟩
      have := hc x (by simp)
      have := hc y hy
      have := hn1 y hy
      have := hn2 y hy
      omega

/-- A free transmitter of a port that is up starts the first frame of the first class that has one (R303). -/
theorem State.txStep_starts (s : State) {p : PortId} (hm : s.net.mtx = []) (hu : s.portUp p = true)
    (hb : (s.txPort p).busy ≤ s.wt.cycle) (hq : (s.txPort p).queue ≠ [])
    (hc : ∀ x ∈ (s.txPort p).queue, 1 ≤ x.cls ∧ x.cls ≤ 3) :
    ∃ x ∈ (s.txPort p).queue, (∀ y ∈ (s.txPort p).queue, x.cls ≤ y.cls) ∧
      ((s.txStep p).txPort p).queue = (s.txPort p).queue.erase x ∧
      ((s.txStep p).txPort p).busy = s.wt.cycle + frameCycles (s.portMode p) x.len := by
  obtain ⟨x, hx, hf, hle⟩ := firstOf_least hq hc
  have hw : s.msgWaits p = false := by simp [State.msgWaits, hm]
  refine ⟨x, hx, hle, ?_⟩
  unfold State.txStep
  rw [if_pos hu]
  unfold State.txStart
  extract_lets t
  rw [if_neg (show ¬ s.wt.cycle < t.busy from Nat.not_lt.mpr hb), hw, hf]
  have ht := State.depart_tx (s.setTx p
    { queue := t.queue.erase x, busy := s.wt.cycle + frameCycles (s.portMode p) x.len, fwd := if x.fwd then x.len else 0 })
    p x.what
  have hp := s.txPort_setTx p p
    { queue := t.queue.erase x, busy := s.wt.cycle + frameCycles (s.portMode p) x.len, fwd := if x.fwd then x.len else 0 }
  simp only [State.txPort] at hp ⊢
  simp only [ht, hp, if_true]
  exact ⟨rfl, trivial⟩

/-- A transmitter with nothing waiting stays as it is. -/
theorem State.txStep_idle {p : PortId} (h : (s.txPort p).queue = []) : s.txStep p = s := by
  unfold State.txStep State.txStart
  simp [h, firstOf]

end Stages
end Sys2Proof.Machine

namespace Sys2Proof.Machine

section Stages

variable {s : State}

/-! #### The bundle loader (R88) -/

theorem State.writeSegment_runs (s : State) (g : Segment) : Runs s (s.writeSegment g) := by
  refine s.setSeq_runs g.seq fun i j h => ?_
  split at h <;> exact h

theorem State.segEnds_runs (s : State) (g : Segment) : Runs s (s.segEnds g) := by
  unfold State.segEnds
  extract_lets u c
  split
  · refine (s.writeSegment_runs g).trans (State.setSeq_runs _ _ fun i j h => ?_)
    split at h
    · cases h
    · exact h
  · exact s.writeSegment_runs g

/-- The loader keeps in mind a sequencer that it begins to load while that one is idle (R88). -/
def State.mindsLoaded (s : State) (g : Segment) : State :=
  if s.seqIdle g.seq then s.setTrust { s.rot with loaded := g.seq :: s.rot.loaded } else s

theorem State.segBegins_cons (s : State) (g : Segment) (l : List Segment) : s.segBegins (g :: l) =
    if g.hot then (s.mindsLoaded g).setSeq g.seq
      { (s.mindsLoaded g).seq g.seq with hot := [(g.addr, g.addr + g.body.length / 8)] }
    else s.mindsLoaded g := rfl

theorem State.mindsLoaded_runs (s : State) (g : Segment) : Runs s (s.mindsLoaded g) := by
  unfold State.mindsLoaded
  split
  · exact s.setLoader_runs s.rot.job _
  · exact .refl s

theorem State.mindsLoaded_net (s : State) (g : Segment) : (s.mindsLoaded g).net = s.net := by
  unfold State.mindsLoaded
  split <;> rfl

theorem State.segBegins_runs (s : State) (l : List Segment) : Runs s (s.segBegins l) := by
  cases l with
  | nil => exact .refl s
  | cons g l =>
    rw [s.segBegins_cons]
    split
    · exact (s.mindsLoaded_runs g).trans (State.setSeq_runs _ g.seq fun _ _ h => h)
    · exact s.mindsLoaded_runs g

theorem State.loadRun_runs (s : State) : Runs s s.loadRun := by
  unfold State.loadRun
  split
  next g t since hj =>
    split
    · exact (s.segEnds_runs g).trans (.trans (State.setLoader_runs _ _ _) (State.segBegins_runs _ _))
    · exact .refl s
  next => exact .refl s

theorem State.segEnds_net (s : State) (g : Segment) : (s.segEnds g).net = s.net := by
  unfold State.segEnds
  split <;> rfl

theorem State.segBegins_net (s : State) (l : List Segment) : (s.segBegins l).net = s.net := by
  cases l with
  | nil => rfl
  | cons g l =>
    rw [s.segBegins_cons]
    split
    · exact s.mindsLoaded_net g
    · exact s.mindsLoaded_net g

/-- The loader leaves the ports alone. -/
theorem State.loadRun_net (s : State) : s.loadRun.net = s.net := by
  unfold State.loadRun
  split
  · split
    · exact (State.segBegins_net _ _).trans (s.segEnds_net _)
    · rfl
  · rfl

theorem State.loadRun_idle (h : s.rot.job = none) : s.loadRun = s := by
  unfold State.loadRun
  rw [h]

/-! #### The DRAM controllers (R388) -/

/-- A core cycle of a controller changes it alone, and nothing that its devices hold. -/
theorem State.dramBeatOf_cases (s : State) (n : QuadId) :
    s.dramBeatOf n = s ∨ ∃ d : DramUnit, s.dramBeatOf n = s.setDr n d ∧ d.mem = (s.dr n).mem := by
  unfold State.dramBeatOf
  extract_lets d held d'
  split
  · exact .inl rfl
  · split
    · exact .inl rfl
    · exact .inr ⟨_, rfl, rfl⟩
    · split
      · exact .inr ⟨_, rfl, rfl⟩
      · exact .inr ⟨_, rfl, rfl⟩

theorem State.dramBeatOf_runs (s : State) (n : QuadId) : Runs s (s.dramBeatOf n) := by
  rcases s.dramBeatOf_cases n with h | ⟨d, h, hd⟩
  · rw [h]; exact .refl s
  · rw [h]; exact s.setDr_runs n hd

theorem State.dramBeatOf_net (s : State) (n : QuadId) : (s.dramBeatOf n).net = s.net := by
  rcases s.dramBeatOf_cases n with h | ⟨d, h, -⟩ <;> rw [h]
  rfl

theorem State.dramRun_runs (s : State) : Runs s s.dramRun := forAll_runs State.dramBeatOf_runs _ s

theorem State.dramRun_net (s : State) : s.dramRun.net = s.net :=
  forAll_keeps (P := fun t => t.net = s.net) (fun t n h => (t.dramBeatOf_net n).trans h) _ s rfl

theorem State.dramBeatOf_idle (n : QuadId) (h : (s.dr n).rq = [] ∧ (s.dr n).wq = []) : s.dramBeatOf n = s := by
  obtain ⟨hr, hw⟩ := h
  unfold State.dramBeatOf
  extract_lets d held d'
  simp [d, hr, hw]

/-! #### Fetches that wait, and requests to the root of trust -/

theorem State.refetch_idle (q : SeqId) (h : ∀ since again, (s.seq q).busy ≠ .refetch since again) : s.refetch q = s := by
  unfold State.refetch
  extract_lets c
  split
  next i j hc => exact absurd hc (h i j)
  next => rfl

theorem State.rotDrain_nothing (n : Nat) (h : s.rot.queue = []) : State.rotDrain n s = s := by
  cases n with
  | zero => rfl
  | succ n => cases hj : s.rot.job <;> simp [State.rotDrain, h, hj]

/-! #### The whole core cycle after wall time's -/

/-- The transmit queue, the transmitters, the loader and the controllers in a core cycle. -/
def State.unitsRun (s : State) : State := s.drainMtx.txRun.loadRun.dramRun

theorem State.txRun_runs (s : State) : Runs s s.txRun := (s.txStep_runs 0).trans (State.txStep_runs _ 1)

theorem State.unitsRun_net (s : State) : s.unitsRun.net = s.drainMtx.txRun.net :=
  (State.dramRun_net _).trans (State.loadRun_net _)

/-- What a core cycle changes after wall time's, once the transmit queue is as the cycle leaves it. -/
theorem State.unitsRun_spec (s : State) :
    ∃ l, Runs { s with net := { s.net with mtx := l } } s.unitsRun ∧ (s.net.mtx = [] → l = []) ∧
      ∀ m rest, s.net.mtx = m :: rest →
        ((∀ p ∈ s.msgPorts m, ∀ x ∈ (s.txPort p).queue, x.cls ≠ 2) → l = rest) ∧
        ((∃ p ∈ s.msgPorts m, ∃ x ∈ (s.txPort p).queue, x.cls = 2) → l = m :: rest) := by
  obtain ⟨l, hr, hn, hm⟩ := s.drainMtx_spec
  refine ⟨l, hr.trans ((State.txRun_runs _).trans ((State.loadRun_runs _).trans (State.dramRun_runs _))), fun h => ?_, hm⟩
  have := hr.mtx
  rw [hn h, h] at this
  exact this.symm

/-- The transmitters' registers of modes do not change as the transmitters run. -/
theorem Runs.portMode {s t : State} (h : Runs s t) (p : PortId) : t.portMode p = s.portMode p := by
  have ha : (F.PWR_STATUS_STATE).addr ∉ runRegs := by decide
  have hb : ∀ p : PortId, (F.NET_PORT_MODE_MODE p).addr ∉ runRegs := by decide
  unfold State.portMode State.inStay
  rw [h.get ha, h.get (hb p)]

theorem Runs.portUp {s t : State} (h : Runs s t) (p : PortId) : t.portUp p = s.portUp p := by
  have hb : ∀ p : PortId, (F.NET_PORT_STATUS_UP p).addr ∉ runRegs := by decide
  exact h.flag (hb p)

/-- With no message leaving, a port that is up and free starts the first frame of the first class that has one (R303). -/
theorem State.unitsRun_starts (s : State) (p : PortId) (hm : s.net.mtx = []) (hu : s.portUp p = true)
    (hb : (s.txPort p).busy ≤ s.wt.cycle) (hq : (s.txPort p).queue ≠ [])
    (hc : ∀ x ∈ (s.txPort p).queue, 1 ≤ x.cls ∧ x.cls ≤ 3) :
    ∃ x ∈ (s.txPort p).queue, (∀ y ∈ (s.txPort p).queue, x.cls ≤ y.cls) ∧
      (s.unitsRun.txPort p).queue = (s.txPort p).queue.erase x ∧
      (s.unitsRun.txPort p).busy = s.wt.cycle + frameCycles (s.portMode p) x.len := by
  obtain ⟨-, -, hd, -⟩ := s.drainMtx_spec
  have hnet : s.unitsRun.txPort p = ((s.txStep 0).txStep 1).txPort p := by
    rw [State.txPort, s.unitsRun_net, hd hm]
    rfl
  rw [hnet]
  match p with
  | 0 =>
    rw [State.txPort_txStep_other _ (by decide)]
    exact s.txStep_starts hm hu hb hq hc
  | 1 =>
    have h0 := s.txStep_runs 0
    have ht : (s.txStep 0).txPort 1 = s.txPort 1 := s.txPort_txStep_other (by decide)
    have h := (s.txStep 0).txStep_starts (p := 1) (h0.mtx.trans hm) ((h0.portUp 1).trans hu)
    rw [ht, h0.cycle, h0.portMode] at h
    exact h hb hq hc

/-- With nothing waiting, nothing runs. -/
theorem State.unitsRun_idle (hm : s.net.mtx = []) (ht : ∀ p : PortId, (s.txPort p).queue = []) (hj : s.rot.job = none)
    (hd : ∀ n : QuadId, (s.dr n).rq = [] ∧ (s.dr n).wq = []) : s.unitsRun = s := by
  obtain ⟨-, -, h1, -⟩ := s.drainMtx_spec
  unfold State.unitsRun
  rw [h1 hm, State.txRun_txStep, State.txStep_idle (ht 0), State.txStep_idle (ht 1), State.loadRun_idle hj]
  exact forAll_idle fun n => State.dramBeatOf_idle n (hd n)

end Stages
end Sys2Proof.Machine

namespace Sys2Proof.Machine

/-! ### One core cycle (R28, R30) -/

section NewCycle

variable (s : State)

/-- The state once the core cycle has ended with nothing to discard and wall time has moved on. -/
def State.newCycle : State := (s.freshCycle (s.wt.cycle + 1)).tick

theorem State.newCycle_tells : Tells [F.WT_FLAGS_FREQ_CLAMP, F.SEQ_EVQ_STATUS_OVERFLOW 4]
    { s.freshCycle (s.wt.cycle + 1) with wt := (s.freshCycle (s.wt.cycle + 1)).ticked } s.newCycle := State.tick_tells _

theorem State.newCycle_bits : BitsKept [F.WT_FLAGS_FREQ_CLAMP, F.SEQ_EVQ_STATUS_OVERFLOW 4] s s.newCycle := s.newCycle_tells.2.2

theorem State.newCycle_frame :
    s.newCycle = { s with wt := s.newCycle.wt, bus := s.newCycle.bus, regs := s.newCycle.regs, seqs := s.newCycle.seqs } := by
  have h := s.newCycle_tells.1
  have hw := s.newCycle_tells.wt_eq
  generalize s.newCycle = t at h hw ⊢
  rw [hw, h]
  rfl

theorem State.newCycle_wt : s.newCycle.wt = (s.freshCycle (s.wt.cycle + 1)).ticked := State.tick_wt _

theorem State.newCycle_cycle : s.newCycle.wt.cycle = s.wt.cycle + 1 := by rw [s.newCycle_wt]; rfl

theorem State.newCycle_wall : (s.newCycle.wt.wall : Int) = s.wt.wall + (s.freshCycle (s.wt.cycle + 1)).increment :=
  State.tick_wall _

/-- The record of the new core cycle starts empty, with what locks look at as it stood (R516). -/
theorem State.newCycle_bus : s.newCycle.bus =
    { cycle := s.wt.cycle + 1, hits := s.newCycle.bus.hits
      before := { regs := s.regs, live := s.live, scan := s.scan, planes := s.ing.planes, rxScan := s.rxScan } } :=
  State.tick_bus (s.freshCycle (s.wt.cycle + 1)) rfl

theorem State.newCycle_busy (q : SeqId) : (s.newCycle.seq q).busy = (s.seq q).busy := State.tick_busy _ q

theorem State.newCycle_seq {q : SeqId} (h : q.val < 4) : s.newCycle.seq q = s.seq q := State.tick_seq _ h

theorem State.newCycle_net : s.newCycle.net = s.net := by rw [s.newCycle_frame]
theorem State.newCycle_rot : s.newCycle.rot = s.rot := by rw [s.newCycle_frame]
theorem State.newCycle_dram : s.newCycle.dram = s.dram := by rw [s.newCycle_frame]

theorem State.newCycle_txPort (p : PortId) : s.newCycle.txPort p = s.txPort p := by
  rw [State.txPort, State.txPort, s.newCycle_net]

theorem apart_ports : ∀ p : PortId, ∀ g ∈ [F.NET_PORT_STATUS_UP p, F.NET_PORT_MODE_MODE p, F.NET_EVT_CFG_PORTS, F.PWR_STATUS_STATE],
    apart [F.WT_FLAGS_FREQ_CLAMP, F.SEQ_EVQ_STATUS_OVERFLOW 4] g = true ∧ g.lo + g.w ≤ 32 := by decide

theorem State.newCycle_portUp (p : PortId) : s.newCycle.portUp p = s.portUp p := by
  obtain ⟨ha, hb⟩ := apart_ports p (F.NET_PORT_STATUS_UP p) (by simp)
  exact s.newCycle_bits.flag_apart hb ha

theorem State.newCycle_portMode (p : PortId) : s.newCycle.portMode p = s.portMode p := by
  obtain ⟨ha, hb⟩ := apart_ports p (F.NET_PORT_MODE_MODE p) (by simp)
  obtain ⟨hc, hd⟩ := apart_ports p F.PWR_STATUS_STATE (by simp)
  unfold State.portMode State.inStay
  rw [s.newCycle_bits.get_apart hb ha, s.newCycle_bits.get_apart hd hc]

theorem State.newCycle_msgPorts (m : HostMsg) : s.newCycle.msgPorts m = s.msgPorts m := by
  obtain ⟨ha, hb⟩ := apart_ports 0 F.NET_EVT_CFG_PORTS (by simp)
  unfold State.msgPorts
  simp only [s.newCycle_portUp, s.newCycle_bits.get_apart hb ha]

end NewCycle

section WallTimeTick

variable {s : State}

/-- A tick with nothing to discard, no fetch that stands still and no request that waits. -/
theorem State.execWallTimeTick_units (hq : s.rot.queue = []) (hw : s.wild = Vector.replicate 4 none)
    (hl : s.lateLocks s.busNow.writes = []) (hb : ∀ q since again, (s.seq q).busy ≠ .refetch since again) :
    execWallTimeTick s = .next s.newCycle.unitsRun := by
  obtain ⟨l, hr, -⟩ := s.newCycle.unitsRun_spec
  have hbusy (q : SeqId) : s.newCycle.unitsRun.refetch q = s.newCycle.unitsRun :=
    State.refetch_idle q fun i j h => hb q i j ((s.newCycle_busy q).symm.trans (hr.busy q i j h))
  have hqueue : s.newCycle.unitsRun.rot.queue = [] := by
    rw [hr.frame]
    exact (congrArg RotUnit.queue s.newCycle_rot).trans hq
  have he : s.cycleEnds.tick.drainMtx.txRun.loadRun.dramRun = s.newCycle.unitsRun := by
    rw [State.cycleEnds_fresh hw hl]; rfl
  rw [execWallTimeTick, he, forAll_idle hbusy, State.rotDrain_nothing 9 hqueue]

end WallTimeTick
end Sys2Proof.Machine

namespace Sys2Proof.Machine

section WallTimeTick

variable {s : State}

/-- The parts of the wall-time unit that a core cycle moves. -/
theorem State.newCycle_moves (s : State) : ∃ wall cycle dHeld hoCycles slots, s.newCycle.wt =
    { s.wt with wall := wall, cycle := cycle, dHeld := dHeld, hoCycles := hoCycles, slots := slots } :=
  ⟨_, _, _, _, _, s.newCycle_wt⟩

/-- A core cycle leaves what the timed slots and the capture FIFO hold. -/
theorem State.newCycle_slots (s : State) : s.newCycle.wt.evts = s.wt.evts ∧ s.newCycle.wt.capFifo = s.wt.capFifo := by
  obtain ⟨_, _, _, _, _, h⟩ := s.newCycle_moves
  rw [h]
  exact ⟨rfl, rfl⟩

/-- Beside wall time and the record of the core cycle, a core cycle changes what its units may. -/
theorem State.unitsRun_newCycle_frame (s : State) : let t := s.newCycle.unitsRun
    t = { s with wt := t.wt, net := t.net, regs := t.regs, seqs := t.seqs, sess := t.sess, free := t.free,
                 bus := t.bus, rot := { s.rot with job := t.rot.job, loaded := t.rot.loaded }, dram := t.dram } ∧
      t.wt = { s.newCycle.wt with slots := t.wt.slots } ∧ t.net.mrx = s.net.mrx := by
  intro t
  obtain ⟨l, hr, -⟩ := s.newCycle.unitsRun_spec
  have h1 := hr.frame
  have h2 := s.newCycle_frame
  change t = _ at h1
  generalize s.newCycle = v at *
  generalize t = t at *
  refine ⟨?_, ?_, ?_⟩
  · rw [h1, h2]
  · rw [h1]
  · rw [h1, h2]

/-- What a core cycle adds to wall time (R28). -/
theorem State.unitsRun_newCycle_wall (s : State) : let t := s.newCycle.unitsRun
    let limit : Int := (min (s.get F.WT_FREQ_LIMIT_LIMIT) 200000 : Nat)
    let inc : Int := (t.wt.wall : Int) - s.wt.wall
    t.wt.cycle = s.wt.cycle + 1 ∧ s.wt.wall < t.wt.wall ∧ 10 ^ 9 * (inc - nominalInc) ≤ nominalInc * limit ∧
      -(nominalInc * limit) - 10 ^ 9 < 10 ^ 9 * (inc - nominalInc) ∧ (s.leash = .unleashed → inc = nominalInc) ∧
      t.wt.evts = s.wt.evts ∧ t.wt.capFifo = s.wt.capFifo := by
  obtain ⟨-, hwt, -⟩ := s.unitsRun_newCycle_frame
  have hcycle := s.newCycle_cycle
  have hwall := s.newCycle_wall
  have hevts := s.newCycle_slots
  have hpos := (s.freshCycle (s.wt.cycle + 1)).increment_pos
  obtain ⟨h1, h2⟩ := (s.freshCycle (s.wt.cycle + 1)).increment_limit
  have h3 := (s.freshCycle (s.wt.cycle + 1)).increment_unleashed
  generalize (s.freshCycle (s.wt.cycle + 1)).increment = x at *
  generalize s.newCycle.wt = v at *
  intro t limit inc
  have hinc : inc = x := by unfold inc t; rw [hwt, hwall]; omega
  rw [hinc]
  refine ⟨?_, ?_, h1, h2, h3, ?_⟩
  · unfold t; rw [hwt]; exact hcycle
  · omega
  · unfold t; rw [hwt]; exact hevts

/-- A core cycle's record is the new one's, with the hits that the units have added. -/
theorem State.unitsRun_newCycle_bus (s : State) : let t := s.newCycle.unitsRun
    t.bus = { cycle := s.wt.cycle + 1, hits := t.bus.hits
              before := { regs := s.regs, live := s.live, scan := s.scan, planes := s.ing.planes, rxScan := s.rxScan } } := by
  intro t
  obtain ⟨l, hr, -⟩ := s.newCycle.unitsRun_spec
  have hb := s.newCycle_bus
  have h := hr.bus (by
    change s.newCycle.bus.cycle = s.newCycle.wt.cycle
    rw [hb, s.newCycle_cycle])
  exact h.trans (by rw [hb])

theorem State.unitsRun_newCycle_mem (s : State) (n : QuadId) : (s.newCycle.unitsRun.dr n).mem = (s.dr n).mem := by
  obtain ⟨l, hr, -⟩ := s.newCycle.unitsRun_spec
  refine (hr.mem n).trans ?_
  change (s.newCycle.dr n).mem = _
  rw [State.dr, s.newCycle_dram, State.dr]

theorem State.unitsRun_newCycle_clamp (s : State) (h : s.askedAdj ≠ s.appliedAdj) :
    s.newCycle.unitsRun.flag F.WT_FLAGS_FREQ_CLAMP = true := by
  obtain ⟨l, hr, -⟩ := s.newCycle.unitsRun_spec
  exact (hr.flag (f := F.WT_FLAGS_FREQ_CLAMP) (by decide)).trans (State.tick_clamp (s.freshCycle (s.wt.cycle + 1)) h)

theorem State.unitsRun_newCycle_mtx (s : State) (m : HostMsg) (rest : List HostMsg) (hm : s.net.mtx = m :: rest) :
    ((∀ p ∈ s.msgPorts m, ∀ x ∈ (s.txPort p).queue, x.cls ≠ 2) → s.newCycle.unitsRun.net.mtx = rest) ∧
      ((∃ p ∈ s.msgPorts m, ∃ x ∈ (s.txPort p).queue, x.cls = 2) → s.newCycle.unitsRun.net.mtx = m :: rest) := by
  obtain ⟨l, hr, -, h⟩ := s.newCycle.unitsRun_spec
  have h := h m rest (by rw [s.newCycle_net]; exact hm)
  simp only [s.newCycle_msgPorts, s.newCycle_txPort] at h
  have hl : s.newCycle.unitsRun.net.mtx = l := hr.mtx
  rwa [hl]

theorem State.unitsRun_newCycle_starts (s : State) (p : PortId) (hm : s.net.mtx = []) (hu : s.portUp p = true)
    (hb : (s.txPort p).busy ≤ s.wt.cycle + 1) (hq : (s.txPort p).queue ≠ [])
    (hc : ∀ x ∈ (s.txPort p).queue, 1 ≤ x.cls ∧ x.cls ≤ 3) :
    ∃ x ∈ (s.txPort p).queue, (∀ y ∈ (s.txPort p).queue, x.cls ≤ y.cls) ∧
      (s.newCycle.unitsRun.txPort p).queue = (s.txPort p).queue.erase x ∧
      (s.newCycle.unitsRun.txPort p).busy = s.wt.cycle + 1 + frameCycles (s.portMode p) x.len := by
  have h := s.newCycle.unitsRun_starts p (by rw [s.newCycle_net]; exact hm) ((s.newCycle_portUp p).trans hu)
  simp only [s.newCycle_txPort, s.newCycle_cycle, s.newCycle_portMode] at h
  exact h hb hq hc

theorem State.unitsRun_newCycle_idle (s : State) (hm : s.net.mtx = []) (ht : ∀ p : PortId, (s.txPort p).queue = [])
    (hj : s.rot.job = none) (hd : ∀ n : QuadId, (s.dr n).rq = [] ∧ (s.dr n).wq = []) : s.newCycle.unitsRun = s.newCycle := by
  refine State.unitsRun_idle (by rw [s.newCycle_net]; exact hm) (fun p => by rw [s.newCycle_txPort]; exact ht p)
    (by rw [s.newCycle_rot]; exact hj) fun n => ?_
  rw [State.dr, s.newCycle_dram]
  exact hd n

end WallTimeTick

/-! ### A snapshot of wall time (R30) -/

section Snapshot

variable {s : State}

/-- The registers that a snapshot is written to. -/
def snapRegs : List Nat := [A.WT_SNAP_SEC_HI, A.WT_SNAP_SEC_LO, A.WT_SNAP_NS, A.WT_SNAP_FRAC]

theorem State.snap_spec (s : State) : let t := s.snap
    t.get F.WT_SNAP_FRAC_VALID = 0 ∧ RegsKept [A.WT_SNAP_FRAC] s t ∧
      t = { s with regs := t.regs, wt := { s.wt with snapAt := some (s.wt.wall, s.wt.cycle) } } :=
  ⟨s.get_clr (f := F.WT_SNAP_FRAC_VALID) (by decide), (s.clr_bitsKept F.WT_SNAP_FRAC_VALID).regsKept (by simp), rfl⟩

/-- The state with the instant `w` in the registers of a snapshot. -/
def State.snapWritten (s : State) (w : Nat) : State :=
  let ns := w / 2 ^ 48
  let sec := ns / 1000000000
  (((({ s with wt := { s.wt with snapAt := none } } : State).wr A.WT_SNAP_SEC_HI (BitVec.ofNat 32 (sec / 2 ^ 32))).wr
    A.WT_SNAP_SEC_LO (BitVec.ofNat 32 sec)).wr A.WT_SNAP_NS (BitVec.ofNat 32 (ns % 1000000000))).wr
    A.WT_SNAP_FRAC (BitVec.ofNat 32 (w / 2 ^ 32 % 65536 + 2 ^ 31))

theorem State.execSnapshotReady_written {w c : Nat} (h : s.wt.snapAt = some (w, c)) (hc : c + 4 ≤ s.wt.cycle) :
    execSnapshotReady s = .next (s.snapWritten w) := by
  unfold execSnapshotReady
  rw [h]
  simp only
  rw [if_pos hc]
  rfl

theorem State.snapWritten_regsKept (s : State) (w : Nat) : RegsKept snapRegs s (s.snapWritten w) := by
  intro a ha
  simp only [snapRegs, List.mem_cons, not_or, List.not_mem_nil, not_false_eq_true, and_true] at ha
  obtain ⟨h1, h2, h3, h4⟩ := ha
  unfold State.snapWritten
  rw [State.rd_wr_other _ _ h4, State.rd_wr_other _ _ h3, State.rd_wr_other _ _ h2, State.rd_wr_other _ _ h1]
  rfl

/-- The four words of a snapshot. -/
theorem State.rd_snapWritten (s : State) (w : Nat) : let t := s.snapWritten w
    let ns := w / 2 ^ 48
    (t.rd A.WT_SNAP_SEC_HI).toNat = ns / 1000000000 / 2 ^ 32 % 2 ^ 32 ∧ (t.rd A.WT_SNAP_SEC_LO).toNat = ns / 1000000000 % 2 ^ 32 ∧
      (t.rd A.WT_SNAP_NS).toNat = ns % 1000000000 ∧ (t.rd A.WT_SNAP_FRAC).toNat = w / 2 ^ 32 % 65536 + 2 ^ 31 := by
  have h1 : A.WT_SNAP_SEC_HI ≠ A.WT_SNAP_FRAC := by decide
  have h2 : A.WT_SNAP_SEC_HI ≠ A.WT_SNAP_NS := by decide
  have h3 : A.WT_SNAP_SEC_HI ≠ A.WT_SNAP_SEC_LO := by decide
  have h4 : A.WT_SNAP_SEC_LO ≠ A.WT_SNAP_FRAC := by decide
  have h5 : A.WT_SNAP_SEC_LO ≠ A.WT_SNAP_NS := by decide
  have h6 : A.WT_SNAP_NS ≠ A.WT_SNAP_FRAC := by decide
  refine ⟨?_, ?_, ?_, ?_⟩ <;> unfold State.snapWritten
  · rw [State.rd_wr_other _ _ h1, State.rd_wr_other _ _ h2, State.rd_wr_other _ _ h3, State.rd_wr_same, BitVec.toNat_ofNat]
  · rw [State.rd_wr_other _ _ h4, State.rd_wr_other _ _ h5, State.rd_wr_same, BitVec.toNat_ofNat]
  · rw [State.rd_wr_other _ _ h6, State.rd_wr_same, BitVec.toNat_ofNat]
    omega
  · rw [State.rd_wr_same, BitVec.toNat_ofNat]
    omega

/-- The fraction of a snapshot, and that it is there. -/
theorem State.get_snapWritten (s : State) (w : Nat) : (s.snapWritten w).get ⟨A.WT_SNAP_FRAC, 0, 16⟩ = w / 2 ^ 32 % 2 ^ 16 ∧
    (s.snapWritten w).get F.WT_SNAP_FRAC_VALID = 1 := by
  obtain ⟨-, -, -, h⟩ := s.rd_snapWritten w
  constructor
  · change ((s.snapWritten w).rd A.WT_SNAP_FRAC).toNat / 2 ^ 0 % 2 ^ 16 = _
    rw [h]; omega
  · change ((s.snapWritten w).rd A.WT_SNAP_FRAC).toNat / 2 ^ 31 % 2 ^ 1 = _
    rw [h]; omega

end Snapshot

/-- Settles O21: a tick with nothing to discard is the new core cycle's wall time followed by what the units do in it, each
of which keeps to its own part of the state; the four words of a snapshot are read back. -/
theorem tickAndSnapshot : Obligations.TickAndSnapshot := by
  unfold Obligations.TickAndSnapshot
  refine ⟨fun s => ⟨_, rfl, ?_⟩, fun s => ⟨⟨s.snap, rfl, s.snap_spec⟩, ?_⟩⟩
  · intro hq hw hl hb nominal limit
    have ht : State.rotDrain 9 (forAll (fins 5) s.cycleEnds.tick.drainMtx.txRun.loadRun.dramRun State.refetch) =
        s.newCycle.unitsRun := Host.Outcome.next.inj (State.execWallTimeTick_units hq hw hl hb)
    rw [ht]
    obtain ⟨hframe, -, hmrx⟩ := s.unitsRun_newCycle_frame
    obtain ⟨hcycle, hwall, hmost, hleast, hfree, hevts, hcap⟩ := s.unitsRun_newCycle_wall
    have hbus := s.unitsRun_newCycle_bus
    have hidle := s.unitsRun_newCycle_idle
    have hnew := s.newCycle_frame
    have hkept : RegsKept [A.WT_FLAGS, A.SEQ_EVQ_STATUS 4] s s.newCycle := s.newCycle_bits.regsKept (by decide)
    have hclamp := s.unitsRun_newCycle_clamp
    have hmem := s.unitsRun_newCycle_mem
    have hmtx := s.unitsRun_newCycle_mtx
    have hstart := s.unitsRun_newCycle_starts
    have hseq (q : SeqId) (h : q.val < 4) := s.newCycle_seq h
    generalize s.newCycle.unitsRun = t at *
    generalize s.newCycle = v at *
    refine ⟨hcycle, hwall, hmost, hleast, hfree, ?_, ?_, ?_, ?_, hclamp, hframe, hevts, hcap, hmrx, hmem, hmtx, hstart, ?_⟩
    · rw [hbus]
    · rw [hbus]
    · rw [hbus]
    · rw [hbus]
    · intro hm hx hj hd
      rw [hidle hm hx hj hd]
      exact ⟨hkept, hnew, hseq⟩
  · intro w c h hc ns
    obtain ⟨h1, h2, h3, h4⟩ := s.rd_snapWritten w
    refine ⟨_, State.execSnapshotReady_written h hc, rfl, s.snapWritten_regsKept w, fun hn => ?_, h3, s.get_snapWritten w⟩
    rw [h1, h2]
    omega

end Sys2Proof.Machine

/-!
PROOFS of the statements of 03_porow_model: the instruction set as a sequencer runs it (O2, O6, O7, O9, O10, O12, O14,
O15, O16) and management messages (O39).
-/

namespace Sys2Proof.Machine

/-! ### Register accesses as a sequencer issues them (R65 to R72, R102 to R108) -/

section Accesses

variable {s : State} {q : SeqId}

/-- The outcome of a row whose instruction is fetched. -/
theorem State.next_issue {i : POp} {body : State → State} (h : Fetches s q i) :
    (Host.Outcome.next (s.issue q i body) : Out) = .next (body s) := congrArg _ (State.issue_of_fetches h)

/-- The posted writes that a sequencer holds, as the sum of their words (R103). -/
theorem Seq.postedCount_eq (c : Seq) : c.postedCount = (c.posted.map fun p => p.vals.length).sum := by
  rw [Seq.postedCount, List.sum_eq_foldl, List.foldl_map]

/-- The first address at which an access fails decides its fault. -/
theorem State.reachFault_cons {a : Nat} {l : List Nat} {w : Bool} {f : SeqFault}
    (h : (s.reach (masterOf q) a w).fault = some f) : s.reachFault q (a :: l) w = some f := by
  simp [State.reachFault, h]

/-- An access within reach at every address has no fault. -/
theorem State.reachFault_none {l : List Nat} {w : Bool} (h : ∀ a ∈ l, (s.reach (masterOf q) a w).fault = none) :
    s.reachFault q l w = none := List.findSome?_eq_none_iff.mpr h

/-- A write outside reach faults (R65, R72). -/
theorem State.postWrite_fault {a : Nat} {v : Word} {vals : List Word} {go : Bool} {f : SeqFault}
    (h : (s.reach (masterOf q) a true).fault = some f) : s.postWrite q a (v :: vals) go = s.seqFault q f := by
  have hf : s.reachFault q ((List.range (vals.length + 1)).map fun i => a + 4 * i) true = some f := by
    rw [List.range_succ_eq_map]
    exact State.reachFault_cons h
  simp [State.postWrite, hf]

/-- A read outside reach faults (R65, R72). -/
theorem State.startRead_fault {a n : Nat} {d : ReadDest} {f : SeqFault}
    (h : (s.reach (masterOf q) a false).fault = some f) : s.startRead q a (n + 1) d = s.seqFault q f := by
  have hf : s.reachFault q ((List.range (n + 1)).map fun i => a + 4 * i) false = some f := by
    rw [List.range_succ_eq_map]
    exact State.reachFault_cons h
  simp [State.startRead, hf]

/-- A write within reach that is no GO write is posted where the buffer has room for its words, and waits elsewhere
(R67, R103, R106). -/
theorem State.postWrite_posts {a : Nat} {vals : List Word} {go : Bool}
    (h : ∀ i < vals.length, (s.reach (masterOf q) (a + 4 * i) true).fault = none) (hgo : (go && goAddr a) = false) :
    s.postWrite q a vals go =
      if (s.seq q).postedCount + vals.length ≤ 8 then
        s.setSeq q { s.seq q with pc := (s.seq q).pc + 1, posted := (s.seq q).posted ++ [⟨a, vals, none⟩] }
      else s := by
  have hf : s.reachFault q ((List.range vals.length).map fun i => a + 4 * i) true = none :=
    State.reachFault_none (by simpa using h)
  simp [State.postWrite, hf, hgo]

/-- A write within reach to a GO register stalls its sequencer (R105). -/
theorem State.postWrite_go {a : Nat} {v : Word} (h : (s.reach (masterOf q) a true).fault = none)
    (hgo : goAddr a = true) : s.postWrite q a [v] true =
      s.setSeq q { s.seq q with run := .stalled, busy := .go a v s.wt.cycle false } := by
  have hf : s.reachFault q ((List.range [v].length).map fun i => a + 4 * i) true = none :=
    State.reachFault_none (by simpa using h)
  simp only [State.postWrite, hf, hgo, Bool.and_self]

/-- A quadrant's sequencer acts as its own master. -/
theorem masterOf_sq (h : q.val < 4) : masterOf q = .sq ⟨q.val, h⟩ := dif_pos h

/-- A quadrant's sequencer reaches nothing through Whistle (R72). -/
theorem State.reach_window {a : Nat} (hq : q.val < 4) (h1 : 0x2000000 ≤ a) (h2 : a < 0x2400000) (w : Bool) :
    (s.reach (masterOf q) a w).fault = some .whistle := by
  have hw : 0x2000000 ≤ a % 0x4000000 / 4 * 4 ∧ a % 0x4000000 / 4 * 4 < 0x2400000 := by omega
  have hx : reachWith (s.whistleMask (masterOf q)) (masterOf q) a w = .whistle := by
    rw [masterOf_sq hq]
    exact if_pos hw
  rw [State.reach, hx]
  rfl

/-! #### A fault of a quadrant's sequencer -/

/-- What a sequencer that has faulted holds (R91). -/
def Seq.faulted (c : Seq) (f : SeqFault) : Seq := { c with run := .faulted, busy := .none, fault := some (f, c.pc) }

/-- A fault of SQ0 to SQ3 is told to SQS (R91). -/
theorem State.seqFault_quad {f : SeqFault} (h : q ≠ 4) :
    s.seqFault q f = (s.setSeq q ((s.seq q).faulted f)).sqsEvent 0x23 q (faultWord (some (f, (s.seq q).pc))) :=
  if_neg h

/-- A fault of SQ0 to SQ3 leaves of the sequencer what it had, but that it is FAULTED (R91). -/
theorem State.seq_seqFault_quad {f : SeqFault} (h : q ≠ 4) : (s.seqFault q f).seq q = (s.seq q).faulted f := by
  rw [State.seqFault_quad h]
  exact (State.seq_event_other _ h).trans (State.seq_setSeq_same _ _ _)

end Accesses

/-! ### Accesses through Whistle (O7) -/

section Whistle

variable {s : State} {q : SeqId}

/-- What O7 says of a state after a Whistle access. -/
theorem State.whistle_refused (hq : q.val < 4) : let c := s.seq q; let t := s.seqFault q .whistle
    (t.seq q).run = .faulted ∧ (t.seq q).fault = some (.whistle, c.pc) ∧ SeqFault.whistle.code = 5 ∧
      (t.seq q).posted = c.posted ∧ (t.seq q).g = c.g ∧ (t.seq q).t = c.t ∧ (t.seq q).p = c.p := by
  have h4 : q ≠ 4 := fun e => by simp [e] at hq
  simp only [State.seq_seqFault_quad h4]
  exact ⟨rfl, rfl, rfl, rfl, rfl, rfl, rfl⟩

end Whistle

/-- Settles O7: the reach of an access in the window has the fault WHISTLE at its first address, whichever instruction
issues it. -/
theorem whistleFaults : Obligations.WhistleFaults := by
  unfold Obligations.WhistleFaults
  intro s q g a x w imm r i c window hq hf hcase
  suffices hx : exec r s = .next (s.seqFault q .whistle) from ⟨_, hx, State.whistle_refused hq⟩
  rcases hcase with ⟨⟨h1, h2⟩, hcase⟩ | ⟨⟨h1, h2⟩, hcase⟩
  · have hr (wr : Bool) : (s.reach (masterOf q) (waddrByte w) wr).fault = some .whistle := State.reach_window hq h1 h2 wr
    rcases hcase with ⟨rfl, rfl⟩ | ⟨rfl, rfl⟩ | ⟨rfl, rfl⟩ | ⟨rfl, rfl⟩ | ⟨rfl, rfl⟩ | ⟨rfl, rfl⟩ | ⟨rfl, rfl⟩ |
      ⟨rfl, rfl⟩ | ⟨rfl, rfl⟩
    · exact (State.next_issue hf).trans (congrArg _ (State.startRead_fault (hr _)))
    · exact (State.next_issue hf).trans (congrArg _ (State.postWrite_fault (hr _)))
    · exact (State.next_issue hf).trans (congrArg _ (State.postWrite_fault (hr _)))
    · refine (State.next_issue hf).trans (congrArg _ ?_)
      simp [State.reachFault_cons (hr true)]
    · exact (State.next_issue hf).trans (congrArg _ (State.startRead_fault (hr _)))
    · exact (State.next_issue hf).trans (congrArg _ (State.postWrite_fault (hr _)))
    · exact (State.next_issue hf).trans (congrArg _ (State.startRead_fault (hr _)))
    · exact (State.next_issue hf).trans (congrArg _ (State.postWrite_fault (hr _)))
    · exact (State.next_issue hf).trans (congrArg _ (State.postWrite_fault (hr _)))
  · change 0x2000000 ≤ ((s.seq q).gr a).toNat at h1
    change ((s.seq q).gr a).toNat < 0x2400000 at h2
    have ha : indirectAddr ((s.seq q).gr a) = some (((s.seq q).gr a).toNat / 4 * 4) := if_pos (by omega)
    have hr (wr : Bool) : (s.reach (masterOf q) (((s.seq q).gr a).toNat / 4 * 4) wr).fault = some .whistle :=
      State.reach_window hq (by omega) (by omega) wr
    rcases hcase with ⟨rfl, rfl⟩ | ⟨rfl, rfl⟩
    · refine (State.next_issue hf).trans (congrArg _ ?_)
      simp [ha, State.startRead_fault (hr _)]
    · refine (State.next_issue hf).trans (congrArg _ ?_)
      simp [ha, State.postWrite_fault (hr _)]

/-! ### Posted writes (O6) -/

section Posted

variable {s : State} {q : SeqId}

/-- One word posted where an entry is free (R67, R103, R108). -/
theorem State.postWrite_word {a : Nat} {v : Word} {go : Bool} (h : (s.reach (masterOf q) a true).fault = none)
    (hgo : (go && goAddr a) = false) : s.postWrite q a [v] go =
      if ((s.seq q).posted.map fun p => p.vals.length).sum < 8 then
        s.setSeq q { s.seq q with pc := (s.seq q).pc + 1, posted := (s.seq q).posted ++ [⟨a, [v], none⟩] }
      else s := by
  rw [State.postWrite_posts (by simpa using h) hgo, Seq.postedCount_eq]
  rfl

/-- WR, WRI and WR [gA]: a GO write stalls, another is posted. -/
theorem State.postWrite_register {a : Nat} {v : Word} (h : (s.reach (masterOf q) a true).fault = none) :
    let t := s.postWrite q a [v] true
    if goAddr a = true then t = s.setSeq q { s.seq q with run := .stalled, busy := .go a v s.wt.cycle false }
    else if ((s.seq q).posted.map fun p => p.vals.length).sum < 8 then
      t = s.setSeq q { s.seq q with pc := (s.seq q).pc + 1, posted := (s.seq q).posted ++ [⟨a, [v], none⟩] }
    else t = s := by
  split
  · next hgo => exact State.postWrite_go h hgo
  · next hgo =>
    rw [State.postWrite_word h (by simpa using hgo)]
    split <;> rfl

/-- PUSH and DROPPKT are posted, GO register or not. -/
theorem State.postWrite_push {a : Nat} {v : Word} (h : (s.reach (masterOf q) a true).fault = none) :
    let t := s.postWrite q a [v] false
    if ((s.seq q).posted.map fun p => p.vals.length).sum < 8 then
      t = s.setSeq q { s.seq q with pc := (s.seq q).pc + 1, posted := (s.seq q).posted ++ [⟨a, [v], none⟩] }
    else t = s := by
  rw [State.postWrite_word h rfl]
  split <;> rfl

/-- TWR posts its three words together (R106). -/
theorem State.postWrite_time {a : Nat} {hi lo ns : Word} (h0 : (s.reach (masterOf q) a true).fault = none)
    (h4 : (s.reach (masterOf q) (a + 4) true).fault = none) (h8 : (s.reach (masterOf q) (a + 8) true).fault = none) :
    let t := s.postWrite q a [hi, lo, ns] false
    if ((s.seq q).posted.map fun p => p.vals.length).sum ≤ 5 then
      t = s.setSeq q { s.seq q with pc := (s.seq q).pc + 1, posted := (s.seq q).posted ++ [⟨a, [hi, lo, ns], none⟩] }
    else t = s := by
  have hr : ∀ i < [hi, lo, ns].length, (s.reach (masterOf q) (a + 4 * i) true).fault = none := by
    intro i hi
    match i, hi with
    | 0, _ => exact h0
    | 1, _ => exact h4
    | 2, _ => exact h8
  rw [State.postWrite_posts hr rfl, Seq.postedCount_eq]
  have hroom : (∀ n : Nat, n + [hi, lo, ns].length ≤ 8 ↔ n ≤ 5) := fun n =>
    Nat.add_le_add_iff_right (m := n) (k := 5) (n := 3)
  simp only [hroom]
  split <;> rfl

end Posted

/-- Settles O6: each instruction is `postWrite` at its address, which stalls on a GO register, posts, or waits. -/
theorem porowPostedWrites : Obligations.PorowPostedWrites := by
  unfold Obligations.PorowPostedWrites
  intro s q g a x w imm
  refine ⟨fun hf hr => ?_, fun hf hr => ?_, fun hf ha hr => ?_, fun hf hr => ?_, fun hf hr => ?_, fun hf h0 h4 h8 => ?_⟩
  · exact ⟨_, State.next_issue hf, State.postWrite_register hr⟩
  · exact ⟨_, State.next_issue hf, State.postWrite_register hr⟩
  · have hi : indirectAddr ((s.seq q).gr a) = some (((s.seq q).gr a).toNat / 4 * 4) := if_pos ha
    refine ⟨s.postWrite q (((s.seq q).gr a).toNat / 4 * 4) [(s.seq q).gr g] true, ?_, State.postWrite_register hr⟩
    refine (State.next_issue hf).trans (congrArg _ ?_)
    simp [hi]
  · exact ⟨_, State.next_issue hf, State.postWrite_push hr⟩
  · exact ⟨_, State.next_issue hf, State.postWrite_push hr⟩
  · have hhi (v : BitVec 64) : (v >>> 32).setWidth 32 = BitVec.ofNat 32 (v.toNat / 2 ^ 32) := by
      apply BitVec.eq_of_toNat_eq; simp [Nat.shiftRight_eq_div_pow]
    have hlo (v : BitVec 64) : v.setWidth 32 = BitVec.ofNat 32 v.toNat := by
      apply BitVec.eq_of_toNat_eq; simp
    refine ⟨_, (State.next_issue hf).trans ?_, State.postWrite_time h0 h4 h8⟩
    rw [← hhi, ← hlo]
    rfl

end Sys2Proof.Machine

namespace Sys2Proof.Machine

/-- The device in the clock reset: its reference clock is lost, and nothing else has happened since power-on. -/
def clockLost : State := { State.reset with power := { clkLost := true } }

/-- A device whose clock is lost is held: the host's write to SEQ0_POST reaches nothing. -/
theorem post_clockLost (v : Word) : exec (.post .host 0 v) clockLost = .next clockLost := by
  have hr : clockLost.reach .host (A.SEQ_POST 0) true = .outside := by decide
  exact congrArg Host.Outcome.next (State.writeAt_outside hr)

/-- Refutes O9: the statement does not set aside a device that a lost clock holds (R495), on which the host's write to
SEQ0_POST reaches nothing, so that no POSTED entry joins the empty queue. -/
theorem not_eventQueueRules : ¬ Obligations.EventQueueRules := by
  unfold Obligations.EventQueueRules
  intro h
  obtain ⟨hpost, -⟩ := h clockLost 0 .host 7 0 0 0 0
  obtain ⟨t, ht, -, -, hq, -⟩ := hpost (by simp) (by decide) (by decide)
  obtain rfl : clockLost = t := Host.Outcome.next.inj ((post_clockLost 7).symm.trans ht)
  exact absurd (congrArg (fun c : Seq => c.queue.length) hq) (by decide)

end Sys2Proof.Machine

namespace Sys2Proof.Machine

/-- The header of packet 0 of flow 5, a MGMT packet with `n` bytes of payload. -/
def mgmtHdr (n : Nat) : RknHdr :=
  { ver := 2, typ := 3, flags := 0, flow := 5, seq := 0, frame := 0, surface := 0, res1 := 0, x := 0, y := 0, w := 0,
    h := 0, len := BitVec.ofNat 16 n, res2 := 0 }

/-- A READ of no word: a request of a bad shape. -/
def readOfNothing : List Byte := [1, 0, 0, 0, 0, 0, 0, 9]

/-- The frame that carries it to port A. -/
def readFrame : NetFrame := { port := 0, len := 100, fcsOk := true, tags := 0, src := 1, dst := 0, encap := .raw }

/-- The packet, sealed under a key and a salt of zeros. -/
def readPacket : RknPkt := { frame := readFrame, data := rknSeal 0 (mgmtHdr 8) readOfNothing }

/-- What it carries. -/
def readMessage : RknMsg := { frame := readFrame, hdr := mgmtHdr 8, body := readOfNothing }

/-- A descriptor that waits. -/
def waitingDesc : InflDesc :=
  { flow := 0, ord := 0, mode := false, enc := 0, sos := false, dest := .nowhere, x := 0, y := 0, w := 1, h := 1
    bytes := [] }

/-- Port A is up and flow 5 an ACTIVE management flow of session 1, but the descriptor queue has no credit: each of its
1,024 places is taken. -/
def noCredit : State :=
  { State.reset with
    regs := [(A.NET_PORT_STATUS 0, 1), (A.FLOW_W0 5, 0x161)]
    sess := [(1, { authority := 0xFF, keys := #v[some { rx := 0, tx := 0 }, none] })]
    ing := { queue := List.replicate 1024 waitingDesc } }

theorem readPacket_heard : Heard readPacket noCredit := by
  unfold Heard; decide +kernel

theorem readPacket_inSequence : InSequence readPacket readMessage noCredit := by
  unfold InSequence; decide +kernel

/-- The next sequence number of flow 5 after an outcome, 0 where it is no next state. -/
def nextSeqOf : Out → Nat
  | .next t => t.nextSeq 5
  | _ => 0

/-- Without a credit the packet is held, and the sequence of its flow stays (R116, R165). -/
theorem readPacket_held : nextSeqOf (exec (.mgmtRead readPacket) noCredit) = 0 := by decide +kernel

/-- Refutes O39: the statement asks for no credit of the descriptor queue, without which the device holds a packet whose
turn has come (R116, R165), so that a READ of a bad shape is neither accepted nor answered. -/
theorem not_managementMessages : ¬ Obligations.ManagementMessages := by
  unfold Obligations.ManagementMessages
  intro h
  obtain ⟨-, -, -, hbad, -⟩ := h noCredit readPacket readMessage 0 { base := 0 } 0
  have hcomes : (rknHdr readPacket).typ = 3 ∧ Heard readPacket noCredit ∧ InSequence readPacket readMessage noCredit ∧
      noCredit.flag F.SEC_STATUS_RECOVERY = false ∧ noCredit.flowSession (rknHdr readPacket).flow.toNat ≠ 255 :=
    ⟨by decide +kernel, readPacket_heard, readPacket_inSequence, by decide +kernel, by decide +kernel⟩
  obtain ⟨hread, -, -⟩ := hbad hcomes
  obtain ⟨t, ht, ⟨⟨hseq, -⟩, -⟩, -⟩ := hread (by decide +kernel) (by decide +kernel)
  have hheld := readPacket_held
  rw [ht] at hheld
  have hflow : (rknHdr readPacket).flow.toNat = 5 := by decide +kernel
  have hnum : (rknHdr readPacket).seq.toNat = 0 := by decide +kernel
  rw [hflow, hnum] at hseq
  exact absurd (hheld.symm.trans hseq) (by decide)

end Sys2Proof.Machine

namespace Sys2Proof.Machine

/-! ### What the fault of a sequencer leaves of SQS (R91, R307, R479) -/

/-- SQS but its event queue, and the fields that a fault of SQS keeps beside it. -/
def sqsView := View.mk (fun s : State => ({ s.seq sqsQ with queue := [], lost := [] } : Seq))
  [F.PWR_STATUS_STATE, F.BIST_FLAGS_PARITY]

section Sqs

variable {s t : State}

theorem fit_sqsView : fit sqsView.fields = true := by decide

/-- A change of registers alone, in fields apart from those of the view. -/
theorem sqs_of_bitsKept {l : List Fld} (hl : ∀ g ∈ l, apart sqsView.fields g = true) (hb : BitsKept l s t)
    (hc : t.seqs = s.seqs) : sqsView.Same s t :=
  View.same_of_bitsKept (by simp only [sqsView, State.seq, hc]) fit_sqsView hl hb

/-- A change that touches neither a register nor a sequencer. -/
theorem sqs_of_regs (hr : t.regs = s.regs) (hc : t.seqs = s.seqs) : sqsView.Same s t :=
  sqs_of_bitsKept (l := []) (by simp) (.of_regs hr) hc

theorem State.put_sqs (s : State) {f : Fld} (v : Nat) (hf : apart sqsView.fields f = true) : sqsView.Same s (s.put f v) :=
  sqs_of_bitsKept (by simpa using hf) (s.put_bitsKept f v) rfl

theorem State.set_sqs (s : State) {f : Fld} (hf : apart sqsView.fields f = true) : sqsView.Same s (s.set f) :=
  sqs_of_bitsKept (by simpa using hf) (s.set_bitsKept f) rfl

theorem State.setIf_sqs (s : State) (b : Bool) {f : Fld} (hf : apart sqsView.fields f = true) :
    sqsView.Same s (s.setIf b f) := by
  unfold State.setIf
  split
  · exact s.set_sqs hf
  · exact .refl _ s

/-- Of SQS an event to it changes the queue alone. -/
theorem State.sqsEvent_sqs (s : State) (x y d : Nat) : sqsView.Same s (s.sqsEvent x y d) := by
  refine View.same_of_bitsKept (l := [F.SEQ_EVQ_STATUS_OVERFLOW 4]) ?_ fit_sqsView (by decide) (s.sqsEvent_bitsKept x y d)
  rcases s.event_cases sqsQ x y false d with ⟨-, e⟩ | ⟨-, lost, e⟩
  · rw [State.sqsEvent, e]
    simp only [sqsView, State.seq_setSeq_same]
  · rw [State.sqsEvent, e]
    simp only [sqsView, State.count, State.seq_noteHit, State.seq_put, State.seq_setSeq_same]

theorem State.queueMsg_sqs (s : State) (m : HostMsg) : sqsView.Same s (s.queueMsg m) := by
  unfold State.queueMsg
  split
  · exact sqs_of_regs rfl rfl
  · exact sqs_of_bitsKept (l := [whole A.NET_MTX_DROP]) (by decide) (s.countReg_bitsKept _) rfl

theorem State.alert_sqs (s : State) (cause code pc : Nat) : sqsView.Same s (s.alert cause code pc) := s.queueMsg_sqs _

theorem State.muzzle_sqs (s : State) (therm ken : Bool) : sqsView.Same s (s.muzzle therm ken) := by
  have h := ((s.put_sqs (f := ⟨A.MUZZLE_STATUS, 1, 4⟩) (s.muzzleSources therm ken) (by decide)).trans
    (State.put_sqs _ (f := F.MUZZLE_STATUS_ASSERTED) (b2n (s.muzzleSources therm ken != 0)) (by decide))).trans
    (State.setIf_sqs _ (decide (8 ≤ s.muzzleSources therm ken)) (f := F.MUZZLE_STATUS_EXT_SEEN) (by decide))
  unfold State.muzzle
  simp only
  split
  · exact h
  · exact h.trans (State.sqsEvent_sqs _ _ _ _)

theorem State.muzzleIf_sqs (s : State) (b : Bool) : sqsView.Same s (if b then s.muzzleKennel true else s) := by
  split
  · exact s.muzzle_sqs _ _
  · exact .refl _ s

theorem State.tplSend_sqs (s : State) (x : GroupId) (p : TplPacket) : sqsView.Same s (s.tplSend x p) := by
  unfold State.tplSend
  split
  · unfold State.tplSendOn
    split
    next b u hb =>
    have hu : u.regs = s.regs ∧ u.seqs = s.seqs := by
      split at hb
      · obtain ⟨-, rfl⟩ := Prod.mk.inj hb
        exact ⟨rfl, rfl⟩
      · obtain ⟨-, rfl⟩ := Prod.mk.inj hb
        exact ⟨rfl, rfl⟩
    exact sqs_of_regs hu.1 hu.2
  · exact .refl _ s

theorem State.setScan_sqs (s : State) (n : QuadId) (u : ScanUnit) : sqsView.Same s (s.setScan n u) :=
  sqs_of_bitsKept (l := [F.SCAN_STATUS_STATE n]) (by revert n; decide)
    ((BitsKept.of_regs rfl).trans (State.put_bitsKept _ _ _)) rfl

theorem State.power_sqs (s : State) (p : PowerUnit) : sqsView.Same s { s with power := p } := sqs_of_regs rfl rfl

theorem State.kennel_sqs (s : State) (k : KennelUnit) : sqsView.Same s { s with kennel := k } := sqs_of_regs rfl rfl

theorem State.stayStops_sqs (s : State) : sqsView.Same s s.stayStops := by
  refine forAll_same allQuads (fun t n _ => ?_) s
  split
  · exact t.setScan_sqs n _
  · exact t.setScan_sqs n _
  · exact .refl _ t

theorem State.stayAdvance_sqs (s : State) : sqsView.Same s s.stayAdvance := by
  have hwait : sqsView.Same s s.stayWaited := by
    unfold State.stayWaited
    split
    · split
      · exact .refl _ s
      · exact s.stayStops_sqs.trans (State.power_sqs _ _)
    · exact .refl _ s
  have hend (u : State) : sqsView.Same u u.stayEnded := by
    unfold State.stayEnded
    split
    · split
      · exact .refl _ u
      · exact (forAll_same allGroups (fun t x _ => t.tplSend_sqs x _) u).trans (State.power_sqs _ _)
    · exact .refl _ u
  rw [s.stayAdvance_eq]
  exact hwait.trans (hend _)

theorem State.kennelPanel_sqs (s : State) (thermal : Bool) : sqsView.Same s (s.kennelPanel thermal) := by
  have hscan := forAll_same (v := sqsView) allQuads
    (fun (t : State) n _ => t.setScan_sqs n { t.scanU n with run := .stopped, k0 := none, te := none }) s
  unfold State.kennelPanel
  simp only
  refine View.Same.trans ?_ (State.stayAdvance_sqs _)
  split
  · exact View.Same.trans (hscan.trans (State.kennel_sqs _ _)) (State.muzzle_sqs _ _ _)
  · exact View.Same.trans (hscan.trans (State.kennel_sqs _ _)) (forAll_same allGroups (fun t x _ => t.tplSend_sqs x _) _)

/-- A halt of a quadrant's sequencer is not one of SQS. -/
theorem State.haltSeq_sqs (s : State) (n : QuadId) : sqsView.Same s (s.haltSeq (sqOf n)) := by
  have hne : sqsQ ≠ sqOf n := fun e => by
    have := congrArg Fin.val e
    simp only [sqsQ, sqOf] at this
    omega
  refine View.same_of_bitsKept (l := []) ?_ fit_sqsView (by simp) (.of_regs rfl)
  simp only [sqsView, State.haltSeq, s.seq_setSeq_other _ hne]

/-- A Kennel reason leaves SQS as it is, but its event queue (R479, R480). -/
theorem State.kennelReason_sqs (s : State) (code : Nat) : sqsView.Same s (s.kennelReason code) := by
  unfold State.kennelReason
  simp only
  split
  · exact .refl _ s
  · have hput := s.put_sqs (f := F.KNL_STATUS_REASONS) (withBit (s.get F.KNL_STATUS_REASONS) (code - 1)) (by decide)
    split
    · refine View.Same.trans (View.Same.trans ?_ (State.muzzleIf_sqs _ _)) (State.sqsEvent_sqs _ _ _ _)
      exact hput.trans (State.kennel_sqs _ _)
    · refine View.Same.trans ?_ ((State.alert_sqs _ _ _ _).trans (State.sqsEvent_sqs _ _ _ _))
      refine View.Same.trans ?_ (forAll_same allQuads (fun t n _ => t.haltSeq_sqs n) _)
      exact ((hput.trans (State.set_sqs _ (by decide))).trans (State.put_sqs _ _ (by decide))).trans
        (State.kennelPanel_sqs _ _)

/-- A fault of SQS leaves of it what it had, but that it is FAULTED, and of the view's fields everything (R91). -/
theorem State.seqFault_sqs (s : State) (f : SeqFault) :
    sqsView.Same (s.setSeq sqsQ ((s.seq sqsQ).faulted f)) (s.seqFault sqsQ f) := by
  unfold State.seqFault
  simp only [if_true]
  have h := (s.setSeq sqsQ ((s.seq sqsQ).faulted f)).alert_sqs 1 f.code (s.seq sqsQ).pc.toNat
  split
  · exact h.trans (State.kennelReason_sqs _ _)
  · exact h

end Sqs

end Sys2Proof.Machine

namespace Sys2Proof.Machine

/-! ### Branches, calls and faults (O2) -/

section ControlFlow

variable {s : State} {q : SeqId}

/-- A row of the instruction table is an issue of its instruction. -/
theorem exec_porowRow {r : Instr} {i : POp} (h : porowRow r = some (q, i)) :
    ∃ body : State → State, ∀ s, exec r s = .next (s.issue q i body) := by
  cases r <;> simp only [porowRow, Option.some.injEq, Prod.mk.injEq, reduceCtorEq] at h
  all_goals
    obtain ⟨rfl, rfl⟩ := h
    exact ⟨_, fun _ => rfl⟩

/-- A sequencer that is not RUNNING issues no row. -/
theorem exec_not_running {r : Instr} {i : POp} (h : porowRow r = some (q, i)) (hrun : (s.seq q).run ≠ .running) :
    exec r s = .next s := by
  obtain ⟨body, hbody⟩ := exec_porowRow h
  rw [hbody, State.issue_of_not_running hrun]

/-- At a word that is no instruction every row faults. -/
theorem exec_illegal {r : Instr} {i : POp} (h : porowRow r = some (q, i)) (hrun : (s.seq q).run = .running)
    (hheld : (s.seq q).fetchHeld = false) (hword : decodePorow ((s.seq q).imemRd (s.seq q).pc) = none) :
    exec r s = .next (s.seqFault q .illegalOp) := by
  obtain ⟨body, hbody⟩ := exec_porowRow h
  rw [hbody, State.issue_of_illegal hrun hheld hword]

/-- What a fault leaves of a sequencer: all but its event queue, FAULTED (R91). -/
theorem State.seq_seqFault (s : State) (q : SeqId) (f : SeqFault) :
    (s.seqFault q f).seq q = { (s.seq q).faulted f with
      queue := ((s.seqFault q f).seq q).queue, lost := ((s.seqFault q f).seq q).lost } := by
  by_cases h : q = 4
  · subst h
    have hv := (s.seqFault_sqs f).1
    simp only [sqsView, State.seq_setSeq_same] at hv
    change ({ (s.seqFault 4 f).seq 4 with queue := [], lost := [] } : Seq) =
      { (s.seq 4).faulted f with queue := [], lost := [] } at hv
    generalize (s.seqFault 4 f).seq 4 = c at hv ⊢
    generalize (s.seq 4).faulted f = e at hv ⊢
    cases c; cases e; simp_all
  · rw [State.seq_seqFault_quad h]

/-- A message that finds room joins the transmit queue (R307). -/
theorem State.queueMsg_room (m : HostMsg) (h : s.net.mtx.length < 64) :
    s.queueMsg m = { s with net := { s.net with mtx := s.net.mtx ++ [m] } } := if_pos h

/-- A fault of SQS sends an ALERT, and is a Kennel reason where KNL_CTRL.SQS_FAULT says so (R91, R479). -/
theorem State.seqFault_system (s : State) (f : SeqFault) : s.seqFault 4 f =
    let u := (s.setSeq 4 ((s.seq 4).faulted f)).alert 1 f.code (s.seq 4).pc.toNat
    if u.flag F.KNL_CTRL_SQS_FAULT = true then u.kennelReason 5 else u := by
  simp only [State.seqFault, if_pos (show (4 : SeqId) = sqsQ from rfl)]
  rfl

/-- A fault of SQS that is no Kennel reason sends an ALERT (R307). -/
theorem State.seqFault_mtx {f : SeqFault} (hf : s.flag F.KNL_CTRL_SQS_FAULT = false) (hroom : s.net.mtx.length < 64) :
    (s.seqFault 4 f).net.mtx.length = s.net.mtx.length + 1 := by
  have ha : (s.setSeq 4 ((s.seq 4).faulted f)).alert 1 f.code (s.seq 4).pc.toNat = _ := State.queueMsg_room _ hroom
  have hflag : ((s.setSeq 4 ((s.seq 4).faulted f)).alert 1 f.code (s.seq 4).pc.toNat).flag F.KNL_CTRL_SQS_FAULT = false := by
    rw [ha]
    exact hf
  simp only [State.seqFault_system, hflag, Bool.false_eq_true, if_false]
  rw [ha]
  simp

/-- What O2 says of a state after a fault. -/
def ToldFault (s : State) (q : SeqId) (f : SeqFault) (t : State) : Prop :=
  let c := s.seq q
  (t.seq q).run = .faulted ∧ (t.seq q).fault = some (f, c.pc) ∧
    (t.seq q).g = c.g ∧ (t.seq q).t = c.t ∧ (t.seq q).p = c.p ∧ (t.seq q).pc = c.pc ∧ (t.seq q).dmem = c.dmem ∧
    (t.seq q).stack = c.stack ∧
    (q ≠ 4 → Told 4 0x23 q false (2 ^ 31 + c.pc.toNat * 2 ^ 16 + f.code)
      (s.setSeq q { c with run := .faulted, busy := .none, fault := some (f, c.pc) }) t) ∧
    (q = 4 → (s.inStay = false → t.evtN = true) ∧ (s.flag F.KNL_CTRL_SQS_FAULT = false → s.net.mtx.length < 64 →
      t.net.mtx.length = s.net.mtx.length + 1)) ∧
    (∀ r i, porowRow r = some (q, i) → exec r t = .next t)

/-- A fault of SQ0 to SQ3 is told to SQS with the word of SEQs_FAULT. -/
theorem State.seqFault_told {f : SeqFault} (h : q ≠ 4) :
    Told 4 0x23 q false (2 ^ 31 + (s.seq q).pc.toNat * 2 ^ 16 + f.code) (s.setSeq q ((s.seq q).faulted f))
      (s.seqFault q f) := by
  have hword : 2 ^ 31 + (s.seq q).pc.toNat * 2 ^ 16 + f.code = faultWord (some (f, (s.seq q).pc)) := by
    simp only [faultWord]; omega
  rw [State.seqFault_quad h, hword]
  exact State.sqsEvent_told _ _ _ _

/-- After a fault of SQS outside Stay EVT_N is low (R536). -/
theorem State.seqFault_evtN {f : SeqFault} (hstay : s.inStay = false) : (s.seqFault 4 f).evtN = true := by
  have hrun : ((s.seqFault 4 f).seq sqsQ).run = .faulted := by
    have h := congrArg Seq.run (s.seq_seqFault 4 f)
    exact h
  have hstay' : (s.seqFault 4 f).inStay = false := by
    have h := (s.seqFault_sqs f).2 F.PWR_STATUS_STATE (by simp [sqsView])
    rw [← hstay]
    exact congrArg (fun n => decide (2 ≤ n)) h
  simp [State.evtN, hstay', hrun]

/-- A fault is told as O2 says. -/
theorem State.seqFault_toldFault (s : State) (q : SeqId) (f : SeqFault) : ToldFault s q f (s.seqFault q f) := by
  have hseq := s.seq_seqFault q f
  refine ⟨by rw [hseq]; rfl, by rw [hseq]; rfl, by rw [hseq]; rfl, by rw [hseq]; rfl, by rw [hseq]; rfl,
    by rw [hseq]; rfl, by rw [hseq]; rfl, by rw [hseq]; rfl, State.seqFault_told, ?_, fun r i h => ?_⟩
  · rintro rfl
    exact ⟨State.seqFault_evtN, State.seqFault_mtx⟩
  · exact exec_not_running h (by rw [hseq]; nofun)

/-- An address that is no multiple of 4 stays none modulo 65,536. -/
theorem dmemAddr_misaligned {base : Word} {off : BitVec 16} (h : ((base.toNat : Int) + off.toInt) % 4 ≠ 0) :
    ¬ dmemAddr base off % 4 = 0 := by
  have hmod : dmemAddr base off = (((base.toNat : Int) + off.toInt) % 65536).toNat := rfl
  omega

/-- An LD, ST, TLD or TST at such an address faults (R101). -/
theorem exec_misaligned {d a : GReg} {x : TReg} {off : BitVec 16} (h : (((s.seq q).gr a).toNat + off.toInt) % 4 ≠ 0)
    (bad : Bool) (w : Option (Fin 3)) :
    (Fetches s q (.tld x a off) → exec (.tld q x a off w) s = .next (s.seqFault q .dmemAlign)) ∧
      (Fetches s q (.tst x a off) → exec (.tst q x a off) s = .next (s.seqFault q .dmemAlign)) ∧
      (Fetches s q (.ld d a off) → exec (.ld q d a off bad) s = .next (s.seqFault q .dmemAlign)) ∧
      (Fetches s q (.st d a off) → exec (.st q d a off) s = .next (s.seqFault q .dmemAlign)) := by
  have hx := dmemAddr_misaligned h
  refine ⟨fun hf => ?_, fun hf => ?_, fun hf => ?_, fun hf => ?_⟩
  all_goals exact (State.next_issue hf).trans (congrArg _ (if_neg hx))

end ControlFlow

/-- Settles O2: a row issues its instruction, whose effect is its own equation, and each fault is `seqFault`, which of the
sequencer leaves all but its event queue. -/
theorem porowControlFlow : Obligations.PorowControlFlow := by
  unfold Obligations.PorowControlFlow
  refine ⟨fun s q x => ⟨fun hf => ?_, fun hf => ?_, fun hf => ?_, fun hf hroom => ?_, fun r rest hstack hf => ?_,
    fun hf => ?_, fun hf => ?_⟩, fun s q f => ⟨?_, ?_, ?_, ?_⟩⟩
  · exact ⟨_, State.next_issue hf, rfl⟩
  · refine ⟨_, State.next_issue hf, ?_⟩
    cases hp : (s.seq q).p <;> simp [State.branch, hp, Seq.next]
  · refine ⟨_, State.next_issue hf, ?_⟩
    cases hp : (s.seq q).p <;> simp [State.branch, hp, Seq.next]
  · exact ⟨_, (State.next_issue hf).trans (congrArg _ (if_pos hroom)), rfl⟩
  · refine ⟨_, (State.next_issue hf).trans ?_, rfl⟩
    simp only [hstack]
  · exact ⟨_, State.next_issue hf, rfl⟩
  · refine ⟨_, State.next_issue hf, ?_⟩
    simp [OnlySeq, State.step1, Seq.next]
  · rintro rfl hrun hheld hword r i hrow
    exact ⟨_, exec_illegal hrow hrun hheld hword, s.seqFault_toldFault q _⟩
  · rintro d a x off bad w rfl h
    obtain ⟨htld, htst, hld, hst⟩ := exec_misaligned (d := d) (x := x) h bad w
    exact ⟨fun hf => ⟨_, htld hf, s.seqFault_toldFault q _⟩, fun hf => ⟨_, htst hf, s.seqFault_toldFault q _⟩,
      fun hf => ⟨_, hld hf, s.seqFault_toldFault q _⟩, fun hf => ⟨_, hst hf, s.seqFault_toldFault q _⟩⟩
  · rintro x rfl hfull hf
    exact ⟨_, (State.next_issue hf).trans (congrArg _ (if_neg (by omega))), s.seqFault_toldFault q _⟩
  · rintro rfl hempty hf
    refine ⟨_, (State.next_issue hf).trans ?_, s.seqFault_toldFault q _⟩
    simp only [hempty]

end Sys2Proof.Machine

namespace Sys2Proof.Machine

/-! ### The watchdog (O15) -/

section Watchdog

variable {s : State} {q : SeqId}

/-- Of a sequencer an event changes its queue and what that has lost, and nothing else (R82). -/
theorem State.seq_event (s : State) (r q : SeqId) (x y : Nat) (late : Bool) (d : Nat) : (s.event r x y late d).seq q =
    { s.seq q with queue := ((s.event r x y late d).seq q).queue, lost := ((s.event r x y late d).seq q).lost } := by
  by_cases h : q = r
  · subst h
    rcases s.event_cases q x y late d with ⟨-, e⟩ | ⟨-, lost, e⟩
    · simp only [e, State.seq_setSeq_same]
    · simp only [e, State.count, State.seq_noteHit, State.seq_put, State.seq_setSeq_same]
  · rw [s.seq_event_other h]

/-- A WDOG event of a sequencer that stays in its stall, with the stall marked as told (R74). -/
theorem State.wdog_told {b : SeqBusy} (hrun : (s.seq q).run = .stalled) :
    let t := (s.setSeq q { s.seq q with busy := b }).sqsEvent 0x24 q (s.seq q).pc.toNat
    t = { s with regs := t.regs, bus := t.bus, seqs := t.seqs } ∧ RegsKept [A.SEQ_EVQ_STATUS 4] s t ∧
      (t.seq q).run = .stalled ∧ (t.seq q).busy = b ∧ (t.seq q).pc = (s.seq q).pc ∧
      Told 4 0x24 q false (s.seq q).pc.toNat (s.setSeq q { s.seq q with busy := b }) t := by
  have heq := (s.setSeq q { s.seq q with busy := b }).event_eq sqsQ 0x24 q false (s.seq q).pc.toNat
  have hseq := (s.setSeq q { s.seq q with busy := b }).seq_event sqsQ q 0x24 q false (s.seq q).pc.toNat
  rw [State.seq_setSeq_same] at hseq
  refine ⟨heq, fun a ha => State.rd_event _ (by simpa [sqsQ] using ha), ?_, ?_, ?_, State.sqsEvent_told _ _ _ _⟩
  · rw [State.sqsEvent, hseq, ← hrun]
  · rw [State.sqsEvent, hseq]
  · rw [State.sqsEvent, hseq]

/-- A stall on a busy engine behind no posted write is told once it has lasted (R74). -/
theorem execWdog_go {a : Nat} {v : Word} {since : Nat} (hrun : (s.seq q).run = .stalled)
    (hbusy : (s.seq q).busy = .go a v since false) (hposted : (s.seq q).posted = []) (hgo : s.goBusy (masterOf q) a = true)
    (hlimit : s.get (F.SEQ_WDOG_LIMIT_US q) ≠ 0) (hpast : s.passedUs since (s.get (F.SEQ_WDOG_LIMIT_US q)) = true) :
    exec (.wdog q) s =
      .next ((s.setSeq q { s.seq q with busy := .go a v since true }).sqsEvent 0x24 q (s.seq q).pc.toNat) := by
  simp only [exec, execWdog, hrun, hbusy, hposted, hgo, hpast, List.isEmpty_nil, Bool.true_and, Bool.and_true,
    bne_iff_ne, ne_eq, hlimit, not_false_eq_true, if_true]

/-- A stall of another posted write is told once it has lasted (R74). -/
theorem execWdog_held {a since : Nat} (hrun : (s.seq q).run = .stalled) (hbusy : (s.seq q).busy = .held a since false)
    (hlimit : s.get (F.SEQ_WDOG_LIMIT_US q) ≠ 0) (hpast : s.passedUs since (s.get (F.SEQ_WDOG_LIMIT_US q)) = true) :
    exec (.wdog q) s =
      .next ((s.setSeq q { s.seq q with busy := .held a since true }).sqsEvent 0x24 q (s.seq q).pc.toNat) := by
  simp only [exec, execWdog, hrun, hbusy, hpast, Bool.and_true, bne_iff_ne, ne_eq, hlimit, not_false_eq_true, if_true]

end Watchdog

/-- Settles O15: in either stall WDOG marks it as told and pushes the event to SQS. -/
theorem watchdogEvent : Obligations.WatchdogEvent := by
  unfold Obligations.WatchdogEvent
  intro s q a v since b b' c limit hrun hbusy hcase hlimit hlong
  have hpast : s.passedUs since limit = true := decide_eq_true hlong
  rcases hcase with ⟨rfl, rfl, hposted, hgo⟩ | ⟨rfl, rfl⟩
  · exact ⟨_, execWdog_go hrun hbusy hposted hgo hlimit hpast, State.wdog_told hrun⟩
  · exact ⟨_, execWdog_held hrun hbusy hlimit hpast, State.wdog_told hrun⟩

end Sys2Proof.Machine

namespace Sys2Proof.Machine

/-! ### Alarms (O10) -/

section Alarms

variable {s : State} {q : SeqId} {a : Fin 8}

/-- Entry `e` is not one that slot `a` has pushed in the present core cycle (R81). -/
def State.staysFor (s : State) (a : Fin 8) (e : EvEntry) : Bool :=
  !decide (e.born = some s.wt.cycle ∧ e.source = 1 ∧ e.code = BitVec.ofNat 8 a.val)

@[simp] theorem State.uncount_zero (s : State) (f : Fld) : s.uncount f 0 = s := if_pos (Or.inl rfl)

/-- What an undone firing does of a queue (R81, R82). -/
theorem State.unfire_eq (s : State) (q : SeqId) (a : Fin 8) :
    let c := s.seq q
    let now := c.lost.filter fun e => e.born == some s.wt.cycle
    let free := c.queue.length - (c.queue.filter (s.staysFor a)).length
    let left := (now.filter (s.staysFor a)).drop free
    s.unfire q a = (s.setSeq q { c with
      queue := c.queue.filter (s.staysFor a) ++ (now.filter (s.staysFor a)).take free, lost := left }).uncount
        (F.SEQ_EVQ_STATUS_OVERFLOW q) (now.length - left.length) := by
  have hstays : (fun e : EvEntry => !(e.born == some s.wt.cycle && (e.source == 1 && e.code == BitVec.ofNat 8 a.val))) =
      s.staysFor a := by
    funext e
    simp only [State.staysFor, Bool.decide_and, beq_eq_decide]
  simp only [State.unfire, State.unsay, hstays]

/-- Where this core cycle has discarded nothing, the slot's own entries leave the queue (R81). -/
theorem State.unfire_noneLost (h : ∀ e ∈ (s.seq q).lost, e.born ≠ some s.wt.cycle) :
    s.unfire q a = s.setSeq q { s.seq q with queue := (s.seq q).queue.filter (s.staysFor a), lost := [] } := by
  have hnow : (s.seq q).lost.filter (fun e => e.born == some s.wt.cycle) = [] := by
    simpa [List.filter_eq_nil_iff] using h
  simp only [State.unfire_eq, hnow, List.filter_nil, List.take_nil, List.drop_nil, List.append_nil, List.length_nil,
    Nat.sub_self, State.uncount_zero]

/-- Where the only entry discarded in this core cycle is the slot's own, it is not counted (R81). -/
theorem State.unfire_lost {e : EvEntry} (hlost : (s.seq q).lost = [e]) (hown : s.staysFor a e = false)
    (hborn : e.born = some s.wt.cycle) (hkept : (s.seq q).queue.filter (s.staysFor a) = (s.seq q).queue) :
    s.unfire q a = (s.setSeq q { s.seq q with lost := [] }).uncount (F.SEQ_EVQ_STATUS_OVERFLOW q) 1 := by
  have hnow : (s.seq q).lost.filter (fun e => e.born == some s.wt.cycle) = [e] := by simp [hlost, hborn]
  have hleft : [e].filter (s.staysFor a) = [] := by simp [hown]
  simp only [State.unfire_eq, hnow, hleft, hkept, List.take_nil, List.drop_nil, List.append_nil, List.length_nil,
    List.length_singleton, Nat.sub_zero]

/-- A count taken back from a counter that has not saturated (R513). -/
theorem State.get_uncount {f : Fld} (n : Nat) (hf : f.lo + f.w ≤ 32) (h : s.get f + 1 < 2 ^ f.w) :
    (s.uncount f n).get f = s.get f - n := by
  unfold State.uncount
  split
  · next h0 => rcases h0 with rfl | h0 <;> omega
  · exact (State.get_put_same _ _ hf).trans (Nat.mod_eq_of_lt (by omega))

theorem State.setSeq_count (s : State) (q : SeqId) (c e : Seq) (f : Fld) :
    ((s.setSeq q c).count f).setSeq q e = (s.setSeq q e).count f :=
  congrArg (State.count · f) (s.setSeq_setSeq q c e)

/-- An event pushed and the PC moved on, in either order. -/
theorem State.event_pcNext (s : State) (q : SeqId) (x y : Nat) (late : Bool) (d : Nat) :
    (s.event q x y late d).pcNext q = (s.pcNext q).event q x y late d := by
  have hq : ((s.pcNext q).seq q) = (s.seq q).next := s.seq_setSeq_same q _
  unfold State.event
  simp only [hq]
  by_cases h : (s.seq q).queue.length < 256
  · simp only [if_pos h, if_pos (show (s.seq q).next.queue.length < 256 from h), State.pcNext, State.seq_setSeq_same,
      State.setSeq_setSeq]
    rfl
  · simp only [if_neg h, if_neg (show ¬ (s.seq q).next.queue.length < 256 from h), State.pcNext, State.count,
      State.seq_noteHit, State.seq_put, State.seq_setSeq_same, State.setSeq_setSeq]
    exact State.setSeq_count s q _ _ _

/-! #### ARM.T and ARM.L -/

/-- The queue and the alarms after the slot's own firing is undone and its target replaced. -/
def Seq.rearmed (c : Seq) (a : Fin 8) (l : Option AlarmTarget) (queue : List EvEntry) : Seq :=
  { c with pc := c.pc + 1, alarms := c.alarms.set a l, queue := queue, lost := [] }

/-- The state after the firing of an ARM's slot is undone. -/
def State.unfired (s : State) (q : SeqId) (a : Fin 8) : State :=
  s.setSeq q { s.seq q with queue := (s.seq q).queue.filter (s.staysFor a), lost := [] }

theorem State.alarmAt_unfired (s : State) (q : SeqId) (a : Fin 8) (l : AlarmTarget) :
    (s.unfired q a).alarmAt l = s.alarmAt l := rfl

/-- An ARM whose target is not the instant of a latch that is due (R78, R80). -/
theorem State.armOp_noneDue {l : AlarmTarget} (hdue : s.latchDue = none)
    (hlost : ∀ e ∈ (s.seq q).lost, e.born ≠ some s.wt.cycle) :
    s.armOp q a l = ((s.unfired q a).armAlarm q a l).pcNext q := by
  unfold State.armOp
  rw [State.unfire_noneLost hlost]
  simp only [State.latchHolds, hdue, Bool.and_false, Bool.false_eq_true, if_false]
  split <;> rfl

/-- A slot set, its own firing undone and the PC moved on. -/
theorem State.setAlarm_unfired (s : State) (q : SeqId) (a : Fin 8) (l : Option AlarmTarget) :
    ((s.unfired q a).setSeq q (((s.unfired q a).seq q).setAlarm a l)).pcNext q =
      s.setSeq q ((s.seq q).rearmed a l ((s.seq q).queue.filter (s.staysFor a))) := by
  simp only [State.pcNext, State.unfired, State.seq_setSeq_same, State.setSeq_setSeq]
  rfl

/-- ARM of a target that is not past, or of none that can be told yet (R80). -/
theorem State.armOp_arms {l : AlarmTarget} (hdue : s.latchDue = none)
    (hlost : ∀ e ∈ (s.seq q).lost, e.born ≠ some s.wt.cycle) (hl : ∀ x, s.alarmAt l = some x → (s.wall16 : Int) ≤ x) :
    s.armOp q a l = s.setSeq q ((s.seq q).rearmed a (some l) ((s.seq q).queue.filter (s.staysFor a))) := by
  rw [State.armOp_noneDue hdue hlost, ← State.setAlarm_unfired]
  congr 1
  unfold State.armAlarm
  rw [State.alarmAt_unfired]
  split
  · rfl
  · next x hx => exact if_pos (hl x hx)

/-- ARM of an instant that is past by up to 2^31 ns fires at once and late (R81). -/
theorem State.armOp_fires {l : AlarmTarget} {x : Int} (hdue : s.latchDue = none)
    (hlost : ∀ e ∈ (s.seq q).lost, e.born ≠ some s.wt.cycle) (hl : s.alarmAt l = some x) (hpast : x < s.wall16)
    (hnear : (s.wall16 : Int) ≤ x + 2 ^ 31 * 65536) :
    s.armOp q a l = (s.setSeq q ((s.seq q).rearmed a none ((s.seq q).queue.filter (s.staysFor a)))).event q 0x01 a true 0 := by
  rw [State.armOp_noneDue hdue hlost, ← State.setAlarm_unfired, ← State.event_pcNext]
  congr 1
  have hwall : (s.unfired q a).wall16 = s.wall16 := rfl
  have hfar : (s.wall16 : Int) - x ≤ farPast := by simp only [farPast]; omega
  unfold State.armAlarm
  simp only [State.alarmAt_unfired, hl, hwall, if_neg (show ¬ (s.wall16 : Int) ≤ x by omega), if_pos hfar]

/-- A line's instant, where a valid cadence gives it one (R77). -/
theorem State.alarmAt_line (hcad : s.cadenceOk = true) (g : Word) (n : Int) :
    s.alarmAt (.line (s.lineTarget g n)) = some (s.lineAt (s.resolveFrame g) n) := by
  simp [State.alarmAt, State.lineTarget, State.lineTargetAt, hcad]

/-- What O10 says of a state in which slot `a` has fired. -/
theorem State.event_fires (s : State) (q : SeqId) (c : Seq) (a : Fin 8) (late : Bool) :
    let t := (s.setSeq q c).event q 0x01 a late 0
    t = { s with regs := t.regs, bus := t.bus, seqs := t.seqs } ∧ Told q 0x01 a late 0 (s.setSeq q c) t :=
  ⟨(s.setSeq q c).event_eq q 0x01 a late 0, State.event_told _ _ _ _ _ _⟩

/-- DISARM (R80). -/
theorem execDisarm_noneLost (hf : Fetches s q (.disarm a)) (hlost : ∀ e ∈ (s.seq q).lost, e.born ≠ some s.wt.cycle) :
    exec (.disarm q a) s =
      .next (s.setSeq q ((s.seq q).rearmed a none ((s.seq q).queue.filter (s.staysFor a)))) := by
  refine (State.next_issue hf).trans (congrArg _ ?_)
  simp only [State.unfire_noneLost hlost, State.step1, State.seq_setSeq_same, State.setSeq_setSeq]
  rfl

/-- DISARM of a slot whose own firing found no room: it is not counted (R81). -/
theorem execDisarm_lost {e : EvEntry} (hf : Fetches s q (.disarm a)) (hlost : (s.seq q).lost = [e])
    (hown : s.staysFor a e = false) (hborn : e.born = some s.wt.cycle)
    (hkept : (s.seq q).queue.filter (s.staysFor a) = (s.seq q).queue)
    (hcount : s.get (F.SEQ_EVQ_STATUS_OVERFLOW q) < 65535) :
    ∃ t, exec (.disarm q a) s = .next t ∧
      t.seq q = { s.seq q with pc := (s.seq q).pc + 1, alarms := (s.seq q).alarms.set a none, lost := [] } ∧
      t.get (F.SEQ_EVQ_STATUS_OVERFLOW q) = s.get (F.SEQ_EVQ_STATUS_OVERFLOW q) - 1 := by
  have hu := State.unfire_lost hlost hown hborn hkept
  have hseq : (s.unfire q a).seq q = { s.seq q with lost := [] } := by
    rw [hu, State.seq, State.uncount_seqs]
    exact s.seq_setSeq_same q _
  refine ⟨_, State.next_issue hf, ?_, ?_⟩
  · rw [State.step1, State.seq_setSeq_same, hseq]
    rfl
  · rw [State.step1, State.get_setSeq, hu]
    exact State.get_uncount 1 (by simp) (Nat.add_lt_add_right hcount 1)

/-- An alarm whose time has come fires and leaves its slot disarmed (R80). -/
theorem execAlarm_due {v : TimeVal} (hslot : (s.seq q).alarms[a] = some (.time v)) (htime : v.units ≤ s.wall16)
    (hlatch : s.latchHolds v.units = false) :
    exec (.alarm q a) s = .next ((s.setSeq q ((s.seq q).setAlarm a none)).event q 0x01 a false 0) := by
  have hdue : s.alarmDue (.time v) = true := by
    simp [State.alarmDue, State.alarmAt, State.instantDone, State.reached, htime, hlatch]
  simp only [exec, execAlarm, hslot, hdue, if_true]

end Alarms

/-! ### Waits and fences (O10) -/

section Waits

variable {s : State} {q : SeqId}

/-- WAIT.T and WAIT.L of an instant (R76 to R78). -/
theorem State.waitFor_does (s : State) (q : SeqId) (x : Int) (b : SeqBusy) :
    let t := s.waitFor q x b
    if (s.wall16 : Int) ≤ x then t = s.setSeq q { s.seq q with run := .waiting, busy := b }
    else if s.latchHolds x = true then t = s
    else t = s.setSeq q { s.seq q with p := true, pc := (s.seq q).pc + 1 } := by
  unfold State.waitFor
  split
  · rfl
  · split <;> rfl

/-- An instant that wall time has reached, its latch taken. -/
theorem State.instantDone_iff (s : State) (x : Int) :
    s.instantDone x = true ↔ x ≤ s.wall16 ∧ s.latchHolds x = false := by
  simp [State.instantDone, State.reached]

/-- The fences received cover every plane of a mask (R86, R181). -/
theorem State.fencesCover_iff (s : State) (k : Int) (mask : BitVec 16) :
    s.fencesCover k mask = true ↔
      ∀ p : Fin 16, mask.getLsbD p.val = true → ∃ h, (s.ing.planes[p]).arrived = some h ∧ k ≤ h := by
  have hcovered (p : Fin 16) : s.covered p k = true ↔ ∃ h, (s.ing.planes[p]).arrived = some h ∧ k ≤ h := by
    have hplane : s.plane p = s.ing.planes[p] := rfl
    unfold State.covered
    rw [hplane]
    cases (s.ing.planes[p]).arrived <;> simp
  simp only [State.fencesCover, allPlanes, fins, List.all_eq_true, List.mem_finRange, true_implies, bit_toNat,
    Bool.or_eq_true, Bool.not_eq_true', hcovered]
  exact forall_congr' fun p => by
    cases mask.getLsbD p.val <;> simp

/-- A WAIT.T ends with its instant (R76). -/
theorem execWaitResume_time {v : TimeVal} (hb : (s.seq q).busy = .waitT v) (h : s.instantDone v.units = true) :
    exec (.waitResume q) s = .next (s.setSeq q ((s.seq q).resume.setP false)) := by
  simp only [exec, execWaitResume, hb, h, if_true]

/-- A WAIT.L ends with its line (R77). -/
theorem execWaitResume_line {k n : Int} (hb : (s.seq q).busy = .waitL (.line k n)) (hcad : s.cadenceOk = true)
    (h : s.instantDone (s.lineAt k n) = true) :
    exec (.waitResume q) s = .next (s.setSeq q ((s.seq q).resume.setP false)) := by
  simp only [exec, execWaitResume, hb, hcad, h, Bool.and_self, if_true]

/-- A WAIT.E ends with an entry in the queue (R79). -/
theorem execWaitResume_event (hb : (s.seq q).busy = .waitE) (h : (s.seq q).queue ≠ []) :
    exec (.waitResume q) s = .next (s.setSeq q (s.seq q).resume) := by
  simp only [exec, execWaitResume, hb, mt List.isEmpty_iff.mp h, Bool.false_eq_true, if_false]

/-- A FENCE ends with its planes covered (R86). -/
theorem execFenceResume_covered {k : Int} {mask : BitVec 16} {v : TimeVal} (hb : (s.seq q).busy = .fence k mask v)
    (h : s.fencesCover k mask = true) :
    exec (.fenceResume q) s = .next (s.setSeq q ((s.seq q).resume.setP true)) := by
  simp only [exec, execFenceResume, hb, h, if_true]

/-- A FENCE without cover ends with its time (R86). -/
theorem execFenceResume_timeout {k : Int} {mask : BitVec 16} {v : TimeVal} (hb : (s.seq q).busy = .fence k mask v)
    (hc : ¬ s.fencesCover k mask = true) (h : s.instantDone v.units = true) :
    exec (.fenceResume q) s = .next (s.setSeq q ((s.seq q).resume.setP false)) := by
  simp only [exec, execFenceResume, hb, hc, h, if_true, if_false, Bool.false_eq_true]

end Waits

/-- Settles O10: an ARM is `armOp`, which first undoes the slot's own firing and then arms or fires; a wait goes on where its
instant has passed and waits elsewhere. -/
theorem porowAlarmsAndWaits : Obligations.PorowAlarmsAndWaits := by
  unfold Obligations.PorowAlarmsAndWaits
  refine ⟨fun s q x k o a => ⟨fun hdue hlost hf => ⟨fun hx => ?_, fun hx hnear => ?_⟩,
    fun hdue hlost hf => ⟨fun L hL hx => ?_, fun L hL hx hnear => ?_, fun hcad => ?_⟩, fun hlost hf => ?_,
    fun e hl hown hkept hcount hf => ?_, fun v hslot htime hlatch => ?_⟩,
    fun s q x k m o => ⟨fun hf => ?_, fun hf => ?_, fun hf => ?_, fun hf => ?_, fun v hb htime hlatch => ?_,
      fun j i hb hcad htime hlatch => ?_, fun hb hqueue => ?_, fun j mask v hb => ⟨fun hc => ?_, fun hc htime hlatch => ?_⟩⟩⟩
  · refine ⟨_, (State.next_issue hf).trans (congrArg _ (State.armOp_arms hdue hlost ?_)), rfl⟩
    rintro y hy
    obtain rfl := Option.some.inj hy
    exact hx
  · exact ⟨_, (State.next_issue hf).trans (congrArg _ (State.armOp_fires hdue hlost rfl hx hnear)), s.event_fires q _ a true⟩
  · obtain ⟨hcad, rfl⟩ := hL
    refine ⟨_, (State.next_issue hf).trans (congrArg _ (State.armOp_arms hdue hlost ?_)), ?_⟩
    · rintro y hy
      rw [State.alarmAt_line hcad] at hy
      obtain rfl := Option.some.inj hy
      cases o <;> exact hx
    · rw [State.lineTarget, if_pos hcad]
      cases o <;> rfl
  · obtain ⟨hcad, rfl⟩ := hL
    refine ⟨_, (State.next_issue hf).trans (congrArg _ (State.armOp_fires hdue hlost (State.alarmAt_line hcad _ _) ?_ ?_)),
      s.event_fires q _ a true⟩
    · cases o <;> exact hx
    · cases o <;> exact hnear
  · have hl : s.lineTarget ((s.seq q).gr k) ((s.seq q).lineOff o) = .unresolved ((s.seq q).gr k) ((s.seq q).lineOff o) := by
      simp [State.lineTarget, hcad]
    refine ⟨_, (State.next_issue hf).trans (congrArg _ (State.armOp_arms hdue hlost ?_)), ?_⟩
    · rw [hl]
      nofun
    · rw [hl]
      cases o <;> rfl
  · exact ⟨_, execDisarm_noneLost hf hlost, rfl⟩
  · exact execDisarm_lost hf hl (by simpa [State.staysFor] using hown) hown.1 hkept hcount
  · exact ⟨_, execAlarm_due hslot htime hlatch, s.event_fires q _ a false⟩
  · exact ⟨_, State.next_issue hf, s.waitFor_does q _ _⟩
  · refine ⟨_, State.next_issue hf, ?_⟩
    cases hcad : s.cadenceOk
    · simp only [State.lineTarget, hcad, State.lineTargetAt]
      cases o <;> rfl
    · simp only [State.lineTarget, hcad, State.lineTargetAt, if_true]
      cases o <;> exact s.waitFor_does q _ _
  · refine ⟨_, State.next_issue hf, ?_⟩
    by_cases hq : (s.seq q).queue = []
    · rw [if_pos hq]
      exact if_pos (List.isEmpty_iff.mpr hq)
    · rw [if_neg hq]
      exact if_neg (mt List.isEmpty_iff.mp hq)
  · refine ⟨_, State.next_issue hf, fun hc => if_pos ((s.fencesCover_iff _ _).mpr hc), fun hc => ?_⟩
    have hcover := mt (s.fencesCover_iff _ _).mp hc
    by_cases h : ((s.seq q).tr x).units ≤ (s.wall16 : Int) ∧ s.latchHolds ((s.seq q).tr x).units = false
    · rw [if_pos h]
      exact (if_neg hcover).trans (if_pos ((s.instantDone_iff _).mpr h))
    · rw [if_neg h]
      exact (if_neg hcover).trans (if_neg (mt (s.instantDone_iff _).mp h))
  · exact ⟨_, execWaitResume_time hb ((s.instantDone_iff _).mpr ⟨htime, hlatch⟩), rfl⟩
  · exact ⟨_, execWaitResume_line hb hcad ((s.instantDone_iff _).mpr ⟨htime, hlatch⟩), rfl⟩
  · exact ⟨_, execWaitResume_event hb hqueue, rfl⟩
  · exact ⟨_, execFenceResume_covered hb ((s.fencesCover_iff _ _).mpr hc), rfl⟩
  · exact ⟨_, execFenceResume_timeout hb (mt (s.fencesCover_iff _ _).mp hc) ((s.instantDone_iff _).mpr ⟨htime, hlatch⟩), rfl⟩

end Sys2Proof.Machine

namespace Sys2Proof.Machine

/-! ### Several writes of plain registers in one access (R8, R9, R68, R70, R106) -/

/-- One write of a plain register: its byte address, the register that it reaches, its row and the value. -/
structure PlainHit where
  at_ : Nat
  reg : Nat
  row : RegRow
  val : Word

/-- Writes of plain registers `l` alone have come from `s` to `t`, before they are noted. What decides the reach of later
accesses, BRD_STATUS and WHISTLE_MASK among it, is as before. -/
structure PlainStep (l : List Nat) (s t : State) : Prop where
  frame : t = { s with regs := t.regs, frame := { s.frame with keep := t.frame.keep } }
  kept  : RegsKept l s t
  board : t.rd A.BRD_STATUS = s.rd A.BRD_STATUS
  mask  : t.rd A.WHISTLE_MASK = s.rd A.WHISTLE_MASK

section PlainHits

variable {s t u : State} {m : Master} {l k : List Nat} {r : Nat} {row : RegRow}

theorem PlainStep.refl (l : List Nat) (s : State) : PlainStep l s s := ⟨rfl, fun _ _ => rfl, rfl, rfl⟩

theorem PlainStep.trans (h : PlainStep l s t) (h' : PlainStep k t u) : PlainStep (l ++ k) s u := by
  refine ⟨?_, fun a ha => ?_, h'.board.trans h.board, h'.mask.trans h.mask⟩
  · have h2 := h'.frame
    rw [h.frame] at h2
    exact h2
  · simp only [List.mem_append, not_or] at ha
    exact (h'.kept a ha.2).trans (h.kept a ha.1)

/-- The reach of a master other than the board port is as before (R65, R70). -/
theorem PlainStep.reach_eq (h : PlainStep l s t) (hm : m ≠ .board) (a : Nat) (w : Bool) : t.reach m a w = s.reach m a w := by
  obtain ⟨hf, -, hb, hw⟩ := h
  have hheld : t.held = s.held := by
    have hpower : t.power.clkLost = s.power.clkLost := by rw [hf]
    have hreason : t.get F.BRD_STATUS_REASON = s.get F.BRD_STATUS_REASON := congrArg (field · 0 8) hb
    have hstage : t.get F.BRD_STATUS_STAGE = s.get F.BRD_STATUS_STAGE := congrArg (field · 8 3) hb
    simp only [State.held, hpower, hreason, hstage]
  have hmask : t.whistleMask m = s.whistleMask m := by
    unfold State.whistleMask
    split
    · rw [hf]
    · simp only [State.get, hw]
  have hscope (x : State) : x.boardScope m w = true := by
    unfold State.boardScope
    split
    · exact absurd rfl hm
    · rfl
  simp only [State.reach, hmask, hheld, hscope]

/-- So are the writes of this core cycle that stand against another. -/
theorem PlainStep.unopposed (h : PlainStep l s t) {a : Nat} : Unopposed m a r t ↔ Unopposed m a r s := by
  have hbus : t.busNow = s.busNow := by rw [h.frame]; rfl
  simp only [Unopposed, Undriven, State.cycleWrites, State.hitsAt, hbus]

/-- Bits of BRD_STATUS are not written (R420). -/
theorem boardStatus_readOnly : (regRow A.BRD_STATUS).map (fun row => row.rw ||| row.rws) = some 0 := by decide +kernel

/-- A register of plain bits takes its writable bits (R9). -/
theorem RegRow.merge_plain (row : RegRow) (hits : List Fld) (old v : Word) (h1 : row.rwl = 0) (h2 : row.w1c = 0)
    (h3 : row.ctr = []) : row.merge false hits old v = written row old v := by
  simp only [RegRow.merge, h1, h2, h3, Bool.false_eq_true, if_false, Nat.or_zero, List.foldl_nil, BitVec.and_zero,
    BitVec.zero_and, word_and_not_zero, written]

/-- A register of no writable bit stays. -/
theorem written_readOnly (row : RegRow) (old v : Word) (h : row.rw ||| row.rws = 0) : written row old v = old := by
  simp only [written, h, BitVec.and_zero, BitVec.or_zero, word_and_not_zero]

/-- A write that reaches one plain register, unopposed, before it is noted (R9, R68). -/
theorem State.writeHit_plain {a : Nat} {v mask : Word} (hp : PlainReg r row) (hu : Unopposed m a r s) :
    (s.writeHit m (inWhistle a) r v mask).1 = (s.keptFor row r).wr r (written row (s.rd r) v) := by
  obtain ⟨hrow, hplain, hctrl, hpnl, hrwl, hw1c, hctr⟩ := hp
  rw [State.writeHit_unopposed hu, s.writeReg_of_plain m v hplain hctrl hpnl,
    State.writePlain_eq hrow (fun h => absurd hrwl h) hu.2, row.merge_plain _ _ _ hrwl hw1c hctr]

/-- It is a step that writes that register alone. -/
theorem State.plainStep_wr (s : State) (v : Word) (hp : PlainReg r row) :
    PlainStep [r] s ((s.keptFor row r).wr r (written row (s.rd r) v)) := by
  obtain ⟨hrow, hplain, -⟩ := hp
  have hother (x : Nat) (hx : x ≠ r) : ((s.keptFor row r).wr r (written row (s.rd r) v)).rd x = s.rd x := by
    rw [State.rd_wr_other _ _ hx, State.rd_keptFor]
  refine ⟨?_, fun a ha => hother a (by simpa using ha), ?_, hother _ ?_⟩
  · rw [s.keptFor_eq]
    rfl
  · by_cases hb : A.BRD_STATUS = r
    · subst hb
      have hbits := boardStatus_readOnly
      rw [hrow] at hbits
      rw [State.rd_wr_same, written_readOnly _ _ _ (by simpa using hbits)]
    · exact hother _ hb
  · rintro rfl
    exact absurd hplain (by decide +kernel)

/-- One register written by an access of `v` at byte address `a`, and what there is to note of it. -/
def State.hitAt (m : Master) (mask : Word) (a : Nat) (v : Word) (x : State × List BusAccess) (r : Nat) :
    State × List BusAccess :=
  let y := x.1.writeHit m (inWhistle a) r v mask
  (y.1, x.2 ++ [y.2])

/-- One word of an access. -/
def State.wordAt (m : Master) (mask : Word) (x : State × List BusAccess) (y : Nat × Word) : State × List BusAccess :=
  match x.1.reach m y.1 true with
  | .regs l => l.foldl (State.hitAt m mask y.1 y.2) x
  | .unmapped r => (x.1.unmapped m r true, x.2)
  | _ => x

/-- An access is its words in turn, which are then noted. -/
theorem State.writeWords_eq (s : State) (m : Master) (l : List (Nat × Word)) (mask : Word) :
    s.writeWords m l mask = (l.foldl (State.wordAt m mask) (s, [])).1.noteWrites (l.foldl (State.wordAt m mask) (s, [])).2 :=
  rfl

/-- One write of a plain register. -/
def State.hitStep (m : Master) (mask : Word) (x : State × List BusAccess) (w : PlainHit) : State × List BusAccess :=
  State.hitAt m mask w.at_ w.val x w.reg

/-- Writes of several plain registers, each once. -/
theorem State.hitSteps {mask : Word} (ws : List PlainHit) (notes : List BusAccess)
    (hp : ∀ w ∈ ws, PlainReg w.reg w.row ∧ Unopposed m w.at_ w.reg s) (hd : (ws.map (·.reg)).Nodup) :
    PlainStep (ws.map (·.reg)) s (ws.foldl (State.hitStep m mask) (s, notes)).1 ∧
      ∀ w ∈ ws, (ws.foldl (State.hitStep m mask) (s, notes)).1.rd w.reg = written w.row (s.rd w.reg) w.val := by
  induction ws generalizing s notes with
  | nil => exact ⟨.refl _ s, by simp⟩
  | cons w ws ih =>
    obtain ⟨hpw, huw⟩ := hp w (by simp)
    have hstep := s.plainStep_wr w.val hpw
    simp only [List.map_cons, List.nodup_cons] at hd
    rw [List.foldl_cons, State.hitStep, State.hitAt, State.writeHit_plain hpw huw]
    generalize hu : (s.keptFor w.row w.reg).wr w.reg (written w.row (s.rd w.reg) w.val) = u at hstep ⊢
    obtain ⟨hs, hv⟩ := ih (s := u) (notes := notes ++ [(s.writeHit m (inWhistle w.at_) w.reg w.val mask).2])
      (fun x hx => ⟨(hp x (by simp [hx])).1, hstep.unopposed.mpr (hp x (by simp [hx])).2⟩) hd.2
    refine ⟨hstep.trans hs, fun x hx => ?_⟩
    rcases List.mem_cons.mp hx with rfl | hx
    · rw [hs.kept _ hd.1, ← hu, State.rd_wr_same]
    · rw [hv x hx, hstep.kept _ (fun e => hd.1 (List.mem_singleton.mp e ▸ List.mem_map_of_mem hx))]

/-- Notes of writes change the record of the cycle alone (R68). -/
theorem PlainStep.noteWrites (h : PlainStep l s t) (notes : List BusAccess) :
    Written l s (t.noteWrites notes) ∧ ∀ x, (t.noteWrites notes).rd x = t.rd x := by
  have hnote : t.noteWrites notes = { t with bus := (t.noteWrites notes).bus } ∧
      (t.noteWrites notes).bus.before = t.bus.before := by
    unfold State.noteWrites
    split
    · exact ⟨rfl, rfl⟩
    · exact ⟨rfl, t.busNow_before⟩
  obtain ⟨hn, hbefore⟩ := hnote
  have hrd (x : Nat) : (t.noteWrites notes).rd x = t.rd x := by rw [hn]; rfl
  refine ⟨⟨?_, ?_, fun a ha => (hrd a).trans (h.kept a ha)⟩, hrd⟩
  · rw [hn, h.frame]
  · rw [hbefore, h.frame]

/-- The words of one access that each reach one plain register (R106). -/
theorem State.wordSteps (hm : m ≠ .board) {mask : Word} (ws : List PlainHit) (notes : List BusAccess)
    (hp : ∀ w ∈ ws, s.reach m w.at_ true = .regs [w.reg] ∧ PlainReg w.reg w.row ∧ Unopposed m w.at_ w.reg s) :
    (ws.map fun w => (w.at_, w.val)).foldl (State.wordAt m mask) (s, notes) =
      ws.foldl (State.hitStep m mask) (s, notes) := by
  induction ws generalizing s notes with
  | nil => rfl
  | cons w ws ih =>
    obtain ⟨hrw, hpw, huw⟩ := hp w (by simp)
    have hstep := s.plainStep_wr w.val hpw
    have hword : State.wordAt m mask (s, notes) (w.at_, w.val) = State.hitStep m mask (s, notes) w := by
      simp only [State.wordAt, hrw, List.foldl_cons, List.foldl_nil, State.hitStep]
    rw [List.map_cons, List.foldl_cons, List.foldl_cons, hword, State.hitStep, State.hitAt, State.writeHit_plain hpw huw]
    refine ih _ fun x hx => ?_
    obtain ⟨hrx, hpx, hux⟩ := hp x (by simp [hx])
    exact ⟨(hstep.reach_eq hm _ _).trans hrx, hpx, hstep.unopposed.mpr hux⟩

/-- One access of several words, each to one plain register. -/
theorem State.writeWords_plain (hm : m ≠ .board) {mask : Word} (ws : List PlainHit)
    (hp : ∀ w ∈ ws, s.reach m w.at_ true = .regs [w.reg] ∧ PlainReg w.reg w.row ∧ Unopposed m w.at_ w.reg s)
    (hd : (ws.map (·.reg)).Nodup) :
    Written (ws.map (·.reg)) s (s.writeWords m (ws.map fun w => (w.at_, w.val)) mask) ∧
      ∀ w ∈ ws, (s.writeWords m (ws.map fun w => (w.at_, w.val)) mask).rd w.reg = written w.row (s.rd w.reg) w.val := by
  obtain ⟨hs, hv⟩ := State.hitSteps (mask := mask) ws [] (fun w hw => (hp w hw).2) hd
  rw [State.writeWords_eq, State.wordSteps hm ws [] hp]
  obtain ⟨hw, hrd⟩ := hs.noteWrites (ws.foldl (State.hitStep m mask) (s, [])).2
  exact ⟨hw, fun w hmem => (hrd _).trans (hv w hmem)⟩

/-- One word that reaches several plain registers through Whistle (R70). -/
theorem State.writeAt_plains {a : Nat} {v : Word} {l : List Nat} {row : Nat → RegRow} (hr : s.reach m a true = .regs l)
    (hp : ∀ r ∈ l, PlainReg r (row r) ∧ Unopposed m a r s) (hd : l.Nodup) :
    Written l s (s.writeAt m a v) ∧ (∀ r ∈ l, (s.writeAt m a v).rd r = written (row r) (s.rd r) v) ∧
      (l = [] → s.writeAt m a v = s) := by
  have hl : (l.map fun r => (⟨a, r, row r, v⟩ : PlainHit)).map (·.reg) = l := by
    rw [List.map_map]
    exact List.map_id l
  have hmem : ∀ w ∈ l.map fun r => (⟨a, r, row r, v⟩ : PlainHit), PlainReg w.reg w.row ∧ Unopposed m w.at_ w.reg s := by
    intro w hw
    obtain ⟨r, hr, rfl⟩ := List.mem_map.mp hw
    exact hp r hr
  have hfold : [(a, v)].foldl (State.wordAt m (BitVec.allOnes 32)) (s, []) =
      (l.map fun r => (⟨a, r, row r, v⟩ : PlainHit)).foldl (State.hitStep m (BitVec.allOnes 32)) (s, []) := by
    simp only [List.foldl_cons, List.foldl_nil, State.wordAt, hr, List.foldl_map]
    rfl
  obtain ⟨hs, hv⟩ := State.hitSteps (mask := BitVec.allOnes 32) _ [] hmem (by rwa [hl])
  rw [hl] at hs
  rw [State.writeAt, State.writeWords_eq, hfold]
  obtain ⟨hw, hrd⟩ := hs.noteWrites
    ((l.map fun r => (⟨a, r, row r, v⟩ : PlainHit)).foldl (State.hitStep m (BitVec.allOnes 32)) (s, [])).2
  refine ⟨hw, fun r hr => (hrd r).trans (hv ⟨a, r, row r, v⟩ (List.mem_map_of_mem hr)), ?_⟩
  rintro rfl
  rfl

end PlainHits

end Sys2Proof.Machine

namespace Sys2Proof.Machine

/-! ### Accesses under way, START, HALT and stalled fetches (O14) -/

section Drain

variable {s : State} {q : SeqId} {i : Fin 8} {p : Posted}

/-- The words of an entry with their addresses. -/
theorem Posted.words_eq (p : Posted) : (p.vals.zipIdx.map fun (v, j) => (p.addr + 4 * j, v)) =
    (List.range p.vals.length).map fun j => (p.addr + 4 * j, p.vals.getD j 0) := by
  apply List.ext_getElem
  · simp
  · intro j hj hj'
    simp only [List.length_map, List.length_range] at hj'
    simp [hj']

theorem Seq.heldEnds_of_not_held {c : Seq} (a : Nat) (h : ∀ x n d, c.busy ≠ .held x n d) : c.heldEnds a = c := by
  unfold Seq.heldEnds
  split
  · next x n d hb => exact absurd hb (h x n d)
  · rfl

theorem State.goWaits_of_not_go (h : ∀ x v n d, (s.seq q).busy ≠ .go x v n d) : s.goWaits q = s := by
  unfold State.goWaits
  generalize hb : (s.seq q).busy = b at h
  cases b with
  | go x v n d => exact absurd rfl (h x v n d)
  | _ => simp only [hb]

/-- No sequencer is the board port. -/
theorem masterOf_ne_board (q : SeqId) : masterOf q ≠ .board := by
  unfold masterOf
  split <;> nofun

/-- No earlier entry writes to one of the entry's blocks (R67). -/
theorem State.noEarlier (h : ∀ j, j < i.val → blocksMeet (s.postedBlocks q j) (s.postedBlocks q i.val) = false) :
    (List.range i.val).any (fun j => blocksMeet (s.postedBlocks q j) (s.postedBlocks q i.val)) = false := by
  simpa [List.any_eq_false] using h

/-- An entry that meets no busy engine is drained (R67, R103). -/
theorem execPostedWriteDrain_drains (hp : (s.seq q).posted[i.val]? = some p)
    (hfirst : ∀ j, j < i.val → blocksMeet (s.postedBlocks q j) (s.postedBlocks q i.val) = false)
    (hidle : ∀ j, j < p.vals.length → s.goBusy (masterOf q) (p.addr + 4 * j) = false) :
    exec (.postedWriteDrain q i) s = .next (((s.setSeq q
      ({ s.seq q with posted := (s.seq q).posted.eraseIdx i.val }.heldEnds p.addr)).drain q p).goWaits q) := by
  have hany : (List.range p.vals.length).any (fun j => s.goBusy (masterOf q) (p.addr + 4 * j)) = false := by
    simpa [List.any_eq_false] using hidle
  simp only [exec, execPostedWriteDrain, hp, State.noEarlier hfirst, hany, Bool.false_eq_true, if_false]

/-- An entry that meets a busy engine stays (R73). -/
theorem execPostedWriteDrain_holds (hp : (s.seq q).posted[i.val]? = some p)
    (hfirst : ∀ j, j < i.val → blocksMeet (s.postedBlocks q j) (s.postedBlocks q i.val) = false)
    (hbusy : ∃ j, j < p.vals.length ∧ s.goBusy (masterOf q) (p.addr + 4 * j) = true) :
    exec (.postedWriteDrain q i) s = .next (s.holdOn q p.addr) := by
  have hany : (List.range p.vals.length).any (fun j => s.goBusy (masterOf q) (p.addr + 4 * j)) = true := by
    simpa [List.any_eq_true] using hbusy
  simp only [exec, execPostedWriteDrain, hp, State.noEarlier hfirst, hany, Bool.false_eq_true, if_false, if_true]

/-- An entry whose words each reach one plain register. -/
theorem State.drain_plain {r : Nat} {row : Nat → RegRow} (hmask : p.mask = none)
    (hp : ∀ j, j < p.vals.length → s.reach (masterOf q) (p.addr + 4 * j) true = .regs [r + 4 * j] ∧
      PlainReg (r + 4 * j) (row j))
    (hu : ∀ j, j < p.vals.length → Unopposed (masterOf q) (p.addr + 4 * j) (r + 4 * j) s) :
    Written ((List.range p.vals.length).map fun j => r + 4 * j) s (s.drain q p) ∧
      ∀ j, j < p.vals.length → (s.drain q p).rd (r + 4 * j) = written (row j) (s.rd (r + 4 * j)) (p.vals.getD j 0) := by
  let hit (j : Nat) : PlainHit := ⟨p.addr + 4 * j, r + 4 * j, row j, p.vals.getD j 0⟩
  have hregs : ((List.range p.vals.length).map hit).map (·.reg) = (List.range p.vals.length).map fun j => r + 4 * j := by
    rw [List.map_map]
    rfl
  have hnodup : ((List.range p.vals.length).map fun j => r + 4 * j).Nodup :=
    List.Nodup.map (fun x y (e : r + 4 * x = r + 4 * y) => by omega) List.nodup_range
  obtain ⟨hw, hv⟩ := State.writeWords_plain (s := s) (masterOf_ne_board q) (mask := BitVec.allOnes 32)
    ((List.range p.vals.length).map hit) (by
      intro w hw
      obtain ⟨j, hj, rfl⟩ := List.mem_map.mp hw
      rw [List.mem_range] at hj
      exact ⟨(hp j hj).1, (hp j hj).2, hu j hj⟩) (by rwa [hregs])
  have hdrain : s.drain q p = s.writeWords (masterOf q) (((List.range p.vals.length).map hit).map fun w => (w.at_, w.val))
      (BitVec.allOnes 32) := by
    rw [State.drain, hmask, p.words_eq, List.map_map]
    rfl
  rw [hdrain]
  rw [hregs] at hw
  exact ⟨hw, fun j hj => hv (hit j) (List.mem_map_of_mem (List.mem_range.mpr hj))⟩

/-- GO_WRITE_COMPLETE of an idle engine behind no posted write is the register write, and the sequencer goes on (R105). -/
theorem execGoWriteComplete_idle {a : BitVec 26} {v : Word} {n : Nat} {d : Bool} (hrun : (s.seq q).run = .stalled)
    (hbusy : (s.seq q).busy = .go a.toNat v n d) (hposted : (s.seq q).posted = [])
    (hidle : s.goBusy (masterOf q) a.toNat = false) :
    exec (.goWriteComplete q) s = .next ((s.writeIdle (masterOf q) a.toNat v).setSeq q
      ((s.writeIdle (masterOf q) a.toNat v).seq q).accessDone) := by
  simp only [exec, execGoWriteComplete, hrun, hbusy, hposted, hidle, State.writeIdle, List.isEmpty_nil, Bool.not_true,
    Bool.false_eq_true, if_false]

end Drain

/-! #### START and HALT (R87) -/

section Ctrl

variable {s : State} {q : SeqId} {v : Word}

/-- HOT_OK as written. -/
def State.hotOk (s : State) (q : SeqId) (v : Word) : State := s.put (F.SEQ_CTRL_HOT_OK q) (field v 31 1)

/-- A write of SEQs_CTRL does no more to the registers than put HOT_OK (R87). -/
theorem State.hotOk_ctrl (s : State) (q : SeqId) (v w : Word) (c : Seq) (hw : w.getLsbD 31 = v.getLsbD 31) :
    let t := (s.hotOk q w).setSeq q c
    t = { s with regs := t.regs, seqs := t.seqs } ∧ (∀ r, r ≠ q → t.seq r = s.seq r) ∧ RegsKept [A.SEQ_CTRL q] s t ∧
      t.flag (F.SEQ_CTRL_HOT_OK q) = v.getLsbD 31 := by
  refine ⟨rfl, fun r hr => State.seq_setSeq_other _ _ hr, fun a ha => s.rd_put_other _ (by simpa using ha), ?_⟩
  rw [State.flag_setSeq, State.flag, State.hotOk, State.get_put_same _ _ (by simp), ← hw, ← field_one_beq]
  congr 1
  exact Nat.mod_eq_of_lt (Nat.mod_lt _ (by simp))

theorem field_one_iff (x : Word) (i : Nat) : field x i 1 = 1 ↔ x.getLsbD i = true := by
  rw [← field_one_beq, beq_iff_eq]

/-- START without HALT (R87). -/
theorem execStart_started (h : v.getLsbD 1 = false) : exec (.start q v) s = .next ((s.hotOk q (v ||| 1)).seqStart q) := by
  have h0 : field (v ||| 1) 0 1 = 1 := (field_one_iff _ _).mpr (by simp)
  have h1 : ¬ field (v ||| 1) 1 1 = 1 := by
    rw [field_one_iff, BitVec.getLsbD_or, h]
    decide
  simp only [exec, execStart, State.writeSeqCtrl, h0, h1, if_true, if_false]
  rfl

/-- HALT without START (R87). -/
theorem execSeqHalt_halted (h : v.getLsbD 0 = false) :
    exec (.seqHalt q v) s = .next ((s.hotOk q (v ||| 2)).haltSeq q) := by
  have h0 : ¬ field (v ||| 2) 0 1 = 1 := by
    rw [field_one_iff, BitVec.getLsbD_or, h]
    decide
  have h1 : field (v ||| 2) 1 1 = 1 := by
    rw [field_one_iff, BitVec.getLsbD_or]
    simp
  simp only [exec, execSeqHalt, State.writeSeqCtrl, h0, h1, if_true, if_false]
  rfl

/-- A sequencer that is READY, RUNNING, WAITING or FAULTED halts at once (R87). -/
theorem Seq.halt_at_once {c : Seq} (b : Bool)
    (h : c.run = .ready ∨ c.run = .running ∨ c.run = .waiting ∨ c.run = .faulted) :
    c.halt b = { c with run := .halted, busy := .none } := by
  rcases h with h | h | h | h <;> simp [Seq.halt, h]

end Ctrl

/-! #### A fetch that meets a parity error (R477) -/

section Refetch

variable {s : State} {q : SeqId}

theorem State.sramErr_sqs (s : State) (r off kind : Nat) : sqsView.Same s (s.sramErr r off kind) := by
  have haddr (v : Word) : sqsView.Same s (s.wr A.BIST_ERR_ADDR v) :=
    sqs_of_bitsKept (l := [whole A.BIST_ERR_ADDR]) (by decide) (s.wr_bitsKept _ v) rfl
  have hretest (u : State) (x : Nat) : sqsView.Same u (u.queueRetest x) := by
    unfold State.queueRetest
    split
    · exact .refl _ u
    · exact View.Same.trans (sqs_of_regs rfl rfl) (State.put_sqs _ (f := F.BIST_STATUS_RETEST) _ (by decide))
  unfold State.sramErr
  simp only
  split
  · exact (haddr _).trans (hretest _ _)
  · exact (haddr _).trans (sqs_of_regs rfl rfl)

/-- A parity error leaves of a sequencer all but its event queue, and shows in BIST_FLAGS (R477). -/
theorem State.parityErr_spec (s : State) (r off : Nat) (q : SeqId) :
    (s.parityErr r off).flag F.BIST_FLAGS_PARITY = true ∧
      (s.parityErr r off).seq q = { s.seq q with
        queue := ((s.parityErr r off).seq q).queue, lost := ((s.parityErr r off).seq q).lost } := by
  have hkept := (State.sramErr_sqs (s.set F.BIST_FLAGS_PARITY) r off 2).trans
    (State.sqsEvent_sqs _ 0x50 3 (off % 2 ^ 24 + r * 2 ^ 24))
  have hget := hkept.2 F.BIST_FLAGS_PARITY (by simp [sqsView])
  have hset : (s.set F.BIST_FLAGS_PARITY).flag F.BIST_FLAGS_PARITY = true := s.flag_set (by simp) (by simp)
  have hseqs : ((s.set F.BIST_FLAGS_PARITY).sramErr r off 2).seq q = s.seq q := by
    rw [State.seq, State.sramErr_seqs]
    rfl
  have hseq := ((s.set F.BIST_FLAGS_PARITY).sramErr r off 2).seq_event sqsQ q 0x50 3 false (off % 2 ^ 24 + r * 2 ^ 24)
  rw [hseqs] at hseq
  exact ⟨(congrArg (· == 1) hget).trans hset, hseq⟩

/-- A fault of a sequencer leaves BIST_FLAGS.PARITY (R91). -/
theorem State.parity_seqFault (s : State) (q : SeqId) (f : SeqFault) :
    (s.seqFault q f).flag F.BIST_FLAGS_PARITY = s.flag F.BIST_FLAGS_PARITY := by
  have hmem : F.BIST_FLAGS_PARITY ∈ sqsView.fields := by simp [sqsView]
  by_cases h : q = 4
  · subst h
    exact congrArg (· == 1) ((s.seqFault_sqs f).2 _ hmem)
  · rw [State.seqFault_quad h]
    exact congrArg (· == 1) ((State.sqsEvent_sqs _ _ _ _).2 _ hmem)

/-- IMEM_RETRY of a RUNNING sequencer (R477). -/
theorem execImemRetry_running (hrun : (s.seq q).run = .running) (again : Bool) : ∃ u : State, ∃ off : Nat,
    u = (s.drawOff 7).2 ∧ exec (.imemRetry q again) s = .next ((u.parityErr 7 off).setSeq q
      { (u.parityErr 7 off).seq q with run := .stalled, busy := .refetch (u.parityErr 7 off).wt.cycle again }) := by
  refine ⟨_, (s.drawOff 7).1, rfl, ?_⟩
  simp only [exec, execImemRetry, hrun, if_true]

/-- A stalled fetch is not repeated before 1 µs has passed (R477). -/
theorem State.refetch_early {since : Nat} {again : Bool} (hb : (s.seq q).busy = .refetch since again)
    (h : s.wt.cycle < since + 1600) : s.refetch q = s := by
  have hp : s.passedUs since 1 = false := decide_eq_false (by simp only [cyclesPerUs]; omega)
  simp only [State.refetch, hb, hp, Bool.false_eq_true, if_false]

/-- Then a good one lets the sequencer run on (R477). -/
theorem State.refetch_good {since : Nat} (hb : (s.seq q).busy = .refetch since false)
    (h : since + 1600 ≤ s.wt.cycle) :
    s.refetch q = (s.setSeq q { s.seq q with run := .running, busy := .none }).set F.BIST_FLAGS_IMEM_RETRY := by
  have hp : s.passedUs since 1 = true := decide_eq_true (by simp only [cyclesPerUs]; omega)
  simp only [State.refetch, hb, hp, Bool.false_eq_true, if_false, if_true]

/-- And one that fails again faults it (R477). -/
theorem State.refetch_bad {since : Nat} (hb : (s.seq q).busy = .refetch since true) (h : since + 1600 ≤ s.wt.cycle) :
    s.refetch q = ((s.drawOff 7).2.parityErr 7 (s.drawOff 7).1).seqFault q .imemParity := by
  have hp : s.passedUs since 1 = true := decide_eq_true (by simp only [cyclesPerUs]; omega)
  simp only [State.refetch, hb, hp, if_true]

end Refetch

end Sys2Proof.Machine

namespace Sys2Proof.Machine

section States

variable {s : State} {q : SeqId} {v : Word}

theorem State.setSeq_own (s : State) (q : SeqId) : s.setSeq q (s.seq q) = s := by
  have h : s.seqs.set q (s.seq q) = s.seqs := Vector.set_getElem_self _
  unfold State.setSeq
  rw [h]

/-- A drained entry whose words each reach one plain register (R67, R103, R106). -/
theorem execPostedWriteDrain_plain {i : Fin 8} {p : Posted} {r : Nat} {row : Nat → RegRow}
    (hp : (s.seq q).posted[i.val]? = some p) (hmask : p.mask = none)
    (hfirst : ∀ j, j < i.val → blocksMeet (s.postedBlocks q j) (s.postedBlocks q i.val) = false)
    (hreach : ∀ j, j < p.vals.length → s.reach (masterOf q) (p.addr + 4 * j) true = .regs [r + 4 * j] ∧
      PlainReg (r + 4 * j) (row j))
    (hu : ∀ j, j < p.vals.length → Unopposed (masterOf q) (p.addr + 4 * j) (r + 4 * j) s)
    (hgo : ∀ x v n d, (s.seq q).busy ≠ .go x v n d) (hheld : ∀ x n d, (s.seq q).busy ≠ .held x n d) :
    let c := s.seq q
    ∃ t, exec (.postedWriteDrain q i) s = .next t ∧
      t = { s with regs := t.regs, seqs := (s.setSeq q { c with posted := c.posted.eraseIdx i.val }).seqs, bus := t.bus,
                   frame := { s.frame with keep := t.frame.keep } } ∧
      RegsKept ((List.range p.vals.length).map fun j => r + 4 * j) s t ∧
      ∀ j, j < p.vals.length → t.rd (r + 4 * j) = written (row j) (s.rd (r + 4 * j)) (p.vals.getD j 0) := by
  intro c
  have hidle : ∀ j, j < p.vals.length → s.goBusy (masterOf q) (p.addr + 4 * j) = false := fun j hj => by
    obtain ⟨hr, -, hplain, -⟩ := hreach j hj
    simp [State.goBusy, hr, s.engineBusy_of_not_go (isGo_of_plain hplain)]
  have hexec := execPostedWriteDrain_drains hp hfirst hidle
  rw [Seq.heldEnds_of_not_held (c := { c with posted := c.posted.eraseIdx i.val }) p.addr hheld] at hexec
  generalize hs : s.setSeq q { c with posted := c.posted.eraseIdx i.val } = u at hexec
  have hreg (a : Nat) : u.rd a = s.rd a := by rw [← hs]; rfl
  obtain ⟨⟨hframe, -, hkept⟩, hv⟩ := State.drain_plain (s := u) (q := q) (r := r) (row := row) hmask
    (fun j hj => by rw [← hs]; exact hreach j hj) (fun j hj => by rw [← hs]; exact hu j hj)
  generalize u.drain q p = t at hexec hframe hkept hv
  have hseq : t.seq q = { c with posted := c.posted.eraseIdx i.val } := by
    rw [hframe, ← hs]
    exact s.seq_setSeq_same q _
  have hwaits : t.goWaits q = t := State.goWaits_of_not_go (by rw [hseq]; exact hgo)
  rw [hwaits] at hexec
  refine ⟨t, hexec, ?_, fun a ha => (hkept a ha).trans (hreg a), fun j hj => ?_⟩
  · rw [hframe, ← hs]
    rfl
  · rw [hv j hj, hreg]

/-- START of a READY sequencer that no bundle loads, or of another (R87, R88). -/
theorem State.seqStart_hotOk (s : State) (q : SeqId) (w : Word) : (s.hotOk q w).seqStart q = (s.hotOk q w).setSeq q
    (if (s.seq q).run = .ready ∧ s.beingLoaded q = false then
      { s.seq q with run := .running, busy := .none, pc := (s.seq q).entry, p := false, stack := [],
                     g := Vector.replicate 16 0, t := Vector.replicate 4 ⟨0, 0⟩ }
     else s.seq q) := by
  have hload : (s.hotOk q w).beingLoaded q = s.beingLoaded q := rfl
  have hseq : (s.hotOk q w).seq q = s.seq q := rfl
  unfold State.seqStart
  simp only [hload, hseq, Bool.not_eq_true]
  split
  · rfl
  · rw [← hseq, State.setSeq_own]

/-- A parity error leaves wall time (R477). -/
theorem State.parityErr_wt (s : State) (r off : Nat) : (s.parityErr r off).wt = s.wt := by
  have hretest (u : State) (x : Nat) : (u.queueRetest x).wt = u.wt := by
    unfold State.queueRetest
    split <;> rfl
  have herr (u : State) : (u.sramErr r off 2).wt = u.wt := by
    unfold State.sramErr
    simp only
    split
    · exact hretest _ _
    · rfl
  rw [State.parityErr, State.sqsEvent_wt, herr, State.set_wt]

end States

/-- Settles O14: a drained entry is a run of plain writes, a completed GO write its register write, START and HALT are a put of
HOT_OK and one change of the sequencer, and a stalled fetch goes by its time. -/
theorem writesAndSequencerStates : Obligations.WritesAndSequencerStates := by
  unfold Obligations.WritesAndSequencerStates
  refine ⟨fun s q => ⟨fun i p r row hp hmask hfirst hreach hu hlen hgo hheld => ?_, fun i p hp hfirst hbusy => ?_,
    fun a v n d hrun hb hposted hidle => ?_⟩,
    fun s q v => ⟨fun hv => ?_, fun hv hrun => ?_, fun hrun again => ?_, fun since again hb => ⟨?_, ?_, ?_⟩⟩⟩
  · exact execPostedWriteDrain_plain hp hmask hfirst hreach hu hgo hheld
  · exact ⟨_, execPostedWriteDrain_holds hp hfirst hbusy, rfl⟩
  · exact ⟨_, _, execGoWriteComplete_idle hrun hb hposted hidle, rfl, rfl⟩
  · refine ⟨_, execStart_started hv, ?_⟩
    rw [State.seqStart_hotOk]
    refine ⟨s.hotOk_ctrl q v _ _ (by simp), ?_⟩
    rw [State.seq_setSeq_same]
    split <;> rfl
  · refine ⟨_, execSeqHalt_halted hv, ?_⟩
    rw [State.haltSeq, Seq.halt_at_once (c := (s.hotOk q (v ||| 2)).seq q) _ hrun]
    exact ⟨s.hotOk_ctrl q v _ _ (by simp), State.seq_setSeq_same _ _ _⟩
  · obtain ⟨u, off, rfl, hexec⟩ := execImemRetry_running hrun again
    obtain ⟨hflag, hseq⟩ := State.parityErr_spec (s.drawOff 7).2 7 off q
    refine ⟨_, hexec, hflag, ?_, ?_⟩
    · rw [State.seq_setSeq_same, hseq, State.parityErr_wt]
      rfl
    · rw [State.seq_setSeq_same]
      rfl
  · exact State.refetch_early hb
  · rintro h rfl
    rw [State.refetch_good hb h]
    exact ⟨State.flag_set _ (by simp) (by simp), State.seq_setSeq_same _ _ _⟩
  · rintro h rfl
    rw [State.refetch_bad hb h]
    obtain ⟨hflag, hseq⟩ := State.parityErr_spec (s.drawOff 7).2 7 (s.drawOff 7).1 q
    have hfault := State.seq_seqFault ((s.drawOff 7).2.parityErr 7 (s.drawOff 7).1) q .imemParity
    rw [hseq] at hfault
    refine ⟨(State.parity_seqFault _ _ _).trans hflag, ?_⟩
    rw [hfault]
    exact ⟨rfl, rfl, rfl, rfl, rfl, rfl⟩

end Sys2Proof.Machine

namespace Sys2Proof.Machine

/-! ### Writes of locked registers (O12) -/

section Locked

variable {s : State} {m : Master} {a r : Nat} {v : Word} {row : RegRow}

/-- A register that has locked bits alone keeps its word while it is locked (R515). -/
theorem RegRow.merge_locked (row : RegRow) (hits : List Fld) (old v : Word) (hrw : row.rw = 0) (hrws : row.rws = 0)
    (hw1c : row.w1c = 0) (hctr : row.ctr = []) : row.merge true hits old v = old := by
  simp only [RegRow.merge, hrw, hrws, hw1c, hctr, if_true, Nat.or_zero, List.foldl_nil, BitVec.and_zero, BitVec.zero_and,
    word_and_not_zero, BitVec.or_zero]

/-- The state in which a locked write has left its register as it was, before its flag is set. -/
def State.leftLocked (s : State) (row : RegRow) (r : Nat) : State := (s.keptFor row r).wr r (s.rd r)

/-- Such a state differs from `s` in what the latch keeps at most. -/
theorem State.leftLocked_spec (s : State) (row : RegRow) (r : Nat) :
    s.leftLocked row r = { s with regs := (s.leftLocked row r).regs,
                                  frame := { s.frame with keep := (s.leftLocked row r).frame.keep } } ∧
      ∀ x, (s.leftLocked row r).rd x = s.rd x := by
  refine ⟨?_, fun x => ?_⟩
  · unfold State.leftLocked
    rw [s.keptFor_eq]
    rfl
  · by_cases h : x = r
    · rw [State.leftLocked, h, State.rd_wr_same]
    · rw [State.leftLocked, State.rd_wr_other _ _ h, State.rd_keptFor]

/-- A plain write of a locked register keeps it and sets a STALE_WRITE flag (R515). -/
theorem State.writePlain_locked (hrow : regRow r = some row) (hrw : row.rw = 0) (hrws : row.rws = 0) (hw1c : row.w1c = 0)
    (hctr : row.ctr = []) (hrwl : row.rwl ≠ 0) (hl : s.locked m row.lock r = true) :
    s.writePlain m r v = (s.leftLocked row r).stale r := by
  have hlock : (row.rwl != 0 && s.locked m row.lock r) = true := by simp [hrwl, hl]
  have hkept : (if row.rws != 0 || Machine.latchSampled r then s.keepShadow r else s) = s.keptFor row r := rfl
  simp only [State.writePlain, hrow, hlock, hkept, row.merge_locked _ _ _ hrw hrws hw1c hctr, State.rd_keptFor, if_true]
  rfl

/-- A write of a locked register is that, noted. -/
theorem State.writeIdle_locked (hr : s.reach m a true = .regs [r]) (hrow : regRow r = some row) (hp : writeTo r = .plain)
    (h1 : r ≠ A.PWR_CTRL) (h2 : r ≠ A.PWR_PNL) (hrw : row.rw = 0) (hrws : row.rws = 0) (hw1c : row.w1c = 0)
    (hctr : row.ctr = []) (hrwl : row.rwl ≠ 0) (hu : Unopposed m a r s) (hl : s.locked m row.lock r = true) :
    ∃ b, s.writeIdle m a v = ((s.leftLocked row r).stale r).noteWrites [b] := by
  obtain ⟨b, hb⟩ := State.writeAt_unopposed (v := v) hr hu
  exact ⟨b, by rw [State.writeIdle_of_plain hr hp, hb, s.writeReg_of_plain m v hp h1 h2,
    State.writePlain_locked hrow hrw hrws hw1c hctr hrwl hl]⟩

/-- A locked write whose flag is a plain bit changes the flag's register alone. -/
theorem State.set_leftLocked_written (s : State) (row : RegRow) (r : Nat) {f : Fld} (b : BusAccess) (hf : f.lo + f.w ≤ 32)
    (hw : 0 < f.w) : let t := ((s.leftLocked row r).set f).noteWrites [b]
    Written [f.addr] s t ∧ t.flag f = true := by
  obtain ⟨hframe, hrd⟩ := s.leftLocked_spec row r
  refine ⟨⟨?_, ?_, fun x hx => ?_⟩, State.flag_set _ hf hw⟩
  · rw [hframe]
    rfl
  · rw [State.noteWrites_before, State.set_before, hframe]
  · rw [State.rd_noteWrites, State.set, State.rd_noteHit, State.rd_put_other _ _ (by simpa using hx), hrd]

/-- A scan timing register's flag (R515). -/
theorem State.stale_timing (s : State) (h1 : 0xa0000 ≤ r) (h2 : r < 0xa1000) :
    s.stale r = s.set F.SCAN_TMG_FLAGS_STALE_WRITE := by
  unfold State.stale
  rw [if_neg (by omega), if_neg (by omega), if_neg (by omega), if_neg (by omega), if_pos ⟨h1, h2⟩]

/-- A neighbour register's flag (R515). -/
theorem State.stale_nbr (s : State) (h1 : 0xc0200 ≤ r) (h2 : r < 0xc1000) :
    s.stale r = s.set (F.NBR_FLAGS_STALE_WRITE (nbrAt r)) := by
  unfold State.stale
  rw [if_neg (by omega), if_neg (by omega), if_neg (by omega), if_neg (by omega), if_neg (by omega), if_neg (by omega),
    if_pos ⟨h1, h2⟩]

/-- What the table of registers says of the rate of a neighbour port (R515). -/
theorem nbrRate_row (q : Fin 4) : (regRow (A.NBR_RATE q)).map (·.lock) = some .nbr ∧ nbrAt (A.NBR_RATE q) = q ∧
    0xc0200 ≤ A.NBR_RATE q ∧ A.NBR_RATE q < 0xc1000 := by
  revert q; decide +kernel

/-- A target register of timed-event slot `e` (R57). -/
def isTarget (e : Fin 32) (r : Nat) : Prop :=
  r = A.WT_EVT_SEC_HI e ∨ r = A.WT_EVT_SEC_LO e ∨ r = A.WT_EVT_NS e ∨ r = A.WT_EVT_FRAC e

/-- What the table of registers says of it (R515). -/
theorem target_rows : ∀ e : Fin 32, ∀ r ∈ [A.WT_EVT_SEC_HI e, A.WT_EVT_SEC_LO e, A.WT_EVT_NS e, A.WT_EVT_FRAC e],
    (regRow r).map (·.lock) = some .armed ∧ latchSampled r = false ∧ (r - 0x11000) / 0x20 = e.val ∧
      0x10000 ≤ r ∧ r < 0x13000 := by decide +kernel

theorem isTarget.spec {e : Fin 32} (h : isTarget e r) : (regRow r).map (·.lock) = some .armed ∧ latchSampled r = false ∧
    (r - 0x11000) / 0x20 = e.val ∧ 0x10000 ≤ r ∧ r < 0x13000 := target_rows e r (by simpa [isTarget] using h)

/-- A locked write of a target register (R83, R515). -/
theorem State.wtFlag_leftLocked (s : State) (row : RegRow) (r : Nat) (b : BusAccess)
    (hkeep : (s.keptFor row r) = s) : let t := ((s.leftLocked row r).wtFlag F.WT_FLAGS_STALE_WRITE).noteWrites [b]
    t = { s with regs := t.regs, seqs := t.seqs, bus := t.bus } ∧ RegsKept [A.WT_FLAGS, A.SEQ_EVQ_STATUS 4] s t ∧
      t.flag F.WT_FLAGS_STALE_WRITE = true ∧ (s.flag F.WT_FLAGS_STALE_WRITE = false → Told 4 0x20 5 false 0 s t) ∧
      (s.flag F.WT_FLAGS_STALE_WRITE = true → Written [] s t) := by
  obtain ⟨hframe, hrd⟩ := s.leftLocked_spec row r
  have hleft : s.leftLocked row r = s.wr r (s.rd r) := by rw [State.leftLocked, hkeep]
  have hflag : (s.leftLocked row r).flag F.WT_FLAGS_STALE_WRITE = s.flag F.WT_FLAGS_STALE_WRITE := by
    simp only [State.flag, State.get, hrd]
  obtain ⟨htells, hbefore, -⟩ := (s.leftLocked row r).wtFlag_tells F.WT_FLAGS_STALE_WRITE
  refine ⟨?_, fun x hx => ?_, State.flag_wtFlag _ rfl (by simp) (by simp), fun h => ?_, fun h => ?_⟩
  · rw [htells, hleft]
    rfl
  · rw [State.rd_noteWrites, State.wtFlag_regsKept _ rfl x hx, hrd]
  · have hevent : (s.leftLocked row r).wtFlag F.WT_FLAGS_STALE_WRITE =
        ((s.leftLocked row r).set F.WT_FLAGS_STALE_WRITE).sqsEvent 0x20 5 0 := if_neg (by rw [hflag, h]; simp)
    rw [hevent]
    refine Told.of_same (u := (s.leftLocked row r).set F.WT_FLAGS_STALE_WRITE) (State.sqsEvent_told _ _ _ _) ?_ ?_ ?_
    · rw [hleft]; rfl
    · rw [hleft]; rfl
    · rw [State.set, State.rd_noteHit, State.rd_put_other _ _ (by decide), hrd]
  · have hnote : (s.leftLocked row r).wtFlag F.WT_FLAGS_STALE_WRITE =
        (s.leftLocked row r).noteHit F.WT_FLAGS_STALE_WRITE := if_pos (by rw [hflag, h])
    rw [hnote]
    refine ⟨?_, ?_, fun x _ => hrd x⟩
    · rw [hleft]; rfl
    · rw [State.noteWrites_before, State.noteHit_before, hframe]

/-- A locked write, of which it is left to say what its flag changes. -/
theorem execRegisterWrite_locked {a : BitVec 26} (hr : s.reach m a.toNat true = .regs [r]) (hrow : regRow r = some row)
    (hp : writeTo r = .plain) (hbelow : r < 0x130000) (hrw : row.rw = 0) (hrws : row.rws = 0) (hw1c : row.w1c = 0)
    (hctr : row.ctr = []) (hrwl : row.rwl ≠ 0) (hu : Unopposed m a.toNat r s) (hl : s.locked m row.lock r = true)
    {P : State → Prop} (h : ∀ b, P (((s.leftLocked row r).stale r).noteWrites [b])) :
    ∃ t, exec (.registerWrite m a v) s = .next t ∧ P t := by
  have hpwr : A.PWR_CTRL = 0x130000 ∧ A.PWR_PNL = 0x130020 := by decide
  obtain ⟨b, hb⟩ := State.writeIdle_locked (v := v) hr hrow hp (by omega) (by omega) hrw hrws hw1c hctr hrwl hu hl
  exact ⟨_, rfl, hb ▸ h b⟩

theorem State.locked_of_holds (m : Master) {l : LockClass} (h : s.lockHolds l r = true) : s.locked m l r = true := by
  simp only [State.locked, h, Bool.true_or]

/-- Scanning holds the timing registers, and so it does for a master's first write after it (R516). -/
theorem State.locked_timing (h : s.anyScans = true ∨ s.wroteBefore m = false ∧ s.atCycleStart.anyScans = true) :
    s.locked m .timing r = true := by
  rcases h with h | ⟨hb, h⟩
  · exact State.locked_of_holds m h
  · have hstart : s.atCycleStart.lockHolds .timing r = true := h
    simp only [State.locked, hb, hstart, Bool.not_false, Bool.and_self, Bool.or_true]

/-- A stage from 1 to 6 holds the rate (R71). -/
theorem State.locked_nbr {q : Fin 4} (m : Master) (hq : nbrAt r = q) (h0 : s.get (F.NBR_STATUS_STAGE q) ≠ 0)
    (h7 : s.get (F.NBR_STATUS_STAGE q) ≠ 7) : s.locked m .nbr r = true := by
  refine State.locked_of_holds m ?_
  simp [State.lockHolds, State.nbrStage, hq, h0, h7]

end Locked

/-! ### Writes through Whistle (O12) -/

section Whistle

variable {s : State} {m : Master} {v : Word}

/-- The register at offset `off` of each quadrant that `mask` selects (R70). -/
def selectedRegs (mask off : Nat) : List Nat := (allQuads.filter fun n => bit mask n.val).map fun n => quadBase n + off

theorem nodup_selectedRegs (mask off : Nat) : (selectedRegs mask off).Nodup := by
  refine List.Nodup.map (fun x y (e : quadBase x + off = quadBase y + off) => ?_) (List.Nodup.filter _ (by decide))
  simp only [quadBase] at e
  exact Fin.ext (by omega)

theorem mem_selectedRegs {mask off r : Nat} :
    r ∈ selectedRegs mask off ↔ ∃ n : QuadId, mask.testBit n.val = true ∧ r = quadBase n + off := by
  have hall (n : QuadId) : n ∈ allQuads := by revert n; decide
  have hbit (n : QuadId) : bit mask n.val = mask.testBit n.val := Nat.testBit_eq_decide_div_mod_eq.symm
  simp only [selectedRegs, List.mem_map, List.mem_filter, hall, true_and, hbit]
  exact exists_congr fun n => and_congr_right fun _ => eq_comm

/-- What SQS or the host reaches through Whistle at the offset of a quadrant register (R70). -/
theorem State.reach_whistle (hheld : s.held = false) (hm : m = .sqs ∨ m = .host) (off : BitVec 22)
    (hoff : off.toNat % 4 = 0) (hblock : (blockIn quadBlocks off.toNat).isSome = true) :
    s.reach m (0x2000000 + off.toNat) true = .regs (selectedRegs (s.whistleMask m) off.toNat) := by
  have ha : (0x2000000 + off.toNat) % 0x4000000 / 4 * 4 = 0x2000000 + off.toNat := by have := off.isLt; omega
  have hwin : 0x2000000 ≤ 0x2000000 + off.toNat ∧ 0x2000000 + off.toNat < 0x2400000 := by have := off.isLt; omega
  have hsub : 0x2000000 + off.toNat - 0x2000000 = off.toNat := by omega
  obtain ⟨b, hb⟩ := Option.isSome_iff_exists.mp hblock
  have hx : reachWith (s.whistleMask m) m (0x2000000 + off.toNat) true = .regs (selectedRegs (s.whistleMask m) off.toNat) := by
    unfold reachWith
    simp only [ha]
    rw [if_pos hwin]
    have hl (l : List Nat) : (match l, some b with | x :: _, none => Access.unmapped x | l, _ => .regs l) = .regs l := by
      cases l <;> rfl
    rcases hm with rfl | rfl
    all_goals
      simp only [hsub, hb]
      exact hl _
  have hscope : s.boardScope m true = true := by rcases hm with rfl | rfl <;> rfl
  simp only [State.reach, hx, hscope, hheld, Bool.not_false, Bool.and_self, if_true]

/-- A Whistle write at the offset of a plain register of every quadrant (R70, R71). -/
theorem execWhistleWrite_plain {row : QuadId → RegRow} (hheld : s.held = false) (hm : m = .sqs ∨ m = .host)
    (off : BitVec 22) (hoff : off.toNat % 4 = 0) (hblock : (blockIn quadBlocks off.toNat).isSome = true)
    (hp : ∀ n, PlainReg (quadBase n + off.toNat) (row n) ∧ Unopposed m (0x2000000 + off.toNat) (quadBase n + off.toNat) s) :
    ∃ t, exec (.whistleWrite m off v) s = .next t ∧ Written (selectedRegs (s.whistleMask m) off.toNat) s t ∧
      (∀ n : QuadId, quadBase n + off.toNat ∈ selectedRegs (s.whistleMask m) off.toNat →
        t.rd (quadBase n + off.toNat) = written (row n) (s.rd (quadBase n + off.toNat)) v) ∧
      (selectedRegs (s.whistleMask m) off.toNat = [] → t = s) := by
  have hreach := State.reach_whistle hheld hm off hoff hblock
  have hmem : ∀ r ∈ selectedRegs (s.whistleMask m) off.toNat, ∃ n : QuadId, r = quadBase n + off.toNat :=
    fun r hr => (mem_selectedRegs.mp hr).imp fun _ h => h.2
  have hd := nodup_selectedRegs (s.whistleMask m) off.toNat
  generalize selectedRegs (s.whistleMask m) off.toNat = l at hreach hmem hd ⊢
  have hrow (n : QuadId) : (regRow (quadBase n + off.toNat)).getD (row 0) = row n := by rw [(hp n).1.1]; rfl
  have hplain : ∀ r ∈ l, PlainReg r ((regRow r).getD (row 0)) ∧ Unopposed m (0x2000000 + off.toNat) r s := by
    intro r hr
    obtain ⟨n, rfl⟩ := hmem r hr
    exact hrow n ▸ hp n
  have hidle : s.goBusy m (0x2000000 + off.toNat) = false := by
    simp only [State.goBusy, hreach, List.any_eq_false]
    intro r hr
    obtain ⟨-, hwrite, -⟩ := (hplain r hr).1
    simp [s.engineBusy_of_not_go (isGo_of_plain hwrite)]
  obtain ⟨hw, hv, hnil⟩ := State.writeAt_plains (v := v) hreach hplain hd
  have hexec : exec (.whistleWrite m off v) s = .next (s.writeAt m (0x2000000 + off.toNat) v) := by
    change execWhistleWrite m off v s = _
    simp [execWhistleWrite, State.writeIdle, hidle]
  exact ⟨_, hexec, hw, fun n hn => (hv _ hn).trans (by rw [hrow]), hnil⟩

end Whistle

/-- Settles O12: a locked write keeps its register and sets the flag of its block, and a Whistle write is a run of plain
writes, one for each quadrant selected. -/
theorem lockedAndWhistleWrites : Obligations.LockedAndWhistleWrites := by
  unfold Obligations.LockedAndWhistleWrites
  refine ⟨fun s m a v r row hr hrow hp hrw hrws hw1c hctr hrwl hu => ⟨fun hlock hlo hhi hscan => ?_, fun q hq h0 h7 => ?_,
    fun e he harm => ?_⟩, ?_⟩
  · refine execRegisterWrite_locked hr hrow hp (by omega) hrw hrws hw1c hctr hrwl hu
      (hlock ▸ State.locked_timing hscan) fun b => ?_
    rw [State.stale_timing _ hlo hhi]
    exact s.set_leftLocked_written row r b (by decide) (by decide)
  · obtain ⟨hlock, hat, hlo, hhi⟩ := nbrRate_row q
    rw [← hq, hrow] at hlock
    rw [← hq] at hat hlo hhi
    simp only [Option.map_some, Option.some.injEq] at hlock
    refine execRegisterWrite_locked hr hrow hp (by omega) hrw hrws hw1c hctr hrwl hu
      (hlock ▸ State.locked_nbr m hat h0 h7) fun b => ?_
    rw [State.stale_nbr _ hlo hhi, hat]
    exact s.set_leftLocked_written row r b (by simp) (by simp)
  · obtain ⟨hlock, hlatch, hslot, hlo, hhi⟩ := isTarget.spec he
    rw [hrow] at hlock
    simp only [Option.map_some, Option.some.injEq] at hlock
    have hholds : s.lockHolds .armed r = true := by simpa only [State.lockHolds, hslot] using harm
    refine execRegisterWrite_locked hr hrow hp (by omega) hrw hrws hw1c hctr hrwl hu
      (hlock ▸ State.locked_of_holds m hholds) fun b => ?_
    have hstale (u : State) : u.stale r = u.wtFlag F.WT_FLAGS_STALE_WRITE := if_pos ⟨hlo, hhi⟩
    rw [hstale]
    exact s.wtFlag_leftLocked row r b (by simp [State.keptFor, hrws, hlatch])
  · intro s m off v row at_ mask hheld hm hoff hblock hplain
    obtain ⟨t, hexec, ⟨hframe, hbefore, hkept⟩, hv, hnil⟩ := execWhistleWrite_plain (v := v) hheld hm off hoff hblock hplain
    have hmask : s.whistleMask m = mask := rfl
    have hother (x : Nat) (hx : x ∉ (List.finRange 4).map at_) : x ∉ selectedRegs mask off.toNat := by
      rintro h
      obtain ⟨n, -, rfl⟩ := mem_selectedRegs.mp h
      exact hx (List.mem_map_of_mem (List.mem_finRange n))
    have hsel (n : QuadId) : at_ n ∈ selectedRegs mask off.toNat ↔ mask.testBit n.val = true := by
      refine mem_selectedRegs.trans ⟨?_, fun h => ⟨n, h, rfl⟩⟩
      rintro ⟨k, hk, e⟩
      have : n = k := Fin.ext (by simp only [at_, quadBase] at e; omega)
      exact this ▸ hk
    refine ⟨t, hexec, ⟨hframe, hbefore, fun x hx => hkept x (hother x hx)⟩, fun h => hnil ?_, fun n => ?_⟩
    · rw [hmask, h]
      rfl
    · split
      case isTrue h => exact hv n ((hsel n).mpr h)
      case isFalse h => exact hkept _ (mt (hsel n).mp h)

end Sys2Proof.Machine

namespace Sys2Proof.Machine

/-! ### COMMIT (O16) -/

section Commit

variable {s t u : State} {n m : QuadId}

/-- What a COMMIT of quadrant `n` can change: of the registers its own two and the status of its sequencer's queue, its
composition unit, that queue, and the next free value (R112, R221). -/
structure CommitStep (n : QuadId) (s t : State) : Prop where
  frame : t = { s with regs := t.regs, bus := t.bus, cmp := t.cmp, seqs := t.seqs, free := t.free }
  cm    : ∀ m, m ≠ n → t.cm m = s.cm m
  kept  : RegsKept [A.CMP_STATUS n, A.CMP_COMMIT_FRAME n, A.SEQ_EVQ_STATUS (sqOf n)] s t
  queue : ∀ r, r ≠ sqOf n → t.seq r = s.seq r
  seq   : ∀ r, t.seq r = { s.seq r with queue := (t.seq r).queue, lost := (t.seq r).lost }

theorem CommitStep.refl (n : QuadId) (s : State) : CommitStep n s s :=
  ⟨rfl, fun _ _ => rfl, fun _ _ => rfl, fun _ _ => rfl, fun _ => rfl⟩

theorem CommitStep.trans (h : CommitStep n s t) (h' : CommitStep n t u) : CommitStep n s u := by
  refine ⟨?_, fun m hm => (h'.cm m hm).trans (h.cm m hm), fun a ha => (h'.kept a ha).trans (h.kept a ha),
    fun r hr => (h'.queue r hr).trans (h.queue r hr), fun r => ?_⟩
  · have e := h'.frame
    rw [h.frame] at e
    exact e
  · have e := h'.seq r
    rw [h.seq r] at e
    exact e

theorem State.commitStep_setCm (s : State) (n : QuadId) (x : CmpUnit) : CommitStep n s (s.setCm n x) :=
  ⟨rfl, fun _ hm => s.cm_setCm_other _ hm, fun _ _ => rfl, fun _ _ => rfl, fun _ => rfl⟩

theorem State.commitStep_wr (s : State) (n : QuadId) {a : Nat} (v : Word)
    (ha : a ∈ [A.CMP_STATUS n, A.CMP_COMMIT_FRAME n]) : CommitStep n s (s.wr a v) := by
  refine ⟨rfl, fun _ _ => rfl, fun b hb => State.rd_wr_other _ _ ?_, fun _ _ => rfl, fun _ => rfl⟩
  rintro rfl
  exact hb (List.mem_append_left [A.SEQ_EVQ_STATUS (sqOf n)] ha)

theorem State.commitStep_set (s : State) (n : QuadId) {f : Fld} (hf : f.addr = A.CMP_STATUS n) : CommitStep n s (s.set f) :=
  (s.commitStep_wr n _ (a := f.addr) (by simp [hf])).trans ⟨rfl, fun _ _ => rfl, fun _ _ => rfl, fun _ _ => rfl, fun _ => rfl⟩

theorem State.commitStep_quadEvent (s : State) (n : QuadId) (x y d : Nat) : CommitStep n s (s.quadEvent n x y d) := by
  refine ⟨?_, fun m _ => ?_, fun a ha => State.rd_event s ?_, fun r hr => State.seq_event_other s hr,
    fun r => s.seq_event _ r _ _ _ _⟩
  · rw [State.quadEvent, s.event_eq]
  · unfold State.cm
    rw [State.quadEvent_cmp]
  · exact fun e => ha (by simp [e])

theorem State.commitStep_draw (s : State) (n : QuadId) (w : Nat) : CommitStep n s (s.draw w).2 :=
  ⟨rfl, fun _ _ => rfl, fun _ _ => rfl, fun _ _ => rfl, fun _ => rfl⟩

/-- The frame that a COMMIT names: the next, or the one after it where the latch instant of the next has come (R221). -/
def State.commitFrame (s : State) : Int :=
  if s.reached (s.latchAt (s.frameNow + 1)) then s.frameNow + 2 else s.frameNow + 1

/-- A COMMIT of quadrant `n` stands that was in time for the latch (R21). -/
def State.commitInTime (s : State) (n : QuadId) : Bool := s.flag (F.CMP_STATUS_PENDING n) && !(s.cm n).lateOnly

/-- The state in which a COMMIT has set PENDING, before it names its frame. -/
def State.commitMarked (s : State) (n : QuadId) : State :=
  (s.setCm n { s.cm n with late := s.latchDue.isSome, lateOnly := s.latchDue.isSome && !s.commitInTime n }).set
    (F.CMP_STATUS_PENDING n)

theorem State.commitStep_marked (s : State) (n : QuadId) : CommitStep n s (s.commitMarked n) :=
  (s.commitStep_setCm n _).trans (State.commitStep_set _ n rfl)

/-- The registers of a COMMIT, of a queue's status and of the cadence lie apart. -/
theorem commit_regs_apart : ∀ n m : QuadId,
    (m ≠ n → ∀ a ∈ [A.CMP_STATUS m, A.CMP_COMMIT_FRAME m], a ∉ [A.CMP_STATUS n, A.CMP_COMMIT_FRAME n]) ∧
    (∀ a ∈ [A.CMP_STATUS m, A.CMP_COMMIT_FRAME m], a ≠ A.SEQ_EVQ_STATUS (sqOf n)) ∧
    (∀ r, cadenceReg r ∉ [A.CMP_STATUS n, A.CMP_COMMIT_FRAME n, A.SEQ_EVQ_STATUS (sqOf n)]) ∧
    A.CMP_COMMIT_FRAME m ≠ A.CMP_STATUS n := by decide

theorem CommitStep.cadence (h : CommitStep n s t) (r : Fin 5) : t.rd (cadenceReg r) = s.rd (cadenceReg r) :=
  h.kept _ ((commit_regs_apart n n).2.2.1 r)

theorem CommitStep.wt (h : CommitStep n s t) : t.wt = s.wt := by rw [h.frame]

theorem CommitStep.latches (h : CommitStep n s t) : t.frame = s.frame := by rw [h.frame]

/-- The state in which it has named its frame too, where none that was in time for the latch stands (R21, R221). -/
def State.commitNamed (s : State) (n : QuadId) : State :=
  if (s.latchDue.isSome && s.commitInTime n) = true then s.commitMarked n
  else (s.commitMarked n).wr (A.CMP_COMMIT_FRAME n) (BitVec.ofInt 32 s.commitFrame)

theorem State.commitStep_named (s : State) (n : QuadId) : CommitStep n s (s.commitNamed n) := by
  unfold State.commitNamed
  split
  · exact s.commitStep_marked n
  · exact (s.commitStep_marked n).trans (State.commitStep_wr _ n _ (by simp))

section FrameSame

variable (hr : ∀ r, t.rd (cadenceReg r) = s.rd (cadenceReg r)) (hw : t.wt = s.wt)

include hr hw

theorem State.nextLatch_congr :
    t.reached (t.latchAt (t.frameNow + 1)) = s.reached (s.latchAt (s.frameNow + 1)) := by
  rw [State.frameNow_congr hr (by rw [hw]), State.latchAt_congr hr]
  unfold State.reached State.wall16
  rw [hw]

theorem State.commitFrame_congr : t.commitFrame = s.commitFrame := by
  rw [State.commitFrame, State.nextLatch_congr hr hw, State.frameNow_congr hr (by rw [hw])]
  rfl

end FrameSame

/-- With a valid cadence a COMMIT names its frame, and tells where it is late (R221). -/
theorem State.commitServe_valid (hc : s.cadenceOk = true) : s.commitServe n =
    if s.reached (s.latchAt (s.frameNow + 1)) = true then
      ((s.commitNamed n).set (F.CMP_STATUS_LATE_COMMIT n)).quadEvent n 0x31 n (unsigned 32 s.commitFrame)
    else s.commitNamed n := by
  have hx := s.commitStep_marked n
  have hok : (s.commitMarked n).cadenceOk = true := (State.cadenceOk_congr hx.cadence).trans hc
  have hserve : s.commitServe n = _ := if_pos hok
  unfold State.commitNamed
  simp only [← State.nextLatch_congr hx.cadence hx.wt, ← State.commitFrame_congr hx.cadence hx.wt]
  exact hserve

theorem State.commitServe_invalid (hc : s.cadenceOk = false) : s.commitServe n =
    ((s.commitMarked n).draw 32).2.wr (A.CMP_COMMIT_FRAME n) (BitVec.ofNat 32 ((s.commitMarked n).draw 32).1) := by
  have hok : (s.commitMarked n).cadenceOk = s.cadenceOk := State.cadenceOk_congr (s.commitStep_marked n).cadence
  have h : ¬ (s.commitMarked n).cadenceOk = true := by simp [hok, hc]
  exact if_neg h

theorem State.commitStep_serve (s : State) (n : QuadId) : CommitStep n s (s.commitServe n) := by
  cases hc : s.cadenceOk with
  | false =>
    rw [State.commitServe_invalid hc]
    exact ((s.commitStep_marked n).trans (State.commitStep_draw _ n 32)).trans (State.commitStep_wr _ n _ (by simp))
  | true =>
    rw [State.commitServe_valid hc]
    split
    · exact ((s.commitStep_named n).trans (State.commitStep_set _ n rfl)).trans (State.commitStep_quadEvent _ n _ _ _)
    · exact s.commitStep_named n

theorem State.commitStep_quad (s : State) (n : QuadId) : CommitStep n s (s.commitQuad n) := by
  unfold State.commitQuad
  split
  · exact .refl n s
  · exact (s.commitStep_setCm n _).trans (State.commitStep_serve _ n)

theorem State.rd_quadEvent (s : State) (n : QuadId) (x y d : Nat) {a : Nat} (ha : a ∈ [A.CMP_STATUS n, A.CMP_COMMIT_FRAME n]) :
    (s.quadEvent n x y d).rd a = s.rd a :=
  State.rd_event s ((commit_regs_apart n n).2.1 a ha)

theorem State.rd_late (s : State) (n : QuadId) (x y d : Nat) :
    ((s.set (F.CMP_STATUS_LATE_COMMIT n)).quadEvent n x y d).rd (A.CMP_COMMIT_FRAME n) = s.rd (A.CMP_COMMIT_FRAME n) :=
  (State.rd_quadEvent _ n x y d (by simp)).trans (State.rd_put_other _ _ (commit_regs_apart n n).2.2.2)

/-- After a COMMIT PENDING is set (R220). -/
theorem State.commitServe_pending (s : State) (n : QuadId) : (s.commitServe n).flag (F.CMP_STATUS_PENDING n) = true := by
  have hmarked : (s.commitMarked n).flag (F.CMP_STATUS_PENDING n) = true := State.flag_set _ (by simp) (by simp)
  have hwr (u : State) (v : Word) : (u.wr (A.CMP_COMMIT_FRAME n) v).flag (F.CMP_STATUS_PENDING n) =
      u.flag (F.CMP_STATUS_PENDING n) := by
    simp only [State.flag, State.get, u.rd_wr_other v (commit_regs_apart n n).2.2.2.symm]
  have hlate (u : State) (x y d : Nat) : ((u.set (F.CMP_STATUS_LATE_COMMIT n)).quadEvent n x y d).flag (F.CMP_STATUS_PENDING n) =
      u.flag (F.CMP_STATUS_PENDING n) := by
    have hset : (u.set (F.CMP_STATUS_LATE_COMMIT n)).get (F.CMP_STATUS_PENDING n) = u.get (F.CMP_STATUS_PENDING n) :=
      u.get_put_field 1 (by simp) (by simp)
    simp only [State.flag, ← hset]
    simp only [State.get, State.rd_quadEvent _ n x y d (a := A.CMP_STATUS n) (by simp)]
  cases hc : s.cadenceOk with
  | false =>
    rw [State.commitServe_invalid hc, hwr]
    exact hmarked
  | true =>
    have hnamed : (s.commitNamed n).flag (F.CMP_STATUS_PENDING n) = true := by
      unfold State.commitNamed
      split
      · exact hmarked
      · rw [hwr, hmarked]
    rw [State.commitServe_valid hc]
    split
    · rw [hlate, hnamed]
    · exact hnamed

/-- A COMMIT while a latch is due leaves one that was in time for it (R21). -/
theorem State.commitServe_inTime (hc : s.cadenceOk = true) (hd : s.latchDue ≠ none) (hin : s.commitInTime n = true) :
    (s.commitServe n).rd (A.CMP_COMMIT_FRAME n) = s.rd (A.CMP_COMMIT_FRAME n) ∧ ((s.commitServe n).cm n).lateOnly = false := by
  have hdue : s.latchDue.isSome = true := Option.isSome_iff_ne_none.mpr hd
  have hmarked : (s.commitMarked n).rd (A.CMP_COMMIT_FRAME n) = s.rd (A.CMP_COMMIT_FRAME n) :=
    State.rd_put_other _ _ (commit_regs_apart n n).2.2.2
  have hcm : ((s.commitMarked n).cm n).lateOnly = false := by
    have := s.cm_setCm_same (n := n) { s.cm n with late := s.latchDue.isSome, lateOnly := s.latchDue.isSome && !s.commitInTime n }
    have hset : (s.commitMarked n).cm n = _ := this
    rw [hset]
    simp [hin]
  have hnamed : s.commitNamed n = s.commitMarked n := if_pos (by rw [hdue, hin]; rfl)
  rw [State.commitServe_valid hc, hnamed]
  split
  · refine ⟨(State.rd_late _ n _ _ _).trans hmarked, ?_⟩
    unfold State.cm at hcm ⊢
    rw [State.quadEvent_cmp]
    exact hcm
  · exact ⟨hmarked, hcm⟩

/-- With no latch due a COMMIT names its frame (R221). -/
theorem State.commitServe_frame (hc : s.cadenceOk = true) (hd : s.latchDue = none) :
    (s.commitServe n).rd (A.CMP_COMMIT_FRAME n) = BitVec.ofInt 32 s.commitFrame := by
  have hnamed : (s.commitNamed n).rd (A.CMP_COMMIT_FRAME n) = BitVec.ofInt 32 s.commitFrame := by
    unfold State.commitNamed
    rw [if_neg (by simp [hd]), State.rd_wr_same]
  rw [State.commitServe_valid hc]
  split
  · exact (State.rd_late _ n _ _ _).trans hnamed
  · exact hnamed

/-- A COMMIT at or after the latch instant is told to the quadrant's own sequencer (R221). -/
theorem State.commitServe_late (hc : s.cadenceOk = true) (hl : s.reached (s.latchAt (s.frameNow + 1)) = true) :
    (s.commitServe n).flag (F.CMP_STATUS_LATE_COMMIT n) = true ∧
      ((s.seq (sqOf n)).queue.length < 256 → ((s.commitServe n).seq (sqOf n)).queue =
        (s.seq (sqOf n)).queue ++ [s.entry 0x31 n false (unsigned 32 s.commitFrame)]) := by
  have hserve : s.commitServe n = _ := (State.commitServe_valid hc).trans (if_pos hl)
  have hu := (s.commitStep_named n).trans ((s.commitNamed n).commitStep_set n (f := F.CMP_STATUS_LATE_COMMIT n) rfl)
  have hseqs : ((s.commitNamed n).set (F.CMP_STATUS_LATE_COMMIT n)).seqs = s.seqs := by
    unfold State.commitNamed
    split <;> rfl
  have hflag : ((s.commitNamed n).set (F.CMP_STATUS_LATE_COMMIT n)).flag (F.CMP_STATUS_LATE_COMMIT n) = true :=
    State.flag_set _ (by simp) (by simp)
  rw [hserve]
  generalize (s.commitNamed n).set (F.CMP_STATUS_LATE_COMMIT n) = u at hu hseqs hflag
  refine ⟨?_, fun h => ?_⟩
  · have hrd := u.rd_quadEvent n 0x31 n (unsigned 32 s.commitFrame) (a := A.CMP_STATUS n) (by simp)
    simpa only [State.flag, State.get, hrd] using hflag
  · have hseq : u.seq (sqOf n) = s.seq (sqOf n) := by unfold State.seq; rw [hseqs]
    have hentry (x : Nat) : u.entry 0x31 n false x = s.entry 0x31 n false x := by
      unfold State.entry State.wallSec State.wallNsOfSec State.wallNs
      rw [hu.wt]
    rw [← hseq] at h ⊢
    rw [State.quadEvent, State.event, if_pos h, State.seq_setSeq_same, hentry]

/-- All that a COMMIT of quadrant `n` looks at and changes, but the next free value. -/
def commitView (n : QuadId) :=
  View.mk (fun s : State => (s.wt, s.frame, s.cm n, s.seq (sqOf n)))
    ([A.CMP_STATUS n, A.CMP_COMMIT_FRAME n] ++ (List.finRange 5).map cadenceReg |>.map whole)

/-- A COMMIT of another quadrant changes nothing of it. -/
theorem CommitStep.elsewhere (h : CommitStep m s t) (hm : m ≠ n) : (commitView n).Same s t := by
  refine ⟨?_, fun f hf => ?_⟩
  · have hq : sqOf n ≠ sqOf m := fun e => hm (Fin.ext (Fin.val_eq_of_eq e).symm)
    simp only [commitView, h.wt, h.latches, h.cm n (Ne.symm hm), h.queue _ hq]
  · obtain ⟨a, ha, rfl⟩ := List.mem_map.mp hf
    have hapart : a ∉ [A.CMP_STATUS m, A.CMP_COMMIT_FRAME m, A.SEQ_EVQ_STATUS (sqOf m)] := by
      rcases List.mem_append.mp ha with ha | ha
      · have h1 := (commit_regs_apart m n).1 (Ne.symm hm) a ha
        have h2 := (commit_regs_apart m n).2.1 a ha
        simpa [List.mem_cons, not_or, h2] using h1
      · obtain ⟨r, -, rfl⟩ := List.mem_map.mp ha
        exact (commit_regs_apart m n).2.2.1 r
    simp only [State.get, whole, h.kept a hapart]

section Same

variable (h : (commitView n).Same s t)

include h

theorem commitView_parts : t.wt = s.wt ∧ t.frame = s.frame ∧ t.cm n = s.cm n ∧ t.seq (sqOf n) = s.seq (sqOf n) := by
  simpa [commitView] using h.1

theorem commitView_rd {a : Nat} (ha : a ∈ [A.CMP_STATUS n, A.CMP_COMMIT_FRAME n]) : t.rd a = s.rd a :=
  h.rd_eq (List.mem_map_of_mem (List.mem_append_left _ ha))

theorem commitView_cadence (r : Fin 5) : t.rd (cadenceReg r) = s.rd (cadenceReg r) :=
  h.rd_eq (List.mem_map_of_mem (List.mem_append_right _ (List.mem_map_of_mem (List.mem_finRange r))))

end Same

/-- A COMMIT that selects other quadrants leaves quadrant `n`. -/
theorem commits_other {l : List QuadId} (hn : n ∉ l) : (commitView n).Same s (forAll l s State.commitQuad) :=
  forAll_same l (fun u m hm => (u.commitStep_quad m).elsewhere (ne_of_mem_of_not_mem hm hn)) s

/-- One that selects it is, for that quadrant, its own step. -/
theorem commits_own {l : List QuadId} (hd : l.Nodup) (hn : n ∈ l) : ∃ u, (commitView n).Same s u ∧
    (commitView n).Same (u.commitQuad n) (forAll l s State.commitQuad) := by
  obtain ⟨a, b, rfl⟩ := List.append_of_mem hn
  obtain ⟨-, hb, hab⟩ := List.nodup_append.mp hd
  have ha : n ∉ a := fun h => hab n h n (by simp) rfl
  rw [forAll_append, forAll_cons]
  exact ⟨_, commits_other ha, commits_other (List.nodup_cons.mp hb).1⟩

/-- The state in which a COMMIT of this core cycle serves quadrant `n` looks, of the cadence and of that quadrant, as the one
before it. -/
structure CommitLike (n : QuadId) (s x : State) : Prop where
  wt      : x.wt = s.wt
  latches : x.frame = s.frame
  cadence : ∀ r, x.rd (cadenceReg r) = s.rd (cadenceReg r)
  own     : ∀ a ∈ [A.CMP_STATUS n, A.CMP_COMMIT_FRAME n], x.rd a = s.rd a
  inTime  : x.commitInTime n = s.commitInTime n
  seq     : x.seq (sqOf n) = s.seq (sqOf n)

theorem CommitLike.latchDue {x : State} (h : CommitLike n s x) : x.latchDue = s.latchDue :=
  State.latchDue_congr h.cadence (by rw [h.wt]) (by rw [h.latches]) (by rw [h.latches])

theorem CommitLike.entry {x : State} (h : CommitLike n s x) (a b : Nat) (late : Bool) (d : Nat) :
    x.entry a b late d = s.entry a b late d := by
  unfold State.entry State.wallSec State.wallNsOfSec State.wallNs
  rw [h.wt]

theorem View.Same.commitLike (h : (commitView n).Same s u) {x : CmpUnit} (hx : x.lateOnly = (s.cm n).lateOnly) :
    CommitLike n s (u.setCm n x) := by
  obtain ⟨hwt, hframe, -, hseq⟩ := commitView_parts h
  have hrd (a : Nat) : (u.setCm n x).rd a = u.rd a := rfl
  refine ⟨hwt, hframe, fun r => ?_, fun a ha => ?_, ?_, hseq⟩
  · rw [hrd, commitView_cadence h]
  · rw [hrd, commitView_rd h ha]
  · have hown := commitView_rd h (a := A.CMP_STATUS n) (by simp)
    simp only [State.commitInTime, State.cm_setCm_same, hx, State.flag, State.get, hrd, hown]

/-- The first COMMIT of a core cycle to select a quadrant serves it (R112). -/
theorem commits_served {l : List QuadId} (hd : l.Nodup) (hn : n ∈ l) (hfirst : (s.cm n).commitIn ≠ some s.wt.cycle) :
    ∃ x, CommitLike n s x ∧ (commitView n).Same (x.commitServe n) (forAll l s State.commitQuad) := by
  obtain ⟨u, hsu, hut⟩ := commits_own (s := s) hd hn
  obtain ⟨hwt, hframe, hcm, hseq⟩ := commitView_parts hsu
  have hquad : u.commitQuad n = (u.setCm n { u.cm n with commitIn := some u.wt.cycle }).commitServe n :=
    if_neg (by rwa [hcm, hwt])
  rw [hquad] at hut
  exact ⟨_, hsu.commitLike (by rw [hcm]), hut⟩

/-- What a COMMIT does of a quadrant that it is the first of its core cycle to select (R112, R220, R221). -/
theorem commits_selected {l : List QuadId} (hd : l.Nodup) (hn : n ∈ l) (hfirst : (s.cm n).commitIn ≠ some s.wt.cycle) :
    let t := forAll l s State.commitQuad
    t.flag (F.CMP_STATUS_PENDING n) = true ∧
      (s.cadenceOk = true → s.latchDue ≠ none → s.commitInTime n = true →
        t.rd (A.CMP_COMMIT_FRAME n) = s.rd (A.CMP_COMMIT_FRAME n) ∧ (t.cm n).lateOnly = false) ∧
      (s.cadenceOk = true → s.latchDue = none → t.rd (A.CMP_COMMIT_FRAME n) = BitVec.ofInt 32 s.commitFrame) ∧
      (s.cadenceOk = true → s.reached (s.latchAt (s.frameNow + 1)) = true → t.flag (F.CMP_STATUS_LATE_COMMIT n) = true ∧
        ((s.seq (sqOf n)).queue.length < 256 → (t.seq (sqOf n)).queue =
          (s.seq (sqOf n)).queue ++ [s.entry 0x31 n false (unsigned 32 s.commitFrame)])) := by
  intro t
  obtain ⟨x, hx, hxt⟩ := commits_served hd hn hfirst
  have hok := State.cadenceOk_congr hx.cadence
  have hnamed := State.commitFrame_congr hx.cadence hx.wt
  obtain ⟨-, -, hcm, hseq⟩ := commitView_parts hxt
  have hflag {o w : Nat} : t.flag ⟨A.CMP_STATUS n, o, w⟩ = (x.commitServe n).flag ⟨A.CMP_STATUS n, o, w⟩ :=
    hxt.flag_eq (by simp [commitView])
  refine ⟨hflag.trans (x.commitServe_pending n), fun hc hdue hin => ?_, fun hc hdue => ?_, fun hc hl => ?_⟩
  · obtain ⟨hrd, hlate⟩ := State.commitServe_inTime (hok.trans hc) (by rwa [hx.latchDue]) (hx.inTime.trans hin)
    exact ⟨(commitView_rd hxt (by simp)).trans (hrd.trans (hx.own _ (by simp))), by rw [hcm, hlate]⟩
  · rw [commitView_rd hxt (by simp), State.commitServe_frame (hok.trans hc) (hx.latchDue.trans hdue), hnamed]
  · obtain ⟨hset, hqueue⟩ := State.commitServe_late (hok.trans hc) ((State.nextLatch_congr hx.cadence hx.wt).trans hl)
    rw [hx.seq, hx.entry, hnamed] at hqueue
    exact ⟨hflag.trans hset, fun hlen => by rw [hseq, hqueue hlen]⟩

/-- COMMITs of quadrants that this core cycle has served already do nothing (R112). -/
theorem commits_again {l : List QuadId} (h : ∀ n ∈ l, (s.cm n).commitIn = some s.wt.cycle) :
    forAll l s State.commitQuad = s := by
  induction l with
  | nil => rfl
  | cons n l ih =>
    have hn : s.commitQuad n = s := if_pos (h n (by simp))
    rw [forAll_cons, hn]
    exact ih fun m hm => h m (by simp [hm])

/-- COMMITs leave the PC of every sequencer. -/
theorem commits_pc (l : List QuadId) (s : State) (r : SeqId) : ((forAll l s State.commitQuad).seq r).pc = (s.seq r).pc :=
  forAll_keeps (P := fun u : State => (u.seq r).pc = (s.seq r).pc)
    (fun u m h => ((congrArg Seq.pc ((u.commitStep_quad m).seq r)).trans h)) l s rfl

/-- The registers of every quadrant that a COMMIT writes. -/
def commitRegs : List Nat := [0, 1, 2, 3].flatMap fun n => [A.CMP_STATUS n, A.CMP_COMMIT_FRAME n]

theorem commitRegs_spec : (∀ n : QuadId, A.CMP_STATUS n ∈ commitRegs ∧ A.CMP_COMMIT_FRAME n ∈ commitRegs) ∧
    ∀ r, cadenceReg r ∉ commitRegs := by decide

/-- COMMITs ahead of the latch instant have changed the registers and units of composition alone. -/
def CommitsQuiet (s t : State) : Prop :=
  t = { s with regs := t.regs, bus := t.bus, cmp := t.cmp } ∧ RegsKept commitRegs s t

theorem CommitsQuiet.trans (h : CommitsQuiet s t) (h' : CommitsQuiet t u) : CommitsQuiet s u := by
  obtain ⟨hframe, hkept⟩ := h
  obtain ⟨hframe', hkept'⟩ := h'
  refine ⟨?_, fun a ha => (hkept' a ha).trans (hkept a ha)⟩
  rw [hframe] at hframe'
  exact hframe'

theorem State.commitNamed_quiet (s : State) (n : QuadId) : CommitsQuiet s (s.commitNamed n) := by
  obtain ⟨hstatus, hframe⟩ := commitRegs_spec.1 n
  have hmarked (a : Nat) (ha : a ∉ commitRegs) : (s.commitMarked n).rd a = s.rd a :=
    State.rd_put_other _ _ (ne_of_mem_of_not_mem hstatus ha).symm
  unfold State.commitNamed
  split
  · exact ⟨rfl, hmarked⟩
  · exact ⟨rfl, fun a ha => (State.rd_wr_other _ _ (ne_of_mem_of_not_mem hframe ha).symm).trans (hmarked a ha)⟩

theorem State.commitQuad_quiet (hc : s.cadenceOk = true) (hl : s.reached (s.latchAt (s.frameNow + 1)) = false) (n : QuadId) :
    CommitsQuiet s (s.commitQuad n) := by
  unfold State.commitQuad
  split
  · exact ⟨rfl, fun _ _ => rfl⟩
  · have hlike := (View.Same.refl (commitView n) s).commitLike (x := { s.cm n with commitIn := some s.wt.cycle }) rfl
    have hx : CommitsQuiet s (s.setCm n { s.cm n with commitIn := some s.wt.cycle }) := ⟨rfl, fun _ _ => rfl⟩
    generalize s.setCm n { s.cm n with commitIn := some s.wt.cycle } = x at hlike hx
    have hahead : ¬ x.reached (x.latchAt (x.frameNow + 1)) = true := by
      simp [State.nextLatch_congr hlike.cadence hlike.wt, hl]
    rw [State.commitServe_valid ((State.cadenceOk_congr hlike.cadence).trans hc), if_neg hahead]
    exact hx.trans (x.commitNamed_quiet n)

/-- COMMITs ahead of the latch instant. -/
theorem commits_quiet (l : List QuadId) (hc : s.cadenceOk = true) (hl : s.reached (s.latchAt (s.frameNow + 1)) = false) :
    CommitsQuiet s (forAll l s State.commitQuad) := by
  refine forAll_keeps (P := CommitsQuiet s) (fun u m h => ?_) l s ⟨rfl, fun _ _ => rfl⟩
  have hcad (r : Fin 5) : u.rd (cadenceReg r) = s.rd (cadenceReg r) := h.2 _ (commitRegs_spec.2 r)
  have hwt : u.wt = s.wt := by rw [h.1]
  exact h.trans (State.commitQuad_quiet ((State.cadenceOk_congr hcad).trans hc)
    ((State.nextLatch_congr hcad hwt).trans hl) m)

end Commit

end Sys2Proof.Machine

namespace Sys2Proof.Machine

section Selected

variable {s : State} {q : SeqId} {mask : BitVec 4}

/-- The quadrants that a COMMIT in its form selects: a quadrant's sequencer its own, SQS those of MASK (R112). -/
theorem commitQuads_spec (hmask : q.val < 4 → mask = 0) : ∃ l, commitQuads q mask = some l ∧ l.Nodup ∧
    ∀ n : QuadId, n ∈ l ↔ if q.val < 4 then n.val = q.val else mask.getLsbD n.val = true := by
  unfold commitQuads
  split
  next h =>
    refine ⟨_, if_pos (hmask h), List.nodup_singleton _, fun n => ?_⟩
    rw [List.mem_singleton, Fin.ext_iff]
  next h =>
    have hall (n : QuadId) : n ∈ allQuads := by revert n; decide
    have hbit (n : QuadId) : bit mask.toNat n.val = mask.getLsbD n.val := Nat.testBit_eq_decide_div_mod_eq.symm
    refine ⟨_, rfl, List.Nodup.filter _ (by decide), fun n => ?_⟩
    simp only [List.mem_filter, hall, true_and, hbit]

/-- A COMMIT with nothing posted serves the quadrants it selects in turn. -/
theorem execCommit_serves {l : List QuadId} (hf : Fetches s q (.commit mask)) (hl : commitQuads q mask = some l)
    (hp : (s.seq q).posted = []) : exec (.commit q mask) s = .next ((forAll l s State.commitQuad).pcNext q) := by
  have hshadow : s.shadowPosted q l = false := by
    have hnone : ∀ c : Fin (s.seq q).posted.length, False := by
      rw [hp]
      exact fun c => c.elim0
    exact List.any_eq_false.mpr fun i _ => (hnone i).elim
  change execCommit q mask s = _
  rw [execCommit, State.next_issue hf]
  simp only [hl, hshadow, Bool.false_eq_true, if_false]

/-- The frame whose start is the next after wall time (R221). -/
theorem State.commitFrame_spec {k : Int} (hc : s.cadenceOk = true) (h1 : s.frameAt (k - 1) ≤ s.wall16)
    (h2 : s.wall16 < s.frameAt k) : s.reached (s.latchAt (s.frameNow + 1)) = s.reached (s.latchAt k) ∧
      s.commitFrame = if s.reached (s.latchAt k) = true then k + 1 else k := by
  have hnow : s.frameNow = k - 1 := s.frameNow_eq (k - 1) hc h1 (by rwa [Int.sub_add_cancel])
  have hnext : s.frameNow + 1 = k := by omega
  have hafter : s.frameNow + 2 = k + 1 := by omega
  rw [State.commitFrame, hnext, hafter]
  exact ⟨rfl, rfl⟩

theorem State.queue_pcNext (s : State) (q r : SeqId) : ((s.pcNext q).seq r).queue = (s.seq r).queue := by
  rw [State.pcNext, State.seq_setSeq]
  split
  next h => rw [h]; rfl
  next => rfl

/-- The PC that moves on after COMMITs ahead of the latch instant. -/
theorem CommitsQuiet.pcNext {t : State} (h : CommitsQuiet s t) (q : SeqId) : t.pcNext q =
    { s with regs := t.regs, bus := t.bus, cmp := t.cmp,
             seqs := (s.setSeq q { s.seq q with pc := (s.seq q).pc + 1 }).seqs } := by
  have hseqs : (t.pcNext q).seqs = (s.setSeq q { s.seq q with pc := (s.seq q).pc + 1 }).seqs := by
    rw [h.1]
    rfl
  rw [← hseqs, State.pcNext, h.1]
  rfl

end Selected

/-! ### EVENT (O16) -/

section Event

variable {s : State} {q : SeqId}

/-- Bytes most significant first spell their number (R6). -/
theorem beNat_beBytes (n v : Nat) : beNat (beBytes n v) = v % 256 ^ n := by
  unfold beNat beBytes
  rw [List.foldl_reverse]
  induction n generalizing v with
  | zero => simp [leBytes, Nat.mod_one]
  | succ n ih =>
    rw [leBytes, List.foldr_cons, ih, pow_succ', Nat.mod_mul, BitVec.toNat_ofNat]
    omega

/-- The bytes of an EVENT message (R113, R304). -/
def State.eventBytes (s : State) (q : SeqId) (data : Bool) (v : Word) (code : Byte) : List Byte :=
  msgHeader 0x08 0 0 0 ++ s.eventBody q data v code

theorem State.eventBytes_spec (data : Bool) (v : Word) (code : Byte) :
    let b := s.eventBytes q data v code
    let k : Int := if data = true then s.frameIndex else s.resolveFrame v
    b.length = 48 ∧
      b.take 12 = [0x08, 0, 0, 0, 0, 0, 0, 0, BitVec.ofNat 8 q.val, code, if data = true then 1 else 0, 0] ∧
      (b.drop 12).take 8 = beBytes 8 s.wallSec ∧ (b.drop 20).take 4 = beBytes 4 s.wallNsOfSec ∧
      (b.drop 24).take 4 = beBytes 4 (if data = true then v.toNat else 0) ∧ (b.drop 28).take 4 = beBytes 4 (unsigned 32 k) ∧
      (s.cadenceOk = false → (b.drop 32).take 15 = [0, 0, 0, 0, 0, 0, 0, 0, 0, 0, 0, 0, 0, 0, 1]) := by
  intro b k
  have htail : b.drop 32 = (if s.cadenceOk = true then instantBytes (s.frameAt k) else List.replicate 14 0) ++
      [BitVec.ofNat 8 (b2n (!s.cadenceOk)), 0] := rfl
  refine ⟨?_, ?_, rfl, rfl, rfl, rfl, fun hc => ?_⟩
  · have hhead : (b.take 32).length = 32 := rfl
    have hlen : (b.drop 32).length = 16 := by
      rw [htail]
      split <;> rfl
    rw [← List.take_append_drop 32 b, List.length_append, hhead, hlen]
  · cases data <;> rfl
  · rw [htail, hc]
    rfl

/-- The numbers that those bytes spell (R113). -/
theorem State.eventBytes_numbers (data : Bool) (v : Word) (code : Byte) :
    let b := s.eventBytes q data v code
    let k : Int := if data = true then s.frameIndex else s.resolveFrame v
    beNat ((b.drop 12).take 8) = s.wallNs / 1000000000 % 2 ^ 64 ∧ beNat ((b.drop 20).take 4) = s.wallNs % 1000000000 ∧
      beNat ((b.drop 24).take 4) = (if data = true then v.toNat else 0) ∧
      (beNat ((b.drop 28).take 4) : Int) = k % 2 ^ 32 := by
  obtain ⟨-, -, hsec, hns, hdata, hframe, -⟩ := s.eventBytes_spec (q := q) data v code
  simp only [hsec, hns, hdata, hframe, beNat_beBytes]
  refine ⟨rfl, Nat.mod_eq_of_lt (by unfold State.wallNsOfSec; omega), Nat.mod_eq_of_lt (by split <;> omega), ?_⟩
  unfold unsigned
  omega

/-- What an EVENT does besides the PC, by its DEST (R113). -/
def State.tellEvent (s : State) (dest : EvDest) (b : List Byte) : State :=
  match dest with
  | .host => s.queueMsg ⟨none, b, false⟩
  | .pin => s.assertEvtN
  | .both => (s.queueMsg ⟨none, b, false⟩).assertEvtN

theorem execEvent_tells {data : Bool} {dest : EvDest} {g : GReg} {code : Byte} (hf : Fetches s q (.event data dest g code)) :
    exec (.event q data dest g code) s =
      .next ((s.tellEvent dest (s.eventBytes q data ((s.seq q).gr g) code)).pcNext q) := by
  change execEvent q data dest g code s = _
  rw [execEvent, State.next_issue hf]
  rfl

theorem State.queueMsg_kept (s : State) (m : HostMsg) :
    (s.queueMsg m).seqs = s.seqs ∧ RegsKept [A.NET_MTX_DROP] s (s.queueMsg m) := by
  unfold State.queueMsg
  split
  · exact ⟨rfl, fun _ _ => rfl⟩
  · exact ⟨rfl, fun a ha => State.rd_put_other _ _ (by simpa using ha)⟩

theorem State.assertEvtN_kept (s : State) : s.assertEvtN.seqs = s.seqs ∧ s.assertEvtN.net = s.net ∧
    RegsKept [A.BRD_EVT] s s.assertEvtN :=
  ⟨rfl, rfl, fun a ha => State.rd_put_other _ _ (by simpa using ha)⟩

/-- No sequencer and no register but two changes. -/
theorem State.tellEvent_kept (s : State) (dest : EvDest) (b : List Byte) :
    (s.tellEvent dest b).seqs = s.seqs ∧ RegsKept [A.BRD_EVT, A.NET_MTX_DROP] s (s.tellEvent dest b) := by
  cases dest with
  | host => exact (s.queueMsg_kept _).imp_right fun h a ha => h a (by simp_all)
  | pin => exact ⟨rfl, fun a ha => s.assertEvtN_kept.2.2 a (by simp_all)⟩
  | both =>
    obtain ⟨hseqs, hkept⟩ := s.queueMsg_kept ⟨none, b, false⟩
    obtain ⟨hseqs', -, hkept'⟩ := (s.queueMsg ⟨none, b, false⟩).assertEvtN_kept
    exact ⟨hseqs'.trans hseqs, fun a ha => (hkept' a (by simp_all)).trans (hkept a (by simp_all))⟩

/-- With a pin as its DEST EVT_N is low, but in Stay (R113, R536). -/
theorem State.tellEvent_evtN {dest : EvDest} (b : List Byte) (hd : dest ≠ .host) (hstay : s.inStay = false) :
    ((s.tellEvent dest b).pcNext q).evtN = true := by
  have hlatch (u : State) : u.assertEvtN.flag F.BRD_EVT_LATCH = true := State.flag_set _ (by simp) (by simp)
  have hflag : ((s.tellEvent dest b).pcNext q).flag F.BRD_EVT_LATCH = true := by
    cases dest with
    | host => exact absurd rfl hd
    | pin => exact hlatch s
    | both => exact hlatch _
  have hstay' : ((s.tellEvent dest b).pcNext q).inStay = false := by
    change (s.tellEvent dest b).inStay = false
    rw [State.inStay, State.get, (s.tellEvent_kept dest b).2 A.PWR_STATUS (by decide)]
    exact hstay
  simp [State.evtN, hstay', hflag]

/-- With the host as its DEST one message has joined the transmit queue, where there is room (R113). -/
theorem State.tellEvent_net {dest : EvDest} (b : List Byte) (hd : dest ≠ .pin) (hroom : s.net.mtx.length < 64) :
    (s.tellEvent dest b).net = { s.net with mtx := s.net.mtx ++ [⟨none, b, false⟩] } := by
  have hq := State.queueMsg_room ⟨none, b, false⟩ hroom
  have hnet : (s.queueMsg ⟨none, b, false⟩).net = { s.net with mtx := s.net.mtx ++ [⟨none, b, false⟩] } := by rw [hq]
  cases dest with
  | host => exact hnet
  | pin => exact absurd rfl hd
  | both => exact hnet

end Event

/-- Settles O16: a COMMIT serves the quadrants it selects one after another, each of which looks at its own registers and the
cadence alone, and an EVENT changes no more than its message and its pin. -/
theorem commitAndEvent : Obligations.CommitAndEvent := by
  unfold Obligations.CommitAndEvent
  intro s q mask data dest g code c sel
  refine ⟨fun hf hmask hp hagain => ?_, fun hf hmask hp hfirst => ?_, fun hf => ?_⟩
  · obtain ⟨l, hl, -, hmem⟩ := commitQuads_spec hmask
    refine ⟨_, execCommit_serves hf hl hp, ?_⟩
    rw [commits_again fun n hn => hagain n ((hmem n).mp hn)]
    rfl
  · obtain ⟨l, hl, hd, hmem⟩ := commitQuads_spec hmask
    have hserved (n : QuadId) (hn : sel n) := commits_selected hd ((hmem n).mpr hn) (hfirst n hn)
    have hother (n : QuadId) (hn : ¬ sel n) := commits_other (s := s) (mt (hmem n).mp hn)
    have hpc := commits_pc l s q
    refine ⟨_, execCommit_serves hf hl hp, fun n hn hdue hpend hlate hc => ?_, fun k hc hdue h1 h2 hl => ?_,
      fun k hc hdue h1 h2 hl n => ?_, fun n hn => ?_, ?_⟩
    · have hin : s.commitInTime n = true := by simp [State.commitInTime, hpend, hlate]
      exact (hserved n hn).2.1 hc hdue hin
    · obtain ⟨hreached, hframe⟩ := State.commitFrame_spec hc h1 h2
      rw [hl, if_neg Bool.false_ne_true] at hframe
      have hquiet := commits_quiet l hc (hreached.trans hl)
      generalize forAll l s State.commitQuad = t at *
      refine ⟨?_, hquiet.2, fun n => ⟨fun hn => ?_, fun hn => ?_⟩⟩
      · exact hquiet.pcNext q
      · rw [← hframe]
        exact (hserved n hn).2.2.1 hc hdue
      · exact ⟨commitView_rd (hother n hn) (by simp), commitView_rd (hother n hn) (by simp)⟩
    · obtain ⟨hreached, hframe⟩ := State.commitFrame_spec hc h1 h2
      rw [hl, if_pos rfl] at hframe
      refine ⟨fun hn => ?_, fun hn => ⟨commitView_rd (hother n hn) (by simp), commitView_rd (hother n hn) (by simp)⟩⟩
      obtain ⟨-, -, hrd, hlate⟩ := hserved n hn
      obtain ⟨hflag, hqueue⟩ := hlate hc (hreached.trans hl)
      refine ⟨hframe ▸ hrd hc hdue, hflag, fun hlen => ?_⟩
      have hentry : s.entry 0x31 n false (unsigned 32 s.commitFrame) = ⟨0x31, BitVec.ofNat 8 n, false, BitVec.ofInt 32 (k + 1),
          BitVec.ofNat 32 (s.wallNs / 1000000000), BitVec.ofNat 32 (s.wallNs % 1000000000), some s.wt.cycle⟩ := by
        rw [State.entry, ofNat_unsigned, hframe]
        rfl
      exact (State.queue_pcNext _ q _).trans (hentry ▸ hqueue hlen)
    · exact (hserved n hn).1
    · rw [State.pcNext, State.seq_setSeq_same, Seq.next, hpc]
  · obtain ⟨hlen, htake, -, -, -, -, hnone⟩ := s.eventBytes_spec (q := q) data (c.gr g) code
    obtain ⟨hsec, hns, hdata, hframe⟩ := s.eventBytes_numbers (q := q) data (c.gr g) code
    obtain ⟨hseqs, hkept⟩ := s.tellEvent_kept dest (s.eventBytes q data (c.gr g) code)
    refine ⟨_, execEvent_tells hf, fun r => ?_, hkept, ?_, s.tellEvent_evtN _, fun hd hroom =>
      ⟨_, s.tellEvent_net _ hd hroom, hlen, htake, hsec, hns, hdata, hframe, hnone⟩⟩
    · have hseq (x : SeqId) : (s.tellEvent dest (s.eventBytes q data (c.gr g) code)).seq x = s.seq x := by
        unfold State.seq
        rw [hseqs]
      rw [State.pcNext, State.seq_setSeq, hseq, hseq]
      rfl
    · rintro rfl
      rfl

end Sys2Proof.Machine
